-- ==== Sys2Proof/Word.lean ====
section
/-!
DEFINITION. The word types of the part (R5) and the name of a register field: an address and two bit
positions, as the Bits column of a register table gives them.
-/

namespace Sys2Proof.Machine

/-- A register is 32 bits wide (R5). -/
abbrev Word := BitVec 32

/-- The smallest addressable unit of queue memory, ROM and the mailbox. -/
abbrev Byte := BitVec 8

/-- A field of a register: bits `hi` down to `lo` of the word at byte address `addr`. -/
structure Fld where
  addr : Nat
  hi   : Nat
  lo   : Nat
deriving DecidableEq, Repr

/-- The number of bits of a field. -/
def Fld.width (f : Fld) : Nat := f.hi - f.lo + 1

end Sys2Proof.Machine
end

