-- ==== Sys2Proof/Machine/Bits.lean ====
section
/-!
DEFINITION. Bit-field, sign-extension and arithmetic helpers with the semantics of R8: unsigned values
wrap, signed results saturate where a rule says so, and division truncates toward zero.
-/

namespace Sys2Proof.Machine

/-- Bits `hi:lo` of a word, as a number. -/
def bitsOf (w : Word) (hi lo : Nat) : Nat := (w.toNat >>> lo) % 2 ^ (hi - lo + 1)

/-- One bit of a word. -/
def bitOf (w : Word) (n : Nat) : Bool := w.getLsbD n

/-- The word `w` with bits `hi:lo` replaced by the low bits of `v`. -/
def setBits (w : Word) (hi lo v : Nat) : Word :=
  let m : Word := BitVec.ofNat 32 ((2 ^ (hi - lo + 1) - 1) <<< lo)
  (w &&& ~~~m) ||| (BitVec.ofNat 32 (v <<< lo) &&& m)

/-- 0 or 1. -/
def b2n (b : Bool) : Nat := if b then 1 else 0

/-- The `n` low bits of `v` read as two's complement. -/
def sext (n v : Nat) : Int :=
  let u := v % 2 ^ n
  if u < 2 ^ (n - 1) then (u : Int) else (u : Int) - (2 ^ n : Nat)

/-- A word read as i32. -/
def i32 (w : Word) : Int := w.toInt

/-- An integer stored as the low `n` bits of its two's complement. -/
def trunc (n : Nat) (v : Int) : Nat := (v % (2 ^ n : Nat)).toNat

/-- An integer written to a word. -/
def wordOf (v : Int) : Word := BitVec.ofInt 32 v

/-- Division that truncates toward zero (R136, R139); 0 for a divisor of 0, which no rule reaches. -/
def tdiv (a b : Int) : Int := Int.tdiv a b

/-- `muldiv(a, b, c)` of R136: the exact quotient of a × b by c, truncated toward zero. -/
def muldiv (a b c : Int) : Int := Int.tdiv (a * b) c

/-- Clamp to `lo`..`hi`. -/
def clampI (lo hi v : Int) : Int := max lo (min hi v)

/-- Saturation at the limits of an `n`-bit signed value (R8). -/
def satS (n : Nat) (v : Int) : Int := clampI (-(2 ^ (n - 1) : Nat)) ((2 ^ (n - 1) : Nat) - 1) v

/-- Saturation of a count at the largest value of an `n`-bit field. -/
def satU (n v : Nat) : Nat := min v (2 ^ n - 1)

/-- The integer square root, truncated (R193): the largest r with r² ≤ n, by bisection on `fuel` bits. -/
def isqrtAux : Nat → Nat → Nat → Nat
  | 0, _, r => r
  | k + 1, n, r =>
    let r' := r + 2 ^ k
    if r' * r' ≤ n then isqrtAux k n r' else isqrtAux k n r

/-- √n truncated toward zero. -/
def isqrt (n : Nat) : Nat := isqrtAux 96 n 0

/-- Division to the nearest integer, ties away from zero (`round_nearest` of R195). -/
def roundDiv (a : Int) (b : Nat) : Int :=
  let h : Int := ((b / 2 : Nat) : Int)
  if a ≥ 0 then Int.tdiv (a + h) b else Int.tdiv (a - h) b

/-- Two words as one 64-bit value, low word first (R5, R221). -/
def pairNat (lo hi : Word) : Nat := lo.toNat + hi.toNat * 2 ^ 32

/-- A 64-bit value read as i64. -/
def i64 (v : Nat) : Int := sext 64 v

/-- Low word of a 64-bit value. -/
def loWord (v : Int) : Word := BitVec.ofInt 32 v

/-- High word of a 64-bit value. -/
def hiWord (v : Int) : Word := BitVec.ofInt 32 (v / (2 ^ 32 : Nat))

/-- Sparse data by key in ONE canonical form: keys strictly rising, no entry equal to the default `d`
(what an unlisted key reads as). Setting a key to the default removes its entry. -/
def cellSet {β : Type} [DecidableEq β] (d : β) (k : Nat) (v : β) : List (Nat × β) → List (Nat × β)
  | [] => if v = d then [] else [(k, v)]
  | (k', v') :: l =>
    if k < k' then (if v = d then (k', v') :: l else (k, v) :: (k', v') :: l)
    else if k = k' then (if v = d then l else (k, v) :: l)
    else (k', v') :: cellSet d k v l

/-- What key `k` reads as: its entry, or the default. -/
def cellGet {β : Type} (d : β) (k : Nat) : List (Nat × β) → β
  | [] => d
  | (k', v') :: l => if k = k' then v' else cellGet d k l

/-- CRC-32C (R300), one bit at a time over the reflected polynomial 0x82F6_3B78. -/
def crcBit (c : Nat) : Nat := if c % 2 = 1 then (c / 2) ^^^ 0x82F63B78 else c / 2

/-- One byte into the CRC register. -/
def crcByte (c : Nat) (b : Byte) : Nat := Nat.repeat crcBit 8 (c ^^^ b.toNat)

/-- CRC-32C of a byte string (R300). -/
def crc32c (l : List Byte) : Nat := (l.foldl crcByte 0xFFFFFFFF) ^^^ 0xFFFFFFFF

/-- The four bytes of a word, little-endian (R5). -/
def wordBytes (w : Word) : List Byte :=
  [w.extractLsb' 0 8, w.extractLsb' 8 8, w.extractLsb' 16 8, w.extractLsb' 24 8]

/-- A little-endian number from bytes. -/
def bytesNat : List Byte → Nat
  | [] => 0
  | b :: l => b.toNat + 256 * bytesNat l

/-- A word from (at least) four bytes. -/
def bytesWord (l : List Byte) : Word := BitVec.ofNat 32 (bytesNat (l.take 4))

end Sys2Proof.Machine
end

