-- ==== Sys2Proof/Syntax.lean ====
section
/-!
DEFINITION. The commands of the part: one constructor of `Instr` per row of spec/opcode_table.json, with
the operands the row's rule gives it, and the types of those operands. A measured quantity, a partner's
message, or a choice of the outside world (which leg, which lane) is an operand; what the part computes
is not.
-/

namespace Sys2Proof

open Sys2Proof.Machine

/-- A requester of the register space (R515, Table 21-2). -/
inductive Requester where
  | mss (core : Fin 2)
  | thread (t : Fin 64)
  | session (i : Fin 16)
  | twm
  | dbg
deriving DecidableEq, Repr

/-- What executes a Nerog instruction: a sequencer thread (R220) or an MSS core (R263). -/
inductive Exec where
  | thread (t : Fin 64)
  | mss (core : Fin 2)
deriving DecidableEq, Repr

/-- A UCS command in execution: its requester and the TAG of its frame (R299, R305). -/
structure Cmd where
  rq  : Requester
  tag : BitVec 16
deriving DecidableEq, Repr

/-- Who posted an operation: a thread into a tag slot (R272), an MSS core into one (R275), or a UCS
command (R314). -/
inductive Issuer where
  | thread (t : Fin 64) (slot : Fin 64)
  | mss (core : Fin 2) (slot : Fin 16)
  | ucs (m : Cmd)
deriving DecidableEq, Repr

/-- One transition of a physical source (R31, R35): the source by its number of Table 02-1; for an encoder the
direction by quadrature phase before SRC_CFG.INVERT (`down`), whether A and B changed in one sample (`illegal`),
whether it follows an accepted transition of the same line by less than 20 ns (`overrate`), and for how many 2 ns
samples the new level has been stable, counted from its first (`stable`). -/
structure CountStep where
  src      : Fin 6
  down     : Bool
  illegal  : Bool
  overrate : Bool
  stable   : Nat := 31
deriving DecidableEq, Repr

/-- An edge of an index input (R35, R47): the direction in which its source counts (`down`), and for how many 2 ns
samples the new level has been stable, counted from its first (`stable`). -/
structure IndexEdge where
  down   : Bool
  stable : Nat
deriving DecidableEq, Repr

/-- What the converters and sensors of a channel deliver at a grid instant (R100, R173, R175): V, VLOC,
VBAT and VIN in nV, I, IBAT and the coarse sense in pA, the four leg currents in µA; an upset of the state of one
control engine (0 A, 1 B: which part of the state, and what it is off by), and the self-check errors that the engines
report (R126, R127). IBAT is signed as R149. -/
structure Sample where
  v      : Int := 0
  vloc   : Int := 0
  i      : Int := 0
  vbat   : Int := 0
  ibat   : Int := 0
  vin    : Int := 0
  coarse : Int := 0
  legs   : List Int := [0, 0, 0, 0]
  upset  : Option (Fin 2 × Nat × Int) := none
  errA   : Bool := false
  errB   : Bool := false
deriving DecidableEq, Repr

/-- The 64-bit state registers of the battery model (R146). -/
inductive BmField where
  | q
  | v1
  | v2
  | h
deriving DecidableEq, Repr

/-- The means of a charge tick (R153): V_BAT in 10 µV, I_BAT and the OUT current in µA. -/
structure TickMeans where
  vbat : Int
  ibat : Int
  iout : Int
deriving DecidableEq, Repr

/-- What the port learns at an attach (R364): the partner's role, the plug orientation, the partner's Rp
when it is a source (0 default, 1 1.5 A, 2 3.0 A), whether Ra is seen on the other CC line, and whether
the partner is an audio or debug accessory the engine ignores. -/
structure AttachInfo where
  asSource : Bool
  flipped  : Bool
  rp       : Fin 3
  ra       : Bool
deriving DecidableEq, Repr

/-- A PD message as words: its SOP type, message type, whether it is extended, its data objects, whether its
header carries Revision 2.0, and for SOP′ traffic received whether 3.0 V or more stand on the pin opposite the
orientation (R382). -/
structure PdMsg where
  sop      : Nat
  mtype    : Nat
  extended : Bool
  objs     : List Word
  rev2     : Bool := false
  vconn    : Bool := true
deriving DecidableEq, Repr

/-- What the chain agrees at a lock (R397): this module's node number (0 is the master), the modules less one,
whether the ring is closed, whether the master differs from the one before, the eastward hop delays in ps, and
the L that the master distributes, in 100 ns. -/
structure ChainLock where
  node   : Fin 16
  nodes  : Fin 16
  ring   : Bool
  joined : Bool
  hops   : List Nat
  lat    : Nat
deriving DecidableEq, Repr

/-- An epoch of the chain (R398): the master's chain time T in ps, its extended count at T, its direction state,
L in 100 ns, the measured delay of the epoch's path in ps, and the mark SLACK of a segment leader's (R402). -/
structure EpochMsg where
  time : Nat
  ext  : Nat
  down : Bool
  lat  : Nat
  path : Nat
  slack : Bool := false
deriving DecidableEq, Repr

/-- A step or jump record of the master (R399): its stamp in ps; the direction of a step; the counts of a jump and
whether it is a silent correction; the mark SLACK of a segment leader's (R402). -/
structure StepRec where
  stamp  : Nat
  jump   : Bool
  silent : Bool := false
  down   : Bool := false
  delta  : Int := 0
  slack  : Bool := false
deriving DecidableEq, Repr

/-- The payload of a chain frame, where a rule gives its arrival an effect: a peer summary (R407). -/
inductive ChainBody where
  | summary (w : Word)
  | other
deriving DecidableEq, Repr

/-- The network requests a host port answers (R409). -/
inductive NetReq where
  | arp
  | neighbour
  | echo4
  | echo6
deriving DecidableEq, Repr

/-- An IP fragment (R411): its identification, the place of its first byte in the datagram's payload, whether more follow,
and its bytes. -/
structure IpFrag where
  id    : Nat
  off   : Nat
  more  : Bool
  bytes : List Byte
deriving DecidableEq, Repr

/-- An HDP datagram of the TYPE that its command names (R412): port of arrival, source address (an odd number is an IPv6
address, an even one an IPv4 address), destination UDP port, whether MAGIC, VERSION and UDP checksum are correct, and
SESSION, SEQ, ACK and body. With `frag` what arrives is one IP fragment of a datagram (R411): of the other fields only the
port, the source and, for the whole datagram, the outcome of the UDP checksum count. -/
structure HdpDgram where
  port    : Fin 2
  peer    : Nat
  udp     : Nat
  sound   : Bool
  session : Word
  seq     : Word
  ack     : Word
  payload : List Byte := []
  frag    : Option IpFrag := none
deriving DecidableEq, Repr

/-- A Sync of the master as the servo sees it: offset from master in ns and mean path delay (R423), the host port and the
domain it came on (R422). -/
structure PtpSync where
  offset : Int
  delay  : Nat
  port   : Fin 2 := 0
  domain : BitVec 8 := 0
deriving DecidableEq, Repr

/-- An Announce message: whether the best-master algorithm selects its sender among the senders, and against this
clock at the same priority1 (R423); its priority1, the host port and the domain it came on (R422). -/
structure PtpAnnounce where
  selected : Bool
  prio1    : BitVec 8 := 128
  port     : Fin 2 := 0
  domain   : BitVec 8 := 0
deriving DecidableEq, Repr

/-- How a controller transfer ended (R434): RESULT, the data bytes transferred, and the bytes read. -/
structure TwResult where
  code  : Fin 5
  count : Fin 64
  bytes : List Byte
deriving DecidableEq, Repr

/-- The readings of a housekeeping round of one sector (R463): die sensors in 0.1 °C, thermistors as temperature with
open and short flags, whether the round took longer than 1 ms, in the hub sector the house die's voltages and currents as
values of HSE_M_k, and a record of the quad supervisor's own (R462), which the spec gives no layout. -/
structure HkRound where
  temps   : List Int
  therms  : List (Int × Bool × Bool)
  late    : Bool := false
  house   : List (Fin 16 × Int) := []
  record  : Option (List Word) := none
deriving DecidableEq, Repr

/-- What a boot step finds (R491 to R494): whether it succeeded; fuse rows that needed the majority read, and a key
hash still in doubt; banks that fail BIST beyond their spares; converter units without valid calibration; the
milliseconds since reset release. -/
structure BootFind where
  ok      : Bool
  fuseErr : Bool := false
  keyBad  : Bool := false
  banks   : List (Fin 8) := []
  convs   : List (Fin 24 × Fin 3) := []
  ms      : Nat := 0
deriving DecidableEq, Repr

/-- The straps sampled at reset release (R490): EVT_13, EVT_14 and EVT_15. -/
structure Straps where
  b13 : Bool
  b14 : Bool
  b15 : Bool
deriving DecidableEq, Repr

/-- A link word of the STIPPLE engines (R502): group and index. -/
structure LtLink where
  group : Fin 4
  index : Fin 131
deriving DecidableEq, Repr

/-- The commands of the part, one per row of spec/opcode_table.json. -/
inductive Instr where
  /-- R31. The selected timebase source makes one counted step of the TBC, updating DIR and, on a wrap, the epoch counter. -/
  | countedStep (st : CountStep)
  /-- R35. After 1 ms without over-rate the encoder's QUAL returns to 1. -/
  | overrateClear (n : Fin 2)
  /-- R34. The active source loses qualification; the TBC holds and TB_SRC_LOST is raised. -/
  | sourceQualLost (src : Fin 6)
  /-- R36. A rising mains zero crossing aligns the PLL phase and ends a holdover. -/
  | mainsZeroCrossing (freq : Nat)
  /-- R36. The mains PLL locks after up to 50 cycles of valid input and sets MAINS_STAT.LOCK. -/
  | mainsPllLock (freq : Nat)
  /-- R36. After two missed expected crossings the PLL enters holdover at the last measured frequency. -/
  | mainsHoldoverEntry
  /-- R32. After 10 s in holdover without lock the MAINS QUAL bit reads 0. -/
  | mainsHoldoverExpiry
  /-- R33. A write of TB_CTRL changes source, granularity or horizon, refusing unqualified sources and G changes with records queued. -/
  | tbCtrlWrite (rq : Requester) (w : Word)
  /-- R48. An honoured index captures the count, computes e and applies none, a silent correction, SNAP, HOLD or TRUST. -/
  | indexPulse (s : Fin 3) (a b : Bool) (z : IndexEdge)
  /-- R49. A TB_RELEASE write with GO ends a freeze, optionally jumping by idx_err, and fires reached events with LATE cause HOLD. -/
  | tbReleaseGo (rq : Requester) (snap : Bool)
  /-- R58. The calendar walker advances one bucket and promotes the records of the bucket entering the window. -/
  | walkerBucketStep
  /-- R57. Between bucket steps the walker applies arrived SCHED and DISARM operations in arrival order. -/
  | walkerSchedDisarm
  /-- R65. A record waiting in the overflow list is armed once all its slots are free. -/
  | overflowArm
  /-- R56. A fire report reaches the hub; the record's last fire returns it to the pool and NOTIFY reaches the owner. -/
  | fireReport
  /-- R68. A capture edge on the selected source records the extended count and sets VALID or OVERRUN. -/
  | gtCapture (n : Fin 16) (falling : Bool)
  /-- R68. A write of GT_STAT.SWCAP makes a software capture edge. -/
  | gtSwcap (rq : Requester) (n : Fin 16)
  /-- R68. A read of GT_CAP_LO snapshots the capture and clears VALID. -/
  | gtCapRead (rq : Requester) (n : Fin 16)
  /-- R69. A write of GT_CMP arms the compare and fixes its effective direction. -/
  | gtCmpWrite (rq : Requester) (n : Fin 16) (v : Word)
  /-- R23. An ON field in PDOM_REQ powers the domain and its dependencies and holds them on. -/
  | pdomOnRequest (rq : Requester) (n : Fin 7) (w : Word)
  /-- R24. An OFF field is checked on arrival and switches the domain off or is refused into PDOM_DENY. -/
  | pdomOffRequest (rq : Requester) (n : Fin 7) (w : Word)
  /-- R21. An AUTO field returns the domain to device-controlled switching. -/
  | pdomAutoRequest (rq : Requester) (n : Fin 7) (w : Word)
  /-- R21. A channel that has met its switch-off condition for 10 ms has its domains switched off in reverse order. -/
  | pdomAutoOff (c : Fin 24)
  /-- R22. A domain reaches ON; a pending mode or late armed action takes effect with LATE. -/
  | pdomPowerUpDone (d : Fin 102)
  /-- R20. A domain misses its power-up time and raises PDOM NO_ON. -/
  | pdomNoOn (d : Fin 102)
  /-- R100. Each 250 ns grid instant the channel samples, applies frozen inputs in order, computes the law, limits, ramp and on-times. -/
  | controlSample (c : Fin 24) (x : Sample)
  /-- R72. An open or deviating sense pair switches the channel to local sense and raises CH_c_SENSE. -/
  | senseLoss (c : Fin 24)
  /-- R73. VIN_c below 34 V while joined to BUS stops the legs and raises CH_c_VIN_UV. -/
  | vinUndervoltage (c : Fin 24)
  /-- R75. A burst reaching 100 ms is clamped to continuous ratings and counted in CLAMP_CNT. -/
  | burstLimit (c : Fin 24)
  /-- R75. After 9 × d within continuous ratings BURST_READY returns to 1. -/
  | burstRecovered (c : Fin 24)
  /-- R77. In DIODE the battery switch turns on when OUT falls 40 mV below BAT and off on reverse current. -/
  | bswDiodeSwitch (c : Fin 24) (on : Bool)
  /-- R78. In PATH a limited leg supply lets OUT fall below BAT and the battery switch turns fully ON to supplement. -/
  | bswSupplement (c : Fin 24) (on : Bool)
  /-- R79. A LINEAR battery switch above 8 W reduces I_BAT and sets BSW_SOA. -/
  | bswSoaLimit (c : Fin 24) (iLim : Nat)
  /-- R80. |I_BAT| above 30 A opens the battery switch, sets BSW_TRIP and resolves the path to OPEN. -/
  | bswTripFast (c : Fin 24)
  /-- R80. |I_BAT| above 20 A for 100 ms opens the battery switch as a trip. -/
  | bswTripTimed (c : Fin 24)
  /-- R81. V_BAT below UV in BATFED stops the legs, opens both pairs and resolves role OFF. -/
  | batfedUndervoltage (c : Fin 24)
  /-- R84. A path transition completes, TRANS clears and held path requests apply in arrival order. -/
  | pathTransitionDone (c : Fin 24)
  /-- R82. An OPEN to TIED step 2 beyond 50 ms is abandoned, the path stays OPEN and BSW_SOA is set. -/
  | pathTransitionAbandon (c : Fin 24)
  /-- R85. A role-OFF discharge brings OUT_c below 1.0 V and the legs stop switching. -/
  | dischargeDone (c : Fin 24)
  /-- R90. A leg is shed after per-leg current stays below THR for HOLD. -/
  | legShed (c : Fin 24)
  /-- R91. A leg's 9 A limit ends its on-time; at the 64th consecutive period CBC_PERSIST is set and the leg fenced or the channel clamped. -/
  | cbcLimit (c : Fin 24) (k : Fin 4) (consecutive : Bool)
  /-- R92. |I_OUT| above 25 A turns off every leg switch, opens battery and input switches and resolves role OFF. -/
  | hwTrip (c : Fin 24)
  /-- R92. OUT_c above PS_OVP.OVP trips the channel as a hardware trip. -/
  | ovpTrip (c : Fin 24)
  /-- R93. A detected leg fault switches the leg off, redistributes, re-phases and updates ratings, coverage and repair record. -/
  | legFence (c : Fin 24) (k : Fin 4)
  /-- R97. A follower receives the leader's share set-point over Class 0 and runs CC at it. -/
  | gangShareSetpoint (c : Fin 24)
  /-- R128. A self-check error in the surviving engine fences the channel. -/
  | survivorEngineError (c : Fin 24)
  /-- R115. A write of RG_LOOP selects a profile and with APPLY requests its load. -/
  | rgLoopWrite (rq : Requester) (c : Fin 24) (w : Word)
  /-- R121. A write of RG_PROF_ADDR under PROFILE re-checks the table and switches it, restarting the ramp on a quantity change. -/
  | rgProfAddrWrite (rq : Requester) (c : Fin 24) (w : Word)
  /-- R139. Every fourth sample the battery model integrates charge, relaxation and hysteresis, applies latched writes and computes vterm. -/
  | modelUpdate (c : Fin 24)
  /-- R134. A write of BM_TBL_ADDR under MODEL checks the table and takes effect at the next update or is refused. -/
  | bmTblAddrWrite (rq : Requester) (c : Fin 24) (w : Word)
  /-- R145. A write of BM_SOC sets q from the table CAP, latched while the model runs. -/
  | bmSocWrite (rq : Requester) (c : Fin 24) (w : Word)
  /-- R146. A write of a BM state LO word is held in the requester's write shadow. -/
  | bmStateLoWrite (rq : Requester) (c : Fin 24) (f : BmField) (w : Word)
  /-- R146. A write of a BM state HI word commits the pair as one state write. -/
  | bmStateHiWrite (rq : Requester) (c : Fin 24) (f : BmField) (w : Word)
  /-- R145. BM_CTRL.RST_RELAX clears v_1, v_2 and their remainders. -/
  | rstRelax (rq : Requester) (c : Fin 24)
  /-- R145. BM_CTRL.RST_HYST clears h. -/
  | rstHyst (rq : Requester) (c : Fin 24)
  /-- R157. Each 1 ms tick the charge phase machine evaluates writes, faults, REST and exits and takes at most one transition. -/
  | chargeTick (k : Fin 25) (m : TickMeans)
  /-- R160. A charge phase timer expires, causing the phase exit or a timeout fault. -/
  | phaseTimerExpiry (k : Fin 25)
  /-- R170. T_TOTAL expires and the charger enters FAULT with TOTAL_TMO. -/
  | totalTimerExpiry (k : Fin 25)
  /-- R159. Once per second after HOLDOFF the −ΔV and dT/dt terminations are tested in NiMH CC. -/
  | nimhTerminationTest (k : Fin 25) (vMean : Int)
  /-- R170. V_BAT above V_OVP for 40 samples takes the charger to FAULT with BAT_OV. -/
  | batOv (k : Fin 25)
  /-- R171. CG_CTRL.CLEAR leaves FAULT for QUALIFY. -/
  | cgClear (rq : Requester) (k : Fin 25)
  /-- R171. CG_CTRL.RESTART returns the charger to QUALIFY outside FAULT. -/
  | cgRestart (rq : Requester) (k : Fin 25)
  /-- R167. CG_CTRL.LOAD_PRESET loads the chemistry preset scaled by NCELL and capacity, or refuses it. -/
  | loadPreset (rq : Requester) (k : Fin 25)
  /-- R182. A range change completes, RCHG clears and held range requests apply. -/
  | rangeChangeDone (c : Fin 24)
  /-- R183. The spare converter unit completes its calibration. -/
  | calibrationDone (c : Fin 24)
  /-- R183. With no deferral, the calibrated spare replaces the longest-running active unit. -/
  | converterRotation (c : Fin 24)
  /-- R183. An active unit reaching 60 s since calibration is rotated out despite deferral, marking one sample CAL. -/
  | forcedRotation (c : Fin 24)
  /-- R184. A fenced converter unit leaves the front end on two units without a spare. -/
  | converterFence (c : Fin 24) (u : Fin 3)
  /-- R184. Without a spare, an active unit calibrates in place in a quiet window or when forced, its samples carrying CAL. -/
  | inPlaceCalibration (c : Fin 24)
  /-- R188. Under stage AUTO, 10 ms of qualifying samples start the handover to STILL. -/
  | stillQualified (c : Fin 24)
  /-- R189. A handover completes, ACT updates, CH_c_STAGE is signalled and HCNT increments. -/
  | handoverDone (c : Fin 24) (met : Bool)
  /-- R192. MS_WIN_CTRL.START opens a statistics window, truncating any open one. -/
  | windowStart (rq : Requester) (c : Fin 24)
  /-- R192. MS_WIN_CTRL.STOP ends the open window with TRUNC. -/
  | windowStop (rq : Requester) (c : Fin 24)
  /-- R193. A window's sample count is reached; results update as one set, SEQ increments and a STAT record is written. -/
  | windowEnd (c : Fin 24)
  /-- R197. MS_CAP_CTRL.START starts or restarts a capture. -/
  | captureStart (rq : Requester) (c : Fin 24)
  /-- R197. MS_CAP_CTRL.STOP ends the capture, closing a partial group. -/
  | captureStop (rq : Requester) (c : Fin 24)
  /-- R200. MS_SWP_CTRL.START checks the sweep table and starts the sweep or refuses it. -/
  | sweepStart (rq : Requester) (c : Fin 24)
  /-- R202. MS_SWP_CTRL.ABORT ends the sweep at once with TRUNC. -/
  | sweepAbort (rq : Requester) (c : Fin 24)
  /-- R196. MS_ACC_CTRL.CLR_EOUT clears the OUT energy accumulator. -/
  | clrEout (rq : Requester) (c : Fin 24)
  /-- R196. MS_ACC_CTRL.CLR_QOUT clears the OUT charge accumulator. -/
  | clrQout (rq : Requester) (c : Fin 24)
  /-- R196. MS_ACC_CTRL.CLR_EBAT clears the BAT energy accumulator. -/
  | clrEbat (rq : Requester) (c : Fin 24)
  /-- R196. MS_ACC_CTRL.CLR_QBAT clears the BAT charge accumulator. -/
  | clrQbat (rq : Requester) (c : Fin 24)
  /-- R207. A write of MS_RANGE is a mode request naming IREQ and VREQ. -/
  | msRangeWrite (rq : Requester) (c : Fin 24) (w : Word)
  /-- R207. A write of MS_STAGE is a mode request naming the stage. -/
  | msStageWrite (rq : Requester) (c : Fin 24) (w : Word)
  /-- R179. A write of MS_AUTO narrows AUTO ranging and may start a range change at the next sample. -/
  | msAutoWrite (rq : Requester) (c : Fin 24) (w : Word)
  /-- R207. A write of MD_REQ is a mode request on every axis but the gang, resolved under Table 08-2. -/
  | mdReqWrite (rq : Requester) (c : Fin 24) (w : Word)
  /-- R211. A write of MD_GANG requests forming or dissolving a gang led by the channel. -/
  | mdGangWrite (rq : Requester) (c : Fin 24) (w : Word)
  /-- R210. A read of PS_LATCH clears BSW_TRIP and returns the path to its requested value. -/
  | psLatchRead (rq : Requester) (c : Fin 24)
  /-- R227. An ALU instruction computes rd from ra and rb by its fn. -/
  | alu (x : Exec) (rd ra rb : Fin 32) (fn : BitVec 11)
  /-- R229. CMP, CMPP or TST sets the flags from its operands. -/
  | cmp (x : Exec) (ra rb : Fin 32) (fn : BitVec 11)
  /-- R229. CMPI compares ra with a sign-extended immediate. -/
  | cmpi (x : Exec) (ra : Fin 32) (imm : BitVec 16)
  /-- R230. ADDI adds a sign-extended immediate. -/
  | addi (x : Exec) (rd ra : Fin 32) (imm : BitVec 16)
  /-- R230. ANDI ands a zero-extended immediate. -/
  | andi (x : Exec) (rd ra : Fin 32) (imm : BitVec 16)
  /-- R230. ORI ors a zero-extended immediate. -/
  | ori (x : Exec) (rd ra : Fin 32) (imm : BitVec 16)
  /-- R230. XORI xors a zero-extended immediate. -/
  | xori (x : Exec) (rd ra : Fin 32) (imm : BitVec 16)
  /-- R230. SLLI shifts left by an immediate. -/
  | slli (x : Exec) (rd ra : Fin 32) (imm : BitVec 16)
  /-- R230. SRLI shifts right logically by an immediate. -/
  | srli (x : Exec) (rd ra : Fin 32) (imm : BitVec 16)
  /-- R230. SRAI shifts right arithmetically by an immediate. -/
  | srai (x : Exec) (rd ra : Fin 32) (imm : BitVec 16)
  /-- R230. LUI writes imm16 << 16 to rd. -/
  | lui (x : Exec) (rd : Fin 32) (imm : BitVec 16)
  /-- R233. LB loads a sign-extended byte. -/
  | lb (x : Exec) (rd ra : Fin 32) (imm : BitVec 16)
  /-- R233. LBU loads a zero-extended byte. -/
  | lbu (x : Exec) (rd ra : Fin 32) (imm : BitVec 16)
  /-- R233. LH loads a sign-extended halfword. -/
  | lh (x : Exec) (rd ra : Fin 32) (imm : BitVec 16)
  /-- R233. LHU loads a zero-extended halfword. -/
  | lhu (x : Exec) (rd ra : Fin 32) (imm : BitVec 16)
  /-- R233. LW loads a word from queue memory, ROM or the register space. -/
  | lw (x : Exec) (rd ra : Fin 32) (imm : BitVec 16)
  /-- R233. LD loads an 8-byte pair in one access. -/
  | ld (x : Exec) (rd ra : Fin 32) (imm : BitVec 16)
  /-- R233. SB stores a byte. -/
  | sb (x : Exec) (rd ra : Fin 32) (imm : BitVec 16)
  /-- R233. SH stores a halfword. -/
  | sh (x : Exec) (rd ra : Fin 32) (imm : BitVec 16)
  /-- R234. SW stores a word, in the register space only to permitted blocks. -/
  | sw (x : Exec) (rd ra : Fin 32) (imm : BitVec 16)
  /-- R233. SD stores a register pair. -/
  | sd (x : Exec) (rd ra : Fin 32) (imm : BitVec 16)
  /-- R231. B branches on its condition. -/
  | b (x : Exec) (cond : Fin 16) (off : BitVec 22)
  /-- R231. JAL links and jumps PC-relative. -/
  | jal (x : Exec) (rd : Fin 32) (off : BitVec 21)
  /-- R231. JALR links and jumps to a register address. -/
  | jalr (x : Exec) (rd ra : Fin 32) (imm : BitVec 16)
  /-- R263. MFSR reads an MSS special register. -/
  | mfsr (x : Exec) (rd : Fin 32) (fn : BitVec 11)
  /-- R263. MTSR writes an MSS special register. -/
  | mtsr (x : Exec) (ra : Fin 32) (fn : BitVec 11)
  /-- R269. TCTL fn 0 starts a thread with cleared state or returns BAD_ARG, NO_RESOURCE or BUSY_RETRY. -/
  | tctlStart (x : Exec) (rd ra rb : Fin 32)
  /-- R270. TCTL fn 1 stops a thread at its next instruction boundary. -/
  | tctlStop (x : Exec) (rd ra : Fin 32)
  /-- R270. TCTL fn 2 writes the thread's SEQ_THR_STAT to rd. -/
  | tctlReadState (x : Exec) (rd ra : Fin 32)
  /-- R288. ERET restores STATUS and returns to EPC. -/
  | eret (x : Exec)
  /-- R251. WAITC holds the thread until the count reaches a value in its direction. -/
  | waitc (x : Exec) (ra : Fin 32) (fn : BitVec 11)
  /-- R252. WAITT holds the thread until device time reaches an absolute or relative target. -/
  | waitt (x : Exec) (ra : Fin 32) (fn : BitVec 11)
  /-- R252. Device time reaches the WAITT target and the wait completes. -/
  | waittExpiry (x : Exec)
  /-- R253. WAITE waits on or polls a wake condition counter and returns counter and payload. -/
  | waite (x : Exec) (rd ra rb : Fin 32) (fn : BitVec 11)
  /-- R254. WAITG waits for a tag's completion, writes its word and releases the tag. -/
  | waitg (x : Exec) (rd ra : Fin 32)
  /-- R260. FENCE stalls until earlier operations complete and/or stores are visible. -/
  | fence (x : Exec) (fn : BitVec 11)
  /-- R261. YIELD gives up the issue slot until every other ready thread has issued. -/
  | yield (x : Exec)
  /-- R262. HALT stops the thread while its operations complete. -/
  | halt (x : Exec)
  /-- R276. A posted operation completes at its completion point; its tag becomes DONE or FREE and waits and fences on it resolve. -/
  | operationCompletion (who : Issuer)
  /-- R240. CHSET writes a set-point or limit of a channel. -/
  | chset (x : Exec) (rd ra rb : Fin 32) (fn : BitVec 11)
  /-- R241. CHRAMP writes a set-point with a one-change slew. -/
  | chramp (x : Exec) (rd ra rb : Fin 32) (fn : BitVec 11)
  /-- R242. CHMODE makes a mode request on the named axes. -/
  | chmode (x : Exec) (rd ra rb : Fin 32) (fn : BitVec 11)
  /-- R243. CHGANG writes MD_GANG of the channel. -/
  | chgang (x : Exec) (rd ra rb : Fin 32)
  /-- R244. MEAS writes the next sample's value, DTIME and EXT to a buffer. -/
  | meas (x : Exec) (rd ra rb : Fin 32) (fn : BitVec 11)
  /-- R245. CAPT fn 0 configures and starts or restarts a capture. -/
  | captStart (x : Exec) (rd ra rb : Fin 32)
  /-- R245. CAPT fn 1 stops the capture. -/
  | captStop (x : Exec) (rd ra rb : Fin 32)
  /-- R246. STAT fn 0 writes the last completed window's STAT record or completes NOT_READY. -/
  | statRead (x : Exec) (rd ra rb : Fin 32)
  /-- R246. STAT fn 1 starts a window, or DENIED while a sweep owns the engine. -/
  | statStart (x : Exec) (rd ra rb : Fin 32)
  /-- R246. STAT fn 2 stops the open window, or DENIED while a sweep owns the engine. -/
  | statStop (x : Exec) (rd ra rb : Fin 32)
  /-- R247. SCHED reads a record image and places it as an event record, or refuses it. -/
  | sched (x : Exec) (rd ra : Fin 32)
  /-- R249. ARM places a record directly into its slots or the overflow list. -/
  | arm (x : Exec) (rd ra : Fin 32)
  /-- R250. DISARM removes an owned record and reports whether it had fired. -/
  | disarm (x : Exec) (rd ra : Fin 32)
  /-- R255. QPUSH copies one slot to a ring's tail or completes NO_RESOURCE. -/
  | qpush (x : Exec) (rd ra rb : Fin 32)
  /-- R255. QPOP copies and frees a ring's oldest slot. -/
  | qpop (x : Exec) (rd ra rb : Fin 32)
  /-- R256. PDMSG fn 0 sends a PD message from a buffer. -/
  | pdmsgSend (x : Exec) (rd ra rb : Fin 32)
  /-- R256. PDMSG fn 1 moves the oldest received message into a buffer. -/
  | pdmsgRecv (x : Exec) (rd ra rb : Fin 32)
  /-- R257. PDVDM fn 0 sends a structured VDM request and awaits its response. -/
  | pdvdmStructured (x : Exec) (rd ra rb : Fin 32)
  /-- R257. PDVDM fn 1 sends an unstructured VDM. -/
  | pdvdmUnstructured (x : Exec) (rd ra rb : Fin 32)
  /-- R257. PDVDM fn 2 moves the oldest received VDM into a buffer. -/
  | pdvdmRecv (x : Exec) (rd ra rb : Fin 32)
  /-- R258. FLTRD writes a source's latest fault record. -/
  | fltrd (x : Exec) (rd ra rb : Fin 32)
  /-- R259. FLTFORCE fn 0 reports one forced assertion. -/
  | fltforcePulse (x : Exec) (rd ra : Fin 32)
  /-- R259. FLTFORCE fn 1 holds a source asserted. -/
  | fltforceHold (x : Exec) (rd ra : Fin 32)
  /-- R259. FLTFORCE fn 2 ends a forced hold. -/
  | fltforceRelease (x : Exec) (rd ra : Fin 32)
  /-- R287. A W1C write of SEQ_EXC_SUM clears a thread's exception record. -/
  | excSumClear (rq : Requester) (hi : Bool) (w : Word)
  /-- R291. A lockstep mismatch fences the pair and moves its threads to the spare, or leaves them LOST. -/
  | pairFence (n : Fin 4) (p : Fin 5)
  /-- R291. The spare pair resumes the migrated threads from their committed PCs. -/
  | migrationDone (n : Fin 4) (s : Fin 4)
  /-- R301. The MSS receives a UCS frame, checks it, handles REPLAY and journals it or answers BAD_FRAME. -/
  | frameReceive (rq : Requester) (bytes : List Byte)
  /-- R307. An accepted command starts on a service thread once its key order and SERIAL permit. -/
  | commandDispatch (rq : Requester) (tag : BitVec 16)
  /-- R311. The standby core dispatches, sending journalled responses and checking held frames. -/
  | standbyTakeover
  /-- R314. Command 0x0000 does nothing. -/
  | nop (m : Cmd)
  /-- R314. Command 0x0001 returns part, stepping, UCS version, patches and serial. -/
  | identify (m : Cmd)
  /-- R314. Command 0x0002 returns readiness, slow path, core, services and outstanding count. -/
  | state (m : Cmd)
  /-- R304. Command 0x0004 sets the requester's notice mask. -/
  | notice (m : Cmd) (mask : Word)
  /-- R310. Command 0x0005 removes a not-yet-started command of the requester. -/
  | abort (m : Cmd) (target : Word)
  /-- R240. Command 0x0100 acts as CHSET. -/
  | chSet (m : Cmd) (ch param value : Word)
  /-- R241. Command 0x0101 acts as CHRAMP. -/
  | chRamp (m : Cmd) (ch param value slew : Word)
  /-- R242. Command 0x0102 acts as CHMODE and returns the resolution record. -/
  | chMode (m : Cmd) (ch axes word : Word)
  /-- R243. Command 0x0103 acts as CHGANG. -/
  | chGang (m : Cmd) (ch size : Word)
  /-- R314. Command 0x0104 returns the channel's mode and status registers. -/
  | chGet (m : Cmd) (ch : Word)
  /-- R314. Command 0x0105 reads and clears the channel latches. -/
  | chLatch (m : Cmd) (ch : Word)
  /-- R314. Command 0x0106 sets role OFF on a channel mask in one sample by an ARMed record. -/
  | chOff (m : Cmd) (mask : Word)
  /-- R448. Command 0x0107 clears a hardware or overvoltage trip when permitted. -/
  | chClear (m : Cmd) (ch : Word)
  /-- R314. Command 0x0200 allocates a table extent. -/
  | tblAlloc (m : Cmd) (size align : Word)
  /-- R314. Command 0x0201 frees a table extent not in use. -/
  | tblFree (m : Cmd) (addr : Word)
  /-- R314. Command 0x0202 writes words into one extent. -/
  | tblWrite (m : Cmd) (addr : Word) (data : List Word)
  /-- R314. Command 0x0203 reads words from one extent. -/
  | tblRead (m : Cmd) (addr len : Word)
  /-- R315. Command 0x0204 generates a profile table of an ISO 16750-2 kind. -/
  | profGen (m : Cmd) (addr ch kind rate start flags : Word) (params : List Word)
  /-- R314. Command 0x0300 copies a library entry into an extent. -/
  | libLoad (m : Cmd) (id addr : Word)
  /-- R314. Command 0x0301 lists library entries. -/
  | libList (m : Cmd) (first : Word)
  /-- R314. Command 0x0302 returns battery-model state from one update. -/
  | bmGet (m : Cmd) (ch : Word)
  /-- R314. Command 0x0303 writes named model state fields in one update. -/
  | bmSet (m : Cmd) (ch mask soc : Word) (q v1 v2 h : BitVec 64)
  /-- R314. Command 0x0304 writes chemistry, cell count, capacity and loads the preset. -/
  | cgPreset (m : Cmd) (ch chem ncell cap : Word)
  /-- R314. Command 0x0305 returns charger status and clears CG_LATCH. -/
  | cgGet (m : Cmd) (ch : Word)
  /-- R171. Command 0x0306 writes CLEAR and RESTART to CG_CTRL. -/
  | cgCtrl (m : Cmd) (ch bits : Word)
  /-- R244. Command 0x0400 acts as MEAS. -/
  | ucsMeas (m : Cmd) (ch qty : Word)
  /-- R314. Command 0x0401 reads, starts, stops or configures a statistics window. -/
  | win (m : Cmd) (ch op len ctrl : Word)
  /-- R314. Command 0x0402 configures and starts or stops a capture. -/
  | cap (m : Cmd) (ch op ctrl dec len : Word)
  /-- R314. Command 0x0403 starts, aborts or reads a sweep. -/
  | sweep (m : Cmd) (ch op addr ctrl : Word)
  /-- R316. Command 0x0410 allocates a ring. -/
  | ringAlloc (m : Cmd) (ring size slots : Word)
  /-- R314. Command 0x0411 frees a ring not in use. -/
  | ringFree (m : Cmd) (ring : Word)
  /-- R314. Command 0x0412 pops ring slots as QPOP. -/
  | ringRead (m : Cmd) (ring max : Word)
  /-- R314. Command 0x0413 returns ring geometry and indices. -/
  | ringGet (m : Cmd) (ring : Word)
  /-- R420. Command 0x0414 subscribes a ring to the session or ends the subscription. -/
  | ringSub (m : Cmd) (ring endpoint : Word)
  /-- R314. Command 0x0500 returns timebase status. -/
  | tbGet (m : Cmd)
  /-- R33. Command 0x0501 writes TB_CTRL. -/
  | tbSet (m : Cmd) (ctrl : Word)
  /-- R314. Command 0x0502 writes index source or mains configuration. -/
  | tbSrc (m : Cmd) (s cfg val period tol : Word)
  /-- R49. Command 0x0503 writes TB_RELEASE with GO. -/
  | tbRelease (m : Cmd) (snap : Word)
  /-- R247. Command 0x0504 acts as SCHED. -/
  | ucsSched (m : Cmd) (image : List Word)
  /-- R249. Command 0x0505 acts as ARM. -/
  | ucsArm (m : Cmd) (image : List Word)
  /-- R250. Command 0x0506 disarms a record as the MSS. -/
  | ucsDisarm (m : Cmd) (index : Word)
  /-- R314. Command 0x0507 configures a general timer and optionally arms its compare. -/
  | gtSet (m : Cmd) (n cfg cmp period : Word)
  /-- R314. Command 0x0508 reads a capture and GT status. -/
  | gtGet (m : Cmd) (n : Word)
  /-- R265. Command 0x0600 checks and loads a Nerog image. -/
  | imgLoad (m : Cmd) (addr len : Word)
  /-- R314. Command 0x0601 writes the argument and starts a thread. -/
  | thrStart (m : Cmd) (t pc arg : Word)
  /-- R314. Command 0x0602 stops a thread. -/
  | thrStop (m : Cmd) (t : Word)
  /-- R314. Command 0x0603 returns thread state and exception record. -/
  | thrGet (m : Cmd) (t : Word)
  /-- R314. Command 0x0604 writes SEQ_THR_CFG. -/
  | thrCfg (m : Cmd) (t cfg : Word)
  /-- R314. Command 0x0605 clears exception summary bits. -/
  | excClr (m : Cmd) (lo hi : Word)
  /-- R320. Command 0x0606 writes UCS_SVC. -/
  | svcSet (m : Cmd) (word : Word)
  /-- R320. A write of UCS_SVC changes service threads or is refused. -/
  | ucsSvcWrite (rq : Requester) (w : Word)
  /-- R348. Command 0x0700 returns house status and clears its latches. -/
  | hseGet (m : Cmd)
  /-- R348. Command 0x0701 writes a feed's configuration registers. -/
  | feedCfg (m : Cmd) (feed : Word) (words : List Word)
  /-- R314. Command 0x0702 loads a PACK charger preset. -/
  | packPreset (m : Cmd) (chem ncell cap : Word)
  /-- R314. Command 0x0703 writes the PACK charger commands. -/
  | packCtrl (m : Cmd) (bits : Word)
  /-- R314. Command 0x0704 returns the ledger accounts from one reading. -/
  | ledgerGet (m : Cmd)
  /-- R314. Command 0x0705 sets a channel's standing reservation. -/
  | ledgerRsv (m : Cmd) (ch credits : Word)
  /-- R354. Command 0x0800 makes a LINE request at once. -/
  | lineSet (m : Cmd) (ch op width : Word)
  /-- R360. Command 0x0801 writes LN_CFG. -/
  | lineCfg (m : Cmd) (ch : Word) (words : List Word)
  /-- R360. Command 0x0802 returns LN_STAT and reads LN_LATCH. -/
  | lineGet (m : Cmd) (ch : Word)
  /-- R356. Command 0x0803 drives EVT lines at once. -/
  | evtSet (m : Cmd) (mask op width : Word)
  /-- R385. Command 0x0900 writes port configuration registers. -/
  | pdCfg (m : Cmd) (p : Word) (words : List Word)
  /-- R385. Command 0x0901 returns port status and clears PD_LATCH. -/
  | pdGet (m : Cmd) (p : Word)
  /-- R256. Command 0x0902 acts as PDMSG SEND. -/
  | pdSend (m : Cmd) (p : Word) (msg : List Word)
  /-- R256. Command 0x0903 acts as PDMSG RECV. -/
  | pdRecv (m : Cmd) (p : Word)
  /-- R257. Command 0x0904 acts as PDVDM. -/
  | pdVdm (m : Cmd) (p fn : Word) (req : List Word)
  /-- R373. Command 0x0905 sends a sink Request and completes at PS_RDY or refusal. -/
  | pdRequest (m : Cmd) (p position voltage current : Word)
  /-- R314. Command 0x0A00 returns the collector summaries. -/
  | fltSum (m : Cmd)
  /-- R258. Command 0x0A01 acts as FLTRD. -/
  | fltRead (m : Cmd) (src : Word)
  /-- R447. Command 0x0A02 W1C-clears summary words. -/
  | fltClear (m : Cmd) (first : Word) (mask : List Word)
  /-- R449. Command 0x0A03 acts as FLTFORCE by the MSS. -/
  | fltForce (m : Cmd) (src op : Word)
  /-- R458. Command 0x0A04 returns the coverage map. -/
  | cover (m : Cmd)
  /-- R314. Command 0x0A05 returns repair record entries. -/
  | repairGet (m : Cmd) (first : Word)
  /-- R456. Command 0x0A06 retests, releases or fences a unit. -/
  | repair (m : Cmd) (unit op : Word) (pass : Bool)
  /-- R484. Command 0x0B00 returns log records. -/
  | logRead (m : Cmd) (first count : Word)
  /-- R484. Command 0x0B01 appends a host log record. -/
  | logPut (m : Cmd) (data : List Word)
  /-- R483. Command 0x0B02 sets the telemetry period. -/
  | telemSet (m : Cmd) (period : Word)
  /-- R487. Command 0x0B03 returns thermal status and clears thermal latches. -/
  | thermGet (m : Cmd)
  /-- R314. Command 0x0C00 takes the update hold and erases the inactive staging slot. -/
  | updBegin (m : Cmd) (length : Word)
  /-- R314. Command 0x0C01 writes staging bytes once each. -/
  | updWrite (m : Cmd) (offset : Word) (data : List Word)
  /-- R317. Command 0x0C02 checks header, key, signature and security counter. -/
  | updCheck (m : Cmd)
  /-- R318. Command 0x0C03 raises the fuse counter and installs the checked image. -/
  | updActivate (m : Cmd) (flags : Word)
  /-- R314. Command 0x0C04 returns update state. -/
  | updGet (m : Cmd)
  /-- R314. Command 0x0C05 releases the update hold. -/
  | updCancel (m : Cmd)
  /-- R507. Command 0x0D00 writes a STIPPLE engine's registers. -/
  | ltSet (m : Cmd) (link : Word) (words : List Word)
  /-- R511. Command 0x0D01 returns engine status and clears its counters. -/
  | ltGet (m : Cmd) (link : Word)
  /-- R514. Command 0x0E00 reads register words as MSS loads for the requester. -/
  | regRead (m : Cmd) (addr n : Word)
  /-- R516. Command 0x0E01 writes register words as MSS stores. -/
  | regWrite (m : Cmd) (addr n : Word) (words : List Word)
  /-- R314. Command 0x0E02 reads and then writes a register under a mask. -/
  | regRmw (m : Cmd) (addr mask value : Word)
  /-- R314. Command 0x0E03 reads queue memory or ROM. -/
  | memRead (m : Cmd) (addr len : Word)
  /-- R314. Command 0x0E04 writes queue memory. -/
  | memWrite (m : Cmd) (addr : Word) (data : List Word)
  /-- R322. A feed stays within its window for QUAL and becomes QUALIFIED. -/
  | feedQualified (f : Fin 2)
  /-- R322. A feed leaves its window or falls below 20 V and returns to QUALIFYING or DOWN. -/
  | feedDisqualify (f : Fin 2) (down : Bool)
  /-- R324. A connected feed below UV or above OV is opened, FAILOVER set and HSE_FEED_f raised. -/
  | feedFailure (f : Fin 2) (high : Bool)
  /-- R324. Feed current above 250 A trips the feed within 1 µs. -/
  | feedFastTrip (f : Fin 2)
  /-- R324. Feed current above 1.5 × ILIM for 10 µs trips the feed. -/
  | feedBurstTrip (f : Fin 2)
  /-- R324. Feed current above ILIM for 120 ms trips the feed. -/
  | feedTimedTrip (f : Fin 2)
  /-- R328. A connecting feed not within 1 V of BUS in time trips with INRUSH_FAIL. -/
  | inrushFail (f : Fin 2)
  /-- R325. At the end of DEAD the selector connects the other feed, hold-up from PACK, or NONE, and the ledger rebases. -/
  | switchoverConnect (level : Bool) (v : Nat)
  /-- R328. BUS reaches within 1 V of the connecting feed; the feed is CONNECTED and domains and HOUSE may power. -/
  | inrushComplete (f : Fin 2) (v : Nat)
  /-- R327. With RET_EN, the priority feed qualified for RET_HOLD starts a planned switchover. -/
  | returnToPriority
  /-- R327. HSE_SEL_CTRL.GO requests a planned switchover to the named feed or is refused. -/
  | goto (rq : Requester) (w : Word)
  /-- R322. A read of FD_LATCH_f clears the latch and ends TRIPPED. -/
  | fdLatchRead (rq : Requester) (f : Fin 2)
  /-- R331. A low feed, falling feed or low pack asserts FWARN_N and sends a HOUSE notice. -/
  | fwarnAssert (why : Fin 3)
  /-- R331. FWARN_N is released after 10 ms without any warning condition. -/
  | fwarnRelease
  /-- R332. A faulty house leg is fenced and raises HSE_HLEG. -/
  | houseLegFence (k : Fin 6)
  /-- R332. |I_PACK| above 80 A opens the PACK switch and raises HSE_PACK. -/
  | packSwitchTrip
  /-- R334. V_PACK below UV in hold-up stops the house stage, SRC reads NONE and CUTOFF is set. -/
  | packCutoff
  /-- R336. The HOUSE eFuse trips on timed limit or 3 × HLIM and raises HSE_HOUSE. -/
  | houseTrip (fast : Bool)
  /-- R336. 100 ms after a trip the HOUSE eFuse retries while retries remain. -/
  | houseRetry
  /-- R340. A change of SRC or feed voltage drift rebases the pools and reclaims if holdings exceed them. -/
  | ledgerRebase (vfeed : Nat)
  /-- R346. All affected tiles acknowledge; RECLAIM clears and a REBASE notice is sent. -/
  | reclaimComplete
  /-- R341. Every 1 µs a tile computes its draw and need and requests or returns credits. -/
  | creditEvaluation (c : Fin 24) (draw : Int)
  /-- R342. The ledger serves an arriving credit request in full, partly or after reclaiming the charger. -/
  | creditRequest
  /-- R342. A grant message reaches the tile and raises its holding. -/
  | creditGrant
  /-- R341. A return message reaches the ledger and credits FREE. -/
  | creditReturn
  /-- R342. The house tile acknowledges a charger reclaim and the ledger counts the credits free. -/
  | chargerReclaimAck
  /-- R343. At 100 ms the package burst window closes and every burst holding is reclaimed. -/
  | burstWindowClose
  /-- R343. After nine times the window length bursts may be granted again. -/
  | burstWindowRecover
  /-- R344. Every 100 µs the ledger recomputes LENT from regeneration and adjusts FREE and BFREE. -/
  | lentUpdate (regen : Nat)
  /-- R344. BUS above BUS_HI throttles sink limits and sets BUS_HIGH. -/
  | busHigh (v : Nat)
  /-- R344. BUS above 61 V holds every sink demand at zero and raises HSE_BUS_OV. -/
  | busOv (high : Bool)
  /-- R350. An OFF request opens the LINE switch at its action point. -/
  | lineOff (c : Fin 24)
  /-- R350. An ON request turns the LINE switch on at its slew, or is refused in FAULT. -/
  | lineOn (c : Fin 24)
  /-- R354. A PULSE request turns the line on and schedules its OFF after the stretched width. -/
  | linePulse (c : Fin 24) (width : Nat)
  /-- R354. A LINE pulse width expires and the OFF command leaves. -/
  | linePulseEnd (c : Fin 24)
  /-- R351. The limiter acting for TFLT opens the line into FAULT. -/
  | lineInrushTrip (c : Fin 24)
  /-- R351. LINE current above 3 × ILIM opens the line into FAULT. -/
  | lineEfuseTrip (c : Fin 24)
  /-- R351. LINE current above 2.2 A for 100 ms opens the line into FAULT. -/
  | lineOvldTrip (c : Fin 24)
  /-- R351. 1 J dissipated in one limiter episode opens the line into FAULT. -/
  | lineSoaTrip (c : Fin 24)
  /-- R352. A read of LN_LATCH clears it and returns a faulted line to OFF. -/
  | lnLatchRead (rq : Requester) (c : Fin 24)
  /-- R357. An EVT pulse width expires and the line returns low. -/
  | evtPulseEnd (n : Fin 16)
  /-- R364. A partner seen for tCCDebounce attaches the port; the engine writes its registers and the channel re-resolves. -/
  | tcAttach (p : Fin 8) (a : AttachInfo)
  /-- R364. The partner is absent for tPDDebounce or VBUS drops and the port detaches. -/
  | tcDetach (p : Fin 8)
  /-- R363. An unattached DRP port toggles between Rp and Rd. -/
  | drpToggle (p : Fin 8)
  /-- R365. The port removes terminations for 25 ms, sets ERR_RECOVERY and raises TC_p_PROTO. -/
  | errorRecovery (p : Fin 8)
  /-- R365. After 25 ms the port presents its terminations again. -/
  | errorRecoveryEnd (p : Fin 8)
  /-- R368. tFirstSourceCap after VBUS reaches 4.75 V the source sends Source_Capabilities. -/
  | firstSourceCap (p : Fin 8)
  /-- R378. A received PD message is handled by the engine, passed to programs or answered Not_Supported. -/
  | pdMessageReceive (p : Fin 8) (m : PdMsg)
  /-- R369. A changed advertised set is sent once no exchange is in progress. -/
  | capabilitiesResend (p : Fin 8)
  /-- R371. tSrcTransition after Accept the engine writes the current limit and ramps RG_VSET. -/
  | sourceTransitionStart (p : Fin 8)
  /-- R371. When the target is reached and in band the source sends PS_RDY. -/
  | psRdySend (p : Fin 8)
  /-- R371. No PS_RDY within 500 ms sends Hard Reset. -/
  | sourceTransitionTimeout (p : Fin 8)
  /-- R369. A partner sends no Request within tSenderResponse of new capabilities and receives Hard Reset. -/
  | senderResponseTimeout (p : Fin 8)
  /-- R366. A Hard Reset is sent or received; the source enters HARD_RESET and the sink's contract clears. -/
  | hardReset (p : Fin 8) (sent : Bool)
  /-- R366. tPSHardReset after Hard Reset the source removes VBUS. -/
  | psHardResetTimeout (p : Fin 8)
  /-- R366. tSrcRecover after the discharge ends the source restores VBUS as at attach. -/
  | srcRecoverTimeout (p : Fin 8)
  /-- R374. As sink, the engine re-requests a PPS contract every tPPSRequest. -/
  | ppsRerequest (p : Fin 8)
  /-- R374. As sink in EPR, the engine sends EPR_KeepAlive every tEPRKeepAlive. -/
  | eprKeepaliveSend (p : Fin 8)
  /-- R374. A source PPS contract without a Request for tPPSTimeout receives Hard Reset. -/
  | ppsTimeout (p : Fin 8)
  /-- R374. A source EPR contract without EPR_KeepAlive for tEPRKeepAlive receives Hard Reset. -/
  | eprKeepaliveTimeout (p : Fin 8)
  /-- R375. In a power-role swap the new source's OUT reaches 4.75 V and PS_RDY is sent. -/
  | swapVbusReady (p : Fin 8)
  /-- R375. No partner PS_RDY by tSwapTimeout takes the port to error recovery. -/
  | swapTimeout (p : Fin 8)
  /-- R376. VCONN above 300 mA turns off, sets VCONN_OC and raises TC_p_VCONN. -/
  | vconnTrip (p : Fin 8)
  /-- R380. After WAIT_INT or BUSY_INT a waited Request or busy VDM is retried, or retries end with RETRY_EXH. -/
  | pdRetry (p : Fin 8)
  /-- R379. A message without GoodCRC after nRetryCount completes NOT_READY and sends Soft_Reset. -/
  | goodcrcRetryExhausted (p : Fin 8)
  /-- R378. A passed request unanswered by SEND within 15 ms is answered Not_Supported. -/
  | notSupportedReply (p : Fin 8)
  /-- R381. A structured VDM gets no response within its timer and completes on timeout. -/
  | vdmResponseTimeout (p : Fin 8)
  /-- R383. BC 1.2 detection completes with its result and event. -/
  | bcDone (p : Fin 8) (result : Fin 8)
  /-- R386. A flit failing its CRC is negatively acknowledged and resent. -/
  | flitRetry (l : Fin 7) (throttled : Bool)
  /-- R388. A failed lane moves to the spare, halves the link or takes it DOWN. -/
  | laneFailure (l : Fin 7) (i : Fin 17)
  /-- R389. A DOWN fabric link retrains every 10 ms and on return tiles take the present count. -/
  | linkRetrain (l : Fin 7) (lanes : Fin 17)
  /-- R395. A DOWN chain port sends training patterns every 1 ms. -/
  | chainTrainingPattern (d : Fin 2)
  /-- R395. A chain port completes training and delay measurement and reaches UP. -/
  | portUp (d : Fin 2)
  /-- R395. A chain port failing CRC or block lock goes DOWN, raises CHN_BREAK and its module wraps. -/
  | portDown (d : Fin 2)
  /-- R396. A hop completes its timestamped round trips and reports its delay. -/
  | delayMeasured (d : Fin 2) (delay : Nat)
  /-- R397. The chain elects its master, numbers the nodes, computes L and distributes delays. -/
  | chainLock (k : ChainLock)
  /-- R397. Both ports DOWN for 100 ms outside SLACK make the module a one-node chain. -/
  | aloneTimeout
  /-- R398. Every 1 µs of chain time the master sends an epoch both ways. -/
  | epochSend
  /-- R398. A member receives an epoch and aligns its chain time, re-locking where due. -/
  | epochReceive (e : EpochMsg)
  /-- R405. A re-lock slew not done within 1 s ends with a jump of the rest. -/
  | relockSlewTimeout
  /-- R399. A step or jump record from the master is received and queued with its stamp. -/
  | stepRecordReceive (r : StepRec)
  /-- R399. At chain time stamp plus L the module applies the step to the CHAIN count. -/
  | stepRecordApply
  /-- R402. A member missing an epoch at T + L coasts its count in SLACK and applies sweep policies. -/
  | slackEntry
  /-- R403. SLACK lasting HOLD_MAX clears CHAIN QUAL and makes the segment a chain of its own. -/
  | holdoverExpiry
  /-- R406. A chain frame is accepted or discarded by its sequence number, counting gaps. -/
  | chainFrameReceive (src : Fin 16) (cls : Fin 4) (seq : BitVec 16) (body : ChainBody)
  /-- R407. A module sends its fault summary on change or every 1 ms. -/
  | peerSummarySend
  /-- R407. No summary from node n for 10 ms clears CHN_PEER_n.VALID. -/
  | peerSummaryTimeout (n : Fin 16)
  /-- R407. A CHAIN_SIGNAL occurs on every reachable member at T + L. -/
  | chainSignalFire (n : Fin 64) (payload : Word)
  /-- R496. A port held in TRAIN by its partner for 2 s reads DOWN. -/
  | trainTimeout (d : Fin 2)
  /-- R409. A host port gains or loses block lock and LINK changes. -/
  | hostLinkChange (p : Fin 2) (up : Bool)
  /-- R409. An ARP, Neighbour Discovery or ICMP echo request is answered. -/
  | networkProtocolRequest (p : Fin 2) (kind : NetReq)
  /-- R411. A fragment reassembly not complete in 10 ms is discarded. -/
  | reassemblyTimeout (p : Fin 2)
  /-- R413. An OPEN datagram opens a session and is answered ACCEPT or CLOSE FULL. -/
  | hdpOpen (d : HdpDgram)
  /-- R416. A CLOSE from the host closes the session and clears its state. -/
  | hdpClose (d : HdpDgram)
  /-- R414. A DATA datagram is windowed, delivered in order and its UCS frame passed on. -/
  | hdpData (d : HdpDgram)
  /-- R421. An ACK datagram acknowledges datagrams and advances subscribed ring HEADs. -/
  | hdpAck (d : HdpDgram)
  /-- R414. A KEEPALIVE datagram refreshes the session and learns the peer. -/
  | hdpKeepalive (d : HdpDgram)
  /-- R415. An unacknowledged datagram is resent after the retransmission time. -/
  | hdpRetransmit (i : Fin 16)
  /-- R415. A session idle or unacknowledged for TIMEOUT is closed with TIMEOUT. -/
  | sessionTimeout (i : Fin 16)
  /-- R415. After TIMEOUT / 4 without own traffic the device sends KEEPALIVE. -/
  | keepaliveSend (i : Fin 16)
  /-- R420. A subscribed ring's slots are sent in a STREAM datagram. -/
  | streamSend (i : Fin 16)
  /-- R423. A Sync from the master steps or slews device time. -/
  | ptpSync (m : PtpSync)
  /-- R423. Three missed Announce intervals leave device time free running. -/
  | announceTimeout
  /-- R425. A TW_M write transfer sets the pointer and writes window bytes. -/
  | twMWrite (bytes : List Byte)
  /-- R428. A TW_M read transfer returns window bytes, latching groups. -/
  | twMRead (n : Nat)
  /-- R427. MBX_CMD SUBMIT copies the request buffer as one frame and sets BUSY. -/
  | mbxSubmit
  /-- R427. MBX_CMD RELEASE frees the response and places the next notice or goes IDLE. -/
  | mbxRelease
  /-- R429. The device sends an alert as controller to the host target address. -/
  | alertSend (arbLost ack : Bool)
  /-- R430. An unacknowledged alert is retried with backoff or ALERT_FAIL is set. -/
  | alertRetry (arbLost ack : Bool)
  /-- R433. TW_CTRL.BUSCLR starts a bus clear. -/
  | busclr (rq : Requester) (freed : Bool)
  /-- R433. SDA low 25 ms with an alert waiting, or every 100 ms when stuck, starts a bus clear. -/
  | sdaStuckClear (freed : Bool)
  /-- R433. SCL held low 35 ms releases the lines and resets TW_M state. -/
  | sclTimeout
  /-- R434. TWn_CTRL.GO runs a write, read or probe transfer on a controller bus. -/
  | twTransfer (rq : Requester) (n : Fin 3) (w : Word)
  /-- R434. A controller transfer ends with its result and DONE. -/
  | twTransferDone (n : Fin 3) (r : TwResult)
  /-- R439. A concentrator sends changed dual-rail pair states over Class 0. -/
  | faultPairMessage (src : Fin 384)
  /-- R439. Every 100 µs a concentrator repeats all its pair states. -/
  | concentratorRefresh (die : Fin 7)
  /-- R442. The collector accepts a report, records it and runs its reaction, or loses it during a domain's reaction. -/
  | collectorReport
  /-- R444. A reaction completes and unrecorded asserting L sources of the domain are accepted. -/
  | reactionComplete (domain : Fin 160)
  /-- R440. A pair invalid for 100 ns records source 354 and marks the source SUSPECT. -/
  | railDisagreement (src : Fin 384)
  /-- R440. A suspect pair valid for 1 µs leaves SUSPECT. -/
  | suspectClear (src : Fin 384)
  /-- R441. Collector halves disagree and one half is fenced. -/
  | collectorMismatch (selfErr : Option (Fin 2))
  /-- R447. A W1C write of FLT_SUM clears summary bits unless the L source still asserts. -/
  | fltSumClear (rq : Requester) (k : Fin 12) (w : Word)
  /-- R448. A FLT_CHCLR bit clears a channel trip when permitted. -/
  | fltChclrWrite (rq : Requester) (w : Word)
  /-- R449. FLT_FORCE_CTRL PULSE forces one assertion of a source. -/
  | forcePulse (rq : Requester) (src : Fin 384)
  /-- R449. FLT_FORCE_CTRL HOLD holds a source asserted. -/
  | forceHold (rq : Requester) (src : Fin 384)
  /-- R449. FLT_FORCE_CTRL RELEASE ends a forced hold. -/
  | forceRelease (rq : Requester) (src : Fin 384)
  /-- R451. A failed PLL moves its die to the second PLL hitlessly. -/
  | pllSwitchover (d : Fin 8)
  /-- R451. A lost REFCLK or XTAL moves every PLL to the other reference. -/
  | referenceSwitchover (r : Fin 2)
  /-- R460. A fault of the dispatching core fences it for a takeover or causes an MSS-only reset. -/
  | mssCoreFault
  /-- R461. An MSS-only reset restarts both cores from ROM, preserving outputs and state. -/
  | mssReset
  /-- R462. A quad supervisor restarts while its sector's tiles, thermal unit and concentrator run on. -/
  | supervisorReset (q : Fin 6)
  /-- R463. Every 1 ms the supervisor samples 512 points and cross-checks sensors. -/
  | housekeepingRound (q : Fin 7) (r : HkRound)
  /-- R465. A substituted sensor agreeing for 1 s returns to use. -/
  | sensorRestore (sector : Fin 7) (n : Fin 24)
  /-- R464. Every 10 µs the thermal unit estimates leg junctions and sets the sector level. -/
  | thermalModelStep (sector : Fin 7) (legs : List (Int × Int))
  /-- R466. A level's release hold expires and the sector falls a level, THERMAL becoming HELD. -/
  | thermalLevelRelease (sector : Fin 7)
  /-- R468. Each PAUSE_PER a throttled sector withholds capture traffic or issue for PAUSE_LEN. -/
  | throttlePause (sector : Fin 7)
  /-- R476. The clock monitor detects a stopped or wrong main clock and orders a hard stop. -/
  | mainClkFail
  /-- R478. A write of WDT_KICK by an MSS core restarts the timeout or, with a wrong key, expires it. -/
  | wdtKick (rq : Requester) (w : Word)
  /-- R477. WDT_CTRL.START starts the watchdog in SOFTWARE mode. -/
  | wdtStart (rq : Requester)
  /-- R477. 5 s after reset release the SOFTWARE watchdog starts by itself. -/
  | wdtAutostart
  /-- R480. WDT_CTRL.CNT_CLR clears the watchdog reset count. -/
  | cntClr (rq : Requester)
  /-- R480. The watchdog expires, counts, logs and performs an MSS-only reset or escalates. -/
  | wdtExpiry
  /-- R479. 2 s into a NOR erase the watchdog suspension ends. -/
  | wdtSuspendEnd
  /-- R482. Four buffered log records are written to a NOR page and erase-ahead starts where due. -/
  | logPageWrite (ok : Bool)
  /-- R482. A NOR sector erase completes. -/
  | norEraseDone
  /-- R483. Every TELEM ms the MSS writes a TELEMETRY record. -/
  | telemetrySnapshot
  /-- R488. All sources below 18 V assert power-on reset. -/
  | powerOnReset
  /-- R488. 1 ms after the highest source reaches 20 V power-on reset is released. -/
  | powerOnRelease (vPack vFeedA vFeedB : Nat)
  /-- R489. RESET_N low for 1 µs performs a PIN reset and holds the device in reset. -/
  | resetNAssert
  /-- R490. At reset release the straps are sampled and boot begins. -/
  | resetRelease (st : Straps)
  /-- R492. A boot step completes and the next begins, or boot fails. -/
  | bootStepDone (f : BootFind)
  /-- R494. No inrush within 1 s ends step 6 without the discharge and sets NOBUS. -/
  | nobusTimeout
  /-- R498. RST_CTRL kind 3 requests a device reset after an orderly stop. -/
  | rstDevice (rq : Requester)
  /-- R498. RST_CTRL kind 4 requests an MSS-only reset. -/
  | rstMss (rq : Requester)
  /-- R498. RST_CTRL kind 5 resets one quad supervisor. -/
  | rstSupervisor (rq : Requester) (q : Fin 6)
  /-- R499. RST_CTRL kind 6 resets one channel to role OFF and clears its latches. -/
  | rstChannel (rq : Requester) (c : Fin 24)
  /-- R507. A write of LT_CTRL starts, changes or ends a lane test if the lane may be released. -/
  | ltCtrlWrite (rq : Requester) (link : LtLink) (w : Word)
  /-- R506. LT_CTRL.INJ inverts one bit of the generated stream. -/
  | errorInject (link : LtLink)
  /-- R509. A new TAP instruction takes effect, restricted by the provisioning lock. -/
  | jtagInstructionUpdate (ir : BitVec 8)
  /-- R522. A read of a snapshot LO word captures the 64-bit value into the requester's shadow with its side effects. -/
  | snapshotLoRead (rq : Requester) (addr : Nat)
  /-- R523. A read of a snapshot HI word returns the shadow or a live word with TORN. -/
  | snapshotHiRead (rq : Requester) (addr : Nat)
  /-- R528. A keyed GLB_PROV_CTRL write with LOCK blows the PROV_LOCK fuse with verified pulses. -/
  | provisioningLock (rq : Requester) (w : Word)
  /-- R528. After each 1 ms pulse the row is read and BUSY ends with LOCKED or FAIL. -/
  | provPulseDone (blown doubt : Bool)
  /-- R517. A write to a register with no row of its own writes its fields or is refused whole. -/
  | registerWrite (rq : Requester) (addr : Nat) (w : Word)
  /-- R32. The A and B inputs of ENC_n, or the TICK_IN count clock, become valid again and the source's QUAL bit returns to 1. -/
  | differentialInputValid (src : Fin 6)
  /-- R366. As sink without an explicit contract, the partner's advertised Rp changes and the engine rewrites RG_ILIM_SNK and PARTNER_RP. -/
  | partnerRpChange (p : Fin 8) (rp : Fin 3)
  /-- R321. Current from BUS towards a feed with REV_EN 0 exceeds 5 A and its switches open within 200 ns. -/
  | feedReverseCurrent (f : Fin 2)
  /-- R321. The switches of a feed opened by reverse current close again when BUS falls below the feed voltage. -/
  | feedDiodeReclose (f : Fin 2)
  /-- R505. A STIPPLE checker declares LOCK after seeding and the required error-free bits or words, and begins counting. -/
  | checkerLock (link : LtLink)
  /-- R505. A locked checker reaching 64 errors in 1,024 bits, or 8 bad words in 16, loses LOCK, increments LOSS and reseeds. -/
  | checkerLockLoss (link : LtLink)
  /-- R485. The background scrubber reads a queue-memory word, corrects a CE or reports a UE through MEM_b. -/
  | sramScrub (addr : Nat) (kind : Fin 3)
  /-- R184. An in-place calibration of an active converter unit ends within 100 µs, and the unit's samples stop carrying CAL. -/
  | inPlaceCalibrationEnd (c : Fin 24)
  /-- R450. A lost REFCLK or XTAL returns within tolerance, REF_r LOST deasserts and coverage bit 22 reads 1 again. -/
  | referenceReturn (r : Fin 2)
  /-- R476. The main clock returns within 5 % of its frequency and condition MAIN_CLK of CLKMON, kind L, deasserts. -/
  | mainClkReturn
  /-- R423. A received IEEE 1588 Announce message feeds the best master clock algorithm and moves PTP_STAT.STATE and NO_MASTER. -/
  | ptpAnnounce (m : PtpAnnounce)
  /-- R336. After 10 s without a trip, the HOUSE eFuse retry count restarts. -/
  | houseRetryCountRestart
deriving DecidableEq, Repr

end Sys2Proof
end

