-- ==== Sys2Proof/WellFormed.lean ====
section
/-!
DEFINITION. Which commands the outside world can send: the bounds that the operand types of Syntax.lean do not carry
by themselves. exec is total and needs none of them; statements and decoders name them.
-/

namespace Sys2Proof

open Sys2Proof.Machine

/-- The engines of each STIPPLE link group (Table 20-1). -/
def linkGroupSize (g : Fin 4) : Nat :=
  match g with
  | 0 => 4
  | 1 => 2
  | 2 => 119
  | 3 => 131

/-- A link word names an engine (R502). -/
def LtLink.wf (l : LtLink) : Bool := decide (l.index.val < linkGroupSize l.group)

/-- A register address: aligned, in the register space (R5, R513). -/
def regAddrWf (a : Nat) : Bool := a % 4 == 0 && decide (a < 0x400000)

/-- A control sample has four leg currents (R86, R100). -/
def Sample.wf (x : Sample) : Bool := x.legs.length == 4

/-- A PD message: SOP to SOP″ and the two debug types, a 5-bit message type, at most seven data objects unless it is
extended (R366). -/
def PdMsg.wf (m : PdMsg) : Bool :=
  decide (m.sop ≤ 4) && decide (m.mtype < 32) && (m.extended || decide (m.objs.length ≤ 7))

/-- A lock: this module is one of the chain's, with one hop delay per module at most (R397). -/
def ChainLock.wf (k : ChainLock) : Bool := decide (k.node ≤ k.nodes) && decide (k.hops.length ≤ k.nodes.val + 1)

/-- An epoch carries 64-bit times (R398). -/
def EpochMsg.wf (e : EpochMsg) : Bool := decide (e.time < 2 ^ 64) && decide (e.ext < 2 ^ 64)

/-- A datagram's UDP port is 16 bits wide (R411). -/
def HdpDgram.wf (d : HdpDgram) : Bool := decide (d.udp < 65536)

/-- A housekeeping round reads every sensor of its sector; only the hub's carries the house die's measurements
(R463). -/
def HkRound.wf (q : Fin 7) (r : HkRound) : Bool :=
  if q.val < 6 then r.temps.length == 24 && r.therms.length == 4 && r.house.isEmpty
  else r.temps.length == 22 && r.therms.length == 1

/-- A transfer delivers no more bytes than it counts (R434). -/
def TwResult.wf (r : TwResult) : Bool := decide (r.bytes.length ≤ r.count.val)

/-- The check of a command. Every constructor not named carries its bounds in its types. -/
def Instr.wf (i : Instr) : Bool :=
  match i with
  | .controlSample _ x => x.wf
  | .pdMessageReceive _ m => m.wf
  | .chainLock k => k.wf
  | .epochReceive e => e.wf
  | .hdpOpen d => d.wf
  | .hdpClose d => d.wf
  | .hdpData d => d.wf
  | .hdpAck d => d.wf
  | .hdpKeepalive d => d.wf
  | .housekeepingRound q r => r.wf q
  | .thermalModelStep q legs => legs.length == (if q.val < 6 then 16 else 6)
  | .twMWrite bytes => !bytes.isEmpty
  | .twMRead n => decide (0 < n)
  | .twTransferDone _ r => r.wf
  | .snapshotLoRead _ a => regAddrWf a
  | .snapshotHiRead _ a => regAddrWf a
  | .registerWrite _ a _ => regAddrWf a
  | .sramScrub a _ => decide (0x10000000 ≤ a ∧ a < 0x16000000)
  | .ltCtrlWrite _ l _ => l.wf
  | .errorInject l => l.wf
  | .checkerLock l => l.wf
  | .checkerLockLoss l => l.wf
  | _ => true

end Sys2Proof
end

