-- ==== Sys2Proof/Decode.lean ====
section
/-!
DEFINITION. Words and commands. The opcode table gives its rows no bits, so no table word spells a command. The words
of the Nerog instruction set (R224 to R226, R263) have an encoding of their own: its decoder and encoder stand here.
-/

namespace Sys2Proof

open Sys2Proof.Machine

/-- The command that a word spells by the bits of spec/opcode_table.json: the table gives no row any bits. -/
def decodeTableWord (nbits w : Nat) : Option Instr :=
  match nbits, w with
  | _, _ => none

/-! ### Nerog words -/

/-- The fields of the formats of Table 09-2. -/
def wOp (w : Word) : Nat := (w.extractLsb' 26 6).toNat
def wRd (w : Word) : Fin 32 := (w.extractLsb' 21 5).toFin
def wRa (w : Word) : Fin 32 := (w.extractLsb' 16 5).toFin
def wRb (w : Word) : Fin 32 := (w.extractLsb' 11 5).toFin
def wFn (w : Word) : BitVec 11 := w.extractLsb' 0 11
def wImm (w : Word) : BitVec 16 := w.extractLsb' 0 16
def wCond (w : Word) : Fin 16 := (w.extractLsb' 22 4).toFin
def wOff22 (w : Word) : BitVec 22 := w.extractLsb' 0 22
def wOff21 (w : Word) : BitVec 21 := w.extractLsb' 0 21

/-- The instruction that a word spells for an executor. A word that R225 calls illegal for its opcode or its fn does what
ALU does under a reserved fn, whatever its other fields hold: ILLEGAL with SUB OPCODE; the word 0 is one. A posting opcode
under a reserved fn (R237) does what CHSET does under one: it completes with BAD_ARG and changes nothing. -/
def Nerog.decode (x : Exec) (w : Word) : Option Instr :=
  let d := wRd w
  let a := wRa w
  let b := wRb w
  let f := wFn w
  let i := wImm w
  let n := f.toNat
  match wOp w with
  | 0x01 => some (.alu x d a b f)
  | 0x02 => some (.cmp x a b f)
  | 0x04 => some (.addi x d a i)
  | 0x05 => some (.andi x d a i)
  | 0x06 => some (.ori x d a i)
  | 0x07 => some (.xori x d a i)
  | 0x08 => some (.slli x d a i)
  | 0x09 => some (.srli x d a i)
  | 0x0A => some (.srai x d a i)
  | 0x0B => some (.lui x d i)
  | 0x0C => some (.cmpi x a i)
  | 0x10 => some (.lb x d a i)
  | 0x11 => some (.lbu x d a i)
  | 0x12 => some (.lh x d a i)
  | 0x13 => some (.lhu x d a i)
  | 0x14 => some (.lw x d a i)
  | 0x15 => some (.ld x d a i)
  | 0x16 => some (.sb x d a i)
  | 0x17 => some (.sh x d a i)
  | 0x18 => some (.sw x d a i)
  | 0x19 => some (.sd x d a i)
  | 0x20 => some (.b x (wCond w) (wOff22 w))
  | 0x21 => some (.jal x d (wOff21 w))
  | 0x22 => some (.jalr x d a i)
  | 0x24 => some (.mfsr x d f)
  | 0x25 => some (.mtsr x a f)
  | 0x26 =>
    if n = 0 then some (.tctlStart x d a b)
    else if n = 1 then some (.tctlStop x d a)
    else if n = 2 then some (.tctlReadState x d a)
    else some (.alu x d a b 0x7FF)
  | 0x27 => some (.eret x)
  | 0x28 => some (.waitc x a f)
  | 0x29 => some (.waitt x a f)
  | 0x2A => some (.waite x d a b f)
  | 0x2B => some (.waitg x d a)
  | 0x2C => some (.fence x f)
  | 0x2D => some (.yield x)
  | 0x2E => some (.halt x)
  | 0x30 => some (.chset x d a b f)
  | 0x31 => some (.chramp x d a b f)
  | 0x32 => some (.chmode x d a b f)
  | 0x33 => some (.chgang x d a b)
  | 0x34 => some (.meas x d a b f)
  | 0x35 => if n = 0 then some (.captStart x d a b) else if n = 1 then some (.captStop x d a b) else some (.chset x d a b 0x7FF)
  | 0x36 =>
    if n = 0 then some (.statRead x d a b)
    else if n = 1 then some (.statStart x d a b)
    else if n = 2 then some (.statStop x d a b)
    else some (.chset x d a b 0x7FF)
  | 0x37 => some (.sched x d a)
  | 0x38 => some (.arm x d a)
  | 0x39 => some (.disarm x d a)
  | 0x3A => some (.qpush x d a b)
  | 0x3B => some (.qpop x d a b)
  | 0x3C => if n = 0 then some (.pdmsgSend x d a b) else if n = 1 then some (.pdmsgRecv x d a b) else some (.chset x d a b 0x7FF)
  | 0x3D =>
    if n = 0 then some (.pdvdmStructured x d a b)
    else if n = 1 then some (.pdvdmUnstructured x d a b)
    else if n = 2 then some (.pdvdmRecv x d a b)
    else some (.chset x d a b 0x7FF)
  | 0x3E => some (.fltrd x d a b)
  | 0x3F =>
    if n = 0 then some (.fltforcePulse x d a)
    else if n = 1 then some (.fltforceHold x d a)
    else if n = 2 then some (.fltforceRelease x d a)
    else some (.chset x d a b 0x7FF)
  | _ => some (.alu x d a b 0x7FF)

/-- A register number as a field. -/
def regField (r : Fin 32) : BitVec 5 := BitVec.ofNat 5 r.val

/-- A word of format R (Table 09-2). -/
def wordR (op : BitVec 6) (d a b : Fin 32) (f : BitVec 11) : Word :=
  op ++ regField d ++ regField a ++ regField b ++ f

/-- A word of format I. -/
def wordI (op : BitVec 6) (d a : Fin 32) (i : BitVec 16) : Word := op ++ regField d ++ regField a ++ i

/-- The word of a Nerog instruction, its unused fields 0 (R226); none for a command that is no instruction. -/
def Nerog.encode (i : Instr) : Option Word :=
  match i with
  | .alu _ d a b f => some (wordR 0x01 d a b f)
  | .cmp _ a b f => some (wordR 0x02 0 a b f)
  | .addi _ d a m => some (wordI 0x04 d a m)
  | .andi _ d a m => some (wordI 0x05 d a m)
  | .ori _ d a m => some (wordI 0x06 d a m)
  | .xori _ d a m => some (wordI 0x07 d a m)
  | .slli _ d a m => some (wordI 0x08 d a m)
  | .srli _ d a m => some (wordI 0x09 d a m)
  | .srai _ d a m => some (wordI 0x0A d a m)
  | .lui _ d m => some (wordI 0x0B d 0 m)
  | .cmpi _ a m => some (wordI 0x0C 0 a m)
  | .lb _ d a m => some (wordI 0x10 d a m)
  | .lbu _ d a m => some (wordI 0x11 d a m)
  | .lh _ d a m => some (wordI 0x12 d a m)
  | .lhu _ d a m => some (wordI 0x13 d a m)
  | .lw _ d a m => some (wordI 0x14 d a m)
  | .ld _ d a m => some (wordI 0x15 d a m)
  | .sb _ d a m => some (wordI 0x16 d a m)
  | .sh _ d a m => some (wordI 0x17 d a m)
  | .sw _ d a m => some (wordI 0x18 d a m)
  | .sd _ d a m => some (wordI 0x19 d a m)
  | .b _ c o => some ((0x20 : BitVec 6) ++ BitVec.ofNat 4 c.val ++ o)
  | .jal _ d o => some ((0x21 : BitVec 6) ++ regField d ++ o)
  | .jalr _ d a m => some (wordI 0x22 d a m)
  | .mfsr _ d f => some (wordR 0x24 d 0 0 f)
  | .mtsr _ a f => some (wordR 0x25 0 a 0 f)
  | .tctlStart _ d a b => some (wordR 0x26 d a b 0)
  | .tctlStop _ d a => some (wordR 0x26 d a 0 1)
  | .tctlReadState _ d a => some (wordR 0x26 d a 0 2)
  | .eret _ => some (wordR 0x27 0 0 0 0)
  | .waitc _ a f => some (wordR 0x28 0 a 0 f)
  | .waitt _ a f => some (wordR 0x29 0 a 0 f)
  | .waite _ d a b f => some (wordR 0x2A d a b f)
  | .waitg _ d a => some (wordR 0x2B d a 0 0)
  | .fence _ f => some (wordR 0x2C 0 0 0 f)
  | .yield _ => some (wordR 0x2D 0 0 0 0)
  | .halt _ => some (wordR 0x2E 0 0 0 0)
  | .chset _ d a b f => some (wordR 0x30 d a b f)
  | .chramp _ d a b f => some (wordR 0x31 d a b f)
  | .chmode _ d a b f => some (wordR 0x32 d a b f)
  | .chgang _ d a b => some (wordR 0x33 d a b 0)
  | .meas _ d a b f => some (wordR 0x34 d a b f)
  | .captStart _ d a b => some (wordR 0x35 d a b 0)
  | .captStop _ d a b => some (wordR 0x35 d a b 1)
  | .statRead _ d a b => some (wordR 0x36 d a b 0)
  | .statStart _ d a b => some (wordR 0x36 d a b 1)
  | .statStop _ d a b => some (wordR 0x36 d a b 2)
  | .sched _ d a => some (wordR 0x37 d a 0 0)
  | .arm _ d a => some (wordR 0x38 d a 0 0)
  | .disarm _ d a => some (wordR 0x39 d a 0 0)
  | .qpush _ d a b => some (wordR 0x3A d a b 0)
  | .qpop _ d a b => some (wordR 0x3B d a b 0)
  | .pdmsgSend _ d a b => some (wordR 0x3C d a b 0)
  | .pdmsgRecv _ d a b => some (wordR 0x3C d a b 1)
  | .pdvdmStructured _ d a b => some (wordR 0x3D d a b 0)
  | .pdvdmUnstructured _ d a b => some (wordR 0x3D d a b 1)
  | .pdvdmRecv _ d a b => some (wordR 0x3D d a b 2)
  | .fltrd _ d a b => some (wordR 0x3E d a b 0)
  | .fltforcePulse _ d a => some (wordR 0x3F d a 0 0)
  | .fltforceHold _ d a => some (wordR 0x3F d a 0 1)
  | .fltforceRelease _ d a => some (wordR 0x3F d a 0 2)
  | _ => none

/-- The executor that an instruction names. -/
def Nerog.execOf (i : Instr) : Option Exec :=
  match i with
  | .alu x _ _ _ _ | .cmp x _ _ _ | .addi x _ _ _ | .andi x _ _ _ | .ori x _ _ _ | .xori x _ _ _ | .slli x _ _ _
  | .srli x _ _ _ | .srai x _ _ _ | .lui x _ _ | .cmpi x _ _ | .lb x _ _ _ | .lbu x _ _ _ | .lh x _ _ _
  | .lhu x _ _ _ | .lw x _ _ _ | .ld x _ _ _ | .sb x _ _ _ | .sh x _ _ _ | .sw x _ _ _ | .sd x _ _ _ | .b x _ _
  | .jal x _ _ | .jalr x _ _ _ | .mfsr x _ _ | .mtsr x _ _ | .tctlStart x _ _ _ | .tctlStop x _ _
  | .tctlReadState x _ _ | .eret x | .waitc x _ _ | .waitt x _ _ | .waite x _ _ _ _ | .waitg x _ _ | .fence x _
  | .yield x | .halt x | .chset x _ _ _ _ | .chramp x _ _ _ _ | .chmode x _ _ _ _ | .chgang x _ _ _
  | .meas x _ _ _ _ | .captStart x _ _ _ | .captStop x _ _ _ | .statRead x _ _ _ | .statStart x _ _ _
  | .statStop x _ _ _ | .sched x _ _ | .arm x _ _ | .disarm x _ _ | .qpush x _ _ _ | .qpop x _ _ _
  | .pdmsgSend x _ _ _ | .pdmsgRecv x _ _ _ | .pdvdmStructured x _ _ _ | .pdvdmUnstructured x _ _ _
  | .pdvdmRecv x _ _ _ | .fltrd x _ _ _ | .fltforcePulse x _ _ | .fltforceHold x _ _ | .fltforceRelease x _ _ => some x
  | _ => none

end Sys2Proof
end

