-- ==== Sys2Proof/Config.lean ====
section
/-!
DEFINITION. What the spec leaves open: values with no body, so that nothing can be proved of them but
what holds for every value. State.freeCtr numbers the fresh ones.
-/

namespace Sys2Proof.Machine

/-- A fresh open value, one for each number drawn: which free slot, record index or address is taken
where the spec names no order of choice. -/
opaque Config.freeValue : Nat → Nat

/-- The coefficients of preset loop profile p of a channel, k = 0 to 6 (b0, b1, b2, a1, a2, kpi, kii): the
spec names the presets and not their numbers (R113, R114). -/
opaque Config.presetCoef : Nat → Nat → Int

/-- The shift of preset loop profile p (R114). -/
opaque Config.presetShift : Nat → Nat

/-- The feed-forward on-time of a leg's high switch, in ticks, from its region (4: the D switch in FOUR_SWITCH),
V and VIN in nV, and the span, or the on-time of the A switch (R73, R87, R114). -/
opaque Config.feedForward : Nat → Int → Int → Int → Nat

/-- The loss of the legs in mW at an operating point: VIN and V in nV, I in pA (R81: the spec states it at one
point only). -/
opaque Config.legLoss : Int → Int → Int → Nat

/-- The thread whose committed context an 8-byte word of the context region holds: the spec gives the region and not its
layout (R16, R285). -/
opaque Config.ctxThread : Nat → Nat

/-- The rows and columns that the array repair of a bank has used, as DETAIL of Table 17-7: repairs ship with the part
(R454, R455). -/
opaque Config.memUsed : Nat → Nat

/-- A byte of the UCS mask ROM (R294), whose contents the spec does not give. -/
opaque Config.romByte : Nat → Byte

/-- What is fixed for one part (Table 19-2, "Per part", "Fuse"): the key hash, the serial number, the MAC addresses
of the ports, the quad-die steppings, the firmware versions of the quad supervisors. -/
opaque Config.keyHash : Nat
opaque Config.serial : Nat
opaque Config.mac : Nat → Nat
opaque Config.dieStep : Nat → Nat
opaque Config.fwVer : Nat → Nat

/-- The addresses of the patch points and the bytes for the patch store in the content of a patch set, and the
entries (id, kind, offset, size) of a table library: the spec gives no layout of either (R319, Table 11-12). -/
opaque Config.patchPoints : List Byte → List Nat
opaque Config.patchStore : List Byte → List Byte
opaque Config.libDir : List Byte → List (Nat × Nat × Nat × Nat)

/-- What PROF_GEN leaves open (R315), by its rate, kind and parameters: whether a time between two counts is rounded up,
the distance from a point of a sine segment to the next, and how its value is rounded. -/
opaque Config.profUp : List Word → Nat → Bool
opaque Config.sineGap : List Word → Nat → Nat
opaque Config.sineVal : List Word → Nat → Nat

/-- Calibration of the thermal model (R464): rds25 in Ω, alpha, r[n] in K/W and tau[n] in s of a sensor's leg in a
sector, and its switching loss in J: an 8 x 8 table over a voltage in mV and a current in mA, with its two axes. -/
opaque Config.rds25 : Nat → Nat → Rat
opaque Config.alpha : Nat → Nat → Rat
opaque Config.thR : Nat → Nat → Nat → Rat
opaque Config.thTau : Nat → Nat → Nat → Rat
opaque Config.eSwV : Nat → Nat → Nat → Rat
opaque Config.eSwI : Nat → Nat → Nat → Rat
opaque Config.eSwE : Nat → Nat → Nat → Nat → Rat

/-- The switching frequency of the house legs in Hz, which the spec does not give. -/
opaque Config.houseFsw : Rat

end Sys2Proof.Machine
end

