-- ==== Sys2Proof/Machine/RegNames.lean ====
section
/-!
DEFINITION. The address of every register and the place of every field, from the register tables of
spec/ (the line "NAME — Title (block, offset)" and the Bits column of each chapter). A register of
a block with several instances takes the instance number first. The charger registers serve the 24
channel chargers (k = 0 to 23, CG) and the PACK charger (k = 24, PK at HSE 0x300, R333).
-/

namespace Sys2Proof.Machine

/-- Base of the charger registers: CG of channel k for k < 24, PK for k = 24 (R172, R348). -/
def cgBase (k : Nat) : Nat := if k < 24 then 0x200300 + 0x1000 * k else 0x30300

namespace R
/-- Power-domain request, n = 0 to 6 (R29). -/
def PDOM_REQ (n : Nat) : Nat := 0x60400 + 0x4 * n
/-- Power-domain state, n = 0 to 6 (R29). -/
def PDOM_STAT (n : Nat) : Nat := 0x60420 + 0x4 * n
/-- Last refused domain request (R29). -/
def PDOM_DENY : Nat := 0x60440
/-- Timebase control (R70). -/
def TB_CTRL : Nat := 0x20000
/-- Timebase status (R70). -/
def TB_STAT : Nat := 0x20004
/-- Extended count (R70). -/
def TB_EXT_LO : Nat := 0x20008
/-- Extended count (R70). -/
def TB_EXT_HI : Nat := 0x2000C
/-- Device time (R70). -/
def TB_DTIME_LO : Nat := 0x20010
/-- Device time (R70). -/
def TB_DTIME_HI : Nat := 0x20014
/-- Release of a dispatch freeze (R70). -/
def TB_RELEASE : Nat := 0x20018
/-- Late fires (R70). -/
def TB_LATE_CNT : Nat := 0x2001C
/-- Most recent late fire (R70). -/
def TB_LATE_LAST : Nat := 0x20020
/-- Event pool (R70). -/
def TB_POOL : Nat := 0x20024
/-- Walker state (R70). -/
def TB_WALK : Nat := 0x20028
/-- Skipped repeat periods (R70). -/
def TB_SKIP_CNT : Nat := 0x2002C
/-- Index source configuration, s = 0 ENC_0, 1 ENC_1, 2 TICK_IN (R70). -/
def SRC_CFG (s : Nat) : Nat := 0x20100 + 0x40 * s
/-- Expected index count and period (R70). -/
def IDX_VAL (s : Nat) : Nat := 0x20104 + 0x40 * s
/-- Expected index count and period (R70). -/
def IDX_PERIOD (s : Nat) : Nat := 0x20108 + 0x40 * s
/-- Index tolerance (R70). -/
def IDX_TOL (s : Nat) : Nat := 0x2010C + 0x40 * s
/-- Latest index error (R70). -/
def IDX_ERR (s : Nat) : Nat := 0x20110 + 0x40 * s
/-- Index and decoder counters (R70). -/
def SRC_CNT (s : Nat) : Nat := 0x20114 + 0x40 * s
/-- Mains source configuration (R70). -/
def MAINS_CFG : Nat := 0x201C0
/-- Mains source status (R70). -/
def MAINS_STAT : Nat := 0x201C4
/-- General timer configuration, n = 0 to 15 (R70). -/
def GT_CFG (n : Nat) : Nat := 0x20400 + 0x20 * n
/-- Compare value and period (R70). -/
def GT_CMP (n : Nat) : Nat := 0x20404 + 0x20 * n
/-- Compare value and period (R70). -/
def GT_PERIOD (n : Nat) : Nat := 0x20408 + 0x20 * n
/-- Capture (R70). -/
def GT_CAP_LO (n : Nat) : Nat := 0x2040C + 0x20 * n
/-- Capture (R70). -/
def GT_CAP_HI (n : Nat) : Nat := 0x20410 + 0x20 * n
/-- General timer status (R70). -/
def GT_STAT (n : Nat) : Nat := 0x20414 + 0x20 * n
/-- PWM timing and policy (R99). -/
def PS_PWM (c : Nat) : Nat := 0x200000 + 0x1000 * c
/-- PATH targets (R99). -/
def PS_VSYS (c : Nat) : Nat := 0x200004 + 0x1000 * c
/-- BATFED limits (R99). -/
def PS_BATFED (c : Nat) : Nat := 0x200008 + 0x1000 * c
/-- Leg shedding (R99). -/
def PS_SHED (c : Nat) : Nat := 0x20000C + 0x1000 * c
/-- Overvoltage trip (R99). -/
def PS_OVP (c : Nat) : Nat := 0x200010 + 0x1000 * c
/-- Power-stage status (R99). -/
def PS_STAT (c : Nat) : Nat := 0x200020 + 0x1000 * c
/-- Present ratings (R99). -/
def PS_RATING (c : Nat) : Nat := 0x200024 + 0x1000 * c
/-- PWM edge cases (R99). -/
def PS_EDGE_CNT (c : Nat) : Nat := 0x200028 + 0x1000 * c
/-- Cycle-by-cycle limits (R99). -/
def PS_CBC_CNT (c : Nat) : Nat := 0x20002C + 0x1000 * c
/-- Power-stage fault latch (R99). -/
def PS_LATCH (c : Nat) : Nat := 0x200030 + 0x1000 * c
/-- Burst state (R99). -/
def PS_BURST (c : Nat) : Nat := 0x200034 + 0x1000 * c
/-- Gang membership (R99). -/
def PS_GANG (c : Nat) : Nat := 0x200040 + 0x1000 * c
/-- Set-points (R129). -/
def RG_VSET (c : Nat) : Nat := 0x200100 + 0x1000 * c
/-- Set-points (R129). -/
def RG_ISET (c : Nat) : Nat := 0x200104 + 0x1000 * c
/-- Set-points (R129). -/
def RG_PSET (c : Nat) : Nat := 0x200108 + 0x1000 * c
/-- Set-points (R129). -/
def RG_GSET (c : Nat) : Nat := 0x20010C + 0x1000 * c
/-- Voltage limits (R129). -/
def RG_VLIM_HI (c : Nat) : Nat := 0x200110 + 0x1000 * c
/-- Voltage limits (R129). -/
def RG_VLIM_LO (c : Nat) : Nat := 0x200114 + 0x1000 * c
/-- Current limits (R129). -/
def RG_ILIM_SRC (c : Nat) : Nat := 0x200118 + 0x1000 * c
/-- Current limits (R129). -/
def RG_ILIM_SNK (c : Nat) : Nat := 0x20011C + 0x1000 * c
/-- Power limits (R129). -/
def RG_PLIM_SRC (c : Nat) : Nat := 0x200120 + 0x1000 * c
/-- Power limits (R129). -/
def RG_PLIM_SNK (c : Nat) : Nat := 0x200124 + 0x1000 * c
/-- Voltage and current slew (R129). -/
def RG_SLEW_VI (c : Nat) : Nat := 0x200128 + 0x1000 * c
/-- Power and conductance slew (R129). -/
def RG_SLEW_PG (c : Nat) : Nat := 0x20012C + 0x1000 * c
/-- Loop profile (R129). -/
def RG_LOOP (c : Nat) : Nat := 0x200130 + 0x1000 * c
/-- Custom coefficients b0, b1, b2, a1, a2, kpi, kii (R129). -/
def RG_COEF (c : Nat) (n : Nat) : Nat := 0x200140 + 0x1000 * c + 0x4 * n
/-- Custom shift (R129). -/
def RG_COEF_7 (c : Nat) : Nat := 0x20015C + 0x1000 * c
/-- Saturation supervisor (R129). -/
def RG_SAT (c : Nat) : Nat := 0x200160 + 0x1000 * c
/-- Saturation conditions (R129). -/
def RG_SAT_MASK (c : Nat) : Nat := 0x200164 + 0x1000 * c
/-- Profile table (R129). -/
def RG_PROF_ADDR (c : Nat) : Nat := 0x200168 + 0x1000 * c
/-- Regulation status (R129). -/
def RG_STAT (c : Nat) : Nat := 0x200170 + 0x1000 * c
/-- Ramped reference (R129). -/
def RG_TGT (c : Nat) : Nat := 0x200174 + 0x1000 * c
/-- Regulation fault latch (R129). -/
def RG_LATCH (c : Nat) : Nat := 0x200178 + 0x1000 * c
/-- Control engines (R129). -/
def RG_ENG (c : Nat) : Nat := 0x20017C + 0x1000 * c
/-- Load capacitance estimate (R129). -/
def RG_CEST (c : Nat) : Nat := 0x200180 + 0x1000 * c
/-- Model configuration (R148). -/
def BM_CFG (c : Nat) : Nat := 0x200200 + 0x1000 * c
/-- Model table (R148). -/
def BM_TBL_ADDR (c : Nat) : Nat := 0x200204 + 0x1000 * c
/-- Model temperature (R148). -/
def BM_TEMP (c : Nat) : Nat := 0x200208 + 0x1000 * c
/-- State resets (R148). -/
def BM_CTRL (c : Nat) : Nat := 0x20020C + 0x1000 * c
/-- State of charge (R148). -/
def BM_SOC (c : Nat) : Nat := 0x200210 + 0x1000 * c
/-- Remaining charge (R148). -/
def BM_Q_LO (c : Nat) : Nat := 0x200218 + 0x1000 * c
/-- Remaining charge (R148). -/
def BM_Q_HI (c : Nat) : Nat := 0x20021C + 0x1000 * c
/-- Relaxation and hysteresis (R148). -/
def BM_V1_LO (c : Nat) : Nat := 0x200220 + 0x1000 * c
/-- Relaxation and hysteresis (R148). -/
def BM_V1_HI (c : Nat) : Nat := 0x200224 + 0x1000 * c
/-- Relaxation and hysteresis (R148). -/
def BM_V2_LO (c : Nat) : Nat := 0x200228 + 0x1000 * c
/-- Relaxation and hysteresis (R148). -/
def BM_V2_HI (c : Nat) : Nat := 0x20022C + 0x1000 * c
/-- Relaxation and hysteresis (R148). -/
def BM_H_LO (c : Nat) : Nat := 0x200230 + 0x1000 * c
/-- Relaxation and hysteresis (R148). -/
def BM_H_HI (c : Nat) : Nat := 0x200234 + 0x1000 * c
/-- Model terminal voltage (R148). -/
def BM_VTERM (c : Nat) : Nat := 0x200238 + 0x1000 * c
/-- Open-circuit part (R148). -/
def BM_OCV (c : Nat) : Nat := 0x20023C + 0x1000 * c
/-- Model status (R148). -/
def BM_STAT (c : Nat) : Nat := 0x200240 + 0x1000 * c
/-- Model latch (R148). -/
def BM_LATCH (c : Nat) : Nat := 0x200244 + 0x1000 * c
/-- Charger configuration (R172). -/
def CG_CFG (k : Nat) : Nat := cgBase k + 0x0
/-- Charger commands (R172). -/
def CG_CTRL (k : Nat) : Nat := cgBase k + 0x4
/-- Battery capacity (R172). -/
def CG_CAP (k : Nat) : Nat := cgBase k + 0x8
/-- Charge voltages (R172). -/
def CG_V_CV (k : Nat) : Nat := cgBase k + 0x10
/-- Charge voltages (R172). -/
def CG_V_FLOAT (k : Nat) : Nat := cgBase k + 0x14
/-- Charge voltages (R172). -/
def CG_V_PRE (k : Nat) : Nat := cgBase k + 0x18
/-- Charge voltages (R172). -/
def CG_V_RECHG (k : Nat) : Nat := cgBase k + 0x1C
/-- Charge voltages (R172). -/
def CG_V_OVP (k : Nat) : Nat := cgBase k + 0x20
/-- Charge currents (R172). -/
def CG_I_CC (k : Nat) : Nat := cgBase k + 0x24
/-- Charge currents (R172). -/
def CG_I_PRE (k : Nat) : Nat := cgBase k + 0x28
/-- Charge currents (R172). -/
def CG_I_TERM (k : Nat) : Nat := cgBase k + 0x2C
/-- Charge currents (R172). -/
def CG_I_MAINT (k : Nat) : Nat := cgBase k + 0x30
/-- Phase timers (R172). -/
def CG_TMR_0 (k : Nat) : Nat := cgBase k + 0x34
/-- Phase timers (R172). -/
def CG_TMR_1 (k : Nat) : Nat := cgBase k + 0x38
/-- Phase timers (R172). -/
def CG_TMR_2 (k : Nat) : Nat := cgBase k + 0x3C
/-- Phase timers (R172). -/
def CG_TMR_3 (k : Nat) : Nat := cgBase k + 0x40
/-- Zone bounds (R172). -/
def CG_ZONE_T (k : Nat) : Nat := cgBase k + 0x44
/-- Zone adjustments (R172). -/
def CG_ZONE_ADJ (k : Nat) : Nat := cgBase k + 0x48
/-- Voltage adjustments (R172). -/
def CG_VADJ (k : Nat) : Nat := cgBase k + 0x4C
/-- NiMH termination (R172). -/
def CG_NIMH (k : Nat) : Nat := cgBase k + 0x50
/-- Charger status (R172). -/
def CG_STAT (k : Nat) : Nat := cgBase k + 0x60
/-- Charge timers (R172). -/
def CG_TIME (k : Nat) : Nat := cgBase k + 0x64
/-- Effective charge current (R172). -/
def CG_IEFF (k : Nat) : Nat := cgBase k + 0x68
/-- Charger latch (R172). -/
def CG_LATCH (k : Nat) : Nat := cgBase k + 0x6C
/-- Ranges (R205). -/
def MS_RANGE (c : Nat) : Nat := 0x200400 + 0x1000 * c
/-- Auto-ranging (R205). -/
def MS_AUTO (c : Nat) : Nat := 0x200404 + 0x1000 * c
/-- Stage (R205). -/
def MS_STAGE (c : Nat) : Nat := 0x200408 + 0x1000 * c
/-- Accumulator clear (R205). -/
def MS_ACC_CTRL (c : Nat) : Nat := 0x20040C + 0x1000 * c
/-- Window control (R205). -/
def MS_WIN_CTRL (c : Nat) : Nat := 0x200410 + 0x1000 * c
/-- Window length (R205). -/
def MS_WIN_LEN (c : Nat) : Nat := 0x200414 + 0x1000 * c
/-- Window status (R205). -/
def MS_WIN_STAT (c : Nat) : Nat := 0x200418 + 0x1000 * c
/-- Capture control (R205). -/
def MS_CAP_CTRL (c : Nat) : Nat := 0x20041C + 0x1000 * c
/-- Capture decimation (R205). -/
def MS_CAP_DEC (c : Nat) : Nat := 0x200420 + 0x1000 * c
/-- Capture length (R205). -/
def MS_CAP_LEN (c : Nat) : Nat := 0x200424 + 0x1000 * c
/-- Capture status (R205). -/
def MS_CAP_STAT (c : Nat) : Nat := 0x200428 + 0x1000 * c
/-- Sweep table (R205). -/
def MS_SWP_ADDR (c : Nat) : Nat := 0x20042C + 0x1000 * c
/-- Sweep control (R205). -/
def MS_SWP_CTRL (c : Nat) : Nat := 0x200430 + 0x1000 * c
/-- Sweep status (R205). -/
def MS_SWP_STAT (c : Nat) : Nat := 0x200434 + 0x1000 * c
/-- Measurement status (R205). -/
def MS_STAT (c : Nat) : Nat := 0x200438 + 0x1000 * c
/-- Measurement latch (R205). -/
def MS_LATCH (c : Nat) : Nat := 0x20043C + 0x1000 * c
/-- Latest sample V (R205). -/
def MS_V_LO (c : Nat) : Nat := 0x200460 + 0x1000 * c
/-- Latest sample V (R205). -/
def MS_V_HI (c : Nat) : Nat := 0x200464 + 0x1000 * c
/-- Latest sample VLOC (R205). -/
def MS_VLOC_LO (c : Nat) : Nat := 0x200468 + 0x1000 * c
/-- Latest sample VLOC (R205). -/
def MS_VLOC_HI (c : Nat) : Nat := 0x20046C + 0x1000 * c
/-- Latest sample I (R205). -/
def MS_I_LO (c : Nat) : Nat := 0x200470 + 0x1000 * c
/-- Latest sample I (R205). -/
def MS_I_HI (c : Nat) : Nat := 0x200474 + 0x1000 * c
/-- Latest sample P (R205). -/
def MS_P_LO (c : Nat) : Nat := 0x200478 + 0x1000 * c
/-- Latest sample P (R205). -/
def MS_P_HI (c : Nat) : Nat := 0x20047C + 0x1000 * c
/-- Latest sample VBAT (R205). -/
def MS_VBAT_LO (c : Nat) : Nat := 0x200480 + 0x1000 * c
/-- Latest sample VBAT (R205). -/
def MS_VBAT_HI (c : Nat) : Nat := 0x200484 + 0x1000 * c
/-- Latest sample IBAT (R205). -/
def MS_IBAT_LO (c : Nat) : Nat := 0x200488 + 0x1000 * c
/-- Latest sample IBAT (R205). -/
def MS_IBAT_HI (c : Nat) : Nat := 0x20048C + 0x1000 * c
/-- Latest sample VIN (R205). -/
def MS_VIN_LO (c : Nat) : Nat := 0x200490 + 0x1000 * c
/-- Latest sample VIN (R205). -/
def MS_VIN_HI (c : Nat) : Nat := 0x200494 + 0x1000 * c
/-- Accumulator EOUT (R205). -/
def MS_EOUT_LO (c : Nat) : Nat := 0x200498 + 0x1000 * c
/-- Accumulator EOUT (R205). -/
def MS_EOUT_HI (c : Nat) : Nat := 0x20049C + 0x1000 * c
/-- Accumulator QOUT (R205). -/
def MS_QOUT_LO (c : Nat) : Nat := 0x2004A0 + 0x1000 * c
/-- Accumulator QOUT (R205). -/
def MS_QOUT_HI (c : Nat) : Nat := 0x2004A4 + 0x1000 * c
/-- Accumulator EBAT (R205). -/
def MS_EBAT_LO (c : Nat) : Nat := 0x2004A8 + 0x1000 * c
/-- Accumulator EBAT (R205). -/
def MS_EBAT_HI (c : Nat) : Nat := 0x2004AC + 0x1000 * c
/-- Accumulator QBAT (R205). -/
def MS_QBAT_LO (c : Nat) : Nat := 0x2004B0 + 0x1000 * c
/-- Accumulator QBAT (R205). -/
def MS_QBAT_HI (c : Nat) : Nat := 0x2004B4 + 0x1000 * c
/-- Window result VMIN (R205). -/
def MS_VMIN_LO (c : Nat) : Nat := 0x2004B8 + 0x1000 * c
/-- Window result VMIN (R205). -/
def MS_VMIN_HI (c : Nat) : Nat := 0x2004BC + 0x1000 * c
/-- Window result VMAX (R205). -/
def MS_VMAX_LO (c : Nat) : Nat := 0x2004C0 + 0x1000 * c
/-- Window result VMAX (R205). -/
def MS_VMAX_HI (c : Nat) : Nat := 0x2004C4 + 0x1000 * c
/-- Window result VMEAN (R205). -/
def MS_VMEAN_LO (c : Nat) : Nat := 0x2004C8 + 0x1000 * c
/-- Window result VMEAN (R205). -/
def MS_VMEAN_HI (c : Nat) : Nat := 0x2004CC + 0x1000 * c
/-- Window result VRMS (R205). -/
def MS_VRMS_LO (c : Nat) : Nat := 0x2004D0 + 0x1000 * c
/-- Window result VRMS (R205). -/
def MS_VRMS_HI (c : Nat) : Nat := 0x2004D4 + 0x1000 * c
/-- Window result IMIN (R205). -/
def MS_IMIN_LO (c : Nat) : Nat := 0x2004D8 + 0x1000 * c
/-- Window result IMIN (R205). -/
def MS_IMIN_HI (c : Nat) : Nat := 0x2004DC + 0x1000 * c
/-- Window result IMAX (R205). -/
def MS_IMAX_LO (c : Nat) : Nat := 0x2004E0 + 0x1000 * c
/-- Window result IMAX (R205). -/
def MS_IMAX_HI (c : Nat) : Nat := 0x2004E4 + 0x1000 * c
/-- Window result IMEAN (R205). -/
def MS_IMEAN_LO (c : Nat) : Nat := 0x2004E8 + 0x1000 * c
/-- Window result IMEAN (R205). -/
def MS_IMEAN_HI (c : Nat) : Nat := 0x2004EC + 0x1000 * c
/-- Window result IRMS (R205). -/
def MS_IRMS_LO (c : Nat) : Nat := 0x2004F0 + 0x1000 * c
/-- Window result IRMS (R205). -/
def MS_IRMS_HI (c : Nat) : Nat := 0x2004F4 + 0x1000 * c
/-- Window result PMEAN (R205). -/
def MS_PMEAN_LO (c : Nat) : Nat := 0x2004F8 + 0x1000 * c
/-- Window result PMEAN (R205). -/
def MS_PMEAN_HI (c : Nat) : Nat := 0x2004FC + 0x1000 * c
/-- Requested mode (R219). -/
def MD_REQ (c : Nat) : Nat := 0x200500 + 0x1000 * c
/-- Gang request (R219). -/
def MD_GANG (c : Nat) : Nat := 0x200504 + 0x1000 * c
/-- Resolved mode (R219). -/
def MD_RES (c : Nat) : Nat := 0x200508 + 0x1000 * c
/-- Resolution reasons (R219). -/
def MD_WHY (c : Nat) : Nat := 0x20050C + 0x1000 * c
/-- Resolution status (R219). -/
def MD_STAT (c : Nat) : Nat := 0x200510 + 0x1000 * c
/-- Thread configuration, t = 0 to 63 (R293). -/
def SEQ_THR_CFG (t : Nat) : Nat := 0x70000 + 0x20 * t
/-- Thread status (R293). -/
def SEQ_THR_STAT (t : Nat) : Nat := 0x70004 + 0x20 * t
/-- Committed PC (R293). -/
def SEQ_THR_PC (t : Nat) : Nat := 0x70008 + 0x20 * t
/-- Start argument (R293). -/
def SEQ_THR_ARG (t : Nat) : Nat := 0x7000C + 0x20 * t
/-- Exception record (R293). -/
def SEQ_THR_EXC (t : Nat) : Nat := 0x70010 + 0x20 * t
/-- Exception addresses (R293). -/
def SEQ_THR_EPC (t : Nat) : Nat := 0x70014 + 0x20 * t
/-- Exception addresses (R293). -/
def SEQ_THR_EADDR (t : Nat) : Nat := 0x70018 + 0x20 * t
/-- Cluster state, n = 0 to 3 (R293). -/
def SEQ_CL_STAT (n : Nat) : Nat := 0x70800 + 0x10 * n
/-- Throttle pauses (R293). -/
def SEQ_CL_PAUSE (n : Nat) : Nat := 0x70804 + 0x10 * n
/-- Cluster events (R293). -/
def SEQ_CL_EVT (n : Nat) : Nat := 0x70808 + 0x10 * n
/-- Exception summary (R293). -/
def SEQ_EXC_SUM_LO : Nat := 0x70C00
/-- Exception summary (R293). -/
def SEQ_EXC_SUM_HI : Nat := 0x70C04
/-- Free tags (R293). -/
def SEQ_TAG_FREE : Nat := 0x70C08
/-- Service threads (R320). -/
def UCS_SVC : Nat := 0x60800
/-- UCS status (R320). -/
def UCS_STAT : Nat := 0x60804
/-- Frame errors (R320). -/
def UCS_FRAME_ERR : Nat := 0x60808
/-- Selector configuration (R348). -/
def HSE_SEL_CFG : Nat := 0x30000
/-- Planned switchover (R348). -/
def HSE_SEL_CTRL : Nat := 0x30004
/-- Selector status (R348). -/
def HSE_SEL_STAT : Nat := 0x30008
/-- Warning thresholds (R348). -/
def HSE_FWARN : Nat := 0x3000C
/-- HOUSE tap (R348). -/
def HSE_HOUSE : Nat := 0x30010
/-- House latch (R348). -/
def HSE_LATCH : Nat := 0x30014
/-- Latest house event (R348). -/
def HSE_EVT : Nat := 0x30018
/-- Feed configuration, f = 0 FEED_A, 1 FEED_B (R348). -/
def FD_CFG (f : Nat) : Nat := 0x30100 + 0x40 * f
/-- Feed thresholds (R348). -/
def FD_THR (f : Nat) : Nat := 0x30104 + 0x40 * f
/-- Inrush limit (R348). -/
def FD_INR (f : Nat) : Nat := 0x30108 + 0x40 * f
/-- Feed status (R348). -/
def FD_STAT (f : Nat) : Nat := 0x3010C + 0x40 * f
/-- Feed latch (R348). -/
def FD_LATCH (f : Nat) : Nat := 0x30110 + 0x40 * f
/-- Measurements, n = 0 to 3 FEED_A V, I, P, E; 4 to 7 FEED_B V, I, P, E; 8 to 12 PACK V, I, P, E, Q; 13 HOUSE I; 14 HOUSE E; 15 BUS V (R348). -/
def HSE_M_LO (n : Nat) : Nat := 0x30200 + 0x8 * n
/-- Measurements, n = 0 to 3 FEED_A V, I, P, E; 4 to 7 FEED_B V, I, P, E; 8 to 12 PACK V, I, P, E, Q; 13 HOUSE I; 14 HOUSE E; 15 BUS V (R348). -/
def HSE_M_HI (n : Nat) : Nat := 0x30204 + 0x8 * n
/-- Pack discharge and charge limits (R348). -/
def PK_DIS : Nat := 0x30380
/-- Pack state of charge (R348). -/
def PK_SOC : Nat := 0x30384
/-- Pack latch (R348). -/
def PK_LATCH : Nat := 0x30388
/-- Ledger accounts (R348). -/
def LG_POOL : Nat := 0x30500
/-- Ledger accounts (R348). -/
def LG_FREE : Nat := 0x30504
/-- Ledger accounts (R348). -/
def LG_BURST : Nat := 0x30508
/-- Ledger accounts (R348). -/
def LG_BFREE : Nat := 0x3050C
/-- Ledger accounts (R348). -/
def LG_LENT : Nat := 0x30510
/-- House account (R348). -/
def LG_HOUSE : Nat := 0x30514
/-- Ledger parameters (R348). -/
def LG_CFG : Nat := 0x30518
/-- Ledger status (R348). -/
def LG_STAT : Nat := 0x3051C
/-- Channel holding, c = 0 to 23 (R348). -/
def LG_HELD (c : Nat) : Nat := 0x30540 + 0x4 * c
/-- Standing reservation (R348). -/
def LG_RSV (c : Nat) : Nat := 0x305A0 + 0x4 * c
/-- Line configuration (R360). -/
def LN_CFG (c : Nat) : Nat := 0x200600 + 0x1000 * c
/-- Line request (R360). -/
def LN_CTRL (c : Nat) : Nat := 0x200604 + 0x1000 * c
/-- Line status (R360). -/
def LN_STAT (c : Nat) : Nat := 0x200608 + 0x1000 * c
/-- Line latch (R360). -/
def LN_LATCH (c : Nat) : Nat := 0x20060C + 0x1000 * c
/-- Line current (R360). -/
def LN_MEAS (c : Nat) : Nat := 0x200610 + 0x1000 * c
/-- EVT output enables (R360). -/
def EVT_CFG : Nat := 0x20600
/-- EVT latch (R360). -/
def EVT_LATCH : Nat := 0x20604
/-- EVT levels (R360). -/
def EVT_LVL : Nat := 0x20608
/-- Port configuration (R385). -/
def PD_CFG (p : Nat) : Nat := 0x300000 + 0x1000 * p
/-- Contract slew (R385). -/
def PD_SLEW (p : Nat) : Nat := 0x300004 + 0x1000 * p
/-- Wait and Busy retry (R385). -/
def PD_RETRY (p : Nat) : Nat := 0x300008 + 0x1000 * p
/-- Sink policy (R385). -/
def PD_SNK (p : Nat) : Nat := 0x30000C + 0x1000 * p
/-- Source capabilities 1 to 10 (R385). -/
def PD_SRC_PDO (p n : Nat) : Nat := 0x300010 + 0x1000 * p + 4 * n
/-- Sink capabilities 1 to 6 (R385). -/
def PD_SNK_PDO (p n : Nat) : Nat := 0x300040 + 0x1000 * p + 4 * n
/-- Capabilities and identity, n = 0 to 10, m = 0 to 6, k = 0 to 5, j = 0 to 3 (R385). -/
def PD_ID (p : Nat) (k : Nat) : Nat := 0x300060 + 0x1000 * p + 0x4 * k
/-- Capabilities and identity, n = 0 to 10, m = 0 to 6, k = 0 to 5, j = 0 to 3 (R385). -/
def PD_CABLE (p : Nat) (j : Nat) : Nat := 0x300078 + 0x1000 * p + 0x4 * j
/-- Port status (R385). -/
def PD_STAT (p : Nat) : Nat := 0x300090 + 0x1000 * p
/-- Contract values (R385). -/
def PD_CON_V (p : Nat) : Nat := 0x300094 + 0x1000 * p
/-- Contract values (R385). -/
def PD_CON_I (p : Nat) : Nat := 0x300098 + 0x1000 * p
/-- BC 1.2 (R385). -/
def PD_BC (p : Nat) : Nat := 0x30009C + 0x1000 * p
/-- Port latch (R385). -/
def PD_LATCH (p : Nat) : Nat := 0x3000A0 + 0x1000 * p
/-- Link state, l = 0 to 6 (R408). -/
def FAB_LINK_STAT (l : Nat) : Nat := 0x40000 + 0x20 * l
/-- Link errors (R408). -/
def FAB_LINK_ERR (l : Nat) : Nat := 0x40004 + 0x20 * l
/-- Class 0 latency observed (R408). -/
def FAB_C0_MAX (l : Nat) : Nat := 0x40008 + 0x20 * l
/-- Hub-side credits (R408). -/
def FAB_CRED (l : Nat) : Nat := 0x4000C + 0x20 * l
/-- Class 0 reserve (R408). -/
def FAB_C0_STAT : Nat := 0x40100
/-- Chain configuration (R408). -/
def CHN_CFG : Nat := 0x40800
/-- Holdover limit (R408). -/
def CHN_HOLD : Nat := 0x40804
/-- Chain latency (R408). -/
def CHN_LAT : Nat := 0x40808
/-- Chain status (R408). -/
def CHN_STAT : Nat := 0x4080C
/-- Port state, d = 0 CHAIN_E, 1 CHAIN_W (R408). -/
def CHN_PORT (d : Nat) : Nat := 0x40810 + 0x4 * d
/-- Hop delay (R408). -/
def CHN_DELAY (d : Nat) : Nat := 0x40818 + 0x4 * d
/-- Chain time (R408). -/
def CHN_CTIME_LO : Nat := 0x40820
/-- Chain time (R408). -/
def CHN_CTIME_HI : Nat := 0x40824
/-- Last re-lock offset (R408). -/
def CHN_OFS : Nat := 0x40828
/-- Chain frame errors (R408). -/
def CHN_ERR : Nat := 0x4082C
/-- Chain latch (R408). -/
def CHN_LATCH : Nat := 0x40830
/-- Peer summary, n = 0 to 15 (R408). -/
def CHN_PEER (n : Nat) : Nat := 0x40840 + 0x4 * n
/-- Port configuration, p = 0, 1 (R435). -/
def HST_CFG (p : Nat) : Nat := 0x50000 + 0x40 * p
/-- Addresses, k = 0 to 3 (R435). -/
def HST_IP4 (p : Nat) : Nat := 0x50004 + 0x40 * p
/-- Addresses, k = 0 to 3 (R435). -/
def HST_IP6 (p : Nat) (k : Nat) : Nat := 0x50008 + 0x40 * p + 0x4 * k
/-- MAC address (R435). -/
def HST_MAC_LO (p : Nat) : Nat := 0x50018 + 0x40 * p
/-- MAC address (R435). -/
def HST_MAC_HI (p : Nat) : Nat := 0x5001C + 0x40 * p
/-- Port status (R435). -/
def HST_STAT (p : Nat) : Nat := 0x50020 + 0x40 * p
/-- Discarded datagrams (R435). -/
def HST_DROP (p : Nat) : Nat := 0x50024 + 0x40 * p
/-- HDP port (R435). -/
def HST_HDP : Nat := 0x50100
/-- HDP window and timers (R435). -/
def HST_HDP_TMR : Nat := 0x50104
/-- Sessions (R435). -/
def HST_SESS : Nat := 0x50108
/-- IEEE 1588 configuration (R435). -/
def PTP_CFG : Nat := 0x50200
/-- IEEE 1588 status and offset (R435). -/
def PTP_STAT : Nat := 0x50204
/-- IEEE 1588 status and offset (R435). -/
def PTP_OFS : Nat := 0x50208
/-- TW_M timing (R435). -/
def TW_TIM : Nat := 0x50800
/-- Alert (R435). -/
def TW_ALERT : Nat := 0x50808
/-- TW_M status (R435). -/
def TW_STAT : Nat := 0x5080C
/-- TW_M latch (R435). -/
def TW_LATCH : Nat := 0x50810
/-- TW_M control (R435). -/
def TW_CTRL : Nat := 0x50814
/-- Transfer, n = 0 to 2 (R435). -/
def TWN_CTRL (n : Nat) : Nat := 0x50900 + 0x40 * n
/-- Transfer status (R435). -/
def TWN_STAT (n : Nat) : Nat := 0x50904 + 0x40 * n
/-- Transfer data, k = 0 to 7 (R435). -/
def TWN_DATA (n : Nat) (k : Nat) : Nat := 0x50910 + 0x40 * n + 0x4 * k
/-- Fault summary, k = 0 to 11 (R458). -/
def FLT_SUM (k : Nat) : Nat := 0x10000 + 0x4 * k
/-- INT_N enables (R458). -/
def FLT_INT_EN (k : Nat) : Nat := 0x10040 + 0x4 * k
/-- Collector configuration (R458). -/
def FLT_CFG : Nat := 0x10100
/-- Collector status (R458). -/
def FLT_STAT : Nat := 0x10104
/-- Record count (R458). -/
def FLT_SEQ : Nat := 0x10108
/-- Rail disagreement (R458). -/
def FLT_RAIL : Nat := 0x1010C
/-- Force control (R458). -/
def FLT_FORCE_CTRL : Nat := 0x10110
/-- Forces held (R458). -/
def FLT_HELD (k : Nat) : Nat := 0x10140 + 0x4 * k
/-- Trip clear (R458). -/
def FLT_CHCLR : Nat := 0x10180
/-- Coverage map (R458). -/
def FLT_COVER (n : Nat) : Nat := 0x10200 + 4 * n
/-- Repair record (R458). -/
def FLT_REPAIR_STAT : Nat := 0x10210
/-- MSS cores (R487). -/
def MSS_STAT : Nat := 0x60000
/-- Watchdog control (R487). -/
def WDT_CTRL : Nat := 0x60100
/-- Watchdog kick (R487). -/
def WDT_KICK : Nat := 0x60104
/-- Watchdog status (R487). -/
def WDT_STAT : Nat := 0x60108
/-- Thermal configuration (R487). -/
def THM_CFG : Nat := 0x60200
/-- Sector thermal state, s = 0 to 5, 6 hub (R487). -/
def THM_STAT (s : Nat) : Nat := 0x60210 + 0x4 * s
/-- Thermal latch (R487). -/
def THM_LATCH : Nat := 0x60230
/-- Sensor substitution (R487). -/
def THM_SUB : Nat := 0x60234
/-- Housekeeping (R487). -/
def HK_STAT : Nat := 0x60240
/-- Log (R487). -/
def LOG_STAT : Nat := 0x60300
/-- Log (R487). -/
def LOG_WEAR : Nat := 0x60304
/-- Log (R487). -/
def LOG_CFG : Nat := 0x60308
/-- Dropped records (R487). -/
def LOG_DROP : Nat := 0x6030C
/-- Quad supervisor, q = 0 to 5 (R487). -/
def SUP_STAT (q : Nat) : Nat := 0x60600 + 0x4 * q
/-- Boot status (R501). -/
def BOOT_STAT : Nat := 0x60700
/-- Straps (R501). -/
def BOOT_STRAP : Nat := 0x60704
/-- Last device-level reset (R501). -/
def RST_CAUSE : Nat := 0x60708
/-- Reset request (R501). -/
def RST_CTRL : Nat := 0x6070C
/-- Engine control (R511). -/
def LT_CTRL (g i : Nat) : Nat := 0x80000 + 0x2000 * g + 0x20 * i
/-- User pattern (R511). -/
def LT_PAT_LO (g i : Nat) : Nat := 0x80004 + 0x2000 * g + 0x20 * i
/-- User pattern (R511). -/
def LT_PAT_HI (g i : Nat) : Nat := 0x80008 + 0x2000 * g + 0x20 * i
/-- Engine status (R511). -/
def LT_STAT (g i : Nat) : Nat := 0x8000C + 0x2000 * g + 0x20 * i
/-- Bit errors (R511). -/
def LT_ERR (g i : Nat) : Nat := 0x80010 + 0x2000 * g + 0x20 * i
/-- Bits compared (R511). -/
def LT_BITS_LO (g i : Nat) : Nat := 0x80014 + 0x2000 * g + 0x20 * i
/-- Bits compared (R511). -/
def LT_BITS_HI (g i : Nat) : Nat := 0x80018 + 0x2000 * g + 0x20 * i
/-- Boundary-scan status (R511). -/
def LT_JTAG : Nat := 0x88000
/-- Part number (R529). -/
def GLB_PART : Nat := 0x0
/-- Stepping (R529). -/
def GLB_STEP : Nat := 0x4
/-- Command-set version (R529). -/
def GLB_UCS : Nat := 0x8
/-- Patch set (R529). -/
def GLB_PATCH : Nat := 0xC
/-- Patch-set version (R529). -/
def GLB_PSET_VER : Nat := 0x10
/-- Serial number (R529). -/
def GLB_SERIAL_LO : Nat := 0x18
/-- Serial number (R529). -/
def GLB_SERIAL_HI : Nat := 0x1C
/-- Installed resources (R529). -/
def GLB_CAP : Nat := 0x20
/-- Status pins (R529). -/
def GLB_PINS : Nat := 0x24
/-- Requester identity (R529). -/
def GLB_WHOAMI : Nat := 0x30
/-- Requester status (R529). -/
def GLB_MYSTAT : Nat := 0x34
/-- Latest access error, device-wide (R529). -/
def GLB_ACC_ERR : Nat := 0x38
/-- Address of the latest access error (R529). -/
def GLB_ACC_ADDR : Nat := 0x3C
/-- Scratch, n = 0 to 3 (R529). -/
def GLB_SCRATCH (n : Nat) : Nat := 0x50 + 0x4 * n
/-- Asset tag, n = 0 to 3 (R529). -/
def GLB_ASSET (n : Nat) : Nat := 0x60 + 0x4 * n
/-- Provisioning lock (R529). -/
def GLB_PROV_CTRL : Nat := 0x70
/-- Provisioning state (R529). -/
def GLB_PROV_STAT : Nat := 0x74
/-- Sector identity (R530). -/
def QD_ID (q : Nat) : Nat := 0x100000 + 0x10000 * q
/-- Die sensor, n = 0 to 23 (R530). -/
def QD_TEMP (q : Nat) (n : Nat) : Nat := 0x100100 + 0x10000 * q + 0x4 * n
/-- Die sensor, n = 0 to 23 (R530). -/
def HUB_TEMP (n : Nat) : Nat := 0x60A00 + 0x4 * n
/-- Thermistor THERM_(4q + k), k = 0 to 3 (R530). -/
def QD_THERM (q : Nat) (k : Nat) : Nat := 0x100200 + 0x10000 * q + 0x4 * k
/-- Thermistor THERM_(4q + k), k = 0 to 3 (R530). -/
def HUB_THERM24 : Nat := 0x60A60
end R

namespace F.PDOM_REQ
def REQ_15 (n : Nat) : Fld := ⟨R.PDOM_REQ n, 31, 30⟩
def REQ_14 (n : Nat) : Fld := ⟨R.PDOM_REQ n, 29, 28⟩
def REQ_13 (n : Nat) : Fld := ⟨R.PDOM_REQ n, 27, 26⟩
def REQ_12 (n : Nat) : Fld := ⟨R.PDOM_REQ n, 25, 24⟩
def REQ_11 (n : Nat) : Fld := ⟨R.PDOM_REQ n, 23, 22⟩
def REQ_10 (n : Nat) : Fld := ⟨R.PDOM_REQ n, 21, 20⟩
def REQ_9 (n : Nat) : Fld := ⟨R.PDOM_REQ n, 19, 18⟩
def REQ_8 (n : Nat) : Fld := ⟨R.PDOM_REQ n, 17, 16⟩
def REQ_7 (n : Nat) : Fld := ⟨R.PDOM_REQ n, 15, 14⟩
def REQ_6 (n : Nat) : Fld := ⟨R.PDOM_REQ n, 13, 12⟩
def REQ_5 (n : Nat) : Fld := ⟨R.PDOM_REQ n, 11, 10⟩
def REQ_4 (n : Nat) : Fld := ⟨R.PDOM_REQ n, 9, 8⟩
def REQ_3 (n : Nat) : Fld := ⟨R.PDOM_REQ n, 7, 6⟩
def REQ_2 (n : Nat) : Fld := ⟨R.PDOM_REQ n, 5, 4⟩
def REQ_1 (n : Nat) : Fld := ⟨R.PDOM_REQ n, 3, 2⟩
def REQ_0 (n : Nat) : Fld := ⟨R.PDOM_REQ n, 1, 0⟩
end F.PDOM_REQ
namespace F.PDOM_STAT
def STAT_15 (n : Nat) : Fld := ⟨R.PDOM_STAT n, 31, 30⟩
def STAT_14 (n : Nat) : Fld := ⟨R.PDOM_STAT n, 29, 28⟩
def STAT_13 (n : Nat) : Fld := ⟨R.PDOM_STAT n, 27, 26⟩
def STAT_12 (n : Nat) : Fld := ⟨R.PDOM_STAT n, 25, 24⟩
def STAT_11 (n : Nat) : Fld := ⟨R.PDOM_STAT n, 23, 22⟩
def STAT_10 (n : Nat) : Fld := ⟨R.PDOM_STAT n, 21, 20⟩
def STAT_9 (n : Nat) : Fld := ⟨R.PDOM_STAT n, 19, 18⟩
def STAT_8 (n : Nat) : Fld := ⟨R.PDOM_STAT n, 17, 16⟩
def STAT_7 (n : Nat) : Fld := ⟨R.PDOM_STAT n, 15, 14⟩
def STAT_6 (n : Nat) : Fld := ⟨R.PDOM_STAT n, 13, 12⟩
def STAT_5 (n : Nat) : Fld := ⟨R.PDOM_STAT n, 11, 10⟩
def STAT_4 (n : Nat) : Fld := ⟨R.PDOM_STAT n, 9, 8⟩
def STAT_3 (n : Nat) : Fld := ⟨R.PDOM_STAT n, 7, 6⟩
def STAT_2 (n : Nat) : Fld := ⟨R.PDOM_STAT n, 5, 4⟩
def STAT_1 (n : Nat) : Fld := ⟨R.PDOM_STAT n, 3, 2⟩
def STAT_0 (n : Nat) : Fld := ⟨R.PDOM_STAT n, 1, 0⟩
end F.PDOM_STAT
namespace F.PDOM_DENY
def VALID : Fld := ⟨R.PDOM_DENY, 31, 31⟩
def COUNT : Fld := ⟨R.PDOM_DENY, 30, 24⟩
def REASON : Fld := ⟨R.PDOM_DENY, 15, 8⟩
def DOMAIN : Fld := ⟨R.PDOM_DENY, 6, 0⟩
end F.PDOM_DENY
namespace F.TB_CTRL
def K_M1 : Fld := ⟨R.TB_CTRL, 23, 14⟩
def G : Fld := ⟨R.TB_CTRL, 13, 10⟩
def SRC : Fld := ⟨R.TB_CTRL, 2, 0⟩
end F.TB_CTRL
namespace F.TB_STAT
def CFG_REJ : Fld := ⟨R.TB_STAT, 31, 31⟩
def HOLD : Fld := ⟨R.TB_STAT, 30, 30⟩
def HOLD_SRC : Fld := ⟨R.TB_STAT, 29, 27⟩
def DIR : Fld := ⟨R.TB_STAT, 26, 26⟩
def QUAL : Fld := ⟨R.TB_STAT, 23, 18⟩
def BUCKET : Fld := ⟨R.TB_STAT, 17, 0⟩
end F.TB_STAT
namespace F.TB_EXT_LO
def TBC : Fld := ⟨R.TB_EXT_LO, 31, 0⟩
end F.TB_EXT_LO
namespace F.TB_EXT_HI
def EPOCH : Fld := ⟨R.TB_EXT_HI, 31, 0⟩
end F.TB_EXT_HI
namespace F.TB_DTIME_LO
def DTIME : Fld := ⟨R.TB_DTIME_LO, 31, 0⟩
end F.TB_DTIME_LO
namespace F.TB_DTIME_HI
def DTIME : Fld := ⟨R.TB_DTIME_HI, 31, 0⟩
end F.TB_DTIME_HI
namespace F.TB_RELEASE
def SNAP : Fld := ⟨R.TB_RELEASE, 1, 1⟩
def GO : Fld := ⟨R.TB_RELEASE, 0, 0⟩
end F.TB_RELEASE
namespace F.TB_LATE_CNT
def COUNT : Fld := ⟨R.TB_LATE_CNT, 31, 0⟩
end F.TB_LATE_CNT
namespace F.TB_LATE_LAST
def VALID : Fld := ⟨R.TB_LATE_LAST, 31, 31⟩
def CAUSE : Fld := ⟨R.TB_LATE_LAST, 30, 29⟩
def RECORD : Fld := ⟨R.TB_LATE_LAST, 16, 0⟩
end F.TB_LATE_LAST
namespace F.TB_POOL
def EXH : Fld := ⟨R.TB_POOL, 31, 31⟩
def FREE : Fld := ⟨R.TB_POOL, 17, 0⟩
end F.TB_POOL
namespace F.TB_WALK
def LAGGING : Fld := ⟨R.TB_WALK, 31, 31⟩
def OVF : Fld := ⟨R.TB_WALK, 29, 18⟩
def FRONT : Fld := ⟨R.TB_WALK, 17, 0⟩
end F.TB_WALK
namespace F.TB_SKIP_CNT
def COUNT : Fld := ⟨R.TB_SKIP_CNT, 31, 0⟩
end F.TB_SKIP_CNT
namespace F.SRC_CFG
def IDX_EN (s : Nat) : Fld := ⟨R.SRC_CFG s, 31, 31⟩
def POLICY (s : Nat) : Fld := ⟨R.SRC_CFG s, 30, 29⟩
def IDX_DIR (s : Nat) : Fld := ⟨R.SRC_CFG s, 28, 27⟩
def IDX_AB_EN (s : Nat) : Fld := ⟨R.SRC_CFG s, 26, 26⟩
def IDX_AB (s : Nat) : Fld := ⟨R.SRC_CFG s, 25, 24⟩
def INVERT (s : Nat) : Fld := ⟨R.SRC_CFG s, 20, 20⟩
def FILT (s : Nat) : Fld := ⟨R.SRC_CFG s, 4, 0⟩
end F.SRC_CFG
namespace F.IDX_VAL
def VALUE (s : Nat) : Fld := ⟨R.IDX_VAL s, 31, 0⟩
end F.IDX_VAL
namespace F.IDX_PERIOD
def VALUE (s : Nat) : Fld := ⟨R.IDX_PERIOD s, 31, 0⟩
end F.IDX_PERIOD
namespace F.IDX_TOL
def TOL (s : Nat) : Fld := ⟨R.IDX_TOL s, 15, 0⟩
end F.IDX_TOL
namespace F.IDX_ERR
def ERR (s : Nat) : Fld := ⟨R.IDX_ERR s, 31, 0⟩
end F.IDX_ERR
namespace F.SRC_CNT
def QERR (s : Nat) : Fld := ⟨R.SRC_CNT s, 31, 24⟩
def OUTSIDE (s : Nat) : Fld := ⟨R.SRC_CNT s, 23, 12⟩
def SILENT (s : Nat) : Fld := ⟨R.SRC_CNT s, 11, 0⟩
end F.SRC_CNT
namespace F.MAINS_CFG
def STEP_THR : Fld := ⟨R.MAINS_CFG, 31, 24⟩
def PHASE_OFS : Fld := ⟨R.MAINS_CFG, 17, 0⟩
end F.MAINS_CFG
namespace F.MAINS_STAT
def LOCK : Fld := ⟨R.MAINS_STAT, 31, 31⟩
def HOLDOVER : Fld := ⟨R.MAINS_STAT, 30, 30⟩
def FREQ : Fld := ⟨R.MAINS_STAT, 16, 0⟩
end F.MAINS_STAT
namespace F.GT_CFG
def CMP_EN (n : Nat) : Fld := ⟨R.GT_CFG n, 31, 31⟩
def PERIODIC (n : Nat) : Fld := ⟨R.GT_CFG n, 30, 30⟩
def CMP_DIR (n : Nat) : Fld := ⟨R.GT_CFG n, 29, 28⟩
def CMP_EVT (n : Nat) : Fld := ⟨R.GT_CFG n, 27, 24⟩
def CMP_EVT_EN (n : Nat) : Fld := ⟨R.GT_CFG n, 23, 23⟩
def PULSE (n : Nat) : Fld := ⟨R.GT_CFG n, 22, 16⟩
def EDGE (n : Nat) : Fld := ⟨R.GT_CFG n, 9, 8⟩
def CAP_SRC (n : Nat) : Fld := ⟨R.GT_CFG n, 4, 0⟩
end F.GT_CFG
namespace F.GT_CMP
def VALUE (n : Nat) : Fld := ⟨R.GT_CMP n, 31, 0⟩
end F.GT_CMP
namespace F.GT_PERIOD
def VALUE (n : Nat) : Fld := ⟨R.GT_PERIOD n, 31, 0⟩
end F.GT_PERIOD
namespace F.GT_CAP_LO
def CAP (n : Nat) : Fld := ⟨R.GT_CAP_LO n, 31, 0⟩
end F.GT_CAP_LO
namespace F.GT_CAP_HI
def CAP (n : Nat) : Fld := ⟨R.GT_CAP_HI n, 31, 0⟩
end F.GT_CAP_HI
namespace F.GT_STAT
def VALID (n : Nat) : Fld := ⟨R.GT_STAT n, 31, 31⟩
def OVERRUN (n : Nat) : Fld := ⟨R.GT_STAT n, 30, 30⟩
def MATCH (n : Nat) : Fld := ⟨R.GT_STAT n, 29, 29⟩
def LATE (n : Nat) : Fld := ⟨R.GT_STAT n, 28, 28⟩
def ARMED (n : Nat) : Fld := ⟨R.GT_STAT n, 27, 27⟩
def SWCAP (n : Nat) : Fld := ⟨R.GT_STAT n, 26, 26⟩
end F.GT_STAT
namespace F.PS_PWM
def DEAD (c : Nat) : Fld := ⟨R.PS_PWM c, 31, 24⟩
def SHED_EN (c : Nat) : Fld := ⟨R.PS_PWM c, 21, 21⟩
def MINP_POL (c : Nat) : Fld := ⟨R.PS_PWM c, 20, 20⟩
def PERIOD (c : Nat) : Fld := ⟨R.PS_PWM c, 14, 0⟩
end F.PS_PWM
namespace F.PS_VSYS
def VSYS_MIN (c : Nat) : Fld := ⟨R.PS_VSYS c, 31, 16⟩
def HEAD (c : Nat) : Fld := ⟨R.PS_VSYS c, 15, 8⟩
end F.PS_VSYS
namespace F.PS_BATFED
def UV (c : Nat) : Fld := ⟨R.PS_BATFED c, 31, 16⟩
def IBAT_LIM (c : Nat) : Fld := ⟨R.PS_BATFED c, 15, 0⟩
end F.PS_BATFED
namespace F.PS_SHED
def HOLD (c : Nat) : Fld := ⟨R.PS_SHED c, 15, 8⟩
def THR (c : Nat) : Fld := ⟨R.PS_SHED c, 7, 0⟩
end F.PS_SHED
namespace F.PS_OVP
def OVP (c : Nat) : Fld := ⟨R.PS_OVP c, 15, 0⟩
end F.PS_OVP
namespace F.PS_STAT
def CFG_REJ (c : Nat) : Fld := ⟨R.PS_STAT c, 31, 31⟩
def TRANS (c : Nat) : Fld := ⟨R.PS_STAT c, 30, 30⟩
def PATH (c : Nat) : Fld := ⟨R.PS_STAT c, 29, 28⟩
def BSW (c : Nat) : Fld := ⟨R.PS_STAT c, 27, 26⟩
def INPUT (c : Nat) : Fld := ⟨R.PS_STAT c, 25, 24⟩
def BURST (c : Nat) : Fld := ⟨R.PS_STAT c, 23, 23⟩
def BURST_READY (c : Nat) : Fld := ⟨R.PS_STAT c, 22, 22⟩
def CLAMP (c : Nat) : Fld := ⟨R.PS_STAT c, 21, 21⟩
def LOCAL (c : Nat) : Fld := ⟨R.PS_STAT c, 20, 20⟩
def LEG_ACTIVE (c : Nat) : Fld := ⟨R.PS_STAT c, 15, 12⟩
def LEG_FENCED (c : Nat) : Fld := ⟨R.PS_STAT c, 11, 8⟩
def LEG_SHED (c : Nat) : Fld := ⟨R.PS_STAT c, 7, 4⟩
def OPREG (c : Nat) : Fld := ⟨R.PS_STAT c, 3, 2⟩
end F.PS_STAT
namespace F.PS_RATING
def I_CONT (c : Nat) : Fld := ⟨R.PS_RATING c, 31, 24⟩
def I_PEAK (c : Nat) : Fld := ⟨R.PS_RATING c, 23, 16⟩
def P_CONT (c : Nat) : Fld := ⟨R.PS_RATING c, 15, 8⟩
def P_BURST (c : Nat) : Fld := ⟨R.PS_RATING c, 7, 0⟩
end F.PS_RATING
namespace F.PS_EDGE_CNT
def SKIP (c : Nat) : Fld := ⟨R.PS_EDGE_CNT c, 31, 16⟩
def STRETCH (c : Nat) : Fld := ⟨R.PS_EDGE_CNT c, 15, 8⟩
def DT_SHORT (c : Nat) : Fld := ⟨R.PS_EDGE_CNT c, 7, 0⟩
end F.PS_EDGE_CNT
namespace F.PS_CBC_CNT
def LEG3 (c : Nat) : Fld := ⟨R.PS_CBC_CNT c, 31, 24⟩
def LEG2 (c : Nat) : Fld := ⟨R.PS_CBC_CNT c, 23, 16⟩
def LEG1 (c : Nat) : Fld := ⟨R.PS_CBC_CNT c, 15, 8⟩
def LEG0 (c : Nat) : Fld := ⟨R.PS_CBC_CNT c, 7, 0⟩
end F.PS_CBC_CNT
namespace F.PS_LATCH
def BSW_SOA (c : Nat) : Fld := ⟨R.PS_LATCH c, 12, 12⟩
def BSW_TRIP (c : Nat) : Fld := ⟨R.PS_LATCH c, 11, 11⟩
def OVP (c : Nat) : Fld := ⟨R.PS_LATCH c, 10, 10⟩
def HWTRIP (c : Nat) : Fld := ⟨R.PS_LATCH c, 9, 9⟩
def BATFED_UV (c : Nat) : Fld := ⟨R.PS_LATCH c, 8, 8⟩
def CBC_PERSIST (c : Nat) : Fld := ⟨R.PS_LATCH c, 7, 4⟩
def LEG_FENCE (c : Nat) : Fld := ⟨R.PS_LATCH c, 3, 0⟩
end F.PS_LATCH
namespace F.PS_BURST
def CLAMP_CNT (c : Nat) : Fld := ⟨R.PS_BURST c, 31, 16⟩
def REMAIN (c : Nat) : Fld := ⟨R.PS_BURST c, 9, 0⟩
end F.PS_BURST
namespace F.PS_GANG
def ROLE (c : Nat) : Fld := ⟨R.PS_GANG c, 31, 30⟩
def SIZE (c : Nat) : Fld := ⟨R.PS_GANG c, 29, 28⟩
def LEADER (c : Nat) : Fld := ⟨R.PS_GANG c, 27, 23⟩
def MEMBERS (c : Nat) : Fld := ⟨R.PS_GANG c, 7, 0⟩
end F.PS_GANG
namespace F.RG_VSET
def VALUE (c : Nat) : Fld := ⟨R.RG_VSET c, 31, 0⟩
end F.RG_VSET
namespace F.RG_ISET
def VALUE (c : Nat) : Fld := ⟨R.RG_ISET c, 31, 0⟩
end F.RG_ISET
namespace F.RG_PSET
def VALUE (c : Nat) : Fld := ⟨R.RG_PSET c, 31, 0⟩
end F.RG_PSET
namespace F.RG_GSET
def VALUE (c : Nat) : Fld := ⟨R.RG_GSET c, 31, 0⟩
end F.RG_GSET
namespace F.RG_VLIM_HI
def VALUE (c : Nat) : Fld := ⟨R.RG_VLIM_HI c, 31, 0⟩
end F.RG_VLIM_HI
namespace F.RG_VLIM_LO
def VALUE (c : Nat) : Fld := ⟨R.RG_VLIM_LO c, 31, 0⟩
end F.RG_VLIM_LO
namespace F.RG_ILIM_SRC
def VALUE (c : Nat) : Fld := ⟨R.RG_ILIM_SRC c, 31, 0⟩
end F.RG_ILIM_SRC
namespace F.RG_ILIM_SNK
def VALUE (c : Nat) : Fld := ⟨R.RG_ILIM_SNK c, 31, 0⟩
end F.RG_ILIM_SNK
namespace F.RG_PLIM_SRC
def VALUE (c : Nat) : Fld := ⟨R.RG_PLIM_SRC c, 31, 0⟩
end F.RG_PLIM_SRC
namespace F.RG_PLIM_SNK
def VALUE (c : Nat) : Fld := ⟨R.RG_PLIM_SNK c, 31, 0⟩
end F.RG_PLIM_SNK
namespace F.RG_SLEW_VI
def VSLEW (c : Nat) : Fld := ⟨R.RG_SLEW_VI c, 31, 16⟩
def ISLEW (c : Nat) : Fld := ⟨R.RG_SLEW_VI c, 15, 0⟩
end F.RG_SLEW_VI
namespace F.RG_SLEW_PG
def PSLEW (c : Nat) : Fld := ⟨R.RG_SLEW_PG c, 31, 16⟩
def GSLEW (c : Nat) : Fld := ⟨R.RG_SLEW_PG c, 15, 0⟩
end F.RG_SLEW_PG
namespace F.RG_LOOP
def APPLY (c : Nat) : Fld := ⟨R.RG_LOOP c, 31, 31⟩
def PROF (c : Nat) : Fld := ⟨R.RG_LOOP c, 2, 0⟩
end F.RG_LOOP
namespace F.RG_COEF
def COEF (c : Nat) (n : Nat) : Fld := ⟨R.RG_COEF c n, 31, 0⟩
end F.RG_COEF
namespace F.RG_COEF_7
def SHIFT (c : Nat) : Fld := ⟨R.RG_COEF_7 c, 3, 0⟩
end F.RG_COEF_7
namespace F.RG_SAT
def REACT (c : Nat) : Fld := ⟨R.RG_SAT c, 31, 30⟩
def TSAT (c : Nat) : Fld := ⟨R.RG_SAT c, 25, 0⟩
end F.RG_SAT
namespace F.RG_SAT_MASK
def MASK (c : Nat) : Fld := ⟨R.RG_SAT_MASK c, 4, 0⟩
end F.RG_SAT_MASK
namespace F.RG_PROF_ADDR
def ADDR (c : Nat) : Fld := ⟨R.RG_PROF_ADDR c, 31, 4⟩
end F.RG_PROF_ADDR
namespace F.RG_STAT
def CFG_REJ (c : Nat) : Fld := ⟨R.RG_STAT c, 31, 31⟩
def PEND (c : Nat) : Fld := ⟨R.RG_STAT c, 11, 11⟩
def TCLAMP (c : Nat) : Fld := ⟨R.RG_STAT c, 10, 10⟩
def SAT (c : Nat) : Fld := ⟨R.RG_STAT c, 9, 9⟩
def RAMP (c : Nat) : Fld := ⟨R.RG_STAT c, 8, 8⟩
def LIMIT (c : Nat) : Fld := ⟨R.RG_STAT c, 7, 4⟩
def LAW (c : Nat) : Fld := ⟨R.RG_STAT c, 2, 0⟩
end F.RG_STAT
namespace F.RG_TGT
def R (c : Nat) : Fld := ⟨R.RG_TGT c, 31, 0⟩
end F.RG_TGT
namespace F.RG_LATCH
def COEF_REJ (c : Nat) : Fld := ⟨R.RG_LATCH c, 4, 4⟩
def PROF_ERR (c : Nat) : Fld := ⟨R.RG_LATCH c, 3, 3⟩
def CLOAD_HI (c : Nat) : Fld := ⟨R.RG_LATCH c, 2, 2⟩
def ENG_FENCE (c : Nat) : Fld := ⟨R.RG_LATCH c, 1, 1⟩
def SAT (c : Nat) : Fld := ⟨R.RG_LATCH c, 0, 0⟩
end F.RG_LATCH
namespace F.RG_ENG
def COMPARE (c : Nat) : Fld := ⟨R.RG_ENG c, 31, 31⟩
def ENG_B (c : Nat) : Fld := ⟨R.RG_ENG c, 25, 24⟩
def ENG_A (c : Nat) : Fld := ⟨R.RG_ENG c, 17, 16⟩
def MISMATCH (c : Nat) : Fld := ⟨R.RG_ENG c, 15, 0⟩
end F.RG_ENG
namespace F.RG_CEST
def VALID (c : Nat) : Fld := ⟨R.RG_CEST c, 31, 31⟩
def CEST (c : Nat) : Fld := ⟨R.RG_CEST c, 15, 0⟩
end F.RG_CEST
namespace F.BM_CFG
def EMPTY_REACT (c : Nat) : Fld := ⟨R.BM_CFG c, 1, 1⟩
def TSRC (c : Nat) : Fld := ⟨R.BM_CFG c, 0, 0⟩
end F.BM_CFG
namespace F.BM_TBL_ADDR
def ADDR (c : Nat) : Fld := ⟨R.BM_TBL_ADDR c, 31, 6⟩
end F.BM_TBL_ADDR
namespace F.BM_TEMP
def TEMP (c : Nat) : Fld := ⟨R.BM_TEMP c, 15, 0⟩
end F.BM_TEMP
namespace F.BM_CTRL
def RST_HYST (c : Nat) : Fld := ⟨R.BM_CTRL c, 1, 1⟩
def RST_RELAX (c : Nat) : Fld := ⟨R.BM_CTRL c, 0, 0⟩
end F.BM_CTRL
namespace F.BM_SOC
def SOC (c : Nat) : Fld := ⟨R.BM_SOC c, 31, 0⟩
end F.BM_SOC
namespace F.BM_Q_LO
def Q (c : Nat) : Fld := ⟨R.BM_Q_LO c, 31, 0⟩
end F.BM_Q_LO
namespace F.BM_Q_HI
def Q (c : Nat) : Fld := ⟨R.BM_Q_HI c, 31, 0⟩
end F.BM_Q_HI
namespace F.BM_V1_LO
def V (c : Nat) : Fld := ⟨R.BM_V1_LO c, 31, 0⟩
end F.BM_V1_LO
namespace F.BM_V1_HI
def V (c : Nat) : Fld := ⟨R.BM_V1_HI c, 31, 0⟩
end F.BM_V1_HI
namespace F.BM_V2_LO
def V (c : Nat) : Fld := ⟨R.BM_V2_LO c, 31, 0⟩
end F.BM_V2_LO
namespace F.BM_V2_HI
def V (c : Nat) : Fld := ⟨R.BM_V2_HI c, 31, 0⟩
end F.BM_V2_HI
namespace F.BM_H_LO
def V (c : Nat) : Fld := ⟨R.BM_H_LO c, 31, 0⟩
end F.BM_H_LO
namespace F.BM_H_HI
def V (c : Nat) : Fld := ⟨R.BM_H_HI c, 31, 0⟩
end F.BM_H_HI
namespace F.BM_VTERM
def VTERM (c : Nat) : Fld := ⟨R.BM_VTERM c, 31, 0⟩
end F.BM_VTERM
namespace F.BM_OCV
def OCV (c : Nat) : Fld := ⟨R.BM_OCV c, 31, 0⟩
end F.BM_OCV
namespace F.BM_STAT
def CFG_REJ (c : Nat) : Fld := ⟨R.BM_STAT c, 31, 31⟩
def RUN (c : Nat) : Fld := ⟨R.BM_STAT c, 30, 30⟩
def EMPTY (c : Nat) : Fld := ⟨R.BM_STAT c, 29, 29⟩
def FULL (c : Nat) : Fld := ⟨R.BM_STAT c, 28, 28⟩
def TAU_CLAMP (c : Nat) : Fld := ⟨R.BM_STAT c, 27, 27⟩
def TFALL (c : Nat) : Fld := ⟨R.BM_STAT c, 26, 26⟩
def TUSED (c : Nat) : Fld := ⟨R.BM_STAT c, 15, 0⟩
end F.BM_STAT
namespace F.BM_LATCH
def FULL (c : Nat) : Fld := ⟨R.BM_LATCH c, 2, 2⟩
def EMPTY (c : Nat) : Fld := ⟨R.BM_LATCH c, 1, 1⟩
def TBL_ERR (c : Nat) : Fld := ⟨R.BM_LATCH c, 0, 0⟩
end F.BM_LATCH
namespace F.CG_CFG
def CHEM (k : Nat) : Fld := ⟨R.CG_CFG k, 26, 24⟩
def NCELL (k : Nat) : Fld := ⟨R.CG_CFG k, 21, 16⟩
def DTDT_EN (k : Nat) : Fld := ⟨R.CG_CFG k, 4, 4⟩
def DV_EN (k : Nat) : Fld := ⟨R.CG_CFG k, 3, 3⟩
def MAINT_EN (k : Nat) : Fld := ⟨R.CG_CFG k, 2, 2⟩
def AUTO_RESTART (k : Nat) : Fld := ⟨R.CG_CFG k, 1, 1⟩
def THERM_EN (k : Nat) : Fld := ⟨R.CG_CFG k, 0, 0⟩
end F.CG_CFG
namespace F.CG_CTRL
def LOAD_PRESET (k : Nat) : Fld := ⟨R.CG_CTRL k, 2, 2⟩
def RESTART (k : Nat) : Fld := ⟨R.CG_CTRL k, 1, 1⟩
def CLEAR (k : Nat) : Fld := ⟨R.CG_CTRL k, 0, 0⟩
end F.CG_CTRL
namespace F.CG_CAP
def CAP (k : Nat) : Fld := ⟨R.CG_CAP k, 31, 0⟩
end F.CG_CAP
namespace F.CG_V_CV
def VALUE (k : Nat) : Fld := ⟨R.CG_V_CV k, 31, 0⟩
end F.CG_V_CV
namespace F.CG_V_FLOAT
def VALUE (k : Nat) : Fld := ⟨R.CG_V_FLOAT k, 31, 0⟩
end F.CG_V_FLOAT
namespace F.CG_V_PRE
def VALUE (k : Nat) : Fld := ⟨R.CG_V_PRE k, 31, 0⟩
end F.CG_V_PRE
namespace F.CG_V_RECHG
def VALUE (k : Nat) : Fld := ⟨R.CG_V_RECHG k, 31, 0⟩
end F.CG_V_RECHG
namespace F.CG_V_OVP
def VALUE (k : Nat) : Fld := ⟨R.CG_V_OVP k, 31, 0⟩
end F.CG_V_OVP
namespace F.CG_I_CC
def VALUE (k : Nat) : Fld := ⟨R.CG_I_CC k, 31, 0⟩
end F.CG_I_CC
namespace F.CG_I_PRE
def VALUE (k : Nat) : Fld := ⟨R.CG_I_PRE k, 31, 0⟩
end F.CG_I_PRE
namespace F.CG_I_TERM
def VALUE (k : Nat) : Fld := ⟨R.CG_I_TERM k, 31, 0⟩
end F.CG_I_TERM
namespace F.CG_I_MAINT
def VALUE (k : Nat) : Fld := ⟨R.CG_I_MAINT k, 31, 0⟩
end F.CG_I_MAINT
namespace F.CG_TMR_0
def TA (k : Nat) : Fld := ⟨R.CG_TMR_0 k, 31, 16⟩
def TB (k : Nat) : Fld := ⟨R.CG_TMR_0 k, 15, 0⟩
end F.CG_TMR_0
namespace F.CG_TMR_1
def TA (k : Nat) : Fld := ⟨R.CG_TMR_1 k, 31, 16⟩
def TB (k : Nat) : Fld := ⟨R.CG_TMR_1 k, 15, 0⟩
end F.CG_TMR_1
namespace F.CG_TMR_2
def TA (k : Nat) : Fld := ⟨R.CG_TMR_2 k, 31, 16⟩
def TB (k : Nat) : Fld := ⟨R.CG_TMR_2 k, 15, 0⟩
end F.CG_TMR_2
namespace F.CG_TMR_3
def TA (k : Nat) : Fld := ⟨R.CG_TMR_3 k, 31, 16⟩
def TB (k : Nat) : Fld := ⟨R.CG_TMR_3 k, 15, 0⟩
end F.CG_TMR_3
namespace F.CG_ZONE_T
def T4 (k : Nat) : Fld := ⟨R.CG_ZONE_T k, 31, 24⟩
def T3 (k : Nat) : Fld := ⟨R.CG_ZONE_T k, 23, 16⟩
def T2 (k : Nat) : Fld := ⟨R.CG_ZONE_T k, 15, 8⟩
def T1 (k : Nat) : Fld := ⟨R.CG_ZONE_T k, 7, 0⟩
end F.CG_ZONE_T
namespace F.CG_ZONE_ADJ
def THYS (k : Nat) : Fld := ⟨R.CG_ZONE_ADJ k, 31, 24⟩
def WARM_PCT (k : Nat) : Fld := ⟨R.CG_ZONE_ADJ k, 23, 16⟩
def COOL_PCT (k : Nat) : Fld := ⟨R.CG_ZONE_ADJ k, 15, 8⟩
end F.CG_ZONE_ADJ
namespace F.CG_VADJ
def WARM_DV (k : Nat) : Fld := ⟨R.CG_VADJ k, 31, 16⟩
def TCOMP (k : Nat) : Fld := ⟨R.CG_VADJ k, 15, 0⟩
end F.CG_VADJ
namespace F.CG_NIMH
def HOLDOFF (k : Nat) : Fld := ⟨R.CG_NIMH k, 31, 24⟩
def DTDT_THR (k : Nat) : Fld := ⟨R.CG_NIMH k, 23, 16⟩
def DV_THR (k : Nat) : Fld := ⟨R.CG_NIMH k, 15, 0⟩
end F.CG_NIMH
namespace F.CG_STAT
def CFG_REJ (k : Nat) : Fld := ⟨R.CG_STAT k, 31, 31⟩
def PHASE (k : Nat) : Fld := ⟨R.CG_STAT k, 27, 24⟩
def PREV (k : Nat) : Fld := ⟨R.CG_STAT k, 23, 20⟩
def ZONE (k : Nat) : Fld := ⟨R.CG_STAT k, 18, 16⟩
def BIND_SOA (k : Nat) : Fld := ⟨R.CG_STAT k, 14, 14⟩
def BIND_CREDIT (k : Nat) : Fld := ⟨R.CG_STAT k, 13, 13⟩
def BIND_INPUT (k : Nat) : Fld := ⟨R.CG_STAT k, 12, 12⟩
def RREASON (k : Nat) : Fld := ⟨R.CG_STAT k, 11, 10⟩
def FCODE (k : Nat) : Fld := ⟨R.CG_STAT k, 7, 0⟩
end F.CG_STAT
namespace F.CG_TIME
def TOTAL (k : Nat) : Fld := ⟨R.CG_TIME k, 31, 16⟩
def PHASE_T (k : Nat) : Fld := ⟨R.CG_TIME k, 15, 0⟩
end F.CG_TIME
namespace F.CG_IEFF
def I_CHG (k : Nat) : Fld := ⟨R.CG_IEFF k, 31, 0⟩
end F.CG_IEFF
namespace F.CG_LATCH
def PRESET_CLAMP (k : Nat) : Fld := ⟨R.CG_LATCH k, 7, 7⟩
def DTDT_TERM (k : Nat) : Fld := ⟨R.CG_LATCH k, 6, 6⟩
def DV_TERM (k : Nat) : Fld := ⟨R.CG_LATCH k, 5, 5⟩
def REST (k : Nat) : Fld := ⟨R.CG_LATCH k, 4, 4⟩
def RESTART (k : Nat) : Fld := ⟨R.CG_LATCH k, 3, 3⟩
def CV_TMO (k : Nat) : Fld := ⟨R.CG_LATCH k, 2, 2⟩
def DONE (k : Nat) : Fld := ⟨R.CG_LATCH k, 1, 1⟩
def FAULT (k : Nat) : Fld := ⟨R.CG_LATCH k, 0, 0⟩
end F.CG_LATCH
namespace F.MS_RANGE
def IACT (c : Nat) : Fld := ⟨R.MS_RANGE c, 26, 24⟩
def VACT (c : Nat) : Fld := ⟨R.MS_RANGE c, 21, 20⟩
def IRES (c : Nat) : Fld := ⟨R.MS_RANGE c, 18, 16⟩
def VRES (c : Nat) : Fld := ⟨R.MS_RANGE c, 13, 12⟩
def IREQ (c : Nat) : Fld := ⟨R.MS_RANGE c, 10, 8⟩
def VREQ (c : Nat) : Fld := ⟨R.MS_RANGE c, 5, 4⟩
end F.MS_RANGE
namespace F.MS_AUTO
def DOWN_HOLD (c : Nat) : Fld := ⟨R.MS_AUTO c, 31, 16⟩
def ICEIL (c : Nat) : Fld := ⟨R.MS_AUTO c, 10, 8⟩
def IFLOOR (c : Nat) : Fld := ⟨R.MS_AUTO c, 2, 0⟩
end F.MS_AUTO
namespace F.MS_STAGE
def HCNT (c : Nat) : Fld := ⟨R.MS_STAGE c, 31, 16⟩
def ACT (c : Nat) : Fld := ⟨R.MS_STAGE c, 7, 6⟩
def RES (c : Nat) : Fld := ⟨R.MS_STAGE c, 5, 4⟩
def REQ (c : Nat) : Fld := ⟨R.MS_STAGE c, 1, 0⟩
end F.MS_STAGE
namespace F.MS_ACC_CTRL
def CLR_QBAT (c : Nat) : Fld := ⟨R.MS_ACC_CTRL c, 3, 3⟩
def CLR_EBAT (c : Nat) : Fld := ⟨R.MS_ACC_CTRL c, 2, 2⟩
def CLR_QOUT (c : Nat) : Fld := ⟨R.MS_ACC_CTRL c, 1, 1⟩
def CLR_EOUT (c : Nat) : Fld := ⟨R.MS_ACC_CTRL c, 0, 0⟩
end F.MS_ACC_CTRL
namespace F.MS_WIN_CTRL
def START (c : Nat) : Fld := ⟨R.MS_WIN_CTRL c, 31, 31⟩
def STOP (c : Nat) : Fld := ⟨R.MS_WIN_CTRL c, 30, 30⟩
def REPEAT (c : Nat) : Fld := ⟨R.MS_WIN_CTRL c, 29, 29⟩
def RING_EN (c : Nat) : Fld := ⟨R.MS_WIN_CTRL c, 28, 28⟩
def RING (c : Nat) : Fld := ⟨R.MS_WIN_CTRL c, 11, 0⟩
end F.MS_WIN_CTRL
namespace F.MS_WIN_LEN
def LEN (c : Nat) : Fld := ⟨R.MS_WIN_LEN c, 31, 0⟩
end F.MS_WIN_LEN
namespace F.MS_WIN_STAT
def VALID (c : Nat) : Fld := ⟨R.MS_WIN_STAT c, 31, 31⟩
def OPEN (c : Nat) : Fld := ⟨R.MS_WIN_STAT c, 30, 30⟩
def FLAGS (c : Nat) : Fld := ⟨R.MS_WIN_STAT c, 23, 16⟩
def SEQ (c : Nat) : Fld := ⟨R.MS_WIN_STAT c, 15, 0⟩
end F.MS_WIN_STAT
namespace F.MS_CAP_CTRL
def START (c : Nat) : Fld := ⟨R.MS_CAP_CTRL c, 31, 31⟩
def STOP (c : Nat) : Fld := ⟨R.MS_CAP_CTRL c, 30, 30⟩
def RUN (c : Nat) : Fld := ⟨R.MS_CAP_CTRL c, 29, 29⟩
def DMODE (c : Nat) : Fld := ⟨R.MS_CAP_CTRL c, 28, 28⟩
def RING (c : Nat) : Fld := ⟨R.MS_CAP_CTRL c, 11, 0⟩
end F.MS_CAP_CTRL
namespace F.MS_CAP_DEC
def DEC_M1 (c : Nat) : Fld := ⟨R.MS_CAP_DEC c, 15, 0⟩
end F.MS_CAP_DEC
namespace F.MS_CAP_LEN
def LEN (c : Nat) : Fld := ⟨R.MS_CAP_LEN c, 31, 0⟩
end F.MS_CAP_LEN
namespace F.MS_CAP_STAT
def DROP (c : Nat) : Fld := ⟨R.MS_CAP_STAT c, 31, 16⟩
end F.MS_CAP_STAT
namespace F.MS_SWP_ADDR
def ADDR (c : Nat) : Fld := ⟨R.MS_SWP_ADDR c, 31, 4⟩
end F.MS_SWP_ADDR
namespace F.MS_SWP_CTRL
def START (c : Nat) : Fld := ⟨R.MS_SWP_CTRL c, 31, 31⟩
def ABORT (c : Nat) : Fld := ⟨R.MS_SWP_CTRL c, 30, 30⟩
def RUN (c : Nat) : Fld := ⟨R.MS_SWP_CTRL c, 29, 29⟩
def RING_EN (c : Nat) : Fld := ⟨R.MS_SWP_CTRL c, 28, 28⟩
def RING (c : Nat) : Fld := ⟨R.MS_SWP_CTRL c, 11, 0⟩
end F.MS_SWP_CTRL
namespace F.MS_SWP_STAT
def PAUSED (c : Nat) : Fld := ⟨R.MS_SWP_STAT c, 31, 31⟩
def STEP (c : Nat) : Fld := ⟨R.MS_SWP_STAT c, 15, 0⟩
end F.MS_SWP_STAT
namespace F.MS_STAT
def CFG_REJ (c : Nat) : Fld := ⟨R.MS_STAT c, 31, 31⟩
def OVR (c : Nat) : Fld := ⟨R.MS_STAT c, 30, 30⟩
def RCHG (c : Nat) : Fld := ⟨R.MS_STAT c, 29, 29⟩
def SLACK (c : Nat) : Fld := ⟨R.MS_STAT c, 28, 28⟩
end F.MS_STAT
namespace F.MS_LATCH
def SWP_ERR (c : Nat) : Fld := ⟨R.MS_LATCH c, 4, 4⟩
def CAP_DROP (c : Nat) : Fld := ⟨R.MS_LATCH c, 3, 3⟩
def HO_LIMIT (c : Nat) : Fld := ⟨R.MS_LATCH c, 2, 2⟩
def STILL_CLAMP (c : Nat) : Fld := ⟨R.MS_LATCH c, 1, 1⟩
def OVR (c : Nat) : Fld := ⟨R.MS_LATCH c, 0, 0⟩
end F.MS_LATCH
namespace F.MS_V_LO
def VALUE (c : Nat) : Fld := ⟨R.MS_V_LO c, 31, 0⟩
end F.MS_V_LO
namespace F.MS_V_HI
def VALUE (c : Nat) : Fld := ⟨R.MS_V_HI c, 31, 0⟩
end F.MS_V_HI
namespace F.MS_VLOC_LO
def VALUE (c : Nat) : Fld := ⟨R.MS_VLOC_LO c, 31, 0⟩
end F.MS_VLOC_LO
namespace F.MS_VLOC_HI
def VALUE (c : Nat) : Fld := ⟨R.MS_VLOC_HI c, 31, 0⟩
end F.MS_VLOC_HI
namespace F.MS_I_LO
def VALUE (c : Nat) : Fld := ⟨R.MS_I_LO c, 31, 0⟩
end F.MS_I_LO
namespace F.MS_I_HI
def VALUE (c : Nat) : Fld := ⟨R.MS_I_HI c, 31, 0⟩
end F.MS_I_HI
namespace F.MS_P_LO
def VALUE (c : Nat) : Fld := ⟨R.MS_P_LO c, 31, 0⟩
end F.MS_P_LO
namespace F.MS_P_HI
def VALUE (c : Nat) : Fld := ⟨R.MS_P_HI c, 31, 0⟩
end F.MS_P_HI
namespace F.MS_VBAT_LO
def VALUE (c : Nat) : Fld := ⟨R.MS_VBAT_LO c, 31, 0⟩
end F.MS_VBAT_LO
namespace F.MS_VBAT_HI
def VALUE (c : Nat) : Fld := ⟨R.MS_VBAT_HI c, 31, 0⟩
end F.MS_VBAT_HI
namespace F.MS_IBAT_LO
def VALUE (c : Nat) : Fld := ⟨R.MS_IBAT_LO c, 31, 0⟩
end F.MS_IBAT_LO
namespace F.MS_IBAT_HI
def VALUE (c : Nat) : Fld := ⟨R.MS_IBAT_HI c, 31, 0⟩
end F.MS_IBAT_HI
namespace F.MS_VIN_LO
def VALUE (c : Nat) : Fld := ⟨R.MS_VIN_LO c, 31, 0⟩
end F.MS_VIN_LO
namespace F.MS_VIN_HI
def VALUE (c : Nat) : Fld := ⟨R.MS_VIN_HI c, 31, 0⟩
end F.MS_VIN_HI
namespace F.MS_EOUT_LO
def VALUE (c : Nat) : Fld := ⟨R.MS_EOUT_LO c, 31, 0⟩
end F.MS_EOUT_LO
namespace F.MS_EOUT_HI
def VALUE (c : Nat) : Fld := ⟨R.MS_EOUT_HI c, 31, 0⟩
end F.MS_EOUT_HI
namespace F.MS_QOUT_LO
def VALUE (c : Nat) : Fld := ⟨R.MS_QOUT_LO c, 31, 0⟩
end F.MS_QOUT_LO
namespace F.MS_QOUT_HI
def VALUE (c : Nat) : Fld := ⟨R.MS_QOUT_HI c, 31, 0⟩
end F.MS_QOUT_HI
namespace F.MS_EBAT_LO
def VALUE (c : Nat) : Fld := ⟨R.MS_EBAT_LO c, 31, 0⟩
end F.MS_EBAT_LO
namespace F.MS_EBAT_HI
def VALUE (c : Nat) : Fld := ⟨R.MS_EBAT_HI c, 31, 0⟩
end F.MS_EBAT_HI
namespace F.MS_QBAT_LO
def VALUE (c : Nat) : Fld := ⟨R.MS_QBAT_LO c, 31, 0⟩
end F.MS_QBAT_LO
namespace F.MS_QBAT_HI
def VALUE (c : Nat) : Fld := ⟨R.MS_QBAT_HI c, 31, 0⟩
end F.MS_QBAT_HI
namespace F.MS_VMIN_LO
def VALUE (c : Nat) : Fld := ⟨R.MS_VMIN_LO c, 31, 0⟩
end F.MS_VMIN_LO
namespace F.MS_VMIN_HI
def VALUE (c : Nat) : Fld := ⟨R.MS_VMIN_HI c, 31, 0⟩
end F.MS_VMIN_HI
namespace F.MS_VMAX_LO
def VALUE (c : Nat) : Fld := ⟨R.MS_VMAX_LO c, 31, 0⟩
end F.MS_VMAX_LO
namespace F.MS_VMAX_HI
def VALUE (c : Nat) : Fld := ⟨R.MS_VMAX_HI c, 31, 0⟩
end F.MS_VMAX_HI
namespace F.MS_VMEAN_LO
def VALUE (c : Nat) : Fld := ⟨R.MS_VMEAN_LO c, 31, 0⟩
end F.MS_VMEAN_LO
namespace F.MS_VMEAN_HI
def VALUE (c : Nat) : Fld := ⟨R.MS_VMEAN_HI c, 31, 0⟩
end F.MS_VMEAN_HI
namespace F.MS_VRMS_LO
def VALUE (c : Nat) : Fld := ⟨R.MS_VRMS_LO c, 31, 0⟩
end F.MS_VRMS_LO
namespace F.MS_VRMS_HI
def VALUE (c : Nat) : Fld := ⟨R.MS_VRMS_HI c, 31, 0⟩
end F.MS_VRMS_HI
namespace F.MS_IMIN_LO
def VALUE (c : Nat) : Fld := ⟨R.MS_IMIN_LO c, 31, 0⟩
end F.MS_IMIN_LO
namespace F.MS_IMIN_HI
def VALUE (c : Nat) : Fld := ⟨R.MS_IMIN_HI c, 31, 0⟩
end F.MS_IMIN_HI
namespace F.MS_IMAX_LO
def VALUE (c : Nat) : Fld := ⟨R.MS_IMAX_LO c, 31, 0⟩
end F.MS_IMAX_LO
namespace F.MS_IMAX_HI
def VALUE (c : Nat) : Fld := ⟨R.MS_IMAX_HI c, 31, 0⟩
end F.MS_IMAX_HI
namespace F.MS_IMEAN_LO
def VALUE (c : Nat) : Fld := ⟨R.MS_IMEAN_LO c, 31, 0⟩
end F.MS_IMEAN_LO
namespace F.MS_IMEAN_HI
def VALUE (c : Nat) : Fld := ⟨R.MS_IMEAN_HI c, 31, 0⟩
end F.MS_IMEAN_HI
namespace F.MS_IRMS_LO
def VALUE (c : Nat) : Fld := ⟨R.MS_IRMS_LO c, 31, 0⟩
end F.MS_IRMS_LO
namespace F.MS_IRMS_HI
def VALUE (c : Nat) : Fld := ⟨R.MS_IRMS_HI c, 31, 0⟩
end F.MS_IRMS_HI
namespace F.MS_PMEAN_LO
def VALUE (c : Nat) : Fld := ⟨R.MS_PMEAN_LO c, 31, 0⟩
end F.MS_PMEAN_LO
namespace F.MS_PMEAN_HI
def VALUE (c : Nat) : Fld := ⟨R.MS_PMEAN_HI c, 31, 0⟩
end F.MS_PMEAN_HI
namespace F.MD_REQ
def PD (c : Nat) : Fld := ⟨R.MD_REQ c, 31, 30⟩
def GSIZE (c : Nat) : Fld := ⟨R.MD_REQ c, 29, 28⟩
def GROLE (c : Nat) : Fld := ⟨R.MD_REQ c, 27, 26⟩
def VRANGE (c : Nat) : Fld := ⟨R.MD_REQ c, 21, 20⟩
def IRANGE (c : Nat) : Fld := ⟨R.MD_REQ c, 18, 16⟩
def STAGE (c : Nat) : Fld := ⟨R.MD_REQ c, 13, 12⟩
def PATH (c : Nat) : Fld := ⟨R.MD_REQ c, 9, 8⟩
def LAW (c : Nat) : Fld := ⟨R.MD_REQ c, 6, 4⟩
def ROLE (c : Nat) : Fld := ⟨R.MD_REQ c, 1, 0⟩
end F.MD_REQ
namespace F.MD_GANG
def SIZE (c : Nat) : Fld := ⟨R.MD_GANG c, 1, 0⟩
end F.MD_GANG
namespace F.MD_RES
def RES (c : Nat) : Fld := ⟨R.MD_RES c, 31, 0⟩
end F.MD_RES
namespace F.MD_WHY
def WHY (c : Nat) : Fld := ⟨R.MD_WHY c, 26, 0⟩
end F.MD_WHY
namespace F.MD_STAT
def CFG_REJ (c : Nat) : Fld := ⟨R.MD_STAT c, 31, 31⟩
def RERES (c : Nat) : Fld := ⟨R.MD_STAT c, 30, 30⟩
def SEQ (c : Nat) : Fld := ⟨R.MD_STAT c, 15, 0⟩
end F.MD_STAT
namespace F.SEQ_THR_CFG
def FORCE (t : Nat) : Fld := ⟨R.SEQ_THR_CFG t, 31, 31⟩
def TAGX (t : Nat) : Fld := ⟨R.SEQ_THR_CFG t, 30, 30⟩
def OPX (t : Nat) : Fld := ⟨R.SEQ_THR_CFG t, 29, 29⟩
end F.SEQ_THR_CFG
namespace F.SEQ_THR_STAT
def STATE (t : Nat) : Fld := ⟨R.SEQ_THR_STAT t, 31, 28⟩
def WKIND (t : Nat) : Fld := ⟨R.SEQ_THR_STAT t, 27, 25⟩
def PAUSED (t : Nat) : Fld := ⟨R.SEQ_THR_STAT t, 24, 24⟩
def DONE (t : Nat) : Fld := ⟨R.SEQ_THR_STAT t, 15, 8⟩
def OUT (t : Nat) : Fld := ⟨R.SEQ_THR_STAT t, 7, 0⟩
end F.SEQ_THR_STAT
namespace F.SEQ_THR_PC
def PC (t : Nat) : Fld := ⟨R.SEQ_THR_PC t, 31, 0⟩
end F.SEQ_THR_PC
namespace F.SEQ_THR_ARG
def ARG (t : Nat) : Fld := ⟨R.SEQ_THR_ARG t, 31, 0⟩
end F.SEQ_THR_ARG
namespace F.SEQ_THR_EXC
def VALID (t : Nat) : Fld := ⟨R.SEQ_THR_EXC t, 31, 31⟩
def MORE (t : Nat) : Fld := ⟨R.SEQ_THR_EXC t, 30, 30⟩
def CAUSE (t : Nat) : Fld := ⟨R.SEQ_THR_EXC t, 15, 8⟩
def SUB (t : Nat) : Fld := ⟨R.SEQ_THR_EXC t, 7, 0⟩
end F.SEQ_THR_EXC
namespace F.SEQ_THR_EPC
def ADDR (t : Nat) : Fld := ⟨R.SEQ_THR_EPC t, 31, 0⟩
end F.SEQ_THR_EPC
namespace F.SEQ_THR_EADDR
def ADDR (t : Nat) : Fld := ⟨R.SEQ_THR_EADDR t, 31, 0⟩
end F.SEQ_THR_EADDR
namespace F.SEQ_CL_STAT
def THROTTLE (n : Nat) : Fld := ⟨R.SEQ_CL_STAT n, 24, 24⟩
def SLOTMAP (n : Nat) : Fld := ⟨R.SEQ_CL_STAT n, 23, 12⟩
def PAIRS (n : Nat) : Fld := ⟨R.SEQ_CL_STAT n, 9, 0⟩
end F.SEQ_CL_STAT
namespace F.SEQ_CL_PAUSE
def PAUSES (n : Nat) : Fld := ⟨R.SEQ_CL_PAUSE n, 31, 16⟩
def TIME (n : Nat) : Fld := ⟨R.SEQ_CL_PAUSE n, 15, 0⟩
end F.SEQ_CL_PAUSE
namespace F.SEQ_CL_EVT
def MIGR (n : Nat) : Fld := ⟨R.SEQ_CL_EVT n, 31, 24⟩
end F.SEQ_CL_EVT
namespace F.SEQ_EXC_SUM_LO
def THR : Fld := ⟨R.SEQ_EXC_SUM_LO, 31, 0⟩
end F.SEQ_EXC_SUM_LO
namespace F.SEQ_EXC_SUM_HI
def THR : Fld := ⟨R.SEQ_EXC_SUM_HI, 31, 0⟩
end F.SEQ_EXC_SUM_HI
namespace F.SEQ_TAG_FREE
def FREE : Fld := ⟨R.SEQ_TAG_FREE, 12, 0⟩
end F.SEQ_TAG_FREE
namespace F.UCS_SVC
def EN_3 : Fld := ⟨R.UCS_SVC, 31, 31⟩
def THR_3 : Fld := ⟨R.UCS_SVC, 29, 24⟩
def EN_2 : Fld := ⟨R.UCS_SVC, 23, 23⟩
def THR_2 : Fld := ⟨R.UCS_SVC, 21, 16⟩
def EN_1 : Fld := ⟨R.UCS_SVC, 15, 15⟩
def THR_1 : Fld := ⟨R.UCS_SVC, 13, 8⟩
def EN_0 : Fld := ⟨R.UCS_SVC, 7, 7⟩
def THR_0 : Fld := ⟨R.UCS_SVC, 5, 0⟩
end F.UCS_SVC
namespace F.UCS_STAT
def CFG_REJ : Fld := ⟨R.UCS_STAT, 31, 31⟩
def SLOW : Fld := ⟨R.UCS_STAT, 30, 30⟩
def CORE : Fld := ⟨R.UCS_STAT, 29, 29⟩
def PATCHES : Fld := ⟨R.UCS_STAT, 23, 16⟩
def OUTST : Fld := ⟨R.UCS_STAT, 7, 0⟩
end F.UCS_STAT
namespace F.UCS_FRAME_ERR
def CRC : Fld := ⟨R.UCS_FRAME_ERR, 31, 16⟩
def OTHER : Fld := ⟨R.UCS_FRAME_ERR, 15, 0⟩
end F.UCS_FRAME_ERR
namespace F.HSE_SEL_CFG
def RET_HOLD : Fld := ⟨R.HSE_SEL_CFG, 31, 24⟩
def BUS_HI : Fld := ⟨R.HSE_SEL_CFG, 23, 16⟩
def DEAD : Fld := ⟨R.HSE_SEL_CFG, 12, 8⟩
def RET_EN : Fld := ⟨R.HSE_SEL_CFG, 1, 1⟩
def PRI : Fld := ⟨R.HSE_SEL_CFG, 0, 0⟩
end F.HSE_SEL_CFG
namespace F.HSE_SEL_CTRL
def GO : Fld := ⟨R.HSE_SEL_CTRL, 1, 1⟩
def GOTO : Fld := ⟨R.HSE_SEL_CTRL, 0, 0⟩
end F.HSE_SEL_CTRL
namespace F.HSE_SEL_STAT
def SRC : Fld := ⟨R.HSE_SEL_STAT, 31, 29⟩
def FWARN : Fld := ⟨R.HSE_SEL_STAT, 28, 28⟩
def SWITCHING : Fld := ⟨R.HSE_SEL_STAT, 27, 27⟩
def CFG_REJ : Fld := ⟨R.HSE_SEL_STAT, 26, 26⟩
def SWCNT : Fld := ⟨R.HSE_SEL_STAT, 15, 0⟩
end F.HSE_SEL_STAT
namespace F.HSE_FWARN
def SOC_WARN : Fld := ⟨R.HSE_FWARN, 31, 24⟩
def SLOPE : Fld := ⟨R.HSE_FWARN, 23, 16⟩
def THR : Fld := ⟨R.HSE_FWARN, 15, 0⟩
end F.HSE_FWARN
namespace F.HSE_HOUSE
def EN : Fld := ⟨R.HSE_HOUSE, 31, 31⟩
def RETRY : Fld := ⟨R.HSE_HOUSE, 27, 24⟩
def HT : Fld := ⟨R.HSE_HOUSE, 23, 16⟩
def HLIM : Fld := ⟨R.HSE_HOUSE, 15, 10⟩
def RSV : Fld := ⟨R.HSE_HOUSE, 9, 0⟩
end F.HSE_HOUSE
namespace F.HSE_LATCH
def BUS_OV : Fld := ⟨R.HSE_LATCH, 2, 2⟩
def BUS_HIGH : Fld := ⟨R.HSE_LATCH, 1, 1⟩
def HOUSE_TRIP : Fld := ⟨R.HSE_LATCH, 0, 0⟩
end F.HSE_LATCH
namespace F.HSE_EVT
def CODE : Fld := ⟨R.HSE_EVT, 31, 24⟩
def DETAIL : Fld := ⟨R.HSE_EVT, 23, 0⟩
end F.HSE_EVT
namespace F.FD_CFG
def REV_EN (f : Nat) : Fld := ⟨R.FD_CFG f, 31, 31⟩
def REV_LIM (f : Nat) : Fld := ⟨R.FD_CFG f, 30, 24⟩
def ILIM (f : Nat) : Fld := ⟨R.FD_CFG f, 23, 16⟩
def QUAL (f : Nat) : Fld := ⟨R.FD_CFG f, 9, 0⟩
end F.FD_CFG
namespace F.FD_THR
def OV (f : Nat) : Fld := ⟨R.FD_THR f, 31, 16⟩
def UV (f : Nat) : Fld := ⟨R.FD_THR f, 15, 0⟩
end F.FD_THR
namespace F.FD_INR
def INR_I (f : Nat) : Fld := ⟨R.FD_INR f, 23, 16⟩
def INR_T (f : Nat) : Fld := ⟨R.FD_INR f, 7, 0⟩
end F.FD_INR
namespace F.FD_STAT
def STATE (f : Nat) : Fld := ⟨R.FD_STAT f, 31, 29⟩
def REV (f : Nat) : Fld := ⟨R.FD_STAT f, 28, 28⟩
end F.FD_STAT
namespace F.FD_LATCH
def FAILOVER (f : Nat) : Fld := ⟨R.FD_LATCH f, 6, 6⟩
def INRUSH_FAIL (f : Nat) : Fld := ⟨R.FD_LATCH f, 5, 5⟩
def TIMED (f : Nat) : Fld := ⟨R.FD_LATCH f, 4, 4⟩
def BURST (f : Nat) : Fld := ⟨R.FD_LATCH f, 3, 3⟩
def FAST (f : Nat) : Fld := ⟨R.FD_LATCH f, 2, 2⟩
def OV (f : Nat) : Fld := ⟨R.FD_LATCH f, 1, 1⟩
def UV (f : Nat) : Fld := ⟨R.FD_LATCH f, 0, 0⟩
end F.FD_LATCH
namespace F.HSE_M_LO
def VALUE (n : Nat) : Fld := ⟨R.HSE_M_LO n, 31, 0⟩
end F.HSE_M_LO
namespace F.HSE_M_HI
def VALUE (n : Nat) : Fld := ⟨R.HSE_M_HI n, 31, 0⟩
end F.HSE_M_HI
namespace F.PK_DIS
def HOLDUP_EN : Fld := ⟨R.PK_DIS, 31, 31⟩
def PK_EN : Fld := ⟨R.PK_DIS, 30, 30⟩
def IDIS_LIM : Fld := ⟨R.PK_DIS, 29, 24⟩
def ICHG_MAX : Fld := ⟨R.PK_DIS, 23, 19⟩
def HOLD_V : Fld := ⟨R.PK_DIS, 18, 10⟩
def UV : Fld := ⟨R.PK_DIS, 9, 0⟩
end F.PK_DIS
namespace F.PK_SOC
def SOC : Fld := ⟨R.PK_SOC, 31, 0⟩
end F.PK_SOC
namespace F.PK_LATCH
def HLEG : Fld := ⟨R.PK_LATCH, 2, 2⟩
def SW_TRIP : Fld := ⟨R.PK_LATCH, 1, 1⟩
def CUTOFF : Fld := ⟨R.PK_LATCH, 0, 0⟩
end F.PK_LATCH
namespace F.LG_POOL
def CREDITS : Fld := ⟨R.LG_POOL, 15, 0⟩
end F.LG_POOL
namespace F.LG_FREE
def CREDITS : Fld := ⟨R.LG_FREE, 15, 0⟩
end F.LG_FREE
namespace F.LG_BURST
def CREDITS : Fld := ⟨R.LG_BURST, 15, 0⟩
end F.LG_BURST
namespace F.LG_BFREE
def CREDITS : Fld := ⟨R.LG_BFREE, 15, 0⟩
end F.LG_BFREE
namespace F.LG_LENT
def CREDITS : Fld := ⟨R.LG_LENT, 15, 0⟩
end F.LG_LENT
namespace F.LG_HOUSE
def CHG : Fld := ⟨R.LG_HOUSE, 31, 16⟩
def TAP : Fld := ⟨R.LG_HOUSE, 15, 0⟩
end F.LG_HOUSE
namespace F.LG_CFG
def RET_HOLD : Fld := ⟨R.LG_CFG, 23, 16⟩
def STEP : Fld := ⟨R.LG_CFG, 15, 8⟩
def HEADROOM : Fld := ⟨R.LG_CFG, 7, 0⟩
end F.LG_CFG
namespace F.LG_STAT
def RECLAIM : Fld := ⟨R.LG_STAT, 31, 31⟩
def BWIN : Fld := ⟨R.LG_STAT, 30, 30⟩
def RSV_CUT : Fld := ⟨R.LG_STAT, 29, 29⟩
def RECLAIMS : Fld := ⟨R.LG_STAT, 15, 0⟩
end F.LG_STAT
namespace F.LG_HELD
def BURST (c : Nat) : Fld := ⟨R.LG_HELD c, 31, 16⟩
def CONT (c : Nat) : Fld := ⟨R.LG_HELD c, 15, 0⟩
end F.LG_HELD
namespace F.LG_RSV
def RSV (c : Nat) : Fld := ⟨R.LG_RSV c, 9, 0⟩
end F.LG_RSV
namespace F.LN_CFG
def SLEW (c : Nat) : Fld := ⟨R.LN_CFG c, 31, 24⟩
def ILIM (c : Nat) : Fld := ⟨R.LN_CFG c, 21, 16⟩
def TFLT (c : Nat) : Fld := ⟨R.LN_CFG c, 13, 0⟩
end F.LN_CFG
namespace F.LN_CTRL
def OP (c : Nat) : Fld := ⟨R.LN_CTRL c, 31, 30⟩
def WIDTH (c : Nat) : Fld := ⟨R.LN_CTRL c, 29, 0⟩
end F.LN_CTRL
namespace F.LN_STAT
def CFG_REJ (c : Nat) : Fld := ⟨R.LN_STAT c, 31, 31⟩
def STATE (c : Nat) : Fld := ⟨R.LN_STAT c, 30, 29⟩
def PULSE (c : Nat) : Fld := ⟨R.LN_STAT c, 28, 28⟩
def LIMIT (c : Nat) : Fld := ⟨R.LN_STAT c, 27, 27⟩
def ONCNT (c : Nat) : Fld := ⟨R.LN_STAT c, 15, 0⟩
end F.LN_STAT
namespace F.LN_LATCH
def DENIED (c : Nat) : Fld := ⟨R.LN_LATCH c, 6, 6⟩
def CH_TRIP (c : Nat) : Fld := ⟨R.LN_LATCH c, 5, 5⟩
def SOA (c : Nat) : Fld := ⟨R.LN_LATCH c, 4, 4⟩
def OVLD (c : Nat) : Fld := ⟨R.LN_LATCH c, 3, 3⟩
def EFUSE (c : Nat) : Fld := ⟨R.LN_LATCH c, 2, 2⟩
def INRUSH (c : Nat) : Fld := ⟨R.LN_LATCH c, 1, 1⟩
def STRETCH (c : Nat) : Fld := ⟨R.LN_LATCH c, 0, 0⟩
end F.LN_LATCH
namespace F.LN_MEAS
def I (c : Nat) : Fld := ⟨R.LN_MEAS c, 15, 0⟩
end F.LN_MEAS
namespace F.EVT_CFG
def OE : Fld := ⟨R.EVT_CFG, 15, 0⟩
end F.EVT_CFG
namespace F.EVT_LATCH
def NOOE : Fld := ⟨R.EVT_LATCH, 31, 16⟩
def STRETCH : Fld := ⟨R.EVT_LATCH, 15, 0⟩
end F.EVT_LATCH
namespace F.EVT_LVL
def PIN : Fld := ⟨R.EVT_LVL, 31, 16⟩
def OUT : Fld := ⟨R.EVT_LVL, 15, 0⟩
end F.EVT_LVL
namespace F.PD_CFG
def RP (p : Nat) : Fld := ⟨R.PD_CFG p, 31, 30⟩
def PD_EN (p : Nat) : Fld := ⟨R.PD_CFG p, 29, 29⟩
def EPR_EN (p : Nat) : Fld := ⟨R.PD_CFG p, 28, 28⟩
def EPR_CABLE (p : Nat) : Fld := ⟨R.PD_CFG p, 27, 27⟩
def PRS_EN (p : Nat) : Fld := ⟨R.PD_CFG p, 26, 26⟩
def DRS_EN (p : Nat) : Fld := ⟨R.PD_CFG p, 25, 25⟩
def VCS_EN (p : Nat) : Fld := ⟨R.PD_CFG p, 24, 24⟩
def VCONN_EN (p : Nat) : Fld := ⟨R.PD_CFG p, 23, 23⟩
def RA_EN (p : Nat) : Fld := ⟨R.PD_CFG p, 22, 22⟩
def CABLE_EN (p : Nat) : Fld := ⟨R.PD_CFG p, 21, 21⟩
def WAIT_EN (p : Nat) : Fld := ⟨R.PD_CFG p, 20, 20⟩
def IMARG (p : Nat) : Fld := ⟨R.PD_CFG p, 7, 0⟩
end F.PD_CFG
namespace F.PD_SLEW
def SLEW (p : Nat) : Fld := ⟨R.PD_SLEW p, 15, 0⟩
end F.PD_SLEW
namespace F.PD_RETRY
def COUNT (p : Nat) : Fld := ⟨R.PD_RETRY p, 31, 28⟩
def WAIT_INT (p : Nat) : Fld := ⟨R.PD_RETRY p, 15, 8⟩
def BUSY_INT (p : Nat) : Fld := ⟨R.PD_RETRY p, 7, 0⟩
end F.PD_RETRY
namespace F.PD_SNK
def AUTO (p : Nat) : Fld := ⟨R.PD_SNK p, 31, 31⟩
def EPR_REQ (p : Nat) : Fld := ⟨R.PD_SNK p, 30, 30⟩
def VMAX (p : Nat) : Fld := ⟨R.PD_SNK p, 24, 16⟩
def IMAX (p : Nat) : Fld := ⟨R.PD_SNK p, 8, 0⟩
end F.PD_SNK
namespace F.PD_SRC_PDO
def WORD (p n : Nat) : Fld := ⟨R.PD_SRC_PDO p n, 31, 0⟩
end F.PD_SRC_PDO
namespace F.PD_SNK_PDO
def WORD (p n : Nat) : Fld := ⟨R.PD_SNK_PDO p n, 31, 0⟩
end F.PD_SNK_PDO
namespace F.PD_ID
def WORD (p : Nat) (k : Nat) : Fld := ⟨R.PD_ID p k, 31, 0⟩
end F.PD_ID
namespace F.PD_CABLE
def WORD (p : Nat) (j : Nat) : Fld := ⟨R.PD_CABLE p j, 31, 0⟩
end F.PD_CABLE
namespace F.PD_STAT
def ATTACH (p : Nat) : Fld := ⟨R.PD_STAT p, 31, 29⟩
def DATA_ROLE (p : Nat) : Fld := ⟨R.PD_STAT p, 28, 28⟩
def VCONN_ON (p : Nat) : Fld := ⟨R.PD_STAT p, 27, 27⟩
def CC_POL (p : Nat) : Fld := ⟨R.PD_STAT p, 26, 26⟩
def CONTRACT (p : Nat) : Fld := ⟨R.PD_STAT p, 25, 24⟩
def KIND (p : Nat) : Fld := ⟨R.PD_STAT p, 23, 21⟩
def OVR (p : Nat) : Fld := ⟨R.PD_STAT p, 20, 20⟩
def WAITING (p : Nat) : Fld := ⟨R.PD_STAT p, 19, 19⟩
def PARTNER_RP (p : Nat) : Fld := ⟨R.PD_STAT p, 18, 16⟩
def POS (p : Nat) : Fld := ⟨R.PD_STAT p, 15, 12⟩
def OMIT (p : Nat) : Fld := ⟨R.PD_STAT p, 10, 0⟩
end F.PD_STAT
namespace F.PD_CON_V
def VALUE (p : Nat) : Fld := ⟨R.PD_CON_V p, 31, 0⟩
end F.PD_CON_V
namespace F.PD_CON_I
def VALUE (p : Nat) : Fld := ⟨R.PD_CON_I p, 31, 0⟩
end F.PD_CON_I
namespace F.PD_BC
def MODE (p : Nat) : Fld := ⟨R.PD_BC p, 31, 29⟩
def RESULT (p : Nat) : Fld := ⟨R.PD_BC p, 2, 0⟩
end F.PD_BC
namespace F.PD_LATCH
def CFG_REJ (p : Nat) : Fld := ⟨R.PD_LATCH p, 9, 9⟩
def RXDROP (p : Nat) : Fld := ⟨R.PD_LATCH p, 8, 8⟩
def OVR (p : Nat) : Fld := ⟨R.PD_LATCH p, 7, 7⟩
def REV2 (p : Nat) : Fld := ⟨R.PD_LATCH p, 6, 6⟩
def RETRY_EXH (p : Nat) : Fld := ⟨R.PD_LATCH p, 5, 5⟩
def PDO_OMIT (p : Nat) : Fld := ⟨R.PD_LATCH p, 4, 4⟩
def CONTRACT_REJ (p : Nat) : Fld := ⟨R.PD_LATCH p, 3, 3⟩
def HARD_RESET (p : Nat) : Fld := ⟨R.PD_LATCH p, 2, 2⟩
def ERR_RECOVERY (p : Nat) : Fld := ⟨R.PD_LATCH p, 1, 1⟩
def VCONN_OC (p : Nat) : Fld := ⟨R.PD_LATCH p, 0, 0⟩
end F.PD_LATCH
namespace F.FAB_LINK_STAT
def STATE (l : Nat) : Fld := ⟨R.FAB_LINK_STAT l, 31, 29⟩
def SPARE_USED (l : Nat) : Fld := ⟨R.FAB_LINK_STAT l, 28, 28⟩
def ACTIVE (l : Nat) : Fld := ⟨R.FAB_LINK_STAT l, 16, 0⟩
end F.FAB_LINK_STAT
namespace F.FAB_LINK_ERR
def SWAPS (l : Nat) : Fld := ⟨R.FAB_LINK_ERR l, 31, 24⟩
def RETRY (l : Nat) : Fld := ⟨R.FAB_LINK_ERR l, 23, 0⟩
end F.FAB_LINK_ERR
namespace F.FAB_C0_MAX
def TO_TILE (l : Nat) : Fld := ⟨R.FAB_C0_MAX l, 31, 16⟩
def TO_HUB (l : Nat) : Fld := ⟨R.FAB_C0_MAX l, 15, 0⟩
end F.FAB_C0_MAX
namespace F.FAB_CRED
def C3 (l : Nat) : Fld := ⟨R.FAB_CRED l, 31, 24⟩
def C2 (l : Nat) : Fld := ⟨R.FAB_CRED l, 23, 16⟩
def C1 (l : Nat) : Fld := ⟨R.FAB_CRED l, 15, 8⟩
def C0 (l : Nat) : Fld := ⟨R.FAB_CRED l, 7, 0⟩
end F.FAB_CRED
namespace F.FAB_C0_STAT
def THROTTLE : Fld := ⟨R.FAB_C0_STAT, 31, 16⟩
end F.FAB_C0_STAT
namespace F.CHN_CFG
def EN : Fld := ⟨R.CHN_CFG, 31, 31⟩
def MSRC : Fld := ⟨R.CHN_CFG, 30, 28⟩
def PRIO : Fld := ⟨R.CHN_CFG, 27, 24⟩
def STEP_THR : Fld := ⟨R.CHN_CFG, 15, 0⟩
end F.CHN_CFG
namespace F.CHN_HOLD
def HOLD_MAX : Fld := ⟨R.CHN_HOLD, 15, 0⟩
end F.CHN_HOLD
namespace F.CHN_LAT
def MANUAL : Fld := ⟨R.CHN_LAT, 31, 31⟩
def LAT : Fld := ⟨R.CHN_LAT, 15, 0⟩
end F.CHN_LAT
namespace F.CHN_STAT
def RSTATE : Fld := ⟨R.CHN_STAT, 31, 29⟩
def MASTER : Fld := ⟨R.CHN_STAT, 28, 28⟩
def NODE : Fld := ⟨R.CHN_STAT, 27, 24⟩
def NODES : Fld := ⟨R.CHN_STAT, 23, 20⟩
def BREAKS : Fld := ⟨R.CHN_STAT, 19, 18⟩
def SLEWING : Fld := ⟨R.CHN_STAT, 17, 17⟩
def CFG_REJ : Fld := ⟨R.CHN_STAT, 16, 16⟩
end F.CHN_STAT
namespace F.CHN_PORT
def PSTATE (d : Nat) : Fld := ⟨R.CHN_PORT d, 31, 29⟩
end F.CHN_PORT
namespace F.CHN_DELAY
def DELAY (d : Nat) : Fld := ⟨R.CHN_DELAY d, 31, 0⟩
end F.CHN_DELAY
namespace F.CHN_CTIME_LO
def CTIME : Fld := ⟨R.CHN_CTIME_LO, 31, 0⟩
end F.CHN_CTIME_LO
namespace F.CHN_CTIME_HI
def CTIME : Fld := ⟨R.CHN_CTIME_HI, 31, 0⟩
end F.CHN_CTIME_HI
namespace F.CHN_OFS
def E : Fld := ⟨R.CHN_OFS, 31, 0⟩
end F.CHN_OFS
namespace F.CHN_ERR
def SEQ_GAP : Fld := ⟨R.CHN_ERR, 31, 24⟩
def DUP : Fld := ⟨R.CHN_ERR, 23, 16⟩
def RETRY : Fld := ⟨R.CHN_ERR, 15, 0⟩
end F.CHN_ERR
namespace F.CHN_LATCH
def HOLD_EXP : Fld := ⟨R.CHN_LATCH, 5, 5⟩
def RELOCK_STEP : Fld := ⟨R.CHN_LATCH, 4, 4⟩
def SLACK : Fld := ⟨R.CHN_LATCH, 3, 3⟩
def OXBOW : Fld := ⟨R.CHN_LATCH, 2, 2⟩
def ALONE : Fld := ⟨R.CHN_LATCH, 1, 1⟩
def MASTER_CHG : Fld := ⟨R.CHN_LATCH, 0, 0⟩
end F.CHN_LATCH
namespace F.CHN_PEER
def VALID (n : Nat) : Fld := ⟨R.CHN_PEER n, 31, 31⟩
def RSTATE (n : Nat) : Fld := ⟨R.CHN_PEER n, 30, 28⟩
def CLASS (n : Nat) : Fld := ⟨R.CHN_PEER n, 27, 26⟩
def COUNT (n : Nat) : Fld := ⟨R.CHN_PEER n, 15, 0⟩
end F.CHN_PEER
namespace F.HST_CFG
def EN (p : Nat) : Fld := ⟨R.HST_CFG p, 31, 31⟩
def MTU (p : Nat) : Fld := ⟨R.HST_CFG p, 13, 0⟩
end F.HST_CFG
namespace F.HST_IP4
def ADDR (p : Nat) : Fld := ⟨R.HST_IP4 p, 31, 0⟩
end F.HST_IP4
namespace F.HST_IP6
def ADDR (p : Nat) (k : Nat) : Fld := ⟨R.HST_IP6 p k, 31, 0⟩
end F.HST_IP6
namespace F.HST_MAC_LO
def MAC (p : Nat) : Fld := ⟨R.HST_MAC_LO p, 31, 0⟩
end F.HST_MAC_LO
namespace F.HST_MAC_HI
def MAC (p : Nat) : Fld := ⟨R.HST_MAC_HI p, 31, 0⟩
end F.HST_MAC_HI
namespace F.HST_STAT
def LINK (p : Nat) : Fld := ⟨R.HST_STAT p, 31, 31⟩
def CFG_REJ (p : Nat) : Fld := ⟨R.HST_STAT p, 30, 30⟩
end F.HST_STAT
namespace F.HST_DROP
def BADPORT (p : Nat) : Fld := ⟨R.HST_DROP p, 31, 16⟩
def BADHDP (p : Nat) : Fld := ⟨R.HST_DROP p, 15, 0⟩
end F.HST_DROP
namespace F.HST_HDP
def UDP_PORT : Fld := ⟨R.HST_HDP, 15, 0⟩
end F.HST_HDP
namespace F.HST_HDP_TMR
def WIN : Fld := ⟨R.HST_HDP_TMR, 31, 20⟩
def RTO : Fld := ⟨R.HST_HDP_TMR, 19, 12⟩
def TIMEOUT : Fld := ⟨R.HST_HDP_TMR, 11, 0⟩
end F.HST_HDP_TMR
namespace F.HST_SESS
def CLOSED_TMO : Fld := ⟨R.HST_SESS, 31, 16⟩
def OPEN : Fld := ⟨R.HST_SESS, 4, 0⟩
end F.HST_SESS
namespace F.PTP_CFG
def EN : Fld := ⟨R.PTP_CFG, 31, 31⟩
def SLAVE_ONLY : Fld := ⟨R.PTP_CFG, 30, 30⟩
def PORT : Fld := ⟨R.PTP_CFG, 29, 29⟩
def DOMAIN : Fld := ⟨R.PTP_CFG, 23, 16⟩
def PRIO1 : Fld := ⟨R.PTP_CFG, 15, 8⟩
def STEP_THR : Fld := ⟨R.PTP_CFG, 7, 0⟩
end F.PTP_CFG
namespace F.PTP_STAT
def STATE : Fld := ⟨R.PTP_STAT, 31, 30⟩
def STEPPED : Fld := ⟨R.PTP_STAT, 29, 29⟩
def DELAY : Fld := ⟨R.PTP_STAT, 15, 0⟩
end F.PTP_STAT
namespace F.PTP_OFS
def OFS : Fld := ⟨R.PTP_OFS, 31, 0⟩
end F.PTP_OFS
namespace F.TW_TIM
def MODE : Fld := ⟨R.TW_TIM, 31, 30⟩
def SU_DAT : Fld := ⟨R.TW_TIM, 15, 8⟩
def HD_DAT : Fld := ⟨R.TW_TIM, 7, 0⟩
end F.TW_TIM
namespace F.TW_ALERT
def EN : Fld := ⟨R.TW_ALERT, 31, 31⟩
def RETRY : Fld := ⟨R.TW_ALERT, 27, 24⟩
def BACKOFF : Fld := ⟨R.TW_ALERT, 23, 16⟩
def HADDR : Fld := ⟨R.TW_ALERT, 6, 0⟩
end F.TW_ALERT
namespace F.TW_STAT
def TORN : Fld := ⟨R.TW_STAT, 31, 31⟩
def READY : Fld := ⟨R.TW_STAT, 30, 30⟩
def MBX : Fld := ⟨R.TW_STAT, 29, 28⟩
def ALERT_LEFT : Fld := ⟨R.TW_STAT, 27, 24⟩
def ALERT_PEND : Fld := ⟨R.TW_STAT, 23, 23⟩
def ALERT_SEQ : Fld := ⟨R.TW_STAT, 15, 8⟩
def ADDR : Fld := ⟨R.TW_STAT, 6, 0⟩
end F.TW_STAT
namespace F.TW_LATCH
def CFG_REJ : Fld := ⟨R.TW_LATCH, 6, 6⟩
def SCL_TO : Fld := ⟨R.TW_LATCH, 5, 5⟩
def SDA_STUCK : Fld := ⟨R.TW_LATCH, 4, 4⟩
def ARB_LOST : Fld := ⟨R.TW_LATCH, 3, 3⟩
def ALERT_FAIL : Fld := ⟨R.TW_LATCH, 2, 2⟩
def NOTICE_LOST : Fld := ⟨R.TW_LATCH, 1, 1⟩
def MBX_OVR : Fld := ⟨R.TW_LATCH, 0, 0⟩
end F.TW_LATCH
namespace F.TW_CTRL
def BUSCLR : Fld := ⟨R.TW_CTRL, 0, 0⟩
end F.TW_CTRL
namespace F.TWN_CTRL
def GO (n : Nat) : Fld := ⟨R.TWN_CTRL n, 31, 31⟩
def MODE (n : Nat) : Fld := ⟨R.TWN_CTRL n, 30, 29⟩
def ADDR (n : Nat) : Fld := ⟨R.TWN_CTRL n, 22, 16⟩
def RLEN (n : Nat) : Fld := ⟨R.TWN_CTRL n, 13, 8⟩
def WLEN (n : Nat) : Fld := ⟨R.TWN_CTRL n, 5, 0⟩
end F.TWN_CTRL
namespace F.TWN_STAT
def BUSY (n : Nat) : Fld := ⟨R.TWN_STAT n, 31, 31⟩
def DONE (n : Nat) : Fld := ⟨R.TWN_STAT n, 30, 30⟩
def CFG_REJ (n : Nat) : Fld := ⟨R.TWN_STAT n, 29, 29⟩
def RESULT (n : Nat) : Fld := ⟨R.TWN_STAT n, 23, 16⟩
def COUNT (n : Nat) : Fld := ⟨R.TWN_STAT n, 5, 0⟩
end F.TWN_STAT
namespace F.TWN_DATA
def DATA (n : Nat) (k : Nat) : Fld := ⟨R.TWN_DATA n k, 31, 0⟩
end F.TWN_DATA
namespace F.FLT_SUM
def SRC (k : Nat) : Fld := ⟨R.FLT_SUM k, 31, 0⟩
end F.FLT_SUM
namespace F.FLT_INT_EN
def EN (k : Nat) : Fld := ⟨R.FLT_INT_EN k, 31, 0⟩
end F.FLT_INT_EN
namespace F.FLT_CFG
def ERR_CLASS : Fld := ⟨R.FLT_CFG, 1, 0⟩
end F.FLT_CFG
namespace F.FLT_STAT
def ERR : Fld := ⟨R.FLT_STAT, 31, 31⟩
def INT : Fld := ⟨R.FLT_STAT, 30, 30⟩
def HALF_1 : Fld := ⟨R.FLT_STAT, 29, 28⟩
def HALF_0 : Fld := ⟨R.FLT_STAT, 27, 26⟩
def REACTING : Fld := ⟨R.FLT_STAT, 15, 8⟩
end F.FLT_STAT
namespace F.FLT_SEQ
def SEQ : Fld := ⟨R.FLT_SEQ, 31, 0⟩
end F.FLT_SEQ
namespace F.FLT_RAIL
def VALID : Fld := ⟨R.FLT_RAIL, 31, 31⟩
def COUNT : Fld := ⟨R.FLT_RAIL, 23, 16⟩
def SOURCE : Fld := ⟨R.FLT_RAIL, 8, 0⟩
end F.FLT_RAIL
namespace F.FLT_FORCE_CTRL
def OP : Fld := ⟨R.FLT_FORCE_CTRL, 10, 9⟩
def SOURCE : Fld := ⟨R.FLT_FORCE_CTRL, 8, 0⟩
end F.FLT_FORCE_CTRL
namespace F.FLT_HELD
def HELD (k : Nat) : Fld := ⟨R.FLT_HELD k, 31, 0⟩
end F.FLT_HELD
namespace F.FLT_CHCLR
def CH : Fld := ⟨R.FLT_CHCLR, 23, 0⟩
end F.FLT_CHCLR
namespace F.FLT_COVER
def GROUP (n : Nat) : Fld := ⟨R.FLT_COVER n, 31, 0⟩
end F.FLT_COVER
namespace F.FLT_REPAIR_STAT
def FIELD : Fld := ⟨R.FLT_REPAIR_STAT, 31, 16⟩
def ENTRIES : Fld := ⟨R.FLT_REPAIR_STAT, 15, 0⟩
end F.FLT_REPAIR_STAT
namespace F.MSS_STAT
def CORE0 : Fld := ⟨R.MSS_STAT, 31, 30⟩
def CORE1 : Fld := ⟨R.MSS_STAT, 29, 28⟩
def TAKEOVERS : Fld := ⟨R.MSS_STAT, 15, 8⟩
def MSSRST : Fld := ⟨R.MSS_STAT, 7, 0⟩
end F.MSS_STAT
namespace F.WDT_CTRL
def LOCK : Fld := ⟨R.WDT_CTRL, 31, 31⟩
def MODE : Fld := ⟨R.WDT_CTRL, 30, 30⟩
def RUN : Fld := ⟨R.WDT_CTRL, 29, 29⟩
def START : Fld := ⟨R.WDT_CTRL, 28, 28⟩
def CNT_CLR : Fld := ⟨R.WDT_CTRL, 27, 27⟩
def TIMEOUT : Fld := ⟨R.WDT_CTRL, 12, 0⟩
end F.WDT_CTRL
namespace F.WDT_KICK
def KEY : Fld := ⟨R.WDT_KICK, 15, 0⟩
end F.WDT_KICK
namespace F.WDT_STAT
def COUNT : Fld := ⟨R.WDT_STAT, 31, 24⟩
def SUSP : Fld := ⟨R.WDT_STAT, 23, 23⟩
def RECENT : Fld := ⟨R.WDT_STAT, 22, 20⟩
def REMAIN : Fld := ⟨R.WDT_STAT, 19, 0⟩
end F.WDT_STAT
namespace F.THM_CFG
def RESUME : Fld := ⟨R.THM_CFG, 31, 24⟩
def PAUSE_LEN : Fld := ⟨R.THM_CFG, 23, 16⟩
def PAUSE_PER : Fld := ⟨R.THM_CFG, 15, 8⟩
end F.THM_CFG
namespace F.THM_STAT
def LEVEL (s : Nat) : Fld := ⟨R.THM_STAT s, 31, 29⟩
def RATE (s : Nat) : Fld := ⟨R.THM_STAT s, 28, 28⟩
def SUBST (s : Nat) : Fld := ⟨R.THM_STAT s, 27, 27⟩
def HOT (s : Nat) : Fld := ⟨R.THM_STAT s, 23, 16⟩
def TMAX (s : Nat) : Fld := ⟨R.THM_STAT s, 15, 0⟩
end F.THM_STAT
namespace F.THM_LATCH
def HARD : Fld := ⟨R.THM_LATCH, 30, 24⟩
def STOP : Fld := ⟨R.THM_LATCH, 22, 16⟩
def THROTTLE : Fld := ⟨R.THM_LATCH, 14, 8⟩
def SUBST : Fld := ⟨R.THM_LATCH, 6, 0⟩
end F.THM_LATCH
namespace F.THM_SUB
def COUNT : Fld := ⟨R.THM_SUB, 31, 16⟩
def SECTOR : Fld := ⟨R.THM_SUB, 15, 8⟩
def SENSOR : Fld := ⟨R.THM_SUB, 7, 0⟩
end F.THM_SUB
namespace F.HK_STAT
def ROUNDS : Fld := ⟨R.HK_STAT, 31, 16⟩
def OVERRUN : Fld := ⟨R.HK_STAT, 15, 8⟩
end F.HK_STAT
namespace F.LOG_STAT
def NEXT : Fld := ⟨R.LOG_STAT, 31, 0⟩
end F.LOG_STAT
namespace F.LOG_WEAR
def MAX : Fld := ⟨R.LOG_WEAR, 31, 16⟩
def MIN : Fld := ⟨R.LOG_WEAR, 15, 0⟩
end F.LOG_WEAR
namespace F.LOG_CFG
def TELEM : Fld := ⟨R.LOG_CFG, 21, 0⟩
end F.LOG_CFG
namespace F.LOG_DROP
def DROP : Fld := ⟨R.LOG_DROP, 15, 0⟩
end F.LOG_DROP
namespace F.SUP_STAT
def STATE (q : Nat) : Fld := ⟨R.SUP_STAT q, 31, 29⟩
def LOST (q : Nat) : Fld := ⟨R.SUP_STAT q, 23, 16⟩
def FWVER (q : Nat) : Fld := ⟨R.SUP_STAT q, 15, 8⟩
def FILL (q : Nat) : Fld := ⟨R.SUP_STAT q, 7, 0⟩
end F.SUP_STAT
namespace F.BOOT_STAT
def STEP : Fld := ⟨R.BOOT_STAT, 31, 28⟩
def NOBUS : Fld := ⟨R.BOOT_STAT, 27, 27⟩
def FUSE_ERR : Fld := ⟨R.BOOT_STAT, 26, 26⟩
def CAL_BAD : Fld := ⟨R.BOOT_STAT, 25, 25⟩
def ERASE_REDONE : Fld := ⟨R.BOOT_STAT, 24, 24⟩
def BANK_FENCED : Fld := ⟨R.BOOT_STAT, 23, 16⟩
def TREADY : Fld := ⟨R.BOOT_STAT, 15, 0⟩
end F.BOOT_STAT
namespace F.BOOT_STRAP
def NOPATCH : Fld := ⟨R.BOOT_STRAP, 2, 2⟩
def B15 : Fld := ⟨R.BOOT_STRAP, 1, 1⟩
def B14 : Fld := ⟨R.BOOT_STRAP, 0, 0⟩
end F.BOOT_STRAP
namespace F.RST_CAUSE
def KIND : Fld := ⟨R.RST_CAUSE, 31, 28⟩
def CAUSE : Fld := ⟨R.RST_CAUSE, 23, 16⟩
def RESTARTS : Fld := ⟨R.RST_CAUSE, 15, 8⟩
end F.RST_CAUSE
namespace F.RST_CTRL
def KEY : Fld := ⟨R.RST_CTRL, 31, 24⟩
def KIND : Fld := ⟨R.RST_CTRL, 23, 20⟩
def TARGET : Fld := ⟨R.RST_CTRL, 4, 0⟩
end F.RST_CTRL
namespace F.LT_CTRL
def MODE (g i : Nat) : Fld := ⟨R.LT_CTRL g i, 31, 29⟩
def INJ (g i : Nat) : Fld := ⟨R.LT_CTRL g i, 28, 28⟩
def FORCE (g i : Nat) : Fld := ⟨R.LT_CTRL g i, 27, 27⟩
def PAT (g i : Nat) : Fld := ⟨R.LT_CTRL g i, 23, 20⟩
def INV (g i : Nat) : Fld := ⟨R.LT_CTRL g i, 19, 19⟩
end F.LT_CTRL
namespace F.LT_PAT_LO
def PAT (g i : Nat) : Fld := ⟨R.LT_PAT_LO g i, 31, 0⟩
end F.LT_PAT_LO
namespace F.LT_PAT_HI
def PAT (g i : Nat) : Fld := ⟨R.LT_PAT_HI g i, 31, 0⟩
end F.LT_PAT_HI
namespace F.LT_STAT
def LOCK (g i : Nat) : Fld := ⟨R.LT_STAT g i, 31, 31⟩
def RUN (g i : Nat) : Fld := ⟨R.LT_STAT g i, 30, 30⟩
def END (g i : Nat) : Fld := ⟨R.LT_STAT g i, 29, 28⟩
def LOSS (g i : Nat) : Fld := ⟨R.LT_STAT g i, 23, 16⟩
end F.LT_STAT
namespace F.LT_ERR
def ERR (g i : Nat) : Fld := ⟨R.LT_ERR g i, 31, 0⟩
end F.LT_ERR
namespace F.LT_BITS_LO
def BITS (g i : Nat) : Fld := ⟨R.LT_BITS_LO g i, 31, 0⟩
end F.LT_BITS_LO
namespace F.LT_BITS_HI
def BITS (g i : Nat) : Fld := ⟨R.LT_BITS_HI g i, 31, 0⟩
end F.LT_BITS_HI
namespace F.LT_JTAG
def LOCKED : Fld := ⟨R.LT_JTAG, 31, 31⟩
def ACTIVE : Fld := ⟨R.LT_JTAG, 30, 30⟩
def IR : Fld := ⟨R.LT_JTAG, 7, 0⟩
end F.LT_JTAG
namespace F.GLB_PART
def PART : Fld := ⟨R.GLB_PART, 31, 0⟩
end F.GLB_PART
namespace F.GLB_STEP
def STEP : Fld := ⟨R.GLB_STEP, 7, 0⟩
end F.GLB_STEP
namespace F.GLB_UCS
def MAJOR : Fld := ⟨R.GLB_UCS, 31, 16⟩
def MINOR : Fld := ⟨R.GLB_UCS, 15, 0⟩
end F.GLB_UCS
namespace F.GLB_PATCH
def NOPATCH : Fld := ⟨R.GLB_PATCH, 31, 31⟩
def PATCHES : Fld := ⟨R.GLB_PATCH, 7, 0⟩
end F.GLB_PATCH
namespace F.GLB_PSET_VER
def VERSION : Fld := ⟨R.GLB_PSET_VER, 31, 0⟩
end F.GLB_PSET_VER
namespace F.GLB_SERIAL_LO
def SERIAL : Fld := ⟨R.GLB_SERIAL_LO, 31, 0⟩
end F.GLB_SERIAL_LO
namespace F.GLB_SERIAL_HI
def SERIAL : Fld := ⟨R.GLB_SERIAL_HI, 31, 0⟩
end F.GLB_SERIAL_HI
namespace F.GLB_CAP
def CHANNELS : Fld := ⟨R.GLB_CAP, 31, 24⟩
def PORTS : Fld := ⟨R.GLB_CAP, 23, 16⟩
def BANKS : Fld := ⟨R.GLB_CAP, 15, 8⟩
def THREADS : Fld := ⟨R.GLB_CAP, 7, 0⟩
end F.GLB_CAP
namespace F.GLB_PINS
def READY : Fld := ⟨R.GLB_PINS, 31, 31⟩
def ERR : Fld := ⟨R.GLB_PINS, 30, 30⟩
def INT : Fld := ⟨R.GLB_PINS, 29, 29⟩
def FWARN : Fld := ⟨R.GLB_PINS, 28, 28⟩
end F.GLB_PINS
namespace F.GLB_WHOAMI
def KIND : Fld := ⟨R.GLB_WHOAMI, 31, 24⟩
def INDEX : Fld := ⟨R.GLB_WHOAMI, 5, 0⟩
end F.GLB_WHOAMI
namespace F.GLB_MYSTAT
def TORN : Fld := ⟨R.GLB_MYSTAT, 31, 31⟩
def UNMAPPED : Fld := ⟨R.GLB_MYSTAT, 30, 30⟩
def LOCKED : Fld := ⟨R.GLB_MYSTAT, 29, 29⟩
def REJ : Fld := ⟨R.GLB_MYSTAT, 28, 28⟩
def TORN_CNT : Fld := ⟨R.GLB_MYSTAT, 15, 0⟩
end F.GLB_MYSTAT
namespace F.GLB_ACC_ERR
def VALID : Fld := ⟨R.GLB_ACC_ERR, 31, 31⟩
def CAUSE : Fld := ⟨R.GLB_ACC_ERR, 30, 28⟩
def KIND : Fld := ⟨R.GLB_ACC_ERR, 27, 24⟩
def INDEX : Fld := ⟨R.GLB_ACC_ERR, 21, 16⟩
def COUNT : Fld := ⟨R.GLB_ACC_ERR, 15, 0⟩
end F.GLB_ACC_ERR
namespace F.GLB_ACC_ADDR
def ADDR : Fld := ⟨R.GLB_ACC_ADDR, 31, 0⟩
end F.GLB_ACC_ADDR
namespace F.GLB_SCRATCH
def DATA (n : Nat) : Fld := ⟨R.GLB_SCRATCH n, 31, 0⟩
end F.GLB_SCRATCH
namespace F.GLB_ASSET
def TAG (n : Nat) : Fld := ⟨R.GLB_ASSET n, 31, 0⟩
end F.GLB_ASSET
namespace F.GLB_PROV_CTRL
def KEY : Fld := ⟨R.GLB_PROV_CTRL, 31, 16⟩
def LOCK : Fld := ⟨R.GLB_PROV_CTRL, 0, 0⟩
end F.GLB_PROV_CTRL
namespace F.GLB_PROV_STAT
def LOCKED : Fld := ⟨R.GLB_PROV_STAT, 31, 31⟩
def BUSY : Fld := ⟨R.GLB_PROV_STAT, 30, 30⟩
def KEYHASH : Fld := ⟨R.GLB_PROV_STAT, 29, 29⟩
def FAIL : Fld := ⟨R.GLB_PROV_STAT, 28, 28⟩
end F.GLB_PROV_STAT
namespace F.QD_ID
def SECTOR (q : Nat) : Fld := ⟨R.QD_ID q, 31, 28⟩
def DIESTEP (q : Nat) : Fld := ⟨R.QD_ID q, 7, 0⟩
end F.QD_ID
namespace F.QD_TEMP
def VALID (q : Nat) (n : Nat) : Fld := ⟨R.QD_TEMP q n, 31, 31⟩
def SUBST (q : Nat) (n : Nat) : Fld := ⟨R.QD_TEMP q n, 30, 30⟩
def T (q : Nat) (n : Nat) : Fld := ⟨R.QD_TEMP q n, 15, 0⟩
end F.QD_TEMP
namespace F.HUB_TEMP
def VALID (n : Nat) : Fld := ⟨R.HUB_TEMP n, 31, 31⟩
def SUBST (n : Nat) : Fld := ⟨R.HUB_TEMP n, 30, 30⟩
def T (n : Nat) : Fld := ⟨R.HUB_TEMP n, 15, 0⟩
end F.HUB_TEMP
namespace F.QD_THERM
def VALID (q : Nat) (k : Nat) : Fld := ⟨R.QD_THERM q k, 31, 31⟩
def OPEN (q : Nat) (k : Nat) : Fld := ⟨R.QD_THERM q k, 30, 30⟩
def SHORT (q : Nat) (k : Nat) : Fld := ⟨R.QD_THERM q k, 29, 29⟩
def T (q : Nat) (k : Nat) : Fld := ⟨R.QD_THERM q k, 15, 0⟩
end F.QD_THERM
namespace F.HUB_THERM24
def VALID : Fld := ⟨R.HUB_THERM24, 31, 31⟩
def OPEN : Fld := ⟨R.HUB_THERM24, 30, 30⟩
def SHORT : Fld := ⟨R.HUB_THERM24, 29, 29⟩
def T : Fld := ⟨R.HUB_THERM24, 15, 0⟩
end F.HUB_THERM24

end Sys2Proof.Machine
end

