-- ==== Sys2Proof/Machine/RegTable.lean ====
section
/-!
DEFINITION. The register table: for every register of spec/ its address (base and strides), the bits of
each access code (R6) and the value it reads after reset. Bits of no mask are RO or reserved (R7).
-/

namespace Sys2Proof.Machine

/-- One register, or one array of registers of one layout. -/
structure RegDef where
  name  : String
  base  : Nat
  n1    : Nat := 1
  s1    : Nat := 4
  n2    : Nat := 1
  s2    : Nat := 4
  rw    : Nat := 0
  w1c   : Nat := 0
  rcl   : Nat := 0
  wo    : Nat := 0
  lck   : Nat := 0
  reset : Nat := 0
deriving DecidableEq, Repr

def tableMgt : List RegDef := [
  { name := "PDOM_REQ", base := 0x60400, n1 := 7, s1 := 0x4, rw := 0xFFFFFFFF },
  { name := "PDOM_STAT", base := 0x60420, n1 := 7, s1 := 0x4 },
  { name := "PDOM_DENY", base := 0x60440, rcl := 0xFF00FF7F },
  { name := "UCS_SVC", base := 0x60800, rw := 0xBFBFBFBF, reset := 0xBFAF9F8F },
  { name := "UCS_STAT", base := 0x60804, rcl := 0x80000000 },
  { name := "UCS_FRAME_ERR", base := 0x60808, rcl := 0xFFFFFFFF },
  { name := "MSS_STAT", base := 0x60000, rcl := 0xFFFF, reset := 0x10000000 },
  { name := "WDT_CTRL", base := 0x60100, rw := 0x80001FFF, wo := 0x18000000, reset := 0x7D0 },
  { name := "WDT_KICK", base := 0x60104, wo := 0xFFFFFFFF },
  { name := "WDT_STAT", base := 0x60108, reset := 0x7D0 },
  { name := "THM_CFG", base := 0x60200, rw := 0xFFFFFF00, reset := 0x64321400 },
  { name := "THM_STAT", base := 0x60210, n1 := 7, s1 := 0x4 },
  { name := "THM_LATCH", base := 0x60230, rcl := 0x7F7F7F7F },
  { name := "THM_SUB", base := 0x60234, rcl := 0xFFFFFFFF },
  { name := "HK_STAT", base := 0x60240, rcl := 0xFF00 },
  { name := "LOG_STAT", base := 0x60300 },
  { name := "LOG_WEAR", base := 0x60304 },
  { name := "LOG_CFG", base := 0x60308, rw := 0x3FFFFF, reset := 0x3E8 },
  { name := "LOG_DROP", base := 0x6030C, rcl := 0xFFFF },
  { name := "SUP_STAT", base := 0x60600, n1 := 6, s1 := 0x4, rcl := 0xFF0000 },
  { name := "BOOT_STAT", base := 0x60700 },
  { name := "BOOT_STRAP", base := 0x60704 },
  { name := "RST_CAUSE", base := 0x60708 },
  { name := "RST_CTRL", base := 0x6070C, wo := 0xFFFFFFFF },
  { name := "HUB_TEMP", base := 0x60A00, n1 := 22, s1 := 0x4 },
  { name := "HUB_THERM24", base := 0x60A60 } ]

def tableTb : List RegDef := [
  { name := "TB_CTRL", base := 0x20000, rw := 0xFFFC07, reset := 0xFC000 },
  { name := "TB_STAT", base := 0x20004, rcl := 0x80000000, reset := 0x40000 },
  { name := "TB_EXT_LO", base := 0x20008 },
  { name := "TB_EXT_HI", base := 0x2000C },
  { name := "TB_DTIME_LO", base := 0x20010 },
  { name := "TB_DTIME_HI", base := 0x20014 },
  { name := "TB_RELEASE", base := 0x20018, wo := 0x3 },
  { name := "TB_LATE_CNT", base := 0x2001C, rcl := 0xFFFFFFFF },
  { name := "TB_LATE_LAST", base := 0x20020, rcl := 0xE001FFFF },
  { name := "TB_POOL", base := 0x20024, rcl := 0x80000000, reset := 0x20000 },
  { name := "TB_WALK", base := 0x20028 },
  { name := "TB_SKIP_CNT", base := 0x2002C, rcl := 0xFFFFFFFF },
  { name := "SRC_CFG", base := 0x20100, n1 := 3, s1 := 0x40, rw := 0xFF10001F },
  { name := "IDX_VAL", base := 0x20104, n1 := 3, s1 := 0x40, rw := 0xFFFFFFFF },
  { name := "IDX_PERIOD", base := 0x20108, n1 := 3, s1 := 0x40, rw := 0xFFFFFFFF },
  { name := "IDX_TOL", base := 0x2010C, n1 := 3, s1 := 0x40, rw := 0xFFFF },
  { name := "IDX_ERR", base := 0x20110, n1 := 3, s1 := 0x40 },
  { name := "SRC_CNT", base := 0x20114, n1 := 3, s1 := 0x40, rcl := 0xFFFFFFFF },
  { name := "MAINS_CFG", base := 0x201C0, rw := 0xFF03FFFF, reset := 0x10000000 },
  { name := "MAINS_STAT", base := 0x201C4 },
  { name := "GT_CFG", base := 0x20400, n1 := 16, s1 := 0x20, rw := 0xFFFF031F, reset := 0x1F },
  { name := "GT_CMP", base := 0x20404, n1 := 16, s1 := 0x20, rw := 0xFFFFFFFF },
  { name := "GT_PERIOD", base := 0x20408, n1 := 16, s1 := 0x20, rw := 0xFFFFFFFF },
  { name := "GT_CAP_LO", base := 0x2040C, n1 := 16, s1 := 0x20 },
  { name := "GT_CAP_HI", base := 0x20410, n1 := 16, s1 := 0x20 },
  { name := "GT_STAT", base := 0x20414, n1 := 16, s1 := 0x20, w1c := 0x70000000, wo := 0x4000000 },
  { name := "EVT_CFG", base := 0x20600, rw := 0xFFFF },
  { name := "EVT_LATCH", base := 0x20604, rcl := 0xFFFFFFFF },
  { name := "EVT_LVL", base := 0x20608 } ]

def tableCh0 : List RegDef := [
  { name := "PS_PWM", base := 0x200000, n1 := 24, s1 := 0x1000, rw := 0xFF307FFF, reset := 0x10200FA0 },
  { name := "PS_VSYS", base := 0x200004, n1 := 24, s1 := 0x1000, rw := 0xFFFFFF00, reset := 0x3840F00 },
  { name := "PS_BATFED", base := 0x200008, n1 := 24, s1 := 0x1000, rw := 0xFFFFFFFF, reset := 0x25805DC },
  { name := "PS_SHED", base := 0x20000C, n1 := 24, s1 := 0x1000, rw := 0xFFFF, reset := 0x3250 },
  { name := "PS_OVP", base := 0x200010, n1 := 24, s1 := 0x1000, rw := 0xFFFF, reset := 0x1900 },
  { name := "PS_STAT", base := 0x200020, n1 := 24, s1 := 0x1000, rcl := 0x80000000, reset := 0x20400000 },
  { name := "PS_RATING", base := 0x200024, n1 := 24, s1 := 0x1000, reset := 0x96C85078 },
  { name := "PS_EDGE_CNT", base := 0x200028, n1 := 24, s1 := 0x1000, rcl := 0xFFFFFFFF },
  { name := "PS_CBC_CNT", base := 0x20002C, n1 := 24, s1 := 0x1000, rcl := 0xFFFFFFFF },
  { name := "PS_LATCH", base := 0x200030, n1 := 24, s1 := 0x1000, rcl := 0x1FFF },
  { name := "PS_BURST", base := 0x200034, n1 := 24, s1 := 0x1000, rcl := 0xFFFF0000, reset := 0x3E8 },
  { name := "PS_GANG", base := 0x200040, n1 := 24, s1 := 0x1000 },
  { name := "RG_VSET", base := 0x200100, n1 := 24, s1 := 0x1000, rw := 0xFFFFFFFF },
  { name := "RG_ISET", base := 0x200104, n1 := 24, s1 := 0x1000, rw := 0xFFFFFFFF },
  { name := "RG_PSET", base := 0x200108, n1 := 24, s1 := 0x1000, rw := 0xFFFFFFFF },
  { name := "RG_GSET", base := 0x20010C, n1 := 24, s1 := 0x1000, rw := 0xFFFFFFFF },
  { name := "RG_VLIM_HI", base := 0x200110, n1 := 24, s1 := 0x1000, rw := 0xFFFFFFFF, reset := 0x5B8D80 },
  { name := "RG_VLIM_LO", base := 0x200114, n1 := 24, s1 := 0x1000, rw := 0xFFFFFFFF },
  { name := "RG_ILIM_SRC", base := 0x200118, n1 := 24, s1 := 0x1000, rw := 0xFFFFFFFF, reset := 0xF4240 },
  { name := "RG_ILIM_SNK", base := 0x20011C, n1 := 24, s1 := 0x1000, rw := 0xFFFFFFFF, reset := 0xF4240 },
  { name := "RG_PLIM_SRC", base := 0x200120, n1 := 24, s1 := 0x1000, rw := 0xFFFFFFFF, reset := 0x61A80 },
  { name := "RG_PLIM_SNK", base := 0x200124, n1 := 24, s1 := 0x1000, rw := 0xFFFFFFFF, reset := 0x61A80 },
  { name := "RG_SLEW_VI", base := 0x200128, n1 := 24, s1 := 0x1000, rw := 0xFFFFFFFF, reset := 0x6403E8 },
  { name := "RG_SLEW_PG", base := 0x20012C, n1 := 24, s1 := 0x1000, rw := 0xFFFFFFFF, reset := 0x640064 },
  { name := "RG_LOOP", base := 0x200130, n1 := 24, s1 := 0x1000, rw := 0x7, wo := 0x80000000, reset := 0x1 },
  { name := "RG_COEF", base := 0x200140, n1 := 24, s1 := 0x1000, n2 := 7, s2 := 0x4, rw := 0xFFFFFFFF },
  { name := "RG_COEF_7", base := 0x20015C, n1 := 24, s1 := 0x1000, rw := 0xF },
  { name := "RG_SAT", base := 0x200160, n1 := 24, s1 := 0x1000, rw := 0xC3FFFFFF, reset := 0x9C40 },
  { name := "RG_SAT_MASK", base := 0x200164, n1 := 24, s1 := 0x1000, rw := 0x1F, reset := 0x3 },
  { name := "RG_PROF_ADDR", base := 0x200168, n1 := 24, s1 := 0x1000, rw := 0xFFFFFFF0, reset := 0x10E00000 },
  { name := "RG_STAT", base := 0x200170, n1 := 24, s1 := 0x1000, rcl := 0x80000000 },
  { name := "RG_TGT", base := 0x200174, n1 := 24, s1 := 0x1000 },
  { name := "RG_LATCH", base := 0x200178, n1 := 24, s1 := 0x1000, rcl := 0x1F },
  { name := "RG_ENG", base := 0x20017C, n1 := 24, s1 := 0x1000, reset := 0x80000000 },
  { name := "RG_CEST", base := 0x200180, n1 := 24, s1 := 0x1000 },
  { name := "BM_CFG", base := 0x200200, n1 := 24, s1 := 0x1000, rw := 0x3 },
  { name := "BM_TBL_ADDR", base := 0x200204, n1 := 24, s1 := 0x1000, rw := 0xFFFFFFC0, reset := 0x10E00000 },
  { name := "BM_TEMP", base := 0x200208, n1 := 24, s1 := 0x1000, rw := 0xFFFF, reset := 0xFA },
  { name := "BM_CTRL", base := 0x20020C, n1 := 24, s1 := 0x1000, wo := 0x3 },
  { name := "BM_SOC", base := 0x200210, n1 := 24, s1 := 0x1000, rw := 0xFFFFFFFF } ]

def tableCh1 : List RegDef := [
  { name := "BM_Q_LO", base := 0x200218, n1 := 24, s1 := 0x1000, rw := 0xFFFFFFFF },
  { name := "BM_Q_HI", base := 0x20021C, n1 := 24, s1 := 0x1000, rw := 0xFFFFFFFF },
  { name := "BM_V1_LO", base := 0x200220, n1 := 24, s1 := 0x1000, rw := 0xFFFFFFFF },
  { name := "BM_V1_HI", base := 0x200224, n1 := 24, s1 := 0x1000, rw := 0xFFFFFFFF },
  { name := "BM_V2_LO", base := 0x200228, n1 := 24, s1 := 0x1000, rw := 0xFFFFFFFF },
  { name := "BM_V2_HI", base := 0x20022C, n1 := 24, s1 := 0x1000, rw := 0xFFFFFFFF },
  { name := "BM_H_LO", base := 0x200230, n1 := 24, s1 := 0x1000, rw := 0xFFFFFFFF },
  { name := "BM_H_HI", base := 0x200234, n1 := 24, s1 := 0x1000, rw := 0xFFFFFFFF },
  { name := "BM_VTERM", base := 0x200238, n1 := 24, s1 := 0x1000 },
  { name := "BM_OCV", base := 0x20023C, n1 := 24, s1 := 0x1000 },
  { name := "BM_STAT", base := 0x200240, n1 := 24, s1 := 0x1000, rcl := 0x80000000, reset := 0xFA },
  { name := "BM_LATCH", base := 0x200244, n1 := 24, s1 := 0x1000, rcl := 0x7 },
  { name := "CG_CFG", base := 0x200300, n1 := 24, s1 := 0x1000, rw := 0x73F001F, reset := 0x30003 },
  { name := "CG_CTRL", base := 0x200304, n1 := 24, s1 := 0x1000, wo := 0x7 },
  { name := "CG_CAP", base := 0x200308, n1 := 24, s1 := 0x1000, rw := 0xFFFFFFFF, reset := 0x7D0 },
  { name := "CG_V_CV", base := 0x200310, n1 := 24, s1 := 0x1000, rw := 0xFFFFFFFF, reset := 0x1339E0 },
  { name := "CG_V_FLOAT", base := 0x200314, n1 := 24, s1 := 0x1000, rw := 0xFFFFFFFF, reset := 0x12C4B0 },
  { name := "CG_V_PRE", base := 0x200318, n1 := 24, s1 := 0x1000, rw := 0xFFFFFFFF, reset := 0xDBBA0 },
  { name := "CG_V_RECHG", base := 0x20031C, n1 := 24, s1 := 0x1000, rw := 0xFFFFFFFF, reset := 0x7530 },
  { name := "CG_V_OVP", base := 0x200320, n1 := 24, s1 := 0x1000, rw := 0xFFFFFFFF, reset := 0x13E9A8 },
  { name := "CG_I_CC", base := 0x200324, n1 := 24, s1 := 0x1000, rw := 0xFFFFFFFF, reset := 0xF4240 },
  { name := "CG_I_PRE", base := 0x200328, n1 := 24, s1 := 0x1000, rw := 0xFFFFFFFF, reset := 0x30D40 },
  { name := "CG_I_TERM", base := 0x20032C, n1 := 24, s1 := 0x1000, rw := 0xFFFFFFFF, reset := 0x186A0 },
  { name := "CG_I_MAINT", base := 0x200330, n1 := 24, s1 := 0x1000, rw := 0xFFFFFFFF },
  { name := "CG_TMR_0", base := 0x200334, n1 := 24, s1 := 0x1000, rw := 0xFFFFFFFF, reset := 0xA0708 },
  { name := "CG_TMR_1", base := 0x200338, n1 := 24, s1 := 0x1000, rw := 0xFFFFFFFF, reset := 0x38401C20 },
  { name := "CG_TMR_2", base := 0x20033C, n1 := 24, s1 := 0x1000, rw := 0xFFFFFFFF },
  { name := "CG_TMR_3", base := 0x200340, n1 := 24, s1 := 0x1000, rw := 0xFFFFFFFF, reset := 0x1C208CA0 },
  { name := "CG_ZONE_T", base := 0x200344, n1 := 24, s1 := 0x1000, rw := 0xFFFFFFFF, reset := 0x3C2D0A00 },
  { name := "CG_ZONE_ADJ", base := 0x200348, n1 := 24, s1 := 0x1000, rw := 0xFFFFFF00, reset := 0x14643200 },
  { name := "CG_VADJ", base := 0x20034C, n1 := 24, s1 := 0x1000, rw := 0xFFFFFFFF, reset := 0x12C0000 },
  { name := "CG_NIMH", base := 0x200350, n1 := 24, s1 := 0x1000, rw := 0xFFFFFFFF, reset := 0x1E0A0000 },
  { name := "CG_STAT", base := 0x200360, n1 := 24, s1 := 0x1000, rcl := 0x80000000, reset := 0x20000 },
  { name := "CG_TIME", base := 0x200364, n1 := 24, s1 := 0x1000 },
  { name := "CG_IEFF", base := 0x200368, n1 := 24, s1 := 0x1000 },
  { name := "CG_LATCH", base := 0x20036C, n1 := 24, s1 := 0x1000, rcl := 0xFF },
  { name := "MS_RANGE", base := 0x200400, n1 := 24, s1 := 0x1000, rw := 0x730, reset := 0x73730 },
  { name := "MS_AUTO", base := 0x200404, n1 := 24, s1 := 0x1000, rw := 0xFFFF0707, reset := 0x640005 },
  { name := "MS_STAGE", base := 0x200408, n1 := 24, s1 := 0x1000, rw := 0x3, rcl := 0xFFFF0000 },
  { name := "MS_ACC_CTRL", base := 0x20040C, n1 := 24, s1 := 0x1000, wo := 0xF } ]

def tableCh2 : List RegDef := [
  { name := "MS_WIN_CTRL", base := 0x200410, n1 := 24, s1 := 0x1000, rw := 0x30000FFF, wo := 0xC0000000 },
  { name := "MS_WIN_LEN", base := 0x200414, n1 := 24, s1 := 0x1000, rw := 0xFFFFFFFF, reset := 0xFA0 },
  { name := "MS_WIN_STAT", base := 0x200418, n1 := 24, s1 := 0x1000 },
  { name := "MS_CAP_CTRL", base := 0x20041C, n1 := 24, s1 := 0x1000, rw := 0x10000FFF, wo := 0xC0000000 },
  { name := "MS_CAP_DEC", base := 0x200420, n1 := 24, s1 := 0x1000, rw := 0xFFFF },
  { name := "MS_CAP_LEN", base := 0x200424, n1 := 24, s1 := 0x1000, rw := 0xFFFFFFFF },
  { name := "MS_CAP_STAT", base := 0x200428, n1 := 24, s1 := 0x1000, rcl := 0xFFFF0000 },
  { name := "MS_SWP_ADDR", base := 0x20042C, n1 := 24, s1 := 0x1000, rw := 0xFFFFFFF0, reset := 0x10E00000 },
  { name := "MS_SWP_CTRL", base := 0x200430, n1 := 24, s1 := 0x1000, rw := 0x10000FFF, wo := 0xC0000000 },
  { name := "MS_SWP_STAT", base := 0x200434, n1 := 24, s1 := 0x1000 },
  { name := "MS_STAT", base := 0x200438, n1 := 24, s1 := 0x1000, rcl := 0x80000000 },
  { name := "MS_LATCH", base := 0x20043C, n1 := 24, s1 := 0x1000, rcl := 0x1F },
  { name := "MS_V_LO", base := 0x200460, n1 := 24, s1 := 0x1000 },
  { name := "MS_V_HI", base := 0x200464, n1 := 24, s1 := 0x1000 },
  { name := "MS_VLOC_LO", base := 0x200468, n1 := 24, s1 := 0x1000 },
  { name := "MS_VLOC_HI", base := 0x20046C, n1 := 24, s1 := 0x1000 },
  { name := "MS_I_LO", base := 0x200470, n1 := 24, s1 := 0x1000 },
  { name := "MS_I_HI", base := 0x200474, n1 := 24, s1 := 0x1000 },
  { name := "MS_P_LO", base := 0x200478, n1 := 24, s1 := 0x1000 },
  { name := "MS_P_HI", base := 0x20047C, n1 := 24, s1 := 0x1000 },
  { name := "MS_VBAT_LO", base := 0x200480, n1 := 24, s1 := 0x1000 },
  { name := "MS_VBAT_HI", base := 0x200484, n1 := 24, s1 := 0x1000 },
  { name := "MS_IBAT_LO", base := 0x200488, n1 := 24, s1 := 0x1000 },
  { name := "MS_IBAT_HI", base := 0x20048C, n1 := 24, s1 := 0x1000 },
  { name := "MS_VIN_LO", base := 0x200490, n1 := 24, s1 := 0x1000 },
  { name := "MS_VIN_HI", base := 0x200494, n1 := 24, s1 := 0x1000 },
  { name := "MS_EOUT_LO", base := 0x200498, n1 := 24, s1 := 0x1000 },
  { name := "MS_EOUT_HI", base := 0x20049C, n1 := 24, s1 := 0x1000 },
  { name := "MS_QOUT_LO", base := 0x2004A0, n1 := 24, s1 := 0x1000 },
  { name := "MS_QOUT_HI", base := 0x2004A4, n1 := 24, s1 := 0x1000 },
  { name := "MS_EBAT_LO", base := 0x2004A8, n1 := 24, s1 := 0x1000 },
  { name := "MS_EBAT_HI", base := 0x2004AC, n1 := 24, s1 := 0x1000 },
  { name := "MS_QBAT_LO", base := 0x2004B0, n1 := 24, s1 := 0x1000 },
  { name := "MS_QBAT_HI", base := 0x2004B4, n1 := 24, s1 := 0x1000 },
  { name := "MS_VMIN_LO", base := 0x2004B8, n1 := 24, s1 := 0x1000 },
  { name := "MS_VMIN_HI", base := 0x2004BC, n1 := 24, s1 := 0x1000 },
  { name := "MS_VMAX_LO", base := 0x2004C0, n1 := 24, s1 := 0x1000 },
  { name := "MS_VMAX_HI", base := 0x2004C4, n1 := 24, s1 := 0x1000 },
  { name := "MS_VMEAN_LO", base := 0x2004C8, n1 := 24, s1 := 0x1000 },
  { name := "MS_VMEAN_HI", base := 0x2004CC, n1 := 24, s1 := 0x1000 } ]

def tableCh3 : List RegDef := [
  { name := "MS_VRMS_LO", base := 0x2004D0, n1 := 24, s1 := 0x1000 },
  { name := "MS_VRMS_HI", base := 0x2004D4, n1 := 24, s1 := 0x1000 },
  { name := "MS_IMIN_LO", base := 0x2004D8, n1 := 24, s1 := 0x1000 },
  { name := "MS_IMIN_HI", base := 0x2004DC, n1 := 24, s1 := 0x1000 },
  { name := "MS_IMAX_LO", base := 0x2004E0, n1 := 24, s1 := 0x1000 },
  { name := "MS_IMAX_HI", base := 0x2004E4, n1 := 24, s1 := 0x1000 },
  { name := "MS_IMEAN_LO", base := 0x2004E8, n1 := 24, s1 := 0x1000 },
  { name := "MS_IMEAN_HI", base := 0x2004EC, n1 := 24, s1 := 0x1000 },
  { name := "MS_IRMS_LO", base := 0x2004F0, n1 := 24, s1 := 0x1000 },
  { name := "MS_IRMS_HI", base := 0x2004F4, n1 := 24, s1 := 0x1000 },
  { name := "MS_PMEAN_LO", base := 0x2004F8, n1 := 24, s1 := 0x1000 },
  { name := "MS_PMEAN_HI", base := 0x2004FC, n1 := 24, s1 := 0x1000 },
  { name := "MD_REQ", base := 0x200500, n1 := 24, s1 := 0x1000, rw := 0xC0373373, reset := 0x370200 },
  { name := "MD_GANG", base := 0x200504, n1 := 24, s1 := 0x1000, rw := 0x3 },
  { name := "MD_RES", base := 0x200508, n1 := 24, s1 := 0x1000, reset := 0x370200 },
  { name := "MD_WHY", base := 0x20050C, n1 := 24, s1 := 0x1000 },
  { name := "MD_STAT", base := 0x200510, n1 := 24, s1 := 0x1000, rcl := 0xC0000000 },
  { name := "LN_CFG", base := 0x200600, n1 := 24, s1 := 0x1000, rw := 0xFF3F3FFF, reset := 0xA140064 },
  { name := "LN_CTRL", base := 0x200604, n1 := 24, s1 := 0x1000, wo := 0xFFFFFFFF },
  { name := "LN_STAT", base := 0x200608, n1 := 24, s1 := 0x1000, rcl := 0x80000000 },
  { name := "LN_LATCH", base := 0x20060C, n1 := 24, s1 := 0x1000, rcl := 0x7F },
  { name := "LN_MEAS", base := 0x200610, n1 := 24, s1 := 0x1000 } ]

def tableCh : List RegDef := tableCh0 ++ tableCh1 ++ tableCh2 ++ tableCh3

def tableSeq : List RegDef := [
  { name := "SEQ_THR_CFG", base := 0x70000, n1 := 64, s1 := 0x20, rw := 0xE0000000 },
  { name := "SEQ_THR_STAT", base := 0x70004, n1 := 64, s1 := 0x20 },
  { name := "SEQ_THR_PC", base := 0x70008, n1 := 64, s1 := 0x20 },
  { name := "SEQ_THR_ARG", base := 0x7000C, n1 := 64, s1 := 0x20, rw := 0xFFFFFFFF },
  { name := "SEQ_THR_EXC", base := 0x70010, n1 := 64, s1 := 0x20 },
  { name := "SEQ_THR_EPC", base := 0x70014, n1 := 64, s1 := 0x20 },
  { name := "SEQ_THR_EADDR", base := 0x70018, n1 := 64, s1 := 0x20 },
  { name := "SEQ_CL_STAT", base := 0x70800, n1 := 4, s1 := 0x10, reset := 0x688100 },
  { name := "SEQ_CL_PAUSE", base := 0x70804, n1 := 4, s1 := 0x10, rcl := 0xFFFFFFFF },
  { name := "SEQ_CL_EVT", base := 0x70808, n1 := 4, s1 := 0x10, rcl := 0xFF000000 },
  { name := "SEQ_EXC_SUM_LO", base := 0x70C00, w1c := 0xFFFFFFFF },
  { name := "SEQ_EXC_SUM_HI", base := 0x70C04, w1c := 0xFFFFFFFF },
  { name := "SEQ_TAG_FREE", base := 0x70C08, reset := 0x1000 } ]

def tableHse0 : List RegDef := [
  { name := "HSE_SEL_CFG", base := 0x30000, rw := 0xFFFF1F03, reset := 0xA3A0802 },
  { name := "HSE_SEL_CTRL", base := 0x30004, wo := 0x3 },
  { name := "HSE_SEL_STAT", base := 0x30008, rcl := 0x4000000 },
  { name := "HSE_FWARN", base := 0x3000C, rw := 0xFFFFFFFF, reset := 0x143201A4 },
  { name := "HSE_HOUSE", base := 0x30010, rw := 0x8FFFFFFF, reset := 0x830A3CC8 },
  { name := "HSE_LATCH", base := 0x30014, rcl := 0x7 },
  { name := "HSE_EVT", base := 0x30018, rcl := 0xFFFFFFFF },
  { name := "FD_CFG", base := 0x30100, n1 := 2, s1 := 0x40, rw := 0xFFFF03FF, reset := 0x8C0064 },
  { name := "FD_THR", base := 0x30104, n1 := 2, s1 := 0x40, rw := 0xFFFFFFFF, reset := 0x26C017C },
  { name := "FD_INR", base := 0x30108, n1 := 2, s1 := 0x40, rw := 0xFF00FF, reset := 0x140032 },
  { name := "FD_STAT", base := 0x3010C, n1 := 2, s1 := 0x40 },
  { name := "FD_LATCH", base := 0x30110, n1 := 2, s1 := 0x40, rcl := 0x7F },
  { name := "HSE_M_LO", base := 0x30200, n1 := 16, s1 := 0x8 },
  { name := "HSE_M_HI", base := 0x30204, n1 := 16, s1 := 0x8 },
  { name := "PK_DIS", base := 0x30380, rw := 0xFFFFFFFF, reset := 0xFCA28186 },
  { name := "PK_SOC", base := 0x30384 },
  { name := "PK_LATCH", base := 0x30388, rcl := 0x7 },
  { name := "LG_POOL", base := 0x30500 },
  { name := "LG_FREE", base := 0x30504 },
  { name := "LG_BURST", base := 0x30508 },
  { name := "LG_BFREE", base := 0x3050C },
  { name := "LG_LENT", base := 0x30510 },
  { name := "LG_HOUSE", base := 0x30514 },
  { name := "LG_CFG", base := 0x30518, rw := 0xFFFFFF, reset := 0xA190A },
  { name := "LG_STAT", base := 0x3051C, rcl := 0x2000FFFF },
  { name := "LG_HELD", base := 0x30540, n1 := 24, s1 := 0x4 },
  { name := "LG_RSV", base := 0x305A0, n1 := 24, s1 := 0x4, rw := 0x3FF },
  { name := "PK_CFG", base := 0x30300, rw := 0x73F001F, reset := 0xD0003 },
  { name := "PK_CTRL", base := 0x30304, wo := 0x7 },
  { name := "PK_CAP", base := 0x30308, rw := 0xFFFFFFFF, reset := 0x2710 },
  { name := "PK_V_CV", base := 0x30310, rw := 0xFFFFFFFF, reset := 0x535020 },
  { name := "PK_V_FLOAT", base := 0x30314, rw := 0xFFFFFFFF, reset := 0x515450 },
  { name := "PK_V_PRE", base := 0x30318, rw := 0xFFFFFFFF, reset := 0x3B8260 },
  { name := "PK_V_RECHG", base := 0x3031C, rw := 0xFFFFFFFF, reset := 0x1FBD0 },
  { name := "PK_V_OVP", base := 0x30320, rw := 0xFFFFFFFF, reset := 0x5649D8 },
  { name := "PK_I_CC", base := 0x30324, rw := 0xFFFFFFFF, reset := 0x4C4B40 },
  { name := "PK_I_PRE", base := 0x30328, rw := 0xFFFFFFFF, reset := 0xF4240 },
  { name := "PK_I_TERM", base := 0x3032C, rw := 0xFFFFFFFF, reset := 0x7A120 },
  { name := "PK_I_MAINT", base := 0x30330, rw := 0xFFFFFFFF },
  { name := "PK_TMR_0", base := 0x30334, rw := 0xFFFFFFFF, reset := 0xA0708 } ]

def tableHse1 : List RegDef := [
  { name := "PK_TMR_1", base := 0x30338, rw := 0xFFFFFFFF, reset := 0x38401C20 },
  { name := "PK_TMR_2", base := 0x3033C, rw := 0xFFFFFFFF },
  { name := "PK_TMR_3", base := 0x30340, rw := 0xFFFFFFFF, reset := 0x1C208CA0 },
  { name := "PK_ZONE_T", base := 0x30344, rw := 0xFFFFFFFF, reset := 0x3C2D0A00 },
  { name := "PK_ZONE_ADJ", base := 0x30348, rw := 0xFFFFFF00, reset := 0x14643200 },
  { name := "PK_VADJ", base := 0x3034C, rw := 0xFFFFFFFF, reset := 0x5140000 },
  { name := "PK_NIMH", base := 0x30350, rw := 0xFFFFFFFF, reset := 0x1E0A0000 },
  { name := "PK_STAT", base := 0x30360, rcl := 0x80000000, reset := 0x20000 },
  { name := "PK_TIME", base := 0x30364 },
  { name := "PK_IEFF", base := 0x30368 },
  { name := "PK_LATCH", base := 0x3036C, rcl := 0xFF } ]

def tableHse : List RegDef := tableHse0 ++ tableHse1

def tableTc : List RegDef := [
  { name := "PD_CFG", base := 0x300000, n1 := 8, s1 := 0x1000, rw := 0xFFF000FF, reset := 0x2010000A },
  { name := "PD_SLEW", base := 0x300004, n1 := 8, s1 := 0x1000, rw := 0xFFFF, reset := 0x2EE },
  { name := "PD_RETRY", base := 0x300008, n1 := 8, s1 := 0x1000, rw := 0xF000FFFF, reset := 0x30000A05 },
  { name := "PD_SNK", base := 0x30000C, n1 := 8, s1 := 0x1000, rw := 0xC1FF01FF, reset := 0x80C8012C },
  { name := "PD_SRC_PDO_0", base := 0x300010, n1 := 8, s1 := 0x1000, rw := 0xFFFFFFFF, reset := 0x1912C },
  { name := "PD_SRC_PDO", base := 0x300014, n1 := 8, s1 := 0x1000, n2 := 10, s2 := 0x4, rw := 0xFFFFFFFF },
  { name := "PD_SNK_PDO_0", base := 0x300040, n1 := 8, s1 := 0x1000, rw := 0xFFFFFFFF, reset := 0x1912C },
  { name := "PD_SNK_PDO", base := 0x300044, n1 := 8, s1 := 0x1000, n2 := 6, s2 := 0x4, rw := 0xFFFFFFFF },
  { name := "PD_ID", base := 0x300060, n1 := 8, s1 := 0x1000, n2 := 6, s2 := 0x4, rw := 0xFFFFFFFF },
  { name := "PD_CABLE", base := 0x300078, n1 := 8, s1 := 0x1000, n2 := 4, s2 := 0x4, rw := 0xFFFFFFFF },
  { name := "PD_STAT", base := 0x300090, n1 := 8, s1 := 0x1000 },
  { name := "PD_CON_V", base := 0x300094, n1 := 8, s1 := 0x1000 },
  { name := "PD_CON_I", base := 0x300098, n1 := 8, s1 := 0x1000 },
  { name := "PD_BC", base := 0x30009C, n1 := 8, s1 := 0x1000, rw := 0xE0000000 },
  { name := "PD_LATCH", base := 0x3000A0, n1 := 8, s1 := 0x1000, rcl := 0x3FF } ]

def tableFab : List RegDef := [
  { name := "FAB_LINK_STAT", base := 0x40000, n1 := 7, s1 := 0x20, reset := 0x4000FFFF },
  { name := "FAB_LINK_ERR", base := 0x40004, n1 := 7, s1 := 0x20, rcl := 0xFFFFFFFF },
  { name := "FAB_C0_MAX", base := 0x40008, n1 := 7, s1 := 0x20, rcl := 0xFFFFFFFF },
  { name := "FAB_CRED", base := 0x4000C, n1 := 7, s1 := 0x20, reset := 0x40804020 },
  { name := "FAB_C0_STAT", base := 0x40100, rcl := 0xFFFF0000 },
  { name := "CHN_CFG", base := 0x40800, rw := 0xFF00FFFF, reset := 0x80000400 },
  { name := "CHN_HOLD", base := 0x40804, rw := 0xFFFF, reset := 0x3C },
  { name := "CHN_LAT", base := 0x40808, rw := 0x8000FFFF },
  { name := "CHN_STAT", base := 0x4080C, rcl := 0x10000, reset := 0x20000000 },
  { name := "CHN_PORT", base := 0x40810, n1 := 2, s1 := 0x4 },
  { name := "CHN_DELAY", base := 0x40818, n1 := 2, s1 := 0x4 },
  { name := "CHN_CTIME_LO", base := 0x40820 },
  { name := "CHN_CTIME_HI", base := 0x40824 },
  { name := "CHN_OFS", base := 0x40828 },
  { name := "CHN_ERR", base := 0x4082C, rcl := 0xFFFFFFFF },
  { name := "CHN_LATCH", base := 0x40830, rcl := 0x3F },
  { name := "CHN_PEER", base := 0x40840, n1 := 16, s1 := 0x4 } ]

def tableHst : List RegDef := [
  { name := "HST_CFG", base := 0x50000, n1 := 2, s1 := 0x40, rw := 0x80003FFF, reset := 0x800005DC },
  { name := "HST_IP4", base := 0x50004, n1 := 2, s1 := 0x40, rw := 0xFFFFFFFF },
  { name := "HST_IP6", base := 0x50008, n1 := 2, s1 := 0x40, n2 := 4, s2 := 0x4, rw := 0xFFFFFFFF },
  { name := "HST_MAC_LO", base := 0x50018, n1 := 2, s1 := 0x40 },
  { name := "HST_MAC_HI", base := 0x5001C, n1 := 2, s1 := 0x40 },
  { name := "HST_STAT", base := 0x50020, n1 := 2, s1 := 0x40, rcl := 0x40000000 },
  { name := "HST_DROP", base := 0x50024, n1 := 2, s1 := 0x40, rcl := 0xFFFFFFFF },
  { name := "HST_HDP", base := 0x50100, rw := 0xFFFF, reset := 0xC4EA },
  { name := "HST_HDP_TMR", base := 0x50104, rw := 0xFFFFFFFF, reset := 0x100141F4 },
  { name := "HST_SESS", base := 0x50108, rcl := 0xFFFF0000 },
  { name := "PTP_CFG", base := 0x50200, rw := 0xE0FFFFFF, reset := 0xC000800A },
  { name := "PTP_STAT", base := 0x50204, rcl := 0x20000000 },
  { name := "PTP_OFS", base := 0x50208 },
  { name := "TW_TIM", base := 0x50800, rw := 0xC000FFFF, reset := 0x4000191E },
  { name := "TW_ALERT", base := 0x50808, rw := 0x8FFF007F, reset := 0x83010008 },
  { name := "TW_STAT", base := 0x5080C, rcl := 0x80000000 },
  { name := "TW_LATCH", base := 0x50810, rcl := 0x7F },
  { name := "TW_CTRL", base := 0x50814, wo := 0x1 },
  { name := "TWN_CTRL", base := 0x50900, n1 := 3, s1 := 0x40, rw := 0x607F3F3F, wo := 0x80000000, reset := 0x20000000 },
  { name := "TWN_STAT", base := 0x50904, n1 := 3, s1 := 0x40, rcl := 0x60000000 },
  { name := "TWN_DATA", base := 0x50910, n1 := 3, s1 := 0x40, n2 := 8, s2 := 0x4, rw := 0xFFFFFFFF } ]

def tableFlt : List RegDef := [
  { name := "FLT_SUM", base := 0x10000, n1 := 12, s1 := 0x4, w1c := 0xFFFFFFFF },
  { name := "FLT_INT_EN", base := 0x10040, n1 := 12, s1 := 0x4, rw := 0xFFFFFFFF, reset := 0xFFFFFFFF },
  { name := "FLT_CFG", base := 0x10100, rw := 0x3, reset := 0x1 },
  { name := "FLT_STAT", base := 0x10104 },
  { name := "FLT_SEQ", base := 0x10108 },
  { name := "FLT_RAIL", base := 0x1010C, rcl := 0x80FF01FF },
  { name := "FLT_FORCE_CTRL", base := 0x10110, wo := 0x7FF },
  { name := "FLT_HELD", base := 0x10140, n1 := 12, s1 := 0x4 },
  { name := "FLT_CHCLR", base := 0x10180, wo := 0xFFFFFF },
  { name := "FLT_COVER", base := 0x10200, reset := 0xFFFFFF },
  { name := "FLT_COVER", base := 0x10204, reset := 0xFFFFFF },
  { name := "FLT_COVER", base := 0x10208, reset := 0x7FFFFFF },
  { name := "FLT_COVER", base := 0x1020C, reset := 0xFFFFFF },
  { name := "FLT_REPAIR_STAT", base := 0x10210, reset := 0x8 } ]

def tableLts : List RegDef := [
  { name := "LT_CTRL", base := 0x80000, n1 := 4, s1 := 0x20, rw := 0xE8F80000, wo := 0x10000000, reset := 0x400000 },
  { name := "LT_CTRL", base := 0x82000, n1 := 2, s1 := 0x20, rw := 0xE8F80000, wo := 0x10000000, reset := 0x400000 },
  { name := "LT_CTRL", base := 0x84000, n1 := 119, s1 := 0x20, rw := 0xE8F80000, wo := 0x10000000, reset := 0x400000 },
  { name := "LT_CTRL", base := 0x86000, n1 := 131, s1 := 0x20, rw := 0xE8F80000, wo := 0x10000000, reset := 0x400000 },
  { name := "LT_PAT_LO", base := 0x80004, n1 := 4, s1 := 0x20, rw := 0xFFFFFFFF },
  { name := "LT_PAT_LO", base := 0x82004, n1 := 2, s1 := 0x20, rw := 0xFFFFFFFF },
  { name := "LT_PAT_LO", base := 0x84004, n1 := 119, s1 := 0x20, rw := 0xFFFFFFFF },
  { name := "LT_PAT_LO", base := 0x86004, n1 := 131, s1 := 0x20, rw := 0xFFFFFFFF },
  { name := "LT_PAT_HI", base := 0x80008, n1 := 4, s1 := 0x20, rw := 0xFFFFFFFF },
  { name := "LT_PAT_HI", base := 0x82008, n1 := 2, s1 := 0x20, rw := 0xFFFFFFFF },
  { name := "LT_PAT_HI", base := 0x84008, n1 := 119, s1 := 0x20, rw := 0xFFFFFFFF },
  { name := "LT_PAT_HI", base := 0x86008, n1 := 131, s1 := 0x20, rw := 0xFFFFFFFF },
  { name := "LT_STAT", base := 0x8000C, n1 := 4, s1 := 0x20, rcl := 0x30FF0000 },
  { name := "LT_STAT", base := 0x8200C, n1 := 2, s1 := 0x20, rcl := 0x30FF0000 },
  { name := "LT_STAT", base := 0x8400C, n1 := 119, s1 := 0x20, rcl := 0x30FF0000 },
  { name := "LT_STAT", base := 0x8600C, n1 := 131, s1 := 0x20, rcl := 0x30FF0000 },
  { name := "LT_ERR", base := 0x80010, n1 := 4, s1 := 0x20, rcl := 0xFFFFFFFF },
  { name := "LT_ERR", base := 0x82010, n1 := 2, s1 := 0x20, rcl := 0xFFFFFFFF },
  { name := "LT_ERR", base := 0x84010, n1 := 119, s1 := 0x20, rcl := 0xFFFFFFFF },
  { name := "LT_ERR", base := 0x86010, n1 := 131, s1 := 0x20, rcl := 0xFFFFFFFF },
  { name := "LT_BITS_LO", base := 0x80014, n1 := 4, s1 := 0x20, rcl := 0xFFFFFFFF },
  { name := "LT_BITS_LO", base := 0x82014, n1 := 2, s1 := 0x20, rcl := 0xFFFFFFFF },
  { name := "LT_BITS_LO", base := 0x84014, n1 := 119, s1 := 0x20, rcl := 0xFFFFFFFF },
  { name := "LT_BITS_LO", base := 0x86014, n1 := 131, s1 := 0x20, rcl := 0xFFFFFFFF },
  { name := "LT_BITS_HI", base := 0x80018, n1 := 4, s1 := 0x20 },
  { name := "LT_BITS_HI", base := 0x82018, n1 := 2, s1 := 0x20 },
  { name := "LT_BITS_HI", base := 0x84018, n1 := 119, s1 := 0x20 },
  { name := "LT_BITS_HI", base := 0x86018, n1 := 131, s1 := 0x20 },
  { name := "LT_JTAG", base := 0x88000, reset := 0x1 } ]

def tableGlb : List RegDef := [
  { name := "GLB_PART", base := 0x0, reset := 0x2460 },
  { name := "GLB_STEP", base := 0x4, reset := 0xC1 },
  { name := "GLB_UCS", base := 0x8, reset := 0x20004 },
  { name := "GLB_PATCH", base := 0xC },
  { name := "GLB_PSET_VER", base := 0x10 },
  { name := "GLB_SERIAL_LO", base := 0x18 },
  { name := "GLB_SERIAL_HI", base := 0x1C },
  { name := "GLB_CAP", base := 0x20, reset := 0x18080840 },
  { name := "GLB_PINS", base := 0x24 },
  { name := "GLB_WHOAMI", base := 0x30 },
  { name := "GLB_MYSTAT", base := 0x34, rcl := 0xF000FFFF },
  { name := "GLB_ACC_ERR", base := 0x38, rcl := 0xFF3FFFFF },
  { name := "GLB_ACC_ADDR", base := 0x3C },
  { name := "GLB_SCRATCH", base := 0x50, n1 := 4, s1 := 0x4, rw := 0xFFFFFFFF },
  { name := "GLB_ASSET", base := 0x60, n1 := 4, s1 := 0x4, lck := 0xFFFFFFFF },
  { name := "GLB_PROV_CTRL", base := 0x70, wo := 0xFFFFFFFF },
  { name := "GLB_PROV_STAT", base := 0x74, rcl := 0x10000000 } ]

def tableQd : List RegDef := [
  { name := "QD_ID_0", base := 0x100000 },
  { name := "QD_ID_1", base := 0x110000, reset := 0x10000000 },
  { name := "QD_ID_2", base := 0x120000, reset := 0x20000000 },
  { name := "QD_ID_3", base := 0x130000, reset := 0x30000000 },
  { name := "QD_ID_4", base := 0x140000, reset := 0x40000000 },
  { name := "QD_ID_5", base := 0x150000, reset := 0x50000000 },
  { name := "QD_TEMP", base := 0x100100, n1 := 6, s1 := 0x10000, n2 := 24, s2 := 0x4 },
  { name := "QD_THERM", base := 0x100200, n1 := 6, s1 := 0x10000, n2 := 4, s2 := 0x4 } ]

/-- The registers of the block that holds address `a` (Table 21-1). -/
def tableOf (a : Nat) : List RegDef :=
  if a < 0x10000 then tableGlb else if a < 0x20000 then tableFlt else if a < 0x30000 then tableTb
  else if a < 0x40000 then tableHse else if a < 0x50000 then tableFab else if a < 0x60000 then tableHst
  else if a < 0x70000 then tableMgt else if a < 0x80000 then tableSeq else if a < 0x90000 then tableLts
  else if a < 0x200000 then tableQd else if a < 0x300000 then tableCh else tableTc

/-- Does register `d` lie at byte address `a`? -/
def RegDef.covers (d : RegDef) (a : Nat) : Bool :=
  d.base ≤ a && (a - d.base) / d.s1 < d.n1 && ((a - d.base) % d.s1) / d.s2 < d.n2 &&
    ((a - d.base) % d.s1) % d.s2 == 0

/-- The register at byte address `a`; none for a reserved or unmapped word. -/
def regDef? (a : Nat) : Option RegDef := (tableOf a).find? (·.covers a)

/-- The word an address reads after reset: the Reset column of its table, 0 for a reserved word (R513). -/
def resetWord (a : Nat) : BitVec 32 :=
  match regDef? a with
  | some d => BitVec.ofNat 32 d.reset
  | none => 0

end Sys2Proof.Machine
end

