-- ==== Sys2Proof/Machine/State.lean ====
section
/-!
DEFINITION. The state of the part: plain data. Registers live in `regs` (one home for every register
field, read through the register table), the bytes of queue memory in `mem`, and what the spec's rules
keep beside the registers in the typed parts below. Names and rules of every field: INVENTORY.md.
-/

namespace Sys2Proof.Machine

/-- Faults of a step. The part has no condition that stops it: no command raises this one; it keeps the
type inhabited (safe: nothing is shut out). -/
inductive Fault where
  /-- Raised by no command. Safe. -/
  | none
deriving DecidableEq, Repr

/-- Refusals of a step. -/
inductive Refusal where
  /-- The command has no meaning yet: raised by the arms of exec that say so, nowhere else. Safe. -/
  | notModelled (mnemonic : String)
deriving DecidableEq, Repr

/-! ### Events of the timebase -/

/-- Where an event record is (R56, R57, R61, R62, R65). `reporting`: its last fire's report is under way. -/
inductive Place where
  | bucket (b : Nat)
  | far
  | overflow
  | armed
  | reporting
deriving DecidableEq, Repr

/-- One record of the event pool (Table 02-5). `eff` is the effective direction once taken (R42): true up.
`early`: armed before its rule held (R44). `held`: reached or armed while dispatch was frozen (R49). `jump`: passed by a jump (1) or by a silent
correction (2) while in the calendar (R50). `fires`: fires so far.
`placer`: the UCS requester that placed it, for FIRE notices (R304). -/
structure Record where
  idx    : Nat
  cmp    : Word
  aux    : Word := 0
  dir    : Nat := 0
  ext    : Bool := false
  rep    : Bool := false
  notify : Bool := false
  owner  : Nat := 0
  tkind  : Nat := 0
  mask   : Nat := 0
  acode  : Nat := 0
  arg0   : Nat := 0
  arg1   : Word := 0
  arg2   : Word := 0
  place  : Place
  eff    : Option Bool := none
  early  : Bool := true
  seq    : Nat := 0
  fires  : Nat := 0
  jump   : Nat := 0
  held   : Bool := false
  placer : Option Requester := none
deriving DecidableEq, Repr

/-- A fire report on its way to the hub (R56): the extended count and the device time of the fire (R40), and OK, or
BAD_ARG where an operand failed its check on a target (R248). -/
structure FireRep where
  idx    : Nat
  owner  : Nat
  notify : Bool
  late   : Bool
  last   : Bool
  placer : Option Requester
  ext    : Nat := 0
  dtime  : Nat := 0
  status : Nat := 0
deriving DecidableEq, Repr

/-- A general timer beyond GT_STAT (R69): its compare's effective direction, and armed before reached; the device
time that its latest capture carries beside the extended count (R40). -/
structure GtState where
  up    : Bool := true
  early : Bool := true
  dtime : Nat := 0
deriving DecidableEq, Repr

/-- Buckets that the walker still has to visit: `n` of them from bucket `first` on, downward or upward (R50, R58). -/
structure Span where
  first : Nat
  n     : Nat
  down  : Bool
deriving DecidableEq, Repr

/-- The timebase beyond its registers (R34 to R36, R49, R58). `overrate`: sources 1 and 2 within an over-rate
episode; `invalid`: sources 1, 2 and 5 whose differential inputs are not valid; `held`: the TBC holds because
its source lost qualification; `reacq`: the count is to be aligned at the next mains crossing; `chainAcq`: the
count is to be aligned to the chain master; `slew`, `slewN`: the counts that a mains re-acquisition still slews by,
and the steps since its last one. `walkDown`: the walker's direction of travel; `walkK`: the horizon it uses;
`lead`: the buckets by which its front lies ahead of the present bucket, negative behind; `spans`: buckets that it
visits beside; `armSeq`: records promoted so far; `ticks`: pulses on TICK_OUT (R542). -/
structure TbState where
  overrate : List Nat := []
  invalid  : List Nat := []
  held     : Bool := false
  reacq    : Bool := false
  chainAcq : Bool := false
  slew     : Int := 0
  slewN    : Nat := 0
  walkDown : Bool := false
  walkK    : Nat := 64
  lead     : Int := 0
  spans    : List Span := []
  armSeq   : Nat := 0
  ticks    : Nat := 0
deriving DecidableEq, Repr

/-! ### Channels -/

/-- The history of a voltage compensator (R114): e[n−1], e[n−2], y[n−1], y[n−2]. -/
structure Comp where
  e1 : Int := 0
  e2 : Int := 0
  y1 : Int := 0
  y2 : Int := 0
deriving DecidableEq, Repr

/-- A profile header as the engine read it (R121). -/
structure ProfHdr where
  addr   : Nat
  qty    : Nat
  endPol : Nat
  down   : Bool
  n      : Nat
  start  : Word
deriving DecidableEq, Repr

/-- The law state of one control engine (R126); a channel holds it twice. `main`, `hiC`, `loC`, `batC`: the instances of the
voltage compensator (R105, R154); `integ`, `uk`, `ons`: per leg the integrator, the last loop output and the
on-time; `r` and `tgt`: the ramped reference and its target; `one`: the slew of a CHRAMP by set-point (R241);
`loaded` and `coefs`: the profile in force and, under CUSTOM, b0, b1, b2, a1, a2, kpi, kii, shift (R114);
`bump`: the coefficients changed and the next output equals the last (R115); `profIdx`: the segment that the profile is
in; `profHold`: a profile ended at a bad segment (R118). -/
structure Engine where
  main     : Comp := {}
  hiC      : Comp := {}
  loC      : Comp := {}
  batC     : Comp := {}
  integ    : List Int := [0, 0, 0, 0]
  uk       : List Int := [0, 0, 0, 0]
  ons      : List Nat := [0, 0, 0, 0]
  r        : Int := 0
  tgt      : Int := 0
  one      : List (Option Int) := [none, none, none, none]
  loaded   : Nat := 1
  coefs    : List Int := []
  apply    : Bool := false
  bump     : Bool := false
  prof     : Option ProfHdr := none
  profIdx  : Nat := 0
  profHold : Option Int := none
  profLap  : Option Nat := none
  restart  : Bool := false
  satCnt   : Nat := 0
  satClr   : Nat := 0
  satFired : Bool := false
  cest     : Option (Int × Int) := none
deriving DecidableEq, Repr

/-- A state write of the battery model latched while it runs (R145). -/
inductive BmWrite where
  | field (f : BmField) (v : Int)
  | soc (v : Nat)
  | relax
  | hyst
deriving DecidableEq, Repr

/-- The battery model beyond its registers (R131, R135, R139): residues, the Rp of the last lookup, the
last two terminal voltages, the last good header (CAP, CP1, CP2, HMAX, HQ, T_0 to T_7), the pending
writes, and the current sum of the samples since the last update. -/
structure Model where
  res    : Int := 0
  rem1   : Int := 0
  rem2   : Int := 0
  rp1    : Int := 0
  rp2    : Int := 0
  vPrev  : Int := 0
  vCur   : Int := 0
  fresh  : Bool := true
  hdr    : List Int := []
  writes : List BmWrite := []
  recent : List Int := [0, 0, 0, 0]
  sub    : Nat := 0
deriving DecidableEq, Repr

/-- A charger beyond its registers (R153 to R163): hold counters by condition, the timers in ms, the NiMH
peak and how many means lie below it, the temperatures of the last 60 s, the means of QUALIFY, the last valid
temperature of the cycle, writes of CG_CTRL since the last tick, a lost path (R150), a throttle pause, whether the
present tick took its transition (R157), the zone parameters as the last tick took them (R169: COOL_PCT, WARM_PCT, WARM_DV,
TCOMP, THERM_EN), and the ramped current and voltage (R155). -/
structure Charger where
  running  : Bool := false
  holds    : List Nat := [0, 0, 0, 0, 0, 0, 0, 0]
  phaseMs  : Nat := 0
  totalMs  : Nat := 0
  restMs   : Nat := 0
  holdoff  : Nat := 0
  peak     : Option Int := none
  below    : Nat := 0
  temps    : List Int := []
  vHist    : List Int := []
  lastT    : Option Int := none
  clear    : Bool := false
  restart  : Bool := false
  throttle : Bool := false
  lost     : Bool := false
  moved    : Bool := false
  zpar     : List Int := [0, 0, 0, 0, 0]
  r        : Int := 0
  vref     : Int := 0
deriving DecidableEq, Repr

/-- A statistics window in progress (R192, R193). -/
structure Window where
  opened : Bool := false
  len    : Nat := 0
  n      : Nat := 0
  sv     : Int := 0
  si     : Int := 0
  sv2    : Nat := 0
  si2    : Nat := 0
  sp     : Int := 0
  vmin   : Int := 0
  vmax   : Int := 0
  imin   : Int := 0
  imax   : Int := 0
  d0     : Nat := 0
  x0     : Nat := 0
  d1     : Nat := 0
  x1     : Nat := 0
  flags  : Nat := 0
  step   : Nat := 0xFFFFFFFF
  late   : Bool := false
deriving DecidableEq, Repr

/-- A capture in progress (R197): records produced, and the open group. -/
structure Capture where
  seq   : Nat := 0
  n     : Nat := 0
  first : List Int := []
  sums  : List Int := []
  d0    : Nat := 0
  x0    : Nat := 0
  flags : Nat := 0
  tail  : Nat := 0
  late  : Bool := false
deriving DecidableEq, Repr

/-- A sweep in progress (R199 to R202): the table as checked, the next step and whether its window is due. -/
structure Sweep where
  addr    : Nat := 0
  qty     : Nat := 0
  policy  : Nat := 0
  down    : Bool := false
  n       : Nat := 0
  start   : Word := 0
  spacing : Nat := 0
  settle  : Nat := 0
  window  : Nat := 0
  next    : Nat := 0
  winDue  : Option Word := none
  late    : Bool := false
deriving DecidableEq, Repr

/-- An input frozen for the next control sample that an armed fire latched (R101, R248). -/
structure Fire where
  acode : Nat
  arg0  : Nat
  arg1  : Word
  arg2  : Word
  late  : Bool
deriving DecidableEq, Repr

/-- The measurement front end beyond its registers (R180 to R203). `units`: the V unit, the I unit and the spare;
`oldest`: the place of the active unit that has run longest; `winReq`, `capReq`: starts (with LATE) and stops that
wait for the next sample; `heldR`, `heldV`: the AUTO decisions of the two ranges that a change or a handover holds (R182); `winCnt`: windows completed; `buf`: records that a throttle pause withholds (R468);
`calOf`: the calibration data that each unit uses, by the count of installations (R318);
`info`: ranges and stage of the latest sample (Table 07-12). -/
structure FrontEnd where
  downI    : Nat := 0
  downV    : Nat := 0
  still    : Nat := 0
  outHi    : Nat := 0
  outLo    : Nat := 0
  chg      : Option Nat := none
  heldR    : Option Nat := none
  heldV    : Option Nat := none
  units    : List Nat := [0, 1, 2]
  calOf    : List Nat := [0, 0, 0]
  calib    : Bool := true
  spareOk  : Bool := false
  calPlace : Option Nat := none
  calMark  : Bool := false
  win      : Window := {}
  winReq   : List (Option Bool) := []
  winCnt   : Nat := 0
  lastRec  : List Word := []
  cap      : Capture := {}
  capReq   : List (Option Bool) := []
  buf      : List (Nat × Bool × List Word) := []
  oldest   : Nat := 0
  info     : Nat := 0
  gapS     : Bool := false
  gapW     : Bool := false
  sweep    : Sweep := {}
  eResO    : Int := 0
  qResO    : Int := 0
  eResB    : Int := 0
  qResB    : Int := 0
  clr      : Nat := 0
  flags    : Nat := 0
deriving DecidableEq, Repr

/-- The steps of a path transition (R82, Table 03-4): the legs take over; the battery switch ramps its current to zero;
the legs drive OUT to V_BAT; the switch joins OUT and BAT within 2 A; the switch is LINEAR before the PATH rule applies;
the request for credits is out; the legs pause while the input pairs change; they resume from the new input. -/
inductive TStep where
  | takeover
  | unload
  | seek
  | join
  | linear
  | credit
  | pause
  | resume
deriving DecidableEq, Repr

/-- One channel beyond its registers. `force` is the resolved word in force (R217); `dest` the target of the
path transition under way, `tstep` its step, `tn` the samples in that step, and `pathF` the path the switches are in;
`bswMax` the limit of the battery switch's current in µA, 0 for none; `supp`: the switch supplements in PATH (R78); `dead`: every switch was opened by a
trip, a fence or a stop (R84, R92, R471); `cbc` the run of cycle-by-cycle limits per leg; `carry` the PWM
carries of the pairs A/B and D/C of each leg (R88; the rule names one carry per leg: DESIGN CHOICE, log entry 61); `cbcHit`
the legs that have limited since their last period start; `period` the PWM period in force and `phase` the ticks since the
first active leg's period start (R86); `addN` per added leg the periods of its duty ramp still to come (R90);
`passDem` the current demand of the STILL pass device in µA (R185); `eng`, `bm` the state of the control engine that
drives and `engB`, `bmB` the state of the other (R126); `delayed` fires wait for the power stage (R22). `stand`
are the bits 0 to 3 of MD_WHY that stand (R210), `gangWant` the size of a gang request that row 7 turned away, `stopF` a stop ordered from outside the
sector's level (R476, R480). `batN` counts samples above 20 A (R80) and `uvN` those above IBAT_LIM (R81). `stopSlew`
is the slew of an orderly stop's discharge (R470). `diode`: a switch in DIODE conducts (R77). `drain`: the discharge of
boot step 6 is still to end (R494). -/
structure Chan where
  force    : Word := 0x00370200
  dest     : Option Nat := none
  tstep    : TStep := .takeover
  tn       : Nat := 0
  bswMax   : Nat := 0
  supp     : Bool := false
  pathF    : Nat := 2
  dead     : Bool := false
  heldPath : List Nat := []
  regions  : List Nat := [0, 0, 0, 0]
  cbc      : List Nat := [0, 0, 0, 0]
  cbcHit   : Nat := 0
  period   : Nat := 4000
  phase    : Nat := 0
  addN     : List Nat := [0, 0, 0, 0]
  passDem  : Int := 0
  carry    : List (Nat × Nat) := [(0, 0), (0, 0), (0, 0), (0, 0)]
  convBad  : List Nat := []
  fenced   : Bool := false
  episode  : Bool := false
  burstN   : Nat := 0
  burstD   : Nat := 0
  calmN    : Nat := 0
  shedN    : Nat := 0
  disch    : Bool := false
  react    : Option Bool := none
  stand    : Nat := 0
  heldOff  : Bool := false
  gangWant : Nat := 0
  stopF    : Bool := false
  stopSlew : Nat := 0
  batN     : Nat := 0
  uvN      : Nat := 0
  uvLim    : Bool := false
  diode    : Bool := false
  gangLeft : Bool := false
  batLow   : Bool := false
  abandon  : Bool := false
  trip     : Nat := 0
  latchRd  : Bool := false
  share    : Option Int := none
  fires    : List Fire := []
  delayed  : List Fire := []
  eng      : Engine := {}
  bm       : Model := {}
  engB     : Engine := {}
  bmB      : Model := {}
  fe       : FrontEnd := {}
  lineRise : Nat := 0
  drain    : Bool := false
deriving DecidableEq, Repr

/-! ### Programs -/

/-- A tag slot (R273): FREE, OUT (with whether its word is discarded), or DONE with its word. -/
inductive Tag where
  | free
  | out (discard : Bool)
  | done (w : Word)
deriving DecidableEq, Repr

/-- What a waiting thread waits for (R251 to R260, R274). -/
inductive Wait where
  | none
  | count (v : Word) (up : Bool) (early : Bool)
  | time (t : Nat)
  | event (kind idx : Nat) (seen : Nat) (rd : Fin 32)
  | tag (slot : Nat) (rd : Fin 32)
  | fence (fn : Nat)
  | stall
  | halt
deriving DecidableEq, Repr

/-- The registers and flags of a Nerog executor (R220). g0 is not kept: it reads 0. -/
structure Ctx where
  g    : Vector Word 32 := Vector.replicate 32 0
  z    : Bool := false
  n    : Bool := false
  cy   : Bool := false
  v    : Bool := false
  late : Bool := false
deriving DecidableEq, Repr

/-- A sequencer thread beyond its SEQ registers: context, wait, tags with their generation counts (R272),
its own WAKE and FIRE counters (R253), whether STOP waits for a migration, and the state a migration
returns it to; the PC it was started at (R265); whether it was READY at the end of the last throttle pause and has not
issued since (R289). -/
structure Thread where
  ctx      : Ctx := {}
  wait     : Wait := .none
  tags     : Vector Tag 64 := Vector.replicate 64 .free
  gens     : Vector Nat 64 := Vector.replicate 64 0
  wakeCnt  : Nat := 0
  wakePay  : Word := 0
  fireCnt  : Nat := 0
  firePay  : Word := 0
  stopReq  : Bool := false
  back     : Nat := 0
  backK    : Nat := 0
  entry    : Word := 0
  owed     : Bool := false
deriving DecidableEq, Repr

/-- An MSS core (R263, R275, R288): context, PC, special registers, its 16 tag slots, its wait, the device times of its
exceptions within 1 s (R298), and whether it is in service; `handler`: the exception handler runs and will set EPC to the
dispatch entry before its ERET (R298). -/
structure MssCore where
  ctx    : Ctx := {}
  pc     : Word := 0x1F000000
  epc    : Word := 0
  ecause : Word := 0
  eaddr  : Word := 0
  status : Word := 0
  saved  : Word := 0
  tags   : Vector Tag 16 := Vector.replicate 16 .free
  gens   : Vector Nat 16 := Vector.replicate 16 0
  excs   : List Nat := []
  handler : Bool := false
  wait   : Wait := .none
  ok     : Bool := true
deriving DecidableEq, Repr

/-- What an operation does (R235 to R259), with its operands as read at issue. -/
inductive OpKind where
  | chset (param : Nat) (v : Word)
  | chramp (param : Nat) (v slew : Word)
  | chmode (axes : Nat) (w : Word)
  | chgang (size : Nat)
  | meas (qty : Nat) (buf : Nat)
  | capStart (ctrl : Word)
  | capStop
  | statRead (buf : Nat)
  | statStart
  | statStop
  | sched (img : List Word)
  | arm (img : List Word)
  | disarm (idx : Nat)
  | qpush (buf : Nat)
  | qpop (buf : Nat)
  | pdSend (buf : Nat) (msg : List Word)
  | pdRecv (buf : Nat)
  | vdmReq (buf : Nat) (req : List Word)
  | vdmSend (buf : Nat) (req : List Word)
  | vdmRecv (buf : Nat)
  | pdReq (pos kind v i : Nat)
  | fltrd (src buf : Nat)
  | force (src op : Nat)
  | bad
deriving DecidableEq, Repr

/-- The unit an operation goes to (R277). -/
inductive Unit' where
  | chan (c : Nat)
  | hub
  | ring (r : Nat)
  | port (p : Nat)
  | coll
deriving DecidableEq, Repr

/-- An operation in flight (R235, R276): `word` is its completion word once the unit has done it, `body`
what a UCS response carries beside its status, and `pc` the address of the posting instruction; `held`: a mode request
that waits for the end of the transition to TIED which it started (R82). -/
structure Op where
  who  : Issuer
  unit : Unit'
  kind : OpKind
  pc   : Word := 0
  word : Option Word := none
  body : List Word := []
  held : Bool := false
deriving DecidableEq, Repr

/-! ### Command set -/

/-- A command accepted and not yet answered (R306): its frame's code, flags and body; `by'` the service
thread that executes it, or 64 + core on the slow path; `orphan`: its session has closed (R416). -/
structure OutCmd where
  rq      : Requester
  tag     : BitVec 16
  code    : Nat
  flags   : Nat
  body    : List Word
  started : Bool := false
  replay  : Bool := false
  by'     : Option Nat := none
  orphan  : Bool := false
deriving DecidableEq, Repr

/-- A journalled response (R308). -/
structure Journal where
  rq     : Requester
  tag    : BitVec 16
  code   : Nat
  status : Nat
  body   : List Word
  trunc  : Bool := false
  sent   : Bool := true
  replay : Bool := false
deriving DecidableEq, Repr

/-- A frame the part sends: response or notice (R299, R304). -/
structure Frame where
  rq    : Requester
  code  : Nat
  tag   : BitVec 16
  flags : Nat
  body  : List Word
deriving DecidableEq, Repr

/-- The body of a datagram (Table 16-1): a UCS frame; the slots of a STREAM with endpoint, ring, first index and
count; the reason of a CLOSE. -/
inductive HdpBody where
  | none
  | frame (f : Frame)
  | stream (endpoint ring index count : Nat) (slots : List Byte)
  | close (reason : Nat)
deriving DecidableEq, Repr

/-- A datagram of a session that takes a sequence number (R414): its TYPE, number and body, and its resends. -/
structure HdpTx where
  kind  : Nat
  seq   : Word := 0
  body  : HdpBody
  tries : Nat := 0
deriving DecidableEq, Repr

/-- A reassembly in progress (R411): port, source and identification of the datagram, its fragments with their places, the
length of the whole payload once its last fragment is there, and when it began. -/
structure Reasm where
  port  : Nat
  peer  : Nat
  id    : Nat
  parts : List (Nat × List Byte) := []
  total : Option Nat := none
  since : Nat
deriving DecidableEq, Repr

/-- A datagram on the wire: port, peer and header (Table 16-1); the places and lengths of its IP fragments, none where it
leaves whole (R411). -/
structure HdpWire where
  port    : Nat
  peer    : Nat
  kind    : Nat
  session : Word
  seq     : Word
  ack     : Word
  body    : HdpBody
  frags   : List (Nat × Nat) := []
deriving DecidableEq, Repr

/-- The books of one class in one direction of a fabric link or a chain hop (R392): flits in flight, occupied entries of the
receiver's buffer, credits on their way back, and flits that wait for a credit. The sender holds what is left of the depth. -/
structure Book where
  flight : Nat := 0
  occ    : Nat := 0
  back   : Nat := 0
  wait   : Nat := 0
deriving DecidableEq, Repr

/-- An open session (R413 to R417): its identifier; the UDP port it was opened on; the OPEN it answers, with source,
number, device time and own initial number; the peer learned on each port and the port of the latest valid
datagram; the next number expected, and what is held; the own next number; datagrams not acknowledged, and
those that wait for the window. -/
structure Session where
  id      : Word
  udp     : Nat
  openBy  : Nat
  openSeq : Word
  openAt  : Nat
  first   : Word
  peers   : List (Option Nat) := [none, none]
  port    : Nat
  rx      : Word
  held    : List (Word × Option (List Byte)) := []
  tx      : Word
  unacked : List HdpTx := []
  waits   : List (Nat × HdpBody) := []
deriving DecidableEq, Repr

/-- TW_M beyond its registers (R425 to R433): pointer, window and the first byte of a write to TW_WSEL; the request and
response buffers; the notice queue; the bytes that the latest read returned; EVENTS; the causes of the pending alert,
the attempts it has used, whether its bus is stuck; the alerts acknowledged. -/
structure TwM where
  ptr     : Nat := 0
  win     : Nat := 0
  wlow    : Option Nat := none
  req     : List Host.Cell := []
  resp    : List Byte := []
  notices : List Frame := []
  out     : List Byte := []
  events  : Nat := 0
  causes  : Nat := 0
  tries   : Nat := 0
  stuck   : Bool := false
  sent    : List (List Byte) := []
deriving DecidableEq, Repr

/-- The IEEE 1588 clock beyond its registers (R423): the offset still to be slewed out in ns, and the ns since the last
1 ns of slew. -/
structure Ptp where
  slew : Int := 0
  acc  : Nat := 0
deriving DecidableEq, Repr

/-- A requester's own state (R304, R515): notice mask, GLB_MYSTAT, the read shadow (LO address, high half)
and the write shadow (LO address, low half). -/
structure ReqState where
  mask  : Word := 0
  stat  : Word := 0
  rsh   : Option (Nat × Word) := none
  wsh   : Option (Nat × Word) := none
deriving DecidableEq, Repr

/-- A result ring (R316): base, slot bytes S, slots M, free-running HEAD and TAIL, records dropped, and the
session endpoint it is subscribed to (R420). -/
structure Ring where
  num  : Nat
  base : Nat
  size : Nat
  slots : Nat
  head : Nat := 0
  tail : Nat := 0
  drop : Nat := 0
  sub  : Option (Requester × Nat) := none
  sent : Nat := 0
deriving DecidableEq, Repr

/-- A loaded Nerog image: its segments (address, size) (R265). -/
structure Image where
  segs : List (Nat × Nat)
deriving DecidableEq, Repr

/-- The update state (R314, R317 to R319): who holds it, the length begun, the staged bytes, what the last check
found (KIND, VERSION, SEC, LENGTH), the staging slot of the active image and the one that is written; the fuse counter; the installed patch set
(VERSION, points, content of the patch store), taken at the next MSS start, and the store's present content; the
installed table library; supervisors whose new firmware waits for their reset; the copies of the installed calibration
data and how often it has been installed; the supervisors whose reset an activation has asked for and that wait for the one
before them (R318). -/
structure Update where
  holder  : Option Requester := none
  length  : Nat := 0
  staged  : List Host.Cell := []
  written : List Nat := []
  checked : Option (Nat × Nat × Nat × Nat) := none
  slot    : Nat := 1
  stage   : Nat := 0
  fuse    : Nat := 0
  patch   : Nat × Nat × List Byte := (0, 0, [])
  active  : List Byte := []
  lib     : List Byte := []
  fw      : List Nat := []
  cal     : List (List Byte) := [[], []]
  calGen  : Nat := 0
  resets  : List Nat := []
deriving DecidableEq, Repr

/-! ### The rest of the part -/

/-- An assertion on its way to the collector (R437, R439): source, condition code, details, forced, and
whether it has reached the hub. -/
structure Report where
  src    : Nat
  cond   : Nat
  d0     : Nat := 0
  d1     : Word := 0
  forced : Bool := false
  atHub  : Bool := true
deriving DecidableEq, Repr

/-- An L condition that asserts its source (R437); `recorded`: its present assertion has been recorded. -/
structure Assert where
  src      : Nat
  cond     : Nat
  d0       : Nat := 0
  d1       : Word := 0
  forced   : Bool := false
  recorded : Bool := false
deriving DecidableEq, Repr

/-- The latest record of a source (Table 17-4), as its sixteen words, and its report count. -/
structure FltRec where
  src   : Nat
  words : List Word
  count : Nat
deriving DecidableEq, Repr

/-- A reaction in progress in a fencing domain (R442). -/
structure Reaction where
  domain : Nat
  code   : Nat
  rep    : Report
deriving DecidableEq, Repr

/-- An entry of the repair record (Table 17-7). -/
structure Repair where
  type   : Nat
  index  : Nat
  origin : Nat
  state  : Nat := 0
  detail : Nat := 0
  dtime  : Nat := 0
deriving DecidableEq, Repr

/-- The summary entry of memory bank b (R455): what its array repair has used; no fence. -/
def memSummary (b : Nat) : Repair := { type := 11, index := b, origin := 0, state := 1, detail := Config.memUsed b }

/-- A log record (R481): sequence number, type and payload words. -/
structure LogRec where
  seq   : Nat
  kind  : Nat
  flags : Nat := 0
  data  : List Word
deriving DecidableEq, Repr

/-! ### Management, boot, tests -/

/-- What the thermal unit keeps of a junction (R464, R467): its estimate and the three Foster stages, the estimate at
the start of the present 100 µs window, the rate of the last window in °C/ms, and the windows in a row above
5 °C/ms and below 2 °C/ms. -/
structure Junction where
  tj   : Rat := 25
  th1  : Rat := 0
  th2  : Rat := 0
  th3  : Rat := 0
  w0   : Rat := 25
  rate : Rat := 0
  hot  : Nat := 0
  calm : Nat := 0
deriving DecidableEq, Repr

/-- A sector's thermal unit (R462 to R468): its junctions by sensor number, the steps of the present window, and the
steps in a row below 110 °C, 120 °C and RESUME; per sensor the rounds in a row that it failed the cross-check;
the substituted sensors; and the records that the quad supervisor has not forwarded (R462). -/
structure Sector where
  juncs : List Junction := []
  n     : Nat := 0
  c110  : Nat := 0
  c120  : Nat := 0
  cRes  : Nat := 0
  bad   : List Nat := List.replicate 24 0
  good  : List Nat := List.replicate 24 0
  subs  : List Nat := []
  ring  : List (List Word) := []
deriving DecidableEq, Repr

/-- The watchdog and the escalation beyond their registers (R478 to R480): ns of the running millisecond, the time on
the always-on RC oscillator in ns, and the times of the MSS-only resets that count towards escalation. -/
structure Wdt where
  sub    : Nat := 0
  clock  : Nat := 0
  recent : List Nat := []
deriving DecidableEq, Repr

/-- The NOR store's log region (R475, R482): the sector under erase and the ns since the erase began, the sectors
marked as abandoned, and the erase counts. -/
structure Nor where
  erase  : Option Nat := none
  age    : Nat := 0
  marked : List Nat := []
  wear   : List Nat := List.replicate 64 0
  wait   : Bool := false
deriving DecidableEq, Repr

/-- Reset and boot beyond their registers (R488 to R500): power-on reset and RESET_N hold the part; the times of the
boot restarts within 60 s; the discharge of step 6 is still to come; a device reset waits for the end of a stop
(its cause); supervisors still to be reset by an activation; fuses: WDT_SW, PROV_LOCK, KEY_HASH, and a key hash in
doubt; the pulses of the present PROV_LOCK blow, 0 with none; `tapDr`: the data register that the TAP's instruction selects,
as captured, with the bit nearest TDO first (R509, R510). -/
structure Boot where
  por      : Bool := false
  pin      : Bool := false
  restarts : List Nat := []
  drain    : Bool := true
  pendDev  : Option Nat := none
  wdtSw    : Bool := false
  prov     : Bool := false
  keyHash  : Bool := false
  keyDoubt : Bool := false
  pulses   : Nat := 0
  provTry  : Bool := false
  tapDr    : List Bool := []
deriving DecidableEq, Repr

/-- A wake condition's shared counter (R253). -/
structure WakeCnt where
  kind : Nat
  idx  : Nat
  cnt  : Nat
  pay  : Word
deriving DecidableEq, Repr

/-- The house die beyond its registers: the scale of the channels' sink limits in millionths (R344) and whether
BUS is above 61 V; the first inrush has completed (R328); HOUSE is tripped, and its retries since the count
restarted (R336); the feed a planned switchover names (R327); the feed that failed last in this switchover
(R330); the source before the break interval; PACK has been the source since a feed last was (R333); feeds whose switches reverse current opened (R321); the fenced
house legs and an open PACK switch (R332); the residue of the coulomb count of PK_SOC (R335); `res`: the residues of the
accumulators of FEED_A E, FEED_B E, PACK E and Q, and HOUSE E (R195). -/
structure House where
  sink    : Nat := 1000000
  busOv   : Bool := false
  started : Bool := false
  tripped : Bool := false
  retries : Nat := 0
  target  : Option Nat := none
  failed  : Option Nat := none
  before  : Nat := 0
  packRan : Bool := false
  opened  : List Nat := []
  legBad  : List Nat := []
  packOff : Bool := false
  socRes  : Int := 0
  res     : List Int := [0, 0, 0, 0, 0]
deriving DecidableEq, Repr

/-- A message of the ledger, or a request that waits: its tile (24: the PACK charger), and the credits of both
pools. -/
structure Credit where
  who   : Nat
  cont  : Nat
  burst : Nat
deriving DecidableEq, Repr

/-- The ledger beyond its registers (R338 to R347). `recover`: the burst window recovers (R343); `vBase`: the mean
source voltage of the last rebase in mV; `tiles`: what each tile holds by its own record; `asks`, `grants`,
`backs`: requests, grants and returns on their way; `queue` and `bqueue`: requests of the two pools that wait;
`surplus`: evaluations in a row with a surplus; `recent`: channels by their latest grant; `chgCall`: a reclaim
is on its way to the charger. -/
structure Ledger where
  recover : Bool := false
  vBase   : Nat := 0
  tiles   : List (Nat × Nat) := List.replicate 24 (0, 0)
  asks    : List Credit := []
  grants  : List Credit := []
  backs   : List Credit := []
  queue   : List (Nat × Nat) := []
  bqueue  : List (Nat × Nat) := []
  surplus : List Nat := List.replicate 24 0
  recent  : List Nat := []
  chgCall : Bool := false
deriving DecidableEq, Repr

/-! ### Type-C ports -/

/-- The exchange the PD engine of a port is in (R369 to R375, R381). `caps must`: capabilities sent, a Request
awaited, with a Hard Reset where none comes; `srcWait`, `srcRamp`: Accept sent, transition started; `reqSent`,
`reqAcc`: Request sent, accepted; `waiting`: a retry is due (R380); the power-role swap by its steps; `eprCable`:
the cable is asked before EPR mode. -/
inductive PdEx where
  | idle
  | caps (must : Bool)
  | srcWait
  | srcRamp
  | reqSent
  | reqAcc
  | waiting
  | get
  | drOffer
  | vcOffer
  | vcWait
  | prOffer
  | prSrcWait
  | prSrcOff
  | prSrcRdy
  | prSnkWait
  | prSnkUp
  | eprAsk
  | eprCable
  | vdm
  | send
  | soft
  | hard
deriving DecidableEq, Repr

/-- What a Request asks or a contract holds: object position, kind as PD_STAT.KIND, voltage in 10 µV, operating
current in µA, and the current limit a source sets for it in µA (R371). -/
structure PdTerms where
  pos  : Nat
  kind : Nat
  v    : Nat
  i    : Nat
  lim  : Nat := 0
deriving DecidableEq, Repr

/-- A port beyond its registers (R361 to R382). `rpOn`: the port presents Rp; `adv`, `advE`: the advertised
objects; `caps`: the last received capabilities by position; `tx`: the messages sent; `rxq`, `vdmq`: the two
queues for programs; `answers`: received requests that a SEND is to answer; `cur`: the operation whose exchange
runs; `req`: the PD_REQUEST whose exchange runs; `tries`: retries used; `wrote`: the words the engine last wrote to
RG_VSET, RG_ILIM_SRC and RG_ILIM_SNK; `ra`: the pin opposite the orientation sees Ra; `vcSwap`: a VCONN_Swap made the port
the VCONN source (R376); `bist`: BIST Test Data runs (R378). -/
structure Port where
  ex      : PdEx := .idle
  rpOn    : Bool := false
  errRec  : Bool := false
  rev2    : Bool := false
  epr     : Bool := false
  adv     : List Word := []
  advE    : List Word := []
  resend  : Bool := false
  caps    : List Word := []
  tx      : List PdMsg := []
  rxq     : List PdMsg := []
  vdmq    : List PdMsg := []
  answers : List Nat := []
  cur     : Option Issuer := none
  pend    : Option PdTerms := none
  req     : Option Cmd := none
  tries   : Nat := 0
  wrote   : List (Option Word) := [none, none, none]
  ra      : Bool := false
  vcSwap  : Bool := false
  bist    : Bool := false
deriving DecidableEq, Repr

/-! ### Fabric and chain -/

/-- A chain frame that the module sends (R395, R398, R399, R407). -/
inductive ChainMsg where
  | training (port : Nat)
  | epoch (time ext : Nat) (down : Bool) (lat : Nat) (slack : Bool)
  | step (r : StepRec)
  | summary (w : Word)
  | signal (n : Nat) (payload : Word)
deriving DecidableEq, Repr

/-- A frame on a hop (R390, R406): the port it left by, the chain time then, its class and its sequence number. -/
structure ChainFrame where
  port : Nat
  time : Nat
  cls  : Nat
  seq  : Nat
  msg  : ChainMsg
deriving DecidableEq, Repr

/-- The chain beyond its registers (R397 to R406): L in force in 100 ns; the step records that wait for their time;
the frames sent; the latest sequence number of this module by class, and the latest accepted one by source and class;
the eastward hop delays as the master distributed them (R396); whether the next epoch is compared for a
re-lock; what is left of a re-lock slew and the steps since its last count. -/
structure Chain where
  lat    : Nat := 0
  recs   : List StepRec := []
  sent   : List ChainFrame := []
  last   : Vector Nat 4 := Vector.replicate 4 0
  seqs   : List (Nat × Nat × Nat) := []
  hops   : List Nat := []
  relock : Bool := false
  slew   : Int := 0
  slewN  : Nat := 0
deriving DecidableEq, Repr

/-- The whole part. -/
structure State where
  pending  : List Instr := []
  regs     : List (Nat × Word) := []
  mem      : List Host.Cell := []
  freeCtr  : Nat := 0
  -- timebase, calendar and events
  tb       : TbState := {}
  records  : List Record := []
  fireReps : List FireRep := []
  gts      : Vector GtState 16 := Vector.replicate 16 {}
  evtPulse : List Nat := []
  chainSig : List (Nat × Word) := []
  -- channels
  chans    : Vector Chan 24 := Vector.replicate 24 {}
  chargers : Vector Charger 25 := Vector.replicate 25 {}
  chargersB : Vector Charger 25 := Vector.replicate 25 {}
  -- programs
  threads  : Vector Thread 64 := Vector.replicate 64 {}
  mss      : Vector MssCore 2 := Vector.replicate 2 {}
  wakes    : List WakeCnt := []
  ops      : List Op := []
  images   : List Image := []
  -- command set
  cmds     : List OutCmd := []
  journal  : List Journal := []
  out      : List Frame := []
  reqs     : List (Requester × ReqState) := []
  mssDown  : Bool := false
  heldIn   : List (Requester × List Byte) := []
  sessions : Vector (Option Session) 16 := Vector.replicate 16 none
  closed   : List (Word × Nat) := []
  wire     : List HdpWire := []
  reasm    : List Reasm := []
  twm      : TwM := {}
  ptp      : Ptp := {}
  netOut   : List (Nat × NetReq) := []
  ue       : List Nat := []
  extents  : List (Nat × Nat) := []
  rings    : List Ring := []
  upd      : Update := {}
  -- faults
  reports  : List Report := []
  asserts  : List Assert := []
  fltRecs  : List FltRec := []
  turn     : Vector (Fin 4) 16 := Vector.replicate 16 0
  books    : List (Nat × Book) := []
  reacts   : List Reaction := []
  repairs  : List Repair := (List.range 8).map memSummary
  suspects : List Nat := []
  collDead : Bool := false
  -- house and ledger
  house    : House := {}
  ledger   : Ledger := {}
  -- Type-C
  ports    : Vector Port 8 := Vector.replicate 8 {}
  -- fabric and chain
  laneBad  : List (Nat × Nat) := []
  linkCnt  : List (Nat × Word) := []
  chain    : Chain := {}
  -- management
  paused   : List (Nat × Nat) := []
  sectors  : Vector Sector 7 := Vector.replicate 7 {}
  wdt      : Wdt := {}
  logBuf   : List LogRec := []
  logNor   : List LogRec := []
  nor      : Nor := {}
  boot     : Boot := {}
  pllBad   : List (Nat × Nat) := []
  refBad   : List Nat := []
  -- link test
  ltMoved  : List (Nat × Nat) := []
deriving DecidableEq, Repr

/-- The machine right after power-on reset: every register at its Reset column (what `regs` does not list), queue
memory clear, no command waiting, and the RESET record of the power-on (R498) the first of the log. RST_CAUSE holds
KIND 1, CAUSE 1; LOG_STAT.NEXT is 1. -/
def State.reset : State :=
  { regs := [(0x60300, 1), (0x60708, 0x10010000)]
    logBuf := [{ seq := 0, kind := 4, data := [0, 0, 0, 0, 1, 1] }] }

end Sys2Proof.Machine
end

