-- ==== Sys2Proof/Machine/Ops.lean ====
section
/-!
DEFINITION. The named operations over the state: registers and their fields, queue memory, the parts of
State, fault reports (R437, R439), wake conditions (R253), notices (R304), the log (R482), responses
(R302, R308), and taking a Nerog exception (R284 to R288) with the return from it.
-/

namespace Sys2Proof.Machine

/-- What a meaning answers. -/
abbrev Out := Host.Outcome State Fault Refusal

/-! ### Registers -/

/-- The stored word of the register at address `a`. -/
def State.rd (s : State) (a : Nat) : Word := cellGet (resetWord a) a s.regs

/-- Store `w` as the word of the register at address `a`. -/
def State.wr (s : State) (a : Nat) (w : Word) : State :=
  { s with regs := cellSet (resetWord a) a w s.regs }

/-- The value of a field. -/
def State.get (s : State) (f : Fld) : Nat := bitsOf (s.rd f.addr) f.hi f.lo

/-- The value of a field read as two's complement. -/
def State.geti (s : State) (f : Fld) : Int := sext f.width (s.get f)

/-- Is the field not 0? -/
def State.is (s : State) (f : Fld) : Bool := s.get f != 0

/-- Store a value in a field. -/
def State.set (s : State) (f : Fld) (v : Nat) : State := s.wr f.addr (setBits (s.rd f.addr) f.hi f.lo v)

/-- Store a signed value in a field. -/
def State.seti (s : State) (f : Fld) (v : Int) : State := s.set f (trunc f.width v)

/-- Store a flag in a field. -/
def State.setb (s : State) (f : Fld) (b : Bool) : State := s.set f (b2n b)

/-- Add to a counter field that saturates. -/
def State.inc (s : State) (f : Fld) (n : Nat := 1) : State := s.set f (satU f.width (s.get f + n))

/-- Add to a counter field that wraps. -/
def State.incWrap (s : State) (f : Fld) : State := s.set f ((s.get f + 1) % 2 ^ f.width)

/-- A 64-bit value held in a LO and a HI register. -/
def State.rd64 (s : State) (lo hi : Nat) : Nat := pairNat (s.rd lo) (s.rd hi)

/-- Store a 64-bit value in a LO and a HI register. -/
def State.wr64 (s : State) (lo hi : Nat) (v : Int) : State := (s.wr lo (loWord v)).wr hi (hiWord v)

/-- Clear the RCL bits of a register (R6). -/
def State.rclClear (s : State) (a : Nat) : State :=
  match regDef? a with
  | some d => if d.rcl = 0 then s else s.wr a (s.rd a &&& ~~~(BitVec.ofNat 32 d.rcl))
  | none => s

/-- A number the spec leaves open, and the state that has drawn it. -/
def State.fresh (s : State) : Nat × State := (Config.freeValue s.freeCtr, { s with freeCtr := s.freeCtr + 1 })

/-- One element of a list, where the spec names no order of choice; `d` of an empty list. -/
def State.choose (s : State) (l : List Nat) (d : Nat) : Nat × State :=
  match l with
  | [] => (d, s)
  | [x] => (x, s)
  | _ => let (v, s') := s.fresh; (l.getD (v % l.length) d, s')

/-! ### Time -/

/-- Device time in ns (R40). -/
def State.dtime (s : State) : Nat := s.rd64 R.TB_DTIME_LO R.TB_DTIME_HI

/-- The timebase count (R31). -/
def State.tbc (s : State) : Nat := (s.rd R.TB_EXT_LO).toNat

/-- The extended count (R39). -/
def State.ext (s : State) : Nat := s.rd64 R.TB_EXT_LO R.TB_EXT_HI

/-- Device time and extended count as four words, low words first. -/
def State.stamp (s : State) : List Word :=
  [s.rd R.TB_DTIME_LO, s.rd R.TB_DTIME_HI, s.rd R.TB_EXT_LO, s.rd R.TB_EXT_HI]

/-- The last counted step was down (TB_STAT.DIR). -/
def State.dirDown (s : State) : Bool := s.is F.TB_STAT.DIR

/-! ### The parts of the state -/

/-- Channel c. -/
def State.ch (s : State) (c : Fin 24) : Chan := s.chans[c]

/-- Change channel c. -/
def State.modCh (s : State) (c : Fin 24) (f : Chan → Chan) : State :=
  { s with chans := s.chans.set c (f s.chans[c]) }

/-- Change the law state of a channel, in both engines (R126). -/
def Chan.modEng (h : Chan) (f : Engine → Engine) : Chan := { h with eng := f h.eng, engB := f h.engB }

/-- Change the law state of channel c, in both engines. -/
def State.modEng (s : State) (c : Fin 24) (f : Engine → Engine) : State := s.modCh c fun h => h.modEng f

/-- Change the battery model of channel c, in both engines. -/
def State.modBm (s : State) (c : Fin 24) (f : Model → Model) : State :=
  s.modCh c fun h => { h with bm := f h.bm, bmB := f h.bmB }

/-- Change the front end of channel c. -/
def State.modFe (s : State) (c : Fin 24) (f : FrontEnd → FrontEnd) : State :=
  s.modCh c fun h => { h with fe := f h.fe }

/-- Change charger k, in both engines. -/
def State.modCg (s : State) (k : Fin 25) (f : Charger → Charger) : State :=
  { s with chargers := s.chargers.set k (f s.chargers[k]), chargersB := s.chargersB.set k (f s.chargersB[k]) }

/-- Change thread t. -/
def State.modThr (s : State) (t : Fin 64) (f : Thread → Thread) : State :=
  { s with threads := s.threads.set t (f s.threads[t]) }

/-- Change MSS core k. -/
def State.modMss (s : State) (k : Fin 2) (f : MssCore → MssCore) : State :=
  { s with mss := s.mss.set k (f s.mss[k]) }

/-- The channels, ascending. -/
def allCh : List (Fin 24) := List.finRange 24

/-- A channel number, when it is one. -/
def chan? (n : Nat) : Option (Fin 24) := if h : n < 24 then some ⟨n, h⟩ else none

/-- A port number, when it is one. -/
def port? (n : Nat) : Option (Fin 8) := if h : n < 8 then some ⟨n, h⟩ else none

/-- A thread number, when it is one. -/
def thr? (n : Nat) : Option (Fin 64) := if h : n < 64 then some ⟨n, h⟩ else none

/-! ### Power domains (R20, R29) -/

/-- The state field of domain d in PDOM_STAT. -/
def domStat (d : Nat) : Fld := ⟨R.PDOM_STAT (d / 16), 2 * (d % 16) + 1, 2 * (d % 16)⟩

/-- The request field of domain d in PDOM_REQ. -/
def domReq (d : Nat) : Fld := ⟨R.PDOM_REQ (d / 16), 2 * (d % 16) + 1, 2 * (d % 16)⟩

/-- Is domain d ON? -/
def State.domOn (s : State) (d : Nat) : Bool := s.get (domStat d) == 1

/-- Is domain d FENCED? -/
def State.domFenced (s : State) (d : Nat) : Bool := s.get (domStat d) == 3

/-- Is domain d held OFF by request? -/
def State.domHeldOff (s : State) (d : Nat) : Bool := s.get (domReq d) == 2

/-- Start the power-up of domain d when it is OFF and not held OFF. -/
def State.startDom (s : State) (d : Nat) : State :=
  if s.get (domStat d) = 0 && !s.domHeldOff d then s.set (domStat d) 2 else s

/-- A request or an event record refers to channel c: its domains power up in the order front end, control,
power stage (R21, R22). Where a request holds a domain that the power stage needs OFF, the stage stays in TRANSITION
until that hold ends (DESIGN CHOICE, log entry 60). -/
def State.wakeCh (s : State) (c : Fin 24) : State :=
  ((s.startDom (3 * c + 2)).startDom (3 * c + 1)).startDom (3 * c)

/-! ### Queue memory (R16, R17, R54) -/

/-- What a byte of memory that nothing has written reads as: a bank reads zero after its clear (Table 01-7). -/
def memDefault : Byte := 0

/-- The canonical form of a memory: addresses strictly rising, no entry equal to the default. -/
def Memory.wf (m : List Host.Cell) : Bool :=
  m.all (fun x => x.2 != memDefault) && (m.zip m.tail).all (fun p => p.1.1 < p.2.1)

/-- Is `a` an address of queue memory? -/
def inQueue (a : Nat) : Bool := 0x10000000 ≤ a && a < 0x16000000

/-- The bank of a queue-memory address (R17). -/
def bankOf (a : Nat) : Nat := (a - 0x10000000) / 0xC00000

/-- Is a bank that holds one of the n bytes from a on fenced (R238)? The buffer 0 names none: the operation is a
command's. -/
def State.bufFenced (s : State) (a n : Nat) : Bool :=
  a != 0 && (List.range 8).any fun b => decide (bankOf a ≤ b ∧ b ≤ bankOf (a + n - 1)) && s.domFenced (82 + b)

/-- Does a store to this byte have an effect? The calendar heads, the event pool and the reserve ignore
stores (R16, R54). -/
def storable (a : Nat) : Bool :=
  inQueue a && !(0x10000000 ≤ a && a < 0x10600000) && !(0x11A00000 ≤ a && a < 0x12000000)

/-- One byte into the cells. -/
def State.poke (s : State) (a : Nat) (b : Byte) : State := { s with mem := cellSet memDefault a b s.mem }

/-- Is the bank of this address powered? A bank that is off reads zero and takes no store (Table 01-7). -/
def State.bankOn (s : State) (a : Nat) : Bool := s.domOn (82 + bankOf a)

/-- Write one byte of queue memory. A write of an 8-byte word ends its uncorrectable error. -/
def State.stByte (s : State) (a : Nat) (b : Byte) : State :=
  if storable a && s.bankOn a then { s.poke a b with ue := s.ue.filter (· != a / 8) } else s

/-- Write bytes from address `a` on. -/
def State.stBytes (s : State) (a : Nat) : List Byte → State
  | [] => s
  | b :: l => (s.stByte a b).stBytes (a + 1) l

/-- Write words from address `a` on, little-endian. -/
def State.stWords (s : State) (a : Nat) : List Word → State
  | [] => s
  | w :: l => (s.stBytes a (wordBytes w)).stWords (a + 4) l

/-- The records of bucket b, in link order (R54). -/
def State.bucketRecs (s : State) (b : Nat) : List Record := s.records.filter (fun r => r.place == .bucket b)

/-- A record's eight words in the layout of Table 02-5; NEXT and END follow the link order of its bucket. -/
def State.recWords (s : State) (r : Record) : List Word :=
  let nx := match r.place with
    | .bucket b => (((s.bucketRecs b).dropWhile (fun x : Record => x.idx != r.idx)).drop 1).head?
    | _ => none
  let ctl := r.dir * 2 ^ 30 + b2n r.ext * 2 ^ 29 + b2n r.rep * 2 ^ 28 + b2n r.notify * 2 ^ 27 + r.owner * 2 ^ 18
  let lnk := match nx with
    | some x => x.idx
    | none => 2 ^ 31
  [r.cmp, r.aux, BitVec.ofNat 32 ctl, BitVec.ofNat 32 lnk, BitVec.ofNat 32 (r.tkind * 2 ^ 28 + r.mask),
    BitVec.ofNat 32 (r.acode * 2 ^ 24 + r.arg0), r.arg1, r.arg2]

/-- The word at an aligned address of the calendar heads or the event pool (R54). -/
def State.calWord (s : State) (a : Nat) : Word :=
  if a < 0x10200000 then
    let l := s.bucketRecs ((a - 0x10000000) / 8)
    if a % 8 = 0 then
      match l.head? with
      | some r => BitVec.ofNat 32 r.idx
      | none => 0x80000000
    else
      match l.getLast? with
      | some r => BitVec.ofNat 32 r.idx
      | none => 0
  else
    match s.records.find? (fun r => r.idx == (a - 0x10200000) / 32) with
    | some r => (s.recWords r).getD (a % 32 / 4) 0
    | none => 0

/-- One byte of queue memory, with no side effect. -/
def State.ldByte (s : State) (a : Nat) : Byte :=
  if 0x10000000 ≤ a && a < 0x10600000 then (s.calWord (a - a % 4)).extractLsb' (8 * (a % 4)) 8
  else if inQueue a && s.bankOn a then cellGet memDefault a s.mem
  else 0

/-- Bytes of queue memory from address `a` on. -/
def State.ldBytes (s : State) (a n : Nat) : List Byte := (List.range n).map fun i => s.ldByte (a + i)

/-- A word of queue memory. -/
def State.ldWord (s : State) (a : Nat) : Word := bytesWord (s.ldBytes a 4)

/-- Words of queue memory from address `a` on. -/
def State.ldWords (s : State) (a n : Nat) : List Word := (List.range n).map fun i => s.ldWord (a + 4 * i)

/-- A 64-bit value of queue memory. -/
def State.ld64 (s : State) (a : Nat) : Nat := bytesNat (s.ldBytes a 8)

/-! ### Requesters (R515, Table 21-2) -/

/-- KIND of a requester. -/
def rqKind : Requester → Nat
  | .mss _ => 0
  | .thread _ => 1
  | .session _ => 2
  | .twm => 3
  | .dbg => 4

/-- INDEX of a requester. -/
def rqIndex : Requester → Nat
  | .mss k => k
  | .thread t => t
  | .session i => i
  | .twm => 0
  | .dbg => 0

/-- A requester's own state. -/
def State.req (s : State) (rq : Requester) : ReqState :=
  match s.reqs.find? (fun x => x.1 == rq) with
  | some x => x.2
  | none => {}

/-- Set a requester's own state. -/
def State.setReq (s : State) (rq : Requester) (x : ReqState) : State :=
  { s with reqs := (rq, x) :: s.reqs.filter (fun y => y.1 != rq) }

/-- Change a requester's own state. -/
def State.modReq (s : State) (rq : Requester) (f : ReqState → ReqState) : State := s.setReq rq (f (s.req rq))

/-- Clear a requester's shadows and status word (Table 21-2). -/
def State.clearShadows (s : State) (rq : Requester) : State :=
  s.modReq rq fun x => { x with stat := 0, rsh := none, wsh := none }

/-- Set bits of the requester's GLB_MYSTAT. -/
def State.myStat (s : State) (rq : Requester) (bit : Nat) : State :=
  s.modReq rq fun x => { x with stat := x.stat ||| BitVec.ofNat 32 (2 ^ bit) }

/-- Record an access error (GLB_ACC_ERR, GLB_ACC_ADDR): 1 UNMAPPED_READ, 2 UNMAPPED_WRITE, 3 LOCKED, 4 REJ, 5 TORN. -/
def State.accErr (s : State) (rq : Requester) (cause addr : Nat) : State :=
  (((((s.set F.GLB_ACC_ERR.VALID 1).set F.GLB_ACC_ERR.CAUSE cause).set F.GLB_ACC_ERR.KIND (rqKind rq)).set
    F.GLB_ACC_ERR.INDEX (rqIndex rq)).inc F.GLB_ACC_ERR.COUNT).wr R.GLB_ACC_ADDR (BitVec.ofNat 32 addr)

/-- A write refused under R517 or R527: REJ in the requester's GLB_MYSTAT and the device-wide record. -/
def State.rej (s : State) (rq : Requester) (addr : Nat) : State := (s.myStat rq 28).accErr rq 4 addr

/-! ### Transports (R414 to R430) -/

/-- The bytes of a frame the part sends (Table 11-1). -/
def frameBytes (f : Frame) : List Byte :=
  let head : List Word := [0x5543534C, BitVec.ofNat 32 (f.code * 2 ^ 16 + 0x0100),
    BitVec.ofNat 32 (f.flags * 2 ^ 16 + f.tag.toNat), BitVec.ofNat 32 (4 * f.body.length)]
  let l := (head ++ f.body).flatMap wordBytes
  l ++ wordBytes (BitVec.ofNat 32 (crc32c l))

/-- Change TW_M's state. -/
def State.modTwm (s : State) (f : TwM → TwM) : State := { s with twm := f s.twm }

/-- TW_M raises an alert (R429); it replaces a pending one. Causes: bit 0 RESP, 1 NOTICE, 2 READY. -/
def State.alert (s : State) (bit : Nat) : State :=
  let s1 := ((s.incWrap F.TW_STAT.ALERT_SEQ).set F.TW_STAT.ALERT_PEND 1).set F.TW_STAT.ALERT_LEFT
    (s.get F.TW_ALERT.RETRY)
  s1.modTwm fun w => { w with causes := 2 ^ bit, tries := 0 }

/-- A frame goes into the response buffer and STATE becomes RESP (R427). -/
def State.mbxPlace (s : State) (f : Frame) : State :=
  ((s.modTwm fun w => { w with resp := frameBytes f }).set F.TW_STAT.MBX 2).alert 0

/-- A notice for TW_M (R427): placed at once in IDLE, else queued, where the queue of 16 has room. -/
def State.mbxNotice (s : State) (f : Frame) : State :=
  if s.get F.TW_STAT.MBX = 0 then s.mbxPlace f
  else if 16 ≤ s.twm.notices.length then s.set F.TW_LATCH.NOTICE_LOST 1
  else
    let s1 := s.modTwm fun w => { w with notices := w.notices ++ [f] }
    if s.get F.TW_STAT.MBX = 2 then s1.alert 1 else s1

/-- Set the session of a slot. -/
def State.setSess (s : State) (i : Fin 16) (x : Option Session) : State :=
  { s with sessions := s.sessions.set i x }

/-- The port and peer that a session sends to (R417): the port of the latest valid datagram, or the other one; a resend
goes to the other one first. A port counts while its LINK is 1 and a peer is learned there. -/
def State.hdpRoute (s : State) (x : Session) (resend : Bool) : Option (Nat × Nat) :=
  let cand := fun p => if s.is (F.HST_STAT.LINK p) then (x.peers.getD p none).map fun q => (p, q) else none
  let o := 1 - x.port
  if resend then (cand o).or (cand x.port) else (cand x.port).or (cand o)

/-- The bytes of a body. -/
def HdpBody.size : HdpBody → Nat
  | .none => 0
  | .frame f => 20 + 4 * f.body.length
  | .stream _ _ _ _ l => 12 + l.length
  | .close _ => 4

/-- The places and lengths of the IP fragments that carry n bytes of payload, u in each but the last. -/
def fragList (u : Nat) : Nat → Nat → Nat → List (Nat × Nat)
  | 0, _, _ => []
  | k + 1, at', n => if n ≤ u then [(at', n)] else (at', u) :: fragList u k (at' + u) (n - u)

/-- The fragments of an IP datagram from port p to a peer with n bytes of payload; none where it fits HST_CFG.MTU (R411).
An IPv6 header is 40 bytes and a fragment header 8 more; an IPv4 header is 20 bytes. -/
def State.fragsOf (s : State) (p peer n : Nat) : List (Nat × Nat) :=
  let mtu := s.get (F.HST_CFG.MTU p)
  let h := if peer % 2 = 1 then 40 else 20
  if h + n ≤ mtu then [] else fragList ((mtu - h - (if peer % 2 = 1 then 8 else 0)) / 8 * 8) 16 0 n

/-- A datagram of a session leaves, where the session has a way: 8 bytes of UDP header and 16 of HDP header go before its
body (R412). -/
def State.hdpSend (s : State) (x : Session) (kind : Nat) (seq : Word) (body : HdpBody) (resend : Bool) : State :=
  match s.hdpRoute x resend with
  | none => s
  | some r => { s with wire := s.wire ++
      [{ port := r.1, peer := r.2, kind := kind, session := x.id, seq := seq, ack := x.rx, body := body
         frags := s.fragsOf r.1 r.2 (24 + body.size) }] }

/-- A datagram that takes a sequence number (R414): sent at once while fewer than WIN are unacknowledged (R415). -/
def State.hdpPut (s : State) (i : Fin 16) (kind : Nat) (body : HdpBody) : State :=
  match s.sessions[i] with
  | none => s
  | some x =>
    if x.unacked.length < s.get F.HST_HDP_TMR.WIN then
      let x1 := { x with tx := x.tx + 1, unacked := x.unacked ++ [{ kind := kind, seq := x.tx, body := body }] }
      (s.setSess i (some x1)).hdpSend x1 kind x.tx body false
    else s.setSess i (some { x with waits := x.waits ++ [(kind, body)] })

/-- The MSS hands a frame to its transport: a DATA datagram of the session, or the mailbox. -/
def State.send (s : State) (f : Frame) : State :=
  let s1 := { s with out := s.out ++ [f] }
  match f.rq with
  | .session i => s1.hdpPut i 4 (.frame f)
  | .twm => if f.flags.testBit 1 then s1.mbxNotice f else s1.mbxPlace f
  | _ => s1

/-! ### Notices, log, faults -/

/-- A notice frame (R304). -/
def noticeFrame (rq : Requester) (code : Nat) (body : List Word) : Frame :=
  { rq := rq, code := code, tag := 0, flags := 2, body := body }

/-- Send a notice to every requester whose mask enables its kind (R304). -/
def State.notice (s : State) (bit code : Nat) (body : List Word) : State :=
  (s.reqs.filter fun x => bitOf x.2.mask bit).foldl (fun s x => s.send (noticeFrame x.1 code body)) s

/-- Send a notice to one requester whose mask enables its kind. -/
def State.noticeTo (s : State) (rq : Requester) (bit code : Nat) (body : List Word) : State :=
  if bitOf (s.req rq).mask bit then s.send (noticeFrame rq code body) else s

/-- A house event (Table 12-10): HSE_EVT and a HOUSE notice with its word. -/
def State.houseEvt (s : State) (code detail : Nat) : State :=
  let s1 := (s.set F.HSE_EVT.CODE code).set F.HSE_EVT.DETAIL detail
  s1.notice 3 0x0780 [s1.rd R.HSE_EVT]

/-- A log record into the 64-record buffer of retained memory (R482), its body starting with DTIME and EXT. -/
def State.logRec (s : State) (kind flags : Nat) (data : List Word) : State :=
  if 64 ≤ s.logBuf.length then s.inc F.LOG_DROP.DROP
  else
    let n := s.get F.LOG_STAT.NEXT
    { (s.incWrap F.LOG_STAT.NEXT) with
      logBuf := s.logBuf ++ [{ seq := n, kind := kind, flags := flags, data := data }] }

/-- A log record whose body is DTIME, EXT and the given words. -/
def State.log (s : State) (kind : Nat) (data : List Word) : State := s.logRec kind 0 (s.stamp ++ data)

/-- The fabric link of the die a source lies on (R439): quad q or the house die; none for a hub source. -/
def srcLink (src : Nat) : Option Nat :=
  if src < 288 then some (src / 48)
  else if 312 ≤ src && src < 316 then some 0
  else if 316 ≤ src && src < 320 then some 1
  else if 326 ≤ src && src < 332 then some 6
  else if 343 ≤ src && src < 350 then some (src - 343)
  else if 355 ≤ src && src < 361 then some (src - 355)
  else if 366 ≤ src && src < 372 then some (src - 366)
  else if 378 ≤ src && src < 384 then some (src - 378)
  else none

/-- Is fabric link l DOWN (FAB_LINK_STAT.STATE 0)? -/
def State.linkDown (s : State) (l : Nat) : Bool := s.get (F.FAB_LINK_STAT.STATE l) == 0

/-! ### Credits of the fabric and the chain (R392) -/

/-- The key of the books of a class of fabric link l: direction 0 from the hub, 1 to it. -/
def linkKey (l dir cls : Nat) : Nat := 8 * l + 4 * dir + cls

/-- The key of the books of a class of the hop at chain port d: direction 0 out, 1 in. -/
def hopKey (d dir cls : Nat) : Nat := 56 + 8 * d + 4 * dir + cls

/-- The depth of the receive buffer. -/
def bookDepth (k : Nat) : Nat :=
  if k < 56 then [32, 64, 128, 64].getD (k % 4) 0 else if k % 4 = 0 then 64 else 256

/-- The credits that the sender holds. -/
def Book.credits (b : Book) (k : Nat) : Nat := bookDepth k - (b.flight + b.occ + b.back)

/-- A flit is to be sent: it spends a credit, or waits for one. -/
def Book.send (b : Book) (k : Nat) : Book :=
  if b.credits k = 0 then { b with wait := b.wait + 1 } else { b with flight := b.flight + 1 }

/-- One tick: the returning credits arrive, the entries in use are freed and their credits set out, what is in flight is
received, and flits that wait leave while there are credits. -/
def Book.move (b : Book) (k : Nat) : Book :=
  let go := min b.wait (bookDepth k - (b.flight + b.occ))
  { flight := go, occ := b.flight, back := b.occ, wait := b.wait - go }

/-- Change the books of a key. -/
def State.modBook (s : State) (k : Nat) (f : Book → Book) : State :=
  { s with books := cellSet {} k (f (cellGet {} k s.books)) s.books }

/-- A message of a class sets out over link l as one flit; a link that is DOWN carries none (R389, R392). -/
def State.flit (s : State) (l dir cls : Nat) : State :=
  if s.linkDown l then s else s.modBook (linkKey l dir cls) fun b => b.send (linkKey l dir cls)

/-- At a retraining both ends set every class of a link or a hop to its full depth (R392, R393). `k`: its first key. -/
def State.fullBooks (s : State) (k : Nat) : State := { s with books := s.books.filter fun x => x.1 / 8 != k / 8 }

/-- A message of a class to or from each channel of a list. -/
def State.flitsTo (s : State) (l : List (Fin 24)) (dir cls : Nat) : State :=
  l.foldl (fun s c => s.flit (c.val / 4) dir cls) s

/-- The link that a unit stands behind. -/
def Unit'.link : Unit' → Option Nat
  | .chan c => some (c / 4)
  | .port p => some (p / 4)
  | _ => none

/-- An operation leaves for its unit, or its completion comes back (R390). -/
def State.opFlit (s : State) (u : Unit') (dir : Nat) : State :=
  match u.link with
  | some l => s.flit l dir 1
  | none => s

/-! ### Frames on the chain (R390, R392, R401, R406) -/

/-- Chain time in ps (R398). -/
def State.ctime (s : State) : Nat := s.rd64 R.CHN_CTIME_LO R.CHN_CTIME_HI

/-- The way of traffic for chain port d: the port itself while it is UP, else the other, turned back (R401). -/
def State.wayOut (s : State) (d : Nat) : Option Nat :=
  if 3 ≤ s.get (F.CHN_PORT.PSTATE d) then some d
  else if 3 ≤ s.get (F.CHN_PORT.PSTATE (1 - d)) then some (1 - d)
  else none

/-- A frame leaves by the way of port d. -/
def State.frameOut (s : State) (d : Nat) (f : ChainFrame) : State :=
  match s.wayOut d with
  | some o =>
    State.modBook { s with chain := { s.chain with sent := s.chain.sent ++ [{ f with port := o, time := s.ctime }] } }
      (hopKey o 0 f.cls) fun b => b.send (hopKey o 0 f.cls)
  | none => s

/-- A message of this module sets out eastward and westward as a numbered frame of Class 0 (R390, R398, R406); a training
pattern is no frame and leaves by its own port (R395). -/
def State.chainSend (s : State) (m : ChainMsg) : State :=
  match m with
  | .training p => { s with chain := { s.chain with sent := s.chain.sent ++ [⟨p, s.ctime, 0, 0, m⟩] } }
  | _ =>
    let n := (s.chain.last[0] + 1) % 65536
    let s1 : State := { s with chain := { s.chain with last := s.chain.last.set 0 n } }
    (s1.frameOut 0 ⟨0, 0, 0, n, m⟩).frameOut 1 ⟨0, 0, 0, n, m⟩

/-- A frame of a class arrives: it occupies the buffer of the hop at CHAIN_W, or of CHAIN_E where that port is not UP. -/
def State.hopIn (s : State) (cls : Nat) : State :=
  match s.wayOut 1 with
  | some d => s.modBook (hopKey d 1 cls) fun b => b.send (hopKey d 1 cls)
  | none => s

/-- A report leaves its source: to the collector when the source is on the hub, else to its die's
concentrator; lost while the die's link is DOWN (R439). -/
def State.report (s : State) (r : Report) : State :=
  match srcLink r.src with
  | none => { s with reports := s.reports ++ [{ r with atHub := true }] }
  | some l => if s.linkDown l then s else State.flit { s with reports := s.reports ++ [{ r with atHub := false }] } l 1 0

/-- One occurrence of an E condition (R437). -/
def State.raise (s : State) (src cond : Nat) (d0 : Nat := 0) (d1 : Word := 0) : State :=
  s.report { src := src, cond := cond, d0 := d0, d1 := d1 }

/-- An L condition begins to hold: it asserts its source (R437); nothing new when it already holds. -/
def State.assertL (s : State) (src cond : Nat) (d0 : Nat := 0) (d1 : Word := 0) : State :=
  if s.asserts.any (fun a => a.src == src && a.cond == cond && a.d0 == d0 && !a.forced) then s
  else State.report { s with asserts := s.asserts ++ [{ src := src, cond := cond, d0 := d0, d1 := d1 }] }
    { src := src, cond := cond, d0 := d0, d1 := d1 }

/-- An L condition ceases to hold. A forced hold of it stays (R449). -/
def State.deassertL (s : State) (src cond : Nat) : State :=
  { s with asserts := s.asserts.filter (fun a => !(a.src == src && a.cond == cond && !a.forced)) }

/-- As deassertL, for one unit of the source. -/
def State.deassertD (s : State) (src cond d0 : Nat) : State :=
  { s with asserts := s.asserts.filter fun a => !(a.src == src && a.cond == cond && a.d0 == d0 && !a.forced) }

/-- LINK of host port p changes; condition LINK of source 372 + p holds while it is 0 (R409, Table 17-2). -/
def State.hostLink (s : State) (p : Nat) (up : Bool) : State :=
  let s1 := s.setb (F.HST_STAT.LINK p) up
  if up then s1.deassertL (372 + p) 1 else s1.assertL (372 + p) 1

/-- A throttle pause of sector q, or of the hub for 6, is in force (R468). -/
def State.pausedIn (s : State) (q : Nat) : Bool := s.paused.any fun x => x.1 == q

/-- Change sector q. -/
def State.modSec (s : State) (q : Fin 7) (f : Sector → Sector) : State :=
  { s with sectors := s.sectors.set q (f s.sectors[q]) }

/-- A record of quad supervisor q goes to the log (R462, Table 18-3). -/
def State.supLog (s : State) (q : Nat) (delayed : Bool) (rec : List Word) : State :=
  s.logRec 0x09 (32 * q + b2n delayed) ((rec ++ List.replicate 14 0).take 14)

/-- The records of its ring are forwarded, DELAYED where a DOWN link held them (R462, Table 01-7). -/
def State.supForward (s : State) (q : Fin 7) (delayed : Bool) : State :=
  let l := (s.sectors[q]).ring
  l.foldl (fun s r => s.supLog q delayed r) ((s.modSec q fun x => { x with ring := [] }).set (F.SUP_STAT.FILL q) 0)

/-! ### Wake conditions and thread waits (R253, R254, R268) -/

/-- States of Table 10-1 and waits of Table 10-2. -/
def thrIdle : Nat := 0
def thrReady : Nat := 1
def thrWait : Nat := 2
def thrHalted : Nat := 3
def thrExc : Nat := 4
def thrMigr : Nat := 5
def thrLost : Nat := 6

/-- Put a thread in a state with a wait kind. -/
def State.setThrState (s : State) (t : Fin 64) (st wk : Nat) : State :=
  (s.set (F.SEQ_THR_STAT.STATE t) st).set (F.SEQ_THR_STAT.WKIND t) wk

/-- State of a thread. -/
def State.thrState (s : State) (t : Fin 64) : Nat := s.get (F.SEQ_THR_STAT.STATE t)

/-- A register of a thread's context; g0 reads 0 (R220). -/
def Ctx.reg (c : Ctx) (r : Fin 32) : Word := if r = 0 then 0 else c.g[r]

/-- Write a register; a write to g0 is discarded (R220). -/
def Ctx.setReg (c : Ctx) (r : Fin 32) (w : Word) : Ctx := if r = 0 then c else { c with g := c.g.set r w }

/-- The odd register of the pair that r names. -/
def pairHi (r : Fin 32) : Fin 32 := ⟨(r.val + 1) % 32, Nat.mod_lt _ (by decide)⟩

/-- The 64-bit value of a pair (R221); the pair g0 has low word 0. -/
def Ctx.pair (c : Ctx) (r : Fin 32) : Nat := pairNat (c.reg r) (c.reg (pairHi r))

/-- Write a pair; the pair g0 takes only its high word in g1 (R221). -/
def Ctx.setPair (c : Ctx) (r : Fin 32) (v : Int) : Ctx := (c.setReg r (loWord v)).setReg (pairHi r) (hiWord v)

/-- The context of an executor. -/
def State.ctx (s : State) : Exec → Ctx
  | .thread t => s.threads[t].ctx
  | .mss k => s.mss[k].ctx

/-- Change the context of an executor. -/
def State.modCtx (s : State) (x : Exec) (f : Ctx → Ctx) : State :=
  match x with
  | .thread t => s.modThr t fun h => { h with ctx := f h.ctx }
  | .mss k => s.modMss k fun m => { m with ctx := f m.ctx }

/-- The PC of an executor. -/
def State.pcOf (s : State) : Exec → Word
  | .thread t => s.rd (R.SEQ_THR_PC t)
  | .mss k => s.mss[k].pc

/-- Set the PC of an executor. -/
def State.setPc (s : State) (x : Exec) (w : Word) : State :=
  match x with
  | .thread t => s.wr (R.SEQ_THR_PC t) w
  | .mss k => s.modMss k fun m => { m with pc := w }

/-- On to the next instruction. -/
def State.advance (s : State) (x : Exec) : State := s.setPc x (s.pcOf x + 4)

/-- What an executor waits for. -/
def State.waitOf (s : State) : Exec → Wait
  | .thread t => s.threads[t].wait
  | .mss k => s.mss[k].wait

/-- Put an executor into a wait of kind `wk` (Table 10-2). -/
def State.enterWait (s : State) (x : Exec) (w : Wait) (wk : Nat) : State :=
  match x with
  | .thread t => (s.modThr t fun h => { h with wait := w }).setThrState t thrWait wk
  | .mss k => s.modMss k fun m => { m with wait := w }

/-- End the wait of an executor: a thread is READY again, or a migration returns it to READY (R291). -/
def State.endWait (s : State) (x : Exec) : State :=
  match x with
  | .thread t =>
    let s1 := s.modThr t fun h => { h with wait := .none }
    if s.thrState t = thrMigr then s1.modThr t fun h => { h with back := thrReady, backK := 0 }
    else s1.setThrState t thrReady 0
  | .mss k => s.modMss k fun m => { m with wait := .none }

/-- Every executor. -/
def allExec : List Exec := (List.finRange 64).map .thread ++ (List.finRange 2).map .mss

/-- The counter and payload of a wake condition, as an executor sees it; WAKE and FIRE belong to threads (R253). -/
def State.wakeOf (s : State) (x : Exec) (kind idx : Nat) : Nat × Word :=
  if kind = 0x20 then
    match x with
    | .thread t => (s.threads[t].wakeCnt, s.threads[t].wakePay)
    | .mss _ => (0, 0)
  else if kind = 0x21 then
    match x with
    | .thread t => (s.threads[t].fireCnt, s.threads[t].firePay)
    | .mss _ => (0, 0)
  else match s.wakes.find? (fun w => w.kind == kind && w.idx == idx) with
    | some w => (w.cnt, w.pay)
    | none => (0, 0)

/-- The pair WAITE writes: the counter and the payload of the latest occurrence. -/
def wakePair (n : Nat) (p : Word) : Int := ((pairNat (BitVec.ofNat 32 n) p : Nat) : Int)

/-- Complete an executor's WAITE when its counter differs from the value it saw (R253). -/
def State.wakeThr (s : State) (x : Exec) : State :=
  match s.waitOf x with
  | .event kind idx seen rd =>
    let (n, p) := s.wakeOf x kind idx
    if n = seen then s
    else
      (s.modCtx x fun c => { (c.setPair rd (wakePair n p)) with z := (n + 0x10000 - seen) % 0x10000 == 1 }).endWait x
  | _ => s

/-- Complete the WAITEs of the executors in the list. -/
def State.wakeAll (s : State) : List Exec → State
  | [] => s
  | x :: l => (s.wakeThr x).wakeAll l

/-- A shared wake condition occurs (R253). -/
def State.signal (s : State) (kind idx : Nat) (pay : Word) : State :=
  let n := match s.wakes.find? (fun w => w.kind == kind && w.idx == idx) with
    | some w => w.cnt
    | none => 0
  let w : WakeCnt := { kind := kind, idx := idx, cnt := (n + 1) % 0x10000, pay := pay }
  State.wakeAll { s with wakes := w :: s.wakes.filter (fun x => !(x.kind == kind && x.idx == idx)) } allExec

/-- May occurrences of WAKE and FIRE reach the thread? They are discarded while it is stopped (R262). -/
def State.thrLive (s : State) (t : Fin 64) : Bool :=
  s.thrState t = thrReady || s.thrState t = thrWait || s.thrState t = thrMigr

/-- WAKE of thread t occurs (R248, R253). -/
def State.signalWake (s : State) (t : Fin 64) (pay : Word) : State :=
  if s.thrLive t then
    (s.modThr t fun h => { h with wakeCnt := (h.wakeCnt + 1) % 0x10000, wakePay := pay }).wakeThr (.thread t)
  else s

/-- FIRE of thread t occurs (R253). -/
def State.signalFire (s : State) (t : Fin 64) (pay : Word) : State :=
  if s.thrLive t then
    (s.modThr t fun h => { h with fireCnt := (h.fireCnt + 1) % 0x10000, firePay := pay }).wakeThr (.thread t)
  else s

/-! ### Responses of the command set (R302, R306, R308) -/

/-- Status codes of Table 11-5. -/
def stOk : Nat := 0x00
def stBusy : Nat := 0x01
def stNotReady : Nat := 0x02
def stBadFrame : Nat := 0x10
def stBadArg : Nat := 0x11
def stResolved : Nat := 0x12
def stBadCode : Nat := 0x13
def stTagInUse : Nat := 0x14
def stNoRes : Nat := 0x20
def stFenced : Nat := 0x30
def stDenied : Nat := 0x40
def stLocked : Nat := 0x41
def stBadSig : Nat := 0x42
def stRollback : Nat := 0x43
def stAborted : Nat := 0x50
def stInternal : Nat := 0xFF

/-- Keep the 64 most recent journal entries of a requester (R308). -/
def trimJournal (rq : Requester) (l : List Journal) : List Journal :=
  let mine := (l.filter (fun j => j.rq == rq)).length
  if mine ≤ 64 then l else l.eraseP (fun j => j.rq == rq)

/-- The response frame of a journal entry. -/
def journalFrame (j : Journal) (flags : Nat) : Frame :=
  { rq := j.rq, code := j.code, tag := j.tag, flags := flags, body := BitVec.ofNat 32 j.status :: j.body }

/-- Does an outstanding command answer to this requester and tag? -/
def OutCmd.names (c : OutCmd) (m : Cmd) : Bool := c.rq == m.rq && c.tag == m.tag

/-- Complete a command: its response is journalled and sent, and it is no longer outstanding. A body longer
than 256 bytes is journalled as its status alone (R308). A response to a frame sent again with REPLAY
carries REPLAY (R309). While no core dispatches the response waits in the journal (R311); the response of a command
whose session has closed is discarded (R416). -/
def State.respond (s : State) (m : Cmd) (code status : Nat) (body : List Word) : State :=
  let cmd := s.cmds.find? (·.names m)
  let s1 : State := { s with cmds := s.cmds.eraseP (·.names m) }
  if cmd.any (·.orphan) then s1
  else
    let long := decide (64 < body.length)
    let j : Journal := { rq := m.rq, tag := m.tag, code := code, status := status,
                         body := if long then [] else body, trunc := long, sent := !s.mssDown, replay := cmd.any (·.replay) }
    let s2 : State := { s1 with journal := trimJournal m.rq (s1.journal ++ [j]) }
    if s.mssDown then s2
    else s2.send { rq := m.rq, code := code, tag := m.tag, flags := 1 + 8 * b2n (cmd.any (·.replay)),
                   body := BitVec.ofNat 32 status :: body }

/-- A response whose status alone is sent. -/
def State.respondSt (s : State) (m : Cmd) (code status : Nat) : State := s.respond m code status []

/-- The service thread of each field of UCS_SVC, with whether the field is enabled (R295, R320). -/
def State.svcFields (s : State) : List (Bool × Nat) :=
  [(s.is F.UCS_SVC.EN_0, s.get F.UCS_SVC.THR_0), (s.is F.UCS_SVC.EN_1, s.get F.UCS_SVC.THR_1),
   (s.is F.UCS_SVC.EN_2, s.get F.UCS_SVC.THR_2), (s.is F.UCS_SVC.EN_3, s.get F.UCS_SVC.THR_3)]

/-- Is t a service thread? -/
def State.isSvc (s : State) (t : Nat) : Bool := s.svcFields.any (fun x => x.1 && x.2 == t)

/-- Complete the command that executor `n` (a thread, or 64 + core) runs, with a status. -/
def State.failCmdOf (s : State) (n status : Nat) : State :=
  match s.cmds.find? (fun c => c.by' == some n) with
  | some c => s.respondSt { rq := c.rq, tag := c.tag } c.code status
  | none => s

/-! ### Tags (R271 to R275) -/

/-- The number of tags of a thread in a condition. -/
def countTags (p : Tag → Bool) (v : List Tag) : Nat := (v.filter p).length

def Tag.isFree : Tag → Bool
  | .free => true
  | _ => false

def Tag.isDone : Tag → Bool
  | .done _ => true
  | _ => false

def Tag.isOut : Tag → Bool
  | .out _ => true
  | _ => false

/-- Stopping a thread releases its DONE tags and discards the words of the operations in flight (R271). -/
def Thread.dropTags (h : Thread) : Thread :=
  { h with tags := h.tags.map fun t => match t with
      | .done _ => .free
      | .out _ => .out true
      | .free => .free }

/-- Stop a thread in state `st`: its wait is abandoned and its tags are released (R262, R270, R271). -/
def State.stopThr (s : State) (t : Fin 64) (st : Nat) : State :=
  (s.modThr t fun h => { h.dropTags with wait := .none, stopReq := false }).setThrState t st 0

/-! ### Taking a Nerog exception, and returning from one -/

/-- The exception summary bit of thread t. -/
def excSumBit (t : Fin 64) : Fld :=
  if t.val < 32 then ⟨R.SEQ_EXC_SUM_LO, t, t⟩ else ⟨R.SEQ_EXC_SUM_HI, t - 32, t - 32⟩

/-- Record an exception of thread t (R287): the first since its bit was cleared is kept, the bit is set and SEQ_n_EXC
raised; a later one sets MORE alone. -/
def State.recordExc (s : State) (t : Fin 64) (cause sub : Nat) (epc eaddr : Word) : State :=
  let s1 :=
    if s.is (F.SEQ_THR_EXC.VALID t) then s.set (F.SEQ_THR_EXC.MORE t) 1
    else
      ((((s.set (F.SEQ_THR_EXC.CAUSE t) cause).set (F.SEQ_THR_EXC.SUB t) sub).set
        (F.SEQ_THR_EXC.VALID t) 1).wr (R.SEQ_THR_EPC t) epc).wr (R.SEQ_THR_EADDR t) eaddr
  let s2 := if s.is (F.SEQ_THR_EXC.VALID t) then s1 else (s1.set (excSumBit t) 1).raise (296 + t / 16) 1 t
  if s.isSvc t then s2 else s2.notice 2 0x0680 [BitVec.ofNat 32 t, s2.rd (R.SEQ_THR_EXC t)]

/-- Start a thread at `pc` with argument `arg`: the state a start sets (R269). -/
def State.startThr (s : State) (t : Fin 64) (pc arg : Word) : State :=
  let s1 := s.modThr t fun h => { h with
    ctx := ({} : Ctx).setReg 2 arg, wait := .none, wakeCnt := 0, wakePay := 0, fireCnt := 0, firePay := 0,
    stopReq := false, entry := pc }
  let s2 := ((s1.wr (R.SEQ_THR_EXC t) 0).wr (R.SEQ_THR_EPC t) 0).wr (R.SEQ_THR_EADDR t) 0
  (((s2.set (excSumBit t) 0).wr (R.SEQ_THR_PC t) pc).setThrState t thrReady 0).clearShadows (.thread t)

/-- The index of the UCS_SVC field of a service thread. -/
def State.svcIndex (s : State) (t : Nat) : Nat := s.svcFields.findIdx (fun x => x.1 && x.2 == t)

/-- A service thread's exception (R297): its command completes with INTERNAL, a log record is written, its
summary bit is cleared, UCS SVC is raised and the thread restarts at 0x1F00_0080. -/
def State.svcExc (s : State) (t : Fin 64) : State :=
  let s1 := (s.failCmdOf t stInternal).log 0x07
    [BitVec.ofNat 32 t, s.rd (R.SEQ_THR_EXC t), s.rd (R.SEQ_THR_EPC t), s.rd (R.SEQ_THR_EADDR t)]
  let s2 := (s1.stopThr t thrExc).raise 375 1 t
  s2.startThr t 0x1F000080 (BitVec.ofNat 32 (s.svcIndex t))

/-- A sequencer thread stops with an exception (R285): it is recorded and the thread enters EXCEPTION; a
service thread is then restarted (R297). -/
def State.thrExcept (s : State) (t : Fin 64) (cause sub : Nat) (epc eaddr : Word) : State :=
  let s1 := (s.recordExc t cause sub epc eaddr).stopThr t thrExc
  if s.isSvc t then s1.svcExc t else s1.failCmdOf t stInternal

/-- An MSS core takes an exception (R288): EPC, ECAUSE and EADDR are saved, STATUS bit 0 is cleared and the
core continues at 0x1F00_0040; the handler logs it and completes the core's command with INTERNAL, and a
third exception within 1 s raises EXC3 (R298). -/
def State.mssExcept (s : State) (k : Fin 2) (cause sub : Nat) (epc eaddr : Word) : State :=
  let now := s.dtime
  let ecause : Word := BitVec.ofNat 32 (cause * 256 + sub)
  let recent := now :: (s.mss[k].excs.filter (fun t => now < t + 1000000000))
  let s1 := s.modMss k fun m => { m with
    epc := epc, ecause := ecause, eaddr := eaddr, saved := m.status,
    status := m.status &&& 0xFFFFFFFE, pc := 0x1F000040, excs := recent, handler := true }
  let s2 := (s1.log 0x07 [BitVec.ofNat 32 k, ecause, epc, eaddr]).failCmdOf (64 + k) stInternal
  if 3 ≤ recent.length then s2.raise (338 + k) 2 else s2

/-- Taking an exception, on whichever executor raised it. -/
def State.except (s : State) (x : Exec) (cause sub : Nat) (epc eaddr : Word) : State :=
  match x with
  | .thread t => s.thrExcept t cause sub epc eaddr
  | .mss k => s.mssExcept k cause sub epc eaddr

/-- ERET (R288): STATUS is restored and the core resumes at EPC; the exception handler has set EPC to the dispatch entry
before its own (R298). -/
def State.eretMss (s : State) (k : Fin 2) : State :=
  s.modMss k fun m =>
    let e := if m.handler then 0x1F000000 else m.epc
    { m with status := m.saved, epc := e, pc := e, handler := false }

/-- The latest recorded fault of a source: none where nothing has been recorded since power-on, RESET_N or device reset
(R258, R445). The count of its reports runs on since power-on (Table 17-4). -/
def State.fltRec? (s : State) (src : Nat) : Option FltRec :=
  s.fltRecs.find? fun r => r.src == src && !r.words.isEmpty

/-! ### Event lines (R356, R357) -/

/-- Drive EVT line n to a level: EVT_LVL.OUT, and the land when OE is 1; with OE 0, NOOE is set (R356). -/
def State.evtLevel (s : State) (n : Nat) (hi : Bool) : State :=
  let s1 := s.set ⟨R.EVT_LVL, n, n⟩ (b2n hi)
  if s.get ⟨R.EVT_CFG, n, n⟩ = 1 then s1.set ⟨R.EVT_LVL, 16 + n, 16 + n⟩ (b2n hi)
  else s1.set ⟨R.EVT_LATCH, 16 + n, 16 + n⟩ 1

/-- A level action ends a pulse (R357). -/
def State.evtSetLevel (s : State) (n : Nat) (hi : Bool) : State :=
  State.evtLevel { s with evtPulse := s.evtPulse.filter (· != n) } n hi

/-- A pulse of the given width in ns: the line goes high until EVT_PULSE_END; a width below 4 ns is raised to
4 ns and latched in STRETCH (R357). -/
def State.evtPulseOn (s : State) (n width : Nat) : State :=
  let s1 := State.evtLevel { s with evtPulse := n :: s.evtPulse.filter (· != n) } n true
  if width < 4 then s1.set ⟨R.EVT_LATCH, n, n⟩ 1 else s1

/-- An EVT action by its code (Table 09-9): 0x20 PULSE, 0x21 HIGH, 0x22 LOW, 0x23 TOGGLE. -/
def State.evtAct (s : State) (n acode width : Nat) : State :=
  if acode = 0x20 then s.evtPulseOn n width
  else if acode = 0x21 then s.evtSetLevel n true
  else if acode = 0x22 then s.evtSetLevel n false
  else s.evtSetLevel n (s.get ⟨R.EVT_LVL, n, n⟩ == 0)

/-- Apply an EVT action to the lines of a mask. -/
def State.evtMask (s : State) (acode width mask : Nat) : List Nat → State
  | [] => s
  | n :: l => (if mask.testBit n then s.evtAct n acode width else s).evtMask acode width mask l

end Sys2Proof.Machine
end

