-- ==== Sys2Proof/Machine/Flags.lean ====
section
/-!
DEFINITION. The flags of a Nerog executor: what CMP, CMPP, CMPI and TST set (R229), and the branch
conditions that read them (Table 09-5).
-/

namespace Sys2Proof.Machine

/-- Flags after a comparison of n-bit values a and b (R229): of d := a − b, Z is d = 0, N its top bit, C is
a ≥ b unsigned, and V the signed overflow. -/
def Ctx.cmp (c : Ctx) {n : Nat} (a b : BitVec n) : Ctx :=
  let d := a - b
  { c with z := d == 0, n := d.msb, cy := decide (b.toNat ≤ a.toNat),
           v := decide (a.toInt - b.toInt ≠ d.toInt) }

/-- Flags after TST: Z and N from a AND b, C and V cleared (R229). -/
def Ctx.tst (c : Ctx) (a b : Word) : Ctx :=
  let d := a &&& b
  { c with z := d == 0, n := d.msb, cy := false, v := false }

/-- Does a branch condition hold (Table 09-5)? Condition 15 is reserved. -/
def Ctx.cond (c : Ctx) (k : Fin 16) : Bool :=
  match k.val with
  | 0 => c.z
  | 1 => !c.z
  | 2 => c.n != c.v
  | 3 => c.n == c.v
  | 4 => !c.cy
  | 5 => c.cy
  | 6 => !c.z && c.n == c.v
  | 7 => c.z || c.n != c.v
  | 8 => c.cy && !c.z
  | 9 => !c.cy || c.z
  | 10 => c.late
  | 11 => !c.late
  | 12 => c.n
  | 13 => !c.n
  | 14 => true
  | _ => false

/-- Z and LATE after WAITG (R254): Z when the status is OK, LATE the word's bit 8. -/
def Ctx.waitg (c : Ctx) (w : Word) : Ctx := { c with z := bitsOf w 7 0 == 0, late := bitOf w 8 }

end Sys2Proof.Machine
end

