-- ==== Sys2Proof/Machine/Operands.lean ====
section
/-!
DEFINITION. The operand forms of Nerog (R221, R224, R232, R233): registers, pairs, immediates, branch
targets, effective addresses and the regions they may reach; and the frame every instruction runs in.
-/

namespace Sys2Proof.Machine

/-- A general register of an executor. -/
def State.g (s : State) (x : Exec) (r : Fin 32) : Word := (s.ctx x).reg r

/-- The pair that r names. -/
def State.gp (s : State) (x : Exec) (r : Fin 32) : Nat := (s.ctx x).pair r

/-- Write a general register. -/
def State.setG (s : State) (x : Exec) (r : Fin 32) (w : Word) : State := s.modCtx x fun c => c.setReg r w

/-- Write the pair that r names. -/
def State.setP (s : State) (x : Exec) (r : Fin 32) (v : Int) : State := s.modCtx x fun c => c.setPair r v

/-- Does r name a pair (R221)? -/
def isPair (r : Fin 32) : Bool := r.val % 2 == 0

/-- An immediate, sign-extended. -/
def immS (imm : BitVec 16) : Word := imm.signExtend 32

/-- An immediate, zero-extended. -/
def immZ (imm : BitVec 16) : Word := imm.zeroExtend 32

/-- The requester an executor is (R515). -/
def rqOf : Exec → Requester
  | .thread t => .thread t
  | .mss k => .mss k

/-- Is the executor an MSS core? -/
def isMss : Exec → Bool
  | .mss _ => true
  | .thread _ => false

/-- Exception causes of Table 10-5. -/
def excIllegal : Nat := 1
def excTag : Nat := 2
def excMemory : Nat := 3
def excFenced : Nat := 4
def excPool : Nat := 5

/-- Is cluster n off or fenced (R28)? -/
def State.clusterOff (s : State) (n : Nat) : Bool := !s.domOn (90 + n)

/-- Is the slow path in force (R313)? No enabled service thread is available. -/
def State.slow (s : State) : Bool :=
  !s.svcFields.any (fun f => f.1 && !s.clusterOff (f.2 / 16) &&
    match thr? f.2 with
    | some t => s.thrState t != thrLost
    | none => false)

/-- Bring UCS_STAT.SLOW and condition SLOW of UCS up to date (R313). -/
def State.updSlow (s : State) : State :=
  let b := s.slow
  let s1 := s.setb F.UCS_STAT.SLOW b
  if b then s1.assertL 375 2 else s1.deassertL 375 2

/-- A thread is LOST (R285, R291): MEMORY with SUB CONTEXT or NO_PAIR is recorded at its committed PC; a service thread's
command completes with ABORTED (R297). -/
def State.loseThr (s : State) (t : Fin 64) (sub : Nat := 4) (eaddr : Word := 0) : State :=
  let s1 := (s.recordExc t excMemory sub (s.rd (R.SEQ_THR_PC t)) eaddr).stopThr t thrLost
  s1.failCmdOf t stAborted

/-- The slot of thread t, counted over the clusters (R266). -/
def thrSlot (t : Fin 64) : Fin 16 := ⟨t.val / 4, by omega⟩

/-- The thread's number within its slot. -/
def inSlot (t : Fin 64) : Fin 4 := ⟨t.val % 4, Nat.mod_lt _ (by decide)⟩

/-- How many places thread k of a slot stands behind the one whose turn follows l's. -/
def turnsAway (l k : Fin 4) : Nat := (k.val + 3 - l.val) % 4

/-- Is it thread t's turn (R267)? Its pair chooses round-robin among the READY threads of the slot, from the one after the
thread that issued last; so a thread that yields waits until each other READY one has issued (R261). -/
def State.onTurn (s : State) (t : Fin 64) : Bool :=
  let l := s.turn[thrSlot t]
  (List.finRange 64).all fun u => thrSlot u != thrSlot t || u == t || s.thrState u != thrReady ||
    decide (turnsAway l (inSlot t) ≤ turnsAway l (inSlot u))

/-- May the executor issue? A thread is READY, its cluster runs, no throttle pause holds the hub (R268, R28, R289), and its
turn has come; an MSS core is in service, waits for nothing and has no operation of its own in flight (R263, R275). -/
def State.canIssue (s : State) : Exec → Bool
  | .thread t => s.thrState t == thrReady && !s.clusterOff (t / 16) && !s.pausedIn 6 && s.onTurn t
  | .mss k => s.mss[k].ok && s.mss[k].wait == .none && !s.ops.any (fun o => match o.who with
      | .mss j _ => j == k
      | _ => false)

/-- The regions of Table 09-6. -/
inductive Region where
  | regs
  | queue
  | context
  | rom
  | none
deriving DecidableEq, Repr

/-- The region an address lies in. -/
def regionOf (a : Nat) : Region :=
  if a < 0x400000 then .regs
  else if 0x10C00000 ≤ a && a < 0x10E00000 then .context
  else if inQueue a then .queue
  else if 0x1F000000 ≤ a && a < 0x1F100000 then .rom
  else .none

/-- May an executor fetch from this address (Table 09-6)? -/
def fetchable (a : Nat) : Bool :=
  a % 4 == 0 && ((0x10600000 ≤ a && a < 0x10C00000) || (0x1F000000 ≤ a && a < 0x1F100000))

/-- Does Table 09-6 admit this access of queue memory or ROM (R233)? -/
def memAdmits (x : Exec) (a width : Nat) (store : Bool) : Bool :=
  a % width == 0 &&
    match regionOf a with
    | .queue => true
    | .context => isMss x
    | .rom => !store
    | _ => false

/-- The effective address (R232). -/
def State.ea (s : State) (x : Exec) (ra : Fin 32) (imm : BitVec 16) : Nat := (s.g x ra + immS imm).toNat

/-- A byte as a load sees it: queue memory, ROM, or the patch store, which reads 0 with no patch set active (R294). -/
def State.loadByte (s : State) (a : Nat) : Byte :=
  if inQueue a then s.ldByte a
  else if 0x1F0F0000 ≤ a then s.upd.active.getD (a - 0x1F0F0000) 0
  else Config.romByte a

/-- Bytes as a load sees them. -/
def State.loadBytes (s : State) (a n : Nat) : List Byte := (List.range n).map fun i => s.loadByte (a + i)

/-- Raise ILLEGAL at the instruction, with a subcause and EADDR (R225, Table 10-5). -/
def State.illegal (s : State) (x : Exec) (sub : Nat) (eaddr : Nat := 0) : State :=
  s.except x excIllegal sub (s.pcOf x) (BitVec.ofNat 32 eaddr)

/-- The executor has issued: the turn passes on, and the thread has issued since the last pause (R267, R289). -/
def State.took (s : State) : Exec → State
  | .thread t => State.modThr { s with turn := s.turn.set (thrSlot t) (inSlot t) } t fun h => { h with owed := false }
  | .mss _ => s

/-- The uncorrectable word in which the committed context of the executor cannot be read (R285). Which word of the context
region belongs to which thread is open (Config.ctxThread); an MSS core's context is no part of it. -/
def State.ctxBad (s : State) : Exec → Option Nat
  | .thread t => s.ue.find? fun w => regionOf (8 * w) == .context && Config.ctxThread w == t.val
  | .mss _ => none

/-- The frame of an instruction: it runs when its executor may issue. A thread whose context cannot be read is LOST
(R285), and an uncorrectable error in the word it is fetched from raises MEMORY with SUB FETCH (R284). -/
def State.issue (s0 : State) (x : Exec) (f : State → State) : State :=
  if s0.canIssue x then
    let s := s0.took x
    match x, s.ctxBad x with
    | .thread t, some w => (s.loseThr t 3 (BitVec.ofNat 32 (8 * w))).updSlow
    | _, _ =>
      if s.ue.contains ((s.pcOf x).toNat / 8) then
        s.except x excMemory 2 (s.pcOf x) (BitVec.ofNat 32 ((s.pcOf x).toNat / 8 * 8))
      else f s
  else s0

/-- The frame of an instruction of the MSS profile: PRIV on a sequencer thread (R225, R263). -/
def State.issueMss (s : State) (x : Exec) (f : State → State) : State :=
  s.issue x fun s => if isMss x then f s else s.illegal x 3

/-- Continue at a branch target; outside the fetch regions ADDR is raised at the target, with EPC the target (R231). -/
def State.branchTo (s : State) (x : Exec) (a : Word) : State :=
  if fetchable a.toNat then s.setPc x a else (s.setPc x a).except x excIllegal 4 a a

end Sys2Proof.Machine
end

