-- ==== Sys2Proof/Machine/Nerog.lean ====
section
/-!
DEFINITION. The Nerog instructions that compute, compare, branch, and reach queue memory and ROM, and the
MSS special registers (chapter 09). LW and SW, which also reach the register space, are in NerogReg.
-/

namespace Sys2Proof.Machine

/-! ### Arithmetic of Table 09-4 -/

/-- Signed quotient of n-bit values, toward zero (R228). -/
def divS {n : Nat} (a b : BitVec n) : BitVec n :=
  if b = 0 then BitVec.allOnes n else BitVec.ofInt n (Int.tdiv a.toInt b.toInt)

/-- Signed remainder, sign of the dividend (R228). -/
def remS {n : Nat} (a b : BitVec n) : BitVec n :=
  if b = 0 then a else BitVec.ofInt n (Int.tmod a.toInt b.toInt)

/-- Unsigned quotient (R228). -/
def divU {n : Nat} (a b : BitVec n) : BitVec n := if b = 0 then BitVec.allOnes n else a / b

/-- Unsigned remainder (R228). -/
def remU {n : Nat} (a b : BitVec n) : BitVec n := if b = 0 then a else a % b

/-- A single operation of Table 09-4; none for a pair operation or a reserved fn. -/
def alu32 (fn : Nat) (a b : Word) : Option Word :=
  let sh := b.toNat % 32
  match fn with
  | 0x00 => some (a + b)
  | 0x01 => some (a - b)
  | 0x02 => some (a &&& b)
  | 0x03 => some (a ||| b)
  | 0x04 => some (a ^^^ b)
  | 0x05 => some (a <<< sh)
  | 0x06 => some (a >>> sh)
  | 0x07 => some (a.sshiftRight sh)
  | 0x08 => some (a * b)
  | 0x09 => some (hiWord (a.toInt * b.toInt))
  | 0x0A => some (hiWord ((a.toNat * b.toNat : Nat) : Int))
  | 0x0B => some (divS a b)
  | 0x0C => some (divU a b)
  | 0x0D => some (remS a b)
  | 0x0E => some (remU a b)
  | 0x0F => some (if a.toInt ≤ b.toInt then a else b)
  | 0x10 => some (if a.toInt ≤ b.toInt then b else a)
  | 0x11 => some (if a.toNat ≤ b.toNat then a else b)
  | 0x12 => some (if a.toNat ≤ b.toNat then b else a)
  | 0x13 => some (wordOf (satS 32 (a.toInt + b.toInt)))
  | 0x14 => some (wordOf (satS 32 (a.toInt - b.toInt)))
  | _ => none

/-- Which fields of a pair operation name pairs: (ra, rb); none for another fn. -/
def aluPairs (fn : Nat) : Option (Bool × Bool) :=
  match fn with
  | 0x20 | 0x21 | 0x24 | 0x25 | 0x26 | 0x27 => some (true, true)
  | 0x28 | 0x29 | 0x2A => some (true, false)
  | 0x22 | 0x23 | 0x2B | 0x2C => some (false, false)
  | _ => none

/-- A pair operation of Table 09-4: `a`, `b` are the words of ra and rb, `pa`, `pb` their pairs. -/
def alu64 (fn : Nat) (a b : Word) (pa pb : BitVec 64) : BitVec 64 :=
  let sh := b.toNat % 64
  match fn with
  | 0x20 => pa + pb
  | 0x21 => pa - pb
  | 0x22 => BitVec.ofInt 64 (a.toInt * b.toInt)
  | 0x23 => BitVec.ofNat 64 (a.toNat * b.toNat)
  | 0x24 => divS pa pb
  | 0x25 => divU pa pb
  | 0x26 => remS pa pb
  | 0x27 => remU pa pb
  | 0x28 => pa <<< sh
  | 0x29 => pa >>> sh
  | 0x2A => pa.sshiftRight sh
  | 0x2B => a.signExtend 64
  | _ => a.zeroExtend 64

/-- The pair that r names, as a bit vector. -/
def State.gpv (s : State) (x : Exec) (r : Fin 32) : BitVec 64 := BitVec.ofNat 64 (s.gp x r)

/-- R227. -/
def execAlu (x : Exec) (rd ra rb : Fin 32) (fn : BitVec 11) (s : State) : Out :=
  .next (s.issue x fun s =>
    match alu32 fn.toNat (s.g x ra) (s.g x rb) with
    | some w => (s.setG x rd w).advance x
    | none =>
      match aluPairs fn.toNat with
      | none => s.illegal x 1
      | some (pa, pb) =>
        if isPair rd && (!pa || isPair ra) && (!pb || isPair rb) then
          (s.setP x rd ((alu64 fn.toNat (s.g x ra) (s.g x rb) (s.gpv x ra) (s.gpv x rb)).toNat : Int)).advance x
        else s.illegal x 2)

/-- R229. -/
def execCmp (x : Exec) (ra rb : Fin 32) (fn : BitVec 11) (s : State) : Out :=
  .next (s.issue x fun s =>
    match fn.toNat with
    | 0 => (s.modCtx x fun c => c.cmp (c.reg ra) (c.reg rb)).advance x
    | 1 =>
      if isPair ra && isPair rb then
        (s.modCtx x fun c => c.cmp (BitVec.ofNat 64 (c.pair ra)) (BitVec.ofNat 64 (c.pair rb))).advance x
      else s.illegal x 2
    | 2 => (s.modCtx x fun c => c.tst (c.reg ra) (c.reg rb)).advance x
    | _ => s.illegal x 1)

/-- R229. -/
def execCmpi (x : Exec) (ra : Fin 32) (imm : BitVec 16) (s : State) : Out :=
  .next (s.issue x fun s => (s.modCtx x fun c => c.cmp (c.reg ra) (immS imm)).advance x)

/-- An instruction that writes one register from ra and an immediate (R230). -/
def State.immOp (s : State) (x : Exec) (rd ra : Fin 32) (f : Word → Word) : State :=
  s.issue x fun s => (s.setG x rd (f (s.g x ra))).advance x

/-- R230. -/
def execAddi (x : Exec) (rd ra : Fin 32) (imm : BitVec 16) (s : State) : Out :=
  .next (s.immOp x rd ra fun a => a + immS imm)

/-- R230. -/
def execAndi (x : Exec) (rd ra : Fin 32) (imm : BitVec 16) (s : State) : Out :=
  .next (s.immOp x rd ra fun a => a &&& immZ imm)

/-- R230. -/
def execOri (x : Exec) (rd ra : Fin 32) (imm : BitVec 16) (s : State) : Out :=
  .next (s.immOp x rd ra fun a => a ||| immZ imm)

/-- R230. -/
def execXori (x : Exec) (rd ra : Fin 32) (imm : BitVec 16) (s : State) : Out :=
  .next (s.immOp x rd ra fun a => a ^^^ immZ imm)

/-- R230: the shift amount is imm16 & 31. -/
def execSlli (x : Exec) (rd ra : Fin 32) (imm : BitVec 16) (s : State) : Out :=
  .next (s.immOp x rd ra fun a => a <<< (imm.toNat % 32))

/-- R230. -/
def execSrli (x : Exec) (rd ra : Fin 32) (imm : BitVec 16) (s : State) : Out :=
  .next (s.immOp x rd ra fun a => a >>> (imm.toNat % 32))

/-- R230. -/
def execSrai (x : Exec) (rd ra : Fin 32) (imm : BitVec 16) (s : State) : Out :=
  .next (s.immOp x rd ra fun a => a.sshiftRight (imm.toNat % 32))

/-- R230: rd := imm16 << 16; ra is ignored. -/
def execLui (x : Exec) (rd : Fin 32) (imm : BitVec 16) (s : State) : Out :=
  .next (s.immOp x rd 0 fun _ => immZ imm <<< 16)

/-! ### Loads and stores of queue memory and ROM (R232, R233) -/

/-- The first 8-byte word of an access that holds an uncorrectable error. -/
def State.ueIn (s : State) (a width : Nat) : Option Nat :=
  if s.ue.contains (a / 8) && width ≤ 8 then some (a / 8 * 8) else none

/-- A load of `width` bytes of queue memory or ROM, and what it does with the bytes. -/
def State.loadMem (s : State) (x : Exec) (a width : Nat) (f : State → List Byte → State) : State :=
  if !memAdmits x a width false then s.illegal x 4 a
  else match s.ueIn a width with
    | some e => s.except x excMemory 1 (s.pcOf x) (BitVec.ofNat 32 e)
    | none => (f s (s.loadBytes a width)).advance x

/-- A store of bytes to queue memory. -/
def State.storeMem (s : State) (x : Exec) (a : Nat) (l : List Byte) : State :=
  if !memAdmits x a l.length true then s.illegal x 4 a else (s.stBytes a l).advance x

/-- R233. -/
def execLb (x : Exec) (rd ra : Fin 32) (imm : BitVec 16) (s : State) : Out :=
  .next (s.issue x fun s => s.loadMem x (s.ea x ra imm) 1 fun s l =>
    s.setG x rd ((BitVec.ofNat 8 (bytesNat l)).signExtend 32))

/-- R233. -/
def execLbu (x : Exec) (rd ra : Fin 32) (imm : BitVec 16) (s : State) : Out :=
  .next (s.issue x fun s => s.loadMem x (s.ea x ra imm) 1 fun s l => s.setG x rd (BitVec.ofNat 32 (bytesNat l)))

/-- R233. -/
def execLh (x : Exec) (rd ra : Fin 32) (imm : BitVec 16) (s : State) : Out :=
  .next (s.issue x fun s => s.loadMem x (s.ea x ra imm) 2 fun s l =>
    s.setG x rd ((BitVec.ofNat 16 (bytesNat l)).signExtend 32))

/-- R233. -/
def execLhu (x : Exec) (rd ra : Fin 32) (imm : BitVec 16) (s : State) : Out :=
  .next (s.issue x fun s => s.loadMem x (s.ea x ra imm) 2 fun s l => s.setG x rd (BitVec.ofNat 32 (bytesNat l)))

/-- R233: one access of 8 bytes into the pair rd. -/
def execLd (x : Exec) (rd ra : Fin 32) (imm : BitVec 16) (s : State) : Out :=
  .next (s.issue x fun s =>
    if !isPair rd then s.illegal x 2
    else s.loadMem x (s.ea x ra imm) 8 fun s l => s.setP x rd ((bytesNat l : Nat) : Int))

/-- R233. -/
def execSb (x : Exec) (rd ra : Fin 32) (imm : BitVec 16) (s : State) : Out :=
  .next (s.issue x fun s => s.storeMem x (s.ea x ra imm) ((wordBytes (s.g x rd)).take 1))

/-- R233. -/
def execSh (x : Exec) (rd ra : Fin 32) (imm : BitVec 16) (s : State) : Out :=
  .next (s.issue x fun s => s.storeMem x (s.ea x ra imm) ((wordBytes (s.g x rd)).take 2))

/-- R233: the pair that the rd field names. -/
def execSd (x : Exec) (rd ra : Fin 32) (imm : BitVec 16) (s : State) : Out :=
  .next (s.issue x fun s =>
    if !isPair rd then s.illegal x 2
    else s.storeMem x (s.ea x ra imm) (wordBytes (s.g x rd) ++ wordBytes (s.g x (pairHi rd))))

/-! ### Branches (R231) -/

/-- A signed word offset from the PC, in bytes. -/
def State.target (s : State) (x : Exec) {n : Nat} (off : BitVec n) : Word := s.pcOf x + off.signExtend 32 * 4

/-- R231. -/
def execB (x : Exec) (cond : Fin 16) (off : BitVec 22) (s : State) : Out :=
  .next (s.issue x fun s =>
    if cond = 15 then s.illegal x 1
    else if (s.ctx x).cond cond then s.branchTo x (s.target x off) else s.advance x)

/-- R231. rd is written, then the jump is made; a refused target raises its exception there. -/
def execJal (x : Exec) (rd : Fin 32) (off : BitVec 21) (s : State) : Out :=
  .next (s.issue x fun s =>
    (s.setG x rd (s.pcOf x + 4)).branchTo x (s.target x off))

/-- R231: ra is read before rd is written. -/
def execJalr (x : Exec) (rd ra : Fin 32) (imm : BitVec 16) (s : State) : Out :=
  .next (s.issue x fun s =>
    let a := (s.g x ra + immS imm) &&& 0xFFFFFFFC
    (s.setG x rd (s.pcOf x + 4)).branchTo x a)

/-! ### Special registers of the MSS (R263) -/

/-- An MSS special register; none for a reserved number. -/
def MssCore.special (m : MssCore) (core : Fin 2) (n : Nat) : Option Word :=
  match n with
  | 0 => some m.epc
  | 1 => some m.ecause
  | 2 => some m.eaddr
  | 3 => some m.status
  | 4 => some (BitVec.ofNat 32 core)
  | _ => none

/-- Write an MSS special register; RO registers ignore the write. -/
def MssCore.setSpecial (m : MssCore) (n : Nat) (w : Word) : MssCore :=
  match n with
  | 0 => { m with epc := w, handler := false }
  | 3 => { m with status := w }
  | _ => m

/-- R263. -/
def execMfsr (x : Exec) (rd : Fin 32) (fn : BitVec 11) (s : State) : Out :=
  .next (s.issueMss x fun s => match x with
    | .mss k => match s.mss[k].special k fn.toNat with
      | some w => (s.setG x rd w).advance x
      | none => s.illegal x 1
    | .thread _ => s)

/-- R263. -/
def execMtsr (x : Exec) (ra : Fin 32) (fn : BitVec 11) (s : State) : Out :=
  .next (s.issueMss x fun s => match x with
    | .mss k =>
      if 4 < fn.toNat then s.illegal x 1
      else (s.modMss k fun m => m.setSpecial fn.toNat (m.ctx.reg ra)).advance x
    | .thread _ => s)

/-- R288. -/
def execEret (x : Exec) (s : State) : Out :=
  .next (s.issueMss x fun s => match x with
    | .mss k => s.eretMss k
    | .thread _ => s)

end Sys2Proof.Machine
end

