-- ==== Sys2Proof/Machine/Threads.lean ====
section
/-!
DEFINITION. Threads, waits and tags (chapter 10, R251 to R254, R260 to R262): TCTL, the wait instructions,
FENCE, YIELD, HALT, posting an operation, the exception summary, and moving a slot to the spare pair.
-/

namespace Sys2Proof.Machine

/-- The rule of R41: has value v been reached at count n, in direction up or down? -/
def reached (up : Bool) (v n : Word) : Bool :=
  if up then decide ((n - v).toNat < 0x80000000) else decide ((v - n).toNat < 0x80000000)

/-- Is dispatch frozen (R49)? -/
def State.frozen (s : State) : Bool := s.is F.TB_STAT.HOLD

/-! ### Clusters, slots and pairs (R266, R291) -/

/-- The field of SLOTMAP that holds the pair of slot `sl` of cluster n. -/
def slotFld (n sl : Nat) : Fld := ⟨R.SEQ_CL_STAT n, 14 + 3 * sl, 12 + 3 * sl⟩

/-- The field of PAIRS that holds the state of pair p of cluster n: 0 ACTIVE, 1 SPARE, 2 FENCED. -/
def pairFld (n p : Nat) : Fld := ⟨R.SEQ_CL_STAT n, 2 * p + 1, 2 * p⟩

/-- Has thread t's slot no pair (R291)? -/
def State.noPair (s : State) (t : Fin 64) : Bool := s.get (slotFld (t / 16) (t / 4 % 4)) == 7

/-! ### TCTL (R269, R270) -/

/-- Does thread t have operations in flight? -/
def State.opsOf (s : State) (t : Fin 64) : List Op := s.ops.filter (fun o => match o.who with
  | .thread u _ => u == t
  | _ => false)

/-- The status of a TCTL START, and the state after it (R269). -/
def State.tctlStart (s : State) (t : Nat) (pc : Word) : Nat × State :=
  match thr? t with
  | none => (stBadArg, s)
  | some t =>
    if !fetchable pc.toNat then (stBadArg, s)
    else if s.clusterOff (t / 16) || s.noPair t then (stNoRes, s)
    else if s.thrLive t || !(s.opsOf t).isEmpty then (stBusy, s)
    else (stOk, s.startThr t pc (s.rd (R.SEQ_THR_ARG t)))

/-- TCTL STOP (R270): at once for READY and WAIT, at the end of a migration for MIGRATING. -/
def State.tctlStop (s : State) (t : Fin 64) : State :=
  if s.thrState t = thrReady || s.thrState t = thrWait then s.stopThr t thrHalted
  else if s.thrState t = thrMigr then s.modThr t fun h => { h with stopReq := true }
  else s

/-- A thread that serves no longer stops, at once or after its present command (R320). -/
def State.stopSvc (s : State) (t : Nat) : State :=
  match thr? t with
  | some x => if !s.isSvc t && !s.cmds.any (fun c => c.by' == some t) then s.tctlStop x else s
  | none => s

/-- A command completes with a body; a service thread that serves no longer stops after it (R320). -/
def State.finish (s : State) (m : Cmd) (code status : Nat) (body : List Word) : State :=
  let n := (s.cmds.find? (·.names m)).bind (·.by')
  let s1 := s.respond m code status body
  match n with
  | some t => s1.stopSvc t
  | none => s1

/-- A command completes; only OK and RESOLVED have a body (R302). -/
def State.done (s : State) (m : Cmd) (code status : Nat) (body : List Word) : State :=
  s.finish m code status (if status = stOk || status = stResolved then body else [])

/-- R269. -/
def execTctlStart (x : Exec) (rd ra rb : Fin 32) (s : State) : Out :=
  .next (s.issueMss x fun s =>
    let r := s.tctlStart (s.g x ra).toNat (s.g x rb)
    (r.2.setG x rd (BitVec.ofNat 32 r.1)).advance x)

/-- R270. -/
def execTctlStop (x : Exec) (rd ra : Fin 32) (s : State) : Out :=
  .next (s.issueMss x fun s =>
    let s1 := match thr? (s.g x ra).toNat with
      | some t => s.tctlStop t
      | none => s
    (s1.setG x rd 0).advance x)

/-- SEQ_THR_STAT as read: DONE and OUT count the thread's tags (R273); PAUSED reads 1 while a pause holds the thread and it
is READY (R289). -/
def State.thrStatWord (s : State) (t : Fin 64) : Word :=
  let l := s.threads[t].tags.toList
  let w := setBits (setBits (s.rd (R.SEQ_THR_STAT t)) 15 8 (countTags Tag.isDone l)) 7 0 (countTags Tag.isOut l)
  setBits w 24 24 (b2n (s.pausedIn 6 && s.thrState t == thrReady))

/-- R270. The spec gives no word for a thread number above 63: a free value. -/
def execTctlReadState (x : Exec) (rd ra : Fin 32) (s : State) : Out :=
  .next (s.issueMss x fun s =>
    match thr? (s.g x ra).toNat with
    | some t => (s.setG x rd (s.thrStatWord t)).advance x
    | none => let (v, s1) := s.fresh; (s1.setG x rd (BitVec.ofNat 32 v)).advance x)

/-! ### Waits -/

/-- R251. A direction above 2 is reserved: OPERAND. -/
def execWaitc (x : Exec) (ra : Fin 32) (fn : BitVec 11) (s : State) : Out :=
  .next (s.issue x fun s =>
    if 2 < fn.toNat then s.illegal x 5
    else
      let v := s.g x ra
      let up := if fn = 0 then true else if fn = 1 then false else !s.dirDown
      let hit := reached up v (s.rd R.TB_EXT_LO)
      let s1 := s.advance x
      if hit && !s.frozen then s1.modCtx x fun c => { c with late := true }
      else s1.enterWait x (.count v up (!hit)) 1)

/-- R252. -/
def execWaitt (x : Exec) (ra : Fin 32) (fn : BitVec 11) (s : State) : Out :=
  .next (s.issue x fun s =>
    if 1 < fn.toNat then s.illegal x 1
    else if !isPair ra then s.illegal x 2
    else
      let t := if fn = 0 then s.gp x ra else (s.dtime + s.gp x ra) % 2 ^ 64
      let s1 := s.advance x
      if t ≤ s.dtime then s1.modCtx x fun c => { c with late := decide (t < s.dtime) }
      else s1.enterWait x (.time t) 2)

/-- R252: device time reaches the target; the wait completes with LATE 0. -/
def execWaittExpiry (x : Exec) (s : State) : Out :=
  .next (match s.waitOf x with
    | .time t =>
      let s1 := if s.dtime < t then s.wr64 R.TB_DTIME_LO R.TB_DTIME_HI (t : Int) else s
      (s1.modCtx x fun c => { c with late := false }).endWait x
    | _ => s)

/-- Is a wake selector legal (Table 09-10): bits 31:24 KIND, 23:8 zero, 7:0 INDEX? -/
def wakeLegal (w : Word) : Bool :=
  let k := bitsOf w 31 24
  let i := bitsOf w 7 0
  bitsOf w 23 8 == 0 &&
    ((1 ≤ k && k ≤ 8 && i < 24) || (k == 0x10 && i < 16) || (k == 0x20 && i == 0) || (k == 0x21 && i == 0) ||
     (k == 0x30 && i < 64) || (k == 0x40 && i < 8) || (k == 0x50 && 1 ≤ i && i ≤ 3))

/-- R253. -/
def execWaite (x : Exec) (rd ra rb : Fin 32) (fn : BitVec 11) (s : State) : Out :=
  .next (s.issue x fun s =>
    if 1 < fn.toNat then s.illegal x 1
    else if !isPair rd then s.illegal x 2
    else if !wakeLegal (s.g x ra) then s.illegal x 5
    else
      let kind := bitsOf (s.g x ra) 31 24
      let idx := bitsOf (s.g x ra) 7 0
      let b := s.g x rb
      let seen := bitsOf b 15 0
      let r := s.wakeOf x kind idx
      let s1 := s.advance x
      if fn = 1 then
        s1.modCtx x fun c => { (c.setPair rd (wakePair r.1 r.2)) with z := r.1 == b.toNat }
      else (s1.enterWait x (.event kind idx seen rd) 3).wakeThr x)

/-- The slot a tag handle names, when it names an outstanding tag of the executor (R254, R272): a tag whose
word is kept, of the slot's present generation. -/
def State.handleSlot (s : State) (x : Exec) (h : Word) : Option Nat :=
  let slot := bitsOf h 5 0
  let gen := bitsOf h 19 12
  match x with
  | .thread t =>
    if bitsOf h 31 20 = 0 && bitsOf h 11 6 = t.val then
      if hs : slot < 64 then
        match s.threads[t].tags[slot] with
        | .free => none
        | .out true => none
        | _ => if s.threads[t].gens[slot] % 256 = gen then some slot else none
      else none
    else none
  | .mss k =>
    if bitsOf h 31 20 = 1 && bitsOf h 11 6 = k.val then
      if hs : slot < 16 then
        match s.mss[k].tags[slot] with
        | .free => none
        | .out true => none
        | _ => if s.mss[k].gens[slot] % 256 = gen then some slot else none
      else none
    else none

/-- The word of a DONE tag. -/
def State.tagWord (s : State) (x : Exec) (slot : Nat) : Option Word :=
  let g : Tag → Option Word := fun t => match t with
    | .done w => some w
    | _ => none
  match x with
  | .thread t => if h : slot < 64 then g s.threads[t].tags[slot] else none
  | .mss k => if h : slot < 16 then g s.mss[k].tags[slot] else none

/-- Set a tag. -/
def State.setTag (s : State) (x : Exec) (slot : Nat) (v : Tag) : State :=
  match x with
  | .thread t => s.modThr t fun h => { h with tags := h.tags.setIfInBounds slot v }
  | .mss k => s.modMss k fun m => { m with tags := m.tags.setIfInBounds slot v }

/-- WAITG's completion with a word: rd, the flags, and the tag released (R254). -/
def State.takeTag (s : State) (x : Exec) (slot : Nat) (rd : Fin 32) (w : Word) : State :=
  (s.setTag x slot .free).modCtx x fun c => (c.setReg rd w).waitg w

/-- R254. A thread stalled for a tag may reissue once a tag is free; WAITG itself cannot be stalled. -/
def execWaitg (x : Exec) (rd ra : Fin 32) (s : State) : Out :=
  .next (s.issue x fun s =>
    match s.handleSlot x (s.g x ra) with
    | none => (s.modCtx x fun c => (c.setReg rd 0x11).waitg 0x11).advance x
    | some slot =>
      match s.tagWord x slot with
      | some w => (s.takeTag x slot rd w).advance x
      | none => (s.advance x).enterWait x (.tag slot rd) 4)

/-- Has the executor an operation in flight? -/
def State.hasOps (s : State) : Exec → Bool
  | .thread t => !(s.opsOf t).isEmpty
  | .mss k => s.ops.any (fun o => match o.who with
      | .mss j _ => j == k
      | _ => false)

/-- R260. Stores are visible to every requester as they are made, so fn 1 completes at once. -/
def execFence (x : Exec) (fn : BitVec 11) (s : State) : Out :=
  .next (s.issue x fun s =>
    if 2 < fn.toNat then s.illegal x 1
    else
      let s1 := s.advance x
      if fn ≠ 1 && s.hasOps x then s1.enterWait x (.fence fn.toNat) 5 else s1)

/-- R261. The turn passes to the other READY threads of the pair as the thread issues (R267). -/
def execYield (x : Exec) (s : State) : Out := .next (s.issue x fun s => s.advance x)

/-- R262. -/
def execHalt (x : Exec) (s : State) : Out :=
  .next (s.issue x fun s =>
    match x with
    | .thread t => (s.advance x).stopThr t thrHalted
    | .mss _ => (s.advance x).enterWait x .halt 0)

/-! ### Posting an operation (R235, R272 to R275) -/

/-- The FREE slots of an executor. -/
def State.freeTags (s : State) : Exec → List Nat
  | .thread t => (List.range 64).filter fun i => (s.threads[t].tags.toList.getD i .free).isFree
  | .mss k => (List.range 16).filter fun i => (s.mss[k].tags.toList.getD i .free).isFree

/-- The generation of a slot. -/
def State.tagGen (s : State) (x : Exec) (slot : Nat) : Nat :=
  match x with
  | .thread t => s.threads[t].gens.toList.getD slot 0
  | .mss k => s.mss[k].gens.toList.getD slot 0

/-- Advance the generation of a slot as it is taken. -/
def State.bumpGen (s : State) (x : Exec) (slot : Nat) : State :=
  let n := (s.tagGen x slot + 1) % 256
  match x with
  | .thread t => s.modThr t fun h => { h with gens := h.gens.setIfInBounds slot n }
  | .mss k => s.modMss k fun m => { m with gens := m.gens.setIfInBounds slot n }

/-- A tag handle (Table 10-3). -/
def tagHandle (x : Exec) (gen slot : Nat) : Word :=
  match x with
  | .thread t => BitVec.ofNat 32 (gen * 4096 + t.val * 64 + slot)
  | .mss k => BitVec.ofNat 32 (2 ^ 20 + gen * 4096 + k.val * 64 + slot)

/-- The issuer of an operation an executor posts in a slot. -/
def issuerOf (x : Exec) (slot : Nat) : Issuer :=
  match x with
  | .thread t => .thread t ⟨slot % 64, Nat.mod_lt _ (by decide)⟩
  | .mss k => .mss k ⟨slot % 16, Nat.mod_lt _ (by decide)⟩

/-- Has the thread an operation OUT that was posted with rd = g0 (R274)? -/
def State.hasDiscard (s : State) (t : Fin 64) : Bool := s.threads[t].tags.toList.any fun g => g == .out true

/-- Post an operation: a tag is taken, its handle written to rd, and the operation leaves for its unit. With
no FREE tag, TAGX decides (R274); an MSS core traps (R275). `word`: the completion word of an operation that no unit
executes. -/
def State.post (s : State) (x : Exec) (rd : Fin 32) (unit : Unit') (kind : OpKind) (word : Option Word := none) : State :=
  match s.freeTags x with
  | [] =>
    match x with
    | .mss _ => s.except x excTag 1 (s.pcOf x) 0
    | .thread t =>
      if s.is (F.SEQ_THR_CFG.TAGX t) then s.except x excTag 1 (s.pcOf x) 0
      else if s.hasDiscard t then s.enterWait x .stall 6
      else s.except x excTag 2 (s.pcOf x) 0
  | l =>
    let (slot, s0) := s.choose l 0
    let s1 := s0.bumpGen x slot
    let s2 := s1.setTag x slot (.out (decide (rd = 0)))
    let op : Op := { who := issuerOf x slot, unit := unit, kind := kind, pc := s.pcOf x, word := word }
    ((State.opFlit { s2 with ops := s2.ops ++ [op] } unit 0).setG x rd (tagHandle x (s1.tagGen x slot) slot)).advance x

/-! ### The exception summary and pairs -/

/-- May this requester write the register at address a (Table 21-3)? A thread writes TB, CH and TC only. -/
def canWrite (rq : Requester) (a : Nat) : Bool :=
  match rq with
  | .thread _ => (0x20000 ≤ a && a < 0x30000) || 0x200000 ≤ a
  | _ => true

/-- Clear the exception record of a thread whose summary bit is cleared (R287). -/
def State.clearExc (s : State) (t : Fin 64) : State :=
  ((s.set (excSumBit t) 0).set (F.SEQ_THR_EXC.VALID t) 0).set (F.SEQ_THR_EXC.MORE t) 0

/-- Clear the summary bits of the threads in the list that the word names. -/
def State.clearExcs (s : State) (hi : Bool) (w : Word) : List (Fin 64) → State
  | [] => s
  | t :: l =>
    (if (decide (32 ≤ t.val) == hi) && bitOf w (t.val % 32) then s.clearExc t else s).clearExcs hi w l

/-- R287. -/
def execExcSumClear (rq : Requester) (hi : Bool) (w : Word) (s : State) : Out :=
  .next (if canWrite rq R.SEQ_EXC_SUM_LO then s.clearExcs hi w (List.finRange 64) else s)

/-- A thread begins to migrate: it will return to the state its context records. -/
def State.migrateThr (s : State) (t : Fin 64) : State :=
  (s.modThr t fun h => { h with back := s.thrState t, backK := s.get (F.SEQ_THR_STAT.WKIND t) }).setThrState t thrMigr 0

/-- Apply a change to the four threads of slot `sl` of cluster n. -/
def State.forSlot (s : State) (n : Fin 4) (sl : Nat) (f : State → Fin 64 → State) : State :=
  ((List.finRange 64).filter fun t => t.val / 16 == n.val && t.val / 4 % 4 == sl).foldl f s

/-- R291: the pair is fenced; its slot moves to the spare pair, or its threads are LOST. -/
def State.pairFence (s : State) (n : Fin 4) (p : Fin 5) : State :=
  if 2 ≤ s.get (pairFld n p) then s
  else
    let s1 := s.set (pairFld n p) 2
    match (List.range 4).find? fun sl => s.get (slotFld n sl) == p.val with
    | none => s1.assertL (300 + n) 1 p
    | some sl =>
      match (List.range 5).find? fun q => s1.get (pairFld n q) == 1 with
      | some q =>
        let s2 := ((s1.set (pairFld n q) 0).set (slotFld n sl) q).inc (F.SEQ_CL_EVT.MIGR n)
        (s2.forSlot n sl State.migrateThr).assertL (300 + n) 1 p
      | none =>
        let s2 := (s1.set (slotFld n sl) 7).forSlot n sl fun s t => s.loseThr t
        (s2.assertL (300 + n) 2 p).updSlow

/-- R291. -/
def execPairFence (n : Fin 4) (p : Fin 5) (s : State) : Out := .next (s.pairFence n p)

/-- A migrated thread returns to the state its context records; a STOP that waited is applied (R270, R291). -/
def State.resumeThr (s : State) (t : Fin 64) : State :=
  if s.thrState t = thrMigr then
    let h := s.threads[t]
    let s1 := s.setThrState t h.back h.backK
    if h.stopReq then (s1.modThr t fun h => { h with stopReq := false }).tctlStop t else s1
  else s

/-- R291. -/
def execMigrationDone (n : Fin 4) (sl : Fin 4) (s : State) : Out :=
  .next (s.forSlot n sl State.resumeThr)

end Sys2Proof.Machine
end

