-- ==== Sys2Proof/Machine/Lines.lean ====
section
/-!
DEFINITION. The switched lines LINE_c and the EVT outputs (chapter 13).
-/

namespace Sys2Proof.Machine

/-- States of LN_STAT.STATE. -/
def lnOff : Nat := 0
def lnRising : Nat := 1
def lnOn : Nat := 2
def lnFault : Nat := 3

/-- Is the LINE switch closed? -/
def State.lineClosed (s : State) (c : Fin 24) : Bool :=
  s.get (F.LN_STAT.STATE c) == lnRising || s.get (F.LN_STAT.STATE c) == lnOn

/-- Open the LINE switch; a scheduled end is dropped. -/
def State.lineOpen (s : State) (c : Fin 24) (st : Nat) : State :=
  (((s.set (F.LN_STAT.STATE c) st).set (F.LN_STAT.PULSE c) 0).set (F.LN_STAT.LIMIT c) 0).modCh c
    fun h => { h with lineRise := 0 }

/-- The five events of R353 open the line, set CH_TRIP and leave it OFF. -/
def State.lineChTrip (s : State) (c : Fin 24) : State := (s.lineOpen c lnOff).set (F.LN_LATCH.CH_TRIP c) 1

/-- Samples of 250 ns that LINE_c takes to rise to OUT_c at LN_CFG.SLEW (R350): OUT in nV, SLEW in 0.1 V/µs. -/
def State.riseSamples (s : State) (c : Fin 24) : Nat :=
  let v := (i64 (s.rd64 (R.MS_VLOC_LO c) (R.MS_VLOC_HI c))).toNat
  (v + 25000000 * s.get (F.LN_CFG.SLEW c) - 1) / (25000000 * s.get (F.LN_CFG.SLEW c))

/-- Close the LINE switch, when it is open (R350): RISING until LINE_c has risen. -/
def State.lineClose (s : State) (c : Fin 24) : State :=
  if s.lineClosed c then s
  else
    let n := s.riseSamples c
    ((s.set (F.LN_STAT.STATE c) (if n = 0 then lnOn else lnRising)).incWrap (F.LN_STAT.ONCNT c)).modCh c
      fun h => { h with lineRise := n }

/-- A refused ON or PULSE in FAULT (R352). -/
def State.lineDenied (s : State) (c : Fin 24) : Nat × State := (stDenied, s.set (F.LN_LATCH.DENIED c) 1)

/-- An OFF request at its action point (R350, R355). -/
def State.lineOff (s : State) (c : Fin 24) : Nat × State :=
  if s.get (F.LN_STAT.STATE c) = lnFault then (stOk, s) else (stOk, s.lineOpen c lnOff)

/-- An ON request (R350, R355): during a pulse it cancels the scheduled end. -/
def State.lineOn (s : State) (c : Fin 24) : Nat × State :=
  if s.get (F.LN_STAT.STATE c) = lnFault then s.lineDenied c
  else (stOk, (s.lineClose c).set (F.LN_STAT.PULSE c) 0)

/-- A PULSE request of a width in ns (R354, R355). -/
def State.linePulse (s : State) (c : Fin 24) (width : Nat) : Nat × State :=
  if width = 0 then (stBadArg, s)
  else if s.get (F.LN_STAT.STATE c) = lnFault then s.lineDenied c
  else
    let s1 := if width < 2000 then s.set (F.LN_LATCH.STRETCH c) 1 else s
    (stOk, (s1.lineClose c).set (F.LN_STAT.PULSE c) 1)

/-- A LINE request: 0 OFF, 1 ON, 2 PULSE (R354). With the power stage off it wakes the channel (R21) and waits for the
stage (R22, R353), for as long as a request holds the stage OFF (DESIGN CHOICE, log entry 60). -/
def State.lineReq (s : State) (c : Fin 24) (op width : Nat) : Nat × State :=
  if 2 < op || (op = 2 && width = 0) then (stBadArg, s)
  else if !s.domOn (3 * c) then
    (stOk, (s.wakeCh c).modCh c fun h => { h with delayed := h.delayed ++
      [{ acode := 0x08, arg0 := op, arg1 := BitVec.ofNat 32 width, arg2 := 0, late := true }] })
  else if op = 0 then s.lineOff c
  else if op = 1 then s.lineOn c
  else s.linePulse c width

/-- R350. -/
def execLineOff (c : Fin 24) (s : State) : Out := .next (s.lineReq c 0 0).2

/-- R350. -/
def execLineOn (c : Fin 24) (s : State) : Out := .next (s.lineReq c 1 0).2

/-- R354. -/
def execLinePulse (c : Fin 24) (width : Nat) (s : State) : Out := .next (s.lineReq c 2 width).2

/-- R354: the width of a running pulse has passed. -/
def execLinePulseEnd (c : Fin 24) (s : State) : Out :=
  .next (if s.is (F.LN_STAT.PULSE c) then s.lineOpen c lnOff else s)

/-- A trip of Table 13-1: the line enters FAULT, its latch bit is set and CH_c_LINE asserts until LN_LATCH is
read (R352). -/
def State.lineTrip (s : State) (c : Fin 24) (bit : Fld) : State :=
  if s.lineClosed c then
    let s1 := (s.lineOpen c lnFault).set bit 1
    s1.assertL (12 * c + 8) 1 0 (s1.rd (R.LN_LATCH c))
  else s

/-- R351. -/
def execLineInrushTrip (c : Fin 24) (s : State) : Out := .next (s.lineTrip c (F.LN_LATCH.INRUSH c))

/-- R351. -/
def execLineEfuseTrip (c : Fin 24) (s : State) : Out := .next (s.lineTrip c (F.LN_LATCH.EFUSE c))

/-- R351: only where ILIM exceeds 2 A. -/
def execLineOvldTrip (c : Fin 24) (s : State) : Out :=
  .next (if 20 < s.get (F.LN_CFG.ILIM c) then s.lineTrip c (F.LN_LATCH.OVLD c) else s)

/-- R351. -/
def execLineSoaTrip (c : Fin 24) (s : State) : Out := .next (s.lineTrip c (F.LN_LATCH.SOA c))

/-- The effect of reading LN_LATCH (R352): it is cleared, and a line in FAULT returns to OFF. -/
def State.readLnLatch (s : State) (c : Fin 24) : State :=
  let s1 := (s.rclClear (R.LN_LATCH c)).deassertL (12 * c + 8) 1
  if s1.get (F.LN_STAT.STATE c) = lnFault then s1.lineOpen c lnOff else s1

/-- R352. -/
def execLnLatchRead (_ : Requester) (c : Fin 24) (s : State) : Out := .next (s.readLnLatch c)

/-- R357: the width of an EVT pulse has passed. -/
def execEvtPulseEnd (n : Fin 16) (s : State) : Out :=
  .next (if s.evtPulse.contains n.val then s.evtSetLevel n false else s)

end Sys2Proof.Machine
end

