-- ==== Sys2Proof/Machine/LtOps.lean ====
section
/-!
DEFINITION. What the other parts see of the STIPPLE engines (chapter 20): which lanes are under test, and the end of a
test.
-/

namespace Sys2Proof.Machine

/-- Engines of a group (Table 20-1). -/
def ltCount (g : Nat) : Nat := [4, 2, 119, 131].getD g 0

/-- Is a test running on link word (g, i)? -/
def State.ltRuns (s : State) (g i : Nat) : Bool := s.is (F.LT_STAT.RUN g i)

/-- A test ends with an END code: 1 OFF, 2 REQUEST, 3 FAULT (R508). -/
def State.ltClose (s : State) (g i code : Nat) : State :=
  (((s.set (F.LT_CTRL.MODE g i) 0).set (F.LT_STAT.RUN g i) 0).set (F.LT_STAT.LOCK g i) 0).set (F.LT_STAT.END g i) code

/-- A test ends where one runs. -/
def State.ltCloseAt (s : State) (g code : Nat) (l : List Nat) : State :=
  l.foldl (fun s i => if s.ltRuns g i then s.ltClose g i code else s) s

/-- The gate links of channel c: leg k, and the battery switch. -/
def legLink (c k : Nat) : Nat := 20 * (c / 4) + 4 * (c % 4) + k
def bswLink (c : Nat) : Nat := 20 * (c / 4) + 16 + c % 4

/-- All five. -/
def gateLinks (c : Nat) : List Nat := bswLink c :: (List.range 4).map (legLink c)

/-- The gate links of the PACK switch and of feed f. -/
def packLink : Nat := 126
def feedLinks (f : Nat) : List Nat := [127 + 2 * f, 128 + 2 * f]

/-- Is a switch of feed f under test? -/
def State.feedTested (s : State) (f : Nat) : Bool := (feedLinks f).any (s.ltRuns 3)

end Sys2Proof.Machine
end

