-- ==== Sys2Proof/Machine/Checks.lean ====
section
/-!
DEFINITION. The checks that a value passes before it takes effect on a channel: the mode word and its reserved values
(R206, R208), the tables that a law names (R118, R134, R168), the parameters (R103), and the operands of an armed
action (R248).
-/

namespace Sys2Proof.Machine

/-- A mode word by its fields (Table 08-1). -/
structure Mode where
  pd     : Nat
  gsize  : Nat
  grole  : Nat
  vrange : Nat
  irange : Nat
  stage  : Nat
  path   : Nat
  law    : Nat
  role   : Nat
deriving DecidableEq, Repr

/-- The fields of a mode word. -/
def modeOf (w : Word) : Mode :=
  { pd := bitsOf w 31 30, gsize := bitsOf w 29 28, grole := bitsOf w 27 26, vrange := bitsOf w 21 20,
    irange := bitsOf w 18 16, stage := bitsOf w 13 12, path := bitsOf w 9 8, law := bitsOf w 6 4,
    role := bitsOf w 1 0 }

/-- The word of a mode. -/
def modeWord (m : Mode) : Word :=
  BitVec.ofNat 32 (m.pd * 2 ^ 30 + m.gsize * 2 ^ 28 + m.grole * 2 ^ 26 + m.vrange * 2 ^ 20 + m.irange * 2 ^ 16 +
    m.stage * 2 ^ 12 + m.path * 2 ^ 8 + m.law * 2 ^ 4 + m.role)

/-- The requested, the resolved and the applied mode of a channel. -/
def State.reqMode (s : State) (c : Fin 24) : Mode := modeOf (s.rd (R.MD_REQ c))
def State.resMode (s : State) (c : Fin 24) : Mode := modeOf (s.rd (R.MD_RES c))
def State.curMode (s : State) (c : Fin 24) : Mode := modeOf (s.ch c).force

/-! ### Table checks -/

/-- Does a table of `n` bytes at `a`, aligned to `al`, lie wholly in the tables region? -/
def tblPlaced (a n al : Nat) : Bool := a % al == 0 && decide (0x10E00000 ≤ a ∧ a + n ≤ 0x11A00000)

/-- The header of the profile table at address a (Table 04-5). -/
def State.profHdr (s : State) (a : Nat) : ProfHdr :=
  let w := s.ldWord a
  { addr := a, qty := bitsOf w 31 28, endPol := bitsOf w 27 26, down := bitsOf w 25 24 == 1,
    n := (s.ldWord (a + 4)).toNat, start := s.ldWord (a + 8) }

/-- The entry check of R118: header, OFS_0 and placement. -/
def State.profOk (s : State) (a : Nat) : Bool :=
  let h := s.profHdr a
  decide (h.qty ≤ 3) && decide (h.endPol ≤ 1) && decide (bitsOf (s.ldWord a) 25 24 ≤ 1) && decide (2 ≤ h.n) &&
    decide (h.n ≤ 65536) && s.ldWord (a + 0x10) == 0 && tblPlaced a (0x10 + 8 * h.n) 16

/-- Profile table address of channel c. -/
def State.profAddr (s : State) (c : Nat) : Nat := s.get (F.RG_PROF_ADDR.ADDR c) * 16

/-- Model table address of channel c. -/
def State.bmAddr (s : State) (c : Nat) : Nat := s.get (F.BM_TBL_ADDR.ADDR c) * 64

/-- Temperature T_k of the model table at a (Table 05-1). -/
def State.bmT (s : State) (a k : Nat) : Int := sext 16 (bytesNat (s.ldBytes (a + 0x18 + 2 * k) 2))

/-- The header checks of Table 05-1, one per field group: FORMAT, CAP, HMAX, HQ, T. -/
def State.bmFormatOk (s : State) (a : Nat) : Bool := bitsOf (s.ldWord a) 31 24 == 1
def State.bmCapOk (s : State) (a : Nat) : Bool := s.ldWord (a + 4) != 0
def State.bmHmaxOk (s : State) (a : Nat) : Bool := decide ((s.ldWord (a + 0x10)).toNat ≤ 100000)
def State.bmHqOk (s : State) (a : Nat) : Bool := s.ldWord (a + 0x14) != 0 || s.ldWord (a + 0x10) == 0
def State.bmTOk (s : State) (a : Nat) : Bool := (List.range 7).all fun k => s.bmT a k < s.bmT a (k + 1)

/-- Does every grid value lie in its range (Table 05-2)? -/
def State.bmGridOk (s : State) (a : Nat) : Bool :=
  (List.range 512).all fun p => [4, 8, 12].all fun o => decide ((s.ldWord (a + 0x40 + 16 * p + o)).toNat ≤ 10000000)

/-- The checks of R134 on the table at a: header, alignment and placement, and the grid values. -/
def State.bmTblOk (s : State) (a : Nat) : Bool :=
  s.bmFormatOk a && s.bmCapOk a && s.bmHmaxOk a && s.bmHqOk a && s.bmTOk a && tblPlaced a 8256 64 && s.bmGridOk a

/-- A temperature bound of a charger in °C. -/
def State.cgT (s : State) (f : Fld) : Int := sext 8 (s.get f)

/-- The order of parameters that R168 checks at entry to CHARGE. -/
def State.cgOrderOk (s : State) (k : Nat) : Bool :=
  let pre := s.get (F.CG_V_PRE.VALUE k)
  let cv := s.get (F.CG_V_CV.VALUE k)
  decide (pre < cv) && decide (cv < s.get (F.CG_V_OVP.VALUE k)) && decide (s.get (F.CG_V_FLOAT.VALUE k) ≤ cv) &&
    decide (s.get (F.CG_V_RECHG.VALUE k) < cv) &&
    decide (s.get (F.CG_I_PRE.VALUE k) ≤ s.get (F.CG_I_CC.VALUE k)) &&
    decide (s.get (F.CG_I_TERM.VALUE k) < s.get (F.CG_I_CC.VALUE k)) &&
    decide (s.cgT (F.CG_ZONE_T.T1 k) < s.cgT (F.CG_ZONE_T.T2 k)) &&
    decide (s.cgT (F.CG_ZONE_T.T2 k) < s.cgT (F.CG_ZONE_T.T3 k)) &&
    decide (s.cgT (F.CG_ZONE_T.T3 k) < s.cgT (F.CG_ZONE_T.T4 k))

/-- The check an entry to law `law` runs (R208). -/
def State.lawOk (s : State) (c : Fin 24) (law : Nat) : Bool :=
  if law = 4 then s.bmTblOk (s.bmAddr c)
  else if law = 5 then s.profOk (s.profAddr c)
  else if law = 6 then s.cgOrderOk c
  else true

/-- Does a named field hold a reserved value? Axis bits as R242: 0 ROLE, 1 LAW, 2 PATH, 3 STAGE, 4 IRANGE,
5 VRANGE, 6 PD. -/
def modeBad (axes : Nat) (m : Mode) : Bool :=
  (axes.testBit 1 && m.law == 7) || (axes.testBit 3 && m.stage == 3) || (axes.testBit 4 && m.irange == 6) ||
    (axes.testBit 5 && m.vrange == 2)

/-! ### Parameters (R102, R103, R240) -/

/-- The register of parameter fn (Table 09-8), 0 to 9. -/
def paramAddr (c fn : Nat) : Nat := R.RG_VSET c + 4 * fn

/-- The range of parameter fn (Table 04-2). -/
def paramRange (fn : Nat) : Int × Int :=
  match fn with
  | 0 | 4 | 5 => (0, 6000000)
  | 1 => (-20000000, 20000000)
  | 2 => (-600000, 600000)
  | 3 => (0, 20000000)
  | 6 | 7 => (0, 20000000)
  | _ => (0, 600000)

/-- The value of a parameter word: ISET and PSET are signed. -/
def paramVal (fn : Nat) (w : Word) : Int := if fn = 1 ∨ fn = 2 then i32 w else w.toNat

/-- The present value of parameter fn. -/
def State.param (s : State) (c : Fin 24) (fn : Nat) : Int := paramVal fn (s.rd (paramAddr c fn))

/-- Is w within the range of parameter fn, and do the voltage limits stay in order (R103)? -/
def State.paramOk (s : State) (c : Fin 24) (fn : Nat) (w : Word) : Bool :=
  let v := paramVal fn w
  let r := paramRange fn
  decide (fn ≤ 9) && decide (r.1 ≤ v ∧ v ≤ r.2) &&
    !(fn == 4 && decide (v < s.param c 5)) && !(fn == 5 && decide (s.param c 4 < v))

/-- Are the reserved bits of a CAPT operand 0 (R245)? -/
def capOk (w : Word) : Bool := bitsOf w 27 12 == 0 && bitsOf w 31 29 == 0

/-- Does the operand of an armed action on channel c pass its own range check (R248)? A code that has none passes. -/
def State.operandOk (s : State) (c : Fin 24) (acode arg0 : Nat) (arg1 arg2 : Word) : Bool :=
  match acode with
  | 0x01 => s.paramOk c (arg0 % 16) arg1
  | 0x02 =>
    let m := modeOf arg1
    !modeBad (arg0 % 128) m && ((arg0 % 128).testBit 1 == false || m.law == (s.resMode c).law || s.lawOk c m.law)
  | 0x03 => decide (arg0 % 16 ≤ 3) && decide (1 ≤ arg2.toNat ∧ arg2.toNat ≤ 65535) && s.paramOk c (arg0 % 16) arg1
  | 0x05 => (s.resMode c).law != 5 || s.profOk (bitsOf arg1 31 4 * 16)
  | 0x08 => decide (arg0 % 4 ≤ 2) && !(arg0 % 4 == 2 && arg1.toNat == 0)
  | 0x12 => capOk arg1
  | _ => true

end Sys2Proof.Machine
end

