-- ==== Sys2Proof/Machine/Timebase.lean ====
section
/-!
DEFINITION. The timebase count and its sources, the calendar, armed events and general timers (chapter 02),
and the operations SCHED, ARM and DISARM at the hub (R247 to R250).
-/

namespace Sys2Proof.Machine

/-- The number of event records (R54). -/
def poolSize : Nat := 131072

/-- The number of buckets (R52). -/
def nBuckets : Nat := 2 ^ 18

/-- TB_CTRL.G and the horizon K. -/
def State.tbG (s : State) : Nat := s.get F.TB_CTRL.G
def State.tbK (s : State) : Nat := s.get F.TB_CTRL.K_M1 + 1

/-- The bucket of a count value (R52). -/
def State.bucketOf (s : State) (v : Word) : Nat := (v.toNat >>> s.tbG) % 2 ^ 18

/-- The count, as a word. -/
def State.count (s : State) : Word := s.rd R.TB_EXT_LO

/-! ### Compare order (R560) -/

/-- Distance behind of a reached event. -/
def behind (up : Bool) (v n : Word) : Nat := if up then (n - v).toNat else (v - n).toNat

/-- Distance ahead of an event not reached. -/
def ahead (up : Bool) (v n : Word) : Nat := if up then (v - n).toNat else (n - v).toNat

/-- The effective direction of a record, where it has none yet the direction of travel (R42). -/
def State.effUp (s : State) (r : Record) : Bool := r.eff.getD (if r.dir = 0 then true else if r.dir = 1 then false else !s.dirDown)

/-- Rank in compare order: reached records first, farthest behind first; then nearest ahead first; equal
distances by arming order, records not armed by index. Smaller is earlier. -/
def State.rank (s : State) (n : Word) (r : Record) : Nat :=
  let up := s.effUp r
  let tie := if r.place = .armed then r.seq % 2 ^ 62 else 2 ^ 62 + r.idx
  if reached up r.cmp n then (2 ^ 32 - behind up r.cmp n) * 2 ^ 64 + tie
  else (2 ^ 33 + ahead up r.cmp n) * 2 ^ 64 + tie

/-- Insert into a list ordered by rank. -/
def State.insertRank (s : State) (n : Word) (r : Record) : List Record → List Record
  | [] => [r]
  | x :: l => if s.rank n r < s.rank n x then r :: x :: l else x :: s.insertRank n r l

/-- Records in compare order. -/
def State.inOrder (s : State) (n : Word) (l : List Record) : List Record := l.foldr (s.insertRank n) []

/-! ### Records -/

/-- Change the record with index i. -/
def State.modRec (s : State) (i : Nat) (f : Record → Record) : State :=
  { s with records := s.records.map fun r => if r.idx == i then f r else r }

/-- Put a record at the tail of the list with changes: the tail of its bucket (R57). -/
def State.requeueRec (s : State) (i : Nat) (f : Record → Record) : State :=
  { s with records := s.records.filter (fun r => r.idx != i) ++ (s.records.filter (fun r => r.idx == i)).map f }

/-- The channels a mask names, ascending. -/
def maskCh (m : Nat) : List (Fin 24) := allCh.filter fun c => m.testBit c

/-- Armed records that take a slot of channel c's tile. -/
def State.slotsOf (s : State) (c : Nat) : Nat :=
  (s.records.filter fun r => r.place == .armed && r.tkind == 0 && r.mask.testBit c).length

/-- Armed records that take a hub slot. -/
def State.hubSlots (s : State) : Nat := (s.records.filter fun r => r.place == .armed && r.tkind != 0).length

/-- Are all the slots a record needs free (R62)? -/
def State.slotsFree (s : State) (r : Record) : Bool :=
  if r.tkind = 0 then (maskCh r.mask).all fun c => s.slotsOf c < 64 else s.hubSlots < 256

/-! ### Firing (R44, R66, R248) -/

/-- Count a late fire (R66): cause 0 ARMED_LATE, 1 OUTRUN, 2 JUMP, 3 HOLD. -/
def State.lateFire (s : State) (cause idx : Nat) : State :=
  ((((s.inc F.TB_LATE_CNT.COUNT).set F.TB_LATE_LAST.VALID 1).set F.TB_LATE_LAST.CAUSE cause).set
    F.TB_LATE_LAST.RECORD idx)

/-- Hand an armed fire to the tile of channel c. The gate command of LINE leaves the tile at once (Table 02-6); the
other actions are latched for the next sample. While the power stage is not on the action waits (R22), also where a
request holds the stage OFF (DESIGN CHOICE, log entry 60). -/
def State.toTile (s : State) (f : Fire) (c : Fin 24) : State :=
  if s.domOn (3 * c) && f.acode = 0x08 then (s.lineReq c (f.arg0 % 4) f.arg1.toNat).2
  else if s.domOn (3 * c) || s.domFenced (3 * c) then s.modCh c fun h => { h with fires := h.fires ++ [f] }
  else s.modCh c fun h => { h with delayed := h.delayed ++ [{ f with late := true }] }

/-- The action of a fire on its targets (Table 09-9). -/
def State.act (s : State) (r : Record) (late : Bool) : State :=
  match r.tkind with
  | 0 => (maskCh r.mask).foldl
      (State.toTile · { acode := r.acode, arg0 := r.arg0, arg1 := r.arg1, arg2 := r.arg2, late := late }) s
  | 1 => if r.acode = 0x20 && r.arg0 = 0 then s else s.evtMask r.acode r.arg0 r.mask (List.range 16)
  | 2 =>
    if r.acode = 0x40 then s.signal 0x30 (r.arg0 % 64) r.arg1
    else State.chainSend { s with chainSig := s.chainSig ++ [(r.arg0 % 64, r.arg1)] } (.signal (r.arg0 % 64) r.arg1)
  | _ => match thr? (r.mask % 64) with
      | some t => s.signalWake t (BitVec.ofNat 32 r.arg0)
      | none => s

/-- The next compare value of a REPEAT record or a periodic compare, and the periods skipped because they had
already been reached (R60, R69). -/
def nextPeriod (up : Bool) (v p n : Word) : Word × Nat :=
  let v1 := if up then v + p else v - p
  if reached up v1 n then
    let k := behind up v1 n / p.toNat + 1
    let d := BitVec.ofNat 32 (k * p.toNat)
    (if up then v1 + d else v1 - d, k)
  else (v1, 0)

/-- The channels that a record arms. -/
def recChs (r : Record) : List (Fin 24) := if r.tkind == 0 then maskCh r.mask else []

/-- Promote a record that is not yet reached: into its slots, or the overflow list (R62, R65). Its place in the arming
order is that of its promotion (R64). -/
def State.armRec (s : State) (r : Record) (up : Bool) : State :=
  let p : Place := if s.slotsFree r then .armed else .overflow
  State.flitsTo { (s.modRec r.idx fun x => { x with place := p, eff := some up, early := true, seq := s.tb.armSeq }) with
    tb := { s.tb with armSeq := s.tb.armSeq + 1 } } (recChs r) 0 0

/-- A record leaves the overflow list for its slots; it keeps its place in the arming order. -/
def State.armFromOverflow (s : State) (r : Record) : State := s.modRec r.idx fun x => { x with place := .armed }

/-- The distance from bucket a to bucket b, in the direction down or up. -/
def bucketGap (down : Bool) (a b : Nat) : Nat :=
  if down then (a + nBuckets - b) % nBuckets else (b + nBuckets - a) % nBuckets

/-- The bucket k buckets on from b, in the direction down or up. -/
def bucketOn (down : Bool) (b : Nat) (k : Int) : Nat :=
  (((b : Int) + (if down then -k else k)) % (nBuckets : Int)).toNat

/-- Does bucket b lie in the window: the bucket of the present count, or one of the K beyond it in the direction of
travel (R58)? -/
def State.inWindow (s : State) (b : Nat) : Bool :=
  decide (bucketGap s.tb.walkDown (s.bucketOf s.count) b ≤ s.tb.walkK)

/-- May the walker promote this record from a bucket in the window (R58): its direction is that of travel, and
its value lies less than (K + 1) × 2^G counts ahead? -/
def State.promotable (s : State) (r : Record) : Bool :=
  (r.dir == 2 || (r.dir == 1) == s.tb.walkDown) &&
    decide (ahead (!s.tb.walkDown) r.cmp s.count < (s.tb.walkK + 1) * 2 ^ s.tbG)

/-- A record that is not reached enters the calendar (R57): promoted at once where its bucket lies in the window; while
dispatch is frozen the walker visits that bucket after the release (R49). -/
def State.enterCal (s : State) (r : Record) : State :=
  match r.place with
  | .bucket b =>
    if !s.inWindow b then s
    else if s.frozen then
      { s with tb := { s.tb with spans := s.tb.spans ++ [{ first := b, n := 1, down := s.tb.walkDown }] } }
    else if s.promotable r then s.armRec r (s.effUp r)
    else s
  | _ => s

/-- A fired record that repeats is queued again at the tail of its new bucket (R60), and armed at once when
that bucket lies in the window (R57). -/
def State.requeue (s : State) (r : Record) : State :=
  let up := decide (r.dir ≠ 1)
  let (v, k) := nextPeriod up r.cmp r.aux s.count
  let s1 := s.inc F.TB_SKIP_CNT.COUNT k
  let b := s.bucketOf v
  let r1 : Record := { r with cmp := v, place := .bucket b, eff := none, early := true, held := false, jump := 0,
                              fires := r.fires + 1 }
  (s1.requeueRec r.idx fun _ => r1).enterCal r1

/-- Is the fabric link of a target's die DOWN? Such a record holds and does not fire (R389). -/
def State.recCut (s : State) (r : Record) : Bool := r.tkind == 0 && (maskCh r.mask).any fun c => s.linkDown (c / 4)

/-- A record fires (R44): its action on every target, its report, and the record's next life. A target whose
power stage is not on makes the fire LATE (R22, R66); behind a DOWN link the record waits armed. -/
def State.fireRec (s : State) (r : Record) (late : Bool) (cause : Nat) : State :=
  if s.recCut r then
    s.modRec r.idx fun x => { x with place := .armed, eff := some (s.effUp r), held := true, early := false }
  else
  let delayed := r.tkind == 0 && (maskCh r.mask).any fun c => !(s.domOn (3 * c) || s.domFenced (3 * c))
  let lt := late || delayed
  let s1 := s.act r lt
  let s2 := if lt then s1.lateFire (if late then cause else 1) r.idx else s1
  let ok := r.tkind != 0 || (maskCh r.mask).all fun c => s.operandOk c r.acode r.arg0 r.arg1 r.arg2
  let rep : FireRep := { idx := r.idx, owner := r.owner, notify := r.notify, late := lt, last := !r.rep,
                         placer := r.placer, ext := s.ext, dtime := s.dtime, status := if ok then stOk else stBadArg }
  let s3 := State.flitsTo { s2 with fireReps := s2.fireReps ++ [rep] } (recChs r) 1 0
  if r.rep then s3.requeue r
  else s3.modRec r.idx fun x => { x with place := .reporting, fires := x.fires + 1 }

/-- Has the rule of a record in the calendar been met: reached now, or passed while dispatch was frozen (R49, R58)? An
event of direction either has no direction of its own before its promotion. -/
def State.calDue (s : State) (r : Record) : Bool :=
  reached (s.effUp r) r.cmp s.count || (r.held && r.dir != 2)

/-- Promote a record (R58): it takes its effective direction; when its rule already holds it fires at once with
LATE, else it is armed. While dispatch is frozen nothing is promoted (R49). -/
def State.promote (s : State) (r : Record) : State :=
  if s.calDue r then
    if r.held then s.fireRec r true 3
    else if r.jump = 1 then s.fireRec r true 2
    else if r.jump = 2 then s.fireRec r false 2
    else s.fireRec r true 0
  else if s.promotable r then s.armRec r (s.effUp r)
  else s

/-- Promote the records of the list, in order. -/
def State.promoteAll (s : State) : List Record → State
  | [] => s
  | r :: l => (s.promote r).promoteAll l

/-- The walker visits bucket b: what has been reached there fires in compare order (R560), the rest is promoted in link
order (R58). -/
def State.visit (s : State) (b : Nat) : State :=
  let l := s.bucketRecs b
  (s.promoteAll (s.inOrder s.count (l.filter s.calDue))).promoteAll (l.filter fun r => !s.calDue r)

/-! ### What an arrival of a count does -/

/-- Did the move of the count from o to n pass value v in direction up (R50)? -/
def passed (up : Bool) (v o n : Word) : Bool :=
  if up then decide ((n - o).toNat < 0x80000000 ∧ 1 ≤ (v - o).toNat ∧ (v - o).toNat ≤ (n - o).toNat)
  else decide ((o - n).toNat < 0x80000000 ∧ 1 ≤ (o - v).toNat ∧ (o - v).toNat ≤ (o - n).toNat)

/-- Fire one record that an arrival reached: `kind` is 0 for a counted step, 1 for a jump with LATE, 2 for a
silent correction. -/
def State.fireReached (s : State) (o n : Word) (kind : Nat) (r : Record) : State :=
  let up := s.effUp r
  if r.place = .far then s.fireRec r true 2
  else if r.place = .overflow then s.fireRec r true 1
  else if kind = 0 then s.fireRec r (!(r.early && n == r.cmp)) 0
  else if passed up r.cmp o n then s.fireRec r (kind == 1) 2
  else s.fireRec r true 0

/-- Has a move of the count from o to n by a jump passed the 64-bit value of a record of the far list (R61)? -/
def State.farHit (s : State) (o n : Word) (r : Record) : Bool :=
  r.place == .far && o.msb != n.msb && decide (pairNat r.cmp r.aux ≤ s.ext)

/-- Fire, in compare order, the armed and overflow records that the count n has reached, and with them the records of
the far list that a jump has passed (R50, R61, R560). -/
def State.fireAll (s : State) (o n : Word) (kind : Nat) : State :=
  let hit := s.records.filter fun r =>
    ((r.place == .armed || r.place == .overflow) && reached (s.effUp r) r.cmp n) || (kind != 0 && s.farHit o n r)
  (s.inOrder n hit).foldl (fun s r => s.fireReached o n kind r) s

/-- The direction in which a calendar record is passed: its own, or for direction either that of the move. -/
def markUp (r : Record) (fwd : Bool) : Bool := if r.dir = 2 then fwd else r.dir != 1

/-- Calendar records that a jump passed are marked, so that they fire as the walker reaches them (R50). -/
def State.markJump (s : State) (o n : Word) (kind : Nat) (fwd : Bool) : State :=
  { s with records := s.records.map fun r =>
      match r.place with
      | .bucket _ => if r.jump = 0 && passed (markUp r fwd) r.cmp o n then { r with jump := kind } else r
      | _ => r }

/-- Has the move from o to n reached v in direction up, where it was not reached before? -/
def newly (up : Bool) (v o n : Word) : Bool := reached up v n && (!reached up v o || passed up v o n)

/-- Events reached while dispatch is frozen are marked: they fire with cause HOLD after the release (R49). -/
def State.markHeld (s : State) (o n : Word) (fwd : Bool) : State :=
  { s with records := s.records.map fun r =>
      match r.place with
      | .armed => if reached (s.effUp r) r.cmp n then { r with held := true } else r
      | .overflow => if reached (s.effUp r) r.cmp n then { r with held := true } else r
      | .bucket _ => if newly (markUp r fwd) r.cmp o n then { r with held := true } else r
      | _ => r }

/-- A compare match of general timer g (R69). -/
def State.gtMatch (s : State) (g : Fin 16) (late : Bool) : State :=
  let up := s.gts[g].up
  let v := s.rd (R.GT_CMP g)
  let p := s.rd (R.GT_PERIOD g)
  let s1 := s.set (F.GT_STAT.MATCH g) 1
  let periodic := s.is (F.GT_CFG.PERIODIC g) && p != 0
  let (v1, k) := nextPeriod up v p s.count
  let s1 := if periodic then s1.inc F.TB_SKIP_CNT.COUNT k else s1
  let s2 := if late || (periodic && 0 < k) then s1.set (F.GT_STAT.LATE g) 1 else s1
  let s3 :=
    if s.is (F.GT_CFG.CMP_EVT_EN g) then s2.evtPulseOn (s.get (F.GT_CFG.CMP_EVT g)) (max 4 (8 * s.get (F.GT_CFG.PULSE g)))
    else s2
  let s4 :=
    if periodic then { (s3.wr (R.GT_CMP g) v1) with gts := s3.gts.set g { s3.gts[g] with up := up, early := true } }
    else s3.set (F.GT_STAT.ARMED g) 0
  s4.signal 0x10 g (s4.rd (R.GT_STAT g))

/-- Evaluate the compare of general timer g at an arrival: LATE as R44 has it, but for a silent correction (R48). -/
def State.gtCheck (s : State) (o n : Word) (kind : Nat) (g : Fin 16) : State :=
  if s.is (F.GT_STAT.ARMED g) && s.is (F.GT_CFG.CMP_EN g) && reached s.gts[g].up (s.rd (R.GT_CMP g)) n then
    let v := s.rd (R.GT_CMP g)
    let late :=
      if kind = 2 then !passed s.gts[g].up v o n
      else !(s.gts[g].early && n == v)
    s.gtMatch g late
  else s

/-- Evaluate a WAITC at an arrival (R251). -/
def State.waitcCheck (s : State) (n : Word) (kind : Nat) (x : Exec) : State :=
  match s.waitOf x with
  | .count v up early =>
    if reached up v n then
      (s.modCtx x fun c => { c with late := !(early && n == v && kind == 0) }).endWait x
    else s
  | _ => s

/-- The far list (R61): a record whose 64-bit value has been reached fires at once with LATE; one within 2^31
counts enters the calendar. -/
def State.farOne (s : State) (r : Record) : State :=
  let v := pairNat r.cmp r.aux
  let b := s.bucketOf r.cmp
  if v ≤ s.ext then
    if s.frozen then s.requeueRec r.idx fun x => { x with place := .bucket b, held := true, early := false }
    else s.fireRec r true 0
  else if v < s.ext + 2 ^ 31 then
    (s.requeueRec r.idx fun x => { x with place := .bucket b }).enterCal { r with place := .bucket b }
  else s

/-- Check the far list. -/
def State.farCheck (s : State) : State :=
  (s.records.filter fun r => r.place == .far).foldl State.farOne s

/-- Is an event late that the move from o to n reached (R44, R48, R50, R66)? `early`: armed before it was reached. -/
def lateAt (early up : Bool) (v o n : Word) (kind : Nat) : Bool :=
  match kind with
  | 0 => !(early && n == v)
  | 2 => !passed up v o n
  | _ => true

/-- The count of step i of a sweep. -/
def Sweep.countAt (w : Sweep) (i : Nat) : Word :=
  let d := BitVec.ofNat 32 (i * w.spacing)
  if w.down then w.start - d else w.start + d

/-- The steps of channel c's sweep that an arrival reaches: the last one is handed to the tile as an armed fire (code
0x80, ARG0 the step, ARG1 its value, ARG2 the first of the steps reached), and its window falls due (R200, R201). -/
def State.sweepStepAt (s : State) (o n : Word) (kind : Nat) (c : Fin 24) : State :=
  let w := s.chans[c].fe.sweep
  if w.next < w.n && reached (!w.down) (w.countAt w.next) n then
    let i := min (w.next + behind (!w.down) (w.countAt w.next) n / w.spacing) (w.n - 1)
    let v := s.ldWord (w.addr + 0x20 + 4 * i)
    let late := lateAt true (!w.down) (w.countAt i) o n kind
    let d := BitVec.ofNat 32 w.settle
    let due := if w.down then w.countAt i - d else w.countAt i + d
    (s.modFe c fun f => { f with sweep := { f.sweep with next := i + 1, winDue := some due, late := late } }).modCh c
      fun h => { h with fires := h.fires ++ [{ acode := 0x80, arg0 := i, arg1 := v, arg2 := BitVec.ofNat 32 w.next,
                                               late := late }] }
  else s

/-- The window of the latest step of channel c's sweep, when its count is reached: a fire of code 0x81. -/
def State.sweepWinAt (s : State) (o n : Word) (kind : Nat) (c : Fin 24) : State :=
  let w := s.chans[c].fe.sweep
  match w.winDue with
  | some v =>
    if reached (!w.down) v n then
      (s.modFe c fun f => { f with sweep := { f.sweep with winDue := none } }).modCh c fun h =>
        { h with fires := h.fires ++ [{ acode := 0x81, arg0 := w.next - 1, arg1 := 0, arg2 := 0,
                                        late := lateAt true (!w.down) v o n kind }] }
    else s
  | none => s

/-- The sweep of channel c at an arrival (R200, R201): a window that was due, the steps reached, and the window of the
last of them. While dispatch is frozen its steps wait, as armed events do, and are applied at the release as late; R49
names only slots and the walker (DESIGN CHOICE, log entry 60; the compares of the general timers go on). Behind a link
that is DOWN the sweep waits (R389). -/
def State.sweepCheck (s : State) (o n : Word) (kind : Nat) (c : Fin 24) : State :=
  if !s.is (F.MS_SWP_CTRL.RUN c) || s.is (F.MS_SWP_STAT.PAUSED c) || s.frozen || s.linkDown (c / 4) then s
  else ((s.sweepWinAt o n kind c).sweepStepAt o n kind c).sweepWinAt o n kind c

/-- The count that the tile of channel c has (R38, R119): its copy stands still while its link is DOWN (R389). -/
def State.tileCount (s : State) (c : Fin 24) : Word :=
  if s.linkDown (c / 4) then
    match s.linkCnt.find? fun x => x.1 == c.val / 4 with
    | some x => x.2
    | none => s.count
  else s.count

/-! ### The front of the walker (R58, R59) -/

/-- The front lies at `lead` buckets ahead of the present bucket. -/
def State.setLead (s : State) (l : Int) : State :=
  State.set { s with tb := { s.tb with lead := l } } F.TB_WALK.FRONT
    (bucketOn s.tb.walkDown (s.bucketOf s.count) l)

/-- TB_WALK.LAGGING: the front lies fewer than K buckets ahead, modulo the lap, in the direction of travel (R59). -/
def State.updLag (s : State) : State :=
  s.setb F.TB_WALK.LAGGING
    (decide (bucketGap s.tb.walkDown (s.bucketOf s.count) (s.get F.TB_WALK.FRONT) < s.tb.walkK))

/-- More buckets to visit. -/
def State.pushSpan (s : State) (first n : Nat) (down : Bool) : State :=
  if n = 0 then s else { s with tb := { s.tb with spans := s.tb.spans ++ [{ first := first, n := min n nBuckets, down := down }] } }

/-- The count has moved by e from o. The front stays where it is while the present bucket moves on; more than a lap
behind, every bucket is still to be visited once. A jump against the direction of travel leaves the buckets that it
skipped, visited from o on in the direction of the jump (R50), and takes the front back with the window. -/
def State.bucketMove (s : State) (o : Word) (e : Int) (jump : Bool) : State :=
  let g : Int := ((2 ^ s.tbG : Nat) : Int)
  let j := ((o.toNat : Int) + e) / g - (o.toNat : Int) / g
  let d := if s.tb.walkDown then -j else j
  let l := max (s.tb.lead - d) ((s.tb.walkK : Int) - (nBuckets : Int))
  if j = 0 then s
  else if jump && decide (d < 0) then
    (s.pushSpan (s.bucketOf o) (j.natAbs + 1) (!s.tb.walkDown)).setLead (min l (s.tb.walkK : Int))
  else { s with tb := { s.tb with lead := l } }

/-- The far list is checked where the count passes 0x0000_0000 or 0x8000_0000 (R61). -/
def State.farCross (s : State) (o n : Word) : State := if o.msb != n.msb then s.farCheck else s

/-- Everything an arrival of the count does, after the count has changed from o to n: armed fires and
overflow fires in compare order, general timers, WAITC, the far list at its crossings, and sweeps. -/
def State.arrive (s : State) (o n : Word) (kind : Nat) (fwd : Bool) : State :=
  let s1 := if kind = 0 then s else s.markJump o n kind fwd
  let s2 := if s1.frozen then s1.markHeld o n fwd else s1.fireAll o n kind
  let s3 := (List.finRange 16).foldl (fun s g => s.gtCheck o n kind g) s2
  let s4 := if s3.frozen then s3 else allExec.foldl (fun s x => s.waitcCheck n kind x) s3
  (allCh.foldl (fun s c => s.sweepCheck o n kind c) (s4.farCross o n)).updLag

/-- The epoch counter (R39): it follows the TBC through zero in the direction of the move. -/
def State.setCount (s : State) (o n : Word) (fwd : Bool) : State :=
  let e := s.rd R.TB_EXT_HI
  let e1 := if fwd && n.toNat < o.toNat then e + 1 else if !fwd && o.toNat < n.toNat then e - 1 else e
  (s.wr R.TB_EXT_LO n).wr R.TB_EXT_HI e1

/-- TICK_OUT (R542): a pulse for each counted up-step, on INTERNAL for each that makes the count a multiple of 4; none
before step 5 of the boot timeline or while dispatch is frozen. -/
def State.tickOut (s : State) (down : Bool) (n : Word) : State :=
  if down || s.frozen || s.get F.BOOT_STAT.STEP < 5 || s.boot.por || s.boot.pin ||
      (s.get F.TB_CTRL.SRC = 0 && n.toNat % 4 != 0) then s
  else { s with tb := { s.tb with ticks := s.tb.ticks + 1 } }

/-- One counted step (R31, R46). -/
def State.stepCount (s : State) (down : Bool) : State :=
  let o := s.count
  let n := if down then o - 1 else o + 1
  ((((s.setb F.TB_STAT.DIR down).setCount o n (!down)).bucketMove o (if down then -1 else 1) false).tickOut down n).arrive
    o n 0 (!down)

/-- A jump by e counts (R48, R50): `silent` for a silent correction. -/
def State.jumpBy (s : State) (e : Int) (silent : Bool) : State :=
  if e = 0 then s
  else
    let o := s.count
    let n := o + BitVec.ofInt 32 e
    ((s.setCount o n (decide (0 < e))).bucketMove o e true).arrive o n (if silent then 2 else 1) (decide (0 < e))

/-- One step of a source while a slew of e counts at 100 ppm is under way (R36, R405): with every 10,000th step one
count is added or withheld. `k`: the steps since the last one. The state, and what is left of e and k. -/
def State.slewStep (s : State) (e : Int) (k : Nat) (down : Bool) : State × Int × Nat :=
  if e = 0 then (s.stepCount down, 0, 0)
  else if k + 1 < 10000 then (s.stepCount down, e, k + 1)
  else
    (if decide (0 < e) = !down then (s.stepCount down).stepCount down else s, if 0 < e then e - 1 else e + 1, 0)

/-- One count of the mains PLL, slewed where a re-acquisition is under way (R36). -/
def State.mainsStep (s : State) : State :=
  let r := s.slewStep s.tb.slew s.tb.slewN false
  { r.1 with tb := { r.1.tb with slew := r.2.1, slewN := r.2.2 } }

/-! ### Sources and their qualification -/

/-- The QUAL bit of source n. -/
def qualFld (n : Nat) : Fld := ⟨R.TB_STAT, 18 + n, 18 + n⟩

/-- A source loses qualification; when it is the active one the TBC holds and TB_SRC_LOST is raised (R34). -/
def State.loseQual (s : State) (n : Nat) : State :=
  let s1 := s.set (qualFld n) 0
  if s.get F.TB_CTRL.SRC = n then State.assertL { s1 with tb := { s1.tb with held := true } } 332 1 n else s1

/-- A source is qualified again; an active one counts on. -/
def State.gainQual (s : State) (n : Nat) : State :=
  let s1 := s.set (qualFld n) 1
  if s.get F.TB_CTRL.SRC = n then State.deassertL { s1 with tb := { s1.tb with held := false } } 332 1 else s1

/-- The index source that timebase source n is: 0 ENC_0, 1 ENC_1, 2 TICK_IN; none for the others. -/
def idxOfSrc (n : Nat) : Option Nat := if n = 1 then some 0 else if n = 2 then some 1 else if n = 5 then some 2 else none

/-- The timebase source of an index source. -/
def srcOfIdx (i : Nat) : Nat := if i = 0 then 1 else if i = 1 then 2 else 5

/-- R35: 1 ms without over-rate. -/
def execOverrateClear (n : Fin 2) (s : State) : Out :=
  .next (
    let src := n.val + 1
    if s.tb.overrate.contains src then
      let s1 : State := { s with tb := { s.tb with overrate := s.tb.overrate.filter (· != src) } }
      if s1.tb.invalid.contains src then s1 else s1.set (qualFld src) 1
    else s)

/-- R34: loss of qualification other than by over-rate. INTERNAL is always qualified (R32). -/
def execSourceQualLost (src : Fin 6) (s : State) : Out :=
  .next (
    if src = 0 then s
    else if src = 3 then ((s.set F.MAINS_STAT.LOCK 0).set F.MAINS_STAT.HOLDOVER 0).loseQual 3
    else if src = 4 then s.loseQual 4
    else State.loseQual { s with tb := { s.tb with invalid := src :: s.tb.invalid.filter (· != src.val) } } src)

/-- R32: the differential inputs are valid again. -/
def execDifferentialInputValid (src : Fin 6) (s : State) : Out :=
  .next (
    if src = 1 ∨ src = 2 ∨ src = 5 then
      let s1 : State := { s with tb := { s.tb with invalid := s.tb.invalid.filter (· != src.val) } }
      if s1.tb.overrate.contains src then
        (if s.get F.TB_CTRL.SRC = src then State.deassertL { s1 with tb := { s1.tb with held := false } } 332 1 else s1)
      else s1.gainQual src
    else s)

/-- The phase error at a rising zero crossing: by how much the count modulo 2^18 has to move to read PHASE_OFS. -/
def State.phaseError (s : State) : Int := sext 18 (s.get F.MAINS_CFG.PHASE_OFS + 2 ^ 18 - s.tbc % 2 ^ 18)

/-- A slew of the mains count by e. -/
def State.mainsSlew (s : State) (e : Int) : State :=
  { s with tb := { s.tb with slew := e, slewN := if s.tb.slew = 0 then 0 else s.tb.slewN } }

/-- The mains re-acquisition at a crossing (R36): a phase error of at most STEP_THR × 1,024 counts is slewed; a larger
one is corrected by one jump. -/
def State.reacquire (s : State) : State :=
  let s1 : State := { s with tb := { s.tb with reacq := false } }
  if s.phaseError.natAbs ≤ s.get F.MAINS_CFG.STEP_THR * 1024 then s1.mainsSlew s.phaseError
  else (s1.mainsSlew 0).jumpBy s.phaseError false

/-- The phase of the locked PLL at a crossing (R36): a slew under way ends in the error that is left, and an error above
64 counts starts one (DEDUCED, log entry 60: R36 gives the bound, and the slew as the only smooth correction). -/
def State.trackPhase (s : State) : State :=
  if s.tb.slew ≠ 0 || 64 < s.phaseError.natAbs then s.mainsSlew s.phaseError else s

/-- R36: a crossing ends a holdover, and the count is aligned where a re-acquisition is due. -/
def execMainsZeroCrossing (freq : Nat) (s : State) : Out :=
  .next (
    let s1 := s.set F.MAINS_STAT.FREQ freq
    let s2 :=
      if s.is F.MAINS_STAT.HOLDOVER then
        let q := ((s1.set F.MAINS_STAT.HOLDOVER 0).set F.MAINS_STAT.LOCK 1).gainQual 3
        { q with tb := { q.tb with reacq := true } }
      else s1
    if s2.get F.TB_CTRL.SRC ≠ 3 then s2
    else if s2.tb.reacq then s2.reacquire
    else if s2.is F.MAINS_STAT.LOCK then s2.trackPhase
    else s2)

/-- R36: lock. A count that was held for want of the mains is aligned at the next crossing. -/
def execMainsPllLock (freq : Nat) (s : State) : Out :=
  .next (
    let s1 := (((s.set F.MAINS_STAT.LOCK 1).set F.MAINS_STAT.HOLDOVER 0).set F.MAINS_STAT.FREQ freq).gainQual 3
    if s.is F.MAINS_STAT.LOCK then s1 else { s1 with tb := { s1.tb with reacq := true } })

/-- R36: two missed crossings; the PLL goes on at the last measured frequency. LOCK reads 0 during the holdover and 1
again at the first crossing (DESIGN CHOICE, log entry 60). -/
def execMainsHoldoverEntry (s : State) : Out :=
  .next (if s.is F.MAINS_STAT.LOCK then (s.set F.MAINS_STAT.LOCK 0).set F.MAINS_STAT.HOLDOVER 1 else s)

/-- R32: 10 s of holdover. -/
def execMainsHoldoverExpiry (s : State) : Out :=
  .next (if s.is F.MAINS_STAT.HOLDOVER then s.loseQual 3 else s)

/-- Are the calendar, the far list and the overflow list empty (R53)? -/
def State.calEmpty (s : State) : Bool :=
  s.records.all fun r => match r.place with
    | .armed => true
    | .reporting => true
    | _ => false

/-- With an empty calendar the walker's front lies K buckets ahead under a new G (R59). -/
def State.rebaseWalk (s : State) : State :=
  (State.setLead { s with tb := { s.tb with spans := [] } } (s.tb.walkK : Int)).updLag

/-- The effect of a write of TB_CTRL (R33, R53): K always, in force from the next bucket step; G and SRC unless
refused. -/
def State.writeTbCtrl (s : State) (w : Word) : State :=
  let g := bitsOf w 13 10
  let src := bitsOf w 2 0
  let old := s.get F.TB_CTRL.SRC
  let s1 := s.set F.TB_CTRL.K_M1 (bitsOf w 23 14)
  let s2 :=
    if g = s.tbG then s1
    else if g ≤ 14 && s.calEmpty then (s1.set F.TB_CTRL.G g).rebaseWalk
    else s1.set F.TB_STAT.CFG_REJ 1
  if src = old then s2
  else if src ≤ 5 && s.get (qualFld src) == 1 then
    let s3 := s2.set F.TB_CTRL.SRC src
    let s4 : State := { s3 with tb := { s3.tb with
      held := false, reacq := decide (src = 3), chainAcq := decide (src = 4), slew := 0, slewN := 0 } }
    ((s4.deassertL 332 1).farCheck).updLag
  else s2.set F.TB_STAT.CFG_REJ 1

/-- R33. -/
def execTbCtrlWrite (rq : Requester) (w : Word) (s : State) : Out :=
  .next (if canWrite rq R.TB_CTRL then s.writeTbCtrl w else s)

/-! ### Index pulses and the freeze (R47 to R49) -/

/-- The error of an index (R47). -/
def indexError (idxVal c period : Word) : Int :=
  let e := (idxVal - c).toInt
  if period = 0 then e
  else
    let p : Int := (period.toNat : Int)
    let r := e % p
    sext 32 (trunc 32 (if p / 2 < r then r - p else r))

/-- The physical source of a master of the chain (R397, R399): MSRC, or INTERNAL where it names none. -/
def State.msrc (s : State) : Nat := if s.get F.CHN_CFG.MSRC = 4 then 0 else s.get F.CHN_CFG.MSRC

/-- Does the physical source feed the count stream of the chain: MSRC at the master (R399)? -/
def State.feedsChain (s : State) (src : Nat) : Bool := s.is F.CHN_STAT.MASTER && src == s.msrc

/-- May the index of this source be honoured: the source is the selected one, or feeds the chain (R47)? -/
def State.idxSource (s : State) (src : Nat) : Bool := src == s.get F.TB_CTRL.SRC || s.feedsChain src

/-- The master stamps and sends a record, and applies it itself at stamp plus L (R399). -/
def State.chainRecord (s : State) (r : StepRec) : State :=
  State.chainSend { s with chain := { s.chain with recs := s.chain.recs ++ [r] } } (.step r)

/-- The counts of the records that are not yet applied. -/
def State.chainAhead (s : State) : Int :=
  (s.chain.recs.map fun r => if r.jump then r.delta else if r.down then -1 else 1).foldl (· + ·) 0

/-- A jump by the index of index source i: at a master whose MSRC it is, it goes out as a jump record; where the source
is the selected one, the count itself jumps (R47, R399). -/
def State.idxJump (s : State) (i : Nat) (e : Int) (silent : Bool) : State :=
  let s1 := if s.feedsChain (srcOfIdx i) then
      s.chainRecord { stamp := s.ctime, jump := true, silent := silent, delta := e }
    else s
  if s.get F.TB_CTRL.SRC = srcOfIdx i then s1.jumpBy e silent else s1

/-- The count that an index is compared with: where CHAIN is counted, with the records under way. -/
def State.idxCount (s : State) : Word :=
  if s.get F.TB_CTRL.SRC = 4 then s.count + BitVec.ofInt 32 s.chainAhead else s.count

/-- Is the index of source i honoured (R47)? `down` is the direction of counting, `ab` the levels. -/
def State.honoured (s : State) (i : Nat) (a b down : Bool) : Bool :=
  let d := s.get (F.SRC_CFG.IDX_DIR i)
  s.is (F.SRC_CFG.IDX_EN i) && s.idxSource (srcOfIdx i) &&
    (d == 2 || (d == 1) == down) &&
    (i == 2 || !s.is (F.SRC_CFG.IDX_AB_EN i) || s.get (F.SRC_CFG.IDX_AB i) == 2 * b2n a + b2n b)

/-- The outcome of an honoured index (Table 02-3), and while dispatch is frozen (R49). -/
def State.indexOutcome (s : State) (i : Nat) (c : Word) (e : Int) : State :=
  let out := decide ((s.get (F.IDX_TOL.TOL i) : Int) < (e.natAbs : Int))
  if s.frozen then (if out then s.inc (F.SRC_CNT.OUTSIDE i) else s)
  else if e = 0 then s
  else if !out then (s.inc (F.SRC_CNT.SILENT i)).idxJump i e true
  else
    let s1 := s.inc (F.SRC_CNT.OUTSIDE i)
    match s.get (F.SRC_CFG.POLICY i) with
    | 0 => s1.idxJump i e false
    | 1 => (((s1.set F.TB_STAT.HOLD 1).set F.TB_STAT.HOLD_SRC (srcOfIdx i)).assertL 332 2 i)
    | _ => let (k, s2) := s1.fresh; s2.log (k % 256) [BitVec.ofNat 32 i, c, wordOf e]

/-- Is a new level of an encoder's input accepted, which has been stable for so many 2 ns samples (R35)? -/
def State.accepted (s : State) (i stable : Nat) : Bool := i == 2 || decide (s.get (F.SRC_CFG.FILT i) ≤ stable)

/-- R47, R48. The type of the log record that TRUST writes is not stated: a free value. -/
def execIndexPulse (i : Fin 3) (a b : Bool) (z : IndexEdge) (s : State) : Out :=
  .next (
    if s.accepted i z.stable && s.honoured i a b z.down then
      let c := s.idxCount
      let e := indexError (s.rd (R.IDX_VAL i)) c (s.rd (R.IDX_PERIOD i))
      (s.wr (R.IDX_ERR i) (wordOf e)).indexOutcome i c e
    else s)

/-- The fires of a release (R49): every event reached during the freeze, in compare order, with cause HOLD. -/
def State.releaseFires (s : State) : State :=
  let n := s.count
  let hit := s.records.filter fun r => match r.place with
    | .armed => r.held || reached (s.effUp r) r.cmp n
    | .overflow => r.held || reached (s.effUp r) r.cmp n
    | .bucket _ => r.held && !r.early
    | _ => false
  (s.inOrder n hit).foldl (fun s r => s.fireRec r true 3) s

/-- The walker visits, after the release, the buckets of the records that were reached during the freeze, in compare order
(R49). -/
def State.heldSpans (s : State) : State :=
  (s.inOrder s.count (s.records.filter (·.held))).foldl (fun s r => match r.place with
    | .bucket b => if s.tb.spans.any fun p => p.first == b then s else s.pushSpan b 1 s.tb.walkDown
    | _ => s) s

/-- A release of the freeze (R49), jumping first by the latest index error where asked: IDX_ERR of the source in HOLD_SRC,
though R49 names no source and another one may have been honoured later (DESIGN CHOICE, log entry 60). -/
def State.release (s : State) (snap : Bool) : State :=
  if !s.frozen then s
  else
    let e := match idxOfSrc (s.get F.TB_STAT.HOLD_SRC) with
      | some i => s.geti (F.IDX_ERR.ERR i)
      | none => 0
    let s1 := if snap then s.jumpBy e false else s
    let s3 := ((s1.set F.TB_STAT.HOLD 0).set F.TB_STAT.HOLD_SRC 0).deassertL 332 2
    let s4 := s3.releaseFires.heldSpans
    let s5 := allExec.foldl (fun s x => s.waitcCheck s.count 1 x) s4
    allCh.foldl (fun s c => s.sweepCheck s.count s.count 1 c) s5

/-- R49. -/
def execTbReleaseGo (rq : Requester) (snap : Bool) (s : State) : Out :=
  .next (if canWrite rq R.TB_RELEASE then s.release snap else s)

/-! ### The walker -/

/-- The walker turns its window at the present bucket in the new direction of travel (R46); buckets that it has not yet
reached behind that bucket are still to be visited. -/
def State.turnWalk (s : State) : State :=
  let cur := s.bucketOf s.count
  let old := s.tb.walkDown
  let s1 := if s.tb.lead < 0 then s.pushSpan (bucketOn old cur (s.tb.lead + 1)) s.tb.lead.natAbs old else s
  State.setLead { s1 with tb := { s1.tb with walkDown := !old, walkK := s.tbK } } 0

/-- The window of a bucket step: steps back since the last one have brought the buckets from the present one on into the
window again, and a change of K takes effect (R53, R59). -/
def State.settleWalk (s : State) : State :=
  let ex := s.tb.lead - (s.tb.walkK : Int)
  let s1 := if 0 < ex then s.pushSpan (s.bucketOf s.count) ex.toNat s.tb.walkDown else s
  State.setLead { s1 with tb := { s1.tb with walkK := s.tbK } } (min s.tb.lead (s.tbK : Int))

/-- The next bucket of the first span is visited. -/
def State.walkSpan (s : State) (p : Span) (l : List Span) : State :=
  let rest : List Span :=
    if p.n ≤ 1 then l else { first := bucketOn p.down p.first 1, n := p.n - 1, down := p.down } :: l
  State.visit { s with tb := { s.tb with spans := rest } } p.first

/-- R58, R59: one bucket step. A change of the direction of travel turns the window; else a bucket that a jump skipped is
visited, or the front moves on by one bucket while it lies fewer than K ahead. -/
def State.walk (s : State) : State :=
  if s.frozen then s
  else if s.dirDown != s.tb.walkDown then
    let s1 := s.turnWalk
    (s1.visit (s1.bucketOf s1.count)).updLag
  else
    let s1 := s.settleWalk
    (match s1.tb.spans with
      | p :: l => s1.walkSpan p l
      | [] =>
        if s1.tb.lead < (s1.tb.walkK : Int) then
          let s2 := s1.setLead (s1.tb.lead + 1)
          s2.visit (s2.get F.TB_WALK.FRONT)
        else s1).updLag

/-- R58. -/
def execWalkerBucketStep (s : State) : Out := .next s.walk

/-- Is ACODE allowed for TKIND (Table 09-9)? -/
def acodeOk (tkind acode : Nat) : Bool :=
  match tkind with
  | 0 => [0x01, 0x02, 0x03, 0x04, 0x05, 0x08, 0x10, 0x11, 0x12, 0x13].contains acode
  | 1 => [0x20, 0x21, 0x22, 0x23].contains acode
  | 2 => [0x40, 0x41].contains acode
  | 3 => acode == 0x30
  | _ => false

/-- A record image as a record (Table 02-5). -/
def imgRec (img : List Word) : Record :=
  let w := fun i => img.getD i 0
  { idx := 0, cmp := w 0, aux := w 1, dir := bitsOf (w 2) 31 30, ext := bitOf (w 2) 29, rep := bitOf (w 2) 28,
    notify := bitOf (w 2) 27, owner := 0, tkind := bitsOf (w 4) 31 28, mask := bitsOf (w 4) 23 0,
    acode := bitsOf (w 5) 31 24, arg0 := bitsOf (w 5) 23 0, arg1 := w 6, arg2 := w 7, place := .far }

/-- Does the record pass the checks of R55, R247 and R248? -/
def recOk (r : Record) : Bool :=
  r.dir != 3 && !(r.ext && r.dir != 0) && !(r.rep && (r.ext || r.dir == 2)) &&
    !(r.rep && (r.aux == 0 || decide (0x80000000 ≤ r.aux.toNat))) && decide (r.tkind ≤ 3) &&
    !(r.tkind == 0 && r.mask == 0) && !(r.tkind == 1 && r.mask % 65536 == 0) &&
    !(r.tkind == 1 && r.mask / 65536 != 0) && !(r.tkind == 2 && r.mask != 0) && !(r.tkind == 3 && r.mask / 64 != 0) &&
    acodeOk r.tkind r.acode && !(r.acode == 0x04 && decide ((maskCh r.mask).length ≠ 1))

/-- A free record index, searched from k on. -/
def State.freeIdxFrom (s : State) (k : Nat) : Nat → Nat
  | 0 => k % poolSize
  | f + 1 =>
    if s.records.any (fun r => r.idx == k % poolSize) then s.freeIdxFrom (k + 1) f else k % poolSize

/-- A completion word (Table 09-7). -/
def cword (status : Nat) (late : Bool := false) (detail : Nat := 0) : Word :=
  BitVec.ofNat 32 (status % 256 + b2n late * 256 + min detail (2 ^ 23 - 1) * 512)

/-- Place a record (R247, R249): its completion word and the state after. `now` for ARM. -/
def State.placeRec (s : State) (img : List Word) (owner : Nat) (placer : Option Requester) (now : Bool) : Word × State :=
  let r0 := imgRec img
  if !recOk r0 || (now && r0.ext) then (cword stBadArg, s)
  else if poolSize ≤ s.records.length then (cword stNoRes, s.set F.TB_POOL.EXH 1)
  else
    let (v, q) := s.fresh
    let i := q.freeIdxFrom v (q.records.length + 1)
    let s0 := if r0.tkind = 0 then (maskCh r0.mask).foldl State.wakeCh q else q
    let b := s0.bucketOf r0.cmp
    let r : Record := { r0 with idx := i, owner := owner, placer := placer, place := .bucket b }
    let add := fun (p : Place) => { s0 with records := s0.records ++ [{ r with place := p }] }
    if r.ext then
      if pairNat r.cmp r.aux ≤ s.ext then
        if s.frozen then
          (cword stOk true i, { s0 with records := s0.records ++ [{ r with held := true, early := false }] })
        else (cword stOk true i, (add .armed).fireRec r true 0)
      else if pairNat r.cmp r.aux < s.ext + 2 ^ 31 then (cword stOk false i, (add (.bucket b)).enterCal r)
      else (cword stOk false i, add .far)
    else
      let up := s.effUp r
      let hit := reached up r.cmp s.count
      if hit then
        if s.frozen then
          (cword stOk true i, { s0 with records := s0.records ++
            [{ r with held := true, eff := if now then some up else none, early := false,
                      place := if now then (if s.slotsFree r then .armed else .overflow) else .bucket b }] })
        else (cword stOk true i, (add .armed).fireRec r true 0)
      else if now then (cword stOk false i, (add (.bucket b)).armRec r up)
      else (cword stOk false i, (add (.bucket b)).enterCal r)

/-- Remove a record (R67, R250): its completion word and the state after. `mss`: the issuer is the MSS. A fire
whose report is in flight stands, and the record leaves at that report. -/
def State.disarmRec (s : State) (i owner : Nat) (mss : Bool) : Word × State :=
  match s.records.find? (fun r => r.idx == i) with
  | none => (cword stBadArg, s)
  | some r =>
    if r.owner ≠ owner && !mss then (cword stDenied, s)
    else
      let stood := s.fireReps.any fun f => f.idx == i
      (cword stOk false (b2n (r.fires == 0) + 2 * b2n stood),
        if r.place = .reporting then s else { s with records := s.records.filter fun x => x.idx != i })

/-- The service thread that executes a command, where one does (R296). -/
def State.svcOf (s : State) (m : Cmd) : Option Nat :=
  match s.cmds.find? (fun c => c.rq == m.rq && c.tag == m.tag) with
  | some c => match c.by' with
      | some n => if n < 64 then some n else none
      | none => (s.svcFields.find? (·.1)).map (·.2)
  | none => (s.svcFields.find? (·.1)).map (·.2)

/-- The owner that a record takes from its issuer (R247, R296): none for the MSS and on the slow path (R313). -/
def State.ownerOf (s : State) : Issuer → Option (Nat × Option Requester)
  | .thread t _ => some (t.val, none)
  | .mss _ _ => none
  | .ucs m => if s.slow then none else (s.svcOf m).map fun n => (n, some m.rq)

/-- Execute one hub operation: the completion word, and the state after. -/
def State.hubOp (s : State) (o : Op) : Word × State :=
  match o.kind with
  | .sched img => match s.ownerOf o.who with
      | some (n, p) => s.placeRec img n p false
      | none => (cword stNoRes, s)
  | .arm img => match s.ownerOf o.who with
      | some (n, p) => s.placeRec img n p true
      | none => (cword stNoRes, s)
  | .disarm i => match o.who with
      | .thread t _ => s.disarmRec i t false
      | _ => s.disarmRec i 0 true
  | _ => (cword stBadArg, s)

/-- Set the completion word of the operation of an issuer. -/
def State.setWord (s : State) (who : Issuer) (w : Word) (body : List Word := []) : State :=
  let s := match s.ops.find? fun o => o.who == who && o.word.isNone with
    | some o => s.opFlit o.unit 1
    | none => s
  { s with ops := s.ops.map fun o => if o.who == who && o.word.isNone then { o with word := some w, body := body } else o }

/-- Execute the hub operations of the list, in order of arrival. -/
def State.hubOps (s : State) : List Op → State
  | [] => s
  | o :: l => let r := s.hubOp o; (r.2.setWord o.who r.1).hubOps l

/-- R57. -/
def execWalkerSchedDisarm (s : State) : Out :=
  .next (s.hubOps (s.ops.filter fun o => o.unit == .hub && o.word.isNone))

/-- R65: the first waiting record in compare order whose slots are all free is armed. -/
def execOverflowArm (s : State) : Out :=
  .next (
    match (s.inOrder s.count (s.records.filter fun r => r.place == .overflow)).find? fun r => s.slotsFree r with
    | some r => s.armFromOverflow r
    | none => s)

/-- R56: the oldest fire report reaches the hub. No FIRE notice is sent on the slow path (R313). -/
def execFireReport (s : State) : Out :=
  .next (
    match s.fireReps with
    | [] => s
    | f :: l =>
      let s1 : State := { s with
        fireReps := l
        records := if f.last then s.records.filter (fun r => !(r.idx == f.idx && r.place == .reporting)) else s.records }
      if f.notify then
        let pay : Word := BitVec.ofNat 32 (f.idx + b2n f.late * 2 ^ 31)
        let s2 := match thr? f.owner with
          | some t => s1.signalFire t pay
          | none => s1
        match f.placer with
        | some rq => if s2.slow then s2 else s2.noticeTo rq 1 0x0580 [pay]
        | none => s2
      else s1)

/-! ### General timers -/

/-- A capture of general timer n (R68), with the device time of the same instant (R40). -/
def State.capture (s : State) (n : Fin 16) : State :=
  let s1 := if s.is (F.GT_STAT.VALID n) then s.set (F.GT_STAT.OVERRUN n) 1 else s
  let s2 := ((s1.wr (R.GT_CAP_LO n) (s.rd R.TB_EXT_LO)).wr (R.GT_CAP_HI n) (s.rd R.TB_EXT_HI)).set (F.GT_STAT.VALID n) 1
  { s2 with gts := s2.gts.set n { s2.gts[n] with dtime := s.dtime } }

/-- R68: an edge on the selected source, where GT_CFG.EDGE admits it. Source 31 is none and 21 to 30 are
reserved; 20 is the software capture, which is a write of SWCAP. -/
def execGtCapture (n : Fin 16) (falling : Bool) (s : State) : Out :=
  .next (
    let e := s.get (F.GT_CFG.EDGE n)
    if s.get (F.GT_CFG.CAP_SRC n) < 20 && (e == 2 || (e == 1) == falling) then s.capture n else s)

/-- R68: the edge of a software capture, when the selected source is 20. -/
def execGtSwcap (rq : Requester) (n : Fin 16) (s : State) : Out :=
  .next (if canWrite rq (R.GT_STAT n) && s.get (F.GT_CFG.CAP_SRC n) == 20 then s.capture n else s)

/-- The read of a capture (R68, R522): both halves into the requester's shadow; VALID cleared. -/
def State.readCap (s : State) (rq : Requester) (n : Fin 16) : State :=
  (s.modReq rq fun x => { x with rsh := some (R.GT_CAP_LO n, s.rd (R.GT_CAP_HI n)) }).set (F.GT_STAT.VALID n) 0

/-- R68. -/
def execGtCapRead (rq : Requester) (n : Fin 16) (s : State) : Out := .next (s.readCap rq n)

/-- A write of GT_CMP arms the compare (R42, R69); a value already reached matches at once. -/
def State.writeGtCmp (s : State) (n : Fin 16) (v : Word) : State :=
  let d := s.get (F.GT_CFG.CMP_DIR n)
  let up := if d = 0 then true else if d = 1 then false else !s.dirDown
  let hit := reached up v s.count
  let s1 : State := { ((s.wr (R.GT_CMP n) v).set (F.GT_STAT.ARMED n) 1) with gts := s.gts.set n { s.gts[n] with up := up, early := !hit } }
  if hit && s.is (F.GT_CFG.CMP_EN n) then s1.gtMatch n true else s1

/-- R69. -/
def execGtCmpWrite (rq : Requester) (n : Fin 16) (v : Word) (s : State) : Out :=
  .next (if canWrite rq (R.GT_CMP n) then s.writeGtCmp n v else s)

end Sys2Proof.Machine
end

