-- ==== Sys2Proof/Machine/Modes.lean ====
section
/-!
DEFINITION. Mode requests and their resolution (chapter 08), and the formation of gangs (R96, R211).
-/

namespace Sys2Proof.Machine

/-- What a failed check sets beside the refusal (R118, R134). -/
def State.lawErr (s : State) (c : Fin 24) (law : Nat) : State :=
  if law = 4 then (s.set (F.BM_LATCH.TBL_ERR c) 1).set (F.BM_STAT.CFG_REJ c) 1
  else if law = 5 then s.set (F.RG_LATCH.PROF_ERR c) 1
  else s

/-! ### Resolution (R209, R210, Table 08-2) -/

/-- One row of Table 08-2: where the condition holds the mode changes, and the reason bit is set when a value
changed. -/
def modeRow (p : Mode × Nat) (bit : Nat) (cond : Bool) (f : Mode → Mode) : Mode × Nat :=
  if cond && f p.1 != p.1 then (f p.1, p.2 ||| 2 ^ bit) else p

/-- A reason bit that stands whether or not a value changed. -/
def modeStand (p : Mode × Nat) (bit : Nat) (cond : Bool) : Mode × Nat :=
  if cond then (p.1, p.2 ||| 2 ^ bit) else p

/-- Role OFF; role OFF with path OPEN; path OPEN. -/
def mOff (m : Mode) : Mode := { m with role := 0 }
def mOffOpen (m : Mode) : Mode := { m with role := 0, path := 2 }
def mOpen (m : Mode) : Mode := { m with path := 2 }

/-- Is an orderly or hard stop of the channel's sector in force (R466, R472, R476, R480)? -/
def State.thermStop (s : State) (c : Fin 24) : Bool :=
  decide (3 ≤ s.get (F.THM_STAT.LEVEL (c / 4))) || decide (3 ≤ s.get (F.THM_STAT.LEVEL 6)) || (s.ch c).stopF

/-- The causes of bits 0 to 3. -/
def State.cause (s : State) (c : Fin 24) (bit : Nat) : Bool :=
  match bit with
  | 0 => (s.ch c).fenced
  | 1 => (s.ch c).trip != 0
  | 2 => s.domHeldOff (3 * c)
  | _ => s.thermStop c

/-- The rows of bits 0 to 3: the mode after them, and the bits that stand (R210). -/
def State.safety (s : State) (c : Fin 24) (m : Mode) : Mode × Nat :=
  let h := s.ch c
  let r := fun (p : Mode × Nat) (bit : Nat) (f : Mode → Mode) =>
    if s.cause c bit then modeStand (modeRow p bit true f) bit (h.stand.testBit bit) else p
  r (r (r (r (m, 0) 0 mOffOpen) 1 mOffOpen) 2 mOffOpen) 3 mOff

/-- The leader of the gang channel c belongs to. -/
def State.gangLeader (s : State) (c : Fin 24) : Nat := s.get (F.PS_GANG.LEADER c)

/-- The members of the group of size code n led by c. -/
def gangGroup (c : Fin 24) (n : Nat) : List (Fin 24) :=
  allCh.filter fun f => decide (c.val ≤ f.val ∧ f.val < c.val + 2 ^ n)

/-- Does a group of size code n led by c satisfy Table 03-6 and R211's row? -/
def State.gangOk (s : State) (c : Fin 24) (n : Nat) : Bool :=
  c.val % 2 ^ n == 0 && decide (c.val + 2 ^ n ≤ 24) && (gangGroup c n).all fun f =>
    (s.get (F.PS_GANG.ROLE f) == 0 || s.gangLeader f == c.val && s.get (F.PS_GANG.ROLE c) == 1) &&
      !(s.ch f).fenced && !s.domHeldOff (3 * f)

/-- Does row 7 hold: the last gang request named a group that cannot be formed (Table 08-2, R210)? -/
def State.gangBad (s : State) (c : Fin 24) : Bool := (s.ch c).gangWant != 0 && !s.gangOk c (s.ch c).gangWant

/-- Step 2: gangs. `off`: step 1 resolved the role OFF, which no later row undoes (R210; DEDUCED, log entry 13). -/
def State.gangRows (s : State) (c : Fin 24) (off : Bool) (p : Mode × Nat) : Mode × Nat :=
  let h := s.ch c
  let fol := s.get (F.PS_GANG.ROLE c) == 2
  let lead := s.get (F.PS_GANG.ROLE c) == 1
  let lrole := bitsOf (s.rd (R.MD_RES (s.gangLeader c))) 1 0
  let p := modeStand p 7 (s.gangBad c)
  let p := modeRow p 8 fol fun m => { m with role := if off then 0 else lrole, law := 1, path := 2, stage := 0, pd := 0 }
  let p := modeRow p 25 (fol && p.1.irange != 7) fun m => { m with irange := 7 }
  let p := modeRow p 13 (fol && p.1.pd != 0) fun m => { m with pd := 0 }
  let p := modeRow p 9 (lead && p.1.stage != 0) fun m => { m with stage := 0 }
  let p := modeRow p 10 (lead && p.1.path == 3) mOpen
  modeStand (modeRow p 11 h.gangLeft mOff) 11 h.gangLeft

/-- Step 3: PD role. A port whose PHY is held OFF or fenced has PD role none (R12, R25). `off`: the role is held OFF (R210; DEDUCED, log entry 13). -/
def State.pdRows (s : State) (c : Fin 24) (off : Bool) (p : Mode × Nat) : Mode × Nat :=
  let at' := if c.val < 8 then s.get (F.PD_STAT.ATTACH c) else 0
  let p := modeRow p 12 (decide (8 ≤ c.val) && p.1.pd != 0) fun m => { m with pd := 0 }
  let p := if c.val < 8 && (s.domHeldOff (72 + c) || s.domFenced (72 + c)) then ({ p.1 with pd := 0 }, p.2) else p
  let on := p.1.pd != 0
  let p := modeRow p 14 (on && at' != 1 && at' != 2) mOffOpen
  let p := modeRow p 15 (on && at' == 1) fun m => { m with role := if off then 0 else 1, path := 2, law := 0 }
  modeRow p 15 (on && at' == 2) fun m =>
    { m with role := if off then 0 else 2, path := 2, law := if m.law == 4 || m.law == 6 then 1 else m.law }

/-- Steps 4 to 6: path, role, law. -/
def State.lawRows (s : State) (c : Fin 24) (p : Mode × Nat) : Mode × Nat :=
  let h := s.ch c
  let p := modeRow p 16 (h.batLow && p.1.path == 3) mOpen
  let p := modeRow p 26 (h.abandon && p.1.path == 1) mOpen
  let p := modeRow p 17 (p.1.path == 3 && decide (2 ≤ p.1.role)) fun m => { m with role := 1 }
  let p := modeRow p 18 (p.1.law == 6 && decide (2 ≤ p.1.path)) fun m => { m with law := if m.role == 2 then 1 else 0 }
  let p := modeRow p 19 (p.1.law == 6 && p.1.role == 2) fun m => { m with law := 1 }
  modeStand p 20 (p.1.law == 3 && p.1.role == 1)

/-- The nearest current range of a stage's set (Table 07-3): SWITCH 0 to 2, STILL 1 to 5. -/
def nearestRange (still : Bool) (r : Nat) : Nat := if still then max 1 (min 5 r) else min 2 r

/-- Is the stage active now STILL? A handover counts as the stage it leaves until it completes (R215). -/
def State.stillNow (s : State) (c : Fin 24) : Bool :=
  s.get (F.MS_STAGE.ACT c) == 1 || s.get (F.MS_STAGE.ACT c) == 3

/-- Steps 7 and 8: stage and ranges. -/
def State.rangeRows (s : State) (c : Fin 24) (p : Mode × Nat) : Mode × Nat :=
  let snk := decide (c.val < 8) && (p.1.pd == 2 || (p.1.pd == 3 && s.get (F.PD_STAT.ATTACH c) == 2))
  let p := modeRow p 21 (p.1.stage != 0 && p.1.path != 2) fun m => { m with stage := 0 }
  let p := modeRow p 22 (p.1.stage != 0 && snk) fun m => { m with stage := 0 }
  let still := p.1.role != 0 && (p.1.stage == 1 || (p.1.stage == 2 && s.stillNow c))
  let p := modeRow p 23 (decide (p.1.irange ≤ 5)) fun m => { m with irange := nearestRange still m.irange }
  modeRow p 24 (p.1.vrange == 1 && decide (600000 < s.get (F.RG_VLIM_HI.VALUE c))) fun m => { m with vrange := 0 }

/-- The whole resolution of channel c from its requested word and the live state. -/
def State.resolveOf (s : State) (c : Fin 24) : Mode × Nat × Nat :=
  let h := s.ch c
  let p0 := s.safety c (s.reqMode c)
  let stand := p0.2
  let p := p0
  let p := match h.react with
    | some opn => modeStand (modeRow p 4 true (if opn then mOffOpen else mOff)) 4 true
    | none => p
  let p := modeRow p 5 (s.is (F.PS_LATCH.BSW_TRIP c) && decide (p.1.path ≤ 1)) mOpen
  let held := h.heldOff && !((List.range 4).any fun b => s.cause c b)
  let p := modeStand (modeRow p 6 held mOff) 6 held
  let off := held || h.react.isSome || (List.range 4).any fun b => s.cause c b
  let q := s.rangeRows c (s.lawRows c (s.pdRows c (off || h.gangLeft) (s.gangRows c off p)))
  (q.1, q.2, stand)

/-- The resolution record (Table 08-3). -/
def State.modeRecord (s : State) (c : Fin 24) : List Word :=
  [s.rd (R.MD_REQ c), s.rd (R.MD_RES c), s.rd (R.MD_WHY c),
   BitVec.ofNat 32 (s.get (F.MD_STAT.SEQ c) * 65536 + c)]

/-- Resolve channel c (R209, R215); `rer` for a re-resolution without a request. A role other than OFF powers the channel
up, and a port that takes a PD role its PHY (R21). -/
def State.resolve1 (s : State) (rer : Bool) (c : Fin 24) : State :=
  let (m, why, stand) := s.resolveOf c
  let s1 := s.modCh c fun h => { h with stand := stand, heldOff := h.heldOff || stand != 0 }
  let w := modeWord m
  if w = s.rd (R.MD_RES c) && why = s.get (F.MD_WHY.WHY c) then s1
  else
    let s2 := (((((s1.wr (R.MD_RES c) w).set (F.MD_WHY.WHY c) why).incWrap (F.MD_STAT.SEQ c)).set
      (F.PS_STAT.PATH c) m.path).set (F.RG_STAT.LAW c) m.law)
    let s3 := if rer then (s2.set (F.MD_STAT.RERES c) 1).notice 0 0x0180 (s2.modeRecord c) else s2
    let s4 := if c.val < 8 && m.pd != 0 then s3.startDom (72 + c) else s3
    (if m.role = 0 then s4 else s4.wakeCh c).signal 0x01 c w

/-- The followers of channel c, ascending, while it leads a gang. -/
def State.followers (s : State) (c : Fin 24) : List (Fin 24) :=
  if s.get (F.PS_GANG.ROLE c) = 1 then
    allCh.filter fun f => s.get (F.PS_GANG.ROLE f) == 2 && s.gangLeader f == c.val
  else []

/-- Resolve channel c; the followers of a leader follow it. -/
def State.resolveCh (s : State) (rer : Bool) (c : Fin 24) : State :=
  let s1 := s.resolve1 rer c
  (s1.followers c).foldl (fun s f => s.resolve1 true f) s1

/-- A re-resolution without a request (R215). -/
def State.reresolve (s : State) (c : Fin 24) : State := s.resolveCh true c

/-- The status of a resolved request (R214): OK, or RESOLVED. -/
def State.resStatus (s : State) (c : Fin 24) : Nat :=
  if s.rd (R.MD_RES c) = s.rd (R.MD_REQ c) && s.get (F.MD_WHY.WHY c) = 0 then stOk else stResolved

/-! ### Requests (R207, R208) -/

/-- The requested word with the named fields of m. -/
def modeMerge (axes : Nat) (q m : Mode) : Mode :=
  { q with
    role := if axes.testBit 0 then m.role else q.role
    law := if axes.testBit 1 then m.law else q.law
    path := if axes.testBit 2 then m.path else q.path
    stage := if axes.testBit 3 then m.stage else q.stage
    irange := if axes.testBit 4 then m.irange else q.irange
    vrange := if axes.testBit 5 then m.vrange else q.vrange
    pd := if axes.testBit 6 then m.pd else q.pd }

/-- V_BAT of the latest sample in nV. -/
def State.vbat (s : State) (c : Fin 24) : Int := i64 (s.rd64 (R.MS_VBAT_LO c) (R.MS_VBAT_HI c))

/-- Is V_BAT below PS_BATFED.UV (R81)? -/
def State.batUnder (s : State) (c : Fin 24) : Bool :=
  decide (s.vbat c < ((s.get (F.PS_BATFED.UV c) * 10000000 : Nat) : Int))

/-- The local sense of a channel ends (R72). -/
def State.senseEnd (s : State) (c : Fin 24) : State := (s.set (F.PS_STAT.LOCAL c) 0).deassertL (12 * c + 4) 1

/-- A mode request (R207, R208, R214): its status, and the state after. One that asks role OFF of a channel in OFF ends
its local sense (R72; DEDUCED, log entry 61). -/
def State.modeReq (s : State) (c : Fin 24) (axes : Nat) (w : Word) : Nat × State :=
  let m := modeOf w
  let special := axes.testBit 1 && (m.law == 4 || m.law == 5 || m.law == 6) && m.law != (s.resMode c).law
  if modeBad axes m then (stBadArg, s)
  else if special && !s.lawOk c m.law then (stBadArg, s.lawErr c m.law)
  else if axes % 128 = 0 then (stOk, s)
  else
    let s1 := s.wakeCh c
    let s2 := s1.wr (R.MD_REQ c) (modeWord (modeMerge axes (s.reqMode c) m))
    let causes := (List.range 4).any fun b => s.cause c b
    let s3 := if axes.testBit 0 then
        s2.modCh c fun h => { h with heldOff := h.heldOff && causes, react := none, gangLeft := false }
      else s2
    let s4 := if axes.testBit 2 then
        s3.modCh c fun h => { h with abandon := false, batLow := m.path == 3 && s.batUnder c }
      else s3
    let s5 := s4.resolveCh false c
    let s6 := if axes.testBit 0 && m.role == 0 && (s5.curMode c).role == 0 then s5.senseEnd c else s5
    (s6.resStatus c, s6)

/-- A mode request made by a register write: a refusal sets MD_STAT.CFG_REJ (R208). -/
def State.mdReqWrite (s : State) (c : Fin 24) (w : Word) : State :=
  let r := s.modeReq c 0x7F w
  if r.1 = stBadArg then r.2.set (F.MD_STAT.CFG_REJ c) 1 else r.2

/-- A write of MS_RANGE (R207): its fields that are not reserved are one request. -/
def State.msRangeWrite (s : State) (c : Fin 24) (w : Word) : State :=
  let i := bitsOf w 10 8
  let v := bitsOf w 5 4
  let axes := (if i = 6 then 0 else 0x10) + (if v = 2 then 0 else 0x20)
  let s1 := if i = 6 || v = 2 then s.set (F.MS_STAT.CFG_REJ c) 1 else s
  (s1.modeReq c axes (BitVec.ofNat 32 (v * 2 ^ 20 + i * 2 ^ 16))).2

/-- A write of MS_STAGE (R207). -/
def State.msStageWrite (s : State) (c : Fin 24) (w : Word) : State :=
  let q := bitsOf w 1 0
  if q = 3 then s.set (F.MS_STAT.CFG_REJ c) 1 else (s.modeReq c 0x08 (BitVec.ofNat 32 (q * 2 ^ 12))).2

/-! ### Gangs (R96, R98, R211) -/

/-- Set the gang registers of a member and its views in the requested word. -/
def State.setGang (s : State) (f : Fin 24) (role size leader members : Nat) : State :=
  ((((((s.set (F.PS_GANG.ROLE f) role).set (F.PS_GANG.SIZE f) size).set (F.PS_GANG.LEADER f) leader).set
    (F.PS_GANG.MEMBERS f) members).set (F.MD_REQ.GSIZE f) size).set (F.MD_REQ.GROLE f) role).set
    (F.MD_GANG.SIZE f) (if role = 1 then size else 0)

/-- The legs stop switching: no limiter and no limit acts (R76, R105), and their next start is one from idle (R87). -/
def State.legsStop (s : State) (c : Fin 24) : State :=
  ((((s.set (F.PS_STAT.LEG_ACTIVE c) 0).set (F.PS_STAT.OPREG c) 0).set (F.PS_STAT.CLAMP c) 0).set
    (F.RG_STAT.LIMIT c) 0).modCh c fun h => { h with regions := [0, 0, 0, 0], phase := 0, passDem := 0 }

/-- A channel leaves its gang (R211): its legs stop, its input pairs open and its battery switch is OFF, with
no discharge; a path transition of its own ends. -/
def State.leaveGang (s : State) (f : Fin 24) : State :=
  (((((s.setGang f 0 0 0 0).legsStop f).set (F.PS_STAT.INPUT f) 0).set (F.PS_STAT.BSW f) 0).set (F.PS_STAT.TRANS f) 0).modCh f
    fun h => { h with
      gangLeft := true, share := none, disch := false, dest := none, tstep := .takeover, tn := 0, bswMax := 0,
      supp := false, pathF := 2, diode := false }

/-- Form the gang of size code n that c leads: every member powers up and takes its part (R21, R211); the legs of the
gang are interleaved as one set from the leader's phase on (R97). -/
def State.formGang (s : State) (c : Fin 24) (n : Nat) : State :=
  (gangGroup c n).foldl (fun s f => ((s.wakeCh f).setGang f (if f = c then 1 else 2) n c (2 ^ 2 ^ n - 1)).modCh f
    fun h => { h with period := (s.ch c).period, phase := (s.ch c).phase }) s

/-- A gang request that row 7 turned away takes effect, without a further request, when its condition has ended (R210). -/
def State.regroupCh (s : State) (c : Fin 24) : State :=
  let n := (s.ch c).gangWant
  if n != 0 && s.gangOk c n then
    ((s.modCh c fun h => { h with gangWant := 0 }).formGang c n).reresolve c
  else s

/-- Every gang request that row 7 turned away is tested again (R215). -/
def State.regroup (s : State) : State := allCh.foldl State.regroupCh s

/-- Dissolve the gang c leads: every follower leaves; with `fault`, CH_c_GANG is raised on each (R98). -/
def State.dissolve (s : State) (c : Fin 24) (fault : Bool) : State :=
  let fs := s.followers c
  let s1 := fs.foldl (fun s f =>
    let q := s.leaveGang f
    if fault then q.raise (12 * f + 6) 1 else q) s
  let s2 := s1.setGang c 0 0 0 0
  (fs.foldl State.reresolve s2).regroup

/-- A write of MD_GANG (R211, R243): its status, and the state after. A request of another size by a leader makes every
follower leave before the new group forms. -/
def State.gangReq (s : State) (c : Fin 24) (n : Nat) : Nat × State :=
  let s0 := (s.wakeCh c).modCh c fun h => { h with gangWant := 0 }
  let lead := s0.get (F.PS_GANG.ROLE c) == 1
  if n = 0 then
    let s2 := (if lead then s0.dissolve c false else s0).resolveCh false c
    (s2.resStatus c, s2)
  else if lead && s0.get (F.PS_GANG.SIZE c) == n then
    let s2 := s0.resolveCh false c
    (s2.resStatus c, s2)
  else if s0.gangOk c n then
    let out := s0.followers c
    let s2 := (out.foldl State.leaveGang s0).formGang c n
    let s3 := ((out.foldl State.reresolve s2).resolveCh false c).regroup
    (s3.resStatus c, s3)
  else
    let s1 := (s0.modCh c fun h => { h with gangWant := n }).resolveCh false c
    (s1.resStatus c, s1)

/-- A member drops out of its gang's active members (R98, R470): MEMBERS is updated on every member; a fenced
leader dissolves the gang. -/
def State.dropMember (s : State) (f : Fin 24) : State :=
  match s.get (F.PS_GANG.ROLE f) with
  | 1 => s.dissolve f true
  | 2 =>
    let l := s.gangLeader f
    let bit := f.val - l
    (allCh.filter fun (x : Fin 24) => s.get (F.PS_GANG.ROLE x) != 0 && s.gangLeader x == l).foldl
      (fun (s : State) (x : Fin 24) => s.set ⟨R.PS_GANG x, bit, bit⟩ 0) s
  | _ => s

/-- The effect of reading PS_LATCH (R80, R210, R448): it is cleared, the read is noted for a later clear of a
trip, CH_c_BSW ends, and the path is resolved again. -/
def State.readPsLatch (s : State) (c : Fin 24) : State :=
  let s1 := (s.rclClear (R.PS_LATCH c)).modCh c fun h => { h with latchRd := true }
  ((s1.deassertL (12 * c + 1) 1).reresolve c)

/-! ### The commands -/

/-- R80, R210. -/
def execPsLatchRead (_ : Requester) (c : Fin 24) (s : State) : Out := .next (s.readPsLatch c)

end Sys2Proof.Machine
end

