-- ==== Sys2Proof/Machine/PowerStage.lean ====
section
/-!
DEFINITION. The power stage of a channel (chapter 03): legs and ratings, switch states per path, path
transitions, trips, fences, the battery switch and bursts.
-/

namespace Sys2Proof.Machine

/-! ### Legs and ratings -/

/-- Is leg k of channel c healthy (R74, R94)? -/
def State.legOk (s : State) (c : Fin 24) (k : Nat) : Bool := !(s.get (F.PS_STAT.LEG_FENCED c)).testBit k

/-- The healthy legs of channel c. -/
def State.legsOk (s : State) (c : Fin 24) : List Nat := (List.range 4).filter (s.legOk c)

/-- The legs that switch when the legs run: healthy, not shed, and not held OFF by a test of their gate link (R507). -/
def State.legsRun (s : State) (c : Fin 24) : List Nat :=
  (s.legsOk c).filter fun k => !(s.get (F.PS_STAT.LEG_SHED c)).testBit k && !s.ltRuns 3 (legLink c k)

/-- A mask of legs. -/
def legMask (l : List Nat) : Nat := l.foldl (fun m k => m ||| 2 ^ k) 0

/-- Table 03-2: continuous and peak current in 100 mA, continuous and burst power in 5 W. -/
def ratingOf (n : Nat) : Nat × Nat × Nat × Nat :=
  if 4 ≤ n then (150, 200, 80, 120) else if n = 3 then (150, 150, 80, 120) else if n = 2 then (100, 100, 80, 80)
  else (0, 0, 0, 0)

/-- PS_RATING from the healthy legs (R74). -/
def State.updRating (s : State) (c : Fin 24) : State :=
  let r := ratingOf (s.legsOk c).length
  (((s.set (F.PS_RATING.I_CONT c) r.1).set (F.PS_RATING.I_PEAK c) r.2.1).set (F.PS_RATING.P_CONT c) r.2.2.1).set
    (F.PS_RATING.P_BURST c) r.2.2.2

/-! ### Switch states (R77, Table 03-3) -/

/-- The battery switch and input pairs of the path the switches are in, under the role and law in force.
Battery switch: 0 OFF, 1 LINEAR, 2 ON, 3 DIODE; input: 0 none, 1 BUS, 2 BAT. -/
def State.switches (s : State) (c : Fin 24) : Nat × Nat :=
  let h := s.ch c
  let m := s.curMode c
  if h.dead || h.gangLeft || !s.domOn (3 * c) then (0, 0)
  else if s.get (F.PS_GANG.ROLE c) = 2 then (0, 1)
  else match h.pathF with
    | 0 => (if m.role != 0 && m.law == 6 then (if h.supp then 2 else 1) else 3, 1)
    | 1 => (2, 1)
    | 2 => (0, 1)
    | _ => (0, if m.role == 0 && !h.disch then 0 else 2)

/-- Drive the battery switch; one under test is held OFF (R507). -/
def State.bswTo (s : State) (c : Fin 24) (x : Nat) : State :=
  s.set (F.PS_STAT.BSW c) (if s.ltRuns 3 (bswLink c) then 0 else x)

/-- Put the switches into the states of Table 03-3, while no transition runs. -/
def State.settle (s : State) (c : Fin 24) : State :=
  if s.is (F.PS_STAT.TRANS c) then s
  else
    let x := s.switches c
    (s.bswTo c x.1).set (F.PS_STAT.INPUT c) x.2

/-- A handover in progress is aborted; the stage is SWITCH (R191). -/
def State.abortHandover (s : State) (c : Fin 24) : State := s.set (F.MS_STAGE.ACT c) 0

/-- A path transition or handover in progress is aborted (R84): held path requests wait for the role to leave
OFF again. -/
def State.abortPath (s : State) (c : Fin 24) : State :=
  ((s.set (F.PS_STAT.TRANS c) 0).abortHandover c).modCh c fun h =>
    { h with dest := none, tstep := .takeover, tn := 0, bswMax := 0, supp := false }

/-- Every switch of the channel opens (R84, R92, R471). -/
def State.openAll (s : State) (c : Fin 24) : State :=
  ((((s.abortPath c).legsStop c).set (F.PS_STAT.BSW c) 0).set (F.PS_STAT.INPUT c) 0).modCh c
    fun h => { h with dead := true, disch := false, pathF := 2, diode := false }

/-! ### Trips and fences -/

/-- A trip (R92): every switch opens, the LINE switch with it (R353), the role resolves to OFF, and the source
asserts until CH_CLEAR. `code` is 1 TRIP, 2 OVP. -/
def State.tripCh (s : State) (c : Fin 24) (code : Nat) : State :=
  let latch := if code = 1 then F.PS_LATCH.HWTRIP c else F.PS_LATCH.OVP c
  let s1 := ((s.openAll c).lineChTrip c).set latch 1
  let s2 := s1.modCh c fun h => { h with trip := h.trip ||| code, latchRd := false }
  (s2.assertL (12 * c) code 0 (s2.rd (R.PS_LATCH c))).reresolve c

/-- A channel fence (R74, R93, R128, R184): as a trip at the switches, and condition CH_FENCED. -/
def State.fenceCh (s : State) (c : Fin 24) : State :=
  if (s.ch c).fenced then s
  else
    let s1 := ((s.openAll c).lineChTrip c).modCh c fun h => { h with fenced := true }
    ((s1.assertL (12 * c + 3) 3).dropMember c).reresolve c

/-- A leg fence (R93, Table 03-5): its switches open, its load moves to the others, PS_RATING follows, and the
source asserts. Fewer than two healthy legs fence the channel. -/
def State.fenceLeg (s : State) (c : Fin 24) (k : Nat) : State :=
  if 4 ≤ k || !s.legOk c k then s
  else
    let bit := fun (hi : Nat) => (⟨R.PS_STAT c, hi + k, hi + k⟩ : Fld)
    let s1 := (((s.set (bit 8) 1).set (bit 12) 0).set (bit 4) 0).set ⟨R.PS_LATCH c, k, k⟩ 1
    let s2 := (s1.modCh c fun h => { h with
      carry := h.carry.set k (0, 0), cbc := h.cbc.set k 0, regions := h.regions.set k 0 }).updRating c
    let s3 := s2.assertL (12 * c + 2) 1 k (s2.rd (R.PS_LATCH c))
    if (s3.legsOk c).length < 2 then s3.fenceCh c else s3

/-- R92. -/
def execHwTrip (c : Fin 24) (s : State) : Out := .next (s.tripCh c 1)

/-- R92. -/
def execOvpTrip (c : Fin 24) (s : State) : Out := .next (s.tripCh c 2)

/-- R93. -/
def execLegFence (c : Fin 24) (k : Fin 4) (s : State) : Out := .next (s.fenceLeg c k)

/-- The working engines: 0 for A, 1 for B. -/
def State.enginesOk (s : State) (c : Fin 24) : List Nat :=
  (if s.get (F.RG_ENG.ENG_A c) = 0 then [0] else []) ++ (if s.get (F.RG_ENG.ENG_B c) = 0 then [1] else [])

/-- The state of engine e becomes that of both: the survivor goes on from its own state (R127). -/
def State.engineFrom (s : State) (c : Fin 24) (e : Nat) : State :=
  let k : Fin 25 := ⟨c.val, Nat.lt_succ_of_lt c.isLt⟩
  if e = 0 then
    { s.modCh c fun h => { h with engB := h.eng, bmB := h.bm } with chargersB := s.chargersB.set k s.chargers[k] }
  else { s.modCh c fun h => { h with eng := h.engB, bm := h.bmB } with chargers := s.chargers.set k s.chargersB[k] }

/-- Fence control engine e (R127, R128): condition ENG, or ENG_AMBIG in its place where neither engine reported
an error; the last engine fences the channel. -/
def State.fenceEngine (s : State) (c : Fin 24) (e : Nat) (ambig : Bool) : State :=
  let f := if e = 0 then F.RG_ENG.ENG_A c else F.RG_ENG.ENG_B c
  if s.get f ≠ 0 then s
  else
    let s0 := s.engineFrom c (1 - e)
    let s1 := ((s0.set f 1).set (F.RG_ENG.COMPARE c) 0).set (F.RG_LATCH.ENG_FENCE c) 1
    let s2 := s1.assertL (12 * c + 3) (if ambig then 2 else 1) e (s1.rd (R.RG_LATCH c))
    if (s2.enginesOk c).isEmpty then s2.fenceCh c else s2

/-- R128: a self-check error in the surviving engine. -/
def execSurvivorEngineError (c : Fin 24) (s : State) : Out :=
  .next (match s.enginesOk c with
    | [e] => s.fenceEngine c e false
    | _ => s)

/-- R91: leg k's limit ended an on-time; `consecutive` when it also did in the period before. From the 64th period of a
run on, the envelope limiter clamps the channel in every sample until the run ends (State.cbcHeld). -/
def execCbcLimit (c : Fin 24) (k : Fin 4) (consecutive : Bool) (s : State) : Out :=
  .next (
    if !(s.get (F.PS_STAT.LEG_ACTIVE c)).testBit k then s
    else
      let run := (if consecutive then (s.ch c).cbc.getD k 0 else 0) + 1
      let s1 := (s.inc ⟨R.PS_CBC_CNT c, 8 * k + 7, 8 * k⟩).modCh c fun h =>
        { h with cbc := h.cbc.set k run, cbcHit := h.cbcHit ||| 2 ^ k.val }
      if run < 64 then s1
      else
        let s2 := if run = 64 then (s1.set ⟨R.PS_LATCH c, 4 + k, 4 + k⟩ 1).raise (12 * c + 2) 2 k else s1
        let i := (i64 (s2.rd64 (R.MS_I_LO c) (R.MS_I_HI c))).natAbs
        let left := (ratingOf ((s2.legsOk c).length - 1)).1
        if i * 4 ≤ 3 * left * 100000000000 then s2.fenceLeg c k else s2.set (F.PS_STAT.CLAMP c) 1)

/-! ### Path transitions (R82 to R84, Table 03-4) -/

/-- Begin a step of a path transition (Table 03-4) with what it does to the switches. -/
def State.enterStep (s : State) (c : Fin 24) (t : TStep) : State :=
  let s1 := s.modCh c fun h => { h with tstep := t, tn := 0, bswMax := if t = .join then 2000000 else 0 }
  match t with
  | .takeover => s1
  | .unload => s1.bswTo c 1
  | .seek => s1.bswTo c 0
  | .join => s1.bswTo c 1
  | .linear => s1.bswTo c 1
  | .credit => s1
  | .pause => (s1.bswTo c 0).set (F.PS_STAT.INPUT c) 0
  | .resume =>
    let bat := decide ((s.ch c).dest = some 3)
    (s1.set (F.PS_STAT.INPUT c) (if bat then 2 else 1)).modCh c fun h =>
      { (h.modEng fun e => { e with restart := true }) with pathF := if bat then 3 else 2 }

/-- The first step of the transition from path `o` to path `p` (Table 03-4). -/
def firstStep (o p : Nat) : TStep :=
  if o = 3 then .credit
  else if o ≤ 1 && 2 ≤ p then .takeover
  else if o = 2 && p = 1 then .seek
  else if o = 2 && p = 3 then .pause
  else if p = 1 then .join
  else .linear

/-- Begin the transition to path p: the legs take over from the measured value (R82, R112). -/
def State.startPath (s : State) (c : Fin 24) (p : Nat) : State :=
  let o := (s.ch c).pathF
  if p = o then s
  else
    ((s.set (F.PS_STAT.TRANS c) 1).modCh c fun h =>
      { (h.modEng fun e => { e with restart := true }) with dest := some p, supp := false, disch := false }).enterStep c (firstStep o p)

/-- Is a path request held: during a transition, a handover, while every switch is open, or while the channel holds them
after it left a gang (R84, R191, R211)? -/
def State.pathHeld (s : State) (c : Fin 24) : Bool :=
  s.is (F.PS_STAT.TRANS c) || (s.ch c).dead || (s.ch c).gangLeft || decide (2 ≤ s.get (F.MS_STAGE.ACT c))

/-- The held path requests are applied in order of arrival (R84): one that names the present path is done at
once. -/
def State.nextPath (s : State) (c : Fin 24) : List Nat → State
  | [] => s.modCh c fun h => { h with heldPath := [] }
  | p :: l =>
    if p = (s.ch c).pathF then s.nextPath c l
    else (s.modCh c fun h => { h with heldPath := l }).startPath c p

/-- Take the held path requests up, where nothing holds them. -/
def State.resumePath (s : State) (c : Fin 24) : State :=
  if s.pathHeld c then s else s.nextPath c (s.ch c).heldPath

/-- A change of path to p at its application (R84, R191, R217): behind those that are held. -/
def State.requestPath (s : State) (c : Fin 24) (p : Nat) : State :=
  (s.modCh c fun h => { h with heldPath := h.heldPath ++ [p] }).resumePath c

/-- Under role OFF with the battery switch OFF the legs discharge OUT_c (R85, Table 03-3); never with the switches held
open. Where nothing is to be discharged an orderly stop turns the LINE OFF at once (R470). -/
def State.startDischarge (s : State) (c : Fin 24) : State :=
  let h := s.ch c
  if (s.curMode c).role = 0 && decide (2 ≤ h.pathF) && !h.dead && !h.gangLeft && s.get (F.PS_STAT.INPUT c) != 0 then
    s.modCh c fun h => { (h.modEng fun e => { e with restart := true }) with disch := true }
  else if (s.curMode c).role = 0 && h.stopSlew != 0 then
    (s.lineOpen c lnOff).modCh c fun h => { h with stopSlew := 0 }
  else s

/-- The transition is complete: the channel is in path p, and the law's ramp starts from the measured value (R112). -/
def State.endPath (s : State) (c : Fin 24) (p : Nat) : State :=
  let s1 := (s.set (F.PS_STAT.TRANS c) 0).modCh c fun h =>
    { (h.modEng fun e => { e with restart := true }) with
      dest := none, tstep := .takeover, tn := 0, bswMax := 0, pathF := p }
  ((s1.startDischarge c).settle c).resumePath c

/-- The voltage at OUT_c and V_BAT lie within 50 mV of each other. -/
def State.joined (s : State) (c : Fin 24) : Bool :=
  decide ((i64 (s.rd64 (R.MS_VLOC_LO c) (R.MS_VLOC_HI c)) - s.vbat c).natAbs ≤ 50000000)

/-- The credits that tile c asks for when it leaves BATFED: what its output draws with the headroom, and at least its
reservation; none under role OFF (R81, R341). -/
def State.busNeed (s : State) (c : Fin 24) : Nat :=
  if (s.curMode c).role = 0 then 0
  else
    let p := i64 (s.rd64 (R.MS_P_LO c) (R.MS_P_HI c))
    max (s.get (F.LG_RSV.RSV c)) ((p.toNat + 999999) / 1000000 + s.get F.LG_CFG.HEADROOM)

/-- Tile c asks; a later request replaces the one that is out (R341). -/
def State.askFor (s : State) (c : Fin 24) (cont burst : Nat) : State :=
  State.flit { s with ledger := { s.ledger with
    asks := s.ledger.asks.filter (fun a => a.who != c.val) ++ [⟨c, cont, burst⟩], surplus := s.ledger.surplus.set c 0 } }
    (c.val / 4) 1 0

/-- The request for the credits of a channel that leaves BATFED (R81); in flight or waiting, it is not repeated. -/
def State.askBus (s : State) (c : Fin 24) (n : Nat) : State :=
  if s.ledger.asks.any (fun a => a.who == c.val) || s.ledger.queue.any (fun q => q.1 == c.val) ||
      s.ledger.grants.any (fun a => a.who == c.val) then s
  else s.askFor c n 0

/-- One sample of a path transition (Table 03-4). The wait to drive OUT to V_BAT lasts at most 5 ms, 20,000 samples; the
steps that end with the current of the battery switch at zero, OUT joined to BAT, or the legs resumed end with
PATH_TRANSITION_DONE. -/
def State.transStep (s : State) (c : Fin 24) : State :=
  match (s.ch c).dest with
  | none => s
  | some p =>
    let s1 := s.modCh c fun h => { h with tn := h.tn + 1 }
    match (s.ch c).tstep with
    | .takeover => s1.enterStep c .unload
    | .seek => if s1.joined c || 20000 ≤ (s1.ch c).tn then s1.enterStep c .join else s1
    | .credit =>
      let t := s.ledger.tiles.getD c (0, 0)
      let n := s.busNeed c
      if n ≤ t.1 + t.2 then s1.enterStep c .pause else s1.askBus c (n - (t.1 + t.2))
    | .pause => s1.enterStep c .resume
    | .resume => if 2 ≤ p then s1 else s1.enterStep c (if p = 1 then .seek else .linear)
    | _ => s1

/-- R84: the row of Table 03-4 that runs completes. The row to OPEN is the first part of a transition to BATFED. -/
def execPathTransitionDone (c : Fin 24) (s : State) : Out :=
  .next (match (s.ch c).dest with
    | some p => match (s.ch c).tstep with
      | .unload => if p = 3 then s.enterStep c .pause else s.endPath c p
      | .join => s.endPath c p
      | .linear => s.endPath c p
      | .resume => if 2 ≤ p then s.endPath c p else s
      | _ => s
    | none => s)

/-- R82: step 2 of a transition to TIED passes 50 ms. The path is OPEN from there. -/
def execPathTransitionAbandon (c : Fin 24) (s : State) : Out :=
  .next (
    if (s.ch c).dest = some 1 && (s.ch c).tstep = .join then
      let s1 := ((s.set (F.PS_LATCH.BSW_SOA c) 1).modCh c fun h => { h with abandon := true }).reresolve c
      s1.endPath c 2
    else s)

/-- R85: the discharge has brought OUT_c below 1.0 V; the legs stop, and after an orderly stop the LINE is
turned OFF (R470). -/
def execDischargeDone (c : Fin 24) (s : State) : Out :=
  .next (
    if (s.ch c).disch then
      let s1 := ((s.modCh c fun h => { h with disch := false, drain := false, stopSlew := 0 }).legsStop c).settle c
      if (s.ch c).stopSlew = 0 then s1 else s1.lineOpen c lnOff
    else s)

/-! ### Sense, input voltage, battery switch -/

/-- R72. The SENSE pair of a follower is not used (R97). -/
def execSenseLoss (c : Fin 24) (s : State) : Out :=
  .next (if s.get (F.PS_GANG.ROLE c) = 2 then s else (s.set (F.PS_STAT.LOCAL c) 1).assertL (12 * c + 4) 1)

/-- R73: VIN_c is below 34 V while it is joined to BUS. -/
def execVinUndervoltage (c : Fin 24) (s : State) : Out :=
  .next (if s.get (F.PS_STAT.INPUT c) = 1 then (s.legsStop c).assertL (12 * c + 5) 1 else s)

/-- R77: the switch in DIODE turns on or off. -/
def execBswDiodeSwitch (c : Fin 24) (on : Bool) (s : State) : Out :=
  .next (if s.get (F.PS_STAT.BSW c) = 3 then s.modCh c fun h => { h with diode := on } else s)

/-- R78: in PATH under CHARGE the switch turns fully ON while the legs are at their current, credit or envelope
limit, and returns to LINEAR. -/
def execBswSupplement (c : Fin 24) (on : Bool) (s : State) : Out :=
  .next (
    let m := s.curMode c
    let l := s.get (F.RG_STAT.LIMIT c)
    if (s.ch c).pathF = 0 && !s.is (F.PS_STAT.TRANS c) && m.role != 0 && m.law == 6 then
      if on && s.get (F.PS_STAT.BSW c) = 1 && (l == 3 || l == 5 || l == 7) then
        (s.modCh c fun h => { h with supp := true }).bswTo c 2
      else if !on && s.get (F.PS_STAT.BSW c) = 2 then (s.modCh c fun h => { h with supp := false }).bswTo c 1
      else s
    else s)

/-- The supplement ends when OUT_c has risen to V_BAT + HEAD, or where the PATH rule no longer applies (R78). -/
def State.suppStep (s : State) (c : Fin 24) : State :=
  let m := s.curMode c
  let head : Int := (s.get (F.PS_VSYS.HEAD c) * 10000000 : Nat)
  if (s.ch c).supp && (s.vbat c + head ≤ i64 (s.rd64 (R.MS_VLOC_LO c) (R.MS_VLOC_HI c)) || (s.ch c).pathF != 0 ||
      m.role == 0 || m.law != 6) then s.modCh c fun h => { h with supp := false }
  else s

/-- R79: the product exceeds 8 W in LINEAR; I_BAT is reduced to `iLim` µA. -/
def execBswSoaLimit (c : Fin 24) (iLim : Nat) (s : State) : Out :=
  .next (
    if s.get (F.PS_STAT.BSW c) = 1 then
      let s1 := (s.set (F.PS_LATCH.BSW_SOA c) 1).set (F.CG_STAT.BIND_SOA c) 1
      s1.seti (F.CG_IEFF.I_CHG c) (min (s.geti (F.CG_IEFF.I_CHG c)) (iLim : Int))
    else s)

/-- The battery switch opens under R80, a transition and the path requests that it holds end, and the path resolves to
OPEN until PS_LATCH is read. -/
def State.bswTrip (s : State) (c : Fin 24) : State :=
  let s1 := ((s.set (F.PS_STAT.BSW c) 0).set (F.PS_LATCH.BSW_TRIP c) 1).set (F.PS_STAT.TRANS c) 0
  let s2 := s1.modCh c fun h =>
    { (h.modEng fun e => { e with restart := true }) with
      pathF := if h.pathF = 3 then 3 else 2, dest := none, tstep := .takeover, tn := 0, bswMax := 0, supp := false,
      heldPath := [], diode := false, batN := 0 }
  ((s2.startDischarge c).assertL (12 * c + 1) 1 0 (s2.rd (R.PS_LATCH c))).reresolve c

/-- R80: above 30 A. -/
def execBswTripFast (c : Fin 24) (s : State) : Out :=
  .next (if s.get (F.PS_STAT.BSW c) = 0 then s else s.bswTrip c)

/-- R80: above 20 A for more than 100 ms (400,000 samples). -/
def execBswTripTimed (c : Fin 24) (s : State) : Out :=
  .next (if s.get (F.PS_STAT.BSW c) ≠ 0 && 400000 ≤ (s.ch c).batN then s.bswTrip c else s)

/-- R81: V_BAT falls below UV in BATFED. -/
def execBatfedUndervoltage (c : Fin 24) (s : State) : Out :=
  .next (
    if s.get (F.PS_STAT.INPUT c) = 2 then
      let s1 := ((s.legsStop c).set (F.PS_STAT.INPUT c) 0).set (F.PS_LATCH.BATFED_UV c) 1
      (s1.modCh c fun h => { h with disch := false, react := some (h.react == some true) }).reresolve c
    else s)

/-- The discharge of boot step 6 (R494): every channel powers up, and its OUT is discharged when its power stage is on. -/
def State.bootDrain (s : State) : State :=
  let l := allCh.filter fun c => !(s.ch c).fenced
  l.foldl (fun s c => (s.modCh c fun h => { h with drain := true }).wakeCh c)
    { s with boot := { s.boot with drain := false } }

/-! ### Bursts and shedding (R75, R90) -/

/-- R75: a burst reaches 100 ms. -/
def execBurstLimit (c : Fin 24) (s : State) : Out :=
  .next (
    if s.is (F.PS_STAT.BURST c) && 400000 ≤ (s.ch c).burstN then
      let s1 := (((s.inc (F.PS_BURST.CLAMP_CNT c)).set (F.PS_STAT.BURST c) 0).set (F.PS_STAT.BURST_READY c) 0).set
        (F.PS_STAT.CLAMP c) 1
      s1.modCh c fun h => { h with burstD := h.burstN, burstN := 0, calmN := 0, episode := true }
    else s)

/-- R75: nine times the burst's duration within the continuous ratings. -/
def execBurstRecovered (c : Fin 24) (s : State) : Out :=
  .next (
    if !s.is (F.PS_STAT.BURST_READY c) && 9 * (s.ch c).burstD ≤ (s.ch c).calmN then
      ((s.set (F.PS_STAT.BURST_READY c) 1).set (F.PS_BURST.REMAIN c) 1000).modCh c
        fun h => { h with burstD := 0, calmN := 0 }
    else s)

/-- Shed leg k: it stops switching and its carry is cleared (R88, R90). -/
def State.shedLeg (s : State) (c : Fin 24) (k : Nat) : State :=
  ((s.set ⟨R.PS_STAT c, 4 + k, 4 + k⟩ 1).set ⟨R.PS_STAT c, 12 + k, 12 + k⟩ 0).modCh c
    fun h => { h with carry := h.carry.set k (0, 0), regions := h.regions.set k 0, shedN := 0 }

/-- R90: the mean current per active leg has stayed below THR for HOLD (4 samples a µs). -/
def execLegShed (c : Fin 24) (s : State) : Out :=
  .next (
    let l := (List.range 4).filter fun k => (s.get (F.PS_STAT.LEG_ACTIVE c)).testBit k
    if s.is (F.PS_PWM.SHED_EN c) && 2 ≤ l.length && 4 * s.get (F.PS_SHED.HOLD c) ≤ (s.ch c).shedN then
      s.shedLeg c (l.getLastD 0)
    else s)

/-- R97: follower c receives the leader's share of the latest sample, where no link on the way is DOWN (R389). -/
def execGangShareSetpoint (c : Fin 24) (s : State) : Out :=
  .next (
    if s.get (F.PS_GANG.ROLE c) = 2 then
      match chan? (s.gangLeader c) with
      | some l =>
        if s.linkDown (l / 4) || s.linkDown (c / 4) then s
        else ((s.modCh c fun h => { h with share := (s.ch l).share }).flit (l.val / 4) 1 0).flit (c.val / 4) 0 0
      | none => s
    else s)

end Sys2Proof.Machine
end

