-- ==== Sys2Proof/Machine/Battery.lean ====
section
/-!
DEFINITION. Battery-model emulation (chapter 05): lookup, update, and the writes of the model's state.
-/

namespace Sys2Proof.Machine

/-! ### Lookup (R133, R136, R137) -/

/-- A header as the model uses it: CAP, CP1, CP2, HMAX, HQ, T_0 to T_7. -/
def hdrAt (l : List Int) (i : Nat) : Int := l.getD i 0

/-- The header fields of the table at a that pass their checks, the last good value for those that do not
(R135). -/
def State.bmHdr (s : State) (a : Nat) (old : List Int) : List Int :=
  let w := fun o => ((s.ldWord (a + o)).toNat : Int)
  [if s.bmCapOk a then w 4 else hdrAt old 0, w 8, w 0xC, if s.bmHmaxOk a then w 0x10 else hdrAt old 3,
   if s.bmHqOk a then w 0x14 else hdrAt old 4] ++
    (if s.bmTOk a then (List.range 8).map (s.bmT a) else (List.range 8).map fun k => hdrAt old (5 + k))

/-- Does every check of the header pass? -/
def State.bmHdrOk (s : State) (a : Nat) : Bool :=
  s.bmFormatOk a && s.bmCapOk a && s.bmHmaxOk a && s.bmHqOk a && s.bmTOk a

/-- Capacity in pC of a header. -/
def qcapOf (hdr : List Int) : Int := hdrAt hdr 0 * 1000000000

/-- A grid value (R133): field f of point (j, k), clamped to its range, and whether it was out of range. -/
def State.bmGrid (s : State) (a j k f : Nat) : Int × Bool :=
  let v := (s.ldWord (a + 0x40 + 16 * (8 * j + k) + 4 * f)).toNat
  if f = 0 then ((v : Int), false) else ((min v 10000000 : Nat), decide (10000000 < v))

/-- Bilinear interpolation of field f (R136). -/
def State.bmInterp (s : State) (a j k : Nat) (fs ft : Int) (f : Nat) : Int × Bool :=
  let p := s.bmGrid a j k f
  let p1 := s.bmGrid a (j + 1) k f
  let r := s.bmGrid a j (k + 1) f
  let r1 := s.bmGrid a (j + 1) (k + 1) f
  let x := p.1 + muldiv (p1.1 - p.1) fs 65536
  let y := r.1 + muldiv (r1.1 - r.1) fs 65536
  (x + muldiv (y - x) ft 65536, p.2 || p1.2 || r.2 || r1.2)

/-- A lookup at charge q and temperature t: OCV, RS, RP1, RP2, and whether a grid value was clamped. The position is
u64 and its fraction u32, as R136 declares them; only a charge outside 0 to qcap shows it. -/
def State.bmLookup (s : State) (a : Nat) (hdr : List Int) (q t : Int) : List Int × Bool :=
  let x := trunc 64 (muldiv q (63 * 65536) (qcapOf hdr))
  let j := min (x / 65536) 62
  let fs : Int := trunc 32 ((x : Int) - (j : Int) * 65536)
  let tt := clampI (hdrAt hdr 5) (hdrAt hdr 12) t
  let k := ((List.range 7).filter fun k => decide (hdrAt hdr (5 + k) ≤ tt)).getLastD 0
  let ft := muldiv (tt - hdrAt hdr (5 + k)) 65536 (hdrAt hdr (6 + k) - hdrAt hdr (5 + k))
  let l := (List.range 4).map (s.bmInterp a j k fs ft)
  (l.map (·.1), l.any (·.2))

/-- A thermistor reading of the latest round: temperature, or none while it is open, shorted or not read yet. -/
def State.thermOf (s : State) (c : Nat) : Option Int :=
  let q := c / 4
  let k := c % 4
  if s.is (F.QD_THERM.VALID q k) && !s.is (F.QD_THERM.OPEN q k) && !s.is (F.QD_THERM.SHORT q k) then
    some (s.geti (F.QD_THERM.T q k))
  else none

/-- The temperature in use, and TFALL (R137). -/
def State.bmTemp (s : State) (c : Fin 24) : Int × Bool :=
  if s.is (F.BM_CFG.TSRC c) then
    match s.thermOf c with
    | some t => (t, false)
    | none => (s.geti (F.BM_TEMP.TEMP c), true)
  else (s.geti (F.BM_TEMP.TEMP c), false)

/-! ### State of the model -/

/-- The LO register of a state field. -/
def bmLo (c : Nat) : BmField → Nat
  | .q => R.BM_Q_LO c
  | .v1 => R.BM_V1_LO c
  | .v2 => R.BM_V2_LO c
  | .h => R.BM_H_LO c

/-- A state field as i64. -/
def State.bmGet (s : State) (c : Nat) (f : BmField) : Int := i64 (s.rd64 (bmLo c f) (bmLo c f + 4))

/-- Store a state field, an i64 that saturates (R8). -/
def State.bmPut (s : State) (c : Nat) (f : BmField) (v : Int) : State := s.wr64 (bmLo c f) (bmLo c f + 4) (satS 64 v)

/-- Capacity in pC: that of the header the running model is on (R135), else of the table at BM_TBL_ADDR (R145). -/
def State.bmQcap (s : State) (c : Fin 24) : Int :=
  if s.is (F.BM_STAT.RUN c) then qcapOf (s.ch c).bm.hdr else ((s.ldWord (s.bmAddr c + 4)).toNat : Int) * 1000000000

/-- BM_SOC as read (R148): ppm of qcap, 0 when there is no valid table. -/
def State.bmSoc (s : State) (c : Fin 24) : Int :=
  if s.is (F.BM_STAT.RUN c) || s.bmTblOk (s.bmAddr c) then muldiv (s.bmGet c .q) 1000000 (s.bmQcap c) else 0

/-- Apply a state write (R145): q clears the residue, v_p its remainder. -/
def State.bmApply (s : State) (c : Fin 24) : BmWrite → State
  | .field .q v => (s.bmPut c .q v).modBm c fun m => { m with res := 0 }
  | .field .v1 v => (s.bmPut c .v1 v).modBm c fun m => { m with rem1 := 0 }
  | .field .v2 v => (s.bmPut c .v2 v).modBm c fun m => { m with rem2 := 0 }
  | .field .h v => s.bmPut c .h v
  | .soc v => (s.bmPut c .q (muldiv v (s.bmQcap c) 1000000)).modBm c fun m => { m with res := 0 }
  | .relax => ((s.bmPut c .v1 0).bmPut c .v2 0).modBm c fun m => { m with rem1 := 0, rem2 := 0 }
  | .hyst => s.bmPut c .h 0

/-- Apply the latched writes in order of arrival. -/
def State.bmFlush (s : State) (c : Fin 24) : State :=
  ((s.ch c).bm.writes.foldl (fun s w => s.bmApply c w) s).modBm c fun m => { m with writes := [] }

/-- A state write: latched while the model runs, else at once (R145). -/
def State.bmWrite (s : State) (c : Fin 24) (w : BmWrite) : State :=
  if s.is (F.BM_STAT.RUN c) then s.modBm c fun m => { m with writes := m.writes ++ [w] } else s.bmApply c w

/-- A refused table (R134). -/
def State.bmRefuse (s : State) (c : Fin 24) : State :=
  (s.set (F.BM_LATCH.TBL_ERR c) 1).set (F.BM_STAT.CFG_REJ c) 1

/-- Entry to MODEL (R139, R141): the header is read, Rp comes from a lookup at the present q and temperature. -/
def State.bmEnter (s : State) (c : Fin 24) : State :=
  let a := s.bmAddr c
  let hdr := s.bmHdr a (s.ch c).bm.hdr
  let t := s.bmTemp c
  let l := s.bmLookup a hdr (s.bmGet c .q) t.1
  let s1 := if l.2 then s.set (F.BM_LATCH.TBL_ERR c) 1 else s
  (s1.set (F.BM_STAT.RUN c) 1).modBm c fun m =>
    { m with hdr := hdr, rp1 := hdrAt l.1 2, rp2 := hdrAt l.1 3, fresh := true, sub := 0 }

/-- Leaving MODEL (R145, R147): latched writes are applied, then the state freezes. -/
def State.bmLeave (s : State) (c : Fin 24) : State := (s.bmFlush c).set (F.BM_STAT.RUN c) 0

/-- The model follows the resolved law (R138), whatever holds the application of the resolved word. -/
def State.bmFollow (s : State) (c : Fin 24) : State :=
  let on := (s.resMode c).law == 4 && s.domOn (3 * c + 1)
  let run := s.is (F.BM_STAT.RUN c)
  if on && !run then s.bmEnter c else if !on && run then s.bmLeave c else s

/-! ### The update (R139) -/

/-- An i64 result: beyond the type's limits it saturates (R8). -/
def i64s (v : Int) : Int := satS 64 v

/-- One relaxation pair: v, remainder, and whether τ was clamped. -/
def relaxPair (i rp cp v rem : Int) : Int × Int × Bool :=
  if rp = 0 || cp = 0 then (0, 0, false)
  else
    let tau := max (i64s (rp * cp)) 100000
    let num := i64s (i64s (i64s (tdiv (i64s (i * rp)) 1000 - v) * 1000) + rem)
    (i64s (v + tdiv num tau), num - tdiv num tau * tau, decide (rp * cp < 100000))

/-- The hysteresis voltage. An HQ of 0 in force with HMAX other than 0 (HMAX was stored while HQ failed its check, and the
last HQ that passed was 0) leaves h as it is: the spec gives the quotient by 0 no value (DESIGN CHOICE, log entry 61). -/
def hystStep (i hmax hq h : Int) : Int :=
  if hmax = 0 then 0
  else
    let hm := i64s (hmax * 10000000)
    let hdir := if i < 0 then hm else if 0 < i then -hm else h
    i64s (h + i64s (muldiv (i64s (hdir - h)) i.natAbs (i64s (hq * 1000000000000))))

/-- A reaction resolves the role OFF under bit 4; `opn` for REACT OPEN, which stands over OFF (R210). -/
def State.reactOff (s : State) (c : Fin 24) (opn : Bool) : State :=
  (s.modCh c fun h => { h with react := some (opn || h.react == some true) }).reresolve c

/-- EMPTY and FULL after an update (R142). -/
def State.bmLimits (s : State) (c : Fin 24) (q qcap : Int) : State :=
  let wasE := s.is (F.BM_STAT.EMPTY c)
  let wasF := s.is (F.BM_STAT.FULL c)
  let s1 := (s.setb (F.BM_STAT.EMPTY c) (q == 0)).setb (F.BM_STAT.FULL c) (q == qcap)
  let s2 :=
    if q = 0 && !wasE then
      let t := (s1.set (F.BM_LATCH.EMPTY c) 1).signal 0x04 c (wordOf (s1.bmSoc c))
      if s.is (F.BM_CFG.EMPTY_REACT c) then t.reactOff c false else t
    else s1
  if q = qcap && !wasF then (s2.set (F.BM_LATCH.FULL c) 1).signal 0x05 c (wordOf (s2.bmSoc c)) else s2

/-- Update m (R139), in the order of the rule. -/
def State.bmUpdate (s : State) (c : Fin 24) : State :=
  let m := (s.ch c).bm
  let a := s.bmAddr c
  let hdr := s.bmHdr a m.hdr
  let s0 := if s.bmHdrOk a then s else s.bmRefuse c
  let i := tdiv (i64s (m.recent.foldl (· + ·) 0)) 4000
  let acc := i64s (m.res + i)
  let dq := tdiv acc 1000
  let r1 := relaxPair i m.rp1 (hdrAt hdr 1) (s.bmGet c .v1) m.rem1
  let r2 := relaxPair i m.rp2 (hdrAt hdr 2) (s.bmGet c .v2) m.rem2
  let h := hystStep i (hdrAt hdr 3) (hdrAt hdr 4) (s.bmGet c .h)
  let s1 := (((s0.bmPut c .q (s.bmGet c .q - dq)).bmPut c .v1 r1.1).bmPut c .v2 r2.1).bmPut c .h h
  let s2 := s1.modBm c fun m => { m with res := acc - dq * 1000, rem1 := r1.2.1, rem2 := r2.2.1, hdr := hdr }
  let s3 := s2.bmFlush c
  let qcap := qcapOf hdr
  let q0 := s3.bmGet c .q
  let q := clampI 0 qcap q0
  let s4 := if q = q0 then s3 else (s3.bmPut c .q q).modBm c fun m => { m with res := 0 }
  let t := s4.bmTemp c
  let l := s4.bmLookup a hdr q t.1
  let s5 := if l.2 then s4.set (F.BM_LATCH.TBL_ERR c) 1 else s4
  let h' := s5.bmGet c .h
  let oc := i64s (i64s (hdrAt l.1 0 * 10000000) + h')
  let vm := i64s (i64s (i64s (oc - s5.bmGet c .v1) - s5.bmGet c .v2) - tdiv (i64s (i * hdrAt l.1 1)) 1000)
  let vt := tdiv vm 10000000
  let s6 := s5.modBm c fun m =>
    { m with rp1 := hdrAt l.1 2, rp2 := hdrAt l.1 3, vPrev := if m.fresh then vt else m.vCur, vCur := vt,
             fresh := false, sub := 0 }
  let s7 := (((s6.seti (F.BM_VTERM.VTERM c) (satS 32 vt)).seti (F.BM_OCV.OCV c) (satS 32 (tdiv oc 10000000))).setb
    (F.BM_STAT.TAU_CLAMP c) (r1.2.2 || r2.2.2)).setb (F.BM_STAT.TFALL c) t.2
  (s7.seti (F.BM_STAT.TUSED c) t.1).bmLimits c q qcap

/-- R138, R139: the update runs while the resolved law is MODEL, from the first sample of MODEL on. -/
def execModelUpdate (c : Fin 24) (s : State) : Out :=
  .next (if s.is (F.BM_STAT.RUN c) && (s.resMode c).law == 4 then s.bmUpdate c else s)

/-! ### Register writes -/

/-- A write of BM_TBL_ADDR: checked while the resolved law is MODEL (R134). -/
def State.bmAddrWrite (s : State) (c : Fin 24) (w : Word) : State :=
  if (s.resMode c).law = 4 && !s.bmTblOk (bitsOf w 31 6 * 64) then s.bmRefuse c
  else s.set (F.BM_TBL_ADDR.ADDR c) (bitsOf w 31 6)

/-- A write of BM_SOC (R134, R145). -/
def State.bmSocWrite (s : State) (c : Fin 24) (w : Word) : State :=
  if 1000000 < w.toNat then s.set (F.BM_STAT.CFG_REJ c) 1
  else if s.bmTblOk (s.bmAddr c) then s.bmWrite c (.soc w.toNat)
  else s.bmRefuse c

/-- A write of a LO word is held in the requester's shadow (R146). -/
def State.bmLoWrite (s : State) (rq : Requester) (c : Fin 24) (f : BmField) (w : Word) : State :=
  s.modReq rq fun x => { x with wsh := some (bmLo c f, w) }

/-- A write of a HI word commits the pair; with no held LO word of the pair, the present low word (R146). The held LO word
of another pair stays (R524). -/
def State.bmHiWrite (s : State) (rq : Requester) (c : Fin 24) (f : BmField) (w : Word) : State :=
  match (s.req rq).wsh with
  | some (a, l) =>
    if a = bmLo c f then (s.modReq rq fun x => { x with wsh := none }).bmWrite c (.field f (i64 (pairNat l w)))
    else s.bmWrite c (.field f (i64 (pairNat (s.rd (bmLo c f)) w)))
  | none => s.bmWrite c (.field f (i64 (pairNat (s.rd (bmLo c f)) w)))

end Sys2Proof.Machine
end

