-- ==== Sys2Proof/Machine/Charge.lean ====
section
/-!
DEFINITION. Charging (chapter 06): the phase machine of the 24 channel chargers and the PACK charger
(index 24), its timers, temperature zones, presets and faults. A tick of the machine is CHARGE_TICK followed by
those of the timer and NiMH commands whose time it is; `moved` keeps the tick to one transition (R157).
-/

namespace Sys2Proof.Machine

/-- Phases of Table 06-1. -/
def phQualify : Nat := 0
def phPre : Nat := 1
def phCc : Nat := 2
def phCv : Nat := 3
def phTopoff : Nat := 4
def phMaintain : Nat := 5
def phDone : Nat := 6
def phFault : Nat := 7
def phRest : Nat := 8

/-- The present phase of charger k. -/
def State.phase (s : State) (k : Fin 25) : Nat := s.get (F.CG_STAT.PHASE k)

/-- Is the chemistry NIMH? -/
def State.nimh (s : State) (k : Fin 25) : Bool := s.get (F.CG_CFG.CHEM k) == 4

/-- A phase change is announced (R157, Table 12-5). -/
def State.phaseEvent (s : State) (k : Fin 25) : State :=
  match chan? k with
  | some c =>
    let w := s.rd (R.CG_STAT k)
    (s.notice 6 0x0381 [BitVec.ofNat 32 c, w]).signal 0x06 c w
  | none => s.houseEvt 0x09 (bitsOf (s.rd (R.CG_STAT k)) 27 20)

/-- CG_TIME reports the phase timer in force, that of REST in REST, and T_TOTAL (R160). -/
def State.cgTime (s : State) (k : Fin 25) : State :=
  let g := s.chargers[k]
  (s.set (F.CG_TIME.PHASE_T k) (satU 16 ((if s.phase k = phRest then g.restMs else g.phaseMs) / 1000))).set
    (F.CG_TIME.TOTAL k) (satU 16 (g.totalMs / 1000))

/-- Enter phase p (R156, R160): its timer and its hold counters start at zero; T_TOTAL at an entry to QUALIFY;
entering CC starts the holdoff. Entry to DONE latches; so does PK_SOC's full mark (R335). -/
def State.enterPhase (s : State) (k : Fin 25) (p : Nat) : State :=
  let s1 := ((s.set (F.CG_STAT.PHASE k) p).set (F.CG_STAT.PREV k) p).set (F.CG_STAT.RREASON k) 0
  let s2 := s1.modCg k fun g => { g with
    holds := List.replicate 8 0, phaseMs := 0, restMs := 0, holdoff := 0, peak := none, below := 0, temps := [],
    vHist := [], moved := true, totalMs := if p = phQualify then 0 else g.totalMs }
  let s3 := if p = phDone then s2.set (F.CG_LATCH.DONE k) 1 else s2
  let s4 := if k.val = 24 && (p == phDone || p == phMaintain) then s3.set F.PK_SOC.SOC 1000000 else s3
  (s4.cgTime k).phaseEvent k

/-- Enter REST (R160, R164): the interrupted phase's timer and T_TOTAL pause. `why`: 1 zone, 2 throttle, 3 both. -/
def State.enterRest (s : State) (k : Fin 25) (why : Nat) : State :=
  let s1 := ((s.set (F.CG_STAT.PREV k) (s.phase k)).set (F.CG_STAT.PHASE k) phRest).set (F.CG_STAT.RREASON k) why
  let s2 := s1.modCg k fun g => { g with holds := List.replicate 8 0, restMs := 0, vHist := [], moved := true }
  ((s2.set (F.CG_LATCH.REST k) 1).cgTime k).phaseEvent k

/-- Resume the interrupted phase (R156, R159, R160). -/
def State.leaveRest (s : State) (k : Fin 25) : State :=
  let s1 := (s.set (F.CG_STAT.PHASE k) (s.get (F.CG_STAT.PREV k))).set (F.CG_STAT.RREASON k) 0
  ((s1.modCg k fun g => { g with
    holds := List.replicate 8 0, restMs := 0, holdoff := 0, peak := none, below := 0, temps := [],
    vHist := [], moved := true }).cgTime k).phaseEvent k

/-- Enter FAULT with a code (R170). -/
def State.cgFault (s : State) (k : Fin 25) (code : Nat) : State :=
  let s1 := ((s.set (F.CG_STAT.FCODE k) code).set (F.CG_LATCH.FAULT k) 1).seti (F.CG_IEFF.I_CHG k) 0
  let s2 := s1.enterPhase k phFault
  match chan? k with
  | some c => s2.raise (12 * c + 9) 1 0 (s2.rd (R.CG_STAT k))
  | none => s2.raise 329 2 0 (s2.rd (R.CG_STAT k))

/-- The path is lost while CHARGE is asked for (R150): FAULT, where the charger does not stand in it already (Table
06-5); it stays until the cycle ends or CLEAR. -/
def State.cgLost (s : State) (k : Fin 25) : State :=
  let s1 := s.modCg k fun g => { g with lost := true }
  if s1.phase k = phFault then s1 else s1.cgFault k 0x08

/-- Is the thermistor of charger k open or shorted (R163)? A reading that the first housekeeping round has not made yet
is neither. -/
def State.cgThermBad (s : State) (k : Fin 25) : Bool :=
  if k.val < 24 then s.is (F.QD_THERM.OPEN (k.val / 4) (k.val % 4)) || s.is (F.QD_THERM.SHORT (k.val / 4) (k.val % 4))
  else s.is F.HUB_THERM24.OPEN || s.is F.HUB_THERM24.SHORT

/-- The thermistor of charger k: THERM_c, or THERM_24 for PACK. -/
def State.cgTherm (s : State) (k : Fin 25) : Option Int :=
  if k.val < 24 then s.thermOf k
  else if s.is F.HUB_THERM24.VALID && !s.is F.HUB_THERM24.OPEN && !s.is F.HUB_THERM24.SHORT then
    some (s.geti F.HUB_THERM24.T)
  else none

/-- The tick takes up the zone parameters (R169). -/
def State.zoneParams (s : State) (k : Fin 25) : State :=
  s.modCg k fun g => { g with zpar := [(s.get (F.CG_ZONE_ADJ.COOL_PCT k) : Int), (s.get (F.CG_ZONE_ADJ.WARM_PCT k) : Int),
    (s.get (F.CG_VADJ.WARM_DV k) : Int), s.geti (F.CG_VADJ.TCOMP k), (s.get (F.CG_CFG.THERM_EN k) : Int)] }

/-- The start of a charge cycle (R152): QUALIFY with every timer at zero and no fault; an order of parameters
that fails starts it in FAULT with CFG (R168). `i0` is the measured I_BAT the ramp starts from (R155). -/
def State.cgStart (s : State) (k : Fin 25) (i0 : Int) : State :=
  let s1 := (s.modCg k fun g => ({ running := true, r := i0, throttle := g.throttle } : Charger)).zoneParams k
  let s2 := (s1.set (F.CG_STAT.FCODE k) 0).set (F.CG_STAT.ZONE k) 5
  let s3 := s2.enterPhase k phQualify
  if s3.cgOrderOk k then s3 else s3.cgFault k 0x0A

/-- The end of a charge cycle (R152). -/
def State.cgStop (s : State) (k : Fin 25) : State :=
  let s1 := ((s.set (F.CG_STAT.PHASE k) 0).set (F.CG_STAT.PREV k) 0).set (F.CG_STAT.RREASON k) 0
  let s2 := ((s1.set (F.CG_STAT.BIND_SOA k) 0).set (F.CG_STAT.BIND_CREDIT k) 0).set (F.CG_STAT.BIND_INPUT k) 0
  ((s2.seti (F.CG_IEFF.I_CHG k) 0).modCg k fun g => ({ throttle := g.throttle } : Charger)).cgTime k

/-! ### Temperature (R161, R162) -/

/-- The zone of temperature t (0.1 °C) from the zone before: a zone away from NORMAL is left toward it only
once t has passed the bound by THYS. -/
def State.zoneOf (s : State) (k : Fin 25) (prev : Nat) (t : Int) : Nat :=
  let h : Int := s.get (F.CG_ZONE_ADJ.THYS k)
  let b := fun (f : Fld) => s.cgT f * 10
  let t1 := b (F.CG_ZONE_T.T1 k) + (if prev = 0 then h else 0)
  let t2 := b (F.CG_ZONE_T.T2 k) + (if prev ≤ 1 then h else 0)
  let t3 := b (F.CG_ZONE_T.T3 k) - (if prev = 3 ∨ prev = 4 then h else 0)
  let t4 := b (F.CG_ZONE_T.T4 k) - (if prev = 4 then h else 0)
  if t < t1 then 0 else if t < t2 then 1 else if t4 < t then 4 else if t3 < t then 3 else 2

/-- Bring the zone up to date at a tick (R161, R163): an invalid reading keeps the last one of the cycle. -/
def State.updZone (s : State) (k : Fin 25) : State :=
  if !s.is (F.CG_CFG.THERM_EN k) then s.set (F.CG_STAT.ZONE k) 5
  else match s.cgTherm k with
    | some t => (s.set (F.CG_STAT.ZONE k) (s.zoneOf k (s.get (F.CG_STAT.ZONE k)) t)).modCg k
        fun g => { g with lastT := some t }
    | none => if (s.chargers[k]).lastT.isNone then s.set (F.CG_STAT.ZONE k) 5 else s

/-- V_CV_eff or V_FLOAT_eff in 10 µV (R162), with the zone parameters of the last tick (R169). -/
def State.vEff (s : State) (k : Fin 25) (v : Nat) : Int :=
  let z := (s.chargers[k]).zpar
  let t := (s.chargers[k]).lastT.getD 250
  let comp := if z.getD 4 0 = 0 then 0 else z.getD 3 0 * (t - 250)
  let dv := if s.get (F.CG_STAT.ZONE k) = 3 then z.getD 2 0 * 100 else 0
  clampI (s.get (F.CG_V_PRE.VALUE k)) (s.get (F.CG_V_OVP.VALUE k)) ((v : Int) + comp - dv)

def State.vCvEff (s : State) (k : Fin 25) : Int := s.vEff k (s.get (F.CG_V_CV.VALUE k))
def State.vFloatEff (s : State) (k : Fin 25) : Int := s.vEff k (s.get (F.CG_V_FLOAT.VALUE k))

/-- A charge current scaled by the zone factor (R161), with the zone parameters of the last tick (R169). -/
def State.zoneScale (s : State) (k : Fin 25) (i : Nat) : Int :=
  match s.get (F.CG_STAT.ZONE k) with
  | 1 => tdiv (i * (s.chargers[k]).zpar.getD 0 0) 100
  | 3 => tdiv (i * (s.chargers[k]).zpar.getD 1 0) 100
  | _ => i

/-- The charge-current target of the phase in µA (Table 06-1). -/
def State.cgTarget (s : State) (k : Fin 25) : Int :=
  match s.phase k with
  | 1 => s.zoneScale k (s.get (F.CG_I_PRE.VALUE k))
  | 2 => s.zoneScale k (s.get (F.CG_I_CC.VALUE k))
  | 3 => s.zoneScale k (s.get (F.CG_I_CC.VALUE k))
  | 4 => s.zoneScale k (if s.nimh k then s.get (F.CG_I_PRE.VALUE k) else s.get (F.CG_I_CC.VALUE k))
  | 5 => s.zoneScale k (s.get (F.CG_I_MAINT.VALUE k))
  | _ => 0

/-- The voltage at BAT that the phase holds or caps, where it regulates one (Table 06-1). -/
def State.cgVolt (s : State) (k : Fin 25) : Option Int :=
  if s.phase k = 3 then some (s.vCvEff k)
  else if s.nimh k then none
  else match s.phase k with
    | 2 => some (s.vCvEff k)
    | 4 => some (s.vCvEff k)
    | 5 => some (s.vFloatEff k)
    | _ => none

/-! ### The tick -/

/-- Where termination of a phase leads: TOPOFF where it is asked for, else MAINTAIN or DONE (Table 06-2). -/
def State.afterCv (s : State) (k : Fin 25) : Nat :=
  if s.get (F.CG_TMR_2.TA k) ≠ 0 then phTopoff else if s.is (F.CG_CFG.MAINT_EN k) then phMaintain else phDone

/-- V_RESTART = V_CV − V_RECHG. -/
def State.vRestart (s : State) (k : Fin 25) : Int :=
  (s.get (F.CG_V_CV.VALUE k) : Int) - s.get (F.CG_V_RECHG.VALUE k)

/-- The conditions that hold counters follow: 0 PRECHARGE exit, 1 CC exit, 2 I_TERM, 3 restart, 4 zone cold or
hot, 5 zone permits, 6 THERM, 7 VMAX. -/
def State.cgConds (s : State) (k : Fin 25) (m : TickMeans) : List Bool :=
  let pre : Int := s.get (F.CG_V_PRE.VALUE k)
  let cv := s.vCvEff k
  let z := s.get (F.CG_STAT.ZONE k)
  [decide (pre + pre / 64 ≤ m.vbat), decide (cv - cv / 512 ≤ m.vbat),
   decide (m.ibat < (s.get (F.CG_I_TERM.VALUE k) : Int)), decide (m.vbat < s.vRestart k), z == 0 || z == 4,
   z != 0 && z != 4, s.is (F.CG_CFG.THERM_EN k) && s.cgThermBad k, decide (cv ≤ m.vbat)]

/-- Is any BIND bit set (R158)? -/
def State.bound (s : State) (k : Fin 25) : Bool := bitsOf (s.rd (R.CG_STAT k)) 14 12 != 0

/-- The hold counters after a tick. The I_TERM count stands still in a tick with BIND set (R158). -/
def State.cgHolds (s : State) (k : Fin 25) (m : TickMeans) : List Nat :=
  let g := s.chargers[k]
  (List.range 8).map fun i =>
    let n := g.holds.getD i 0
    if i = 2 && s.bound k then n
    else if (s.cgConds k m).getD i false then n + 1 else 0

/-- Does condition i hold (16 consecutive ticks of the phase, R153)? -/
def State.holds (s : State) (k : Fin 25) (i : Nat) : Bool := decide (16 ≤ (s.chargers[k]).holds.getD i 0)

/-- Count the tick in the timers (R160). -/
def State.countTick (s : State) (k : Fin 25) : State :=
  let p := s.phase k
  let s1 := s.modCg k fun g =>
    if p = phRest then { g with restMs := g.restMs + 1 }
    else { g with phaseMs := g.phaseMs + 1, totalMs := if 1 ≤ p ∧ p ≤ 4 then g.totalMs + 1 else g.totalMs,
                  holdoff := if p = phCc then g.holdoff + 1 else g.holdoff }
  s1.cgTime k

/-- The sum of a list. -/
def sumI (l : List Int) : Int := l.foldl (· + ·) 0

/-- Has QUALIFY settled (Table 06-2)? -/
def State.qualSettled (s : State) (k : Fin 25) : Bool :=
  let l := (s.chargers[k]).vHist
  decide (200 ≤ l.length) &&
    decide ((sumI (l.take 100) - sumI ((l.drop 100).take 100)).natAbs ≤ s.get (F.CG_CFG.NCELL k) * 100000)

/-- Test 2 of R157: the fault that holds, in the order of R170. -/
def State.cgFaultOf (s : State) (k : Fin 25) : Option Nat :=
  let p := s.phase k
  if p = phFault then none
  else if p ≠ phDone && s.holds k 6 then some 0x07
  else if !s.cgOrderOk k then some 0x0A
  else if (s.chargers[k]).lost then some 0x08
  else if s.nimh k && s.holds k 7 && (p == phCc || p == phTopoff || p == phMaintain) then some 0x09
  else none

/-- Test 3: entry to REST, with its reason. -/
def State.restDue (s : State) (k : Fin 25) : Option Nat :=
  let z := s.holds k 4
  let t := (s.chargers[k]).throttle
  if s.phase k ≤ 5 && (z || t) then some (b2n z + 2 * b2n t) else none

/-- Test 4: the exit conditions of Table 06-2. -/
def State.cgExit (s : State) (k : Fin 25) (m : TickMeans) : State :=
  match s.phase k with
  | 0 => if s.qualSettled k then s.enterPhase k (if m.vbat < (s.get (F.CG_V_PRE.VALUE k) : Int) then phPre else phCc) else s
  | 1 => if s.holds k 0 then s.enterPhase k phCc else s
  | 2 => if !s.nimh k && s.holds k 1 then s.enterPhase k phCv else s
  | 3 => if s.holds k 2 then s.enterPhase k (s.afterCv k) else s
  | 8 => if s.holds k 5 && !(s.chargers[k]).throttle then s.leaveRest k else s
  | p =>
    if (p = 5 || p = 6) && s.is (F.CG_CFG.AUTO_RESTART k) && s.holds k 3 then
      (s.set (F.CG_LATCH.RESTART k) 1).enterPhase k phQualify
    else s

/-- Tests 1 to 4 of R157. -/
def State.cgTests (s : State) (k : Fin 25) (m : TickMeans) : State :=
  let g := s.chargers[k]
  let f := decide (s.phase k = phFault)
  let s1 := s.modCg k fun g => { g with clear := false, restart := false }
  if (g.clear && g.restart) || (g.clear && f) || (g.restart && !f) then s1.enterPhase k phQualify
  else match s1.cgFaultOf k with
    | some e => s1.cgFault k e
    | none => match s1.restDue k with
      | some w => s1.enterRest k w
      | none => s1.cgExit k m

/-- Does the PACK charger stand still: SRC names no feed (R333)? -/
def State.packHeld (s : State) (k : Fin 25) : Bool :=
  k.val == 24 && !(s.get F.HSE_SEL_STAT.SRC == 1 || s.get F.HSE_SEL_STAT.SRC == 2)

/-- The house stage's current limit in A (R332): 12 A per healthy leg with fewer than five of them. -/
def State.houseLim (s : State) (full : Nat) : Nat :=
  let n := 6 - s.house.legBad.length
  if 5 ≤ n then full else min full (12 * n)

/-- The credits of the PACK charger by its own record: returns on their way are no longer its (R347). -/
def State.packHas (s : State) : Nat :=
  s.get F.LG_HOUSE.CHG - ((s.ledger.backs.filter fun b => b.who == 24).map fun b => b.cont).foldl (· + ·) 0

/-- The PACK charger asks the ledger for the credits its target takes, and returns what it does not need
(R338, R341). -/
def State.packAsk (s : State) (t vm : Nat) : State :=
  let want := (t * vm + 99999999999) / 100000000000
  let have' := s.packHas
  if have' < want then
    State.flit { s with ledger := { s.ledger with
      asks := s.ledger.asks.filter (fun a => a.who != 24) ++ [⟨24, want - have', 0⟩] } } 6 1 0
  else if want < have' then
    State.flit { s with ledger := { s.ledger with backs := s.ledger.backs ++ [⟨24, have' - want, 0⟩] } } 6 1 0
  else s

/-- Can the house stage drive PACK: its domains are on, and the PACK switch is not open (Table 01-7, R332)? -/
def State.packLive (s : State) : Bool := s.domOn 80 && s.domOn 81 && !s.house.packOff

/-- BUS stands 0.5 V above the connected feed: sinking channels return power, and PACK takes the surplus with no credits
(R344). -/
def State.busSurplus (s : State) : Bool :=
  let f := s.get F.HSE_SEL_STAT.SRC
  (f == 1 || f == 2) &&
    decide (i64 (s.rd64 (R.HSE_M_LO (4 * (f - 1))) (R.HSE_M_HI (4 * (f - 1)))) + 500000000 ≤
      i64 (s.rd64 (R.HSE_M_LO 15) (R.HSE_M_HI 15)))

/-- The PACK charger's current (Table 12-5): its phase's target within ICHG_MAX, its credits and the house
stage's limit; the other chargers' current is set each sample (R165). A surplus on BUS adds a current that no credits
bound and no command delivers: it is free up to the other bounds (R344). -/
def State.packCurrent (s : State) (k : Fin 25) (m : TickMeans) : State :=
  if k.val ≠ 24 then s
  else
    let t := if !s.packLive || s.linkDown 6 || decide (3 ≤ s.get (F.THM_STAT.LEVEL 6)) then 0 else s.cgTarget k
    let inp : Int := (s.houseLim (s.get F.PK_DIS.ICHG_MAX) : Int) * 1000000
    let vm := max m.vbat.natAbs 50000
    let cr : Int := ((s.packHas * 100000000000 / vm : Nat) : Int)
    let top := max 0 (min t inp)
    let own := max 0 (min top cr)
    let (x, s0) := if s.busSurplus then s.fresh else (0, s)
    let i := own + (x : Int) % (top - own + 1)
    let s1 := (s0.setb (F.CG_STAT.BIND_INPUT k) (inp < t)).setb (F.CG_STAT.BIND_CREDIT k) (i < top)
    (s1.seti (F.CG_IEFF.I_CHG k) i).packAsk top.toNat vm

/-- The coulomb count of PK_SOC over one tick (R335): I_PACK in µA against PK_CAP in mAh, in ppm. -/
def State.packCount (s : State) (k : Fin 25) (m : TickMeans) : State :=
  if k.val ≠ 24 then s
  else
    let cap : Int := (max 1 (s.get (F.CG_CAP.CAP k)) : Nat) * 3600
    let q := s.house.socRes + m.ibat
    let s1 := s.set F.PK_SOC.SOC (clampI 0 1000000 ((s.get F.PK_SOC.SOC : Int) + tdiv q cap)).toNat
    { s1 with house := { s1.house with socRes := q - tdiv q cap * cap } }

/-- The temperature of each second of CC under NIMH, for the last 60 s (R159). -/
def State.nimhTemp (s : State) (k : Fin 25) : State :=
  if s.phase k = phCc && s.nimh k && (s.chargers[k]).holdoff % 1000 == 0 then
    s.modCg k fun g => { g with temps := (g.lastT.getD 250 :: g.temps).take 61 }
  else s

/-- One tick (R153, R157). -/
def State.cgTick (s : State) (k : Fin 25) (m : TickMeans) : State :=
  let s1 := ((((s.modCg k fun g => { g with moved := false }).zoneParams k).updZone k).countTick k).nimhTemp k
  let s2 := s1.modCg k fun g => { g with holds := s1.cgHolds k m, vHist := (m.vbat :: g.vHist).take 200 }
  (s2.cgTests k m).packCurrent k m

/-- R157. -/
def execChargeTick (k : Fin 25) (m : TickMeans) (s : State) : Out :=
  .next (
    let s1 := s.packCount k m
    if (s1.chargers[k]).running && !s1.packHeld k then s1.cgTick k m else s1)

/-! ### Timers, NiMH, BAT_OV -/

/-- Has T_TOTAL expired, in a phase it covers? -/
def State.totalDue (s : State) (k : Fin 25) : Bool :=
  let t := s.get (F.CG_TMR_3.TB k)
  decide (1 ≤ s.phase k ∧ s.phase k ≤ 4) && t != 0 && decide (t * 1000 ≤ (s.chargers[k]).totalMs)

/-- Has the phase timer expired (R160)? A T_QUAL of 0 acts as 1 s, a T_TOPOFF of 0 as expired. -/
def State.phaseDue (s : State) (k : Fin 25) : Bool :=
  let g := s.chargers[k]
  let due := fun (t ms : Nat) => t != 0 && decide (t * 1000 ≤ ms)
  match s.phase k with
  | 0 => due (max 1 (s.get (F.CG_TMR_0.TA k))) g.phaseMs
  | 1 => due (s.get (F.CG_TMR_0.TB k)) g.phaseMs
  | 2 => due (s.get (F.CG_TMR_1.TA k)) g.phaseMs
  | 3 => due (s.get (F.CG_TMR_1.TB k)) g.phaseMs
  | 4 => s.get (F.CG_TMR_2.TA k) == 0 || due (s.get (F.CG_TMR_2.TA k)) g.phaseMs
  | 5 => due (s.get (F.CG_TMR_2.TB k)) g.phaseMs
  | 8 => due (s.get (F.CG_TMR_3.TA k)) g.restMs
  | _ => false

/-- What the expiry of the phase timer does (Table 06-2, Table 06-5); TOTAL_TMO goes before the phase's code. -/
def State.phaseExpiry (s : State) (k : Fin 25) : State :=
  if s.totalDue k then s.cgFault k 0x05
  else match s.phase k with
    | 0 => s.cgFault k 0x02
    | 1 => s.cgFault k 0x03
    | 2 => s.cgFault k 0x04
    | 3 => (s.set (F.CG_LATCH.CV_TMO k) 1).enterPhase k (s.afterCv k)
    | 4 => s.enterPhase k (if s.is (F.CG_CFG.MAINT_EN k) then phMaintain else phDone)
    | 5 => s.enterPhase k phDone
    | 8 => s.cgFault k 0x06
    | _ => s

/-- R160. -/
def execPhaseTimerExpiry (k : Fin 25) (s : State) : Out :=
  .next (if (s.chargers[k]).running && !(s.chargers[k]).moved && s.phaseDue k then s.phaseExpiry k else s)

/-- R170. -/
def execTotalTimerExpiry (k : Fin 25) (s : State) : Out :=
  .next (if (s.chargers[k]).running && !(s.chargers[k]).moved && s.totalDue k then s.cgFault k 0x05 else s)

/-- R159: the two terminations, once a second after the holdoff. -/
def State.nimhTest (s : State) (k : Fin 25) (v : Int) : State :=
  let thr : Int := (s.get (F.CG_NIMH.DV_THR k) : Int) * 10
  let s1 := s.modCg k fun g => { g with
    peak := some (max (g.peak.getD v) v)
    below := match g.peak with
      | some p => if v ≤ p - thr then g.below + 1 else 0
      | none => 0 }
  let temps := (s.chargers[k]).temps
  let dv := s.is (F.CG_CFG.DV_EN k) && decide (2 ≤ (s1.chargers[k]).below)
  let dt := s.is (F.CG_CFG.DTDT_EN k) && s.is (F.CG_CFG.THERM_EN k) && decide (61 ≤ temps.length) &&
    decide ((s.get (F.CG_NIMH.DTDT_THR k) : Int) ≤ temps.headD 0 - temps.getLastD 0)
  if dv || dt then
    let s2 := if dv then s1.set (F.CG_LATCH.DV_TERM k) 1 else s1
    let s3 := if dt then s2.set (F.CG_LATCH.DTDT_TERM k) 1 else s2
    s3.enterPhase k (s3.afterCv k)
  else s1

/-- R159. -/
def execNimhTerminationTest (k : Fin 25) (vMean : Int) (s : State) : Out :=
  .next (
    let g := s.chargers[k]
    if g.running && !g.moved && s.phase k == phCc && s.nimh k && decide (s.get (F.CG_NIMH.HOLDOFF k) * 10000 < g.holdoff) then
      s.nimhTest k vMean
    else s)

/-- R170, Table 06-5: V_BAT above V_OVP in 40 consecutive samples. -/
def execBatOv (k : Fin 25) (s : State) : Out :=
  .next (if (s.chargers[k]).running && s.phase k != phFault then s.cgFault k 0x01 else s)

/-! ### CG_CTRL -/

/-- CLEAR or RESTART, taken up at the next tick of a running charger (R157, R171). -/
def State.cgCtl (s : State) (k : Fin 25) (clear restart : Bool) : State :=
  if (s.chargers[k]).running then
    s.modCg k fun g => { g with clear := g.clear || clear, restart := g.restart || restart }
  else s

/-- A column of Table 06-6: voltages V_CV, V_FLOAT, V_PRE, V_RECHG, V_OVP in mV; currents I_CC, I_PRE, I_TERM,
I_MAINT in thousandths of C; T_QUAL, T_PRE, T_CC, T_CV, T_TOPOFF, T_MAINT, T_REST, T_TOTAL in s; flags 4:0 of
CG_CFG; T1 to T4 in °C; COOL_PCT, WARM_PCT; WARM_DV in mV, TCOMP and DV_THR in 0.1 mV. -/
def presetOf (chem : Nat) : List Nat × List Nat × List Nat × Nat × List Int × List Nat × List Int :=
  match chem with
  | 0 => ([4200, 4100, 3000, 100, 4350], [500, 100, 50, 0], [10, 1800, 14400, 7200, 0, 0, 7200, 36000], 0b00011,
          [0, 10, 45, 60], [50, 100], [100, 0, 0])
  | 1 => ([3600, 3400, 2500, 150, 3750], [500, 100, 50, 0], [10, 1800, 14400, 7200, 0, 0, 7200, 36000], 0b00011,
          [0, 10, 45, 55], [50, 100], [100, 0, 0])
  | 2 => ([2450, 2275, 1750, 350, 2600], [250, 50, 20, 250], [10, 7200, 36000, 14400, 0, 0, 7200, 64800], 0b00111,
          [-20, 0, 45, 55], [50, 100], [0, -40, 0])
  | 3 => ([2400, 2250, 1750, 300, 2550], [200, 50, 20, 200], [10, 7200, 36000, 14400, 0, 0, 7200, 64800], 0b00111,
          [-20, 0, 45, 55], [50, 100], [0, -50, 0])
  | _ => ([1600, 1600, 1000, 300, 1700], [500, 100, 0, 25], [10, 3600, 10800, 0, 1800, 0, 7200, 14400], 0b11101,
          [0, 10, 40, 50], [50, 50], [0, 0, 50])

/-- Store a preset's currents, clamped to 20 A (R167). -/
def State.presetCurrents (s : State) (k : Fin 25) (cap : Nat) : List (Fld × Nat) → State
  | [] => s
  | (f, m) :: l =>
    let i := m * cap
    let s1 := s.set f (min i 20000000)
    (if 20000000 < i then s1.set (F.CG_LATCH.PRESET_CLAMP k) 1 else s1).presetCurrents k cap l

/-- Store a list of fields. -/
def State.setAll (s : State) : List (Fld × Nat) → State
  | [] => s
  | (f, v) :: l => (s.set f v).setAll l

/-- R167: load the preset of CG_CFG.CHEM. -/
def State.loadPreset (s : State) (k : Fin 25) : State :=
  let (v, i, t, flags, z, pct, adj) := presetOf (s.get (F.CG_CFG.CHEM k))
  let n := s.get (F.CG_CFG.NCELL k)
  let volt := fun (j : Nat) => v.getD j 0 * 100 * n
  if n = 0 || 40 < n || 6000000 < volt 4 then s.set (F.CG_STAT.CFG_REJ k) 1
  else
    let s1 := s.setAll [(F.CG_V_CV.VALUE k, volt 0), (F.CG_V_FLOAT.VALUE k, volt 1), (F.CG_V_PRE.VALUE k, volt 2),
      (F.CG_V_RECHG.VALUE k, volt 3), (F.CG_V_OVP.VALUE k, volt 4)]
    let s2 := s1.presetCurrents k (s.get (F.CG_CAP.CAP k))
      [(F.CG_I_CC.VALUE k, i.getD 0 0), (F.CG_I_PRE.VALUE k, i.getD 1 0), (F.CG_I_TERM.VALUE k, i.getD 2 0),
       (F.CG_I_MAINT.VALUE k, i.getD 3 0)]
    let s3 := s2.setAll [(F.CG_TMR_0.TA k, t.getD 0 0), (F.CG_TMR_0.TB k, t.getD 1 0), (F.CG_TMR_1.TA k, t.getD 2 0),
      (F.CG_TMR_1.TB k, t.getD 3 0), (F.CG_TMR_2.TA k, t.getD 4 0), (F.CG_TMR_2.TB k, t.getD 5 0),
      (F.CG_TMR_3.TA k, t.getD 6 0), (F.CG_TMR_3.TB k, t.getD 7 0), (⟨R.CG_CFG k, 4, 0⟩, flags),
      (F.CG_ZONE_T.T1 k, trunc 8 (z.getD 0 0)), (F.CG_ZONE_T.T2 k, trunc 8 (z.getD 1 0)),
      (F.CG_ZONE_T.T3 k, trunc 8 (z.getD 2 0)), (F.CG_ZONE_T.T4 k, trunc 8 (z.getD 3 0)),
      (F.CG_ZONE_ADJ.COOL_PCT k, pct.getD 0 0), (F.CG_ZONE_ADJ.WARM_PCT k, pct.getD 1 0),
      (F.CG_ZONE_ADJ.THYS k, 20)]
    s3.setAll [(F.CG_VADJ.WARM_DV k, trunc 16 (adj.getD 0 0 * n)), (F.CG_VADJ.TCOMP k, trunc 16 (adj.getD 1 0 * n)),
      (F.CG_NIMH.DV_THR k, trunc 16 (adj.getD 2 0 * n)), (F.CG_NIMH.DTDT_THR k, 10), (F.CG_NIMH.HOLDOFF k, 30)]

end Sys2Proof.Machine
end

