-- ==== Sys2Proof/Machine/House.lean ====
section
/-!
DEFINITION. House power (chapter 12): feeds and the selector, the house stage and PACK, HOUSE, and the power
ledger.
-/

namespace Sys2Proof.Machine

/-- Change the house die's state. -/
def State.modHouse (s : State) (f : House → House) : State := { s with house := f s.house }

/-- Change the ledger's state. -/
def State.modLedger (s : State) (f : Ledger → Ledger) : State := { s with ledger := f s.ledger }

/-- Sources of HSE_SEL_STAT.SRC. -/
def srcNone : Nat := 0
def srcPack : Nat := 3
def srcDead : Nat := 4

/-- States of Table 12-1. -/
def fdDown : Nat := 0
def fdQualifying : Nat := 1
def fdQualified : Nat := 2
def fdConnecting : Nat := 3
def fdConnected : Nat := 4
def fdTripped : Nat := 5

/-- State of feed f. -/
def State.feed (s : State) (f : Nat) : Nat := s.get (F.FD_STAT.STATE f)

/-- The source that drives BUS. -/
def State.src (s : State) : Nat := s.get F.HSE_SEL_STAT.SRC

/-- Does SRC name a feed? -/
def State.srcFeed (s : State) : Bool := s.src == 1 || s.src == 2

/-! ### The ledger's accounts (R338, R339) -/

def State.pool (s : State) : Nat := s.get F.LG_POOL.CREDITS
def State.free (s : State) : Nat := s.get F.LG_FREE.CREDITS
def State.burstPool (s : State) : Nat := s.get F.LG_BURST.CREDITS
def State.bfree (s : State) : Nat := s.get F.LG_BFREE.CREDITS
def State.lent (s : State) : Nat := s.get F.LG_LENT.CREDITS

/-- Σ cont_c and Σ burst_c by the ledger's record. -/
def State.sumCont (s : State) : Nat := (allCh.map fun (c : Fin 24) => s.get (F.LG_HELD.CONT c)).foldl (· + ·) 0
def State.sumBurst (s : State) : Nat := (allCh.map fun (c : Fin 24) => s.get (F.LG_HELD.BURST c)).foldl (· + ·) 0

/-- HOUSE, the house account. -/
def State.houseAcct (s : State) : Nat := s.get F.LG_HOUSE.TAP + s.get F.LG_HOUSE.CHG

/-- Table 12-6 for a mean source voltage of v mV: POOL and BURST. -/
def State.poolsAt (s : State) (v : Nat) : Nat × Nat :=
  if s.srcFeed then
    let i := s.get (F.FD_CFG.ILIM (s.src - 1))
    let p := min 6000 (v * i * 96 / 100000)
    (p, min 9000 (v * 3 * i * 96 / 200000) - p)
  else if s.src = srcPack then (min 6000 (v * s.houseLim (s.get F.PK_DIS.IDIS_LIM) * 90 / 100000), 0)
  else (0, 0)

/-- The HOUSE reservation takes what it lacks from FREE, or gives back what it no longer needs; it has the first
claim (R337, R338). -/
def State.tapAdjust (s : State) : State :=
  let want := s.get F.HSE_HOUSE.RSV
  let tap := s.get F.LG_HOUSE.TAP
  let take := min (want - tap) s.free
  let give := tap - want
  (s.set F.LG_HOUSE.TAP (tap + take - give)).set F.LG_FREE.CREDITS (s.free - take + give)

/-! ### Serving requests (R342, R343) -/

/-- A grant leaves for tile c: the ledger debits at once, the tile credits at CREDIT_GRANT (R347). -/
def State.grantTo (s : State) (c cont burst : Nat) : State :=
  if cont + burst = 0 || (c == 24 && s.linkDown 6) then s
  else if c = 24 then
    ((s.set F.LG_HOUSE.CHG (s.get F.LG_HOUSE.CHG + cont)).set F.LG_FREE.CREDITS (s.free - cont)).flit 6 0 0
  else
    let s1 := (s.set (F.LG_HELD.CONT c) (s.get (F.LG_HELD.CONT c) + cont)).set (F.LG_HELD.BURST c)
      (s.get (F.LG_HELD.BURST c) + burst)
    let s2 := (s1.set F.LG_FREE.CREDITS (s.free - cont)).set F.LG_BFREE.CREDITS (s.bfree - burst)
    (s2.modLedger fun l =>
      { l with grants := l.grants ++ [⟨c, cont, burst⟩], recent := c :: l.recent.filter (· != c) }).flit (c / 4) 0 0

/-- Serve the continuous requests in order of arrival: in full while FREE covers them; else the charger gives its
credits back first, and then what FREE holds is granted and the rest waits at the head. -/
def State.serveCont (s : State) : Nat → State
  | 0 => s
  | n + 1 =>
    match s.ledger.queue.find? (fun q => q.1 != 24) with
    | some q =>
      if q.2 ≤ s.free then
        ((s.grantTo q.1 q.2 0).modLedger fun l => { l with queue := l.queue.filter (· != q) }).serveCont n
      else if s.ledger.chgCall then s
      else if s.get F.LG_HOUSE.CHG ≠ 0 then s.modLedger fun l => { l with chgCall := true }
      else
        let got := s.free
        (s.grantTo q.1 got 0).modLedger fun l =>
          { l with queue := l.queue.map fun x => if x == q then (q.1, q.2 - got) else x }
    | none =>
      match s.ledger.queue with
      | [] => s
      | q :: rest =>
        let got := if s.linkDown 6 then 0 else min q.2 s.free
        let left := if got = q.2 then rest else (q.1, q.2 - got) :: rest
        (s.grantTo q.1 got 0).modLedger fun l => { l with queue := left }

/-- Is the package burst window open, or may it open? -/
def State.windowOk (s : State) : Bool := s.is F.LG_STAT.BWIN || !s.ledger.recover

/-- Serve the burst requests of the channels whose BURST_READY is 1, while the window permits. The first grant
opens the window. -/
def State.serveBurst (s : State) : List (Nat × Nat) → State
  | [] => s
  | q :: rest =>
    let got := min q.2 s.bfree
    if got = 0 || !s.windowOk || !s.is (F.PS_STAT.BURST_READY q.1) then s.serveBurst rest
    else
      let s1 := (s.grantTo q.1 0 got).set F.LG_STAT.BWIN 1
      let s2 := s1.modLedger fun l =>
        { l with bqueue := l.bqueue.filterMap fun x => if x != q then some x
            else if got = q.2 then none else some (q.1, q.2 - got) }
      s2.serveBurst rest

/-- Serve what waits; during a reclaim everything waits (R346). -/
def State.serve (s : State) : State :=
  if s.is F.LG_STAT.RECLAIM then s
  else
    let s1 := s.serveCont 26
    s1.serveBurst s1.ledger.bqueue

/-! ### LENT, rebase and reclaim (R340, R344 to R346) -/

/-- A fall of LENT by d lowers FREE by up to d; the shortfall moves from cont_c to burst_c of the channels with the
most recent grants (R344). -/
def State.moveHeld (s : State) (d : Nat) : List Nat → State
  | [] => s
  | c :: l =>
    let n := min d (s.get (F.LG_HELD.CONT c))
    let s1 := (s.set (F.LG_HELD.CONT c) (s.get (F.LG_HELD.CONT c) - n)).set (F.LG_HELD.BURST c)
      (s.get (F.LG_HELD.BURST c) + n)
    let s2 := s1.modLedger fun g =>
      { g with tiles := g.tiles.modify c fun t => (t.1 - n, t.2 + min n t.1) }
    s2.moveHeld (d - n) l

/-- A shortfall that no channel holding covers comes out of the house account, the charger's credits first, so that the
identities of R338 hold (DESIGN CHOICE, log entry 36). -/
def State.houseFall (s : State) (n : Nat) : State :=
  let x := min n (s.get F.LG_HOUSE.CHG)
  (s.set F.LG_HOUSE.CHG (s.get F.LG_HOUSE.CHG - x)).set F.LG_HOUSE.TAP (s.get F.LG_HOUSE.TAP - (n - x))

/-- LENT falls by d (R344): BFREE rises by d less what moves to burst holdings; a transfer opens the burst window if it
is closed, and is made although the window is refused (R345). -/
def State.lentFall (s : State) (d : Nat) : State :=
  let short := d - s.free
  let moved := min short s.sumCont
  let s1 := (s.set F.LG_LENT.CREDITS (s.lent - d)).set F.LG_FREE.CREDITS (s.free - d)
  let s2 := ((s1.set F.LG_BFREE.CREDITS (s.bfree + (d - moved))).moveHeld moved
    (s.ledger.recent ++ (List.range 24).filter fun c => !s.ledger.recent.contains c)).houseFall (short - moved)
  if moved = 0 || s2.ledger.recover then s2 else s2.set F.LG_STAT.BWIN 1

/-- Take `ceil (excess · above_c / Σ above)` from every channel (Table 12-7). -/
def State.takeAbove (s : State) (excess total : Nat) : List (Fin 24) → State
  | [] => s
  | c :: l =>
    let held := s.get (F.LG_HELD.CONT c)
    let above := held - s.get (F.LG_RSV.RSV c)
    let give := min above ((excess * above + total - 1) / max 1 total)
    (s.set (F.LG_HELD.CONT c) (held - give)).takeAbove excess total l

/-- Scale every holding down to num / den of itself (Table 12-7). -/
def State.scaleHeld (s : State) (num den : Nat) : List (Fin 24) → State
  | [] => s
  | c :: l => (s.set (F.LG_HELD.CONT c) (s.get (F.LG_HELD.CONT c) * num / max 1 den)).scaleHeld num den l

/-- Set every burst holding to 0. -/
def State.dropBurst (s : State) : List (Fin 24) → State
  | [] => s
  | c :: l => (s.set (F.LG_HELD.BURST c) 0).dropBurst l

/-- SWITCHING: a connection or a reclaim is in progress. -/
def State.updSwitching (s : State) : State :=
  s.setb F.HSE_SEL_STAT.SWITCHING (s.is F.LG_STAT.RECLAIM || s.feed 0 == fdConnecting || s.feed 1 == fdConnecting)

/-- The reclaim of R346 at t0: messages in flight are void, and the tiles keep their old holdings until they
acknowledge. -/
def State.reclaim (s : State) : State :=
  let s1 := (s.set F.LG_HOUSE.CHG 0).dropBurst allCh
  let used := s1.sumCont + s1.get F.LG_HOUSE.TAP
  let s2 :=
    if used ≤ s1.pool then s1
    else
      let excess := used - s1.pool
      let above := (allCh.map fun (c : Fin 24) => s1.get (F.LG_HELD.CONT c) - s1.get (F.LG_RSV.RSV c)).foldl (· + ·) 0
      let a := s1.takeAbove excess above allCh
      let left := a.sumCont + a.get F.LG_HOUSE.TAP
      if left ≤ s1.pool then a
      else ((a.scaleHeld s1.pool left allCh).set F.LG_HOUSE.TAP (a.get F.LG_HOUSE.TAP * s1.pool / max 1 left)).set
        F.LG_STAT.RSV_CUT 1
  let s3 := (s2.set F.LG_FREE.CREDITS (s2.pool - s2.sumCont - s2.get F.LG_HOUSE.TAP)).set F.LG_BFREE.CREDITS s2.burstPool
  let s4 := ((s3.set F.LG_STAT.RECLAIM 1).inc F.LG_STAT.RECLAIMS).set F.LG_STAT.BWIN
    (if s.is F.LG_STAT.BWIN then 0 else s.get F.LG_STAT.BWIN)
  let s5 := s4.modLedger fun l =>
    { l with grants := [], backs := [], chgCall := false, recover := l.recover || s.is F.LG_STAT.BWIN }
  s5.updSwitching

/-- A rebase (R340) with a mean source voltage of v mV. -/
def State.rebase (s : State) (v : Nat) : State :=
  let s1 := s.lentFall s.lent
  let (p, b) := s1.poolsAt v
  let s2 := ((s1.set F.LG_POOL.CREDITS p).set F.LG_BURST.CREDITS b).modLedger fun l => { l with vBase := v }
  if p < s2.sumCont + s2.houseAcct || b < s2.sumBurst then s2.reclaim
  else
    let s3 := (s2.set F.LG_FREE.CREDITS (p - s2.sumCont - s2.houseAcct)).set F.LG_BFREE.CREDITS (b - s2.sumBurst)
    s3.tapAdjust.serve

/-- R340: the connected feed's mean voltage over 1 ms differs by more than 2 V from V. -/
def execLedgerRebase (vfeed : Nat) (s : State) : Out :=
  .next (
    let v := s.ledger.vBase
    if s.srcFeed && (v + 2000 < vfeed || vfeed + 2000 < v) then s.rebase vfeed else s)

/-! ### The selector (R323 to R328, R330) -/

/-- The charger stands still while SRC is PACK or DEAD; it restarts in QUALIFY when SRC returns to a feed after
PACK (`restart`), and is enabled by the first feed (R333). -/
def State.packFollow (s : State) (restart : Bool) (new : Nat) : State :=
  if new = 1 || new = 2 then
    if s.is F.PK_DIS.PK_EN && (!(s.chargers[24]).running || restart) then
      s.cgStart 24 (tdiv (i64 (s.rd64 (R.HSE_M_LO 9) (R.HSE_M_HI 9))) 1000000)
    else s
  else s.seti (F.CG_IEFF.I_CHG 24) 0

/-- SRC takes a new value; a change to a feed or PACK counts and is a house event. A loss of BUS ends HOUSE. -/
def State.setSrc (s : State) (new : Nat) : State :=
  let cur := s.src
  let old := if cur = srcDead then s.house.before else cur
  let s1 := (s.set F.HSE_SEL_STAT.SRC new).modHouse fun h =>
    { h with before := if new = srcDead then cur else h.before,
             packRan := new == srcPack || (h.packRan && new != 1 && new != 2) }
  let s2 := s1.packFollow s.house.packRan new
  if new = srcDead then s2
  else
    let s3 := if new = srcNone then s2 else s2.incWrap F.HSE_SEL_STAT.SWCNT
    s3.houseEvt 0x01 (new + 16 * old)

/-- The feeds that count as qualified for the selector, the one that PRI names first; a feed under test does not
(Table 20-3). -/
def State.pickFeeds (s : State) (tested : Bool) : List Nat :=
  let p := s.get F.HSE_SEL_CFG.PRI
  [p, 1 - p].filter fun f => s.feed f == fdQualified && s.house.failed != some f && (tested || !s.feedTested f)

/-- The feed that the selector takes. -/
def State.pickFeed (s : State) : Option Nat := (s.pickFeeds false).head?

/-- With SRC NONE or PACK, no connection and no reclaim in progress, the selector begins to connect a qualified
feed (R323, R328). -/
def State.selTry (s : State) : State :=
  if (s.src == srcNone || s.src == srcPack) && !s.is F.HSE_SEL_STAT.SWITCHING then
    match s.pickFeed with
    | some f => (s.set (F.FD_STAT.STATE f) fdConnecting).updSwitching
    | none => s
  else s

/-- R322. -/
def execFeedQualified (f : Fin 2) (s : State) : Out :=
  .next (
    if s.feed f ≤ fdQualifying then
      ((s.set (F.FD_STAT.STATE f) fdQualified).houseEvt 0x03 f).selTry
    else s)

/-- R322: the feed is not connected and its voltage leaves the window; below 20 V it is DOWN. -/
def execFeedDisqualify (f : Fin 2) (down : Bool) (s : State) : Out :=
  .next (if s.feed f ≤ fdQualified then s.set (F.FD_STAT.STATE f) (if down then fdDown else fdQualifying) else s)

/-- A connected or connecting feed fails (R324, R330): it leaves for state `st` with latch bit `bit`, FAILOVER is
set and HSE_FEED_f asserts; SRC reads DEAD where it named the feed. -/
def State.feedFail (s : State) (f st : Nat) (bit : Fld) : State :=
  if s.feed f = fdConnecting || s.feed f = fdConnected then
    let s1 := ((s.set (F.FD_STAT.STATE f) st).set bit 1).set (F.FD_LATCH.FAILOVER f) 1
    let s2 := ((s1.set (F.FD_STAT.REV f) 0).modHouse fun h =>
      { h with opened := h.opened.filter (· != f), failed := if s.src = f + 1 then some f else h.failed }).updSwitching
    let s3 := s2.assertL (326 + f) 1 0 (s2.rd (R.FD_LATCH f))
    let s4 := s3.houseEvt 0x02 (f + 256 * (s3.rd (R.FD_LATCH f)).toNat)
    if s4.src = f + 1 then (s4.setSrc srcDead).modHouse fun h => { h with target := none }
    else s4.selTry
  else s

/-- R324. -/
def execFeedFailure (f : Fin 2) (high : Bool) (s : State) : Out :=
  .next (s.feedFail f fdQualifying (if high then F.FD_LATCH.OV f else F.FD_LATCH.UV f))

/-- R324, Table 12-3. -/
def execFeedFastTrip (f : Fin 2) (s : State) : Out := .next (s.feedFail f fdTripped (F.FD_LATCH.FAST f))

/-- R324, Table 12-3. -/
def execFeedBurstTrip (f : Fin 2) (s : State) : Out := .next (s.feedFail f fdTripped (F.FD_LATCH.BURST f))

/-- R324, Table 12-3. -/
def execFeedTimedTrip (f : Fin 2) (s : State) : Out := .next (s.feedFail f fdTripped (F.FD_LATCH.TIMED f))

/-- R326, R328. -/
def execInrushFail (f : Fin 2) (s : State) : Out :=
  .next (if s.feed f = fdConnecting then s.feedFail f fdTripped (F.FD_LATCH.INRUSH_FAIL f) else s)

/-- R325, R327: DEAD has passed. `level`: BUS is at the feed voltage − 1 V or more, so that the switches turn
fully on at once (R326); v is the new source's mean voltage in mV. A test of the feed or of PACK that is needed ends
(Table 20-4). -/
def execSwitchoverConnect (level : Bool) (v : Nat) (s : State) : Out :=
  .next (
    if s.src ≠ srcDead then s
    else
      let pick := match s.house.target with
        | some f => if s.feed f = fdQualified && !s.feedTested f then some f else s.pickFeed
        | none => s.pickFeed
      let pick := pick.or (s.pickFeeds true).head?
      let s0 := s.modHouse fun h => { h with target := none, failed := none }
      let s0 := s0.ltCloseAt 3 2 (match pick with
        | some f => feedLinks f
        | none => [packLink])
      match pick with
      | some f =>
        let s1 := s0.set (F.FD_STAT.STATE f) (if level then fdConnected else fdConnecting)
        ((s1.updSwitching).setSrc (f + 1)).rebase v
      | none =>
        (if s.is F.PK_DIS.HOLDUP_EN && s.packLive && s.get (F.THM_STAT.LEVEL 6) != 4 then (s0.setSrc srcPack).rebase v
          else (s0.setSrc srcNone).rebase 0).selTry)

/-- R326, R328: BUS is within 1 V of the connecting feed. The first inrush frees the domains that draw from BUS, and
the discharge that boot step 6 left out (R494);
a feed that returns takes over from PACK. -/
def execInrushComplete (f : Fin 2) (v : Nat) (s : State) : Out :=
  .next (
    if s.feed f ≠ fdConnecting then s
    else
      let s1 := (s.set (F.FD_STAT.STATE f) fdConnected).updSwitching
      let s1 := if s1.boot.drain && 6 ≤ s1.get F.BOOT_STAT.STEP && s1.get F.BOOT_STAT.STEP ≤ 8 then s1.bootDrain else s1
      let s2 := s1.modHouse fun h => { h with started := true, failed := none }
      if s2.src = srcNone || s2.src = srcPack then (s2.setSrc (f + 1)).rebase v else s2)

/-- A planned switchover to feed f (R327): the connected feed opens and SRC reads DEAD. -/
def State.planned (s : State) (f : Nat) : State :=
  let s1 := (s.set (F.FD_STAT.STATE (1 - f)) fdQualified).set (F.FD_STAT.REV (1 - f)) 0
  (s1.setSrc srcDead).modHouse fun h => { h with target := some f, failed := none, opened := [] }

/-- R327. -/
def execReturnToPriority (s : State) : Out :=
  .next (
    let p := s.get F.HSE_SEL_CFG.PRI
    if s.is F.HSE_SEL_CFG.RET_EN && s.src == 2 - p && s.feed p == fdQualified && !s.feedTested p && !s.is F.HSE_SEL_STAT.SWITCHING then
      s.planned p
    else s)

/-- A write of HSE_SEL_CTRL (R327, R330). -/
def State.selGoto (s : State) (w : Word) : State :=
  let f := bitsOf w 0 0
  if !bitOf w 1 then s
  else if s.feed f ≠ fdQualified || s.feedTested f || !s.srcFeed || s.is F.HSE_SEL_STAT.SWITCHING then s.set F.HSE_SEL_STAT.CFG_REJ 1
  else s.planned f

/-- R327. -/
def execGoto (rq : Requester) (w : Word) (s : State) : Out :=
  .next (if canWrite rq R.HSE_SEL_CTRL then s.selGoto w else s)

/-- The effect of reading FD_LATCH_f (R322): it is cleared, HSE_FEED_f ends, and TRIPPED ends in QUALIFYING or, below
20 V, in DOWN. -/
def State.readFdLatch (s : State) (f : Nat) : State :=
  let s1 := (s.rclClear (R.FD_LATCH f)).deassertL (326 + f) 1
  if s1.feed f = fdTripped then
    let v := i64 (s1.rd64 (R.HSE_M_LO (4 * f)) (R.HSE_M_HI (4 * f)))
    s1.set (F.FD_STAT.STATE f) (if v < 20000000000 then fdDown else fdQualifying)
  else s1

/-- R322. -/
def execFdLatchRead (_ : Requester) (f : Fin 2) (s : State) : Out := .next (s.readFdLatch f)

/-- R321: current towards the feed; with REV_EN 0 the switches open above 5 A. -/
def execFeedReverseCurrent (f : Fin 2) (s : State) : Out :=
  .next (
    if s.feed f = fdConnecting || s.feed f = fdConnected then
      if s.is (F.FD_CFG.REV_EN f) then s.set (F.FD_STAT.REV f) 1
      else s.modHouse fun h => { h with opened := f.val :: h.opened.filter (· != f.val) }
    else s)

/-- R321: BUS falls below the feed voltage. -/
def execFeedDiodeReclose (f : Fin 2) (s : State) : Out :=
  .next ((s.set (F.FD_STAT.REV f) 0).modHouse fun h => { h with opened := h.opened.filter (· != f.val) })

/-! ### FWARN_N (R331) -/

/-- Is PK_SOC below SOC_WARN while PACK drives BUS? -/
def State.lowPack (s : State) : Bool :=
  s.src == srcPack && decide (s.get F.PK_SOC.SOC < 10000 * s.get F.HSE_FWARN.SOC_WARN)

/-- Is the connected feed the last one? -/
def State.lastFeed (s : State) : Bool :=
  [0, 1].any fun f => s.feed f == fdConnected && s.feed (1 - f) != fdQualified

/-- R331: 0 low feed, 1 falling feed, 2 low pack. -/
def execFwarnAssert (why : Fin 3) (s : State) : Out :=
  .next (
    if !s.is F.HSE_SEL_STAT.FWARN && (if why = 2 then s.lowPack else s.lastFeed) then
      (s.set F.HSE_SEL_STAT.FWARN 1).houseEvt 0x04 why
    else s)

/-- R331. -/
def execFwarnRelease (s : State) : Out := .next (if s.lowPack then s else s.set F.HSE_SEL_STAT.FWARN 0)

/-! ### House stage, PACK and HOUSE (R332, R334, R336) -/

/-- R332. -/
def State.houseLegFence (s : State) (k : Fin 6) : State :=
  if s.house.legBad.contains k.val then s
  else
    let s1 := (s.modHouse fun h => { h with legBad := k.val :: h.legBad }).set F.PK_LATCH.HLEG 1
    s1.assertL 328 1 k (s1.rd R.PK_LATCH)

/-- R332. -/
def execHouseLegFence (k : Fin 6) (s : State) : Out := .next (s.houseLegFence k)

/-- PACK no longer drives BUS: the house stage stops and SRC reads NONE (R334). -/
def State.packStop (s : State) : State :=
  if s.src = srcPack then ((s.setSrc srcNone).rebase 0).selTry else s

/-- R332. -/
def execPackSwitchTrip (s : State) : Out :=
  .next (
    let s1 := (s.set F.PK_LATCH.SW_TRIP 1).modHouse fun h => { h with packOff := true }
    (s1.raise 329 1 0 (s1.rd R.PK_LATCH)).packStop)

/-- R334. -/
def execPackCutoff (s : State) : Out :=
  .next (
    if s.src = srcPack then
      let v := (i64 (s.rd64 (R.HSE_M_LO 8) (R.HSE_M_HI 8))).toNat / 100000000
      ((s.set F.PK_LATCH.CUTOFF 1).packStop).houseEvt 0x05 v
    else s)

/-- Is HOUSE switched on (R336, R337)? -/
def State.houseOn (s : State) : Bool :=
  s.is F.HSE_HOUSE.EN && s.house.started && s.src != srcNone && !s.house.tripped

/-- R336: the limit held for HT, or 3 × HLIM (`fast`); both trip. -/
def execHouseTrip (_ : Bool) (s : State) : Out :=
  .next (
    if s.houseOn then
      let s1 := (s.modHouse fun h => { h with tripped := true }).set F.HSE_LATCH.HOUSE_TRIP 1
      (s1.raise 330 1 0 (s1.rd R.HSE_LATCH)).houseEvt 0x06 (s1.get F.HSE_HOUSE.RETRY - s1.house.retries)
    else s)

/-- R336: 100 ms after a trip. -/
def execHouseRetry (s : State) : Out :=
  .next (
    if s.house.tripped && s.is F.HSE_HOUSE.EN && decide (s.house.retries < s.get F.HSE_HOUSE.RETRY) then
      s.modHouse fun h => { h with tripped := false, retries := h.retries + 1 }
    else s)

/-- R336: 10 s without a trip. -/
def execHouseRetryCountRestart (s : State) : Out :=
  .next (if s.house.tripped then s else s.modHouse fun h => { h with retries := 0 })

/-! ### Credits (R341 to R343, R346) -/

/-- R346: every affected tile has applied its new holding; the charger's current is 0. -/
def execReclaimComplete (s : State) : Out :=
  .next (
    if s.is F.LG_STAT.RECLAIM then
      let held := allCh.map fun (c : Fin 24) => (s.get (F.LG_HELD.CONT c), s.get (F.LG_HELD.BURST c))
      let s1 := ((s.set F.LG_STAT.RECLAIM 0).modLedger fun l => { l with tiles := held }).updSwitching
      let s2 := (s1.seti (F.CG_IEFF.I_CHG 24) 0).setb (F.CG_STAT.BIND_CREDIT 24)
        (s1.is (F.CG_STAT.BIND_CREDIT 24) || s1.is (F.CG_IEFF.I_CHG 24))
      ((s2.houseEvt 0x07 s2.pool).tapAdjust.serve).selTry
    else s)

/-- The continuous cap of channel c: 105 % of P_CONT (in 5 W) plus HEADROOM (R341). -/
def State.contCap (s : State) (c : Fin 24) : Nat :=
  105 * 5 * s.get (F.PS_RATING.P_CONT c) / 100 + s.get F.LG_CFG.HEADROOM

/-- Tile c gives credits back: burst credits first, and a return message leaves (R341). -/
def State.giveBack (s : State) (c : Fin 24) (n : Nat) : State :=
  let t := s.ledger.tiles.getD c (0, 0)
  let b := min n t.2
  let a := min (n - b) t.1
  if a + b = 0 then s
  else (s.modLedger fun l =>
    { l with tiles := l.tiles.set c (t.1 - a, t.2 - b), backs := l.backs ++ [⟨c, a, b⟩], surplus := l.surplus.set c 0 }).flit
      (c.val / 4) 1 0

/-- R341: a channel that is off or BATFED returns everything, but for one that leaves BATFED and gathers its credits
(R81); else its need, with LG_RSV as the least, is
compared with its holding. `draw` is P_draw_c in mW. -/
def execCreditEvaluation (c : Fin 24) (draw : Int) (s : State) : Out :=
  .next (
    let t := s.ledger.tiles.getD c (0, 0)
    let held := t.1 + t.2
    if (s.ch c).pathF == 3 && (s.ch c).dest.any (· != 3) && s.domOn (3 * c) then s
    else if !s.domOn (3 * c) || (s.ch c).pathF == 3 then s.giveBack c held
    else
      let need := (draw.toNat + 999) / 1000 + s.get F.LG_CFG.HEADROOM
      let step := s.get F.LG_CFG.STEP
      let rsv := s.get (F.LG_RSV.RSV c)
      let cap := s.contCap c
      let floorC := max rsv (need + step)
      if held < need then
        let total := need - held + step
        let cont := min total (cap - t.1)
        s.askFor c cont (if cap < need then total - cont else 0)
      else if held < rsv then s.askFor c (rsv - held) 0
      else if max rsv (need + 2 * step) < held then
        let n := s.ledger.surplus.getD c 0 + 1
        if 100 * s.get F.LG_CFG.RET_HOLD ≤ n then s.giveBack c (held - floorC)
        else s.modLedger fun l => { l with surplus := l.surplus.set c n }
      else s.modLedger fun l => { l with surplus := l.surplus.set c 0 })

/-- Put a request into a queue, in the place of the one that tile has there. -/
def enqueue (who n : Nat) (q : List (Nat × Nat)) : List (Nat × Nat) :=
  if n = 0 then q.filter (fun x => x.1 != who)
  else if q.any (fun x => x.1 == who) then q.map fun x => if x.1 == who then (who, n) else x
  else q ++ [(who, n)]

/-- R342: the oldest request on its way arrives, and the ledger serves. -/
def execCreditRequest (s : State) : Out :=
  .next (match s.ledger.asks with
    | [] => s.serve
    | a :: rest => (s.modLedger fun l =>
        { l with asks := rest, queue := enqueue a.who a.cont l.queue, bqueue := enqueue a.who a.burst l.bqueue }).serve)

/-- R342: the oldest grant reaches its tile. -/
def execCreditGrant (s : State) : Out :=
  .next (match s.ledger.grants with
    | [] => s
    | g :: rest => s.modLedger fun l =>
        { l with grants := rest, tiles := l.tiles.modify g.who fun t => (t.1 + g.cont, t.2 + g.burst) })

/-- R341: the oldest return reaches the ledger. Continuous credits that R344 has moved to the burst holding meanwhile
return from there. -/
def execCreditReturn (s : State) : Out :=
  .next (match s.ledger.backs with
    | [] => s
    | b :: rest =>
      let s1 := s.modLedger fun l => { l with backs := rest }
      let s2 :=
        if b.who = 24 then
          let a := min b.cont (s1.get F.LG_HOUSE.CHG)
          (s1.set F.LG_HOUSE.CHG (s1.get F.LG_HOUSE.CHG - a)).set F.LG_FREE.CREDITS (s1.free + a)
        else
          let a := min b.cont (s1.get (F.LG_HELD.CONT b.who))
          let d := min (b.burst + (b.cont - a)) (s1.get (F.LG_HELD.BURST b.who))
          let x := (s1.set (F.LG_HELD.CONT b.who) (s1.get (F.LG_HELD.CONT b.who) - a)).set
            (F.LG_HELD.BURST b.who) (s1.get (F.LG_HELD.BURST b.who) - d)
          (x.set F.LG_FREE.CREDITS (s1.free + a)).set F.LG_BFREE.CREDITS (s1.bfree + d)
      s2.tapAdjust.serve)

/-- R342: the house tile acknowledges; the charger's credits are free. -/
def execChargerReclaimAck (s : State) : Out :=
  .next (
    if s.ledger.chgCall then
      let n := s.get F.LG_HOUSE.CHG
      let s1 := ((s.set F.LG_HOUSE.CHG 0).set F.LG_FREE.CREDITS (s.free + n)).modLedger fun l =>
        { l with chgCall := false }
      ((s1.setb (F.CG_STAT.BIND_CREDIT 24) (s1.is (F.CG_STAT.BIND_CREDIT 24) || s1.is (F.CG_IEFF.I_CHG 24))).seti
        (F.CG_IEFF.I_CHG 24) 0).serve
    else s)

/-- R343: the window has been open for 100 ms: every burst holding is reclaimed. -/
def execBurstWindowClose (s : State) : Out :=
  .next (
    if s.is F.LG_STAT.BWIN then
      let s1 := (s.set F.LG_BFREE.CREDITS (s.bfree + s.sumBurst)).dropBurst allCh
      (s1.set F.LG_STAT.BWIN 0).modLedger fun l =>
        { l with recover := true, tiles := l.tiles.map (fun t => (t.1, 0)),
                 grants := l.grants.map (fun g => { g with burst := 0 }),
                 backs := l.backs.map (fun g => { g with burst := 0 }) }
    else s)

/-- R343: nine times the window's length has passed. -/
def execBurstWindowRecover (s : State) : Out :=
  .next (if s.ledger.recover && !s.is F.LG_STAT.BWIN then (s.modLedger fun l => { l with recover := false }).serve else s)

/-- R344: `regen` is the lowest Σ max(0, −P_draw) over the last 1 ms, in mW. -/
def execLentUpdate (regen : Nat) (s : State) : Out :=
  .next (
    if s.is F.LG_STAT.RECLAIM then s
    else
      let new := if s.srcFeed then min (96 * regen / 100000) (s.lent + s.bfree) else 0
      if s.lent ≤ new then
        let r := new - s.lent
        (((s.set F.LG_LENT.CREDITS new).set F.LG_FREE.CREDITS (s.free + r)).set F.LG_BFREE.CREDITS (s.bfree - r)).tapAdjust.serve
      else s.lentFall (s.lent - new))

/-! ### BUS high (R344) -/

/-- R344: BUS stands at v mV for a microsecond: above BUS_HI every sink limit falls by 10 % of its value; below
BUS_HI − 1 V it recovers by 1 % of the full limit. -/
def execBusHigh (v : Nat) (s : State) : Out :=
  .next (
    let hi := 1000 * s.get F.HSE_SEL_CFG.BUS_HI
    if hi < v then
      let s1 := (s.modHouse fun h => { h with sink := h.sink * 9 / 10 }).set F.HSE_LATCH.BUS_HIGH 1
      if s.house.sink = 1000000 then s1.houseEvt 0x08 (v / 100) else s1
    else if v + 1000 < hi then s.modHouse fun h => { h with sink := min 1000000 (h.sink + 10000) }
    else s)

/-- R344: BUS passes above 61 V, or returns. -/
def execBusOv (high : Bool) (s : State) : Out :=
  .next (
    if high then
      let s1 := (s.modHouse fun h => { h with busOv := true }).set F.HSE_LATCH.BUS_OV 1
      s1.assertL 331 1 0 (s1.rd R.HSE_LATCH)
    else (s.modHouse fun h => { h with busOv := false }).deassertL 331 1)

end Sys2Proof.Machine
end

