-- ==== Sys2Proof/Machine/PowerDomain.lean ====
section
/-!
DEFINITION. The switched power domains (R20 to R30, Table 01-7).
-/

namespace Sys2Proof.Machine

/-- The domains that domain d depends on, the first to power up first (Table 01-7, R21). -/
def domNeeds (d : Nat) : List Nat :=
  if d < 72 then
    let q := 96 + d / 12
    if d % 3 = 0 then [q, d + 2, d + 1] else if d % 3 = 1 then [q, d + 1] else [q]
  else if d < 80 then [96 + (d - 72) / 4]
  else if d = 80 then [81]
  else []

/-- The domains that depend on domain d. -/
def domUsers (d : Nat) : List Nat := (List.range 102).filter fun e => (domNeeds e).contains d

/-- Does an event record or an armed slot refer to channel c? -/
def State.referred (s : State) (c : Nat) : Bool := s.records.any fun r => r.tkind == 0 && r.mask.testBit c

/-- Is channel c idle: role resolved OFF, OUT_c below 2 V, no record referring to it (Table 01-7)? -/
def State.chIdle (s : State) (c : Fin 24) : Bool :=
  (s.resMode c).role == 0 && decide (i64 (s.rd64 (R.MS_VLOC_LO c) (R.MS_VLOC_HI c)) < 2000000000) && !s.referred c

/-- Reasons of Table 01-8. -/
def denyChActive : Nat := 1
def denyDepOn : Nat := 2
def denyInUse : Nat := 3
def denyFixed : Nat := 4
def denyFenced : Nat := 5

/-- Why domain d may not be switched off now; none when it may (R24, Table 01-7, Table 01-8). -/
def State.offDenied (s : State) (d : Nat) : Option Nat :=
  if s.domFenced d then some denyFenced
  else if d < 72 && d % 3 = 0 then
    match chan? (d / 3) with
    | some c => if s.chIdle c then none else some denyChActive
    | none => none
  else if (domUsers d).any (fun e => s.domOn e || s.get (domStat e) == 2) then some denyDepOn
  else if d < 72 then none
  else if d < 80 then (if bitsOf (s.rd (R.MD_RES (d - 72))) 31 30 = 0 then none else some denyInUse)
  else if d = 80 then
    (if !(s.chargers[24]).running && ([0, 1].any (fun f => decide (2 ≤ s.get (F.FD_STAT.STATE f) ∧ s.get (F.FD_STAT.STATE f) ≤ 4))) then none
     else some denyInUse)
  else if d = 81 then none
  else if d < 85 then some denyFixed
  else if d < 90 then
    (if s.rings.any (fun r => bankOf r.base ≤ d - 82 && d - 82 ≤ bankOf (r.base + r.size * r.slots - 1)) then some denyInUse
     else none)
  else if d < 94 then
    (if (List.finRange 64).any (fun t => t.val / 16 == d - 90 && s.thrLive t) then some denyInUse else none)
  else if d = 94 then (if s.get F.HST_SESS.OPEN = 0 then none else some denyInUse)
  else if d = 95 then (if s.get F.TB_CTRL.SRC ≠ 4 && !s.is F.CHN_CFG.EN then none else some denyInUse)
  else none

/-- Record a refused request in PDOM_DENY (R24). -/
def State.domDeny (s : State) (d reason : Nat) : State :=
  (((s.set F.PDOM_DENY.VALID 1).inc F.PDOM_DENY.COUNT).set F.PDOM_DENY.REASON reason).set F.PDOM_DENY.DOMAIN d

/-- The power stage goes off: battery switch and LINE switch open, legs and inputs too (Table 01-7, R353). -/
def State.stageOff (s : State) (c : Fin 24) : State := (s.openAll c).lineChTrip c

/-- What a domain's power-off does (Table 01-7): its state is OFF, a bank loses its contents, ports go down. A power-off
is complete at once: a domain does not read TRANSITION on its way to OFF, though the example of chapter 01 has channels
that take time to switch off (DESIGN CHOICE, log entry 60). -/
def State.domOff (s : State) (d : Nat) : State :=
  let s1 := s.set (domStat d) 0
  if d < 72 && d % 3 = 0 then
    match chan? (d / 3) with
    | some c => s1.stageOff c
    | none => s1
  else if d = 80 then (s1.seti (F.CG_IEFF.I_CHG 24) 0).packStop
  else if 82 ≤ d && d < 90 then
    { s1 with mem := s1.mem.filter (fun x => !(inQueue x.1 && bankOf x.1 == d - 82))
              ue := s1.ue.filter (fun x => bankOf (8 * x) != d - 82) }
  else if 90 ≤ d && d < 94 then s1.updSlow
  else if d = 94 then (s1.hostLink 0 false).hostLink 1 false
  else if d = 95 then (s1.set (F.CHN_PORT.PSTATE 0) 0).set (F.CHN_PORT.PSTATE 1) 0
  else if 96 ≤ d then
    let q : Fin 7 := ⟨(d - 96) % 7, Nat.mod_lt _ (by decide)⟩
    (if s1.linkDown q then s1 else s1.supForward q false).set (F.SUP_STAT.STATE q) 4
  else s1

/-- Power domain d up with what it depends on, held by request or not (R23). -/
def State.domUp (s : State) (d : Nat) : State :=
  (domNeeds d ++ [d]).foldl (fun s e => if s.get (domStat e) = 0 then s.set (domStat e) 2 else s) s

/-- After a request for a channel's power stage the channel resolves again, and the gang requests that it may have
stood against (R215). -/
def State.domResolve (s : State) (d : Nat) : State :=
  if d < 72 && d % 3 = 0 then
    match chan? (d / 3) with
    | some c => (s.reresolve c).regroup
    | none => s
  else if 72 ≤ d && d < 80 then
    match chan? (d - 72) with
    | some c => s.reresolve c
    | none => s
  else s

/-- An ON request (R23, R27). -/
def State.domReqOn (s : State) (d : Nat) : State :=
  if s.domFenced d then s.domDeny d denyFenced
  else ((s.set (domReq d) 1).domUp d).domResolve d

/-- An OFF request (R24). A domain already off is held OFF. -/
def State.domReqOff (s : State) (d : Nat) : State :=
  match s.offDenied d with
  | some r => s.domDeny d r
  | none => ((s.set (domReq d) 2).domOff d).domResolve d

/-- An AUTO request (R21): domains 80 and up stay on in AUTO, a PHY follows its port's PD role. -/
def State.domReqAuto (s : State) (d : Nat) : State :=
  let s1 := s.set (domReq d) 0
  let s2 :=
    if 80 ≤ d then s1.startDom d
    else if 72 ≤ d && bitsOf (s1.rd (R.MD_RES (d - 72))) 31 30 ≠ 0 then s1.startDom d
    else s1
  s2.domResolve d

/-- One field of a write: AUTO, ON or OFF; 0b11 leaves the field unchanged. -/
def State.domReqOne (s : State) (w : Word) (d : Nat) : State :=
  match bitsOf w (2 * (d % 16) + 1) (2 * (d % 16)) with
  | 0 => if s.get (domReq d) = 0 then s else s.domReqAuto d
  | 1 => s.domReqOn d
  | 2 => s.domReqOff d
  | _ => s

/-- The domains of register n in the order they are switched off: power stages, controls, front ends, then the
others with the supervisors last (R24). -/
def domOrder (n : Nat) : List Nat :=
  let l := (List.range 102).filter fun d => d / 16 == n
  let ch := fun k => l.filter fun d => decide (d < 72) && d % 3 == k
  ch 0 ++ ch 1 ++ ch 2 ++ l.filter fun d => decide (72 ≤ d)

/-- A write of PDOM_REQ_n. -/
def State.pdomWrite (s : State) (n : Nat) (w : Word) : State :=
  (domOrder n).foldl (fun s d => s.domReqOne w d) s

/-- R23. -/
def execPdomOnRequest (rq : Requester) (n : Fin 7) (w : Word) (s : State) : Out :=
  .next (if canWrite rq (R.PDOM_REQ n) then s.pdomWrite n w else s)

/-- R24. -/
def execPdomOffRequest (rq : Requester) (n : Fin 7) (w : Word) (s : State) : Out :=
  .next (if canWrite rq (R.PDOM_REQ n) then s.pdomWrite n w else s)

/-- R21. -/
def execPdomAutoRequest (rq : Requester) (n : Fin 7) (w : Word) (s : State) : Out :=
  .next (if canWrite rq (R.PDOM_REQ n) then s.pdomWrite n w else s)

/-- Switch a domain off under AUTO, when it is ON, in AUTO and may be switched off. -/
def State.autoOff (s : State) (d : Nat) : State :=
  if s.domOn d && s.get (domReq d) = 0 && (s.offDenied d).isNone then s.domOff d else s

/-- R21: channel c has met its switch-off condition for 10 ms: its domains go off in the order power stage,
control, front end; a PHY without a PD role goes off with them. -/
def execPdomAutoOff (c : Fin 24) (s : State) : Out :=
  .next (
    let s1 := if s.chIdle c then ((s.autoOff (3 * c)).autoOff (3 * c + 1)).autoOff (3 * c + 2) else s
    if c.val < 8 then s1.autoOff (72 + c) else s1)

/-- The power stage of channel c reaches ON: the switches take the states of the path in force, and the actions
that waited for it take effect with LATE (R22), those of LINE at once. -/
def State.stageOn (s : State) (c : Fin 24) : State :=
  let l := (s.ch c).delayed
  let s0 := s.modCh c fun h => { h with fires := h.fires ++ l.filter (fun f => f.acode != 0x08), delayed := [],
                                         dead := h.dead && (h.fenced || h.trip != 0) }
  let s1 := (l.filter fun f => f.acode == 0x08).foldl (fun s f => (s.lineReq c (f.arg0 % 4) f.arg1.toNat).2) s0
  let s2 := if (s.ch c).drain then
      s1.modCh c fun h => Chan.modEng { h with disch := true, stopSlew := 0 } fun e => { e with restart := true }
    else s1
  s2.settle c

/-- R22: a domain in TRANSITION reaches ON, after those it depends on; one that draws from BUS waits for the first
inrush (R328). -/
def execPdomPowerUpDone (d : Fin 102) (s : State) : Out :=
  .next (
    let bus := (decide (d.val < 72) && d.val % 3 == 0) || d.val == 80
    if s.get (domStat d) = 2 && (domNeeds d).all s.domOn && (s.house.started || !bus) then
      let s1 := s.set (domStat d) 1
      if d.val < 72 && d.val % 3 = 0 then
        match chan? (d / 3) with
        | some c => s1.stageOn c
        | none => s1
      else if 90 ≤ d.val && d.val < 94 then s1.updSlow
      else if 96 ≤ d.val then s1.set (F.SUP_STAT.STATE (d - 96)) 0
      else s1
    else s)

/-- R20, Table 17-2: a domain misses its power-up time; PDOM asserts until the fence reaction has run. -/
def execPdomNoOn (d : Fin 102) (s : State) : Out :=
  .next (if s.get (domStat d) = 2 then s.assertL 364 1 d else s)

end Sys2Proof.Machine
end

