-- ==== Sys2Proof/Machine/Measure.lean ====
section
/-!
DEFINITION. Measurement, ranging and STILL (chapter 07): ranges, converter units, handovers, statistics
windows, captures, sweeps and accumulators. What a sample does here runs inside CONTROL_SAMPLE.
-/

namespace Sys2Proof.Machine

/-! ### Ranges (R176 to R182) -/

/-- Nominal of current range r in pA (Table 07-3). -/
def rangeNom (r : Nat) : Int := 20000000000000 / (10 ^ r : Nat)

/-- Full scale of current range r in pA. -/
def rangeFs (r : Nat) : Int := rangeNom r * 5 / 4

/-- Full scale of voltage range r in nV. -/
def vrangeFs (r : Nat) : Int := if r = 0 then 62500000000 else 6250000000

/-- The current ranges of a stage. -/
def stageSet (still : Bool) : List Nat := if still then [1, 2, 3, 4, 5] else [0, 1, 2]

/-- Is the active stage STILL for the choice of ranges? The ranges 3 to 5 become available as ACT reads STILL
and leave at the start of the handover out (Tables 07-6, 07-7). -/
def State.stillSet (s : State) (c : Fin 24) : Bool := s.get (F.MS_STAGE.ACT c) == 1

/-- The ranges AUTO may use (R179). -/
def State.autoSet (s : State) (c : Fin 24) : List Nat :=
  let l := stageSet (s.stillSet c)
  let lo := s.get (F.MS_AUTO.ICEIL c)
  let hi := s.get (F.MS_AUTO.IFLOOR c)
  match l.filter fun r => decide (lo ≤ r ∧ r ≤ hi) with
  | [] => if hi < l.headD 0 then [l.headD 0] else [l.getLastD 0]
  | m => m

/-- The element of an ascending list nearest to r. -/
def nearestIn (l : List Nat) (r : Nat) : Nat := if r < l.headD 0 then l.headD 0 else if l.getLastD 0 < r then l.getLastD 0 else r

/-- Is a range change or a handover in progress? -/
def State.ranging (s : State) (c : Fin 24) : Bool :=
  (s.ch c).fe.chg.isSome || decide (2 ≤ s.get (F.MS_STAGE.ACT c))

/-- Start a change to current range r (R181); the hold restarts (R180). -/
def State.startRange (s : State) (c : Fin 24) (r : Nat) : State :=
  if r = s.get (F.MS_RANGE.IACT c) then s.modFe c fun f => { f with heldR := none }
  else (s.set (F.MS_STAT.RCHG c) 1).modFe c fun f => { f with chg := some r, downI := 0, heldR := none }

/-- The range a fixed request asks of the active stage (R179). -/
def State.fixedRange (s : State) (c : Fin 24) : Option Nat :=
  let r := (s.resMode c).irange
  if r ≤ 5 then some (nearestIn (stageSet (s.stillSet c)) r) else none

/-- Apply the held AUTO decision of the voltage range (R182); a fixed request stands before it. -/
def State.heldVRange (s : State) (c : Fin 24) : State :=
  match (s.ch c).fe.heldV with
  | none => s
  | some r =>
    let s1 := s.modFe c fun f => { f with heldV := none }
    if (s.resMode c).vrange = 3 then (s1.set (F.MS_RANGE.VACT c) r).modFe c fun f => { f with downV := 0 } else s1

/-- Apply a held range request, or the held AUTO decisions (R182). -/
def State.heldRange (s0 : State) (c : Fin 24) : State :=
  if s0.ranging c then s0
  else
    let s := s0.heldVRange c
    match s.fixedRange c with
    | some r => s.startRange c r
    | none => match (s.ch c).fe.heldR with
      | some r => s.startRange c (nearestIn (s.autoSet c) r)
      | none => s

/-- The up decision of AUTO (R180), where one is due. -/
def State.autoUp (s : State) (c : Fin 24) (i coarse : Int) : Option Nat :=
  let act := s.get (F.MS_RANGE.IACT c)
  if rangeNom act ≤ max (i.natAbs : Int) coarse.natAbs then
    let l := s.autoSet c
    some (((l.filter fun r => decide ((5 * coarse.natAbs : Nat) ≤ 4 * rangeNom r)).getLast?).getD (l.headD 0))
  else none

/-- DOWN_HOLD in samples. -/
def State.downHold (s : State) (c : Fin 24) : Nat := 40 * s.get (F.MS_AUTO.DOWN_HOLD c)

/-- Current ranging in a sample (R179, R180, R182). -/
def State.rangeStep (s : State) (c : Fin 24) (i coarse : Int) : State :=
  match s.fixedRange c with
  | some r => if s.ranging c then s else s.startRange c r
  | none =>
    let act := s.get (F.MS_RANGE.IACT c)
    let up := s.autoUp c i coarse
    if s.ranging c then
      match up with
      | some r => s.modFe c fun f => { f with heldR := some r, downI := 0 }
      | none => s
    else if !(s.autoSet c).contains act then s.startRange c (nearestIn (s.autoSet c) act)
    else match up with
      | some r => (s.modFe c fun f => { f with downI := 0 }).startRange c r
      | none =>
        match (s.autoSet c).find? fun r => decide (act < r) with
        | none => s.modFe c fun f => { f with downI := 0 }
        | some r =>
          if (10 * i.natAbs : Nat) < 9 * rangeNom r then
            let n := (s.ch c).fe.downI + 1
            if s.downHold c ≤ n then s.startRange c r else s.modFe c fun f => { f with downI := n }
          else s.modFe c fun f => { f with downI := 0 }

/-- An AUTO decision of the voltage range: at once, or held during a range change or a handover (R182). -/
def State.vrangeTo (s : State) (c : Fin 24) (r : Nat) : State :=
  if s.ranging c then s.modFe c fun f => { f with heldV := some r, downV := 0 }
  else (s.set (F.MS_RANGE.VACT c) r).modFe c fun f => { f with downV := 0 }

/-- Voltage ranging in a sample (R180, R182): the change takes place between two samples. -/
def State.vrangeStep (s : State) (c : Fin 24) (v : Int) : State :=
  let m := (s.resMode c).vrange
  if m ≠ 3 then
    if s.ranging c then s else (s.set (F.MS_RANGE.VACT c) (min m 1)).modFe c fun f => { f with downV := 0 }
  else if 6000000000 < v.natAbs then s.vrangeTo c 0
  else if s.get (F.MS_RANGE.VACT c) = 0 && decide (v.natAbs < 5500000000) then
    let n := (s.ch c).fe.downV + 1
    if s.downHold c ≤ n then s.vrangeTo c 1 else s.modFe c fun f => { f with downV := n }
  else s.modFe c fun f => { f with downV := 0 }

/-- R182: a range change completes; the hold restarts and what was held is applied. -/
def execRangeChangeDone (c : Fin 24) (s : State) : Out :=
  .next (match (s.ch c).fe.chg with
    | some r =>
      let s1 := (s.set (F.MS_RANGE.IACT c) r).set (F.MS_STAT.RCHG c) 0
      (s1.modFe c fun f => { f with chg := none, downI := 0 }).heldRange c
    | none => s)

/-- A write of MS_AUTO (R179, R517). -/
def State.msAutoWrite (s : State) (rq : Requester) (c : Fin 24) (w : Word) : State :=
  if bitsOf w 31 16 = 0 || 5 < bitsOf w 10 8 || 5 < bitsOf w 2 0 then s.rej rq (R.MS_AUTO c)
  else if bitsOf w 2 0 < bitsOf w 10 8 then s.set (F.MS_STAT.CFG_REJ c) 1
  else ((s.set (F.MS_AUTO.DOWN_HOLD c) (bitsOf w 31 16)).set (F.MS_AUTO.ICEIL c) (bitsOf w 10 8)).set
    (F.MS_AUTO.IFLOOR c) (bitsOf w 2 0)

/-! ### Stage and handovers (R185 to R191) -/

/-- MS_STAGE as read: RES and REQ are views of the resolved and the requested word. -/
def State.stageWord (s : State) (c : Fin 24) : Word :=
  setBits (setBits (s.rd (R.MS_STAGE c)) 5 4 (s.resMode c).stage) 1 0 (s.reqMode c).stage

/-- The handover to STILL starts (Table 07-6). -/
def State.handoverIn (s : State) (c : Fin 24) : State :=
  let s1 := (s.set (F.MS_STAGE.ACT c) 2).modFe c fun f => { f with still := 0, outHi := 0, outLo := 0 }
  if s1.get (F.MS_RANGE.IACT c) = 0 then s1.startRange c 1 else s1

/-- The handover to SWITCH starts (Table 07-7): the legs resume under the law with the measured current as their first
demand. -/
def State.handoverOut (s : State) (c : Fin 24) : State :=
  let i := tdiv (i64 (s.rd64 (R.MS_I_LO c) (R.MS_I_HI c))) 1000000
  let s0 := s.modEng c fun e => { e with main := { e.main with y1 := i, y2 := i }, bump := true }
  let s1 := (s0.set (F.MS_STAGE.ACT c) 3).modFe c fun f => { f with still := 0, outHi := 0, outLo := 0 }
  if 3 ≤ s1.get (F.MS_RANGE.IACT c) then s1.startRange c 2 else s1

/-- May a handover start (R191): the role is not OFF, and no transition, handover or stop stands in its way? -/
def State.canHandover (s : State) (c : Fin 24) : Bool :=
  (s.curMode c).role != 0 && !s.is (F.PS_STAT.TRANS c) && decide (s.get (F.MS_STAGE.ACT c) < 2) && !(s.ch c).dead

/-- The handover that a fixed stage request calls for (R185, R189, R190, R217). -/
def State.stageStep (s : State) (c : Fin 24) : State :=
  if s.canHandover c then
    let st := (s.curMode c).stage
    if st = 1 && s.get (F.MS_STAGE.ACT c) = 0 then s.handoverIn c
    else if st = 0 && s.get (F.MS_STAGE.ACT c) = 1 then s.handoverOut c
    else s
  else s

/-- R188: 10 ms (40,000 samples) of qualifying samples under stage AUTO. -/
def execStillQualified (c : Fin 24) (s : State) : Out :=
  .next (
    if s.canHandover c && (s.curMode c).stage == 2 && s.get (F.MS_STAGE.ACT c) == 0 &&
        decide (40000 ≤ (s.ch c).fe.still) then s.handoverIn c
    else s)

/-- R189, R190: a handover completes; `met` when the condition of Table 07-7 was met. The down-hold restarts,
held path and range requests are applied, and the channel resolves again. -/
def execHandoverDone (c : Fin 24) (met : Bool) (s : State) : Out :=
  .next (
    let act := s.get (F.MS_STAGE.ACT c)
    if act < 2 then s
    else
      let s1 := (s.set (F.MS_STAGE.ACT c) (if act = 2 then 1 else 0)).inc (F.MS_STAGE.HCNT c)
      let s2 := if act = 3 && !met then s1.set (F.MS_LATCH.HO_LIMIT c) 1 else s1
      let s3 := s2.modFe c fun f => { f with downI := 0, still := 0, outHi := 0, outLo := 0 }
      (((s3.signal 0x07 c (s3.stageWord c)).reresolve c).heldRange c).resumePath c)

/-- V_STILL_MAX in nV at VIN_c of vin nV (R186). -/
def vStillMax (vin : Int) : Int := min 50000000000 (vin * 88 / 100 - 1000000000)

/-- The qualification of R188 in a sample, and the exits from STILL under AUTO. `vt` is the voltage target in nV
where the law has one. -/
def State.autoStage (s : State) (c : Fin 24) (v i vin : Int) (vt : Option Int) : State :=
  let m := s.curMode c
  let f := (s.ch c).fe
  let act := s.get (F.MS_STAGE.ACT c)
  let vmax := vStillMax vin
  if m.role = 0 || m.stage ≠ 2 then s.modFe c fun f => { f with still := 0, outHi := 0, outLo := 0 }
  else if act = 0 then
    let ok := decide (-180000000000 ≤ i ∧ i ≤ 1800000000000 ∧ v ≤ vmax - 500000000) &&
      vt.all (fun t => decide (t ≤ vmax - 500000000)) && !s.is (F.PS_STAT.TRANS c)
    s.modFe c fun f => { f with still := if ok then f.still + 1 else 0, outHi := 0, outLo := 0 }
  else if act = 1 then
    let hi := if 1900000000000 < i then f.outHi + 1 else 0
    let lo := if i < -190000000000 then f.outLo + 1 else 0
    let diss := if 0 < i then i * 1000000000 else -i * v.natAbs
    let s1 := s.modFe c fun f => { f with outHi := hi, outLo := lo }
    if (2 ≤ hi || 2 ≤ lo || decide (3800000000000000000000 < diss) || vt.any (fun t => decide (vmax < t))) && s1.canHandover c then
      s1.handoverOut c
    else s1
  else s

/-! ### Converter units (R183, R184) -/

/-- Does a window, a capture, a sweep or an armed measurement event defer a rotation (R183)? -/
def State.measBusy (s : State) (c : Fin 24) : Bool :=
  (s.ch c).fe.win.opened || !(s.ch c).fe.winReq.isEmpty || s.is (F.MS_CAP_CTRL.RUN c) || !(s.ch c).fe.capReq.isEmpty ||
    s.is (F.MS_SWP_CTRL.RUN c) || s.records.any fun r =>
      r.tkind == 0 && r.mask.testBit c && r.acode / 16 == 1 && (r.place == .armed || r.place == .overflow)

/-- Does the quad supervisor that sequences the rotations of channel c run (R462)? -/
def State.supRuns (s : State) (c : Fin 24) : Bool := s.get (F.SUP_STAT.STATE (c / 4)) == 0

/-- R183: the spare has been calibrated. -/
def execCalibrationDone (c : Fin 24) (s : State) : Out :=
  .next (
    let f := (s.ch c).fe
    if f.calib && 3 ≤ f.units.length && s.supRuns c then s.modFe c fun f => { f with calib := false, spareOk := true } else s)

/-- The calibrated spare replaces the active unit that has run longest, which becomes the spare and is
calibrated; `mark`: the next sample carries CAL. The unit that enters service takes the calibration data in force (R318).
Rotations pause while the sector's supervisor does not run (R462). -/
def State.rotate (s : State) (c : Fin 24) (mark : Bool) : State :=
  let f := (s.ch c).fe
  if f.spareOk && 3 ≤ f.units.length && s.supRuns c then
    let a := f.oldest % 2
    let u := (f.units.set a (f.units.getD 2 0)).set 2 (f.units.getD a 0)
    s.modFe c fun f => { f with
      units := u, oldest := 1 - a, spareOk := false, calib := true, calMark := f.calMark || mark
      calOf := f.calOf.set (u.getD a 0) s.upd.calGen }
  else s

/-- R183: with no deferral. -/
def execConverterRotation (c : Fin 24) (s : State) : Out :=
  .next (if s.measBusy c then s else s.rotate c false)

/-- R183: an active unit has run 60 s since its calibration. -/
def execForcedRotation (c : Fin 24) (s : State) : Out := .next (s.rotate c true)

/-- R184: a unit is fenced. With two left they are the active ones; fewer fence the channel. -/
def State.convFence (s : State) (c : Fin 24) (u : Fin 3) : State :=
  let h := s.ch c
  if h.convBad.contains u.val then s
  else
    let s1 := (s.modCh c fun h => { h with convBad := h.convBad ++ [u.val] }).assertL (12 * c + 11) 1 u
    let l := h.fe.units
    let l1 := match l.getD 2 u with
      | sp => if l.take 2 |>.contains u.val then ((l.take 2).map fun x => if x = u.val then sp else x) else l.take 2
    let s2 := s1.modFe c fun f => { f with
      units := if 3 ≤ l.length then l1 else l.filter (· != u.val), spareOk := false, calib := false, calPlace := none }
    if l.length < 3 then s2.fenceCh c else s2

/-- R184. -/
def execConverterFence (c : Fin 24) (u : Fin 3) (s : State) : Out := .next (s.convFence c u)

/-- R184: an active unit begins to calibrate in place. -/
def execInPlaceCalibration (c : Fin 24) (s : State) : Out :=
  .next (
    let f := (s.ch c).fe
    if f.units.length = 2 && f.calPlace.isNone then s.modFe c fun f => { f with calPlace := some (f.oldest % 2) } else s)

/-- R184: the calibration in place ends; the other unit is next. -/
def execInPlaceCalibrationEnd (c : Fin 24) (s : State) : Out :=
  .next (match (s.ch c).fe.calPlace with
    | some a => s.modFe c fun f => { f with calPlace := none, oldest := 1 - a % 2 }
    | none => s)

/-! ### Records (R198, R203, R204, R316) -/

/-- A 64-bit value as two words. -/
def w64 (v : Int) : List Word := [loWord v, hiWord v]

/-- The ring with a number. -/
def State.ring? (s : State) (n : Nat) : Option Ring := s.rings.find? fun r => r.num == n

/-- Change a ring. -/
def State.modRing (s : State) (n : Nat) (f : Ring → Ring) : State :=
  { s with rings := s.rings.map fun r => if r.num == n then f r else r }

/-- The fill of a ring. -/
def Ring.fill (r : Ring) : Nat := (r.tail + 2 ^ 32 - r.head) % 2 ^ 32

/-- The address of slot i. -/
def Ring.slot (r : Ring) (i : Nat) : Nat := r.base + r.size * (i % r.slots)

/-- Store a record in the next slot of ring n, padded with zeros; none when it is dropped: no such ring, no free
slot, or a record longer than a slot (R316). -/
def State.ringPut (s : State) (n : Nat) (rec : List Word) : Option State :=
  match s.ring? n with
  | none => none
  | some r =>
    if r.slots ≤ r.fill || r.size < 4 * rec.length then none
    else
      let pad := List.replicate (r.size / 4 - rec.length) (0 : Word)
      some ((s.stWords (r.slot r.tail) (rec ++ pad)).modRing n fun r => { r with tail := (r.tail + 1) % 2 ^ 32 })

/-- Account for a dropped record (R198); `stat`: of the statistics engine. -/
def State.dropRec (s : State) (c : Fin 24) (stat : Bool) (ring : Nat) : State :=
  let s1 := (((s.inc (F.MS_CAP_STAT.DROP c)).set (F.MS_LATCH.CAP_DROP c) 1).modRing ring
    fun r => { r with drop := satU 32 (r.drop + 1) })
  s1.modFe c fun f => if stat then { f with gapW := true } else { f with gapS := true }

/-- A record whose write has found a slot clears the gap. -/
def State.clearGap (s : State) (c : Fin 24) (stat : Bool) : State :=
  s.modFe c fun f => if stat then { f with gapW := false } else { f with gapS := false }

/-- Write a record to its ring, or drop it; during a throttle pause of the sector or the hub it waits in the
256-record buffer (R198, R468). -/
def State.putRec (s : State) (c : Fin 24) (stat : Bool) (ring : Nat) (rec : List Word) : State :=
  if s.pausedIn (c / 4) || s.pausedIn 6 then
    if 256 ≤ (s.ch c).fe.buf.length then s.dropRec c stat ring
    else (s.modFe c fun f => { f with buf := f.buf ++ [(ring, stat, rec)] }).clearGap c stat
  else match (s.flit (c.val / 4) 1 2).ringPut ring rec with
    | some s1 => s1.clearGap c stat
    | none => (s.flit (c.val / 4) 1 2).dropRec c stat ring

/-- The records that waited during a pause are written. -/
def State.flushBuf (s : State) (c : Fin 24) : State :=
  let l := (s.ch c).fe.buf
  l.foldl (fun s x => match (s.flit (c.val / 4) 1 2).ringPut x.1 x.2.2 with
    | some s1 => s1
    | none => s.dropRec c x.2.1 x.1) (s.modFe c fun f => { f with buf := [] })

/-- The first word of a record (Table 07-10). -/
def recHead (kind flags c : Nat) : Word := BitVec.ofNat 32 (kind * 2 ^ 28 + flags % 256 * 2 ^ 16 + c)

/-! ### Statistics windows (R192 to R194) -/

/-- The ten results of a window (R193): VMIN, VMAX, VMEAN, VRMS, IMIN, IMAX, IMEAN, IRMS, PMEAN, QWIN. -/
def winResults (w : Window) : List Int :=
  let n : Int := w.n
  [w.vmin, w.vmax, tdiv w.sv n, isqrt (w.sv2 / w.n), w.imin, w.imax, tdiv w.si n, isqrt (w.si2 / w.n),
   tdiv w.sp (n * 1000000000000000), tdiv w.si 4000000000]

/-- Store 64-bit values in consecutive register pairs from address a on. -/
def State.wrPairs (s : State) (a : Nat) : List Int → State
  | [] => s
  | v :: l => (s.wr64 a (a + 4) v).wrPairs (a + 8) l

/-- A STAT record (Table 07-12). The results stand in the order VMIN, VMAX, VMEAN, VRMS, IMIN to QWIN. -/
def statRecord (c seq flags step : Nat) (w : Window) (r : List Int) : List Word :=
  [recHead 2 flags c, BitVec.ofNat 32 seq] ++ w64 w.d0 ++ w64 w.x0 ++ w64 w.d1 ++ w64 w.x1 ++
    [BitVec.ofNat 32 w.n, BitVec.ofNat 32 step] ++ r.flatMap w64

/-- Does the ring of a window take STAT records, and which ring? A sweep's windows use MS_SWP_CTRL. -/
def State.winRing (s : State) (c : Fin 24) (w : Window) : Bool × Nat :=
  if w.step = 0xFFFFFFFF then (s.is (F.MS_WIN_CTRL.RING_EN c), s.get (F.MS_WIN_CTRL.RING c))
  else (s.is (F.MS_SWP_CTRL.RING_EN c), s.get (F.MS_SWP_CTRL.RING c))

/-- The open window ends: the results update as one set, SEQ advances and a STAT record is written. A window that
holds no sample produces nothing (R192, R193). -/
def State.closeWin (s : State) (c : Fin 24) (trunc : Bool) : State :=
  let w := (s.ch c).fe.win
  let s0 := (s.set (F.MS_WIN_STAT.OPEN c) 0).modFe c fun f => { f with win := {} }
  if !w.opened || w.n = 0 then s0
  else
    let r := winResults w
    let fl := w.flags ||| (b2n w.late * 16) ||| (b2n trunc * 64)
    let n := ((s.ch c).fe.winCnt + 1) % 2 ^ 32
    let s1 := ((s0.wrPairs (R.MS_VMIN_LO c) (r.take 9)).set (F.MS_WIN_STAT.VALID c) 1).set (F.MS_WIN_STAT.FLAGS c) fl
    let s2 := s1.incWrap (F.MS_WIN_STAT.SEQ c)
    let out := statRecord c n (fl ||| (b2n (s.ch c).fe.gapW * 128)) w.step w r
    let s3 := s2.modFe c fun f => { f with winCnt := n, lastRec := out }
    let q := s.winRing c w
    if q.1 then s3.putRec c true q.2 out else s3

/-- Open a window (R192). -/
def State.openWin (s : State) (c : Fin 24) (len : Nat) (late : Bool) (step : Nat) : State :=
  (s.set (F.MS_WIN_STAT.OPEN c) 1).modFe c fun f => { f with win := { opened := true, len := len, late := late, step := step } }

/-- Has the open window reached its length? -/
def Window.full (w : Window) : Bool := w.opened && decide (w.len ≤ w.n)

/-- The sweep ends (R202): RUN clears and CH_c_SWEEP_END is signalled. -/
def State.sweepDone (s : State) (c : Fin 24) : State :=
  let s1 := ((s.set (F.MS_SWP_CTRL.RUN c) 0).set (F.MS_SWP_STAT.PAUSED c) 0).modFe c fun f => { f with sweep := {} }
  s1.signal 0x08 c (s1.rd (R.MS_SWP_STAT c))

/-- A window that has reached its length ends; under REPEAT the next follows at once, where no sweep owns the engine
(R194), and the window of the last step ends the sweep (R192, R202). -/
def State.winFull (s : State) (c : Fin 24) : State :=
  let w := (s.ch c).fe.win
  if !w.full then s
  else
    let s1 := s.closeWin c false
    if w.step ≠ 0xFFFFFFFF then
      (if w.step + 1 = (s.ch c).fe.sweep.n && s.is (F.MS_SWP_CTRL.RUN c) then s1.sweepDone c else s1)
    else if s.is (F.MS_WIN_CTRL.REPEAT c) && !s.is (F.MS_SWP_CTRL.RUN c) then s1.openWin c (s1.rd (R.MS_WIN_LEN c)).toNat false 0xFFFFFFFF
    else s1

/-- R193. -/
def execWindowEnd (c : Fin 24) (s : State) : Out := .next (s.winFull c)

/-- A start (some, with LATE) or a stop (none) of the window takes effect with the next sample (R192); none while a
sweep owns the engine (R194). -/
def State.winReq1 (s : State) (c : Fin 24) (r : Option Bool) : State :=
  if s.is (F.MS_SWP_CTRL.RUN c) then s
  else match r with
  | some late => (s.closeWin c true).openWin c (s.rd (R.MS_WIN_LEN c)).toNat late 0xFFFFFFFF
  | none => s.closeWin c true

/-- Does a sweep own the statistics engine (R194)? -/
def State.sweepOwns (s : State) (c : Fin 24) : Bool := s.is (F.MS_SWP_CTRL.RUN c)

/-- A start or stop of the window by a register write (R192, R194). -/
def State.winCtl (s : State) (c : Fin 24) (r : Option Bool) : State :=
  if s.sweepOwns c then s.set (F.MS_STAT.CFG_REJ c) 1
  else (s.wakeCh c).modFe c fun f => { f with winReq := f.winReq ++ [r] }

/-- One sample into the open window. -/
def Window.add (w : Window) (v i : Int) (flags d x : Nat) : Window :=
  { w with
    n := w.n + 1, sv := w.sv + v, si := w.si + i, sv2 := w.sv2 + v.natAbs * v.natAbs, si2 := w.si2 + i.natAbs * i.natAbs,
    sp := w.sp + v * i
    vmin := if w.n = 0 then v else min w.vmin v
    vmax := if w.n = 0 then v else max w.vmax v
    imin := if w.n = 0 then i else min w.imin i
    imax := if w.n = 0 then i else max w.imax i
    d0 := if w.n = 0 then d else w.d0
    x0 := if w.n = 0 then x else w.x0
    d1 := d, x1 := x, flags := w.flags ||| flags }

/-! ### Capture (R197) -/

/-- The group of a capture closes: its record is produced, covering n samples; at MS_CAP_LEN the capture ends. -/
def State.capEmit (s : State) (c : Fin 24) : State :=
  let k := (s.ch c).fe.cap
  if k.n = 0 then s
  else
    let vals := if s.is (F.MS_CAP_CTRL.DMODE c) then k.sums.map fun x => tdiv x k.n else k.first
    let fl := k.flags ||| (b2n k.late * 16) ||| (b2n (s.ch c).fe.gapS * 128)
    let out := [recHead 1 fl c, BitVec.ofNat 32 k.seq] ++ w64 k.d0 ++ w64 k.x0 ++ vals.flatMap w64 ++
      [BitVec.ofNat 32 k.tail, BitVec.ofNat 32 k.n]
    let s1 := s.modFe c fun f => { f with cap := { seq := (k.seq + 1) % 2 ^ 32, late := k.late } }
    let s2 := s1.putRec c false (s.get (F.MS_CAP_CTRL.RING c)) out
    let lim := (s.rd (R.MS_CAP_LEN c)).toNat
    if lim ≠ 0 && lim ≤ k.seq + 1 then s2.set (F.MS_CAP_CTRL.RUN c) 0 else s2

/-- A start (some, with LATE) or a stop (none) of the capture takes effect with the next sample (R197). -/
def State.capReq1 (s : State) (c : Fin 24) (r : Option Bool) : State :=
  let s1 := if s.is (F.MS_CAP_CTRL.RUN c) then s.capEmit c else s
  match r with
  | some late => (s1.set (F.MS_CAP_CTRL.RUN c) 1).modFe c fun f => { f with cap := { late := late } }
  | none => (s1.set (F.MS_CAP_CTRL.RUN c) 0).modFe c fun f => { f with cap := {} }

/-- One sample into the capture. -/
def State.capAdd (s : State) (c : Fin 24) (l : List Int) (flags : Nat) : State :=
  if !s.is (F.MS_CAP_CTRL.RUN c) then s
  else
    let info := (s.ch c).fe.info
    let s1 := s.modFe c fun f =>
      let k := f.cap
      { f with cap :=
        if k.n = 0 then { k with n := 1, first := l, sums := l, d0 := s.dtime, x0 := s.ext, flags := flags, tail := info }
        else { k with n := k.n + 1, sums := List.zipWith (· + ·) k.sums l, flags := k.flags ||| flags } }
    if s1.get (F.MS_CAP_DEC.DEC_M1 c) + 1 ≤ (s1.ch c).fe.cap.n then s1.capEmit c else s1

/-! ### Sweeps (R199 to R202) -/

/-- The sweep table at address a (Table 07-9). -/
def State.sweepHdr (s : State) (a : Nat) : Sweep :=
  let w := s.ldWord a
  { addr := a, qty := bitsOf w 31 28, policy := bitsOf w 27 26, down := bitsOf w 25 24 == 1, n := (s.ldWord (a + 4)).toNat,
    start := s.ldWord (a + 8), spacing := (s.ldWord (a + 0xC)).toNat, settle := (s.ldWord (a + 0x10)).toNat,
    window := (s.ldWord (a + 0x14)).toNat }

/-- Does the table pass the check of R200? -/
def State.sweepOk (s : State) (a : Nat) : Bool :=
  let h := s.sweepHdr a
  decide (h.qty ≤ 3 ∧ h.policy ≤ 2 ∧ bitsOf (s.ldWord a) 25 24 ≤ 1 ∧ 1 ≤ h.n ∧ h.n ≤ 65536 ∧ 1 ≤ h.spacing ∧
    h.spacing < 2 ^ 31 ∧ h.settle < h.spacing ∧ 4 ≤ h.window) && tblPlaced a (0x20 + 4 * h.n) 16

/-- MS_SWP_CTRL.START (R200); in SLACK under PAUSE_AT_STEP it waits for re-lock (R404). -/
def State.sweepStart (s : State) (c : Fin 24) : State :=
  let a := s.get (F.MS_SWP_ADDR.ADDR c) * 16
  if !s.sweepOk a then (s.set (F.MS_LATCH.SWP_ERR c) 1).set (F.MS_STAT.CFG_REJ c) 1
  else
    let h := s.sweepHdr a
    let s0 := if (s.ch c).fe.win.step = 0xFFFFFFFF then s else s.closeWin c true
    let s1 := (((s0.set (F.MS_SWP_CTRL.RUN c) 1).setb (F.MS_SWP_STAT.PAUSED c) (s.is (F.MS_STAT.SLACK c) && h.policy == 1)).set
      (F.MS_SWP_STAT.STEP c) 0).modFe c fun f => { f with sweep := h }
    (s1.sweepCheck s1.count s1.count 1 c).wakeCh c

/-- ABORT, and the end at role OFF (R202): an open window ends with TRUNC. -/
def State.sweepAbort (s : State) (c : Fin 24) : State :=
  if s.is (F.MS_SWP_CTRL.RUN c) then
    (if (s.ch c).fe.win.opened then s.closeWin c true else s).sweepDone c
  else s

/-- Words whose values the spec leaves open. -/
def State.freshWords (s : State) : Nat → List Word × State
  | 0 => ([], s)
  | n + 1 =>
    let r := s.fresh
    let q := r.2.freshWords n
    (BitVec.ofNat 32 r.1 :: q.1, q.2)

/-- The record of a step that R201 passes over: N = 0 and LATE. The spec states no timestamps or results of it:
free values. -/
def State.sweepSkip (s : State) (c : Fin 24) (step : Nat) : State :=
  if s.is (F.MS_SWP_CTRL.RING_EN c) then
    let a := s.freshWords 28
    let head := recHead 2 (16 + b2n (s.ch c).fe.gapW * 128) c
    a.2.putRec c true (s.get (F.MS_SWP_CTRL.RING c)) ([head, BitVec.ofNat 32 (s.ch c).fe.winCnt] ++ a.1.take 8 ++
      [0, BitVec.ofNat 32 step] ++ a.1.drop 8)
  else s

/-- Steps first to i − 1 are passed over. -/
def State.sweepSkips (s : State) (c : Fin 24) (first i : Nat) : State :=
  ((List.range i).filter fun j => decide (first ≤ j)).foldl (fun s j => s.sweepSkip c j) s

/-! ### Accumulators (R195, R196) -/

/-- One sample into an energy or charge accumulator (R195): residue and accumulator after it, for a quantum q; an i64
saturates (R8). -/
def accStep (res acc d q : Int) : Int × Int :=
  let r := satS 64 (res + satS 64 d)
  let n := tdiv r q
  (r - n * q, satS 64 (acc + n))

/-- One port's two accumulators in a sample (R195); v in nV, i in pA. -/
def State.accPort (s : State) (c : Fin 24) (v i : Int) (bat : Bool) : State :=
  let f := (s.ch c).fe
  let vu := roundDiv v 1000
  let ia := roundDiv i 1000
  let ea := if bat then R.MS_EBAT_LO c else R.MS_EOUT_LO c
  let qa := if bat then R.MS_QBAT_LO c else R.MS_QOUT_LO c
  let e := accStep (if bat then f.eResB else f.eResO) (i64 (s.rd64 ea (ea + 4))) (vu * ia) 4000000000000000
  let q := accStep (if bat then f.qResB else f.qResO) (i64 (s.rd64 qa (qa + 4))) ia 4000000
  ((s.wr64 ea (ea + 4) e.2).wr64 qa (qa + 4) q.2).modFe c fun f =>
    if bat then { f with eResB := e.1, qResB := q.1 } else { f with eResO := e.1, qResO := q.1 }

/-- Apply the clears asked for since the last sample (R196): bit 0 EOUT, 1 QOUT, 2 EBAT, 3 QBAT. -/
def State.accClear (s : State) (c : Fin 24) : State :=
  let m := (s.ch c).fe.clr
  let z := fun (s : State) (bit a : Nat) => if m.testBit bit then s.wr64 a (a + 4) 0 else s
  let s1 := z (z (z (z s 0 (R.MS_EOUT_LO c)) 1 (R.MS_QOUT_LO c)) 2 (R.MS_EBAT_LO c)) 3 (R.MS_QBAT_LO c)
  s1.modFe c fun f => { f with
    clr := 0
    eResO := if m.testBit 0 then 0 else f.eResO
    qResO := if m.testBit 1 then 0 else f.qResO
    eResB := if m.testBit 2 then 0 else f.eResB
    qResB := if m.testBit 3 then 0 else f.qResB }

/-- A clear bit of MS_ACC_CTRL acts at the next sample. -/
def State.clrBit (s : State) (rq : Requester) (c : Fin 24) (bit : Nat) : State :=
  if canWrite rq (R.MS_ACC_CTRL c) then s.modFe c fun f => { f with clr := f.clr ||| 2 ^ bit } else s

/-- R196. -/
def execClrEout (rq : Requester) (c : Fin 24) (s : State) : Out := .next (s.clrBit rq c 0)

/-- R196. -/
def execClrQout (rq : Requester) (c : Fin 24) (s : State) : Out := .next (s.clrBit rq c 1)

/-- R196. -/
def execClrEbat (rq : Requester) (c : Fin 24) (s : State) : Out := .next (s.clrBit rq c 2)

/-- R196. -/
def execClrQbat (rq : Requester) (c : Fin 24) (s : State) : Out := .next (s.clrBit rq c 3)

/-! ### The sample's measurement -/

/-- The results of a sample reach the registers (R173, R174, R178, R184): an overranged current, and every current
while a unit calibrates in place, is the coarse sense; V is taken at OUT_c under local sense and on a follower, whose
SENSE pair is not used (R72, R97). -/
def State.latch (s : State) (c : Fin 24) (x : Sample) : State :=
  let f := (s.ch c).fe
  let act := s.get (F.MS_RANGE.IACT c)
  let vact := s.get (F.MS_RANGE.VACT c)
  let fs := match f.chg with
    | some r => max (rangeFs act) (rangeFs r)
    | none => rangeFs act
  let v := if s.is (F.PS_STAT.LOCAL c) || s.get (F.PS_GANG.ROLE c) == 2 then x.vloc else x.v
  let iovr := decide (fs < (x.i.natAbs : Int))
  let vovr := decide (vrangeFs vact < (v.natAbs : Int))
  let i := if iovr || f.calPlace.isSome then x.coarse else x.i
  let m := s.resMode c
  let st := s.get (F.MS_STAGE.ACT c)
  let cal := f.calMark || f.calPlace.isSome
  let flags := b2n (iovr || vovr) + 2 * b2n f.chg.isSome + 4 * b2n (2 ≤ st) + 8 * b2n cal + 32 * s.get (F.MS_STAT.SLACK c)
  let s1 := s.wrPairs (R.MS_V_LO c) [v, x.vloc, i, roundDiv (v * i) 1000000000000000, x.vbat, x.ibat, x.vin]
  let s2 := s1.setb (F.MS_STAT.OVR c) (iovr || vovr)
  let s3 := if (iovr && m.irange != 7) || (vovr && m.vrange != 3) then s2.set (F.MS_LATCH.OVR c) 1 else s2
  s3.modFe c fun f => { f with calMark := false, flags := flags, info := act + 16 * vact + 256 * st }

/-- A latched result of channel c by MEAS number (R244): 0 to 6 V, VLOC, I, P, VBAT, IBAT, VIN; 8 to 11 the
accumulators. -/
def State.result (s : State) (c : Fin 24) (n : Nat) : Int :=
  let a := if n < 8 then R.MS_V_LO c + 8 * n else R.MS_EOUT_LO c + 8 * (n - 8)
  i64 (s.rd64 a (a + 4))

/-- The sample enters the accumulators (R195, R196), before the operations of the sample read them (R244). -/
def State.accPorts (s : State) (c : Fin 24) : State :=
  ((s.accClear c).accPort c (s.result c 0) (s.result c 2) false).accPort c (s.result c 4) (s.result c 5) true

/-- The current that the battery model of channel c integrates: that of the gang that it leads (R139), else its own. -/
def State.modelI (s : State) (c : Fin 24) : Int :=
  if s.get (F.PS_GANG.ROLE c) = 1 then
    (((gangGroup c (s.get (F.PS_GANG.SIZE c))).filter fun f => (s.get (F.PS_GANG.MEMBERS c)).testBit (f.val - c.val)).map
      fun f => s.result f 2).foldl (· + ·) 0
  else s.result c 2

/-- The sample enters the window, the capture, the model's recent currents, and the counts of ranging and staging. -/
def State.accumulate (s : State) (c : Fin 24) (coarse : Int) (vt : Option Int) : State :=
  let v := s.result c 0
  let i := s.result c 2
  let fl := (s.ch c).fe.flags
  let j := s.modelI c
  let s2 := if (s.ch c).fe.win.opened then s.modFe c fun f => { f with win := f.win.add v i fl s.dtime s.ext } else s
  let s3 := (s2.capAdd c [v, i, s.result c 4, s.result c 5] fl).modBm c fun m => { m with recent := (j :: m.recent).take 4 }
  (((s3.autoStage c v i (s.result c 6) vt).rangeStep c i coarse).vrangeStep c v)

end Sys2Proof.Machine
end

