-- ==== Sys2Proof/Machine/Regulate.lean ====
section
/-!
DEFINITION. Regulation (chapter 04): set-points and limits, loop profiles, the ramp, the laws and the envelope,
profiles, the PWM pairs, and the saturation supervisor. What a sample does here runs inside CONTROL_SAMPLE.
-/

namespace Sys2Proof.Machine

/-! ### Set-points and limits (R102, R103, R240, R241) -/

/-- A write of parameter fn: a refusal sets RG_STAT.CFG_REJ; a new set-point ends a CHRAMP slew on it; a new
RG_VLIM_HI resolves again (R103, R215, R240, R241). -/
def State.setParam (s : State) (c : Fin 24) (fn : Nat) (w : Word) : Bool × State :=
  if s.paramOk c fn w then
    let s1 := (s.wr (paramAddr c fn) w).modEng c fun e => { e with one := e.one.set fn none }
    (true, if fn = 4 then s1.reresolve c else s1)
  else (false, s.set (F.RG_STAT.CFG_REJ c) 1)

/-- CHRAMP's write of set-point fn with a slew (R241). -/
def State.setRamp (s : State) (c : Fin 24) (fn : Nat) (w slew : Word) : Bool × State :=
  if 3 < fn || slew.toNat = 0 || 65535 < slew.toNat then (false, s)
  else
    let r := s.setParam c fn w
    (r.1, if r.1 then r.2.modEng c fun e => { e with one := e.one.set fn (some slew.toNat) } else r.2)

/-! ### Loop profiles (R113 to R115) -/

/-- A write of RG_LOOP. -/
def State.rgLoopWrite (s : State) (c : Fin 24) (w : Word) : State :=
  let s1 := if 5 ≤ bitsOf w 2 0 then s.set (F.RG_STAT.CFG_REJ c) 1 else s.set (F.RG_LOOP.PROF c) (bitsOf w 2 0)
  if bitOf w 31 then s1.modEng c fun e => { e with apply := true } else s1

/-- The coefficients in force: b0, b1, b2, a1, a2, kpi, kii, shift. -/
def Engine.coef (e : Engine) (k : Nat) : Int :=
  if e.loaded = 4 then e.coefs.getD k 0
  else if k = 7 then Config.presetShift e.loaded else Config.presetCoef e.loaded k

/-- The APPLY that waits is carried out at t0 (R115). -/
def State.loadLoop (s : State) (c : Fin 24) : State :=
  let e := (s.ch c).eng
  if !e.apply then s
  else
    let p := s.get (F.RG_LOOP.PROF c)
    let s1 := s.modEng c fun e => { e with apply := false }
    let k := fun n => i32 (s.rd (R.RG_COEF c n))
    let one : Int := 2 ^ 28
    if p = 4 && !(decide ((k 4).natAbs < 2 ^ 28 ∧ ((k 3).natAbs : Int) < one + k 4)) then
      ((s1.set (F.RG_STAT.CFG_REJ c) 1).set (F.RG_LATCH.COEF_REJ c) 1).set (F.RG_LOOP.PROF c) e.loaded
    else
      let cs := (List.range 7).map k ++ [(s.get (F.RG_COEF_7.SHIFT c) : Int)]
      s1.modEng c fun e => { e with loaded := p, coefs := if p = 4 then cs else [], bump := true }

/-- One step of a compensator instance (R114); while `bump` the output repeats the last and becomes the whole
output history, so that the change of coefficients moves nothing (R115). -/
def Engine.hv (e : Engine) (k : Comp) (err : Int) : Int × Comp :=
  if e.bump then (k.y1, { e1 := err, e2 := k.e1, y1 := k.y1, y2 := k.y1 })
  else
    let acc := e.coef 0 * err + e.coef 1 * k.e1 + e.coef 2 * k.e2 - e.coef 3 * k.y1 - e.coef 4 * k.y2
    let y := satS 32 (acc * (2 ^ (e.coef 7).toNat : Nat) / (2 ^ 28 : Nat))
    (y, { e1 := err, e2 := k.e1, y1 := y, y2 := k.y1 })

/-! ### The envelope (R75, R76, R81, R186, R341, R344, R536) -/

/-- The active members of the gang that channel c leads, or c alone. -/
def State.members (s : State) (c : Fin 24) : List (Fin 24) :=
  if s.get (F.PS_GANG.ROLE c) = 1 then
    (gangGroup c (s.get (F.PS_GANG.SIZE c))).filter fun f => (s.get (F.PS_GANG.MEMBERS c)).testBit (f.val - c.val)
  else [c]

/-- n times the smallest value of a rating over the members. -/
def State.gangRating (s : State) (c : Fin 24) (f : Nat → Fld) (unit : Nat) : Int :=
  let l := (s.members c).map fun (m : Fin 24) => s.get (f m) * unit
  ((l.length * l.foldl min (l.headD 0) : Nat) : Int)

/-- Continuous and burst ratings of the channel or its gang, in µA and mW. -/
def State.contI (s : State) (c : Fin 24) : Int := s.gangRating c F.PS_RATING.I_CONT 100000
def State.peakI (s : State) (c : Fin 24) : Int := s.gangRating c F.PS_RATING.I_PEAK 100000
def State.contP (s : State) (c : Fin 24) : Int := s.gangRating c F.PS_RATING.P_CONT 5000
def State.burstP (s : State) (c : Fin 24) : Int := s.gangRating c F.PS_RATING.P_BURST 5000

/-- A current bound in µA from a power in mW at v in 10 µV, floored at 0.5 V (R105). -/
def perV (p v : Int) : Int := tdiv (p * 100000000) (max (v.natAbs : Int) 50000)

/-- Does a demand i at v exceed the continuous ratings (R75)? -/
def State.overCont (s : State) (c : Fin 24) (i v : Int) : Bool :=
  decide (s.contI c < i.natAbs ∨ s.contP c * 100000000 < (i.natAbs * v.natAbs : Nat))

/-- Does a persistent cycle-by-cycle limit clamp the channel (R91)? -/
def State.cbcHeld (s : State) (c : Fin 24) : Bool := (s.ch c).cbc.any fun n => decide (64 ≤ n)

/-- May a burst start or go on: a burst runs, or one is ready, and where the demand sources from BUS the tile has been
granted burst credits (R75, R343)? -/
def State.burstOk (s : State) (c : Fin 24) (i : Int) : Bool :=
  let granted := s.get (F.PS_STAT.INPUT c) == 2 || decide (i ≤ 0) || (s.ledger.tiles.getD c (0, 0)).2 != 0
  (s.is (F.PS_STAT.BURST c) || (s.is (F.PS_STAT.BURST_READY c) && granted)) && !s.cbcHeld c

/-- Does a demand above the continuous ratings ask for burst credits: a burst is ready and the ledger can grant them
(R75, R343)? Until the grant the channel is held within its ratings, with no refused burst. -/
def State.burstAsks (s : State) (c : Fin 24) (i : Int) : Bool :=
  !s.burstOk c i && s.is (F.PS_STAT.BURST_READY c) && !s.cbcHeld c && !s.ledger.recover && s.is F.LG_BFREE.CREDITS

/-- The request for the burst credits of a demand i at v: the power beyond what the tile holds, with the headroom and
the step (R341); in flight or waiting, it is not repeated. -/
def State.askBurst (s : State) (c : Fin 24) (i v : Int) : State :=
  let t := s.ledger.tiles.getD c (0, 0)
  let need := (i.natAbs * v.natAbs + 99999999999) / 100000000000 + s.get F.LG_CFG.HEADROOM + s.get F.LG_CFG.STEP
  if s.ledger.asks.any (fun a => a.who == c.val) || s.ledger.bqueue.any (fun q => q.1 == c.val) ||
      s.ledger.grants.any (fun a => a.who == c.val) then s
  else s.askFor c 0 (need - (t.1 + t.2))

/-- Credits held by the members by their tiles' records, in mW (R341, R347). -/
def State.heldP (s : State) (c : Fin 24) : Int :=
  ((((s.members c).map fun (m : Fin 24) =>
    (s.ledger.tiles.getD m (0, 0)).1 + (s.ledger.tiles.getD m (0, 0)).2).foldl (· + ·) 0 * 1000 : Nat) : Int)

/-- The bounds of the envelope on the source and the sink current, in µA: `burst` for the burst ratings. -/
def State.envelope (s : State) (c : Fin 24) (burst : Bool) (v : Int) : Int × Int :=
  let iMax := if burst then s.peakI c else s.contI c
  let pMax := if burst then s.burstP c else s.contP c
  let loss : Int := Config.legLoss (s.result c 6) (s.result c 0) (s.result c 2)
  let own := min iMax (perV pMax v)
  let lim10 := if (s.ch c).uvLim then s.get (F.PS_BATFED.IBAT_LIM c) else 2000
  let src :=
    if s.get (F.PS_STAT.INPUT c) = 2 then min own (max 0 (perV (tdiv ((lim10 : Int) * s.vbat c) 100000000 - loss) v))
    else min own (max 0 (perV (s.heldP c - loss) v))
  let act := s.get (F.MS_STAGE.ACT c)
  let still := act == 1 || act == 2
  let src := if still then min src 2000000 else if act == 3 then min src 2500000 else src
  let snk := if s.house.busOv then 0 else own * (s.house.sink : Int) / 1000000
  let snk := if v < 80000 then min snk (max 0 (15000000 * v / 80000)) else snk
  let snk := if still then min snk (min 200000 (perV 4000 v)) else snk
  (src, snk)

/-- Does the pass device regulate: the active stage is STILL, or the handover to it runs (R185, R189)? -/
def State.passOn (s : State) (c : Fin 24) : Bool :=
  s.get (F.MS_STAGE.ACT c) == 1 || s.get (F.MS_STAGE.ACT c) == 2

/-- VLIM_HI, in STILL at most V_STILL_MAX (R103, R186). -/
def State.vHi (s : State) (c : Fin 24) : Int :=
  if s.passOn c then min (s.param c 4) (tdiv (vStillMax (s.result c 6)) 10000) else s.param c 4

/-- Do the STILL limits bind (R186): a current demand beyond them, or a voltage target or the upper voltage limit
(`lim`, RG_STAT.LIMIT) held by V_STILL_MAX? `t` is the voltage target before clamping, where the law has one. -/
def State.stillBound (s : State) (c : Fin 24) (i v : Int) (t : Option Int) (lim : Nat) : Bool :=
  s.passOn c && (decide (2000000 < i ∨ i < -(min 200000 (perV 4000 v))) ||
    (decide (s.vHi c < s.param c 4) && (t.any (fun x => decide (s.vHi c < x)) || lim == 1)))

/-! ### The reference (R105 to R109, R119, R140) -/

/-- The quantity a law regulates: 0 voltage, 1 current, 2 power, 3 conductance. -/
def State.qtyOf (s : State) (c : Fin 24) : Nat :=
  match (s.curMode c).law with
  | 1 => 1
  | 2 => 2
  | 3 => 3
  | 5 => match (s.ch c).eng.prof with
      | some h => h.qty
      | none => 0
  | _ => 0

/-- The measured value of a quantity, from v in 10 µV and i in µA (R107). -/
def measuredQ (q : Nat) (v i : Int) : Int :=
  match q with
  | 0 => v
  | 1 => i
  | 2 => tdiv (v * i) 100000000
  | _ => if v.natAbs < 10000 then 0 else tdiv (-i * 100000) v

/-- A point of a profile: its offset and its value. -/
def State.profPt (s : State) (a i : Nat) : Nat × Int :=
  ((s.ldWord (a + 0x10 + 8 * i)).toNat, i32 (s.ldWord (a + 0x14 + 8 * i)))

/-- The segment of offset p, reached from segment i on: its number and value; where a segment on the way does not ascend,
the last good point, in the direction the engine comes from (R118). -/
def State.profSeg (s : State) (a n p : Nat) (up : Bool) : Nat → Nat → Nat × Int × Bool
  | i, 0 => (i, (s.profPt a i).2, true)
  | i, f + 1 =>
    let x := s.profPt a i
    let y := s.profPt a (i + 1)
    if y.1 ≤ x.1 then (i, if up then x.2 else y.2, false)
    else if p < x.1 && i != 0 then s.profSeg a n p false (i - 1) f
    else if p < y.1 || n ≤ i + 2 then (i, x.2 + tdiv ((y.2 - x.2) * ((p : Int) - x.1)) ((y.1 : Int) - x.1), true)
    else s.profSeg a n p true (i + 1) f

/-- CH_c_PROF_END is signalled (R120). -/
def State.profSignal (s : State) (c : Fin 24) : State := s.signal 0x02 c 0

/-- The profile stands at its end under HOLD, or no longer (R120): PEND follows, and each time the end is reached
CH_c_PROF_END is signalled. A count that runs back below the end and passes it again reaches it again (DESIGN CHOICE,
log entry 61). -/
def State.profPend (s : State) (c : Fin 24) (high : Bool) : State :=
  (if high && !s.is (F.RG_STAT.PEND c) then s.profSignal c else s).setb (F.RG_STAT.PEND c) high

/-- The target of the profile at the tile's count (R118 to R120), and the state after. Each lap of a REPEAT profile enters
the table at point 0. -/
def State.profTarget (s : State) (c : Fin 24) (h : ProfHdr) : Int × State :=
  match (s.ch c).eng.profHold with
  | some v => (v, s)
  | none =>
    let n := s.tileCount c
    let last := (s.profPt h.addr (h.n - 1)).1
    let p0 := (if h.down then h.start - n else n - h.start).toNat
    let before := decide (0x80000000 ≤ p0)
    let high := !before && decide (last < p0)
    let lap := if before || last = 0 then 0 else p0 / last
    let p := if before then 0 else if high then (if h.endPol = 0 then last else p0 % last) else p0
    let turned := (s.ch c).eng.profLap.isSome && (s.ch c).eng.profLap != some lap
    let s1 :=
      if h.endPol = 0 then s.profPend c high
      else (if turned then s.profSignal c else s).modEng c fun e => { e with profLap := some lap }
    let r := s1.profSeg h.addr h.n p true (if h.endPol = 1 && turned then 0 else (s.ch c).eng.profIdx) (2 * h.n)
    let s2 := s1.modEng c fun e => { e with profIdx := r.1 }
    if r.2.2 then (r.2.1, s2)
    else
      let s3 := ((s2.profPend c true).modEng c fun e => { e with profHold := some r.2.1 }).set (F.RG_LATCH.PROF_ERR c) 1
      (r.2.1, s3.raise (12 * c + 10) 2)

/-- The PATH target in 10 µV for a voltage target t; none for CHARGE (R78). -/
def State.pathTarget (s : State) (c : Fin 24) (t : Option Int) : Int :=
  let vsys : Int := s.get (F.PS_VSYS.VSYS_MIN c) * 1000
  max vsys (t.getD (tdiv (s.vbat c) 10000 + (s.get (F.PS_VSYS.HEAD c) * 1000 : Nat)))

/-- The path whose rule the legs follow: on the way to OPEN or BATFED they regulate under the law (Table 03-4). -/
def Chan.regPath (h : Chan) : Nat :=
  match h.dest with
  | some p => if 2 ≤ p then 2 else h.pathF
  | none => h.pathF

/-- The target of the law in force before clamping, in the unit of its quantity, and the state after. A law without a
voltage target has no PATH target: it keeps its own, and V_SYS_MIN is its lower voltage limit (State.vLo; DESIGN CHOICE, log
entry 61). -/
def State.lawTarget (s : State) (c : Fin 24) (v i : Int) : Int × State :=
  let m := s.curMode c
  let path := (s.ch c).regPath
  let r := match m.law with
    | 4 =>
      let b := (s.ch c).bm
      let j : Int := min b.sub 4
      (if b.fresh then v else b.vPrev + tdiv ((b.vCur - b.vPrev) * j) 4, s)
    | 5 => match (s.ch c).eng.prof with
        | some h => s.profTarget c h
        | none => (measuredQ 0 v i, s)
    | 6 => (if path = 0 then s.pathTarget c none else v, s)
    | l => (s.param c l, s)
  if path = 0 && m.law != 6 && s.qtyOf c == 0 then (s.pathTarget c (some r.1), r.2) else r

/-- The lower voltage limit of the laws that regulate no voltage: VLIM_LO, in PATH at least V_SYS_MIN (R78, R105). -/
def State.vLo (s : State) (c : Fin 24) : Int :=
  if (s.ch c).regPath = 0 then max (s.param c 5) (s.get (F.PS_VSYS.VSYS_MIN c) * 1000 : Nat) else s.param c 5

/-- A target within its limits (R103). -/
def State.clampTarget (s : State) (c : Fin 24) (q : Nat) (e : Int × Int) (v t : Int) : Int :=
  match q with
  | 0 => max (min t (s.vHi c)) (s.param c 5)
  | 1 => clampI (-(min (s.param c 7) e.2)) (min (s.param c 6) e.1) t
  | 2 => clampI (-(min (s.param c 9) (tdiv (e.2 * v.natAbs) 100000000))) (min (s.param c 8) (tdiv (e.1 * v.natAbs) 100000000)) t
  | _ => t

/-- The slew of a quantity in its unit per sample (R108, R241). -/
def State.slewOf (s : State) (c : Fin 24) (q : Nat) : Int :=
  let reg : Int := match q with
    | 0 => s.get (F.RG_SLEW_VI.VSLEW c)
    | 1 => s.get (F.RG_SLEW_VI.ISLEW c)
    | 2 => s.get (F.RG_SLEW_PG.PSLEW c)
    | _ => 16 * s.get (F.RG_SLEW_PG.GSLEW c)
  match (s.ch c).eng.one.getD (s.curMode c).law none with
  | some sl => min sl reg
  | none => reg

/-- One step of the ramp of R108: r moves towards tgt by at most step; behind a limit it stays within one step of
the measured value m. -/
def rampStep (r tgt step m : Int) (limited : Bool) : Int :=
  let d := clampI (-step) step (tgt - r)
  let nr := r + d
  if limited && decide (0 < d ∧ m + step < nr) then max r (m + step)
  else if limited && decide (d < 0 ∧ nr < m - step) then min r (m - step)
  else nr

/-! ### The demand (R104, R105) -/

/-- An upper bound, and a lower bound, with the LIMIT code that names them. -/
def capHi (p : Int × Nat) (b : Int) (code : Nat) : Int × Nat := if b < p.1 then (b, code) else p
def capLo (p : Int × Nat) (b : Int) (code : Nat) : Int × Nat := if p.1 < b then (b, code) else p

/-- The role bound (R104). -/
def roleBound (role : Nat) (p : Int × Nat) : Int × Nat :=
  let b := if role = 1 then max 0 p.1 else if role = 2 then min 0 p.1 else p.1
  if b = p.1 then p else (b, 8)

/-- The limits common to every law, and the role bound, on a demand at v. -/
def State.commonLimits (s : State) (c : Fin 24) (v : Int) (p : Int × Nat) : Int × Nat :=
  let p := capHi (capHi p (s.param c 6) 3) (perV (s.param c 8) v) 5
  let p := capLo (capLo p (-(s.param c 7)) 4) (-(perV (s.param c 9) v)) 6
  roleBound (s.curMode c).role p

/-- The law's own demand from the reference r, with the voltage-limit loops (R105): the demand and the term that
set it, and the engine after its compensators have run. -/
def State.lawDemand (s : State) (c : Fin 24) (q : Nat) (r v : Int) : (Int × Nat) × Engine :=
  let e := (s.ch c).eng
  let hi := e.hv e.hiC (s.vHi c - v)
  let lo := e.hv e.loC (s.vLo c - v)
  let e1 := { e with hiC := hi.2, loC := lo.2 }
  if q = 0 then
    let y := e.hv e.main (r - v)
    ((y.1, 0), { e1 with main := y.2 })
  else
    let ref := if q = 1 then r else if q = 2 then perV r v else tdiv (-(r * v)) 100000
    (capLo (capHi (ref, 0) hi.1 1) lo.1 2, e1)

/-! ### The charge current (R78, R79, R155, R165) -/

/-- The room that a bound x on the legs' output leaves for charging. -/
def roomOf (x iOut : Int) : Int := max 0 (x - iOut - tdiv x 64)

/-- The battery switch's own bound in PATH: I_PRE on a dead battery, 8 W in LINEAR. -/
def State.bswCurrent (s : State) (c : Fin 24) : Option Int :=
  if (s.ch c).pathF ≠ 0 then none
  else
    let vb := tdiv (s.vbat c) 10000
    let d := tdiv (s.result c 1) 10000 - vb
    let dead := decide (vb < ((s.get (F.PS_VSYS.VSYS_MIN c) : Int) - s.get (F.PS_VSYS.HEAD c)) * 1000)
    let soa := if 0 < d then some (tdiv 800000000000 d) else none
    let pre : Int := s.get (F.CG_I_PRE.VALUE c)
    if dead then some (min pre (soa.getD pre)) else soa

/-- One sample of the charge current of channel c (R165): i_chg in µA, and the state after. While a term binds, r stays
within one step of the measured I_BAT. -/
def State.chargeSample (s : State) (c : Fin 24) (v i : Int) (envHi : Int) : Int × State :=
  let k : Fin 25 := ⟨c.val, Nat.lt_succ_of_lt c.isLt⟩
  let g := s.chargers[k]
  if !g.running then (0, s)
  else
    let ib := tdiv (s.result c 5) 1000000
    let vb := tdiv (s.vbat c) 10000
    let inp := min (s.param c 6) (perV (s.param c 8) v)
    let bsw := s.bswCurrent c
    let step : Int := s.get (F.RG_SLEW_VI.ISLEW c)
    let r0 := rampStep g.r (s.cgTarget k) step ib (s.bound k)
    let r := if s.bound k then max 0 (min r0 (ib + step)) else r0
    let lim := roomOf (min inp envHi) i
    let lim := match bsw with
      | some b => min lim b
      | none => lim
    let i0 := min r lim
    let e := (s.ch c).eng
    let vs : Int := s.get (F.RG_SLEW_VI.VSLEW c)
    let cv := match s.cgVolt k with
      | some t =>
        let vref := g.vref + clampI (-vs) vs (t - g.vref)
        let y := e.hv e.batC (vref - vb)
        (min i0 (max 0 y.1), vref, y.2)
      | none => (i0, g.vref, e.batC)
    let s1 := (s.modCg k fun g => { g with r := r, vref := cv.2.1 }).modEng c fun e => { e with batC := cv.2.2 }
    let s2 := (s1.setb (F.CG_STAT.BIND_INPUT k) (decide (roomOf inp i < r))).setb (F.CG_STAT.BIND_CREDIT k)
      (decide (roomOf envHi i < r))
    let s3 := s2.setb (F.CG_STAT.BIND_SOA k) (match bsw with
      | some b => decide (b < r)
      | none => false)
    (cv.1, s3.seti (F.CG_IEFF.I_CHG k) cv.1)

/-! ### The legs (R86 to R90, R114) -/

/-- The region of a leg for m = V / VIN (R87): 0 idle, 1 BUCK, 2 FOUR_SWITCH, 3 BOOST. -/
def nextRegion (reg : Nat) (v vin : Int) : Nat :=
  if vin ≤ 0 then reg
  else
    let a := 100 * v
    match reg with
    | 0 => if a < 88 * vin then 1 else if 112 * vin < a then 3 else 2
    | 1 => if a < 90 * vin then 1 else if 112 * vin < a then 3 else 2
    | 2 => if a < 88 * vin then 1 else if 112 * vin < a then 3 else 2
    | _ => if 110 * vin < a then 3 else if a < 88 * vin then 1 else 2

/-- What R88 derives for one pair: the on-times of the high and the low switch, the carry, and the pulses skipped,
stretched and shortened. -/
structure PwmOut where
  t     : Nat
  tc    : Nat
  carry : Nat
  skip  : Nat
  str   : Nat
  short : Nat
deriving DecidableEq, Repr

/-- The generator of R88, with a minimum pulse of 48 ticks. -/
def pwmPair (cmd carry period dead : Nat) (stretch : Bool) : PwmOut :=
  let span := period - 2 * dead
  let t0 := min (cmd + carry) span
  let short := b2n (t0 < cmd + carry)
  let low := decide (0 < t0 ∧ t0 < 48)
  let t1 := if low then (if stretch then 48 else 0) else t0
  let carry1 := if low && !stretch then t0 else 0
  let tc0 := span - t1
  let high := decide (0 < tc0 ∧ tc0 < 48)
  let t2 := if high then (if stretch then span - 48 else span) else t1
  let tc1 := if high then (if stretch then 48 else 0) else tc0
  { t := t2, tc := tc1, carry := carry1, skip := b2n (low && !stretch) + b2n (high && !stretch),
    str := b2n (low && stretch) + b2n (high && stretch), short := short }

/-- One leg's current loop (R114): the on-time, the integrator and the output, from its demand in µA, its current,
the feed-forward and the span. -/
def legLoop (kpi kii : Int) (integ ek ff span : Int) : Nat × Int × Int :=
  let uk := (kpi * ek + integ) / (2 ^ 28 : Nat)
  let sum := ff + uk
  let cmd := clampI 0 span sum
  let i1 := if 0 ≤ sum ∧ sum ≤ span then integ + kii * ek else integ
  let i2 := if (cmd = 0 ∧ 0 < ek) ∨ (cmd = span ∧ ek < 0) then i1 + kii * ek else i1
  (cmd.toNat, clampI (-(span * 2 ^ 28)) (span * 2 ^ 28) i2, uk)

/-- When leg number i of n starts a period within the sample, the period it starts (R86): `t1` the ticks from the sample
to the next period start of the first active leg, which lies `phase` ticks into a period of `pOld` ticks and takes up
`pNew`; a sample lasts 2,000 ticks. -/
def legStart (pOld pNew phase t1 i n : Nat) : Option Nat :=
  let u := i * pOld / n
  let w := t1 + i * pNew / n
  if decide (phase ≤ u ∧ u - phase < min 2000 t1) then some pOld
  else if decide (t1 < 2000 ∧ w < 2000) then some pNew
  else none

/-- The ticks from the sample to the next period start of the first active leg. -/
def Chan.toStart (h : Chan) : Nat := (h.period - h.phase % h.period) % h.period

/-- The place of leg k of channel c among the active legs of its gang, and their number: they are interleaved as one set,
in order of channel and then leg (R86, R97). -/
def State.legPlace (s : State) (c : Fin 24) (k : Nat) : Nat × Nat :=
  let l := match chan? (s.gangLeader c) with
    | some g => if s.get (F.PS_GANG.ROLE c) = 0 then [c] else if s.get (F.PS_GANG.ROLE c) = 1 then s.members c else s.members g
    | none => [c]
  let n := fun (m : Fin 24) => (s.legsRun m).length
  (((l.filter fun m => m.val < c.val).map n).foldl (· + ·) 0 + ((s.legsRun c).filter (· < k)).length,
    max 1 ((l.map n).foldl (· + ·) 0))

/-- The period that leg k starts within the sample, where it starts one. -/
def State.legPeriod (s : State) (c : Fin 24) (k : Nat) : Option Nat :=
  let h := s.ch c
  let t1 := h.toStart
  let p := s.legPlace c k
  legStart h.period (if t1 < 2000 then s.get (F.PS_PWM.PERIOD c) else h.period) h.phase t1 p.1 p.2

/-- The sample's 2,000 ticks pass; a change of PERIOD acts at a period start of the first active leg (R86). -/
def State.phaseStep (s : State) (c : Fin 24) : State :=
  let p := s.get (F.PS_PWM.PERIOD c)
  s.modCh c fun h =>
    if h.toStart < 2000 then { h with period := p, phase := (2000 - h.toStart) % p } else { h with phase := h.phase + 2000 }

/-- Leg k at a period start (R86, R88): its pairs take the on-time `on` in region `reg`; `fresh`: the region changed. An
added leg ramps its duty up over 8 periods (R90); a run of cycle-by-cycle limits ends with a period in which the leg does
not limit (R91). In STILL only A and B switch (R185). -/
def State.legPwm (s : State) (c : Fin 24) (k : Fin 4) (reg on period : Nat) (fresh : Bool) (v vin : Int) : State :=
  let h := s.ch c
  let dead := s.get (F.PS_PWM.DEAD c)
  let span := period - 2 * dead
  let add := h.addN.getD k 0
  let on := if add = 0 then on else on * (9 - add) / 8
  let c0 := if fresh then (0, 0) else h.carry.getD k (0, 0)
  let str := s.is (F.PS_PWM.MINP_POL c)
  let ab := pwmPair on c0.1 period dead str
  let dc := pwmPair (if reg = 2 then min span (Config.feedForward 4 v vin on) else on) c0.2 period dead str
  let useAb := reg == 1 || reg == 2
  let useDc := !s.passOn c && (reg == 2 || reg == 3)
  let cnt := fun (f : PwmOut → Nat) => (if useAb then f ab else 0) + (if useDc then f dc else 0)
  let s1 := s.modCh c fun h => { h with
    carry := h.carry.set k (if useAb then ab.carry else c0.1, if useDc then dc.carry else c0.2)
    addN := h.addN.set k (add - 1)
    cbc := if h.cbcHit.testBit k then h.cbc else h.cbc.set k 0
    cbcHit := if h.cbcHit.testBit k then h.cbcHit - 2 ^ k.val else h.cbcHit }
  ((s1.inc (F.PS_EDGE_CNT.SKIP c) (cnt PwmOut.skip)).inc (F.PS_EDGE_CNT.STRETCH c) (cnt PwmOut.str)).inc
    (F.PS_EDGE_CNT.DT_SHORT c) (cnt PwmOut.short)

/-- One leg in a sample: `d` is its share of the demand, its current in µA and VIN come from x; at a period start the
region is chosen and the pairs take the on-time. In STILL the leg holds its winding node at V + 1 V in BUCK, whatever the
demand (R185). -/
def State.legSample (s : State) (c : Fin 24) (d : Int) (x : Sample) (k : Fin 4) : State :=
  let h := s.ch c
  let e := h.eng
  let v := s.result c 0
  let start := s.legPeriod c k
  let still := s.passOn c
  let reg0 := h.regions.getD k 0
  let reg := if start.isSome || reg0 = 0 then (if still then 1 else nextRegion reg0 v x.vin) else reg0
  let fresh := reg != reg0
  let span := start.getD h.period - 2 * s.get (F.PS_PWM.DEAD c)
  let ek := d - x.legs.getD k 0
  let integ := if fresh then 0 else e.integ.getD k 0
  let integ := if e.bump then e.uk.getD k 0 * 2 ^ 28 - e.coef 5 * ek else integ
  let o := if still then (min span (Config.feedForward 1 (v + 1000000000) x.vin span), 0, 0)
    else legLoop (e.coef 5) (e.coef 6) integ ek (Config.feedForward reg v x.vin span) span
  let s1 := s.modCh c fun h =>
    { (h.modEng fun e => { e with ons := e.ons.set k o.1, integ := e.integ.set k o.2.1, uk := e.uk.set k o.2.2 }) with
      regions := h.regions.set k reg }
  match start with
  | some p => s1.legPwm c k reg o.1 p fresh v x.vin
  | none => s1

/-- The active legs of a channel, as numbers of legs. -/
def State.legList (s : State) (c : Fin 24) : List (Fin 4) := (List.finRange 4).filter fun k => (s.legsRun c).contains k.val

/-- A disputed sample: the legs that switch repeat their on-times, each at its next period start (R127). -/
def State.legsRepeat (s : State) (c : Fin 24) (x : Sample) : State :=
  let l := (s.legList c).filter fun k => (s.get (F.PS_STAT.LEG_ACTIVE c)).testBit k.val
  if l.isEmpty then s
  else
    let s1 := l.foldl (fun s k => match s.legPeriod c k with
      | some p => s.legPwm c k ((s.ch c).regions.getD k 0) ((s.ch c).eng.ons.getD k 0) p false (s.result c 0) x.vin
      | none => s) s
    s1.phaseStep c

/-- Is the on-time of an active leg at or beyond its bound (Table 04-7, DUTY)? -/
def State.dutySat (s : State) (c : Fin 24) : Bool :=
  let span := (s.ch c).period - 2 * s.get (F.PS_PWM.DEAD c)
  let mp := if s.is (F.PS_PWM.MINP_POL c) then 48 else 0
  (List.range 4).any fun k => (s.get (F.PS_STAT.LEG_ACTIVE c)).testBit k &&
    (let t := (s.ch c).eng.ons.getD k 0
     if mp = 0 then t == 0 || decide (span ≤ t) else decide (t < mp ∨ span - mp < t))

/-- Leg management in a sample (R90): the shed legs come back with SHED_EN 0; the lowest shed healthy leg is added where
the mean measured current per active leg lies above 2 × THR, with a duty ramp of 8 periods; the samples below THR are
counted for LEG_SHED. -/
def State.legManage (s : State) (c : Fin 24) (x : Sample) : State :=
  if !s.is (F.PS_PWM.SHED_EN c) then (s.set (F.PS_STAT.LEG_SHED c) 0).modCh c fun h => { h with shedN := 0 }
  else
    let l := s.legsRun c
    let n := l.length
    let i := (l.map fun k => x.legs.getD k 0).foldl (· + ·) 0
    let thr := s.get (F.PS_SHED.THR c) * 10000
    let spare := (s.legsOk c).filter fun k => (s.get (F.PS_STAT.LEG_SHED c)).testBit k
    if n * 2 * thr < i.natAbs then
      match spare with
      | k :: _ => (s.set ⟨R.PS_STAT c, 4 + k, 4 + k⟩ 0).modCh c fun h => { h with shedN := 0, addN := h.addN.set k 8 }
      | [] => s.modCh c fun h => { h with shedN := 0 }
    else s.modCh c fun h => { h with shedN := if i.natAbs < n * thr then h.shedN + 1 else 0 }

/-- The legs switch, each with an equal share of the demand (R87, R114). -/
def State.legsSample (s : State) (c : Fin 24) (dem : Int) (x : Sample) : State :=
  let l := s.legsRun c
  let s1 := s.set (F.PS_STAT.LEG_ACTIVE c) (legMask l)
  let d := if l.length = 0 then 0 else tdiv dem l.length
  let s2 := (s1.legList c).foldl (fun s k => s.legSample c d x k) s1
  ((s2.set (F.PS_STAT.OPREG c) ((s2.ch c).regions.getD (l.headD 0) 0)).phaseStep c).modEng c fun e => { e with bump := false }

/-! ### Bursts and the supervisor (R75, R123 to R125) -/

/-- The measured current of the channel, or of the gang that it leads, in µA (R97). -/
def State.gangI (s : State) (c : Fin 24) : Int := tdiv (((s.members c).map fun f => s.result f 2).foldl (· + ·) 0) 1000000

/-- The burst counters in a sample, from the measured current and voltage (R75): they run in every sample. -/
def State.burstSample (s : State) (c : Fin 24) : State :=
  let i := s.gangI c
  let high := s.overCont c i (tdiv (s.result c 0) 10000)
  let h := s.ch c
  if s.is (F.PS_STAT.BURST c) then
    if high then
      let n := h.burstN + 1
      (s.modCh c fun h => { h with burstN := n }).set (F.PS_BURST.REMAIN c) (1000 - min 1000 (n / 400))
    else
      ((s.set (F.PS_STAT.BURST c) 0).set (F.PS_STAT.BURST_READY c) 0).modCh c
        fun h => { h with burstD := h.burstN, burstN := 0, calmN := 1 }
  else if high && s.burstOk c i then (s.set (F.PS_STAT.BURST c) 1).modCh c fun h => { h with burstN := 1 }
  else if s.is (F.PS_STAT.BURST_READY c) then s
  else s.modCh c fun h => { h with calmN := if high then 0 else h.calmN + 1 }

/-- A refused burst (R75): counted once an episode, clamped from the sample after it began. -/
def State.episode (s : State) (c : Fin 24) (high refused : Bool) : State :=
  if high && refused && !(s.ch c).episode then
    (s.inc (F.PS_BURST.CLAMP_CNT c)).modCh c fun h => { h with episode := true }
  else if !high then s.modCh c fun h => { h with episode := false }
  else s

/-- Is the present sample saturated (Table 04-7)? -/
def State.saturated (s : State) (c : Fin 24) : Bool :=
  let m := s.get (F.RG_SAT_MASK.MASK c)
  let l := s.get (F.RG_STAT.LIMIT c)
  (m.testBit 0 && s.dutySat c) || (m.testBit 1 && s.is (F.PS_STAT.CLAMP c)) || (m.testBit 2 && (l == 3 || l == 4)) ||
    (m.testBit 3 && (l == 5 || l == 6)) || (m.testBit 4 && (l == 1 || l == 2))

/-- The reaction of R125. -/
def State.satReact (s : State) (c : Fin 24) : State :=
  let s1 := (s.set (F.RG_LATCH.SAT c) 1).raise (12 * c + 7) 1 0 (s.rd (R.RG_STAT c))
  let s2 := s1.signal 0x03 c (s1.rd (R.RG_STAT c))
  match s.get (F.RG_SAT.REACT c) with
  | 1 => s2.reactOff c false
  | 2 => s2.reactOff c true
  | _ => s2

/-- The supervisor in a sample (R124). -/
def State.supervise (s : State) (c : Fin 24) (restarted : Bool) : State :=
  if (s.curMode c).role = 0 || restarted then
    (s.set (F.RG_STAT.SAT c) 0).modEng c fun e => { e with satCnt := 0, satClr := 0, satFired := false }
  else if s.saturated c then
    let e := (s.ch c).eng
    let n := min (e.satCnt + 1) 0xFFFFFFFF
    let fire := decide (s.get (F.RG_SAT.TSAT c) ≤ n) && !e.satFired
    let s1 := (s.set (F.RG_STAT.SAT c) 1).modEng c
      fun e => { e with satCnt := n, satClr := 0, satFired := e.satFired || fire }
    if fire then s1.satReact c else s1
  else (s.set (F.RG_STAT.SAT c) 0).modEng c fun e =>
    let k := min 4 (e.satClr + 1)
    { e with satClr := k, satCnt := if k = 4 then 0 else e.satCnt, satFired := e.satFired && k != 4 }

/-! ### The load capacitance (R116) -/

/-- One sample of the estimate: the charge is summed while the ramp runs; at its end the estimate is reported. A charge
below 0 counts by its magnitude (DESIGN CHOICE, log entry 61). -/
def State.cestSample (s : State) (c : Fin 24) (ramp : Bool) : State :=
  match (s.ch c).eng.cest with
  | none => s
  | some (v0, q) =>
    let q1 := q + s.result c 2
    if ramp then s.modEng c fun e => { e with cest := some (v0, q1) }
    else
      let dv : Int := ((s.result c 0).natAbs : Int) - v0.natAbs
      let s1 := s.modEng c fun e => { e with cest := none }
      if dv < 1000000000 then s1
      else
        let uf := q1.natAbs * 250 / (dv.toNat * 1000000)
        let s2 := (s1.set (F.RG_CEST.VALID c) 1).set (F.RG_CEST.CEST c) (satU 16 uf)
        if 2200 < uf then (s2.set (F.RG_LATCH.CLOAD_HI c) 1).raise (12 * c + 10) 1 0 (s2.rd (R.RG_CEST c)) else s2

/-! ### One sample of the law (R100, R105 to R112) -/

/-- The current that the STILL pass device is to carry, in µA: the demand in STILL and in the handover to it; fully
enhanced at its limit of 2.5 A in the handover out (R185, R189, R190). -/
def State.passStep (s : State) (c : Fin 24) (dem : Int) : State :=
  let p : Int := if s.passOn c then dem else if s.get (F.MS_STAGE.ACT c) = 3 then 2500000 else 0
  s.modCh c fun h => { h with passDem := p }

/-- The demand of a channel that regulates: the ramp, the law, the limits, the envelope and the legs. On the way to
TIED the legs drive OUT to V_BAT (Table 03-4). -/
def State.regulate (s : State) (c : Fin 24) (x : Sample) : State :=
  let m := s.curMode c
  let v := tdiv (s.result c 0) 10000
  let i := s.gangI c
  let fol := s.get (F.PS_GANG.ROLE c) == 2
  let tied := m.law == 6 && (s.ch c).regPath == 1
  let tie := (s.ch c).dest == some 1 && ((s.ch c).tstep == .seek || (s.ch c).tstep == .join)
  let q := if tie then 0 else s.qtyOf c
  let peak := s.burstOk c i
  let env := s.envelope c peak v
  let restarted := (s.ch c).eng.restart
  let meas := measuredQ q v i
  let r0 := if restarted then meas else (s.ch c).eng.r
  let t0 := s.lawTarget c v i
  let t := if tie then (tdiv (s.vbat c) 10000, t0.2) else t0
  let tgt := t.2.clampTarget c q env v t.1
  let s1 := t.2.setb (F.RG_STAT.TCLAMP c) (tgt != t.1)
  let r := if fol || tied then meas else rampStep r0 tgt (s1.slewOf c q) meas (s1.is (F.RG_STAT.LIMIT c))
  let ramp := r != tgt && !fol && !tied
  let chg := if m.law = 6 then s1.chargeSample c v i env.1 else (0, s1)
  let s2 := chg.2
  let law := s2.lawDemand c q r v
  let dem := if fol then (((s2.ch c).share.getD 0, 0) : Int × Nat) else if tied then (i + chg.1, 0) else law.1
  let dem := s2.commonLimits c v dem
  let high := s2.overCont c dem.1 v
  let asks := high && s2.burstAsks c dem.1
  let held := s2.cbcHeld c || (((s2.ch c).episode || asks) && !peak)
  let b := if peak || held then env else s2.envelope c true v
  let dem2 := capLo (capHi dem b.1 7) (-b.2) 7
  let s3 := s2.modEng c fun e => { e with
    main := law.2.main, hiC := law.2.hiC, loC := law.2.loC, r := r, tgt := tgt, restart := false,
    one := if ramp then e.one else e.one.set m.law none }
  let still := s3.stillBound c dem.1 v (if q = 0 then some t.1 else none) dem2.2
  let s4 := ((s3.setb (F.PS_STAT.CLAMP c) (dem2.2 == 7 || s3.cbcHeld c || still)).set (F.RG_STAT.LIMIT c) dem2.2).setb
    (F.RG_STAT.RAMP c) ramp
  let s5 := if still then s4.set (F.MS_LATCH.STILL_CLAMP c) 1 else s4
  let s6 := (s5.seti (F.RG_TGT.R c) r).episode c high (!peak && !asks)
  let s6 := if asks then s6.askBurst c dem.1 v else s6
  let n := (s6.members c).length
  let mine := if s6.get (F.PS_GANG.ROLE c) = 1 then tdiv dem2.1 n else dem2.1
  let s7 := if s6.get (F.PS_GANG.ROLE c) = 1 then s6.modCh c fun h => { h with share := some mine } else s6
  let s8 := ((s7.passStep c mine).legManage c x).legsSample c mine x
  (s8.cestSample c ramp).supervise c restarted

/-- The discharge of R85 at the voltage slew; at the stop slew of R470; at the reset VSLEW in boot (R494). -/
def State.discharge (s : State) (c : Fin 24) (x : Sample) : State :=
  let v := tdiv (s.result c 0) 10000
  let e := (s.ch c).eng
  let slew : Int := if (s.ch c).drain then bitsOf (resetWord (R.RG_SLEW_VI c)) (F.RG_SLEW_VI.VSLEW c).hi (F.RG_SLEW_VI.VSLEW c).lo
    else if (s.ch c).stopSlew = 0 then s.get (F.RG_SLEW_VI.VSLEW c) else (s.ch c).stopSlew
  let r := max 0 ((if e.restart then v else e.r) - slew)
  let y := e.hv e.main (r - v)
  let env := s.envelope c false v
  let dem := max (min 0 y.1) (-env.2)
  let s1 := s.modEng c fun e => { e with main := y.2, r := r, tgt := 0, restart := false }
  (((s1.setb (F.PS_STAT.CLAMP c) (dem != min 0 y.1)).seti (F.RG_TGT.R c) r).legsSample c dem x).supervise c true

/-! ### RG_PROF_ADDR (R121) -/

/-- A write of RG_PROF_ADDR: under PROFILE the table is checked and its header read. -/
def State.profAddrWrite (s : State) (c : Fin 24) (w : Word) : Bool × State :=
  let a := bitsOf w 31 4 * 16
  if (s.resMode c).law = 5 then
    if s.profOk a then
      let h := s.profHdr a
      let s1 := s.set (F.RG_PROF_ADDR.ADDR c) (a / 16)
      (true, s1.modEng c fun e => { e with
        prof := some h, profIdx := 0, profHold := none, profLap := none
        restart := e.restart || (match e.prof with
          | some o => o.qty != h.qty
          | none => true) })
    else (false, (s.set (F.RG_STAT.CFG_REJ c) 1).set (F.RG_LATCH.PROF_ERR c) 1)
  else (true, s.set (F.RG_PROF_ADDR.ADDR c) (a / 16))

end Sys2Proof.Machine
end

