-- ==== Sys2Proof/Machine/ChanOps.lean ====
section
/-!
DEFINITION. The operations on a channel (R235 to R246): the instructions that post them, and what the tile does
with them in a control sample (R101, R276).
-/

namespace Sys2Proof.Machine

/-! ### Posting -/

/-- Post an operation of channel `n`; a channel out of range, or an operand the rule calls invalid, completes with
BAD_ARG (R237). -/
def State.postCh (s : State) (x : Exec) (rd : Fin 32) (n : Word) (ok : Bool) (k : OpKind) : State :=
  if ok && n.toNat < 24 then s.post x rd (.chan n.toNat) k else s.post x rd .hub .bad

/-- May a unit use a buffer of n bytes at address a (R237): aligned to 8 and within queue memory? -/
def bufOk (a n : Nat) : Bool := a % 8 == 0 && inQueue a && inQueue (a + n - 1)

/-- R240. -/
def execChset (x : Exec) (rd ra rb : Fin 32) (fn : BitVec 11) (s : State) : Out :=
  .next (s.issue x fun s => s.postCh x rd (s.g x ra) (fn.toNat ≤ 9) (.chset fn.toNat (s.g x rb)))

/-- R241. -/
def execChramp (x : Exec) (rd ra rb : Fin 32) (fn : BitVec 11) (s : State) : Out :=
  .next (s.issue x fun s =>
    if !isPair rb then s.illegal x 2
    else s.postCh x rd (s.g x ra) (fn.toNat ≤ 3) (.chramp fn.toNat (s.g x rb) (s.g x (pairHi rb))))

/-- R242. -/
def execChmode (x : Exec) (rd ra rb : Fin 32) (fn : BitVec 11) (s : State) : Out :=
  .next (s.issue x fun s => s.postCh x rd (s.g x ra) (fn.toNat < 128) (.chmode fn.toNat (s.g x rb)))

/-- R243. -/
def execChgang (x : Exec) (rd ra rb : Fin 32) (s : State) : Out :=
  .next (s.issue x fun s => s.postCh x rd (s.g x ra) ((s.g x rb).toNat < 4) (.chgang (s.g x rb).toNat))

/-- Is n a quantity of MEAS (R244)? -/
def measOk (n : Nat) : Bool := decide (n ≤ 6 ∨ 8 ≤ n ∧ n ≤ 11)

/-- R244. -/
def execMeas (x : Exec) (rd ra rb : Fin 32) (fn : BitVec 11) (s : State) : Out :=
  .next (s.issue x fun s =>
    s.postCh x rd (s.g x ra) (measOk fn.toNat && bufOk (s.g x rb).toNat 24) (.meas fn.toNat (s.g x rb).toNat))

/-- R245. -/
def execCaptStart (x : Exec) (rd ra rb : Fin 32) (s : State) : Out :=
  .next (s.issue x fun s => s.postCh x rd (s.g x ra) (capOk (s.g x rb)) (.capStart (s.g x rb)))

/-- R245. -/
def execCaptStop (x : Exec) (rd ra _ : Fin 32) (s : State) : Out :=
  .next (s.issue x fun s => s.postCh x rd (s.g x ra) true .capStop)

/-- R246. -/
def execStatRead (x : Exec) (rd ra rb : Fin 32) (s : State) : Out :=
  .next (s.issue x fun s => s.postCh x rd (s.g x ra) (bufOk (s.g x rb).toNat 128) (.statRead (s.g x rb).toNat))

/-- R246. -/
def execStatStart (x : Exec) (rd ra _ : Fin 32) (s : State) : Out :=
  .next (s.issue x fun s => s.postCh x rd (s.g x ra) true .statStart)

/-- R246. -/
def execStatStop (x : Exec) (rd ra _ : Fin 32) (s : State) : Out :=
  .next (s.issue x fun s => s.postCh x rd (s.g x ra) true .statStop)

/-! ### At the tile -/

/-- A completion word of OK or BAD_ARG. -/
def okWord (b : Bool) : Word := cword (if b then stOk else stBadArg)

/-- CAPT fn 0: DMODE and RING, then the start (R245). -/
def State.capStartW (s : State) (c : Fin 24) (w : Word) (late : Bool) : State :=
  ((s.set (F.MS_CAP_CTRL.DMODE c) (bitsOf w 28 28)).set (F.MS_CAP_CTRL.RING c) (bitsOf w 11 0)).capReq1 c (some late)

/-- The buffer of a channel operation, and its length. -/
def OpKind.buf : OpKind → Nat × Nat
  | .meas _ a => (a, 24)
  | .statRead a => (a, 128)
  | _ => (0, 0)

/-- Execute one operation of channel c: its completion word, what a UCS response carries, and the state after. -/
def State.chanOp (s : State) (c : Fin 24) (k : OpKind) : Word × List Word × State :=
  if s.domFenced (3 * c + 1) || s.bufFenced k.buf.1 k.buf.2 then (cword stFenced, [], s)
  else
    let s := s.wakeCh c
    match k with
    | .chset fn v => let r := s.setParam c fn v; (okWord r.1, [], r.2)
    | .chramp fn v sl => let r := s.setRamp c fn v sl; (okWord r.1, [], r.2)
    | .chmode axes w =>
      let r := s.modeReq c axes w
      (cword r.1 false (r.2.get (F.MD_STAT.SEQ c)), r.2.modeRecord c, r.2)
    | .chgang n =>
      let r := s.gangReq c n
      (cword r.1 false (r.2.get (F.MD_STAT.SEQ c)), r.2.modeRecord c, r.2)
    | .meas q a =>
      let l := w64 (s.result c q) ++ s.stamp
      (cword stOk false (s.ch c).fe.flags, l, if a = 0 then s else s.stWords a l)
    | .capStart w => (cword stOk, [], s.capStartW c w false)
    | .capStop => (cword stOk, [], s.capReq1 c none)
    | .statRead a =>
      let l := (s.ch c).fe.lastRec
      if l.isEmpty then (cword stNotReady, [], s) else (cword stOk, l, if a = 0 then s else s.stWords a l)
    | .statStart => if s.sweepOwns c then (cword stDenied, [], s) else (cword stOk, [], s.winReq1 c (some false))
    | .statStop => if s.sweepOwns c then (cword stDenied, [], s) else (cword stOk, [], s.winReq1 c none)
    | _ => (cword stBadArg, [], s)

/-- Does the operation wait for the front end, which is coming up (R21)? -/
def State.opWaits (s : State) (c : Fin 24) (k : OpKind) : Bool :=
  let m := match k with
    | .meas _ _ => true
    | .capStart _ => true
    | .statStart => true
    | _ => false
  m && !s.domOn (3 * c + 2) && !s.domHeldOff (3 * c + 2) && !s.domFenced (3 * c + 2)

/-- Does a mode request that has resolved wait for the transition to TIED that it starts (R82)? -/
def State.tiedWaits (s : State) (c : Fin 24) : OpKind → Bool
  | .chmode axes _ => axes.testBit 2 && (s.resMode c).path == 1 && (s.ch c).pathF != 1 && !(s.ch c).dead
  | _ => false

/-- Execute one operation of the channel. -/
def State.doChanOp (s : State) (c : Fin 24) (o : Op) : State :=
  let r := s.chanOp c o.kind
  if r.1 != cword stBadArg && r.1 != cword stFenced && r.2.2.tiedWaits c o.kind then
    { r.2.2 with ops := r.2.2.ops.map fun x => if x.who == o.who then { x with held := true } else x }
  else r.2.2.setWord o.who r.1 r.2.1

/-- The operations of channel c that have reached the tile and have not taken effect, in order of arrival. -/
def State.chanOps (s : State) (c : Fin 24) : List Op :=
  s.ops.filter fun o => o.unit == .chan c && o.word.isNone && !o.held

/-- The operations of channel c that can take effect, in their order of arrival: one that waits for the front end holds
those behind it (R239, R277). -/
def State.runChanOps (s : State) (c : Fin 24) : List Op → State
  | [] => s
  | o :: l => if s.opWaits c o.kind then s.wakeCh c else (s.doChanOp c o).runChanOps c l

/-- A register store to the block of channel k is an operation of the channel (R277): the operations that arrived before
it act first (R101, R216). A read of a result that waits for the front end is not passed over by a store's effect. -/
def State.opsFirst (s : State) (k : Nat) : State :=
  match chan? k with
  | some c => ((s.chanOps c).filter fun o => match o.kind with
      | .meas _ _ => false
      | _ => true).foldl (fun s o => s.doChanOp c o) s
  | none => s

/-- A requester's store to the register at `a` of the block of channel k. -/
def State.storeTo (s : State) (rq : Requester) (a k : Nat) (f : State → State) : State :=
  if canWrite rq a then f (s.opsFirst k) else s

/-- One step of a sweep (R200, R201): the open step window ends, the steps passed over leave their records, and the
value is written as an armed fire. -/
def State.sweepStep (s : State) (c : Fin 24) (f : Fire) : State :=
  if s.is (F.MS_SWP_CTRL.RUN c) then
    let s1 := if (s.ch c).fe.win.step = 0xFFFFFFFF then s else s.closeWin c true
    let s2 := (s1.sweepSkips c f.arg2.toNat f.arg0).setParam c (s.ch c).fe.sweep.qty f.arg1
    s2.2.set (F.MS_SWP_STAT.STEP c) f.arg0
  else s

/-- An armed fire at the tile (R248): an operand that fails its check has no effect and sets the CFG_REJ bit of the
register it would have written. -/
def State.runFire (s : State) (c : Fin 24) (f : Fire) : State :=
  match f.acode with
  | 0x01 =>
    if 9 < f.arg0 % 16 then s.set (F.RG_STAT.CFG_REJ c) 1 else (s.setParam c (f.arg0 % 16) f.arg1).2
  | 0x02 =>
    let r := s.modeReq c (f.arg0 % 128) f.arg1
    if r.1 = stBadArg then r.2.set (F.MD_STAT.CFG_REJ c) 1 else r.2
  | 0x03 =>
    let r := s.setRamp c (f.arg0 % 16) f.arg1 f.arg2
    if r.1 then r.2 else r.2.set (F.RG_STAT.CFG_REJ c) 1
  | 0x04 => (s.gangReq c (f.arg0 % 4)).2
  | 0x05 => (s.profAddrWrite c f.arg1).2
  | 0x08 => (s.lineReq c (f.arg0 % 4) f.arg1.toNat).2
  | 0x10 => if s.sweepOwns c then s else s.winReq1 c (some f.late)
  | 0x11 => if s.sweepOwns c then s else s.winReq1 c none
  | 0x12 => if capOk f.arg1 then s.capStartW c f.arg1 f.late else s.set (F.MS_STAT.CFG_REJ c) 1
  | 0x13 => s.capReq1 c none
  | 0x80 => s.sweepStep c f
  | 0x81 =>
    if s.is (F.MS_SWP_CTRL.RUN c) then
      let w := (s.ch c).fe.sweep
      (s.closeWin c true).openWin c w.window (f.late || w.late) f.arg0
    else s
  | _ => s

/-! ### Register stores to a channel's block (R277, R517) -/

/-- R207. -/
def execMdReqWrite (rq : Requester) (c : Fin 24) (w : Word) (s : State) : Out :=
  .next (s.storeTo rq (R.MD_REQ c) c fun s => s.mdReqWrite c w)

/-- R211. -/
def execMdGangWrite (rq : Requester) (c : Fin 24) (w : Word) (s : State) : Out :=
  .next (s.storeTo rq (R.MD_GANG c) c fun s => (s.gangReq c (bitsOf w 1 0)).2)

/-- R207. -/
def execMsRangeWrite (rq : Requester) (c : Fin 24) (w : Word) (s : State) : Out :=
  .next (s.storeTo rq (R.MS_RANGE c) c fun s => s.msRangeWrite c w)

/-- R207. -/
def execMsStageWrite (rq : Requester) (c : Fin 24) (w : Word) (s : State) : Out :=
  .next (s.storeTo rq (R.MS_STAGE c) c fun s => s.msStageWrite c w)

/-- R115. -/
def execRgLoopWrite (rq : Requester) (c : Fin 24) (w : Word) (s : State) : Out :=
  .next (s.storeTo rq (R.RG_LOOP c) c fun s => s.rgLoopWrite c w)

/-- R121. -/
def execRgProfAddrWrite (rq : Requester) (c : Fin 24) (w : Word) (s : State) : Out :=
  .next (s.storeTo rq (R.RG_PROF_ADDR c) c fun s => (s.profAddrWrite c w).2)

/-- R134. -/
def execBmTblAddrWrite (rq : Requester) (c : Fin 24) (w : Word) (s : State) : Out :=
  .next (s.storeTo rq (R.BM_TBL_ADDR c) c fun s => s.bmAddrWrite c w)

/-- R145. -/
def execBmSocWrite (rq : Requester) (c : Fin 24) (w : Word) (s : State) : Out :=
  .next (s.storeTo rq (R.BM_SOC c) c fun s => s.bmSocWrite c w)

/-- R146. -/
def execBmStateLoWrite (rq : Requester) (c : Fin 24) (f : BmField) (w : Word) (s : State) : Out :=
  .next (s.storeTo rq (bmLo c f) c fun s => s.bmLoWrite rq c f w)

/-- R146. -/
def execBmStateHiWrite (rq : Requester) (c : Fin 24) (f : BmField) (w : Word) (s : State) : Out :=
  .next (s.storeTo rq (bmLo c f) c fun s => s.bmHiWrite rq c f w)

/-- R145. -/
def execRstRelax (rq : Requester) (c : Fin 24) (s : State) : Out :=
  .next (s.storeTo rq (R.BM_CTRL c) c fun s => s.bmWrite c .relax)

/-- R145. -/
def execRstHyst (rq : Requester) (c : Fin 24) (s : State) : Out :=
  .next (s.storeTo rq (R.BM_CTRL c) c fun s => s.bmWrite c .hyst)

/-- R171. -/
def execCgClear (rq : Requester) (k : Fin 25) (s : State) : Out :=
  .next (s.storeTo rq (R.CG_CTRL k) k fun s => s.cgCtl k true false)

/-- R171. -/
def execCgRestart (rq : Requester) (k : Fin 25) (s : State) : Out :=
  .next (s.storeTo rq (R.CG_CTRL k) k fun s => s.cgCtl k false true)

/-- R167. -/
def execLoadPreset (rq : Requester) (k : Fin 25) (s : State) : Out :=
  .next (s.storeTo rq (R.CG_CTRL k) k fun s => s.loadPreset k)

/-- R179. -/
def execMsAutoWrite (rq : Requester) (c : Fin 24) (w : Word) (s : State) : Out :=
  .next (s.storeTo rq (R.MS_AUTO c) c fun s => s.msAutoWrite rq c w)

/-- R192. -/
def execWindowStart (rq : Requester) (c : Fin 24) (s : State) : Out :=
  .next (s.storeTo rq (R.MS_WIN_CTRL c) c fun s => s.winCtl c (some false))

/-- R192. -/
def execWindowStop (rq : Requester) (c : Fin 24) (s : State) : Out :=
  .next (s.storeTo rq (R.MS_WIN_CTRL c) c fun s => s.winCtl c none)

/-- R197. -/
def execCaptureStart (rq : Requester) (c : Fin 24) (s : State) : Out :=
  .next (s.storeTo rq (R.MS_CAP_CTRL c) c fun s => (s.wakeCh c).modFe c fun f => { f with capReq := f.capReq ++ [some false] })

/-- R197. -/
def execCaptureStop (rq : Requester) (c : Fin 24) (s : State) : Out :=
  .next (s.storeTo rq (R.MS_CAP_CTRL c) c fun s => s.modFe c fun f => { f with capReq := f.capReq ++ [none] })

/-- R200. -/
def execSweepStart (rq : Requester) (c : Fin 24) (s : State) : Out :=
  .next (s.storeTo rq (R.MS_SWP_CTRL c) c fun s => s.sweepStart c)

/-- R202. -/
def execSweepAbort (rq : Requester) (c : Fin 24) (s : State) : Out :=
  .next (s.storeTo rq (R.MS_SWP_CTRL c) c fun s => s.sweepAbort c)

end Sys2Proof.Machine
end

