-- ==== Sys2Proof/Machine/PdObjects.lean ====
section
/-!
DEFINITION. Data objects and messages of USB Power Delivery (chapter 14): capabilities, Requests, the numbers of
the messages and the buffer layout of Table 14-6. The encodings of objects and the message numbers are those of
the USB PD specification, which the spec names and does not repeat (PRESUMED, log entry 37).
-/

namespace Sys2Proof.Machine

/-- A power data object: kind as PD_STAT.KIND (0 fixed, 1 PPS, 2 AVS, 3 battery, 4 variable), voltages in mV,
current in mA, power in mW. -/
structure Pdo where
  kind : Nat
  vmin : Nat
  vmax : Nat
  i    : Nat
  p    : Nat
deriving DecidableEq, Repr

/-- The object a capability word encodes; none for an APDO type the port does not know. -/
def pdoOf (w : Word) : Option Pdo :=
  match bitsOf w 31 30 with
  | 0 =>
    let v := 50 * bitsOf w 19 10
    let i := 10 * bitsOf w 9 0
    some { kind := 0, vmin := v, vmax := v, i := i, p := v * i / 1000 }
  | 1 =>
    let v := 50 * bitsOf w 29 20
    let l := 50 * bitsOf w 19 10
    let p := 250 * bitsOf w 9 0
    some { kind := 3, vmin := l, vmax := v, i := p * 1000 / max 1 l, p := p }
  | 2 =>
    let v := 50 * bitsOf w 29 20
    let i := 10 * bitsOf w 9 0
    some { kind := 4, vmin := 50 * bitsOf w 19 10, vmax := v, i := i, p := v * i / 1000 }
  | _ =>
    if bitsOf w 29 28 = 0 then
      let v := 100 * bitsOf w 24 17
      let i := 50 * bitsOf w 6 0
      some { kind := 1, vmin := 100 * bitsOf w 15 8, vmax := v, i := i, p := v * i / 1000 }
    else if bitsOf w 29 28 = 1 then
      some { kind := 2, vmin := 100 * bitsOf w 15 8, vmax := 100 * bitsOf w 25 17, i := 5000, p := 1000 * bitsOf w 7 0 }
    else none

/-- Does an object belong to the EPR part: a fixed object above 20 V, or AVS? -/
def Pdo.isEpr (o : Pdo) : Bool := o.kind == 2 || (o.kind == 0 && decide (20000 < o.vmax))

/-- The words of a list up to the first word of 0. -/
def upToZero (l : List Word) : List Word := l.takeWhile (· != 0)

/-! ### Requests -/

/-- The voltage (mV) and current (mA) a Request asks of object `o`, and whether they lie on its steps and within it
(R370). -/
def requestOf (o : Pdo) (rdo : Word) : Nat × Nat × Bool :=
  match o.kind with
  | 1 =>
    let v := 20 * bitsOf rdo 20 9
    let i := 50 * bitsOf rdo 6 0
    (v, i, decide (o.vmin ≤ v ∧ v ≤ o.vmax ∧ i ≤ o.i))
  | 2 =>
    let v := 25 * bitsOf rdo 20 9
    let i := 50 * bitsOf rdo 6 0
    (v, i, decide (o.vmin ≤ v ∧ v ≤ o.vmax ∧ v % 100 = 0 ∧ i ≤ o.i ∧ v * i ≤ 1000 * o.p))
  | 3 =>
    let p := 250 * bitsOf rdo 19 10
    (o.vmax, p * 1000 / max 1 o.vmin, decide (p ≤ o.p))
  | _ =>
    let i := 10 * bitsOf rdo 19 10
    (o.vmax, i, decide (i ≤ o.i))

/-- The Request word for an object at position `pos`, a voltage in mV and a current in mA. -/
def requestWord (pos : Nat) (o : Pdo) (v i : Nat) : Word :=
  match o.kind with
  | 1 => BitVec.ofNat 32 (pos * 2 ^ 28 + v / 20 * 2 ^ 9 + i / 50)
  | 2 => BitVec.ofNat 32 (pos * 2 ^ 28 + v / 25 * 2 ^ 9 + i / 50)
  | 3 => BitVec.ofNat 32 (pos * 2 ^ 28 + i * o.vmin / 250000 * 2 ^ 10 + i * o.vmin / 250000)
  | _ => BitVec.ofNat 32 (pos * 2 ^ 28 + i / 10 * 2 ^ 10 + i / 10)

/-! ### Messages -/

/-- Control messages. -/
def ctlGoodCrc : Nat := 1
def ctlAccept : Nat := 3
def ctlReject : Nat := 4
def ctlPing : Nat := 5
def ctlPsRdy : Nat := 6
def ctlGetSourceCap : Nat := 7
def ctlGetSinkCap : Nat := 8
def ctlDrSwap : Nat := 9
def ctlPrSwap : Nat := 10
def ctlVconnSwap : Nat := 11
def ctlWait : Nat := 12
def ctlSoftReset : Nat := 13
def ctlNotSupported : Nat := 16
def ctlGetStatus : Nat := 18
def ctlGetCountryCodes : Nat := 21
def ctlGetSourceInfo : Nat := 23
def ctlGetRevision : Nat := 24

/-- Data messages. -/
def datSourceCap : Nat := 1
def datRequest : Nat := 2
def datBist : Nat := 3
def datSinkCap : Nat := 4
def datBattery : Nat := 5
def datAlert : Nat := 6
def datEprRequest : Nat := 9
def datEprMode : Nat := 10
def datSourceInfo : Nat := 11
def datRevision : Nat := 12
def datVdm : Nat := 15

/-- Extended messages. -/
def extStatus : Nat := 2
def extControl : Nat := 16
def extEprSourceCap : Nat := 17

/-- A control, data or extended message on SOP. -/
def ctlMsg (t : Nat) : PdMsg := { sop := 0, mtype := t, extended := false, objs := [] }
def datMsg (t : Nat) (objs : List Word) : PdMsg := { sop := 0, mtype := t, extended := false, objs := objs }
def extMsg (t : Nat) (objs : List Word) : PdMsg := { sop := 0, mtype := t, extended := true, objs := objs }

/-- The record of a Hard Reset among the messages sent: it is no message, so its type is 0. -/
def hardResetMark : PdMsg := ctlMsg 0

/-- The extended control message of a type: its block's first byte follows the extended header. -/
def eprControl (t : Nat) : PdMsg := extMsg extControl [BitVec.ofNat 32 (2 + t * 65536)]

/-- Word 0 of a buffer (Table 14-6). -/
def bufWord0 (m : PdMsg) : Word :=
  let n := m.objs.length
  BitVec.ofNat 32 (n * 2 ^ 16 + (min (max n 1) 4 - 1) * 2 ^ 13 + b2n m.extended * 2 ^ 12 + m.mtype * 2 ^ 4 + m.sop)

/-- The eight words a message takes in a buffer. -/
def bufWords (m : PdMsg) : List Word := ((bufWord0 m :: m.objs) ++ List.replicate 8 0).take 8

/-- The message of a buffer; none where word 0 breaks Table 14-6 (R377). -/
def msgOf (l : List Word) : Option PdMsg :=
  let w := l.headD 0
  let n := bitsOf w 18 16
  if bitsOf w 31 19 ≠ 0 || bitsOf w 15 15 ≠ 0 || bitsOf w 11 9 ≠ 0 || bitsOf w 3 2 ≠ 0 || 2 ≤ bitsOf w 1 0 ||
      bitsOf w 14 13 ≠ min (max n 1) 4 - 1 then none
  else some { sop := bitsOf w 1 0, mtype := bitsOf w 8 4, extended := bitOf w 12, objs := (l.drop 1).take n }

/-- May programs send a message (Table 14-7)? -/
def sendAdmitted (m : PdMsg) : Bool :=
  if m.extended then m.mtype == extStatus
  else if m.objs.isEmpty then
    [ctlGetSourceCap, ctlGetSinkCap, ctlPrSwap, ctlDrSwap, ctlVconnSwap, ctlGetStatus, ctlGetRevision,
      ctlGetSourceInfo, ctlGetCountryCodes].contains m.mtype
  else [datSourceInfo, datRevision, datAlert, datBattery].contains m.mtype

/-- Structured VDM headers: structured bit, command type (0 REQ, 1 ACK, 2 NAK, 3 BUSY) and command. -/
def vdmStructured (w : Word) : Bool := bitOf w 15
def vdmType (w : Word) : Nat := bitsOf w 7 6
def vdmCmd (w : Word) : Nat := bitsOf w 4 0

/-- The header of an answer of type t to a structured request. -/
def vdmAnswer (w : Word) (t : Nat) : Word := setBits w 7 6 t

/-- Commands of structured VDMs. -/
def vdmIdentity : Nat := 1
def vdmEnterMode : Nat := 4
def vdmAttention : Nat := 6

end Sys2Proof.Machine
end

