-- ==== Sys2Proof/Machine/TypeC.lean ====
section
/-!
DEFINITION. The PD engine of the Type-C ports (chapter 14): attach and detach, contracts, swaps, resets, VDMs and
the operations of programs.
-/

namespace Sys2Proof.Machine

/-- The channel of a port (R361). -/
def portCh (p : Fin 8) : Fin 24 := ⟨p.val, by omega⟩

/-- Port p beyond its registers. -/
def State.port (s : State) (p : Fin 8) : Port := s.ports[p]

/-- Change port p. -/
def State.modPort (s : State) (p : Fin 8) (f : Port → Port) : State := { s with ports := s.ports.set p (f s.ports[p]) }

/-- The PD role of the port (R362): 0 none, 1 source, 2 sink, 3 DRP; none while its PHY is off. -/
def State.pdRole (s : State) (p : Fin 8) : Nat :=
  if s.domOn (72 + p) then bitsOf (s.rd (R.MD_RES p)) 31 30 else 0

/-- Attach states of PD_STAT.ATTACH. -/
def atNone : Nat := 0
def atSrc : Nat := 1
def atSnk : Nat := 2
def atSwap : Nat := 3
def atHard : Nat := 4

/-- The attach state of port p. -/
def State.attach (s : State) (p : Fin 8) : Nat := s.get (F.PD_STAT.ATTACH p)

/-- Is the port attached to a partner? -/
def State.attached (s : State) (p : Fin 8) : Bool := s.attach p == atSrc || s.attach p == atSnk

/-- An event of the engine (R384). -/
def State.pdEvent (s : State) (p : Fin 8) (code : Nat) : State :=
  (s.signal 0x40 p (BitVec.ofNat 32 code)).notice 4 0x0980 [BitVec.ofNat 32 p, BitVec.ofNat 32 code]

/-- The port sends a message. -/
def State.pdTx (s : State) (p : Fin 8) (m : PdMsg) : State := s.modPort p fun h => { h with tx := h.tx ++ [m] }

/-- The port enters an exchange. -/
def State.pdEx (s : State) (p : Fin 8) (e : PdEx) : State := s.modPort p fun h => { h with ex := e }

/-! ### The engine's writes and their override (R366, R367) -/

/-- The registers of Table 14-4 as parameters: RG_VSET, RG_ILIM_SRC, RG_ILIM_SNK. -/
def pdParams : List Nat := [0, 6, 7]

/-- Does a register differ from what the engine last wrote, while the port is attached (R367)? -/
def State.pdOvr (s : State) (p : Fin 8) : State :=
  let h := s.port p
  let diff := s.attached p && (List.range 3).any fun k =>
    match h.wrote.getD k none with
    | some w => s.rd (paramAddr p (pdParams.getD k 0)) != w
    | none => false
  let s1 := if diff && !s.is (F.PD_STAT.OVR p) then s.set (F.PD_LATCH.OVR p) 1 else s
  s1.setb (F.PD_STAT.OVR p) diff

/-- The engine writes register k of the three; a CHRAMP where a slew is given. -/
def State.pdWrite (s : State) (p : Fin 8) (k v : Nat) (slew : Option Nat := none) : State :=
  let fn := pdParams.getD k 0
  let w := BitVec.ofNat 32 (min v (paramRange fn).2.toNat)
  let s1 := match slew with
    | some x => (s.setRamp (portCh p) fn w (BitVec.ofNat 32 x)).2
    | none => (s.setParam (portCh p) fn w).2
  (s1.modPort p fun h => { h with wrote := h.wrote.set k (some w) }).pdOvr p

/-- The current in µA that an Rp advertises: default, 1.5 A, 3.0 A. -/
def rpCurrent (n : Nat) : Nat := if n = 1 then 1500000 else if n = 2 then 3000000 else 500000

/-- A current with the margin of PD_CFG.IMARG. -/
def State.withMargin (s : State) (p : Fin 8) (i : Nat) : Nat := i * (100 + s.get (F.PD_CFG.IMARG p)) / 100

/-- The writes of an attach as source or as sink (Table 14-4). -/
def State.pdAttachWrites (s : State) (p : Fin 8) (src : Bool) : State :=
  if src then (s.pdWrite p 0 500000).pdWrite p 1 (s.withMargin p (rpCurrent (s.get (F.PD_CFG.RP p))))
  else s.pdWrite p 2 (rpCurrent (s.get (F.PD_STAT.PARTNER_RP p) - 1))

/-! ### The advertised set (R368, R369) -/

/-- Is PD_SRC_PDO_n omitted? -/
def State.pdoOmitted (s : State) (p : Fin 8) (n : Nat) : Bool :=
  let w := s.rd (R.PD_SRC_PDO p n)
  if w = 0 then false
  else match pdoOf w with
    | none => true
    | some o =>
      decide (48000 < o.vmax) || decide (5000 < o.i) || decide (s.contP (portCh p) < o.p) ||
        (o.kind != 2 && decide (s.contI (portCh p) < o.i * 1000)) || (decide (7 ≤ n) != o.isEpr)

/-- The words of the slots in the list up to the first word of 0, without the omitted ones. -/
def State.advOf (s : State) (p : Fin 8) (l : List Nat) : List Word :=
  ((l.takeWhile fun n => s.rd (R.PD_SRC_PDO p n) != 0).filter fun n => !s.pdoOmitted p n).map
    fun n => s.rd (R.PD_SRC_PDO p n)

/-- The advertised SPR part, empty where PD_SRC_PDO_0 is omitted; without APDOs to a partner at Revision 2.0. -/
def State.advSpr (s : State) (p : Fin 8) : List Word :=
  if s.pdoOmitted p 0 then []
  else (s.advOf p (List.range 7)).filter fun w => !(s.port p).rev2 || bitsOf w 31 30 != 3

/-- The advertised EPR part. -/
def State.advEpr (s : State) (p : Fin 8) : List Word :=
  if s.is (F.PD_CFG.EPR_EN p) && !(s.port p).rev2 then s.advOf p [7, 8, 9, 10] else []

/-- PD_STAT.OMIT. -/
def State.updOmit (s : State) (p : Fin 8) : State :=
  s.set (F.PD_STAT.OMIT p) (((List.range 11).filter (s.pdoOmitted p)).foldl (fun m n => m ||| 2 ^ n) 0)

/-- The advertised object at a position: 1 to 7 SPR, 8 to 11 EPR in EPR mode. -/
def State.advAt (s : State) (p : Fin 8) (pos : Nat) : Option Word :=
  let h := s.port p
  if pos = 0 then none
  else if pos ≤ 7 then h.adv[pos - 1]?
  else if h.epr then h.advE[pos - 8]? else none

/-- Send the capabilities, of EPR in EPR mode, and await a Request. -/
def State.sendCaps (s : State) (p : Fin 8) (must : Bool) : State :=
  let a := s.advSpr p
  let e := s.advEpr p
  let m := if (s.port p).epr then extMsg extEprSourceCap ((a ++ List.replicate 7 0).take 7 ++ e) else datMsg datSourceCap a
  (s.modPort p fun h => { h with adv := a, advE := e, resend := false, ex := .caps must }).pdTx p m

/-! ### Ends -/

/-- Complete the outstanding PD_REQUEST with a status; its body is PD_STAT, PD_CON_V and PD_CON_I (R373). -/
def State.pdReqDone (s : State) (p : Fin 8) (status : Nat) : State :=
  match (s.port p).req with
  | some m =>
    (s.modPort p fun h => { h with req := none }).done m 0x0905 status
      [s.rd (R.PD_STAT p), s.rd (R.PD_CON_V p), s.rd (R.PD_CON_I p)]
  | none => s

/-- Give the operation whose exchange runs its completion word. -/
def State.pdOpDone (s : State) (p : Fin 8) (w : Word) (body : List Word := []) : State :=
  match (s.port p).cur with
  | some who => (s.setWord who w body).modPort p fun h => { h with cur := none }
  | none => s

/-- Is an operation of the kind that sends? -/
def OpKind.sends : OpKind → Bool
  | .pdSend _ _ => true
  | .vdmReq _ _ => true
  | .vdmSend _ _ => true
  | .pdReq _ _ _ _ => true
  | _ => false

/-- An operation that does not start or is cut short: its word, or the response of a PD_REQUEST. -/
def State.pdOpFail (s : State) (o : Op) (status : Nat) : State :=
  match o.kind, o.who with
  | .pdReq _ _ _ _, .ucs m => State.done { s with ops := s.ops.filter fun x => x.who != o.who } m 0x0905 status []
  | _, _ => s.setWord o.who (cword status)

/-- The operations of port p that send and are not yet done, oldest first. -/
def State.pdOps (s : State) (p : Fin 8) : List Op :=
  s.ops.filter fun o => o.unit == Unit'.port p.val && o.kind.sends && o.word.isNone

/-- SENDs, VDMs and PD_REQUESTs of the port in progress complete with NOT_READY (R373, R379). -/
def State.pdDropOps (s : State) (p : Fin 8) : State :=
  let s1 := (s.pdOps p).foldl (fun s o => s.pdOpFail o stNotReady) s
  (s1.modPort p fun h => { h with cur := none }).pdReqDone p stNotReady

/-- The contract is cleared. -/
def State.pdClearCon (s : State) (p : Fin 8) : State :=
  let s1 := ((s.set (F.PD_STAT.CONTRACT p) 0).set (F.PD_STAT.KIND p) 0).set (F.PD_STAT.POS p) 0
  let s2 := ((s1.wr (R.PD_CON_V p) 0).wr (R.PD_CON_I p) 0).set (F.PD_STAT.WAITING p) 0
  let s3 := s2.modPort p fun h => { h with pend := none, epr := false, tries := 0 }
  if (s.port p).epr then s3.pdEvent p 0x0E else s3

/-- The port leaves the attached states (R364, R365): the engine writes nothing, and the channel re-resolves. -/
def State.pdDetach (s : State) (p : Fin 8) : State :=
  let s1 := (s.pdDropOps p).pdClearCon p
  let s2 := ((s1.set (F.PD_STAT.ATTACH p) atNone).set (F.PD_STAT.VCONN_ON p) 0).set (F.PD_STAT.PARTNER_RP p) 0
  let s3 := (s2.set (F.PD_STAT.OVR p) 0).modPort p fun h =>
    { h with ex := .idle, caps := [], adv := [], advE := [], resend := false, rev2 := false, answers := [],
             wrote := [none, none, none], ra := false, vcSwap := false, bist := false }
  (s3.pdEvent p 0x03).reresolve (portCh p)

/-- A Hard Reset, sent or received (R366, R379): as sink the writes of an attach, as source VBUS goes after
tPSHardReset. -/
def State.pdHard (s : State) (p : Fin 8) (sent : Bool) : State :=
  if s.attached p then
    let s1 := if sent then s.pdTx p hardResetMark else s
    let s2 := (((s1.set (F.PD_LATCH.HARD_RESET p) 1).pdDropOps p).pdClearCon p).modPort p fun h => { h with bist := false }
    let s3 := s2.pdEvent p 0x09
    if s3.attach p = atSrc then s3.pdEx p .hard else (s3.pdAttachWrites p false).pdEx p .idle
  else s

/-- Error recovery (R365). -/
def State.pdRecover (s : State) (p : Fin 8) : State :=
  if s.pdRole p = 0 || (s.port p).errRec then s
  else
    let s1 := (s.set (F.PD_LATCH.ERR_RECOVERY p) 1).pdDetach p
    (s1.raise (312 + p) 1 0 (s1.rd (R.PD_LATCH p))).modPort p fun h => { h with errRec := true }

/-- The contract in force is the terms that were accepted (R371, Table 14-4). -/
def State.pdContract (s : State) (p : Fin 8) : State :=
  match (s.port p).pend with
  | none => s
  | some t =>
    let s1 := (s.set (F.PD_STAT.CONTRACT p) (if (s.port p).epr then 2 else 1)).set (F.PD_STAT.KIND p) t.kind
    let s2 := (s1.set (F.PD_STAT.POS p) t.pos).wr (R.PD_CON_V p) (BitVec.ofNat 32 t.v)
    ((s2.wr (R.PD_CON_I p) (BitVec.ofNat 32 t.i)).modPort p fun h => { h with tries := 0 }).pdEvent p 0x04

/-! ### Starting what waits (R379) -/

/-- The object of the last received capabilities at a position. -/
def State.capAt (s : State) (p : Fin 8) (pos : Nat) : Option Pdo :=
  if pos = 0 || (8 ≤ pos && !(s.port p).epr) then none
  else match (s.port p).caps[pos - 1]? with
    | some w => if w = 0 then none else pdoOf w
    | none => none

/-- The terms a PD_REQUEST names, where the received capabilities admit them (R373). -/
def State.pdTerms (s : State) (p : Fin 8) (pos v i : Nat) : Option PdTerms :=
  match s.capAt p pos with
  | none => none
  | some o =>
    let prog := o.kind == 1 || o.kind == 2
    let mv := if prog then v / 100 else o.vmax
    let step := if o.kind = 1 then 20 else 100
    if 11 < pos || (!prog && v ≠ 0) || (prog && (v % (step * 100) ≠ 0 || mv < o.vmin || o.vmax < mv)) ||
        o.i * 1000 < i || (o.kind == 2 && 1000000 * o.p < mv * i) || ((s.port p).rev2 && prog) then none
    else some { pos := pos, kind := o.kind, v := mv * 100, i := i }

/-- Send a Request for terms; an EPR_Request in EPR mode. -/
def State.pdRequest (s : State) (p : Fin 8) (t : PdTerms) : State :=
  match s.capAt p t.pos with
  | none => s
  | some o =>
    let w := requestWord t.pos o (t.v / 100) (t.i / 1000)
    let m := if (s.port p).epr then datMsg datEprRequest [w, (s.port p).caps.getD (t.pos - 1) 0] else datMsg datRequest [w]
    (s.modPort p fun h => { h with pend := some t, ex := .reqSent }).pdTx p m

/-- The exchange that a sent message begins (Table 14-7). -/
def exAfterSend (m : PdMsg) : PdEx :=
  if m.extended || !m.objs.isEmpty then .idle
  else if m.mtype = ctlGetSourceCap || m.mtype = ctlGetSinkCap then .get
  else if m.mtype = ctlPrSwap then .prOffer
  else if m.mtype = ctlDrSwap then .drOffer
  else if m.mtype = ctlVconnSwap then .vcOffer
  else .idle

/-- The request that a sent answer settles (R378). -/
def answersWhat (m : PdMsg) : Nat :=
  if m.extended then ctlGetStatus
  else if m.mtype = datRevision then ctlGetRevision
  else if m.mtype = datSourceInfo then ctlGetSourceInfo
  else 0

/-- The 64-byte buffer of a port's operation; 0 for a command's, which has none. -/
def OpKind.portBuf : OpKind → Nat
  | .pdSend a _ => a
  | .pdRecv a => a
  | .vdmReq a _ => a
  | .vdmSend a _ => a
  | .vdmRecv a => a
  | _ => 0

/-- Start operation `o` on an idle port, or end it at once. -/
def State.pdStartOp (s : State) (p : Fin 8) (o : Op) : State :=
  let fail := fun st => s.pdOpFail o st
  if s.domFenced (72 + p) || s.bufFenced o.kind.portBuf 64 then fail stFenced
  else match o.kind with
    | .pdReq pos k v i =>
      if s.attach p ≠ atSnk then fail stNotReady
      else match s.pdTerms p pos (if k = 1 || k = 2 then v else 0) i, o.who with
        | some t, .ucs m => State.pdRequest (State.modPort { s with ops := s.ops.filter fun x => x.who != o.who } p fun h =>
            { h with req := some m, tries := 0 }) p t
        | _, _ => fail stBadArg
    | .pdSend _ l =>
      match msgOf l with
      | none => fail stBadArg
      | some m =>
        if !sendAdmitted m then fail stBadArg
        else if !s.attached p || !s.is (F.PD_CFG.PD_EN p) then fail stNotReady
        else (s.modPort p fun h =>
          { h with cur := some o.who, ex := .send, answers := h.answers.erase (answersWhat m) }).pdTx p m
    | .vdmReq _ l | .vdmSend _ l =>
      let req := match o.kind with
        | .vdmReq _ _ => true
        | _ => false
      match msgOf l with
      | none => fail stBadArg
      | some m =>
        let hd := m.objs.headD 0
        if m.extended || m.mtype ≠ datVdm || m.objs.isEmpty || (req && !(vdmStructured hd && vdmType hd == 0)) then
          fail stBadArg
        else if !s.attached p || !s.is (F.PD_CFG.PD_EN p) || (m.sop == 1 && !s.is (F.PD_STAT.VCONN_ON p)) then
          fail stNotReady
        else (s.modPort p fun h =>
          { h with cur := some o.who, ex := if req then .vdm else .send, tries := 0 }).pdTx p m
    | _ => s

/-- Does the source present SinkTxOk to this sink (R379)? Under an explicit contract of Revision 3 its Rp of 3.0 A says so, as
the USB PD specification has it (PRESUMED, log entry 37); before one, and at Revision 2.0, nothing holds a sink back. -/
def State.sinkTxOk (s : State) (p : Fin 8) : Bool :=
  s.attach p != atSnk || (s.port p).rev2 || !s.is (F.PD_STAT.CONTRACT p) || s.get (F.PD_STAT.PARTNER_RP p) == 3

/-- What the port's own Rp says to the partner as a source: SinkTxNG while an exchange of its engine is in progress
(R379). -/
def State.sinkTxNg (s : State) (p : Fin 8) : Bool := s.attach p == atSrc && (s.port p).ex != .idle

/-- Start the oldest operation, where the engine has no exchange in progress and may start one (R379). -/
def State.pdNext (s : State) (p : Fin 8) : Nat → State
  | 0 => s
  | n + 1 =>
    if (s.port p).ex ≠ .idle || !s.sinkTxOk p then s
    else match s.pdOps p with
      | [] => s
      | o :: _ => (s.pdStartOp p o).pdNext p n

/-- Start what waits. -/
def State.pdGo (s : State) (p : Fin 8) : State := s.pdNext p (s.ops.length + 1)

/-- The exchange ends, and the next may start. -/
def State.pdIdle (s : State) (p : Fin 8) : State := (s.pdEx p .idle).pdGo p

/-- GoodCRC ends a SEND or an unstructured VDM (R256, R257). -/
def State.pdSent (s : State) (p : Fin 8) (o : Op) : State :=
  let s1 := s.pdOpDone p (cword stOk)
  match o.kind with
  | .pdSend _ l =>
    match (msgOf l).map exAfterSend with
    | some .idle => s1.pdIdle p
    | some e => s1.pdEx p e
    | none => s1.pdIdle p
  | _ => s1.pdIdle p

/-! ### Attach and detach (R363 to R366) -/

/-- Attach in a power role (R364, R366): the data role, the writes, the event and the resolution. -/
def State.pdAttach (s : State) (p : Fin 8) (src : Bool) : State :=
  let s1 := (s.set (F.PD_STAT.ATTACH p) (if src then atSrc else atSnk)).updOmit p
  let s2 := if s1.is (F.PD_STAT.OMIT p) then s1.set (F.PD_LATCH.PDO_OMIT p) 1 else s1
  let s3 := s2.modPort p fun h => { h with ex := .idle, adv := s2.advSpr p, advE := s2.advEpr p, resend := false, tries := 0 }
  (s3.pdAttachWrites p src).reresolve (portCh p)

/-- R364. -/
def execTcAttach (p : Fin 8) (a : AttachInfo) (s : State) : Out :=
  .next (
    let role := s.pdRole p
    let fits := if role = 3 then a.asSource == (s.port p).rpOn else role == (if a.asSource then 1 else 2)
    if s.attach p = atNone && role ≠ 0 && !(s.port p).errRec && fits then
      let s1 := (s.setb (F.PD_STAT.DATA_ROLE p) a.asSource).setb (F.PD_STAT.CC_POL p) a.flipped
      let s2 := s1.setb (F.PD_STAT.VCONN_ON p) (a.asSource && s1.is (F.PD_CFG.VCONN_EN p) && a.ra)
      let s3 := s2.set (F.PD_STAT.PARTNER_RP p) (if a.asSource then 0 else a.rp + 1)
      ((s3.pdAttach p a.asSource).pdEvent p (if a.asSource then 0x01 else 0x02)).modPort p fun h => { h with ra := a.ra }
    else s)

/-- R364. -/
def execTcDetach (p : Fin 8) (s : State) : Out := .next (if s.attach p = atNone then s else s.pdDetach p)

/-- R363. -/
def execDrpToggle (p : Fin 8) (s : State) : Out :=
  .next (
    if s.pdRole p = 3 && s.attach p = atNone && !(s.port p).errRec then s.modPort p fun h => { h with rpOn := !h.rpOn }
    else s)

/-- R365. -/
def execErrorRecovery (p : Fin 8) (s : State) : Out := .next (s.pdRecover p)

/-- R365. -/
def execErrorRecoveryEnd (p : Fin 8) (s : State) : Out := .next (s.modPort p fun h => { h with errRec := false })

/-- R366, Table 14-4: the partner's Rp changes. -/
def execPartnerRpChange (p : Fin 8) (rp : Fin 3) (s : State) : Out :=
  .next (
    if s.attach p = atSnk then
      let s1 := s.set (F.PD_STAT.PARTNER_RP p) (rp + 1)
      (if s1.is (F.PD_STAT.CONTRACT p) then s1 else s1.pdAttachWrites p false).pdGo p
    else s)

/-- A port whose PD role becomes none is idle and unattached (R362). -/
def State.pdFollow (s : State) (p : Fin 8) : State :=
  if s.attach p ≠ atNone && s.pdRole p = 0 then s.pdDetach p else s

/-! ### Contracts as source (R368 to R371) -/

/-- R368. -/
def execFirstSourceCap (p : Fin 8) (s : State) : Out :=
  .next (
    if s.attach p = atSrc && s.is (F.PD_CFG.PD_EN p) && (s.port p).ex == .idle && !s.is (F.PD_STAT.CONTRACT p) &&
        !(s.advSpr p).isEmpty then
      s.sendCaps p false
    else s)

/-- Is the contract in force within the advertised set and the rating (R369)? -/
def State.pdWithin (s : State) (p : Fin 8) (a e : List Word) : Bool :=
  let pos := s.get (F.PD_STAT.POS p)
  let w := if pos ≤ 7 then a[pos - 1]? else e[pos - 8]?
  let v := s.get (F.PD_CON_V.VALUE p) / 100
  let i := s.get (F.PD_CON_I.VALUE p) / 1000
  match w.bind pdoOf with
  | none => false
  | some o => o.kind == s.get (F.PD_STAT.KIND p) && decide (o.vmin ≤ v) && decide (v ≤ o.vmax) && decide (i ≤ o.i) &&
      decide ((i : Int) * 1000 ≤ s.contI (portCh p)) && decide ((v * i : Nat) ≤ s.contP (portCh p) * 1000)

/-- The advertised set is evaluated again (R369). -/
def State.pdEval (s0 : State) (p : Fin 8) : State :=
  let s := s0.updOmit p
  if s.attach p ≠ atSrc || !s.is (F.PD_CFG.PD_EN p) then s
  else
    let h := s.port p
    let a := s.advSpr p
    let e := s.advEpr p
    if a = h.adv && e = h.advE then
      if s.is (F.PD_STAT.CONTRACT p) && h.ex == .idle && !s.pdWithin p a e then s.sendCaps p true else s
    else if a.isEmpty && s.pdoOmitted p 0 then (s.modPort p fun h => { h with adv := a, advE := e }).pdHard p true
    else if s.is (F.PD_STAT.CONTRACT p) && !s.pdWithin p a e then s.sendCaps p true
    else s.modPort p fun h => { h with resend := true }

/-- R369. -/
def execCapabilitiesResend (p : Fin 8) (s : State) : Out :=
  .next (
    let h := s.port p
    if s.attach p = atSrc && h.resend && h.ex == .idle && s.is (F.PD_CFG.PD_EN p) then s.sendCaps p false else s)

/-- A Request is refused (R370): Wait or Reject; a partner that had to request gets a Hard Reset (R369). -/
def State.pdRefuse (s : State) (p : Fin 8) (wait : Bool) : State :=
  let must := (s.port p).ex == .caps true
  let s1 := (s.pdTx p (ctlMsg (if wait then ctlWait else ctlReject))).set (F.PD_LATCH.CONTRACT_REJ p) 1
  let s2 := s1.pdEvent p 0x05
  if must && !wait then s2.pdHard p true else if must then s2 else s2.pdIdle p

/-- The current limit a source sets for accepted terms (R371), in µA: the spec states none for battery and variable
objects. -/
def State.srcLimit (s : State) (p : Fin 8) (o : Pdo) (v i : Nat) : Nat × State :=
  match o.kind with
  | 0 => (s.withMargin p (o.i * 1000), s)
  | 1 => (i * 1000, s)
  | 2 => (s.withMargin p (o.p * 1000000 / max 1 v), s)
  | _ => s.fresh

/-- Evaluate a Request (R370). -/
def State.pdEvaluate (s : State) (p : Fin 8) (rdo : Word) : State :=
  let pos := bitsOf rdo 31 28
  match (s.advAt p pos).bind pdoOf with
  | none => s.pdRefuse p false
  | some o =>
    let (v, i, ok) := requestOf o rdo
    let c := portCh p
    let rated := decide ((v * i : Nat) ≤ s.contP c * 1000) && decide ((i : Int) * 1000 ≤ s.contI c)
    if !ok || !rated then s.pdRefuse p false
    else
      let t := s.ledger.tiles.getD p (0, 0)
      if (t.1 + t.2 + s.free) * 1000000 < v * i then s.pdRefuse p (s.is (F.PD_CFG.WAIT_EN p))
      else
        let (lim, s1) := s.srcLimit p o v i
        (s1.modPort p fun h => { h with
          ex := .srcWait, pend := some { pos := pos, kind := o.kind, v := v * 100, i := i * 1000, lim := lim } }).pdTx p
          (ctlMsg ctlAccept)

/-- The channel's role goes OFF for a swap (Table 14-5). -/
def State.pdSwapOff (s : State) (p : Fin 8) (e : PdEx) : State :=
  (((s.pdClearCon p).set (F.PD_STAT.ATTACH p) atSwap).pdEx p e).reresolve (portCh p)

/-- R371: tSrcTransition after the Accept of a Request, or of a power-role swap (R375). -/
def execSourceTransitionStart (p : Fin 8) (s : State) : Out :=
  .next (
    match (s.port p).ex, (s.port p).pend with
    | .srcWait, some t =>
      let slew := min (s.get (F.PD_SLEW.SLEW p)) (s.get (F.RG_SLEW_VI.VSLEW p))
      ((s.pdWrite p 1 t.lim).pdWrite p 0 t.v (some slew)).pdEx p .srcRamp
    | .prSrcWait, _ => s.pdSwapOff p .prSrcOff
    | _, _ => s)

/-- Is the target reached, and SENSE within ±(0.5 % + 20 mV) of it (R371)? -/
def State.pdInBand (s : State) (p : Fin 8) (v : Nat) : Bool :=
  let m := i64 (s.rd64 (R.MS_V_LO p) (R.MS_V_HI p))
  decide ((s.rd (R.RG_TGT p)).toNat = v) && decide ((m - (v : Int) * 10000).natAbs ≤ v * 50 + 20000000)

/-- R371; in a power-role swap, once the discharge has ended (R375). -/
def execPsRdySend (p : Fin 8) (s : State) : Out :=
  .next (
    match (s.port p).ex, (s.port p).pend with
    | .srcRamp, some t => if s.pdInBand p t.v then ((s.pdTx p (ctlMsg ctlPsRdy)).pdContract p).pdIdle p else s
    | .prSrcOff, _ =>
      if (s.ch (portCh p)).disch then s else (s.pdTx p (ctlMsg ctlPsRdy)).pdEx p .prSrcRdy
    | _, _ => s)

/-- R371. -/
def execSourceTransitionTimeout (p : Fin 8) (s : State) : Out :=
  .next (if (s.port p).ex = .srcRamp then s.pdHard p true else s)

/-- R369, Table 14-3: no answer within tSenderResponse. -/
def execSenderResponseTimeout (p : Fin 8) (s : State) : Out :=
  .next (match (s.port p).ex with
    | .caps true => s.pdHard p true
    | .reqSent => s.pdHard p true
    | .soft => s.pdHard p true
    | .caps false | .get | .drOffer | .vcOffer | .prOffer | .eprAsk => s.pdIdle p
    | _ => s)

/-- R374. -/
def execPpsTimeout (p : Fin 8) (s : State) : Out :=
  .next (
    if s.attach p = atSrc && s.is (F.PD_STAT.CONTRACT p) && s.get (F.PD_STAT.KIND p) == 1 then s.pdHard p true else s)

/-- R374. -/
def execEprKeepaliveTimeout (p : Fin 8) (s : State) : Out :=
  .next (if s.attach p = atSrc && (s.port p).epr then s.pdHard p true else s)

/-! ### Hard Reset (R366) -/

/-- R366. -/
def execHardReset (p : Fin 8) (sent : Bool) (s : State) : Out := .next (s.pdHard p sent)

/-- R366: tPSHardReset after a Hard Reset as source. -/
def execPsHardResetTimeout (p : Fin 8) (s : State) : Out :=
  .next (
    if s.attach p = atSrc && (s.port p).ex == .hard then
      (s.set (F.PD_STAT.ATTACH p) atHard).reresolve (portCh p)
    else s)

/-- R366: tSrcRecover after the discharge has ended. -/
def execSrcRecoverTimeout (p : Fin 8) (s : State) : Out :=
  .next (if s.attach p = atHard && !(s.ch (portCh p)).disch then s.pdAttach p true else s)

/-! ### Contracts as sink (R372 to R374, R380) -/

/-- The greater of two candidates by power, the lower voltage between equals: position, mV, mA. -/
def betterPdo (a b : Nat × Nat × Nat × Nat) : Nat × Nat × Nat × Nat :=
  if a.2.2.2 < b.2.2.2 || (a.2.2.2 == b.2.2.2 && b.2.1 < a.2.1) then b else a

/-- The object that PD_SNK selects of the received capabilities (R372). -/
def State.pdSelect (s : State) (p : Fin 8) : Option PdTerms :=
  let imax := 10 * s.get (F.PD_SNK.IMAX p)
  let fixed := fun pos => (s.capAt p pos).filter fun o => o.kind == 0
  if s.is (F.PD_SNK.AUTO p) then
    let l := (List.range 11).filterMap fun n =>
      (fixed (n + 1)).bind fun o =>
        if o.vmax ≤ 100 * s.get (F.PD_SNK.VMAX p) then some (n + 1, o.vmax, o.i, o.p) else none
    match l with
    | [] => none
    | x :: l =>
      let b := l.foldl betterPdo x
      some { pos := b.1, kind := 0, v := b.2.1 * 100, i := min b.2.2.1 imax * 1000 }
  else (fixed 1).map fun o => { pos := 1, kind := 0, v := o.vmax * 100, i := min o.i imax * 1000 }

/-- Wait or BUSY (R380): a retry is due, or the retries are exhausted. -/
def State.pdBusy (s : State) (p : Fin 8) (vdm : Bool) : State :=
  if (s.port p).tries < s.get (F.PD_RETRY.COUNT p) then
    (s.set (F.PD_STAT.WAITING p) 1).pdEx p (if vdm then .vdm else .waiting)
  else
    let s1 := ((s.set (F.PD_STAT.WAITING p) 0).set (F.PD_LATCH.RETRY_EXH p) 1).pdEvent p 0x10
    let s2 := if vdm then s1.pdOpDone p (cword stBusy false 3) else s1.pdReqDone p stBusy
    (s2.modPort p fun h => { h with tries := 0 }).pdIdle p

/-- The message of the VDM operation whose exchange runs. -/
def State.pdCurMsg (s : State) (p : Fin 8) : Option PdMsg :=
  match s.ops.find? (fun o => (s.port p).cur == some o.who && o.word.isNone) with
  | some o => match o.kind with
    | .vdmReq _ l => msgOf l
    | .vdmSend _ l => msgOf l
    | .pdSend _ l => msgOf l
    | _ => none
  | none => none

/-- R380: WAIT_INT or BUSY_INT has passed. -/
def execPdRetry (p : Fin 8) (s : State) : Out :=
  .next (
    let h := s.port p
    if !s.is (F.PD_STAT.WAITING p) then s
    else if h.tries < s.get (F.PD_RETRY.COUNT p) then
      let s1 := s.modPort p fun h => { h with tries := h.tries + 1 }
      match h.ex, h.pend with
      | .waiting, some t => s1.pdRequest p t
      | .vdm, _ => match s1.pdCurMsg p with
        | some m => s1.pdTx p m
        | none => s1
      | _, _ => s1
    else s.pdBusy p (h.ex == .vdm))

/-- The terms of the contract in force, as PD_STAT, PD_CON_V and PD_CON_I report them. -/
def State.conTerms (s : State) (p : Fin 8) : PdTerms :=
  { pos := s.get (F.PD_STAT.POS p), kind := s.get (F.PD_STAT.KIND p), v := s.get (F.PD_CON_V.VALUE p),
    i := s.get (F.PD_CON_I.VALUE p) }

/-- R374. -/
def execPpsRerequest (p : Fin 8) (s : State) : Out :=
  .next (
    if s.attach p = atSnk && s.is (F.PD_STAT.CONTRACT p) && s.get (F.PD_STAT.KIND p) == 1 && (s.port p).ex == .idle then
      s.pdRequest p (s.conTerms p)
    else s)

/-- R374. -/
def execEprKeepaliveSend (p : Fin 8) (s : State) : Out :=
  .next (if s.attach p = atSnk && (s.port p).epr then s.pdTx p (eprControl 3) else s)

/-! ### Received messages (R378, Table 14-7) -/

/-- Queue a message for PDMSG RECV, or drop it with RXDROP; a dropped message is handled as if it were not passed. -/
def State.pdPass (s : State) (p : Fin 8) (m : PdMsg) : State :=
  if 8 ≤ (s.port p).rxq.length then s.set (F.PD_LATCH.RXDROP p) 1
  else (s.modPort p fun h => { h with rxq := h.rxq ++ [m] }).pdEvent p 0x0B

/-- Queue a VDM for PDVDM RECV. -/
def State.pdPassVdm (s : State) (p : Fin 8) (m : PdMsg) : State :=
  if 8 ≤ (s.port p).vdmq.length then s.set (F.PD_LATCH.RXDROP p) 1
  else (s.modPort p fun h => { h with vdmq := h.vdmq ++ [m] }).pdEvent p 0x0C

/-- Answer Not_Supported. -/
def State.pdNotSup (s : State) (p : Fin 8) : State := s.pdTx p (ctlMsg ctlNotSupported)

/-- A request for programs (R378): passed and awaited for 15 ms; with a full queue it is answered Not_Supported. -/
def State.pdPassReq (s : State) (p : Fin 8) (m : PdMsg) : State :=
  if 8 ≤ (s.port p).rxq.length then (s.pdPass p m).pdNotSup p
  else (s.pdPass p m).modPort p fun h => { h with answers := h.answers ++ [m.mtype] }

/-- A power-role swap is accepted, by either side (Table 14-5). -/
def State.pdSwapGo (s : State) (p : Fin 8) : State :=
  if s.attach p = atSrc then s.pdEx p .prSrcWait else s.pdSwapOff p .prSnkWait

/-- The data role changes (R375). -/
def State.pdDrSwap (s : State) (p : Fin 8) : State :=
  (s.setb (F.PD_STAT.DATA_ROLE p) (!s.is (F.PD_STAT.DATA_ROLE p))).pdEvent p 0x07

/-- A VCONN swap is accepted: the port becomes the VCONN source and says so, or waits for the partner's PS_RDY. -/
def State.pdVconnGo (s : State) (p : Fin 8) : State :=
  if s.is (F.PD_STAT.VCONN_ON p) then s.pdEx p .vcWait
  else ((((s.set (F.PD_STAT.VCONN_ON p) 1).modPort p fun h => { h with vcSwap := true }).pdTx p (ctlMsg ctlPsRdy)).pdEvent p
    0x08).pdIdle p

/-- Accept received. -/
def State.rxAccept (s : State) (p : Fin 8) : State :=
  match (s.port p).ex, (s.port p).pend with
  | .reqSent, some t => (s.pdWrite p 2 (min (s.param (portCh p) 7).toNat t.i)).pdEx p .reqAcc
  | .prOffer, _ => s.pdSwapGo p
  | .drOffer, _ => (s.pdDrSwap p).pdIdle p
  | .vcOffer, _ => s.pdVconnGo p
  | .soft, _ => s.pdIdle p
  | _, _ => s

/-- Reject received. -/
def State.rxReject (s : State) (p : Fin 8) : State :=
  match (s.port p).ex with
  | .reqSent =>
    let s1 := ((s.set (F.PD_LATCH.CONTRACT_REJ p) 1).set (F.PD_STAT.WAITING p) 0).pdEvent p 0x05
    ((s1.modPort p fun h => { h with tries := 0 }).pdReqDone p stDenied).pdIdle p
  | .prOffer | .drOffer | .vcOffer | .get => s.pdIdle p
  | _ => s

/-- Wait received. -/
def State.rxWait (s : State) (p : Fin 8) : State :=
  match (s.port p).ex with
  | .reqSent => ((s.set (F.PD_LATCH.CONTRACT_REJ p) 1).pdEvent p 0x05).pdBusy p false
  | .prOffer | .drOffer | .vcOffer | .get => s.pdIdle p
  | _ => s

/-- After the first explicit contract a sink asks for EPR mode where PD_SNK says so (R372). -/
def State.pdAskEpr (s : State) (p : Fin 8) : State :=
  let able := bitsOf ((s.port p).caps.headD 0) 23 23 == 1
  if s.is (F.PD_SNK.EPR_REQ p) && able && !(s.port p).epr && !(s.port p).rev2 then
    (s.pdTx p (datMsg datEprMode [0x01000000])).pdEx p .eprAsk
  else s.pdIdle p

/-- PS_RDY received. -/
def State.rxPsRdy (s : State) (p : Fin 8) : State :=
  match (s.port p).ex, (s.port p).pend with
  | .reqAcc, some t =>
    let first := !s.is (F.PD_STAT.CONTRACT p)
    let s1 := (((s.pdWrite p 2 t.i).set (F.PD_STAT.WAITING p) 0).pdContract p).pdReqDone p stOk
    if first then s1.pdAskEpr p else s1.pdIdle p
  | .prSrcRdy, _ =>
    ((((s.set (F.PD_STAT.PARTNER_RP p) 1).pdAttach p false).pdEvent p 0x06).pdGo p)
  | .prSnkWait, _ =>
    ((s.set (F.PD_STAT.PARTNER_RP p) 0).pdAttach p true).pdEx p .prSnkUp
  | .vcWait, _ =>
    (((s.set (F.PD_STAT.VCONN_ON p) 0).modPort p fun h => { h with vcSwap := false }).pdEvent p 0x08).pdIdle p
  | _, _ => s

/-- Accept an offered swap where it is admitted, else Reject. -/
def State.rxSwap (s : State) (p : Fin 8) (ok : Bool) (f : State → State) : State :=
  if ok then f (s.pdTx p (ctlMsg ctlAccept)) else s.pdTx p (ctlMsg ctlReject)

/-- Control messages. -/
def State.rxControl (s : State) (p : Fin 8) (m : PdMsg) : State :=
  let t := m.mtype
  if t = ctlGoodCrc || t = ctlPing then s
  else if t = ctlAccept then s.rxAccept p
  else if t = ctlReject then s.rxReject p
  else if t = ctlWait then s.rxWait p
  else if t = ctlPsRdy then s.rxPsRdy p
  else if t = ctlNotSupported then
    match (s.port p).ex with
    | .prOffer | .drOffer | .vcOffer | .get | .eprAsk => s.pdIdle p
    | _ => s
  else if t = ctlSoftReset then
    (((s.pdDropOps p).pdTx p (ctlMsg ctlAccept)).pdEvent p 0x0A).pdIdle p
  else if t = ctlGetSourceCap then
    if s.attach p = atSrc && !(s.advSpr p).isEmpty then s.sendCaps p false else s.pdNotSup p
  else if t = ctlGetSinkCap then
    s.pdTx p (datMsg datSinkCap (upToZero ((List.range 7).map fun n => s.rd (R.PD_SNK_PDO p n))))
  else if t = ctlDrSwap then s.rxSwap p (s.is (F.PD_CFG.DRS_EN p)) fun s => s.pdDrSwap p
  else if t = ctlPrSwap then
    s.rxSwap p (s.is (F.PD_CFG.PRS_EN p) && bitsOf (s.rd (R.MD_REQ p)) 31 30 == 3) fun s => s.pdSwapGo p
  else if t = ctlVconnSwap then s.rxSwap p (s.is (F.PD_CFG.VCS_EN p)) fun s => s.pdVconnGo p
  else if [ctlGetStatus, ctlGetRevision, ctlGetSourceInfo, ctlGetCountryCodes].contains t then s.pdPassReq p m
  else s.pdNotSup p

/-- A cable is 5 A and EPR-capable by its VDO. -/
def cableOk (w : Word) : Bool := bitsOf w 6 5 == 2 && bitOf w 17

/-- EPR mode begins, as source (R374). -/
def State.eprOn (s : State) (p : Fin 8) : State :=
  let s1 := (s.pdTx p (datMsg datEprMode [0x03000000])).modPort p fun h => { h with epr := true }
  (s1.pdEvent p 0x0D).sendCaps p false

/-- EPR mode is refused, as source. -/
def State.eprFail (s : State) (p : Fin 8) : State := (s.pdTx p (datMsg datEprMode [0x04000000])).pdIdle p

/-- EPR_Mode received (R372, R374). -/
def State.rxEprMode (s : State) (p : Fin 8) (w : Word) : State :=
  let a := bitsOf w 31 24
  if a = 5 then
    if (s.port p).epr then (s.modPort p fun h => { h with epr := false }).pdEvent p 0x0E else s
  else if s.attach p = atSrc then
    if a ≠ 1 then s
    else if !s.is (F.PD_CFG.EPR_EN p) || !s.is (F.PD_STAT.CONTRACT p) || (s.port p).rev2 then s.eprFail p
    else
      let s1 := s.pdTx p (datMsg datEprMode [0x02000000])
      if s1.is (F.PD_CFG.EPR_CABLE p) then s1.eprOn p
      else if s1.is (F.PD_STAT.VCONN_ON p) then
        (s1.pdTx p { (datMsg datVdm [0xFF008001]) with sop := 1 }).pdEx p .eprCable
      else s1.eprFail p
  else if a = 3 && (s.port p).ex == .eprAsk then
    ((s.modPort p fun h => { h with epr := true }).pdEvent p 0x0D).pdIdle p
  else if a = 4 && (s.port p).ex == .eprAsk then s.pdIdle p
  else s

/-- Capabilities received as sink (R372): passed as a copy, and the engine requests. -/
def State.rxCaps (s : State) (p : Fin 8) (m : PdMsg) : State :=
  let s1 := s.pdPass p m
  if s1.attach p ≠ atSnk then (if (s1.port p).ex = .get then s1.pdIdle p else s1)
  else
    let s2 := s1.modPort p fun h => { h with caps := m.objs }
    match s2.pdSelect p with
    | some t => s2.pdRequest p t
    | none => if (s2.port p).ex = .get then s2.pdIdle p else s2

/-- The response to the VDM in flight goes to bytes 32 to 63 of its buffer (R257). -/
def State.vdmReply (s : State) (p : Fin 8) (m : PdMsg) : State :=
  match s.ops.find? (fun o => (s.port p).cur == some o.who && o.word.isNone) with
  | some o => match o.kind with
    | .vdmReq a _ => if a = 0 then s else s.stWords (a + 32) (bufWords m)
    | _ => s
  | none => s

/-- A structured response to the VDM in flight (R257, R380). -/
def State.rxVdmAnswer (s : State) (p : Fin 8) (m : PdMsg) : State :=
  let t := vdmType (m.objs.headD 0)
  match (s.port p).ex with
  | .eprCable =>
    if m.sop = 1 then
      let ack := t == 1 && cableOk (m.objs.getD 4 0)
      if ack then s.eprOn p else s.eprFail p
    else s
  | .vdm =>
    let s1 := s.vdmReply p m
    if t = 3 then s1.pdBusy p true
    else
      let s2 := (s1.set (F.PD_STAT.WAITING p) 0).pdOpDone p (cword stOk false t) (BitVec.ofNat 32 t :: bufWords m)
      (s2.modPort p fun h => { h with tries := 0 }).pdIdle p
  | _ => s

/-- A VDM on SOP (R381). -/
def State.rxVdm (s : State) (p : Fin 8) (m : PdMsg) : State :=
  let hd := m.objs.headD 0
  if !vdmStructured hd then s.pdPassVdm p m
  else if vdmType hd ≠ 0 then s.rxVdmAnswer p m
  else if vdmCmd hd = vdmAttention then s.pdPassVdm p m
  else
    let ids := (List.range 6).map fun k => s.rd (R.PD_ID p k)
    if vdmCmd hd = vdmIdentity && ids.any (· != 0) then s.pdTx p (datMsg datVdm (vdmAnswer hd 1 :: ids))
    else s.pdTx p (datMsg datVdm [vdmAnswer hd 2])

/-- SOP′ traffic (R381, R382): the answer of a cable to the engine or a program, or a request that the port answers
as a cable plug. -/
def State.rxPlug (s : State) (p : Fin 8) (m : PdMsg) : State :=
  let hd := m.objs.headD 0
  let vdm := !m.extended && m.mtype == datVdm && !m.objs.isEmpty
  if vdm && vdmStructured hd && vdmType hd ≠ 0 then s.rxVdmAnswer p m
  else if !s.is (F.PD_CFG.CABLE_EN p) || !m.vconn || (!m.extended && m.objs.isEmpty && m.mtype == ctlGoodCrc) then s
  else if vdm then
    let a := if vdmStructured hd && vdmCmd hd = vdmIdentity then
        vdmAnswer hd 1 :: (List.range 4).map fun j => s.rd (R.PD_CABLE p j)
      else [vdmAnswer hd 2]
    s.pdTx p { (datMsg datVdm a) with sop := 1 }
  else s.pdTx p { (ctlMsg ctlNotSupported) with sop := 1 }

/-- BIST (R378): Test Data holds until a Hard Reset or a detach; Carrier Mode ends by itself and leaves nothing. The
modes' numbers are those of the USB PD specification (PRESUMED, log entry 37). -/
def State.rxBist (s : State) (p : Fin 8) (w : Word) : State :=
  if bitsOf w 31 28 = 8 then s.modPort p fun h => { h with bist := true } else s

/-- Data messages on SOP. -/
def State.rxData (s : State) (p : Fin 8) (m : PdMsg) : State :=
  let t := m.mtype
  if t = datSourceCap then s.rxCaps p m
  else if t = datRequest then
    if s.attach p = atSrc && (s.port p).ex != .hard then s.pdEvaluate p (m.objs.headD 0) else s
  else if t = datEprRequest then
    if s.attach p = atSrc && (s.port p).epr then s.pdEvaluate p (m.objs.headD 0) else s
  else if t = datBist then s.rxBist p (m.objs.headD 0)
  else if t = datSinkCap then
    let s1 := s.pdPass p m
    if (s1.port p).ex = .get then s1.pdIdle p else s1
  else if [datBattery, datAlert, datSourceInfo, datRevision].contains t then s.pdPass p m
  else if t = datEprMode then s.rxEprMode p (m.objs.headD 0)
  else if t = datVdm then s.rxVdm p m
  else s.pdNotSup p

/-- Extended messages on SOP. -/
def State.rxExt (s : State) (p : Fin 8) (m : PdMsg) : State :=
  if m.mtype = extStatus then s.pdPass p m
  else if m.mtype = extEprSourceCap then s.rxCaps p m
  else if m.mtype = extControl then
    let t := bitsOf (m.objs.headD 0) 23 16
    if t = 3 && s.attach p = atSrc && (s.port p).epr then s.pdTx p (eprControl 4)
    else if t = 4 then s
    else s.pdNotSup p
  else s.pdNotSup p

/-- R378. Under BIST Test Data a message is only acknowledged. -/
def execPdMessageReceive (p : Fin 8) (m : PdMsg) (s : State) : Out :=
  .next (
    if (s.attached p || s.attach p == atSwap) && s.is (F.PD_CFG.PD_EN p) && !(s.port p).bist then
      let s1 := if m.rev2 && !(s.port p).rev2 then
          (s.set (F.PD_LATCH.REV2 p) 1).modPort p fun h => { h with rev2 := true } else s
      if m.sop ≠ 0 then s1.rxPlug p m
      else if m.extended then s1.rxExt p m
      else if m.objs.isEmpty then s1.rxControl p m
      else s1.rxData p m
    else s)

/-! ### Swaps, VCONN, timeouts -/

/-- R375: OUT_p of the new source is at 4.75 V. -/
def execSwapVbusReady (p : Fin 8) (s : State) : Out :=
  .next (
    if (s.port p).ex = .prSnkUp then ((s.pdTx p (ctlMsg ctlPsRdy)).pdEvent p 0x06).pdIdle p else s)

/-- R375. -/
def execSwapTimeout (p : Fin 8) (s : State) : Out :=
  .next (match (s.port p).ex with
    | .prSrcRdy | .prSnkWait => s.pdRecover p
    | _ => s)

/-- R376. -/
def execVconnTrip (p : Fin 8) (s : State) : Out :=
  .next (
    if s.is (F.PD_STAT.VCONN_ON p) then
      let s1 := (s.set (F.PD_STAT.VCONN_ON p) 0).set (F.PD_LATCH.VCONN_OC p) 1
      (s1.raise (312 + p) 2 0 (s1.rd (R.PD_LATCH p))).pdEvent p 0x0F
    else s)

/-- R379: a message had no GoodCRC after its retransmissions. -/
def execGoodcrcRetryExhausted (p : Fin 8) (s : State) : Out :=
  .next (
    if s.attached p then
      let s1 := s.pdOpDone p (cword stNotReady)
      let s2 := if (s1.port p).ex = .reqSent then s1.pdReqDone p stNotReady else s1
      ((s2.pdTx p (ctlMsg ctlSoftReset)).pdEvent p 0x0A).pdEx p .soft
    else s)

/-- R378: 15 ms without a SEND that answers. -/
def execNotSupportedReply (p : Fin 8) (s : State) : Out :=
  .next (match (s.port p).answers with
    | [] => s
    | _ :: l => (s.pdNotSup p).modPort p fun h => { h with answers := l })

/-- R381: the response timer of a structured VDM expires. -/
def execVdmResponseTimeout (p : Fin 8) (s : State) : Out :=
  .next (match (s.port p).ex with
    | .vdm => ((s.set (F.PD_STAT.WAITING p) 0).pdOpDone p (cword stNotReady) [0]).pdIdle p
    | .eprCable => s.eprFail p
    | _ => s)

/-- R383: BC 1.2 detection ends with result 1 SDP, 2 CDP or 3 DCP. -/
def execBcDone (p : Fin 8) (result : Fin 8) (s : State) : Out :=
  .next (
    if s.domOn (72 + p) && s.get (F.PD_BC.MODE p) == 4 && decide (1 ≤ result.val ∧ result.val ≤ 3) then
      (s.set (F.PD_BC.RESULT p) result).pdEvent p 0x11
    else s)

/-! ### The operations of programs (R256, R257) -/

/-- Post an operation on a port; a port out of range or a buffer that is none completes with BAD_ARG. -/
def State.postPort (s : State) (x : Exec) (rd : Fin 32) (n buf : Word) (k : Nat → OpKind) : State :=
  match port? n.toNat with
  | some p =>
    if bufOk buf.toNat 64 then (s.post x rd (.port p) (k buf.toNat)).pdGo p
    else s.post x rd .hub .bad
  | none => s.post x rd .hub .bad

/-- R256. -/
def execPdmsgSend (x : Exec) (rd ra rb : Fin 32) (s : State) : Out :=
  .next (s.issue x fun s => s.postPort x rd (s.g x ra) (s.g x rb) fun a => .pdSend a (s.ldWords a 8))

/-- R256. -/
def execPdmsgRecv (x : Exec) (rd ra rb : Fin 32) (s : State) : Out :=
  .next (s.issue x fun s => s.postPort x rd (s.g x ra) (s.g x rb) fun a => .pdRecv a)

/-- R257. -/
def execPdvdmStructured (x : Exec) (rd ra rb : Fin 32) (s : State) : Out :=
  .next (s.issue x fun s => s.postPort x rd (s.g x ra) (s.g x rb) fun a => .vdmReq a (s.ldWords a 8))

/-- R257. -/
def execPdvdmUnstructured (x : Exec) (rd ra rb : Fin 32) (s : State) : Out :=
  .next (s.issue x fun s => s.postPort x rd (s.g x ra) (s.g x rb) fun a => .vdmSend a (s.ldWords a 8))

/-- R257. -/
def execPdvdmRecv (x : Exec) (rd ra rb : Fin 32) (s : State) : Out :=
  .next (s.issue x fun s => s.postPort x rd (s.g x ra) (s.g x rb) fun a => .vdmRecv a)

/-- The unit's part of a RECV: the oldest entry goes into the buffer, or NOT_READY. -/
def State.pdRecv (s : State) (p : Fin 8) (o : Op) : State :=
  match o.kind with
  | .pdRecv a =>
    match (s.port p).rxq with
    | [] => s.setWord o.who (cword stNotReady)
    | m :: l =>
      let s1 := (s.modPort p fun h => { h with rxq := l })
      (if a = 0 then s1 else s1.stWords a (bufWords m ++ List.replicate 8 0)).setWord o.who (cword stOk)
        (bufWords m ++ List.replicate 8 0)
  | .vdmRecv a =>
    match (s.port p).vdmq with
    | [] => s.setWord o.who (cword stNotReady)
    | m :: l =>
      let s1 := (s.modPort p fun h => { h with vdmq := l })
      (if a = 0 then s1 else s1.stWords a (bufWords m)).setWord o.who (cword stOk) (bufWords m)
  | _ => s

/-- Does an earlier operation of the port wait that its engine has not begun (R277)? -/
def State.behindAt (s : State) (p : Fin 8) (o : Op) : Bool :=
  (s.ops.takeWhile fun q => q.who != o.who).any fun q =>
    q.unit == o.unit && q.word.isNone && (s.port p).cur != some q.who

/-- The unit's part of an operation on a port at its completion: a RECV is done now, a message sent has its
GoodCRC. -/
def State.portStep (s : State) (p : Fin 8) (o : Op) : State :=
  if o.kind.sends then
    let s1 := s.pdGo p
    if (s1.port p).cur = some o.who && (s1.port p).ex == .send then s1.pdSent p o else s1
  else if s.behindAt p o then s
  else if s.domFenced (72 + p) || s.bufFenced o.kind.portBuf 64 then s.setWord o.who (cword stFenced)
  else s.pdRecv p o

/-- The engines' part of a control sample of a port's channel: they follow the PD role, evaluate the advertised set
and the override again (R362, R367, R369). -/
def State.portSample (s : State) (c : Fin 24) : State :=
  match port? c.val with
  | some p =>
    let s1 := (s.pdFollow p).pdOvr p
    if s1.attach p = atSrc then s1.pdEval p else s1
  | none => s

end Sys2Proof.Machine
end

