-- ==== Sys2Proof/Machine/Sample.lean ====
section
/-!
DEFINITION. CONTROL_SAMPLE (R100, R101): one sample of one channel, and the application of a resolved change
(R217).
-/

namespace Sys2Proof.Machine

/-! ### Applying a resolved change (R217) -/

/-- An entry to MODEL or PROFILE that no request has checked (R208): where the table fails, the role resolves OFF
under bit 4. -/
def State.entryCheck (s : State) (c : Fin 24) : State :=
  let old := s.curMode c
  let new := s.resMode c
  let entry := (new.law == 4 || new.law == 5) && (new.law != old.law || (old.role == 0 && new.role != 0))
  if entry && !s.lawOk c new.law then (s.lawErr c new.law).reactOff c false else s

/-- The law's own parts begin and end: the profile and the charger. -/
def State.applyLaw (s : State) (c : Fin 24) (old new : Mode) (enable : Bool) : State :=
  let k : Fin 25 := ⟨c.val, Nat.lt_succ_of_lt c.isLt⟩
  let s2 :=
    if new.law = 5 && (old.law ≠ 5 || enable) then
      s.modEng c fun e => { e with
        prof := some (s.profHdr (s.profAddr c)), profIdx := 0, profHold := none, profLap := none }
    else if new.law = 5 then s
    else (s.set (F.RG_STAT.PEND c) 0).modEng c fun e => { e with prof := none, profIdx := 0, profHold := none, profLap := none }
  let was := old.law == 6 && old.role != 0
  let now := new.law == 6 && new.role != 0
  if now && !was then
    (s2.cgStart k (tdiv (s2.result c 5) 1000000)).modCg k fun g => { g with vref := tdiv (s2.vbat c) 10000 }
  else if was && !now then
    if 2 ≤ new.path && new.role ≠ 0 && (s2.reqMode c).law == 6 then s2.cgLost k else s2.cgStop k
  else s2

/-- A charger in FAULT for a lost path (R150) stands there while CHARGE is still asked for and the role is not OFF; its
cycle then ends (R152). -/
def State.lostEnd (s : State) (c : Fin 24) : State :=
  let k : Fin 25 := ⟨c.val, Nat.lt_succ_of_lt c.isLt⟩
  let m := s.curMode c
  if (s.chargers[k]).lost && (m.role == 0 || (s.reqMode c).law != 6) then s.cgStop k else s

/-- The role goes OFF (R72, R185, R202): the sweep and local sense end, and the stage is SWITCH. -/
def State.goOff (s : State) (c : Fin 24) : State :=
  let s1 := ((s.sweepAbort c).senseEnd c).abortHandover c
  let s2 := (s1.set (F.RG_STAT.RAMP c) 0).set (F.RG_STAT.LIMIT c) 0
  s2.modCh c fun h =>
    { (h.modEng fun e => { e with restart := true, cest := none, one := [none, none, none, none] }) with disch := false }

/-- The role leaves OFF (R84, R116, R185); a test of a gate link of the channel ends (Table 20-4). -/
def State.goOn (s0 : State) (c : Fin 24) (new : Mode) : State :=
  let s := s0.ltCloseAt 3 2 (gateLinks c)
  let s1 := (s.set (F.RG_CEST.VALID c) 0).modCh c fun h =>
    { (h.modEng fun e => { e with restart := true, one := [none, none, none, none], cest := some (s.result c 0, 0) }) with
      disch := false, stopSlew := 0 }
  if new.stage = 1 then s1.set (F.MS_STAGE.ACT c) 1 else s1

/-- Step 2 of R217: the path, with the requests held before it going first (R84). -/
def State.applyPath (s : State) (c : Fin 24) (old new : Mode) : State :=
  let s1 := if new.path ≠ old.path then s.requestPath c new.path else s.resumePath c
  let h := s1.ch c
  if !s1.is (F.PS_STAT.TRANS c) && !h.dead && !h.gangLeft && h.heldPath.isEmpty && h.pathF != new.path then
    s1.requestPath c new.path
  else s1

/-- Step 3 of R217: role and law. A change of law or role in the ramp from OFF drops the load estimate without a result
(DESIGN CHOICE, log entry 61). -/
def State.applyRole (s : State) (c : Fin 24) (old new : Mode) (w : Word) : State :=
  let enable := old.role == 0 && new.role != 0
  let a := s.applyLaw c old new enable
  let b := if enable then a.goOn c new
    else if old.role ≠ 0 && new.role = 0 then a.goOff c
    else if new.role ≠ 0 && (old.role ≠ new.role || old.law ≠ new.law) then
      a.modEng c fun e => { e with restart := true, one := [none, none, none, none], cest := none }
    else a
  let d := if old.law ≠ new.law then b.modCh c fun h => { h with carry := List.replicate 4 (0, 0) } else b
  let e := d.modCh c fun h => { h with force := w }
  if old.role ≠ 0 && new.role = 0 && !e.is (F.PS_STAT.TRANS c) then e.startDischarge c else e

/-- A mode request that waits for the end of its transition to TIED completes when none runs to it any more (R82, R214). -/
def State.finishHeld (s : State) (c : Fin 24) : State :=
  let h := s.ch c
  if (s.resMode c).path = 1 && h.pathF != 1 && !h.dead then s
  else
    let done := s.ops.filter fun o => o.held && o.unit == .chan c && o.word.isNone
    done.foldl (fun s o => s.setWord o.who (cword (s.resStatus c) false (s.get (F.MD_STAT.SEQ c))) (s.modeRecord c)) s

/-- Apply the resolved word, in the order of R217; the role that leaves OFF frees the path requests that a trip held
(R84). A transition under way goes on. -/
def State.applyMode (s0 : State) (c : Fin 24) : State :=
  let s := (s0.transStep c).entryCheck c
  let old := s.curMode c
  let new := s.resMode c
  let w := s.rd (R.MD_RES c)
  let s1 := if old.role == 0 && new.role != 0 then s.modCh c fun h => { h with dead := false } else s
  let s2 := s1.applyPath c old new
  let s3 := if w = (s.ch c).force then s2 else s2.applyRole c old new w
  ((((((s3.suppStep c).lostEnd c).settle c).stageStep c).heldRange c).finishHeld c)

/-! ### The sample -/

/-- VIN_c against 34 V while joined to BUS (R73). -/
def State.vinCheck (s : State) (c : Fin 24) (vin : Int) : State :=
  if s.get (F.PS_STAT.INPUT c) = 1 && vin < 34000000000 then (s.legsStop c).assertL (12 * c + 5) 1
  else s.deassertL (12 * c + 5) 1

/-- The counts behind the battery switch's timed trip (R80) and the BATFED current limit (R81): 20 A for up to
100 ms, then IBAT_LIM; when the limit lifts again is open. -/
def State.batCounts (s : State) (c : Fin 24) : State :=
  let i := (s.result c 5).natAbs
  let lim := s.get (F.PS_BATFED.IBAT_LIM c) * 10000000000
  let h := s.ch c
  let s1 := s.modCh c fun h => { h with
    batN := if 20000000000000 < i then h.batN + 1 else 0
    uvN := if h.pathF = 3 && lim < i then h.uvN + 1 else 0 }
  if h.pathF ≠ 3 then s1.modCh c fun h => { h with uvLim := false }
  else if h.uvLim then
    let f := s1.fresh
    f.2.modCh c fun h => { h with uvLim := f.1 % 2 == 0 }
  else if 400000 ≤ (s1.ch c).uvN then s1.modCh c fun h => { h with uvLim := true }
  else s1

/-- LINE_c rises (R350). -/
def State.lineSample (s : State) (c : Fin 24) : State :=
  let n := (s.ch c).lineRise
  if n = 0 then s
  else
    let s1 := s.modCh c fun h => { h with lineRise := n - 1 }
    if n = 1 && s.get (F.LN_STAT.STATE c) = lnRising then s1.set (F.LN_STAT.STATE c) lnOn else s1

/-- Part n of an engine's state, off by d: the reference, the compensators' histories, the integrators, the on-times, the
position in the profile, the saturation timer. -/
def Engine.upset (e : Engine) (n : Nat) (d : Int) : Engine :=
  let k := n % 4
  match n / 4 with
  | 0 => if n = 0 then { e with r := e.r + d } else if n = 1 then { e with tgt := e.tgt + d }
      else if n = 2 then { e with profIdx := (e.profIdx + d).toNat } else { e with satCnt := (e.satCnt + d).toNat }
  | 1 => { e with main := if k = 0 then { e.main with e1 := e.main.e1 + d } else if k = 1 then { e.main with e2 := e.main.e2 + d }
      else if k = 2 then { e.main with y1 := e.main.y1 + d } else { e.main with y2 := e.main.y2 + d } }
  | 2 => { e with hiC := { e.hiC with y1 := e.hiC.y1 + d } }
  | 3 => { e with loC := { e.loC with y1 := e.loC.y1 + d } }
  | 4 => { e with integ := e.integ.modify k (· + d) }
  | 5 => { e with ons := e.ons.modify k fun x => (x + d).toNat }
  | _ => { e with batC := { e.batC with y1 := e.batC.y1 + d } }

/-- An upset of the state of one engine (R126): from 28 on, of the battery model and of the charge phase that it holds.
The state of an engine that runs alone is the channel's; a fenced one has none. -/
def State.upset (s : State) (c : Fin 24) : Option (Fin 2 × Nat × Int) → State
  | none => s
  | some (e, n, d) =>
    let k : Fin 25 := ⟨c.val, Nat.lt_succ_of_lt c.isLt⟩
    let bm := fun (m : Model) => { m with res := m.res + d }
    let cg := fun (g : Charger) => { g with r := g.r + d }
    let s1 :=
      if n < 28 then
        s.modCh c fun h => if e = 0 then { h with eng := h.eng.upset n d } else { h with engB := h.engB.upset n d }
      else if n = 28 then s.modCh c fun h => if e = 0 then { h with bm := bm h.bm } else { h with bmB := bm h.bmB }
      else if e = 0 then { s with chargers := s.chargers.set k (cg s.chargers[k]) }
      else { s with chargersB := s.chargersB.set k (cg s.chargersB[k]) }
    match s.enginesOk c with
    | [_, _] => s1
    | [x] => if x = e.val then s1.engineFrom c x else s
    | _ => s

/-- Is the sample disputed: both engines run, and their states, which their outputs and digests show, differ (R126,
R127)? -/
def State.disputed (s : State) (c : Fin 24) : Bool :=
  let h := s.ch c
  let k : Fin 25 := ⟨c.val, Nat.lt_succ_of_lt c.isLt⟩
  (s.enginesOk c).length == 2 && s.domOn (3 * c + 1) &&
    (h.eng != h.engB || h.bm != h.bmB || s.chargers[k] != s.chargersB[k])

/-- The fences of a disputed sample (R127): an engine that reports a self-check error; engine B where neither does. -/
def State.dispute (s : State) (c : Fin 24) (errA errB : Bool) : State :=
  let s1 := s.inc (F.RG_ENG.MISMATCH c)
  if errA && errB then (s1.fenceEngine c 0 false).fenceEngine c 1 false
  else if errA then s1.fenceEngine c 0 false
  else if errB then s1.fenceEngine c 1 false
  else s1.fenceEngine c 1 true

/-- Starts and stops asked for since the last sample take effect. -/
def State.takeReqs (s : State) (c : Fin 24) : State :=
  let f := (s.ch c).fe
  let s1 := (s.modFe c fun f => { f with winReq := [], capReq := [] }).winFull c
  f.capReq.foldl (fun s r => s.capReq1 c r) (f.winReq.foldl (fun s r => s.winReq1 c r) s1)

/-- The inputs frozen for the sample, in the order of R101. -/
def State.takeInputs (s : State) (c : Fin 24) : State :=
  let s1 := s.runChanOps c (s.chanOps c)
  let fires := (s1.ch c).fires
  (fires.foldl (fun s f => s.runFire c f) (s1.modCh c fun h => { h with fires := [] })).loadLoop c

/-- The voltage target in nV, where the law has one. -/
def State.vTarget (s : State) (c : Fin 24) : Option Int :=
  if s.qtyOf c = 0 then some ((s.ch c).eng.tgt * 10000) else none

/-- The law's part of the sample: regulation, the discharge, or idle legs; the supervisor runs in each of them (R124). -/
def State.law (s : State) (c : Fin 24) (x : Sample) : State :=
  let h := s.ch c
  if !s.domOn (3 * c) || !s.domOn (3 * c + 1) || h.dead || s.get (F.PS_STAT.INPUT c) == 0 ||
      (s.get (F.PS_STAT.INPUT c) == 1 && decide (x.vin < 34000000000)) then (s.legsStop c).supervise c false
  else if (s.curMode c).role ≠ 0 then s.regulate c x
  else if h.disch then s.discharge c x
  else (s.legsStop c).supervise c false

/-- What a sample measures (R173 to R195): the results, the accumulators, and the count of the samples since the last
update of the battery model (R140). -/
def State.measure (s : State) (c : Fin 24) (x : Sample) : State :=
  let s1 := if s.domOn (3 * c + 2) then (s.latch c x).accPorts c else s
  s1.modBm c fun m => { m with sub := m.sub + 1 }

/-- What every sample does after the law: the burst counters and the rise of LINE_c. -/
def State.sampleEnd (s : State) (c : Fin 24) : State := (s.burstSample c).lineSample c

/-- R100, R101: one sample of channel c. Its front end measures while its domain is on; a disputed sample leaves the
inputs to the next one, and its legs repeat their on-times. A mode takes effect after the discharge of boot step 6
(R494). -/
def execControlSample (c : Fin 24) (x : Sample) (s : State) : Out :=
  .next (
    let fe := s.domOn (3 * c + 2)
    let s1 := (s.upset c x.upset).measure c x
    let s2 := if s1.domOn (3 * c) then s1.vinCheck c x.vin else s1
    if s2.disputed c then
      let s3 := s2.dispute c x.errA x.errB
      let s4 := if fe then (s3.winFull c).accumulate c x.coarse (s3.vTarget c) else s3
      (((s4.batCounts c).legsRepeat c x).supervise c false).sampleEnd c
    else
      let s3 := ((s2.takeReqs c).takeInputs c).portSample c
      let s4 := if s3.domOn (3 * c) && !(s3.ch c).drain then s3.applyMode c else s3
      let s4 := s4.bmFollow c
      let s5 := if fe then s4.accumulate c x.coarse (s4.vTarget c) else s4
      ((s5.batCounts c).law c x).sampleEnd c)

end Sys2Proof.Machine
end

