-- ==== Sys2Proof/Machine/Chain.lean ====
section
/-!
DEFINITION. The fabric links and the Frerel chain (chapter 15), and the counted step of the selected source (R31),
which at the master of a chain goes out as a step record.
-/

namespace Sys2Proof.Machine

/-! ### Fabric links (R386 to R391) -/

/-- R386, R391: a flit is resent; `throttled`: a Class 0 flit waited for a token. -/
def execFlitRetry (l : Fin 7) (throttled : Bool) (s : State) : Out :=
  .next (
    if s.linkDown l then s
    else
      let s1 := s.inc (F.FAB_LINK_ERR.RETRY l)
      if throttled then (s1.inc F.FAB_C0_STAT.THROTTLE).raise 311 1 l else s1)

/-- Is lane i of link l good? -/
def State.laneGood (s : State) (l i : Nat) : Bool := !s.laneBad.contains (l, i)

/-- The good lanes of link l, in the order in which a narrowing takes them: the spec names none, so it begins at an
open lane. -/
def State.lanesFrom (s : State) (l k : Nat) : List Nat :=
  ((List.range 17).map fun i => (i + k) % 17).filter (s.laneGood l)

/-- The state and lanes of link l: the link's L condition follows. The tiles behind a link that goes DOWN keep the count
they have (R389). -/
def State.setLink (s : State) (l st : Nat) (lanes : List Nat) : State :=
  let s0 : State := { s with linkCnt := (if st = 0 then [(l, s.count)] else []) ++ s.linkCnt.filter fun x => x.1 != l }
  let s1 := (s0.set (F.FAB_LINK_STAT.STATE l) st).set (F.FAB_LINK_STAT.ACTIVE l) (legMask lanes)
  s1.setb (F.FAB_LINK_STAT.SPARE_USED l) (lanes.contains 16)

/-- The lanes that are active. -/
def State.activeLanes (s : State) (l : Nat) : List Nat :=
  (List.range 17).filter fun i => (s.get (F.FAB_LINK_STAT.ACTIVE l)).testBit i

/-- Table 15-1: the traffic of a failed lane moves to the spare, or the link to half width, or the link goes DOWN. -/
def State.laneMove (s : State) (l i : Nat) : State :=
  let act := (s.activeLanes l).filter (· != i)
  if s.get (F.FAB_LINK_STAT.STATE l) = 2 && !s.is (F.FAB_LINK_STAT.SPARE_USED l) && s.laneGood l 16 then
    ((s.setLink l 2 (act ++ [16])).inc (F.FAB_LINK_ERR.SWAPS l)).assertL (304 + l) 1 i
  else
    let (k, s1) := s.fresh
    let good := s1.lanesFrom l k
    if 8 ≤ good.length then
      let keep := act.filter (s1.laneGood l)
      let lanes := ((if s.get (F.FAB_LINK_STAT.STATE l) = 3 then keep else []) ++
        good.filter fun x => s.get (F.FAB_LINK_STAT.STATE l) != 3 || !keep.contains x).take 8
      ((s1.setLink l 3 lanes).inc (F.FAB_LINK_ERR.SWAPS l)).assertL (304 + l) 2 i
    else ((s1.setLink l 0 []).inc (F.FAB_LINK_ERR.SWAPS l)).assertL (304 + l) 3 i

/-- The lane of a FAB test takes its traffic back from lane 16 (R508). -/
def State.ltReturn (s : State) (l i : Nat) : State :=
  let s1 : State := { s with ltMoved := s.ltMoved.filter (· != (l, i)) }
  if s.ltMoved.contains (l, i) && s.laneGood l i then s1.setLink l (s.get (F.FAB_LINK_STAT.STATE l)) ((s.activeLanes l).filter (· != 16) ++ [i]) else s1

/-- Every FAB test of link l other than lane i's ends with FAULT (Table 20-4). -/
def State.ltFault (s : State) (l i : Nat) : State :=
  (List.range 17).foldl (fun s k => if k != i && s.ltRuns 2 (17 * l + k) then (s.ltReturn l k).ltClose 2 (17 * l + k) 3 else s) s

/-- R388: lane i fails its coding check. A failed spare that carries nothing leaves the lanes as they are. -/
def State.laneFail (s : State) (l : Fin 7) (i : Fin 17) : State :=
  if !s.laneGood l i then s
  else
    let s0 := s.ltFault l i
    let s1 : State := { s0 with laneBad := (l.val, i.val) :: s.laneBad }
    if s.linkDown l then s1
    else if (s1.activeLanes l).contains i.val then s1.laneMove l i
    else s1.assertL (304 + l) 1 i

/-- R388. -/
def execLaneFailure (l : Fin 7) (i : Fin 17) (s : State) : Out := .next (s.laneFail l i)

/-- Events that a link held while it was DOWN and that were reached fire at once with LATE (R389). -/
def State.linkFires (s : State) : State :=
  if s.frozen then s
  else
    let hit := s.records.filter fun r =>
      r.place == .armed && !s.recCut r && (r.held || reached (s.effUp r) r.cmp s.count) && r.tkind == 0
    (s.inOrder s.count hit).foldl (fun s r => s.fireRec r true 0) s

/-- The L conditions of the die behind link l that still assert are reported again (R439). -/
def State.rereport (s : State) (l : Nat) : List Assert → State
  | [] => s
  | a :: rest =>
    (if srcLink a.src = some l && !a.recorded then
        s.report { src := a.src, cond := a.cond, d0 := a.d0, d1 := a.d1, forced := a.forced }
      else s).rereport l rest

/-- R389: a DOWN link returns with the given number of lanes. -/
def execLinkRetrain (l : Fin 7) (lanes : Fin 17) (s : State) : Out :=
  .next (
    if !s.linkDown l || lanes.val < 8 then s
    else
      let good := s.lanesFrom l 0
      let n := if 16 ≤ lanes.val then 16 else 8
      if good.length < n then s
      else
        let s1 := (s.setLink l (if n = 16 then 2 else 3) (good.take n)).deassertL (304 + l) 3
        let s2 := (State.rereport (s1.fullBooks (linkKey l 0 0)) l s1.asserts).linkFires
        if l.val < 6 then
          ((allCh.filter fun c => c.val / 4 == l.val).foldl (fun s c => s.sweepCheck s.count s.count 1 c) s2).supForward l true
        else s2)

/-! ### Re-lock and SLACK (R402 to R405) -/

/-- Is this module in SLACK? -/
def State.inSlack (s : State) : Bool := s.get F.CHN_STAT.RSTATE == 4

/-- A paused sweep goes on: its next step applies at once, and START is rebased (R404). -/
def State.sweepResume (s : State) (c : Fin 24) : State :=
  if s.is (F.MS_SWP_STAT.PAUSED c) then
    let w := (s.ch c).fe.sweep
    let d := BitVec.ofNat 32 (w.next * w.spacing)
    let s1 := (s.set (F.MS_SWP_STAT.PAUSED c) 0).modFe c fun f =>
      { f with sweep := { f.sweep with start := if w.down then s.count + d else s.count - d } }
    s1.sweepCheck s1.count s1.count 0 c
  else s

/-- The ring's state by the breaks this module sees. -/
def State.ringState (s : State) : Nat := if s.get F.CHN_STAT.BREAKS = 0 then 2 else 3

/-- Re-lock is complete: SLACK and its flags end (R405). -/
def State.relockDone (s : State) : State :=
  let s1 : State := { s with chain := { s.chain with relock := false, slew := 0, slewN := 0 } }
  let s2 := s1.set F.CHN_STAT.SLEWING 0
  if s2.inSlack then
    let s3 := ((s2.set F.CHN_STAT.RSTATE s2.ringState).deassertL 336 1).deassertL 336 2
    let s4 := allCh.foldl (fun s (c : Fin 24) => s.set (F.MS_STAT.SLACK c) 0) s3
    allCh.foldl (fun s c => s.sweepResume c) s4
  else s2

/-- Does this module lead its segment in SLACK: no lower-numbered member of it is reachable (R402)? The members whose
summary is VALID are reachable (DEDUCED from R407, log entry 62). -/
def State.leads (s : State) : Bool :=
  s.inSlack && !s.is F.CHN_STAT.MASTER && (List.range (s.get F.CHN_STAT.NODE)).all fun n => !s.is (F.CHN_PEER.VALID n)

/-- A step of the CHAIN count, slewed during a re-lock (R405). -/
def State.chainStep (s : State) (down : Bool) : State :=
  let r := s.slewStep s.chain.slew s.chain.slewN down
  let s1 : State := { r.1 with chain := { r.1.chain with slew := r.2.1, slewN := r.2.2 } }
  if s.chain.slew ≠ 0 && r.2.1 = 0 then s1.relockDone else s1

/-- The two flags of an accepted transition of encoder i (R35): over-rate clears QUAL and is reported once an episode. -/
def State.overrateAt (s : State) (i : Nat) : State :=
  let q := s.set (qualFld (i + 1)) 0
  if s.tb.overrate.contains (i + 1) then q
  else State.raise { q with tb := { q.tb with overrate := (i + 1) :: q.tb.overrate } } (333 + i) 2

/-- The segment leader coasts one count, and sends it to its segment as a step record marked SLACK (R402). Its stamp
lies L before the count, so that the members apply it when it reaches them (DESIGN CHOICE, log entry 62). -/
def State.coast (s : State) : State :=
  (s.chainStep s.dirDown).chainSend
    (.step { stamp := s.ctime - 100000 * s.chain.lat, jump := false, down := s.dirDown, slack := true })

/-- Does the TBC stand still: its source has lost its qualification (R34), or step 5 of boot is not over (R492)? -/
def State.stands (s : State) : Bool :=
  s.tb.held || decide (s.get F.BOOT_STAT.STEP < 6) || s.boot.por || s.boot.pin

/-- One count of the selected source src (R31); while the source is not qualified the TBC holds (R34). Where the source
is CHAIN the leader of a segment in SLACK coasts (R402); otherwise step records carry the count. -/
def State.countBy (s : State) (src : Nat) (down : Bool) : State :=
  if s.stands then s
  else if src = 4 then (if s.leads then s.coast else s)
  else if src = 3 then s.mainsStep
  else s.stepCount down

/-- R31, R34, R35: one transition of a source. An encoder's level is accepted once it has been stable for FILT × 2 ns; a
change of A and B in one sample is illegal; over-rate is flagged; the direction follows INVERT. The transition counts
where its source is the selected one, and at the master of a chain one of MSRC goes out as a step record (R399). -/
def execCountedStep (st : CountStep) (s : State) : Out :=
  .next (
    let src := st.src.val
    let enc := src == 1 || src == 2
    let i := src - 1
    if enc && !s.accepted i st.stable then s
    else if enc && st.illegal then (s.inc (F.SRC_CNT.QERR i)).raise (333 + i) 1
    else
      let s1 := if enc && st.overrate then s.overrateAt i else s
      let down := enc && st.down != s.is (F.SRC_CFG.INVERT i)
      let s2 := if s.feedsChain src then s1.chainRecord { stamp := s.ctime, jump := false, down := down } else s1
      if s.get F.TB_CTRL.SRC = src then s2.countBy src down else s2)

/-- The sweep of channel c at entry to SLACK (Table 15-6). -/
def State.slackSweep (s : State) (c : Fin 24) : State :=
  let w := (s.ch c).fe.sweep
  if !s.is (F.MS_SWP_CTRL.RUN c) then s
  else if w.policy = 1 then s.set (F.MS_SWP_STAT.PAUSED c) 1
  else if w.policy = 2 then ((s.sweepAbort c).setParam c w.qty (s.ldWord (w.addr + 0x20))).2
  else s

/-- R402: an epoch is missing at T + L. -/
def execSlackEntry (s : State) : Out :=
  .next (
    let r := s.get F.CHN_STAT.RSTATE
    if s.is F.CHN_STAT.MASTER || !(r == 2 || r == 3) then s
    else
      let s1 := ((s.set F.CHN_STAT.RSTATE 4).set F.CHN_LATCH.SLACK 1).assertL 336 1 0 (s.rd R.CHN_LATCH)
      let s2 : State := { s1 with chain := { s1.chain with relock := true, slew := 0, slewN := 0 } }
      let s3 := (allCh.foldl (fun s (c : Fin 24) => s.set (F.MS_STAT.SLACK c) 1) s2).set F.CHN_STAT.SLEWING 0
      allCh.foldl (fun s c => s.slackSweep c) s3)

/-- The compare of a re-lock: e is the master's count less the own one at T + L, when every record stamped up to T
is applied (R405); the member takes the master's direction state (R398). -/
def State.relockBy (s : State) (m : EpochMsg) : State :=
  let mine := s.ext + (((s.chain.recs.filter fun r => decide (r.stamp ≤ m.time)).map fun r =>
    if r.jump then r.delta else if r.down then -1 else 1).foldl (· + ·) 0 : Int)
  let e := sext 32 (trunc 32 ((m.ext : Int) - mine))
  let s0 := if s.get F.TB_CTRL.SRC = 4 then s.setb F.TB_STAT.DIR m.down else s
  let s1 : State := { (s0.wr R.CHN_OFS (wordOf e)) with chain := { s.chain with relock := false } }
  if e = 0 then s1.relockDone
  else if e.natAbs ≤ s.get F.CHN_CFG.STEP_THR then
    State.set { s1 with chain := { s1.chain with slew := e, slewN := 0 } } F.CHN_STAT.SLEWING 1
  else
    let s2 := s1.set F.CHN_LATCH.RELOCK_STEP 1
    (if s2.get F.TB_CTRL.SRC = 4 then s2.jumpBy e false else s2).relockDone

/-- R405: 1 s of slewing. -/
def execRelockSlewTimeout (s : State) : Out :=
  .next (
    if s.chain.slew = 0 then s
    else (if s.get F.TB_CTRL.SRC = 4 then s.jumpBy s.chain.slew false else s).relockDone)

/-! ### Lock and epochs (R397, R398, R400) -/

/-- Is the chain administratively up? -/
def State.chainUp (s : State) : Bool := s.is F.CHN_CFG.EN && s.domOn 95

/-- L from the eastward hop delays in ps, in 100 ns (R400). -/
def latencyOf (hops : List Nat) : Nat := (5500000 + 2 * hops.foldl (· + ·) 0 + 99999) / 100000

/-- The master sets L: a manual value below the computed one is raised to it. -/
def State.masterLat (s : State) (hops : List Nat) : State :=
  let l := latencyOf hops
  let m := s.get F.CHN_LAT.LAT
  let put := fun (s : State) (n : Nat) => { s with chain := { s.chain with lat := n } }
  if !s.is F.CHN_LAT.MANUAL then put s l
  else if m < l then put (s.set F.CHN_STAT.CFG_REJ 1) l
  else put s m

/-- R397: the chain locks. Sequence numbers restart at a change of master (R406), and a member re-locks (R405). -/
def execChainLock (k : ChainLock) (s : State) : Out :=
  .next (
    if !s.chainUp || decide (s.get (F.CHN_PORT.PSTATE 0) < 3 ∧ s.get (F.CHN_PORT.PSTATE 1) < 3) then s
    else
      let master := decide (k.node = 0)
      let s1 := ((s.set F.CHN_STAT.NODE k.node).set F.CHN_STAT.NODES k.nodes).setb F.CHN_STAT.MASTER master
      let slack := s1.inSlack
      let brk := if k.ring then 0 else max 1 (s1.get F.CHN_STAT.BREAKS)
      let s2 := (s1.set F.CHN_STAT.BREAKS brk).set F.CHN_STAT.RSTATE (if slack then 4 else if k.ring then 2 else 3)
      let s3 := if k.joined then
          State.set { s2 with chain := { s2.chain with seqs := [], last := Vector.replicate 4 0 } } F.CHN_LATCH.MASTER_CHG 1
        else s2
      let s4 := if master then s3.masterLat k.hops else { s3 with chain := { s3.chain with lat := k.lat } }
      let s5 := (State.gainQual { s4 with chain := { s4.chain with hops := k.hops } } 4).deassertL 336 2
      if master then s5.relockDone else { s5 with chain := { s5.chain with relock := true } })

/-- R397: both ports DOWN for 100 ms outside SLACK: a one-node chain with this module its master. -/
def State.becomeAlone (s : State) : State :=
  let s1 := ((s.set F.CHN_STAT.NODE 0).set F.CHN_STAT.NODES 0).set F.CHN_STAT.MASTER 1
  let s2 := ((s1.set F.CHN_STAT.BREAKS 0).set F.CHN_STAT.RSTATE 5).set F.CHN_LATCH.ALONE 1
  let s3 : State := { s2 with chain := { s2.chain with seqs := [], last := Vector.replicate 4 0, hops := [] } }
  (((s3.masterLat []).gainQual 4).deassertL 336 2).relockDone

/-- R397. -/
def execAloneTimeout (s : State) : Out :=
  .next (
    if s.chainUp && s.get (F.CHN_PORT.PSTATE 0) == 0 && s.get (F.CHN_PORT.PSTATE 1) == 0 && !s.inSlack &&
        s.get F.CHN_STAT.RSTATE != 5 then s.becomeAlone
    else s)

/-- R398: the master's epoch; the leader of a segment in SLACK sends its own, marked (R402). -/
def execEpochSend (s : State) : Out :=
  .next (
    if s.chainUp && (s.is F.CHN_STAT.MASTER || s.leads) then
      s.chainSend (.epoch s.ctime s.ext s.dirDown s.chain.lat (!s.is F.CHN_STAT.MASTER))
    else s)

/-- R398: a member aligns its chain time; L takes effect; a re-lock that is due compares the counts. An epoch marked SLACK
counts in SLACK only, and is no master epoch to re-lock by (R402, R405). -/
def execEpochReceive (e : EpochMsg) (s : State) : Out :=
  .next (
    let r := s.get F.CHN_STAT.RSTATE
    if !s.chainUp || s.is F.CHN_STAT.MASTER || !(r == 2 || r == 3 || r == 4) || (e.slack && r != 4) then s
    else
      let s1 : State := { ((s.hopIn 0).wr64 R.CHN_CTIME_LO R.CHN_CTIME_HI ((e.time + e.path : Nat) : Int)) with
        chain := { s.chain with lat := e.lat } }
      if !e.slack && (s1.chain.relock || s1.tb.chainAcq) then
        State.relockBy { s1 with tb := { s1.tb with chainAcq := false } } e
      else s1)

/-- R403: HOLD_MAX has passed in SLACK: the count holds, and the segment becomes a chain of its own. -/
def execHoldoverExpiry (s : State) : Out :=
  .next (
    if s.inSlack then
      let s1 := ((s.loseQual 4).set F.CHN_LATCH.HOLD_EXP 1).assertL 336 2 0 (s.rd R.CHN_LATCH)
      if s1.get (F.CHN_PORT.PSTATE 0) = 0 && s1.get (F.CHN_PORT.PSTATE 1) = 0 then s1.becomeAlone else s1
    else s)

/-! ### Step records (R399) -/

/-- Insert a record by its stamp. -/
def insertStep (r : StepRec) : List StepRec → List StepRec
  | [] => [r]
  | x :: l => if r.stamp < x.stamp then r :: x :: l else x :: insertStep r l

/-- R399. -/
def execStepRecordReceive (r : StepRec) (s : State) : Out :=
  .next (
    let st := s.get F.CHN_STAT.RSTATE
    if s.chainUp && !s.is F.CHN_STAT.MASTER && (st == 2 || st == 3 || st == 4) && (st == 4 || !r.slack) then
      State.hopIn { s with chain := { s.chain with recs := insertStep r s.chain.recs } } 0
    else s)

/-- R399: chain time reaches the stamp of the oldest record plus L. -/
def execStepRecordApply (s : State) : Out :=
  .next (match s.chain.recs with
    | [] => s
    | r :: l =>
      let s1 : State := { s with chain := { s.chain with recs := l } }
      let t := r.stamp + 100000 * s.chain.lat
      let s2 := if s1.ctime < t then s1.wr64 R.CHN_CTIME_LO R.CHN_CTIME_HI (t : Int) else s1
      if s2.get F.TB_CTRL.SRC ≠ 4 || s2.tb.held then s2
      else if r.jump then s2.jumpBy r.delta r.silent
      else s2.chainStep r.down)

/-! ### Ports (R395, R396, R401) -/

/-- Is a lane of chain port d under test (R507)? -/
def State.portTested (s : State) (d : Fin 2) : Bool := s.ltRuns 0 (2 * d) || s.ltRuns 0 (2 * d + 1)

/-- R395: a DOWN port sends training patterns. -/
def execChainTrainingPattern (d : Fin 2) (s : State) : Out :=
  .next (if s.chainUp && s.get (F.CHN_PORT.PSTATE d) == 0 && !s.portTested d then s.chainSend (.training d) else s)

/-- R396: the hop received on port d has been measured. -/
def execDelayMeasured (d : Fin 2) (delay : Nat) (s : State) : Out :=
  .next (
    if s.chainUp && !s.portTested d then
      let s1 := s.wr (R.CHN_DELAY d) (BitVec.ofNat 32 delay)
      if s1.get (F.CHN_PORT.PSTATE d) < 2 then s1.set (F.CHN_PORT.PSTATE d) 2 else s1
    else s)

/-- R395: training and delay measurement end; before READY a port stays in TRAIN. At the return of a broken hop the
wrap ends (R401). -/
def execPortUp (d : Fin 2) (s : State) : Out :=
  .next (
    if !s.chainUp || s.portTested d || 3 ≤ s.get (F.CHN_PORT.PSTATE d) then s
    else if !s.is F.GLB_PINS.READY then s.set (F.CHN_PORT.PSTATE d) 1
    else
      let o := 1 - d.val
      let s1 := ((s.set (F.CHN_PORT.PSTATE d) 3).deassertD 335 1 d).fullBooks (hopKey d 0 0)
      let both := decide (3 ≤ s1.get (F.CHN_PORT.PSTATE o))
      let s2 := if s1.get (F.CHN_PORT.PSTATE o) = 4 then s1.set (F.CHN_PORT.PSTATE o) 3 else s1
      if both && s2.get F.CHN_STAT.RSTATE = 3 then (s2.set F.CHN_STAT.RSTATE 2).set F.CHN_STAT.BREAKS 0
      else if s2.get F.CHN_STAT.RSTATE = 0 then s2.set F.CHN_STAT.RSTATE 1
      else s2)

/-- At a break the frames queued for the hop at port d move to the other direction; the books of the hop stand (R393). -/
def State.moveQueue (s : State) (d o cls : Nat) : State :=
  let k := hopKey d 0 cls
  let n := (cellGet {} k s.books).wait
  (s.modBook k fun b => { b with wait := 0 }).modBook (hopKey o 0 cls) fun b => Nat.repeat (·.send (hopKey o 0 cls)) n b

/-- The wrap at port d: what is queued there, and every Class 0 frame it sent in the last 2 × L, goes out by the other
port (R401). -/
def State.wrapAt (s : State) (d : Fin 2) : State :=
  let o := 1 - d.val
  if s.get (F.CHN_PORT.PSTATE o) < 3 then s
  else
    let again := s.chain.sent.filter fun f =>
      f.port == d.val && f.cls == 0 && f.seq != 0 && decide (s.ctime ≤ f.time + 2 * (100000 * s.chain.lat))
    again.foldl (fun s f => s.frameOut o f) ((List.range 4).foldl (fun s cls => s.moveQueue d o cls) s)

/-- R395, R401: a port goes DOWN; the module turns its traffic back through the other port. DETAIL1 marks a test (R507). -/
def State.portFail (s : State) (d : Fin 2) (test : Bool) : State :=
  if s.get (F.CHN_PORT.PSTATE d) = 0 then s
  else
    let o := 1 - d.val
    let was := decide (3 ≤ s.get (F.CHN_PORT.PSTATE d))
    let s1 := (s.set (F.CHN_PORT.PSTATE d) 0).assertL 335 1 d (if test then 1 else 0)
    if !was then s1
    else
      let s2 := s1.set F.CHN_STAT.BREAKS (min 2 (s1.get F.CHN_STAT.BREAKS + 1))
      let s3 := if s2.get (F.CHN_PORT.PSTATE o) = 3 then
          ((s2.set (F.CHN_PORT.PSTATE o) 4).set F.CHN_LATCH.OXBOW 1).wrapAt d else s2
      if s3.get F.CHN_STAT.RSTATE = 2 then s3.set F.CHN_STAT.RSTATE 3 else s3

/-- R395, R401. -/
def execPortDown (d : Fin 2) (s : State) : Out := .next (s.portFail d false)

/-! ### Frames and peers (R406, R407) -/

/-- The latest accepted sequence number of a source in a class. -/
def State.lastSeq (s : State) (src cls : Nat) : Nat :=
  match s.chain.seqs.find? (fun x => x.1 == src && x.2.1 == cls) with
  | some x => x.2.2
  | none => 0

/-- R406: a frame is accepted or discarded as a duplicate; a gap in Class 0 counts. -/
def execChainFrameReceive (src : Fin 16) (cls : Fin 4) (seq : BitVec 16) (body : ChainBody) (s : State) : Out :=
  .next (
    let d := (seq.toNat + 65536 - s.lastSeq src cls) % 65536
    let s := s.hopIn cls
    if d = 0 || 32767 < d then s.inc F.CHN_ERR.DUP
    else
      let s1 : State := { s with chain := { s.chain with
        seqs := (src.val, cls.val, seq.toNat) :: s.chain.seqs.filter fun x => !(x.1 == src.val && x.2.1 == cls.val) } }
      let s2 := if cls = 0 && 1 < d then (s1.inc F.CHN_ERR.SEQ_GAP).raise 335 2 src else s1
      match body with
      | .summary w => (s2.wr (R.CHN_PEER src) (w &&& 0x7C00FFFF)).set (F.CHN_PEER.VALID src) 1
      | .other => s2)

/-- The class of the latest record of a source: bits 19:18 of its first word (Table 17-4). -/
def State.recClass (s : State) (src : Nat) : Nat :=
  match s.fltRec? src with
  | some r => bitsOf (r.words.headD 0) 19 18
  | none => 0

/-- Is the summary bit of a source set? -/
def State.sumBit (s : State) (src : Nat) : Bool := (s.get (F.FLT_SUM.SRC (src / 32))).testBit (src % 32)

/-- The sources whose summary bit is set. -/
def State.uncleared (s : State) : List Nat := (List.range 384).filter s.sumBit

/-- This module's summary, in the layout of CHN_PEER (R407). -/
def State.peerWord (s : State) : Word :=
  let l := s.uncleared
  let cls := (l.map s.recClass).foldl max 0
  BitVec.ofNat 32 (2 ^ 31 + s.get F.CHN_STAT.RSTATE * 2 ^ 28 + cls * 2 ^ 26 + min l.length 65535)

/-- R407. -/
def execPeerSummarySend (s : State) : Out := .next (if s.chainUp then s.chainSend (.summary s.peerWord) else s)

/-- R407. -/
def execPeerSummaryTimeout (n : Fin 16) (s : State) : Out := .next (s.set (F.CHN_PEER.VALID n) 0)

/-- R407: chain signal n occurs at T + L; on its sender it has been waiting since the fire. -/
def execChainSignalFire (n : Fin 64) (payload : Word) (s : State) : Out :=
  .next (
    let s1 : State := { s with chainSig := s.chainSig.erase (n.val, payload) }
    s1.signal 0x30 n payload)

end Sys2Proof.Machine
end

