-- ==== Sys2Proof/Machine/UcsFrame.lean ====
section
/-!
DEFINITION. UCS frames: intake, the journal, order, the service threads and standby takeover (chapter 11, R299 to
R313, R320).
-/

namespace Sys2Proof.Machine

/-! ### Intake (R299 to R309) -/

/-- The codes that Tables 11-9 to 11-23 assign, by area: the last byte of each command. -/
def areaCodes : Nat → List Nat
  | 0x00 => [0, 1, 2, 4, 5]
  | 0x01 => [0, 1, 2, 3, 4, 5, 6, 7]
  | 0x02 => [0, 1, 2, 3, 4]
  | 0x03 => [0, 1, 2, 3, 4, 5, 6]
  | 0x04 => [0, 1, 2, 3, 0x10, 0x11, 0x12, 0x13, 0x14]
  | 0x05 => [0, 1, 2, 3, 4, 5, 6, 7, 8]
  | 0x06 => [0, 1, 2, 3, 4, 5, 6]
  | 0x07 => [0, 1, 2, 3, 4, 5]
  | 0x08 => [0, 1, 2, 3]
  | 0x09 => [0, 1, 2, 3, 4, 5]
  | 0x0A => [0, 1, 2, 3, 4, 5, 6]
  | 0x0B => [0, 1, 2, 3]
  | 0x0C => [0, 1, 2, 3, 4, 5]
  | 0x0D => [0, 1]
  | 0x0E => [0, 1, 2, 3, 4]
  | _ => []

/-- Is CODE assigned in the catalogue? -/
def codeAssigned (code : Nat) : Bool := (areaCodes (code / 256)).contains (code % 256)

/-- The fields of a received frame (Table 11-1); bytes that did not arrive read 0. -/
structure RxFrame where
  magic : Word
  ver   : Nat
  code  : Nat
  tag   : BitVec 16
  flags : Nat
  len   : Nat
  crc   : Word
  body  : List Word

/-- Words from bytes, four at a time. -/
def bytesWords : Nat → List Byte → List Word
  | 0, _ => []
  | n + 1, l => bytesWord l :: bytesWords n (l.drop 4)

/-- Take a frame apart. -/
def rxFrame (l : List Byte) : RxFrame :=
  let w := fun n => bytesWord (l.drop n)
  let len := (w 12).toNat
  { magic := w 0, ver := bitsOf (w 4) 15 0, code := bitsOf (w 4) 31 16, tag := BitVec.ofNat 16 (bitsOf (w 8) 15 0),
    flags := bitsOf (w 8) 31 16, len := len, crc := bytesWord (l.drop (16 + len)),
    body := bytesWords (min len 4096 / 4) (l.drop 16) }

/-- Rows 1 to 6 of Table 11-4: the FAIL value of the first row that fails, 0 where none does. A frame of TW_M is at
most 4,284 bytes long (R427). -/
def frameFail (rq : Requester) (l : List Byte) (f : RxFrame) : Nat :=
  if l.length ≠ 20 + f.len || (rq == .twm && decide (4284 < 20 + f.len)) then 1
  else if crc32c (l.take (16 + f.len)) ≠ f.crc.toNat then 2
  else if f.magic ≠ 0x5543534C then 3
  else if f.ver / 256 ≠ 1 then 4
  else if f.flags % 4 ≠ 0 || f.flags / 32 ≠ 0 then 5
  else if 4096 < f.len || f.len % 4 ≠ 0 then 6
  else 0

/-- A response that is not journalled: of a frame that was not accepted. -/
def State.turnAway (s : State) (rq : Requester) (f : RxFrame) (status : Nat) : State :=
  s.send { rq := rq, code := f.code, tag := f.tag, flags := 1 + 8 * b2n (f.flags.testBit 3),
           body := [BitVec.ofNat 32 status] }

/-- The outstanding commands of a requester (R306): from acceptance to the sending of the response. -/
def State.outstandingOf (s : State) (rq : Requester) : Nat :=
  (s.cmds.filter fun c => c.rq == rq && !c.orphan).length + (s.journal.filter fun j => j.rq == rq && !j.sent).length

/-- The outstanding commands of the device. -/
def State.outstanding (s : State) : Nat := s.cmds.length + (s.journal.filter fun j => !j.sent).length

/-- Is the device READY? -/
def State.ready (s : State) : Bool := s.is F.GLB_PINS.READY

/-- Is a tag of a requester outstanding? -/
def State.tagOut (s : State) (rq : Requester) (tag : BitVec 16) : Bool :=
  s.cmds.any fun c => c.rq == rq && c.tag == tag && !c.orphan

/-- Rows 7 to 10 of Table 11-4 and the handling of REPLAY (R309); the frame that passes is outstanding. -/
def State.accept (s : State) (rq : Requester) (f : RxFrame) : State :=
  let replay := f.flags.testBit 3
  let old := if replay then s.journal.reverse.find? (fun j => j.rq == rq && j.tag == f.tag) else none
  if !codeAssigned f.code then s.turnAway rq f stBadCode
  else if s.tagOut rq f.tag then
    if replay then
      { s with cmds := s.cmds.map fun c => if c.rq == rq && c.tag == f.tag && !c.orphan then { c with replay := true } else c }
    else s.turnAway rq f stTagInUse
  else if !s.ready && 2 < f.code then s.turnAway rq f stNotReady
  else match old with
    | some j => s.send (journalFrame j (9 + 16 * b2n j.trunc))
    | none =>
      if 32 ≤ s.outstandingOf rq || 128 ≤ s.outstanding then s.turnAway rq f stBusy
      else { s with cmds := s.cmds ++ [{ rq := rq, tag := f.tag, code := f.code, flags := f.flags, body := f.body,
                                         replay := replay }] }

/-- The MSS checks a frame (R301). -/
def State.checkFrame (s : State) (rq : Requester) (l : List Byte) : State :=
  let f := rxFrame l
  let n := frameFail rq l f
  if n = 0 then s.accept rq f
  else
    (s.inc (if n = 2 then F.UCS_FRAME_ERR.CRC else F.UCS_FRAME_ERR.OTHER)).send
      { rq := rq, code := f.code, tag := f.tag, flags := 1 + 8 * b2n (f.flags.testBit 3), body := [BitVec.ofNat 32 stBadFrame, BitVec.ofNat 32 n] }

/-- A frame arrives; while no core dispatches it is held (R311, R418). -/
def State.frameIn (s : State) (rq : Requester) (l : List Byte) : State :=
  if s.mssDown then { s with heldIn := s.heldIn ++ [(rq, l)] } else s.checkFrame rq l

/-- R301. -/
def execFrameReceive (rq : Requester) (bytes : List Byte) (s : State) : Out := .next (s.frameIn rq bytes)

/-! ### Order and executors (R307, R313) -/

/-- The unit key of a command: its kind (0 NONE, 1 channel, 2 port, 3 ring, 4 timer, 5 thread, 6 TIMEBASE, 7 HOUSE,
8 UPDATE) and the unit. A command that names no unit of its table's kind has key NONE. -/
def ucsKey (code : Nat) (body : List Word) : Nat × Nat :=
  let unit := fun k i => match body[i]? with
    | some w => (k, w.toNat)
    | none => (0, 0)
  match code / 256 with
  | 0x01 => if code = 0x0106 then (0, 0) else unit 1 0
  | 0x02 => if code = 0x0204 then unit 1 1 else (0, 0)
  | 0x03 => if code ≤ 0x0301 then (0, 0) else unit 1 0
  | 0x04 => if code < 0x0410 then unit 1 0 else unit 3 0
  | 0x05 => if code ≤ 0x0506 then (6, 0) else unit 4 0
  | 0x06 => if 0x0601 ≤ code && code ≤ 0x0604 then unit 5 0 else (0, 0)
  | 0x07 => (7, 0)
  | 0x08 => if code = 0x0803 then (0, 0) else unit 1 0
  | 0x09 => unit 2 0
  | 0x0C => (8, 0)
  | _ => (0, 0)

/-- The key of an outstanding command. -/
def OutCmd.key (c : OutCmd) : Nat × Nat := ucsKey c.code c.body

/-- May the command start (R307)? `before` are the outstanding commands that arrived before it. -/
def OutCmd.mayStart (c : OutCmd) (before : List OutCmd) : Bool :=
  !c.started && !c.orphan && !before.any fun d => d.rq == c.rq && !d.orphan && (c.flags.testBit 2 || d.key == c.key)

/-- Is service thread t available (R313)? -/
def State.svcUp (s : State) (t : Nat) : Bool :=
  !s.clusterOff (t / 16) && match thr? t with
    | some t => s.thrState t != thrLost
    | none => false

/-- The available service threads that execute no command. -/
def State.svcFree (s : State) : List Nat :=
  (s.svcFields.filterMap fun f => if f.1 && s.svcUp f.2 then some f.2 else none).filter fun t =>
    !s.cmds.any fun c => c.by' == some t

/-- The core that dispatches: the lower-numbered unfenced one (R459). -/
def State.core (s : State) : Nat := s.get F.UCS_STAT.CORE

/-- The executor that may start the command now, and the state after the choice (R307, R313). -/
def State.executorFor (s : State) (m : Cmd) : Option Nat × State :=
  let before := s.cmds.takeWhile fun c => !(c.names m && !c.orphan)
  match s.cmds.find? (fun c => c.names m && !c.orphan) with
  | none => (none, s)
  | some c =>
    if s.mssDown || !c.mayStart before then (none, s)
    else if s.slow then
      (if before.all (·.orphan) && !s.cmds.any (·.started) then (some (64 + s.core), s) else (none, s))
    else match s.svcFree with
      | [] => (none, s)
      | l => let (t, s1) := s.choose l 0; (some t, s1)

/-- The command starts on its executor. -/
def State.startCmd (s : State) (m : Cmd) (n : Nat) : State :=
  { s with cmds := s.cmds.map fun c => if c.names m && !c.orphan then { c with started := true, by' := some n } else c }

/-! ### UCS_SVC (R295, R320) -/

/-- The fields of a UCS_SVC word: enabled, thread. -/
def svcOfWord (w : Word) : List (Bool × Nat) :=
  [(bitOf w 7, bitsOf w 5 0), (bitOf w 15, bitsOf w 13 8), (bitOf w 23, bitsOf w 21 16), (bitOf w 31, bitsOf w 29 24)]

/-- Is a UCS_SVC word refused: one thread in two enabled fields, or an enabled thread that is neither IDLE nor HALTED
nor a service thread already? -/
def State.svcBad (s : State) (w : Word) : Bool :=
  let on := ((svcOfWord w).filter (·.1)).map (·.2)
  !decide on.Nodup || on.any fun t => match thr? t with
    | some t => !(s.isSvc t || s.thrState t == thrIdle || s.thrState t == thrHalted)
    | none => true

/-- Start the threads of the list at the service entry, with g2 their field's index (R295). -/
def State.startSvcs (s : State) (old : List Nat) : List (Nat × Bool × Nat) → State
  | [] => s
  | (i, on, t) :: l =>
    (match thr? t with
      | some x => if on && !old.contains t then s.startThr x 0x1F000080 (BitVec.ofNat 32 i) else s
      | none => s).startSvcs old l

/-- A write of UCS_SVC (R320). Threads enabled while the device is READY start (R295). -/
def State.svcWrite (s : State) (w : Word) : State :=
  if s.svcBad w then s.set F.UCS_STAT.CFG_REJ 1
  else
    let old := (s.svcFields.filter (·.1)).map (·.2)
    let s1 := s.wr R.UCS_SVC (w &&& 0xBFBFBFBF)
    let s2 := if s.ready then s1.startSvcs old ((List.range 4).zip (svcOfWord w)) else s1
    (old.foldl State.stopSvc s2).updSlow

/-- R320. -/
def execUcsSvcWrite (rq : Requester) (w : Word) (s : State) : Out :=
  .next (if canWrite rq R.UCS_SVC then s.svcWrite w else s)

/-! ### Takeover (R311, R312) -/

/-- Does the word w, written at a, start a window, a capture or a sweep: bit 31 of MS_WIN_CTRL, MS_CAP_CTRL or MS_SWP_CTRL? -/
def startsAt (a : Nat) (w : Word) : Bool :=
  decide (0x200000 ≤ a ∧ a < 0x218000) && [0x410, 0x41C, 0x430].contains (a % 0x1000) && bitOf w 31

/-- Does a UCS command read an RCL field, place a record, pop a slot, start a measurement or write NOR (R312)? The
catalogue's commands by code; raw accesses by the registers they name. -/
def notAgain (code : Nat) (body : List Word) : Bool :=
  let w := fun i => (body.getD i 0).toNat
  let rcl := fun a n => (List.range (min n 1023)).any fun i => match regDef? (a + 4 * i) with
    | some d => d.rcl != 0
    | none => false
  [0x0104, 0x0105, 0x0106, 0x0302, 0x0304, 0x0305, 0x0306, 0x0412, 0x0500, 0x0501, 0x0502, 0x0504, 0x0505, 0x0507,
   0x0508, 0x0606, 0x0700, 0x0702, 0x0703, 0x0802, 0x0901, 0x0A06, 0x0B03, 0x0C00, 0x0C01, 0x0C03, 0x0D01].contains code ||
    (code == 0x0401 && w 1 == 1) || (code == 0x0402 && w 1 == 0) || code == 0x0403 ||
    (code == 0x0E00 && rcl (w 0) (w 1)) || (code == 0x0E01 && decide (0x60 ≤ w 0 + 4 * w 1 ∧ w 0 < 0x78)) ||
    (code == 0x0E02 && (rcl (w 0) 1 || decide (0x60 ≤ w 0 ∧ w 0 < 0x78))) ||
    (code == 0x0E01 && ((List.range (body.length - 2)).any fun i => startsAt (w 0 + 4 * i) (body.getD (i + 2) 0))) ||
    (code == 0x0E02 && startsAt (w 0) (body.getD 1 0 &&& body.getD 2 0))

/-- A slow-path command that the takeover interrupted runs again from its start, or completes with ABORTED. -/
def State.redo (s : State) (c : OutCmd) : State :=
  let m : Cmd := { rq := c.rq, tag := c.tag }
  let s1 : State := { s with
    ops := s.ops.filter fun o => o.who != .ucs m
    ports := s.ports.map fun h => if h.req == some m then { h with req := none } else h }
  if notAgain c.code c.body then s1.respondSt m c.code stAborted
  else { s1 with cmds := s1.cmds.map fun d => if d.names m then { d with started := false, by' := none } else d }

/-- The responses that wait in the journal are sent in completion order. -/
def State.sendUnsent (s : State) : State :=
  (s.journal.filter fun j => !j.sent).foldl (fun s j => s.send (journalFrame j (1 + 8 * b2n j.replay)))
    { s with journal := s.journal.map fun j => { j with sent := true } }

/-- R311: the core that dispatches from now on is the lower-numbered unfenced one. -/
def execStandbyTakeover (s : State) : Out :=
  .next (
    if !s.mssDown then s
    else
      let c := if s.get F.MSS_STAT.CORE0 = 2 then 1 else 0
      let s1 : State := { s with mssDown := false, heldIn := [] }
      let s2 := if s.core ≠ c then (s1.inc F.MSS_STAT.TAKEOVERS).modTwm (fun w => { w with events := w.events ||| 2 }) else s1
      let s3 := ((if c = 0 then s2.set F.MSS_STAT.CORE0 0 else s2.set F.MSS_STAT.CORE1 0).set F.UCS_STAT.CORE c).sendUnsent
      let s4 := s.heldIn.foldl (fun s x => s.checkFrame x.1 x.2) s3
      (s4.cmds.filter fun c => match c.by' with
        | some n => decide (64 ≤ n)
        | none => false).foldl State.redo s4)

end Sys2Proof.Machine
end

