-- ==== Sys2Proof/Machine/Host.lean ====
section
/-!
DEFINITION. Host ports, HDP, IEEE 1588 and the two-wire interfaces (chapter 16, R409 to R434), with the response bodies
of IDENTIFY and STATE that window 0 of TW_M shows (Table 16-4).
-/

namespace Sys2Proof.Machine

/-! ### Ports (R409, R411) -/

/-- LINK of port p. -/
def State.linkOf (s : State) (p : Nat) : Bool := s.is (F.HST_STAT.LINK p)

/-- R409. A port under test stays down (R507). -/
def execHostLinkChange (p : Fin 2) (up : Bool) (s : State) : Out :=
  .next (s.hostLink p (up && s.is (F.HST_CFG.EN p) && s.domOn 94 && !s.ltRuns 1 p))

/-- R409: IPv4 requests are answered while the port holds an IPv4 address. -/
def execNetworkProtocolRequest (p : Fin 2) (kind : NetReq) (s : State) : Out :=
  .next (
    let v4 := match kind with
      | .arp => true
      | .neighbour => false
      | .echo4 => true
      | .echo6 => false
    if s.linkOf p && !(v4 && !s.is (F.HST_IP4.ADDR p)) then { s with netOut := s.netOut ++ [(p.val, kind)] } else s)

/-- R411: the reassemblies of the port that are not complete in 10 ms are discarded without a response. -/
def execReassemblyTimeout (p : Fin 2) (s : State) : Out :=
  .next { s with reasm := s.reasm.filter fun r => !(r.port == p.val && decide (r.since + 10000000 ≤ s.dtime)) }

/-- Does port p take a datagram from this source: its link is up, and over IPv4 it holds an address (R409)? -/
def State.hears (s : State) (p : Fin 2) (peer : Nat) : Bool := s.linkOf p && (peer % 2 == 1 || s.is (F.HST_IP4.ADDR p))

/-! ### Sessions (R412 to R418) -/

/-- The slot that a session identifier names. -/
def slotOf (w : Word) : Fin 16 := ⟨w.toNat % 16, Nat.mod_lt _ (by decide)⟩

/-- The open session of an identifier. -/
def State.sess? (s : State) (w : Word) : Option Session :=
  match s.sessions[slotOf w] with
  | some x => if x.id = w then some x else none
  | none => none

/-- Do sequence numbers a and b satisfy a before b, modulo 2^32? -/
def seqBefore (a b : Word) : Bool := decide ((b - 1 - a).toNat < 2 ^ 31)

/-- Sends the oldest waiting datagrams while the window has room (R415). -/
def State.drainWaits (s : State) (i : Fin 16) : Nat → State
  | 0 => s
  | n + 1 =>
    match s.sessions[i] with
    | none => s
    | some x =>
      match x.waits with
      | [] => s
      | d :: l =>
        if x.unacked.length < s.get F.HST_HDP_TMR.WIN then
          ((s.setSess i (some { x with waits := l })).hdpPut i d.1 d.2).drainWaits i n
        else s

/-- An acknowledged STREAM advances its ring's HEAD (R421). -/
def State.ackOne (s : State) (i : Fin 16) (d : HdpTx) : State :=
  match d.body with
  | .stream _ ring index count _ => s.modRing ring fun r =>
      match r.sub with
      | some (rq, _) => if rq == .session i then { r with head := (index + count) % 2 ^ 32 } else r
      | none => r
  | _ => s

/-- A valid datagram of an open session arrives: the peer is learned on its port, that port becomes the one to send on
(R417), and ACK acknowledges cumulatively (R414). -/
def State.hdpValid (s : State) (i : Fin 16) (x : Session) (d : HdpDgram) : State :=
  let x1 := { x with peers := x.peers.set d.port.val (some d.peer), port := d.port.val,
                     unacked := x.unacked.filter fun u => !seqBefore u.seq d.ack }
  let s1 := (x.unacked.filter fun u => seqBefore u.seq d.ack).foldl (fun s u => s.ackOne i u) (s.setSess i (some x1))
  s1.drainWaits i x1.waits.length

/-- Closes session i (R416). -/
def State.closeSess (s : State) (i : Fin 16) (reason : Nat) : State :=
  match s.sessions[i] with
  | none => s
  | some x =>
    let rq : Requester := .session i
    let unnamed := fun (o : Option Requester) => if o = some rq then none else o
    { ((s.setSess i none).set F.HST_SESS.OPEN (s.get F.HST_SESS.OPEN - 1)) with
      rings := s.rings.map fun r => match r.sub with
        | some (q, _) => if q == rq then { r with sub := none, sent := r.head } else r
        | none => r
      journal := s.journal.filter fun j => j.rq != rq
      cmds := (s.cmds.filter fun c => c.rq != rq || c.started).map fun c => if c.rq == rq then { c with orphan := true } else c
      heldIn := s.heldIn.filter fun h => h.1 != rq
      reqs := s.reqs.filter fun r => r.1 != rq
      records := s.records.map fun r => { r with placer := unnamed r.placer }
      fireReps := s.fireReps.map fun r => { r with placer := unnamed r.placer }
      closed := s.closed ++ [(x.id, reason)] }

/-- A datagram outside any session leaves: CLOSE to a source that has none. Its own number is open. -/
def State.hdpClose (s : State) (d : HdpDgram) (reason : Nat) : State :=
  let (n, s1) := s.fresh
  { s1 with wire := s1.wire ++ [{ port := d.port, peer := d.peer, kind := 3, session := d.session,
                                  seq := BitVec.ofNat 32 n, ack := d.seq + 1, body := .close reason }] }

/-- The reason a closed session closed for. -/
def State.closedFor (s : State) (w : Word) : Option Nat := (s.closed.reverse.find? fun c => c.1 == w).map (·.2)

/-- A datagram to a UDP port that HDP does not serve is discarded, and counted unless the port is one of IEEE 1588 (R410). -/
def State.badPort (s : State) (d : HdpDgram) : State :=
  if d.udp = 319 || d.udp = 320 then s else s.inc (F.HST_DROP.BADPORT d.port)

/-- The checks of R410 and R412 on a datagram of an open session, and what a valid one does. -/
def State.hdpIn (s : State) (d : HdpDgram) (f : State → Fin 16 → State) : State :=
  let bad := s.inc (F.HST_DROP.BADHDP d.port)
  let served := d.udp == s.get F.HST_HDP.UDP_PORT || s.sessions.toList.any fun x => x.any fun y => y.udp == d.udp
  if !s.hears d.port d.peer then s
  else if !served then s.badPort d
  else if !d.sound then bad
  else match s.sess? d.session with
    | some x => f (s.hdpValid (slotOf d.session) x d) (slotOf d.session)
    | none => match s.closedFor d.session with
      | some r => bad.hdpClose d r
      | none => bad

/-- An identifier for a new session in slot i: not 0 and not used before. -/
def State.newId (s : State) (i : Nat) : Word × State :=
  let (n, s1) := s.fresh
  let free := (List.range (s.closed.length + 2)).map fun k => BitVec.ofNat 32 ((n + k + 1) % 2 ^ 28 * 16 + i)
  ((free.find? fun w => w != 0 && !s.closed.any fun c => c.1 == w).getD 16, s1)

/-- R413: opens a session in a free slot and answers ACCEPT. A slot whose former session still has commands that run is
taken last. -/
def State.hdpOpen (s : State) (d : HdpDgram) : State :=
  let again := s.sessions.toList.findSome? fun x => match x with
    | some y => if y.openBy == d.peer && y.openSeq == d.seq && decide (s.dtime < y.openAt + 1000000000) then some y else none
    | none => none
  match again with
  | some y => { s with wire := s.wire ++ [{ port := d.port, peer := d.peer, kind := 2, session := y.id, seq := y.first,
                                            ack := d.seq + 1, body := .none }] }
  | none =>
    let free := (List.finRange 16).filter fun i => s.sessions[i] == none
    let clean := free.filter fun i => !s.cmds.any fun c => c.rq == .session i
    match free with
    | [] => { s with wire := s.wire } |>.hdpClose { d with session := 0 } 3
    | _ =>
      let (n, s1) := s.choose ((if clean.isEmpty then free else clean).map (·.val)) 0
      let i : Fin 16 := slotOf (BitVec.ofNat 32 n)
      let (id, s2) := s1.newId i
      let (q, s3) := s2.fresh
      let x : Session :=
        { id := id, udp := d.udp, openBy := d.peer, openSeq := d.seq, openAt := s.dtime, first := BitVec.ofNat 32 q,
          peers := [none, none].set d.port.val (some d.peer), port := d.port, rx := d.seq + 1, tx := BitVec.ofNat 32 q }
      (((s3.setSess i (some x)).set F.HST_SESS.OPEN (s.get F.HST_SESS.OPEN + 1)).setReq (.session i) {}).hdpPut i 2 .none

/-- An OPEN datagram arrives (R412, R413). -/
def State.hdpOpenIn (s : State) (d : HdpDgram) : State :=
    if !s.hears d.port d.peer then s
    else if d.udp ≠ s.get F.HST_HDP.UDP_PORT then s.badPort d
    else if !d.sound || d.session ≠ 0 then s.inc (F.HST_DROP.BADHDP d.port)
    else s.hdpOpen d

/-- An ACK datagram of session i. -/
def State.hdpAck (s : State) (i : Fin 16) : State :=
  match s.sessions[i] with
  | some x => s.hdpSend x 5 x.tx .none false
  | none => s

/-- Delivers what has arrived in order: frames to the MSS, CLOSE to the session (R414, R416). -/
def State.hdpDeliver (s : State) (i : Fin 16) : Nat → State
  | 0 => s
  | n + 1 =>
    match s.sessions[i] with
    | none => s
    | some x =>
      match x.held.find? (fun h => h.1 == x.rx) with
      | none => s
      | some h =>
        let s1 := s.setSess i (some { x with rx := x.rx + 1, held := x.held.filter fun k => k.1 != x.rx })
        match h.2 with
        | some l => (s1.frameIn (.session i) l).hdpDeliver i n
        | none => (s1.hdpAck i).closeSess i 1

/-- A datagram that consumes a number (R414): within the window it is held and delivered in order, behind it is
acknowledged again, else it is discarded. -/
def State.hdpSeq (s : State) (i : Fin 16) (seq : Word) (body : Option (List Byte)) : State :=
  match s.sessions[i] with
  | none => s
  | some x =>
    let off := (seq - x.rx).toNat
    if off < s.get F.HST_HDP_TMR.WIN then
      if s.mssDown && 128 ≤ s.heldIn.length then s
      else
        let s1 := s.setSess i (some { x with held := if x.held.any (·.1 == seq) then x.held else x.held ++ [(seq, body)] })
        (s1.hdpDeliver i (x.held.length + 1)).hdpAck i
    else if 2 ^ 31 ≤ off then s.hdpAck i
    else s

/-- A whole datagram of a TYPE arrives: OPEN, CLOSE and DATA act in their place of the sequence (R413, R414, R416); the
others acknowledge (R414), and keep the session alive (R415, R417). -/
def State.hdpTake (s : State) (type : Nat) (d : HdpDgram) : State :=
  if type = 1 then s.hdpOpenIn d
  else s.hdpIn d fun s i =>
    if type = 3 then s.hdpSeq i d.seq none else if type = 4 then s.hdpSeq i d.seq (some d.payload) else s

/-- The payload from byte `at'` on that the fragments join to, of n fragments at most. -/
def joinFrags (l : List (Nat × List Byte)) : Nat → Nat → List Byte
  | 0, _ => []
  | n + 1, at' => match l.find? fun x => x.1 == at' with
    | some x => x.2 ++ joinFrags l n (at' + x.2.length)
    | none => []

/-- The UDP datagram with the payload l: its TYPE and its fields (R410, R412); MAGIC, VERSION and TYPE count as unsound
where they are not defined. -/
def dgramOf (d : HdpDgram) (l : List Byte) : Nat × HdpDgram :=
  let h := l.drop 8
  let w := bytesWord h
  let ty := bitsOf w 7 0
  (ty, { d with
    frag := none, udp := (l.getD 2 0).toNat * 256 + (l.getD 3 0).toNat
    sound := d.sound && bitsOf w 31 8 == 0x484401 && decide (1 ≤ ty ∧ ty ≤ 7)
    session := bytesWord (h.drop 4), seq := bytesWord (h.drop 8), ack := bytesWord (h.drop 12), payload := h.drop 16 })

/-- A fragment arrives (R411): it joins the reassembly of its datagram, or begins one while fewer than 64 are in progress;
one that would pass 9,216 bytes fails. A whole datagram acts as one that arrives whole. Fragments that overlap join to
nothing, and time out (DESIGN CHOICE, log entry 40). -/
def State.fragIn (s : State) (d : HdpDgram) (f : IpFrag) : State :=
  let same := fun (r : Reasm) => r.port == d.port.val && r.peer == d.peer && r.id == f.id
  let rest := s.reasm.filter fun r => !same r
  let r := (s.reasm.find? same).getD { port := d.port, peer := d.peer, id := f.id, since := s.dtime }
  let last := f.off + f.bytes.length
  if !s.hears d.port d.peer || ((s.reasm.find? same).isNone && 64 ≤ s.reasm.length) then s
  else if 9216 < last || (f.more && f.bytes.length % 8 != 0) then { s with reasm := rest }
  else
    let r1 := { r with parts := r.parts ++ [(f.off, f.bytes)], total := if f.more then r.total else some last }
    let l := joinFrags r1.parts r1.parts.length 0
    if r1.total = some l.length then
      let x := dgramOf d l
      State.hdpTake { s with reasm := rest } x.1 x.2
    else { s with reasm := rest ++ [r1] }

/-- A datagram of a TYPE, or a fragment of a datagram, arrives. -/
def State.hdpArrive (s : State) (type : Nat) (d : HdpDgram) : State :=
  match d.frag with
  | none => s.hdpTake type d
  | some f => s.fragIn d f

/-- R413. -/
def execHdpOpen (d : HdpDgram) (s : State) : Out := .next (s.hdpArrive 1 d)

/-- R416: a CLOSE from the host takes effect in its place in the sequence. -/
def execHdpClose (d : HdpDgram) (s : State) : Out := .next (s.hdpArrive 3 d)

/-- R414. -/
def execHdpData (d : HdpDgram) (s : State) : Out := .next (s.hdpArrive 4 d)

/-- R414. -/
def execHdpAck (d : HdpDgram) (s : State) : Out := .next (s.hdpArrive 5 d)

/-- R415, R417. -/
def execHdpKeepalive (d : HdpDgram) (s : State) : Out := .next (s.hdpArrive 7 d)

/-- R415: the oldest datagram that is not acknowledged goes out again. -/
def execHdpRetransmit (i : Fin 16) (s : State) : Out :=
  .next (match s.sessions[i] with
    | some x => match x.unacked with
      | u :: l =>
        (s.setSess i (some { x with unacked := { u with tries := u.tries + 1 } :: l })).hdpSend x u.kind u.seq u.body true
      | [] => s
    | none => s)

/-- R415. -/
def execSessionTimeout (i : Fin 16) (s : State) : Out :=
  .next (match s.sessions[i] with
    | some x => ((s.hdpSend x 3 x.tx (.close 2) false).closeSess i 2).inc F.HST_SESS.CLOSED_TMO
    | none => s)

/-- R415. -/
def execKeepaliveSend (i : Fin 16) (s : State) : Out :=
  .next (match s.sessions[i] with
    | some x => s.hdpSend x 7 x.tx .none false
    | none => s)

/-- R420: the next whole slots of a ring that session i is subscribed to leave in one STREAM datagram. -/
def execStreamSend (i : Fin 16) (s : State) : Out :=
  .next (
    let mine := fun (r : Ring) => match r.sub with
      | some (q, _) => q == .session i && r.sent != r.tail
      | none => false
    match s.sessions[i], s.rings.find? mine with
    | some x, some r =>
      if x.unacked.length < s.get F.HST_HDP_TMR.WIN then
        let n := min (min ((r.tail + 2 ^ 32 - r.sent) % 2 ^ 32) 255) (8192 / r.size)
        let slots := (List.range n).flatMap fun k => s.ldBytes (r.slot (r.sent + k)) r.size
        let s1 := s.modRing r.num fun r => { r with sent := (r.sent + n) % 2 ^ 32 }
        s1.hdpPut i 6 (.stream ((r.sub.map (·.2)).getD 0) r.num r.sent n slots)
      else s
    | _, _ => s)

/-! ### IEEE 1588 (R422, R423) -/

/-- Does the clock run on a port with LINK 1? -/
def State.ptpUp (s : State) : Bool := s.is F.PTP_CFG.EN && s.domOn 94 && (s.linkOf 0 || s.linkOf 1)

/-- The port that the clock runs on (R422): PTP_CFG.PORT, or the other while that one's LINK is 0. -/
def State.ptpPort (s : State) : Nat :=
  let p := s.get F.PTP_CFG.PORT
  if s.linkOf p then p else 1 - p

/-- Does the clock take a message of this port and domain (R422)? -/
def State.ptpHears (s : State) (port : Fin 2) (domain : BitVec 8) : Bool :=
  s.ptpUp && s.ptpPort == port.val && s.get F.PTP_CFG.DOMAIN == domain.toNat

/-- R423: an offset above STEP_THR steps device time, a smaller one is slewed out. The states of the clock follow IEEE
1588. -/
def execPtpSync (m : PtpSync) (s : State) : Out :=
  .next (
    let st := s.get F.PTP_STAT.STATE
    if !s.ptpHears m.port m.domain || (st ≠ 1 && st ≠ 2) then s
    else
      let s1 := ((s.set F.PTP_STAT.STATE 2).set F.PTP_STAT.DELAY (satU 16 m.delay)).seti F.PTP_OFS.OFS (satS 32 m.offset)
      if s.get F.PTP_CFG.STEP_THR * 10000 < m.offset.natAbs then
        { (s1.wr64 R.TB_DTIME_LO R.TB_DTIME_HI ((s.dtime : Int) - m.offset)).set F.PTP_STAT.STEPPED 1 with ptp := {} }
      else { s1 with ptp := { slew := -m.offset, acc := 0 } })

/-- Does the best-master algorithm take the sender as master (R422)? A clock that may be master itself is the better one
by a lower priority1; at the same priority1 the rest of the algorithm decides. -/
def State.ptpTakes (s : State) (m : PtpAnnounce) : Bool :=
  m.selected && (s.is F.PTP_CFG.SLAVE_ONLY || decide (m.prio1.toNat ≤ s.get F.PTP_CFG.PRIO1))

/-- R422, R423: the best-master algorithm takes the sender as master, or, where it does not and SLAVE_ONLY is 0, this
clock; a sender of a lower priority1 that is not selected has lost to another sender. -/
def execPtpAnnounce (m : PtpAnnounce) (s : State) : Out :=
  .next (
    if !s.ptpHears m.port m.domain then s
    else if s.ptpTakes m then
      let s1 := if s.get F.PTP_STAT.STATE = 2 then s else s.set F.PTP_STAT.STATE 1
      s1.deassertL 374 1
    else if s.is F.PTP_CFG.SLAVE_ONLY || decide (m.prio1.toNat < s.get F.PTP_CFG.PRIO1) then s
    else { s.set F.PTP_STAT.STATE 3 with ptp := {} })

/-- R423: without a master device time runs on at its last corrected rate. -/
def execAnnounceTimeout (s : State) : Out :=
  .next (
    if !s.is F.PTP_CFG.EN then s
    else
      let s1 := s.set F.PTP_STAT.STATE (if s.is F.PTP_CFG.SLAVE_ONLY then 0 else 3)
      State.assertL { s1 with ptp := {} } 374 1)

/-! ### TW_M target (R424 to R428) -/

/-- The response body of IDENTIFY (Table 11-9). -/
def State.identifyBody (s : State) : List Word :=
  [s.rd R.GLB_PART, BitVec.ofNat 32 (s.get F.GLB_STEP.STEP), s.rd R.GLB_UCS, BitVec.ofNat 32 (s.get F.GLB_PATCH.PATCHES),
   s.rd R.GLB_PSET_VER, s.rd R.GLB_SERIAL_LO, s.rd R.GLB_SERIAL_HI]

/-- The fields of UCS_SVC whose threads are available. -/
def State.svcMask (s : State) : Nat :=
  ((List.range 4).filter fun i => match s.svcFields[i]? with
    | some f => f.1 && s.svcUp f.2
    | none => false).foldl (fun m i => m + 2 ^ i) 0

/-- The response body of STATE (Table 11-9). -/
def State.stateBody (s : State) (rq : Requester) : List Word :=
  [s.get F.GLB_PINS.READY, s.get F.UCS_STAT.SLOW, s.get F.UCS_STAT.CORE, s.svcMask, s.outstandingOf rq].map (BitVec.ofNat 32)

/-- MBX_STATE (Table 16-3). -/
def State.mbxState (s : State) : Nat :=
  s.get F.TW_STAT.MBX + 4 * b2n (!s.twm.notices.isEmpty) + 8 * s.get F.TW_STAT.READY

/-- Byte k below 0xFC of window w (Table 16-4). Window 0 reads 0 until boot step 3, which loads what it shows. -/
def State.winByte (s : State) (w k : Nat) : Byte :=
  if w = 0 then
    if s.get F.BOOT_STAT.STEP < 3 || 0x34 ≤ k then 0
    else ((s.identifyBody ++ s.stateBody .twm ++ [BitVec.ofNat 32 s.twm.events]).flatMap wordBytes).getD k 0
  else if 0x100 ≤ w && w ≤ 0x110 then cellGet 0 (252 * (w - 0x100) + k) s.twm.req
  else if 0x200 ≤ w && w ≤ 0x210 then s.twm.resp.getD (252 * (w - 0x200) + k) 0
  else 0

/-- The byte at a pointer of the present window. -/
def State.twByte (s : State) (k : Nat) : Byte :=
  if k < 0xFC then s.winByte s.twm.win k
  else if k = 0xFD then BitVec.ofNat 8 s.mbxState
  else if k = 0xFE then BitVec.ofNat 8 s.twm.win
  else if k = 0xFF then BitVec.ofNat 8 (s.twm.win / 256)
  else 0

/-- SUBMIT (R427): the frame is copied, and checked under R301 unless a takeover runs. -/
def State.mbxSubmit (s : State) : State :=
  if s.get F.TW_STAT.MBX ≠ 0 then s.set F.TW_LATCH.MBX_OVR 1
  else
    let l := fun n => (List.range n).map fun k => cellGet (0 : Byte) k s.twm.req
    let n := 20 + (bytesWord ((l 16).drop 12)).toNat
    (s.set F.TW_STAT.MBX 1).frameIn .twm (l (min n 4284))

/-- RELEASE (R427): the oldest queued notice takes the place of the response, with no alert of its own. -/
def State.mbxRelease (s : State) : State :=
  if s.get F.TW_STAT.MBX ≠ 2 then s
  else match s.twm.notices with
    | f :: l => s.modTwm fun w => { w with resp := frameBytes f, notices := l }
    | [] => (s.modTwm fun w => { w with resp := [] }).set F.TW_STAT.MBX 0

/-- One byte written at the pointer, which then increments (R425, R426). -/
def State.twWrite (s : State) (b : Byte) : State :=
  let k := s.twm.ptr
  let w := s.twm.win
  let s1 :=
    if k < 0xFC then
      if 0x100 ≤ w && w ≤ 0x110 then s.modTwm fun t => { t with req := cellSet 0 (252 * (w - 0x100) + k) b t.req } else s
    else if k = 0xFC then (if b = 1 then s.mbxSubmit else if b = 2 then s.mbxRelease else s)
    else if k = 0xFE then s.modTwm fun t => { t with wlow := some b.toNat }
    else if k = 0xFF then s.modTwm fun t => { t with win := b.toNat * 256 + t.wlow.getD (w % 256), wlow := none }
    else s
  s1.modTwm fun t => { t with ptr := (k + 1) % 256 }

/-- R425. -/
def execTwMWrite (bytes : List Byte) (s : State) : Out :=
  .next (match bytes with
    | [] => s
    | p :: l => if s.boot.por then s else l.foldl State.twWrite (s.modTwm fun t => { t with ptr := p.toNat }))

/-- First byte and size of the group that holds byte k of window w; the tail bytes stand alone (R428). -/
def groupOf (w k : Nat) : Nat × Nat :=
  if 0xFC ≤ k then (k, 1) else if w = 0 && 0x14 ≤ k && k < 0x1C then (0x14, 8) else (k - k % 4, 4)

/-- A host read of MBX_STATE ends a pending alert (R430). -/
def State.endAlert (s : State) : State :=
  if s.is F.TW_STAT.ALERT_PEND then (s.set F.TW_STAT.ALERT_PEND 0).set F.TW_STAT.ALERT_LEFT 0 else s

/-- The reads of one transfer: bytes left, whether this is the first, and the latched group (R428). -/
def State.twReads (s : State) (first : Bool) (latch : Option (Nat × List Byte)) : Nat → State
  | 0 => s
  | n + 1 =>
    let k := s.twm.ptr
    let w := s.twm.win
    let g := groupOf w k
    let start := g.1 == k
    let l1 := if start then some (k, (List.range g.2).map fun i => s.twByte (k + i)) else latch
    let b := match l1 with
      | some (a, l) => if a = g.1 then l.getD (k - a) 0 else s.twByte k
      | none => s.twByte k
    let s1 := if first && !start then s.set F.TW_STAT.TORN 1 else s
    let s2 := if w = 0 && k = 0x30 && 3 ≤ s.get F.BOOT_STAT.STEP then s1.modTwm fun t => { t with events := 0 } else s1
    let s3 := if k = 0xFD then s2.endAlert else s2
    (s3.modTwm fun t => { t with ptr := (k + 1) % 256, out := t.out ++ [b] }).twReads false l1 n

/-- R425, R428: the bytes returned stand in TwM.out. -/
def execTwMRead (n : Nat) (s : State) : Out :=
  .next (if s.boot.por then s else (s.modTwm fun t => { t with out := [] }).twReads true none n)

/-- R427. -/
def execMbxSubmit (s : State) : Out := .next s.mbxSubmit

/-- R427. -/
def execMbxRelease (s : State) : Out := .next s.mbxRelease

/-! ### TW_M controller (R429 to R433) -/

/-- The alert message (Table 16-5). -/
def State.alertMsg (s : State) : List Byte :=
  [s.get F.TW_STAT.ADDR, s.twm.causes + 8 * s.get F.TW_LATCH.NOTICE_LOST, s.mbxState, s.get F.TW_STAT.ALERT_SEQ].map
    (BitVec.ofNat 8)

/-- An attempt of the pending alert ends: lost, acknowledged, or not acknowledged with LEFT retries left. -/
def State.alertTry (s : State) (retry arbLost ack : Bool) : State :=
  if !(s.is F.TW_STAT.ALERT_PEND && s.is F.TW_ALERT.EN && !s.twm.stuck && (s.twm.tries != 0) == retry) then s
  else if arbLost then s.set F.TW_LATCH.ARB_LOST 1
  else if ack then (s.modTwm fun t => { t with sent := t.sent ++ [s.alertMsg] }).endAlert
  else
    let left := s.get F.TW_STAT.ALERT_LEFT - b2n retry
    let s1 := (s.modTwm fun t => { t with tries := t.tries + 1 }).set F.TW_STAT.ALERT_LEFT left
    if left = 0 then s1.endAlert.set F.TW_LATCH.ALERT_FAIL 1 else s1

/-- R429. -/
def execAlertSend (arbLost ack : Bool) (s : State) : Out := .next (s.alertTry false arbLost ack)

/-- R430. -/
def execAlertRetry (arbLost ack : Bool) (s : State) : Out := .next (s.alertTry true arbLost ack)

/-- A bus clear ends (R433): SDA is high again, or is still low after nine pulses. -/
def State.busClear (s : State) (freed : Bool) : State :=
  let s1 := s.modTwm fun t => { t with stuck := !freed }
  if freed then s1.deassertL 337 1 else (s1.set F.TW_LATCH.SDA_STUCK 1).assertL 337 1

/-- R433. -/
def execBusclr (rq : Requester) (freed : Bool) (s : State) : Out :=
  .next (if canWrite rq R.TW_CTRL then s.busClear freed else s)

/-- R433: SDA has been low for 25 ms while an alert waits, or the bus is stuck. -/
def execSdaStuckClear (freed : Bool) (s : State) : Out :=
  .next (if s.is F.TW_STAT.ALERT_PEND || s.twm.stuck then s.busClear freed else s)

/-- R433: both lines are released and the states of target and controller reset. -/
def execSclTimeout (s : State) : Out :=
  .next ((s.modTwm fun t => { t with wlow := none }).set F.TW_LATCH.SCL_TO 1)

/-! ### TW_0 to TW_2 (R434) -/

/-- A write of TWn_CTRL. -/
def State.twCtrl (s : State) (n : Nat) (w : Word) : State :=
  if bitsOf w 30 29 = 3 || 32 < bitsOf w 13 8 || 32 < bitsOf w 5 0 then s.set (F.TWN_STAT.CFG_REJ n) 1
  else if bitOf w 31 && s.is (F.TWN_STAT.BUSY n) then s.set (F.TWN_STAT.CFG_REJ n) 1
  else
    let s1 := s.wr (R.TWN_CTRL n) (w &&& 0x607F3F3F)
    if bitOf w 31 then s1.set (F.TWN_STAT.BUSY n) 1 else s1

/-- R434. -/
def execTwTransfer (rq : Requester) (n : Fin 3) (w : Word) (s : State) : Out :=
  .next (if canWrite rq (R.TWN_CTRL n) then s.twCtrl n w else s)

/-- The bytes read go into TWn_DATA from byte 0. -/
def State.twData (s : State) (n k : Nat) : List Byte → State
  | [] => s
  | b :: l => (s.set ⟨R.TWN_DATA n (k / 4), 8 * (k % 4) + 7, 8 * (k % 4)⟩ b.toNat).twData n (k + 1) l

/-- R434. -/
def execTwTransferDone (n : Fin 3) (r : TwResult) (s : State) : Out :=
  .next (
    if !s.is (F.TWN_STAT.BUSY n) then s
    else ((((s.twData n 0 (r.bytes.take (s.get (F.TWN_CTRL.RLEN n)))).set (F.TWN_STAT.BUSY n) 0).set (F.TWN_STAT.DONE n) 1).set
      (F.TWN_STAT.RESULT n) r.code).set (F.TWN_STAT.COUNT n) r.count)

end Sys2Proof.Machine
end

