-- ==== Sys2Proof/Machine/Reset.lean ====
section
/-!
DEFINITION. Orderly and hard stops (R470, R471), the reset kinds of Table 19-5 (R498, R499), the MSS start, and the
escalation that counts MSS-only resets (R460, R480).
-/

namespace Sys2Proof.Machine

/-! ### Stops -/

/-- A path transition in progress ends with the path OPEN (R84, R470). -/
def State.endTransition (s : State) (c : Fin 24) : State :=
  if s.is (F.PS_STAT.TRANS c) then ((s.abortPath c).modCh c fun h => { h with pathF := 2 }).settle c
  else s.abortHandover c

/-- The slew of a stop in 10 µV per sample (R470). -/
def State.stopSlewOf (s : State) (c : Fin 24) : Nat :=
  let v := (tdiv (i64 (s.rd64 (R.MS_V_LO c) (R.MS_V_HI c))) 10000).toNat
  max (s.get (F.RG_SLEW_VI.VSLEW c)) ((v + 7999) / 8000)

/-- An orderly stop of one channel, whose cause stands (R470): the LINE goes OFF at the end of the ramp, or at once where
none runs. -/
def State.orderlyCh (s : State) (c : Fin 24) : State :=
  let s1 := (s.endTransition c).modCh c fun h => { h with stopSlew := s.stopSlewOf c }
  let s2 := s1.reresolve c
  if (s2.curMode c).role = 0 && !(s2.ch c).disch then (s2.lineOpen c lnOff).modCh c fun h => { h with stopSlew := 0 } else s2

/-- A hard stop of one channel, whose cause stands (R471). -/
def State.hardCh (s : State) (c : Fin 24) : State :=
  (((s.openAll c).lineOpen c lnOff).modCh c fun h => { h with stopSlew := 0 }).reresolve c

/-- Stops the channels of the list. A leader's stop stops its gang; a follower that stops alone leaves its gang (R470). -/
def State.stopChs (s : State) (cs : List (Fin 24)) (hard : Bool) : State :=
  let alone := cs.filter fun (f : Fin 24) => s.get (F.PS_GANG.ROLE f) == 2 && !cs.any fun l => l.val == s.gangLeader f
  let s1 := alone.foldl (fun s (f : Fin 24) => s.dropMember f) s
  let more := (cs.flatMap s1.followers).filter fun (f : Fin 24) => !cs.contains f
  (cs ++ more).foldl (fun s c => if hard then s.hardCh c else s.orderlyCh c) s1

/-- The channels of a sector; every channel for the hub sector (R472). -/
def sectorChs (q : Nat) : List (Fin 24) := if q < 6 then allCh.filter fun c => c.val / 4 == q else allCh

/-- A stop of every channel that no thermal level orders (R476, R480). -/
def State.stopAll (s : State) (hard : Bool) : State :=
  (allCh.foldl (fun s c => s.modCh c fun h => { h with stopF := true }) s).stopChs allCh hard

/-- That stop is no longer in force; THERMAL becomes HELD where no level orders a stop (R210, R473). -/
def State.endStop (s : State) : State :=
  allCh.foldl (fun s c => (s.modCh c fun h => { h with stopF := false }).reresolve c) s

/-- Has every channel stopped: role OFF in force, no discharge running? -/
def State.stopped (s : State) : Bool := allCh.all fun c => (s.curMode c).role == 0 && !(s.ch c).disch

/-! ### MSS start (R459, R461, R319) -/

/-- The patch set that an MSS start takes: none with the strap NOPATCH (Table 19-1). -/
def State.takePatch (s : State) : State :=
  let off := s.is F.BOOT_STRAP.NOPATCH
  let n := if off then 0 else s.upd.patch.2.1
  let s1 := ((s.setb F.GLB_PATCH.NOPATCH off).set F.GLB_PATCH.PATCHES n).set F.UCS_STAT.PATCHES n
  let s2 := s1.set F.GLB_PSET_VER.VERSION (if off then 0 else s.upd.patch.1)
  { s2 with upd := { s2.upd with active := if off then [] else s.upd.patch.2.2 } }

/-- The lower-numbered unfenced core is primary, the other standby. -/
def State.takeRoles (s : State) : State :=
  let f0 := decide (s.get F.MSS_STAT.CORE0 = 2)
  let f1 := decide (s.get F.MSS_STAT.CORE1 = 2)
  let s1 := if f0 then s else s.set F.MSS_STAT.CORE0 0
  let s2 := if f1 then s1 else s1.set F.MSS_STAT.CORE1 (if f0 then 0 else 1)
  s2.set F.UCS_STAT.CORE (b2n f0)

/-- Both cores restart from the ROM with no context and no operation in flight. -/
def State.restartCores (s : State) : State :=
  { s with
    mss := s.mss.map fun m => { ok := m.ok }
    ops := s.ops.filter fun o => match o.who with
      | .mss _ _ => false
      | _ => true }

/-! ### Reset of the device, kinds 1 to 3 (Table 19-5) -/

/-- What survives every reset in registers, as address and mask: leg, engine, pair and lane fences, fenced cores and
collector halves, the repair record's counts, the asset tag, the provisioning locks and the log's counters; and
the watchdog count, the TAP (R509) and the engines' mismatch counts (R129) but for power-on. -/
def keptRegs (kind : Nat) : List (Nat × Word) :=
  (List.range 24).flatMap (fun c =>
    [(R.PS_STAT c, 0x00000F00), (R.PS_RATING c, 0xFFFFFFFF), (R.RG_ENG c, if kind = 1 then 0x83030000 else 0x8303FFFF)]) ++
  (List.range 4).map (fun n => (R.SEQ_CL_STAT n, 0x00FFF3FF)) ++
  (List.range 7).map (fun l => (R.FAB_LINK_STAT l, 0xFFFFFFFF)) ++
  (List.range 4).map (fun k => (R.GLB_ASSET k, 0xFFFFFFFF)) ++
  [(R.MSS_STAT, 0xF0000000), (R.FLT_STAT, 0x3C000000), (R.FLT_REPAIR_STAT, 0xFFFFFFFF), (R.GLB_PROV_STAT, 0xA0000000),
   (R.LOG_STAT, 0xFFFFFFFF), (R.LOG_WEAR, 0xFFFFFFFF)] ++
  (if kind = 1 then [] else [(R.WDT_STAT, 0xFF000000), (R.LT_JTAG, 0x400000FF)])

/-- Copies the masked bits of the listed registers of `old`. -/
def State.copyRegs (s old : State) (l : List (Nat × Word)) : State :=
  l.foldl (fun s x => s.wr x.1 ((s.rd x.1 &&& ~~~x.2) ||| (old.rd x.1 &&& x.2))) s

/-- The registers of the house die's block, whose status runs on under kinds 2 and 3: the bits that no access code
writes. -/
def State.houseRegs (s : State) : List (Nat × Word) :=
  (s.regs.filter fun x => decide (0x30000 ≤ x.1 ∧ x.1 < 0x40000)).map fun x => (x.1, match regDef? x.1 with
    | some d => ~~~(BitVec.ofNat 32 (d.rw ||| d.w1c ||| d.rcl ||| d.wo))
    | none => 0)

/-- The domains whose fences stand (R27). -/
def State.fencedDoms (s : State) : List Nat := (List.range 102).filter s.domFenced

/-- The sessions that a reset closes; CLOSE names no reason for it, so the reason is open. -/
def State.closeAll (s : State) : State :=
  (List.finRange 16).foldl (fun s i => match s.sessions[i] with
    | some x => let (r, s1) := s.fresh; { s1 with closed := s1.closed ++ [(x.id, r)] }
    | none => s) s

/-- Everything that a reset of kind 1 to 3 resets, with its cause (Table 19-6); the RESET record follows. -/
def State.wipe (s0 : State) (kind cause : Nat) : State :=
  let k1 := kind == 1
  let s := s0.ltMoved.foldl (fun s x => s.ltReturn x.1 x.2) s0.closeAll
  let new : State :=
    { pending := s.pending, freeCtr := s.freeCtr, out := s.out, wire := s.wire, netOut := s.netOut, closed := s.closed
      chans := s.chans.map fun h => { ({} : Chan) with
        fenced := h.fenced, convBad := h.convBad, fe := { units := h.fe.units, calib := decide (3 ≤ h.fe.units.length),
                                                                calOf := List.replicate 3 s.upd.calGen } }
      mss := s.mss.map fun m => { ok := m.ok }
      twm := { sent := s.twm.sent, out := s.twm.out, events := if kind = 3 then s.twm.events ||| 1 else 0 }
      upd := { s.upd with holder := none, length := 0, staged := [], written := [], checked := none, active := [], resets := [] }
      fltRecs := if k1 then [] else s.fltRecs.map fun r => { r with words := [] }
      repairs := s.repairs, collDead := s.collDead, laneBad := s.laneBad, pllBad := s.pllBad, refBad := s.refBad
      house := if k1 then { legBad := s.house.legBad } else s.house
      ledger := if k1 then {} else s.ledger
      wdt := { clock := s.wdt.clock, recent := if k1 then [] else s.wdt.recent }
      logBuf := if k1 then [] else s.logBuf.map fun r => { r with flags := r.flags ||| 2 }
      logNor := s.logNor, nor := s.nor
      boot := { restarts := s.boot.restarts, wdtSw := s.boot.wdtSw, prov := s.boot.prov, keyHash := s.boot.keyHash,
                keyDoubt := s.boot.keyDoubt, provTry := s.boot.provTry, tapDr := if k1 then [] else s.boot.tapDr } }
  let s1 := (new.copyRegs s (keptRegs kind)).copyRegs s (if k1 then [] else s.houseRegs)
  let s2 := s.fencedDoms.foldl (fun s d => s.set (domStat d) 3) s1
  let s3 := if k1 then
      s2.wr R.LOG_STAT (match s.logNor.getLast? with
        | some r => BitVec.ofNat 32 (r.seq + 1)
        | none => 0)
    else s2
  ((s3.set F.RST_CAUSE.KIND kind).set F.RST_CAUSE.CAUSE cause).log 0x04 [BitVec.ofNat 32 kind, BitVec.ofNat 32 cause]

/-- A NOR sector erase in progress at a device reset or a hub stop is abandoned (R475). -/
def State.norAbandon (s : State) : State :=
  match s.nor.erase with
  | none => s
  | some k =>
    let s1 : State := { s with nor := { s.nor with erase := none, age := 0, marked := s.nor.marked ++ [k], wait := false } }
    ((s1.set F.WDT_STAT.SUSP 0).log 0x0A [BitVec.ofNat 32 k, 0]).raise 362 2 k

/-- Kinds 2 and 3: every channel is stopped, the PACK charger stops, HOUSE and feeds run on; then boot. -/
def State.deviceReset (s : State) (kind cause : Nat) : State := ((s.norAbandon).cgStop 24).wipe kind cause

/-- A restart of boot (R493): a watchdog expiry or a core fault before READY; the fourth within 60 s ends boot. -/
def State.bootRestart (s : State) (cause : Nat) : State :=
  let now := s.wdt.clock
  let l := now :: s.boot.restarts.filter fun t => now < t + 60000000000
  let n := s.get F.RST_CAUSE.RESTARTS + 1
  let s1 := (s.deviceReset 3 cause).set F.RST_CAUSE.RESTARTS (satU 8 n)
  let s2 : State := { s1 with boot := { s1.boot with restarts := l } }
  if 4 ≤ l.length then s2.set F.BOOT_STAT.STEP 15 else s2

/-! ### MSS-only reset, escalation, supervisor and channel resets -/

/-- Is the device between reset and READY? -/
def State.booting (s : State) : Bool := !s.ready

/-- An MSS-only reset (R461): retained memory, threads, events, the other blocks and every output stay. It is absorbed
into a pending device reset (Table 19-7). -/
def State.mssReset (s : State) (cause : Nat) : State :=
  if s.boot.pendDev.isSome then s
  else
    let s1 := (s.inc F.MSS_STAT.MSSRST).set F.WDT_CTRL.LOCK 0
    let s2 := ([0, 1].foldl (fun (s : State) (k : Fin 2) => s.clearShadows (.mss k)) s1.restartCores).takeRoles.takePatch
    State.log { s2 with mssDown := true, nor := { s2.nor with wait := s2.nor.erase.isSome } } 0x04 [4, BitVec.ofNat 32 cause]

/-- A third MSS-only reset within 60 s escalates: an orderly stop of every channel, then a device reset (R480). -/
def State.escalate (s : State) : State :=
  let s1 := (s.stopAll false)
  { s1 with boot := { s1.boot with pendDev := some (s1.boot.pendDev.getD 4) } }

/-- An MSS-only reset that counts towards escalation (R460, R480); before READY it restarts boot (R493). -/
def State.countedReset (s : State) (cause : Nat) : State :=
  if s.booting then s.bootRestart cause
  else
    let now := s.wdt.clock
    let l := now :: s.wdt.recent.filter fun t => now < t + 60000000000
    let s1 := State.mssReset { s with wdt := { s.wdt with recent := l } } cause
    if 3 ≤ l.length then (s1.raise 340 1).escalate else s1

/-- A fault of core k (R460): the core is fenced where the other works, and dispatch waits for the takeover; a fault of
the last core is an MSS-only reset. -/
def State.coreFault (s : State) (k : Fin 2) : State :=
  let stat := fun (k : Fin 2) => if k = 0 then F.MSS_STAT.CORE0 else F.MSS_STAT.CORE1
  if s.get (stat k) = 2 then s
  else if s.get (stat (1 - k)) = 2 then s.countedReset 7
  else
    let s1 := (s.set (stat k) 2).modMss k fun _ => { ok := false }
    let s2 : State := { s1 with ops := s1.ops.filter fun o => match o.who with
      | .mss j _ => j != k
      | _ => true }
    if s.core = k.val then { s2 with mssDown := true } else s2

/-- A reset of quad supervisor q (R462): what its sector runs on stays, and it reads RESET until it is back in service. A
domain that is off has nothing to reset. -/
def State.supReset (s : State) (q : Fin 6) (cause : Nat) : State :=
  if s.get (F.SUP_STAT.STATE q) = 4 then s
  else
    let s1 := (s.log 0x04 [5, BitVec.ofNat 32 cause]).raise (378 + q) 1
    let s2 := match s1.upd.fw.find? fun v => v / 256 == q.val with
      | some v => s1.set (F.SUP_STAT.FWVER q) (v % 256)
      | none => s1
    (State.set { s2 with upd := { s2.upd with fw := s2.upd.fw.filter fun v => v / 256 != q.val } } (F.SUP_STAT.STATE q) 1)

/-- The resets of KIND 2 (R318), one at a time: the first supervisor that is not off is reset, and the rest wait until it has
returned to service. -/
def State.supResets (s : State) : List Nat → State
  | [] => { s with upd := { s.upd with resets := [] } }
  | n :: l =>
    if h : n < 6 then
      if s.get (F.SUP_STAT.STATE n) = 4 then s.supResets l
      else State.supReset { s with upd := { s.upd with resets := l } } ⟨n, h⟩ 8
    else s.supResets l

/-- A supervisor in RESET returns to service with its next housekeeping round (DESIGN CHOICE, log entry 62); the next one
that waits is reset. -/
def State.supBack (s : State) (q : Nat) : State :=
  if q < 6 && s.get (F.SUP_STAT.STATE q) == 1 then
    let s1 := s.set (F.SUP_STAT.STATE q) 0
    s1.supResets s1.upd.resets
  else s

/-- Registers that every reset that reaches a channel resets. -/
def chanResetRegs (c : Nat) : List Nat :=
  [R.PS_LATCH c, R.PS_EDGE_CNT c, R.PS_CBC_CNT c, R.PS_BURST c, R.RG_LATCH c, R.BM_LATCH c, R.CG_LATCH c, R.MS_LATCH c,
   R.MS_CAP_STAT c, R.MS_WIN_STAT c, R.LN_LATCH c] ++ (List.range 18).map fun i => R.MS_VMIN_LO c + 4 * i

/-- A channel reset (Table 19-5, R499): the role goes OFF, LINE OFF; it counts as a read of PS_LATCH; operations not in
effect complete with NOT_READY. -/
def State.resetCh (s : State) (c : Fin 24) (cause : Nat) : State :=
  let s1 := s.log 0x04 [6, BitVec.ofNat 32 cause, s.rd (R.PS_LATCH c), s.rd (R.RG_LATCH c), s.rd (R.CG_LATCH c)]
  let s2 := ((s1.endTransition c).closeWin c true).capReq1 c none
  let s3 := ((s2.sweepAbort c).set (F.MD_REQ.ROLE c) 0).lineOpen c lnOff
  let s4 := (s3.chanOps c).foldl (fun s o => s.setWord o.who (cword stNotReady)) s3
  let s5 := (s4.readLnLatch c).readPsLatch c
  let s6 := (chanResetRegs c).foldl (fun s a => s.wr a (resetWord a)) s5
  ((s6.senseEnd c).modFe c fun f => { f with winCnt := 0 }).resolveCh false c

end Sys2Proof.Machine
end

