-- ==== Sys2Proof/Machine/Faults.lean ====
section
/-!
DEFINITION. The fault collector, its reactions, summaries and force bits, redundancy and repair (chapter 17, R436 to
R458).
-/

namespace Sys2Proof.Machine

/-! ### Sources and conditions (Tables 17-1 to 17-3) -/

/-- Class (CORRECTED 1, CONTAINED 2, FATAL 3), whether the condition is an edge, and its reaction (0 RECORD, 1 FENCE,
2 SECTOR, 3 STOP_ORDERLY, 4 STOP_HARD), of a channel condition. -/
def chanCond (x code : Nat) : Nat × Bool × Nat :=
  match x, code with
  | 0, _ => (2, false, 0)
  | 1, _ => (2, false, 0)
  | 2, 2 => (1, true, 0)
  | 2, _ => (2, false, 1)
  | 3, _ => (2, false, 1)
  | 4, _ => (2, false, 0)
  | 5, _ => (2, false, 0)
  | 6, _ => (2, true, 0)
  | 7, _ => (2, true, 0)
  | 8, _ => (2, false, 0)
  | 9, _ => (2, true, 0)
  | 10, 1 => (1, true, 0)
  | 10, _ => (2, true, 0)
  | _, 2 => (1, true, 0)
  | _, _ => (2, false, 1)

/-- The same of any condition; the stop of a THERM condition by its DETAIL1 (R469). -/
def condOf (src code : Nat) (d1 : Word) : Nat × Bool × Nat :=
  if src < 288 then chanCond (src % 12) code
  else if src < 296 then (if code = 2 then 2 else 1, true, 0)
  else if src < 300 then (2, true, 0)
  else if src < 304 then (2, false, 1)
  else if src < 311 then (if code = 3 then (3, false, 0) else (2, false, 1))
  else if src < 320 then (2, true, 0)
  else if src < 326 then (3, false, 2)
  else if src < 328 then (2, false, 0)
  else if src = 328 then (2, false, 1)
  else if src < 331 then (2, true, 0)
  else if src < 333 then (2, false, 0)
  else if src < 335 then (2, true, 0)
  else if src = 335 then (2, code == 2, 0)
  else if src < 338 then (2, false, 0)
  else if src < 340 then (2, code != 1, if code = 3 then 0 else 1)
  else if src = 340 then (3, true, 3)
  else if src = 341 then (3, false, 4)
  else if src < 354 then (2, false, 1)
  else if src = 354 then (2, false, 0)
  else if src < 362 then
    (if code = 1 ∨ code = 5 then (1, false, 0) else if code = 2 then (2, false, 0)
     else if code = 3 then (2, false, if d1 = 0 then 3 else 4) else (3, false, 4))
  else if src = 362 then (if code = 2 then 1 else 2, true, 0)
  else if src = 363 then (2, true, 0)
  else if src = 364 then (2, false, 1)
  else if src = 365 then (3, false, 4)
  else if src < 374 then (2, false, 0)
  else if src = 374 then (1, false, 0)
  else if src = 375 then (2, code == 1, 0)
  else if src = 376 then (2, true, 0)
  else if src = 377 then (2, false, 0)
  else (2, code == 1, 0)

/-- The fencing domain of a source. -/
def fenceDomain (src : Nat) : Nat :=
  if src < 288 then src / 12
  else if src < 296 then 41 + (src - 288)
  else if src < 304 then 30 + (src - 296) % 4
  else if src < 311 then 34 + (src - 304)
  else if 312 ≤ src && src < 320 then 24 + (src - 312) / 4
  else if 320 ≤ src && src < 326 then 24 + (src - 320)
  else if 326 ≤ src && src < 332 then 49
  else if 366 ≤ src && src < 372 then 24 + (src - 366)
  else if 378 ≤ src then 24 + (src - 378)
  else 64 + (src - 288)

/-- The unit that a fencing condition fences, as TYPE and INDEX of Table 17-7. -/
def unitOf (src code d0 : Nat) : Option (Nat × Nat) :=
  if src < 288 then
    let c := src / 12
    match src % 12, code with
    | 2, 1 => some (1, 4 * c + d0)
    | 3, 3 => some (12, c)
    | 3, _ => some (2, 2 * c + d0)
    | 11, 1 => some (6, 3 * c + d0)
    | _, _ => none
  else if 300 ≤ src && src < 304 then some (3, 5 * (src - 300) + d0)
  else if 304 ≤ src && src < 311 && code ≠ 3 then some (4, 17 * (src - 304) + d0)
  else if 320 ≤ src && src < 326 then some (13, src - 320)
  else if src = 328 then some (5, d0)
  else if (src = 338 ∨ src = 339) ∧ code ≠ 3 then some (7, src - 338)
  else if 342 ≤ src && src < 350 then some (9, 2 * (src - 342) + d0)
  else if src = 350 ∨ src = 351 then some (10, src - 350)
  else if src = 352 ∨ src = 353 then some (8, src - 352)
  else none

/-- Units of each type: LEG, ENGINE, PAIR, LANE, HLEG, CONV, MSS, COLL, PLL, REF, MEM, CHANNEL, SECTOR. -/
def unitCount (ty : Nat) : Nat := [0, 96, 48, 20, 119, 6, 72, 2, 2, 16, 2, 8, 24, 6].getD ty 0

/-- How many units a source has, of which a forced report names one. -/
def unitsIn (src : Nat) : Nat :=
  if src < 288 then [1, 1, 4, 2, 1, 1, 1, 1, 1, 1, 1, 3].getD (src % 12) 1
  else if 300 ≤ src && src < 304 then 5
  else if 304 ≤ src && src < 311 then 17
  else if src = 328 then 6
  else if 342 ≤ src && src < 350 then 2
  else 1

/-! ### The repair record (R455) -/

/-- The entry of a unit. -/
def State.entry? (s : State) (ty ix : Nat) : Option Repair := s.repairs.find? fun e => e.type == ty && e.index == ix

/-- Sets the entry of a unit; a full record gives up its oldest RESTORED entry. -/
def State.setEntry (s : State) (e : Repair) : State :=
  let l :=
    if (s.entry? e.type e.index).isSome then s.repairs.map fun x => if x.type == e.type && x.index == e.index then e else x
    else (if s.repairs.length < 1024 then s.repairs else s.repairs.eraseP fun x => x.state == 1) ++ [e]
  let s1 : State := { s with repairs := l }
  (s1.set F.FLT_REPAIR_STAT.ENTRIES l.length).set F.FLT_REPAIR_STAT.FIELD (l.filter fun x => x.origin != 0).length

/-- The entry of a unit that is fenced now. An entry that reads FENCED keeps its origin, and a bank's summary what its
repairs have used. -/
def State.fenceEntry (s : State) (ty ix origin detail : Nat) : State :=
  match s.entry? ty ix with
  | some e => if e.state = 0 then s
      else s.setEntry { e with
        state := 0, origin := origin, detail := if ty = 11 && detail == 0 then e.detail else detail, dtime := s.dtime }
  | none => s.setEntry { type := ty, index := ix, origin := origin, detail := detail, dtime := s.dtime }

/-- The entry of a unit that is restored. -/
def State.restoreEntry (s : State) (ty ix : Nat) : State :=
  match s.entry? ty ix with
  | some e => s.setEntry { e with state := 1, dtime := s.dtime }
  | none => s

/-! ### Fencing and restoring a unit -/

/-- Fence collector half h (R441). -/
def State.collFence (s : State) (h : Nat) (self : Bool) : State :=
  let stat := fun (h : Nat) => if h = 0 then F.FLT_STAT.HALF_0 else F.FLT_STAT.HALF_1
  if s.get (stat h) ≠ 0 then s
  else if s.get (stat (1 - h)) ≠ 0 then { s with collDead := true }
  else (s.set (stat h) 1).assertL (352 + h) (if self then 2 else 1)

/-- PLL i of die d fails (R451). -/
def State.pllFail (s : State) (d i : Nat) : State :=
  if s.pllBad.contains (d, i) then s else State.assertL { s with pllBad := (d, i) :: s.pllBad } (342 + d) 1 i

/-- Reference r is lost (R451). -/
def State.refLost (s : State) (r : Nat) : State :=
  if s.refBad.contains r then s else State.assertL { s with refBad := r :: s.refBad } (350 + r) 1

/-- A domain reads FENCED (R27); a unit without power has ended what it did. -/
def State.fenceDom (s : State) (d : Nat) : State :=
  if s.domFenced d then s else ((if s.get (domStat d) = 0 then s else s.domOff d)).set (domStat d) 3

/-- The domains of the sector of quad die q beside its supervisor: its channels, and the PHYs of its ports (R12, Table
01-7). -/
def sectorDoms (q : Nat) : List Nat :=
  (List.range 12).map (fun k => 12 * q + k) ++ if q < 2 then (List.range 4).map (fun k => 72 + 4 * q + k) else []

/-- The sensors and the ports of a lost sector are out of service (R12): nothing reads them any more, the ports detach,
and no PD role resolves. -/
def State.sectorDark (s : State) (q : Nat) : State :=
  let s1 := (List.range 4).foldl (fun s k => s.set (F.QD_THERM.VALID q k) 0) s
  let s2 := (List.range 24).foldl (fun s n => s.set (F.QD_TEMP.VALID q n) 0) s1
  (sectorChs q).foldl (fun s c => match port? c.val with
    | some p => if s.attach p = atNone then s.reresolve c else s.pdDetach p
    | none => s) s2

/-- Sector q is lost: its channels resolve under bit 0 of Table 08-2, and its domains read FENCED (R12, R442). -/
def State.sectorLost (s : State) (q : Nat) : State :=
  let s1 := (sectorChs q).foldl (fun s c => s.fenceCh c) s
  ((sectorDoms q ++ [96 + q]).foldl State.fenceDom s1).sectorDark q

/-- Is the unit fenced? -/
def State.unitFenced (s : State) (ty ix : Nat) : Bool :=
  let bitIn := fun (a b : Nat) => a.testBit b
  match ty with
  | 1 => bitIn (s.get (F.PS_STAT.LEG_FENCED (ix / 4))) (ix % 4)
  | 2 => s.is (if ix % 2 = 0 then F.RG_ENG.ENG_A (ix / 2) else F.RG_ENG.ENG_B (ix / 2))
  | 3 => decide (2 ≤ s.get (pairFld (ix / 5) (ix % 5)))
  | 4 => !s.laneGood (ix / 17) (ix % 17)
  | 5 => s.house.legBad.contains ix
  | 6 => match chan? (ix / 3) with
    | some c => (s.ch c).convBad.contains (ix % 3)
    | none => false
  | 7 => s.get (if ix = 0 then F.MSS_STAT.CORE0 else F.MSS_STAT.CORE1) == 2
  | 8 => s.is (if ix = 0 then F.FLT_STAT.HALF_0 else F.FLT_STAT.HALF_1)
  | 9 => s.pllBad.contains (ix / 2, ix % 2)
  | 10 => s.refBad.contains ix
  | 11 => s.domFenced (82 + ix)
  | 12 => match chan? ix with
    | some c => (s.ch c).fenced
    | none => false
  | _ => match s.entry? 13 ix with
    | some e => e.state == 0
    | none => false

/-- Fence a unit for real (R449, R456). -/
def State.fenceUnit (s : State) (ty ix : Nat) : State :=
  let ch := fun (n : Nat) (f : Fin 24 → State) => match chan? n with
    | some c => f c
    | none => s
  match ty with
  | 1 => ch (ix / 4) fun c => s.fenceLeg c (ix % 4)
  | 2 => ch (ix / 2) fun c => s.fenceEngine c (ix % 2) false
  | 3 => s.pairFence ⟨ix / 5 % 4, Nat.mod_lt _ (by decide)⟩ ⟨ix % 5, Nat.mod_lt _ (by decide)⟩
  | 4 => s.laneFail ⟨ix / 17 % 7, Nat.mod_lt _ (by decide)⟩ ⟨ix % 17, Nat.mod_lt _ (by decide)⟩
  | 5 => s.houseLegFence ⟨ix % 6, Nat.mod_lt _ (by decide)⟩
  | 6 => ch (ix / 3) fun c => s.convFence c ⟨ix % 3, Nat.mod_lt _ (by decide)⟩
  | 7 => s.coreFault ⟨ix % 2, Nat.mod_lt _ (by decide)⟩
  | 8 => s.collFence ix false
  | 9 => s.pllFail (ix / 2) (ix % 2)
  | 10 => s.refLost ix
  | 11 => s.fenceDom (82 + ix)
  | 12 => ch ix fun c => s.fenceCh c
  | _ => s.sectorLost ix

/-- A domain whose fence ends is OFF, and powers up where it is not held OFF (R27). -/
def State.unfenceDom (s : State) (d : Nat) : State := if s.domFenced d then (s.set (domStat d) 0).startDom d else s

/-- The fences of several domains end. -/
def State.unfenceDoms (s : State) (l : List Nat) : State := l.foldl State.unfenceDom s

/-- A channel's fence ends. -/
def State.unfenceCh (s : State) (c : Fin 24) : State :=
  ((s.modCh c fun h => { h with fenced := false }).unfenceDom (3 * c)).reresolve c

/-- A restored unit returns to its group, as the spare where it has one (R456). -/
def State.restoreUnit (s : State) (ty ix : Nat) : State :=
  let ch := fun (n : Nat) (f : Fin 24 → State) => match chan? n with
    | some c => f c
    | none => s
  match ty with
  | 1 => ch (ix / 4) fun c => (s.set ⟨R.PS_STAT c, 8 + ix % 4, 8 + ix % 4⟩ 0).updRating c
  | 2 => ch (ix / 2) fun c =>
      let s1 := s.set (if ix % 2 = 0 then F.RG_ENG.ENG_A c else F.RG_ENG.ENG_B c) 0
      if (s1.enginesOk c).length = 2 then s1.set (F.RG_ENG.COMPARE c) 1 else s1
  | 3 =>
      let n := ix / 5
      match (List.range 4).find? fun sl => s.get (slotFld n sl) == 7 with
      | some sl => ((s.set (pairFld n (ix % 5)) 0).set (slotFld n sl) (ix % 5)).updSlow
      | none => s.set (pairFld n (ix % 5)) 1
  | 4 =>
      let l := ix / 17
      let s1 : State := { s with laneBad := s.laneBad.filter (· != (l, ix % 17)) }
      let good := s1.lanesFrom l 0
      if s1.get (F.FAB_LINK_STAT.STATE l) = 3 && 16 ≤ good.length then s1.setLink l 2 (good.take 16) else s1
  | 5 => s.modHouse fun h => { h with legBad := h.legBad.filter (· != ix) }
  | 6 => ch (ix / 3) fun c =>
      (s.modCh c fun h => { h with convBad := h.convBad.filter (· != ix % 3) }).modFe c fun f =>
        { f with units := f.units ++ [ix % 3], calib := decide (2 ≤ f.units.length), spareOk := false }
  | 7 =>
      let s1 := s.modMss ⟨ix % 2, Nat.mod_lt _ (by decide)⟩ fun _ => { ok := true }
      s1.set (if ix = 0 then F.MSS_STAT.CORE0 else F.MSS_STAT.CORE1) 1
  | 8 => State.set { s with collDead := false } (if ix = 0 then F.FLT_STAT.HALF_0 else F.FLT_STAT.HALF_1) 0
  | 9 => { s with pllBad := s.pllBad.filter (· != (ix / 2, ix % 2)) }
  | 10 => { s with refBad := s.refBad.filter (· != ix) }
  | 11 => s.unfenceDom (82 + ix)
  | 12 => ch ix fun c => (s.unfenceCh c).regroup
  | _ =>
      let s1 := (s.unfenceDom (96 + ix)).unfenceDoms (sectorDoms ix)
      ((sectorChs ix).foldl State.unfenceCh s1).regroup

/-! ### Coverage (R450, Table 17-5) -/

/-- Bits of a map from a test. -/
def bitMap (n : Nat) (f : Nat → Bool) : Nat := ((List.range n).filter f).foldl (fun m i => m + 2 ^ i) 0

/-- FLT_COVER_n. -/
def State.cover (s : State) (n : Nat) : Nat :=
  match n with
  | 0 => bitMap 24 fun c => !s.is (F.PS_STAT.LEG_FENCED c)
  | 1 => bitMap 24 fun c => !s.is (F.RG_ENG.ENG_A c) && !s.is (F.RG_ENG.ENG_B c)
  | 2 =>
    let pairs := bitMap 4 fun n => (List.range 5).all fun p => decide (s.get (pairFld n p) < 2)
    let lanes := bitMap 7 fun l => ((List.range 17).all fun i => s.laneGood l i) && !s.ltMoved.any fun x => x.1 == l
    let plls := bitMap 8 fun d => !s.pllBad.any fun x => x.1 == d
    let feed := fun (f : Nat) => let st := s.get (F.FD_STAT.STATE f); st == 2 || st == 4
    let vpack := i64 (s.rd64 (R.HSE_M_LO 8) (R.HSE_M_HI 8))
    pairs + lanes * 2 ^ 4 + b2n s.house.legBad.isEmpty * 2 ^ 11 +
      b2n (s.get F.MSS_STAT.CORE0 != 2 && s.get F.MSS_STAT.CORE1 != 2) * 2 ^ 12 +
      b2n (!s.is F.FLT_STAT.HALF_0 && !s.is F.FLT_STAT.HALF_1 && !s.collDead) * 2 ^ 13 + plls * 2 ^ 14 +
      b2n s.refBad.isEmpty * 2 ^ 22 + b2n (feed 0 && feed 1) * 2 ^ 23 +
      b2n (s.is F.PK_DIS.HOLDUP_EN && decide (((s.get F.PK_DIS.UV * 100000000 : Nat) : Int) < vpack)) * 2 ^ 24 +
      b2n (s.linkOf 0 && s.linkOf 1) * 2 ^ 25 +
      b2n (s.get F.CHN_STAT.RSTATE == 2 || s.get F.CHN_STAT.RSTATE == 5) * 2 ^ 26
  | _ => bitMap 24 fun c => match chan? c with
    | some c => (s.ch c).convBad.isEmpty
    | none => false

/-! ### Pins (R446, R457) -/

/-- INT_N is asserted. -/
def State.intPin (s : State) : Bool :=
  s.is F.TW_LATCH.ALERT_FAIL || (List.range 12).any fun k => (s.rd (R.FLT_SUM k) &&& s.rd (R.FLT_INT_EN k)) != 0

/-- The management set of Table 17-10 works: a core, the collector, a PLL of the hub die and a reference. -/
def State.mgtSet (s : State) : Bool :=
  !(s.get F.MSS_STAT.CORE0 == 2 && s.get F.MSS_STAT.CORE1 == 2) && !s.collDead &&
    !(s.pllBad.contains (0, 0) && s.pllBad.contains (0, 1)) && !(s.refBad.contains 0 && s.refBad.contains 1)

/-- ERR_N is asserted: by class, by a lost management set after READY, or by a boot that failed (R493). -/
def State.errPin (s : State) : Bool :=
  s.collDead || (s.ready && !s.mgtSet) || s.get F.BOOT_STAT.STEP == 15 ||
    s.uncleared.any fun n => decide (s.get F.FLT_CFG.ERR_CLASS ≤ s.recClass n)

/-! ### Reactions (R442 to R446) -/

/-- The words of a fault record (Table 17-4). -/
def State.recordWords (s : State) (r : Report) (outcome react count : Nat) : List Word :=
  let k := condOf r.src r.cond r.d1
  let w0 := r.cond * 2 ^ 24 + k.1 * 2 ^ 18 + b2n r.forced * 2 ^ 17 + b2n k.2.1 * 2 ^ 16 + r.src
  let halves := b2n (!s.is F.FLT_STAT.HALF_0) + 2 * b2n (!s.is F.FLT_STAT.HALF_1)
  [BitVec.ofNat 32 w0, s.rd R.FLT_SEQ] ++ s.stamp ++
    [BitVec.ofNat 32 r.d0, r.d1, BitVec.ofNat 32 (fenceDomain r.src * 2 ^ 16 + outcome * 2 ^ 8 + react),
     BitVec.ofNat 32 count, BitVec.ofNat 32 halves] ++ List.replicate 5 0

/-- The record of an accepted report: FLT_SEQ, the latest record of the source, the log, the summary bit, the wake
condition FAULT and the notices (R445, R446). -/
def State.record (s : State) (r : Report) (outcome react : Nat) : State :=
  let cls := (condOf r.src r.cond r.d1).1
  let count := satU 32 (1 + match s.fltRecs.find? (fun x => x.src == r.src) with
    | some x => x.count
    | none => 0)
  let s1 := s.incWrap F.FLT_SEQ.SEQ
  let w := s1.recordWords r outcome react count
  let s2 : State := { s1 with
    fltRecs := { src := r.src, words := w, count := count } :: s1.fltRecs.filter fun x => x.src != r.src }
  let s3 := (s2.logRec 0x01 0 (w.take 14)).set ⟨R.FLT_SUM (r.src / 32), r.src % 32, r.src % 32⟩ 1
  (s3.signal 0x50 cls (BitVec.ofNat 32 r.src)).notice 5 0x0A80 [BitVec.ofNat 32 r.src, BitVec.ofNat 32 cls]

/-- The present assertion of a report has been recorded. -/
def State.markRec (s : State) (r : Report) : State :=
  { s with asserts := s.asserts.map fun a =>
      if a.src == r.src && a.cond == r.cond && a.d0 == r.d0 && a.forced == r.forced then { a with recorded := true } else a }

/-- What a reaction orders at once: the stops of Table 17-3, the sector's fence, the fence of a core by EXC3, and a
forced fence (R449). -/
def State.order (s : State) (r : Report) (react : Nat) : State :=
  if r.src = 340 then s.escalate
  else if (r.src = 341 ∨ r.src = 365) then s.stopAll true
  else if r.forced || (react = 1 && (condOf r.src r.cond r.d1).2.1) || react = 2 then
    match unitOf r.src r.cond r.d0 with
    | some u => if react = 0 then s else s.fenceUnit u.1 u.2
    | none => s
  else s

/-- The collector accepts a report (R442): it is recorded, and the reaction begins. A suspect source is recorded without
a reaction (R440). -/
def State.acceptRep (s : State) (r : Report) : State :=
  let suspect := s.suspects.contains r.src
  let react := (condOf r.src r.cond r.d1).2.2
  let done := match unitOf r.src r.cond r.d0 with
    | some u => match s.entry? u.1 u.2 with
      | some e => e.state == 0
      | none => false
    | none => false
  let outcome := if suspect then 2 else if react ≠ 0 && done then 1 else 0
  let s1 := s.record r outcome react
  let s2 := if suspect then s1 else (s1.markRec r).order r react
  let l := s2.reacts ++ [{ domain := fenceDomain r.src, code := if suspect then 0 else react, rep := r }]
  State.set { s2 with reacts := l } F.FLT_STAT.REACTING l.length

/-- Is a reaction in progress in the domain? -/
def State.reacting (s : State) (d : Nat) : Bool := s.reacts.any fun x => x.domain == d

/-- Is an L report stale: its assertion is recorded already, or, where it fences a unit, has been acknowledged? -/
def State.stale (s : State) (r : Report) : Bool :=
  let k := condOf r.src r.cond r.d1
  let mine := s.asserts.filter fun a => a.src == r.src && a.cond == r.cond && a.d0 == r.d0 && a.forced == r.forced
  !k.2.1 && (mine.any (·.recorded) || (mine.isEmpty && !r.forced && k.2.2 == 1))

/-- R443, R445: the collector takes the oldest report that has reached it, unless its domain reacts: then it is lost. -/
def execCollectorReport (s : State) : Out :=
  .next (match s.reports.find? (·.atHub) with
    | none => s
    | some r =>
      let s1 : State := { s with reports := s.reports.erase r }
      if s.collDead || s.stale r || s.reacting (fenceDomain r.src) then s1 else s1.acceptRep r)

/-- The bookkeeping of a fence at the completion of its reaction (R442, R437): repair record, FENCED domain, and the
acknowledgement that ends the condition. -/
def State.fenceDone (s : State) (x : Reaction) : State :=
  let r := x.rep
  let s1 := match unitOf r.src r.cond r.d0 with
    | some u =>
      if u.1 = 13 ∨ s.unitFenced u.1 u.2 then s.fenceEntry u.1 u.2 (if r.forced then 2 else 1) (r.src + r.cond * 2 ^ 20) else s
    | none => s
  let s2 := match unitOf r.src r.cond r.d0 with
    | some (12, c) => s1.fenceDom (3 * c)
    | _ => if r.src = 364 then s1.set (domStat r.d0) 3 else s1
  let s3 := s2.deassertD r.src r.cond r.d0
  if r.src < 288 && r.src % 12 = 3 && r.cond = 2 then s3.deassertD r.src 1 r.d0 else s3

/-- R444: the lowest L source of the domain that asserts and is not recorded is accepted. -/
def State.reexamine (s : State) (d : Nat) : State :=
  let l := s.asserts.filter fun a => !a.recorded && fenceDomain a.src == d && !s.suspects.contains a.src
  match (l.map (·.src)).min? with
  | none => s
  | some n => match l.find? fun a => a.src == n with
    | some a => s.acceptRep { src := a.src, cond := a.cond, d0 := a.d0, d1 := a.d1, forced := a.forced }
    | none => s

/-- A stop that no level, condition or pending reset orders any more has ended (R473). -/
def State.stopCheck (s : State) : State :=
  let on := s.asserts.any fun a => a.src == 341 || a.src == 365
  if on || s.boot.pendDev.isSome || s.reacts.any (fun x => x.rep.src == 341 || x.rep.src == 365) ||
      !(allCh.any fun c => (s.ch c).stopF) then s
  else s.endStop

/-- R444. -/
def execReactionComplete (domain : Fin 160) (s : State) : Out :=
  .next (match s.reacts.find? fun x => x.domain == domain.val with
    | none => s
    | some x =>
      let l := s.reacts.erase x
      let s1 := State.set { s with reacts := l } F.FLT_STAT.REACTING l.length
      let s2 := if x.code = 1 ∨ x.code = 2 then s1.fenceDone x else s1
      (s2.stopCheck).reexamine domain)

/-! ### Pairs and halves (R439 to R441) -/

/-- R439: the change of a pair of a die reaches the hub, unless its link is DOWN. -/
def execFaultPairMessage (src : Fin 384) (s : State) : Out :=
  .next (match srcLink src with
    | none => s
    | some l =>
      if s.linkDown l then s
      else { s with reports := s.reports.map fun r => if r.src == src.val then { r with atHub := true } else r })

/-- R439: the states of all pairs of a die are repeated: those of L conditions that assert. -/
def execConcentratorRefresh (die : Fin 7) (s : State) : Out :=
  .next (
    if s.linkDown die then s
    else
      let f := fun (r : Report) => if srcLink r.src = some die.val && !(condOf r.src r.cond r.d1).2.1 then { r with atHub := true } else r
      { s with reports := s.reports.map f })

/-- R440. -/
def execRailDisagreement (src : Fin 384) (s : State) : Out :=
  .next (
    if s.suspects.contains src.val then s
    else
      let s1 := ((s.set F.FLT_RAIL.VALID 1).inc F.FLT_RAIL.COUNT).set F.FLT_RAIL.SOURCE src
      State.assertL { s1 with suspects := s1.suspects ++ [src.val] } 354 1 src)

/-- The reports of the source's conditions that assert and are not recorded. -/
def State.resend (s : State) (src : Nat) : State :=
  (s.asserts.filter fun a => a.src == src && !a.recorded).foldl (fun s a =>
    if s.reports.any fun r => r.src == a.src && r.cond == a.cond && r.d0 == a.d0 then s
    else s.report { src := a.src, cond := a.cond, d0 := a.d0, d1 := a.d1, forced := a.forced }) s

/-- R440: a suspect pair is valid again; a valid assertion is recorded as usual. -/
def execSuspectClear (src : Fin 384) (s : State) : Out :=
  .next (
    if !s.suspects.contains src.val then s
    else
      let s1 : State := { s with suspects := s.suspects.filter (· != src.val) }
      (s1.deassertD 354 1 src).resend src)

/-- R441: the halves disagree; a self-check error of the last half stops recording. -/
def execCollectorMismatch (selfErr : Option (Fin 2)) (s : State) : Out :=
  .next (
    let one := s.is F.FLT_STAT.HALF_0 || s.is F.FLT_STAT.HALF_1
    match selfErr with
    | some h => s.collFence h true
    | none => if one then s else s.collFence 1 false)

/-! ### Summaries, trips and forces (R447 to R449) -/

/-- A write of FLT_SUM_k (R447): a source that asserts keeps its bit, and so does every source behind a link that is DOWN
(R439). -/
def State.sumClear (s : State) (k : Nat) (w : Word) : State :=
  (List.range 32).foldl (fun s i =>
    if bitOf w i && !s.asserts.any (fun a => a.src == 32 * k + i) && !(srcLink (32 * k + i)).any s.linkDown then
      s.set ⟨R.FLT_SUM k, i, i⟩ 0
    else s) s

/-- R447. -/
def execFltSumClear (rq : Requester) (k : Fin 12) (w : Word) (s : State) : Out :=
  .next (if canWrite rq (R.FLT_SUM k) then s.sumClear k w else s)

/-- A clear of the trip of channel c (R448), and whether it is accepted; with no trip there is nothing to clear. -/
def State.chClear (s : State) (c : Fin 24) : Bool × State :=
  let h := s.ch c
  let i := i64 (s.rd64 (R.MS_I_LO c) (R.MS_I_HI c))
  if h.trip = 0 then (true, s)
  else if h.latchRd && decide (i.natAbs < 1000000000000) then
    (true, (((s.modCh c fun h => { h with trip := 0 }).deassertL (12 * c) 1).deassertL (12 * c) 2).reresolve c)
  else (false, s)

/-- A write of FLT_CHCLR (R448): a refused bit has no effect. -/
def State.chClrWrite (s : State) (w : Word) : State :=
  allCh.foldl (fun s c => if bitOf w c.val then (s.chClear c).2 else s) s

/-- R448. -/
def execFltChclrWrite (rq : Requester) (w : Word) (s : State) : Out :=
  .next (if canWrite rq R.FLT_CHCLR then s.chClrWrite w else s)

/-- The first condition of a source; which unit a forced fence names is open (R449). -/
def State.forced (s : State) (src : Nat) : Report × State :=
  let (n, s1) := if unitsIn src = 1 then (0, s) else s.fresh
  ({ src := src, cond := 1, d0 := n % unitsIn src, forced := true }, s1)

/-- A force by OP: 0 PULSE, 1 HOLD, 2 RELEASE (R449). -/
def State.force (s : State) (src op : Nat) : State :=
  let edge := (condOf src 1 0).2.1
  let held : Fld := ⟨R.FLT_HELD (src / 32), src % 32, src % 32⟩
  if 384 ≤ src || 3 ≤ op then s
  else if op = 2 then
    State.stopCheck (State.set { s with asserts := s.asserts.filter fun a => !(a.src == src && a.forced) } held 0)
  else if op = 1 && !edge then
    if s.is held then s
    else
      let (r, s1) := s.forced src
      let s2 := State.set { s1 with asserts := s1.asserts ++
        [{ src := src, cond := r.cond, d0 := r.d0, forced := true }] } held 1
      s2.report r
  else
    let (r, s1) := s.forced src
    s1.report r

/-- May the requester write FLT_FORCE_CTRL (R449)? -/
def canForce (rq : Requester) : Bool := canWrite rq R.FLT_FORCE_CTRL

/-- R449. -/
def execForcePulse (rq : Requester) (src : Fin 384) (s : State) : Out := .next (if canForce rq then s.force src 0 else s)

/-- R449. -/
def execForceHold (rq : Requester) (src : Fin 384) (s : State) : Out := .next (if canForce rq then s.force src 1 else s)

/-- R449. -/
def execForceRelease (rq : Requester) (src : Fin 384) (s : State) : Out := .next (if canForce rq then s.force src 2 else s)

/-! ### PLLs and references (R451) -/

/-- R451: the PLL in use of die d fails. -/
def execPllSwitchover (d : Fin 8) (s : State) : Out :=
  .next (if s.pllBad.contains (d.val, 0) then s.pllFail d 1 else s.pllFail d 0)

/-- R451. -/
def execReferenceSwitchover (r : Fin 2) (s : State) : Out := .next (s.refLost r)

/-- A lost reference returns: LOST ends, and its group is intact again. -/
def execReferenceReturn (r : Fin 2) (s : State) : Out :=
  .next (
    if s.refBad.contains r.val then
      State.restoreEntry (State.deassertL { s with refBad := s.refBad.filter (· != r.val) } (350 + r) 1) 10 r
    else s)

/-! ### REPAIR (R456, Table 17-8) -/

/-- The channel of a unit of types 1, 2, 6 and 12. -/
def unitCh (ty ix : Nat) : Option Nat :=
  match ty with
  | 1 => some (ix / 4)
  | 2 => some (ix / 2)
  | 6 => some (ix / 3)
  | 12 => some ix
  | _ => none

/-- Would FENCE leave too little: fewer than two healthy legs, no collector half or no core? -/
def State.fenceTooFar (s : State) (ty ix : Nat) : Bool :=
  match ty with
  | 1 => match chan? (ix / 4) with
    | some c => decide ((s.legsOk c).length ≤ 2)
    | none => false
  | 7 => s.unitFenced 7 (1 - ix)
  | 8 => s.unitFenced 8 (1 - ix)
  | _ => false

/-- REPAIR on a unit word: its status, and the state after. `pass` is the outcome of a RETEST. -/
def State.repair (s : State) (w : Word) (op : Nat) (pass : Bool) : Nat × State :=
  let ty := bitsOf w 31 24
  let ix := bitsOf w 23 0
  let e := s.entry? ty ix
  let fenced := s.unitFenced ty ix
  let origin := match e with
    | some e => e.origin
    | none => 1
  let busy := match unitCh ty ix with
    | some c => s.is ⟨R.MD_RES c, 1, 0⟩
    | none => false
  if unitCount ty ≤ ix || 2 < op || fenced == (op == 2) then (stBadArg, s)
  else if (e.isSome && fenced && origin == 0) || busy || (op == 2 && s.fenceTooFar ty ix) || (op == 1 && origin != 2) then
    (stDenied, s)
  else if op = 2 then (stOk, (s.fenceEntry ty ix 3 0).fenceUnit ty ix)
  else if op = 0 && !pass then (stFenced, s)
  else (stOk, (s.restoreUnit ty ix).restoreEntry ty ix)

end Sys2Proof.Machine
end

