-- ==== Sys2Proof/Machine/Mss.lean ====
section
/-!
DEFINITION. Management, thermal control, the watchdog and the log (chapter 18, R459 to R484).
-/

namespace Sys2Proof.Machine

/-! ### Cores and supervisors (R460 to R462) -/

/-- R460: a fault of the dispatching core; condition CORE of its source is recorded. -/
def execMssCoreFault (s : State) : Out :=
  .next (
    let k : Fin 2 := if s.core = 0 then 0 else 1
    (s.assertL (338 + k) 1).coreFault k)

/-- R461: an MSS-only reset of R460. -/
def execMssReset (s : State) : Out := .next (s.countedReset 7)

/-- R462: quad supervisor q restarts. -/
def execSupervisorReset (q : Fin 6) (s : State) : Out := .next (s.supReset q 9)

/-! ### Housekeeping and the cross-check (R463, R465) -/

/-- The sensors of a sector (R463). -/
def sensorCount (q : Nat) : Nat := if q < 6 then 24 else 22

/-- The group ring of a sensor: its first number and size (R465). -/
def sensorGroup (q n : Nat) : Nat × Nat :=
  if q < 6 then (4 * (n / 4), 4)
  else if n < 6 then (0, 6)
  else if n < 14 then (6, 8)
  else (14, 8)

/-- The two neighbours of a sensor. -/
def neighbours (q n : Nat) : Nat × Nat :=
  let g := sensorGroup q n
  (g.1 + (n - g.1 + g.2 - 1) % g.2, g.1 + (n - g.1 + 1) % g.2)

/-- The sensors that have a model: the legs. -/
def hasModel (q n : Nat) : Bool := if q < 6 then decide (n < 16) else decide (n < 6)

/-- The register of a sensor. -/
def tempReg (q n : Nat) : Nat := if q < 6 then R.QD_TEMP q n else R.HUB_TEMP n

/-- The junction of a sensor that has a model. -/
def Sector.junc (x : Sector) (n : Nat) : Junction := x.juncs.getD n {}

/-- A temperature of the model in 0.1 °C. -/
def tenths (t : Rat) : Int := (t * 10).floor

/-- A sensor's own reading in 0.1 °C. -/
def State.reading (s : State) (q n : Nat) : Int := s.geti ⟨tempReg q n, 15, 0⟩

/-- A reading is there and the sensor is not substituted. -/
def State.sensorOk (s : State) (q : Fin 7) (n : Nat) : Bool := s.is ⟨tempReg q n, 31, 31⟩ && !(s.sectors[q]).subs.contains n

/-- What stands for a substituted sensor: the model, or the mean of its neighbours (R465). -/
def State.substitute (s : State) (q : Fin 7) (n : Nat) : Int :=
  if hasModel q n then tenths ((s.sectors[q]).junc n).tj
  else
    let k := neighbours q n
    tdiv (s.reading q k.1 + s.reading q k.2) 2

/-- The temperature of a sensor in use. -/
def State.sensorT (s : State) (q : Fin 7) (n : Nat) : Int := if s.sensorOk q n then s.reading q n else s.substitute q n

/-- Does a sensor fail the cross-check in this round (R465)? -/
def State.sensorBad (s : State) (q : Fin 7) (n : Nat) : Bool :=
  let k := neighbours q n
  let t := s.reading q n
  let off := fun (u : Int) => decide (80 < (t - u).natAbs)
  (!s.sensorOk q k.1 || off (s.reading q k.1)) && (!s.sensorOk q k.2 || off (s.reading q k.2)) &&
    (!hasModel q n || off (tenths ((s.sectors[q]).junc n).tj)) && decide ((s.sensorT q k.1 - s.sensorT q k.2).natAbs ≤ 30)

/-- A sensor is declared failed (R465). -/
def State.sensorFail (s : State) (q : Fin 7) (n : Nat) : State :=
  let s1 := s.modSec q fun x => { x with subs := x.subs ++ [n], bad := x.bad.set n 0, good := x.good.set n 0 }
  let s2 := (((s1.set ⟨tempReg q n, 30, 30⟩ 1).set (F.THM_STAT.SUBST q) 1).set ⟨R.THM_LATCH, q, q⟩ 1).inc F.THM_SUB.COUNT
  ((s2.set F.THM_SUB.SECTOR q).set F.THM_SUB.SENSOR n).assertL (355 + q) 5 n

/-- The cross-check of the sensors of a sector after a round. -/
def State.crossCheck (s : State) (q : Fin 7) : State :=
  let l := List.range (sensorCount q)
  let subs := (s.sectors[q]).subs
  let good := fun (n : Nat) => subs.contains n && decide ((s.reading q n - s.substitute q n).natAbs ≤ 30)
  let bad := fun (n : Nat) => !subs.contains n && s.sensorBad q n
  let s1 := s.modSec q fun x => { x with
    bad := l.map fun n => if bad n then x.bad.getD n 0 + 1 else 0
    good := l.map fun n => if good n then x.good.getD n 0 + 1 else 0 }
  l.foldl (fun s n => if 10 ≤ (s.sectors[q]).bad.getD n 0 then s.sensorFail q n else s) s1

/-- The readings of a round go to the registers (R530); those of the THERM inputs clamped to −40 to 125 °C (R540). -/
def State.putTemps (s : State) (q : Fin 7) (r : HkRound) : State :=
  let l := (List.range (sensorCount q)).zip r.temps
  let s1 := l.foldl (fun s x => (s.set ⟨tempReg q x.1, 31, 31⟩ 1).seti ⟨tempReg q x.1, 15, 0⟩ x.2) s
  let th := (List.range (if q.val < 6 then 4 else 1)).zip r.therms
  th.foldl (fun s x =>
    let a := if q.val < 6 then R.QD_THERM q x.1 else R.HUB_THERM24
    let t : Int := if x.2.2.1 || x.2.2.2 then 0 else clampI (-400) 1250 x.2.1
    (((s.set ⟨a, 31, 31⟩ 1).setb ⟨a, 30, 30⟩ x.2.2.1).setb ⟨a, 29, 29⟩ x.2.2.2).seti ⟨a, 15, 0⟩ t) s1

/-- Measurement n of the house die. -/
def State.houseM (s : State) (n : Nat) : Int := i64 (s.rd64 (R.HSE_M_LO n) (R.HSE_M_HI n))

/-- A voltage or a current of the house die takes its value; the powers and the accumulators follow from them. -/
def State.putHouse (s : State) (x : Fin 16 × Int) : State :=
  let n := x.1.val
  if [2, 3, 6, 7, 10, 11, 12, 14].contains n then s else s.wr64 (R.HSE_M_LO n) (R.HSE_M_HI n) (satS 64 x.2)

/-- The 4,000 samples of 250 ns of a round (R195, R463), which the model takes at the round's readings (DESIGN CHOICE, log
entry 45), go into accumulator n, with its residue in place k: the product of voltage v and current i, or the current alone. -/
def State.houseAcc (s : State) (n k : Nat) (v : Option Int) (i : Int) : State :=
  let ia := roundDiv i 1000
  let d := match v with
    | some v => (4000 * (roundDiv v 1000 * ia), (4000000000000000 : Int))
    | none => (4000 * ia, 4000000)
  let r := accStep (s.house.res.getD k 0) (s.houseM n) d.1 d.2
  State.wr64 { s with house := { s.house with res := s.house.res.set k r.1 } } (R.HSE_M_LO n) (R.HSE_M_HI n) r.2

/-- The power of a terminal of the house die from its voltage and current, and its energy (R195): P stands at n. -/
def State.housePort (s : State) (n k : Nat) : State :=
  let v := s.houseM (n - 2)
  let i := s.houseM (n - 1)
  (s.wr64 (R.HSE_M_LO n) (R.HSE_M_HI n) (satS 64 (roundDiv (v * i) 1000000000000000))).houseAcc (n + 1) k (some v) i

/-- The powers and the accumulators of a round: the feeds, PACK, and HOUSE, whose voltage is that of BUS (R195). -/
def State.houseSums (s : State) : State :=
  let s1 := ((s.housePort 2 0).housePort 6 1).housePort 10 2
  (s1.houseAcc 12 3 none (s1.houseM 9)).houseAcc 14 4 (some (s1.houseM 15)) (s1.houseM 13)

/-- A record of the supervisor: forwarded, or held in the ring of 256 while its link is DOWN (R462). -/
def State.supRecord (s : State) (q : Fin 7) (rec : List Word) : State :=
  if q.val = 6 then s
  else if !s.linkDown q then s.supLog q false rec
  else
    let full := decide (256 ≤ (s.sectors[q]).ring.length)
    let s1 := s.modSec q fun x => { x with ring := (if full then x.ring.drop 1 else x.ring) ++ [rec] }
    let s2 := s1.set (F.SUP_STAT.FILL q) (min 255 (s1.sectors[q]).ring.length)
    if full then s2.inc (F.SUP_STAT.LOST q) else s2

/-- R463: a round of one sector; the hub's ends the round of the device. A supervisor that is off samples nothing. -/
def execHousekeepingRound (q : Fin 7) (r : HkRound) (s : State) : Out :=
  .next (
    if q.val < 6 && (!s.domOn (96 + q) || decide (2 ≤ s.get (F.SUP_STAT.STATE q))) then s
    else
      let s0 := s.supBack q
      let s1 := (s0.putTemps q r).crossCheck q
      let s2 := if r.late then s1.inc F.HK_STAT.OVERRUN else s1
      let s3 := match r.record with
        | some l => s2.supRecord q l
        | none => s2
      if q.val = 6 then (r.house.foldl State.putHouse s3).houseSums.incWrap F.HK_STAT.ROUNDS else s3)

/-- R465: a substituted sensor has agreed with its substitute for 1 s. -/
def execSensorRestore (sector : Fin 7) (n : Fin 24) (s : State) : Out :=
  .next (
    let x := s.sectors[sector]
    if !x.subs.contains n.val || x.good.getD n 0 < 1000 then s
    else
      let l := x.subs.filter (· != n.val)
      let s1 := (s.modSec sector fun x => { x with subs := l }).set ⟨tempReg sector n, 30, 30⟩ 0
      (s1.setb (F.THM_STAT.SUBST sector) (!l.isEmpty)).deassertD (355 + sector) 5 n)

/-! ### The model and the levels (R464 to R472) -/

/-- T_lid of a sector in °C: the mean of its quad-die sensors; of the house-die sensors in the hub sector; 25 °C before
the first round. -/
def State.tLid (s : State) (q : Fin 7) : Rat :=
  let l := if q.val < 6 then [20, 21, 22, 23] else [14, 15]
  if l.any fun n => !s.is ⟨tempReg q n, 31, 31⟩ then 25
  else ((l.map fun n => s.sensorT q n).foldl (· + ·) 0 : Int) / (10 * l.length : Nat)

/-- The switching frequency of a leg in Hz, from the period in force (R86). -/
def State.legFsw (s : State) (q n : Nat) : Rat :=
  if q < 6 then 8000000000 / (max 1 (s.ch (Fin.ofNat 24 (4 * q + n / 4))).period : Nat) else Config.houseFsw

/-- The interval k, k + 1 of an axis of 8 rising points in which x lies, and x's place in it, 0 to 1. Outside the axis the
nearest end stands (DESIGN CHOICE, log entry 44). -/
def axisPlace (axis : Nat → Rat) (x : Rat) : Nat × Rat :=
  let k := ([1, 2, 3, 4, 5, 6].filter fun k => decide (axis k ≤ x)).length
  let t := (x - axis k) / (axis (k + 1) - axis k)
  (k, max 0 (min 1 t))

/-- The bilinear value of an 8 x 8 table (R464). -/
def bilinear (av ai : Nat → Rat) (e : Nat → Nat → Rat) (v i : Rat) : Rat :=
  let (k, t) := axisPlace av v
  let (l, u) := axisPlace ai i
  (1 - t) * ((1 - u) * e k l + u * e k (l + 1)) + t * ((1 - u) * e (k + 1) l + u * e (k + 1) (l + 1))

/-- The switching loss of a leg in J at a voltage in mV and a current in mA. -/
def legLoss (q n : Nat) (v i : Int) : Rat := bilinear (Config.eSwV q n) (Config.eSwI q n) (Config.eSwE q n) v i

/-- One step of a leg's model (R464): current in mA, voltage in mV. -/
def State.modelStep (s : State) (q : Fin 7) (n : Nat) (j : Junction) (i v : Int) : Junction :=
  let amps : Rat := i / 1000
  let rds := Config.rds25 q n * (1 + Config.alpha q n * (j.tj - 25))
  let p := amps * amps * rds + legLoss q n v i * s.legFsw q n
  let f := fun (th : Rat) (k : Nat) => th + (p * Config.thR q n k - th) * (1 / 100000) / Config.thTau q n k
  let a := f j.th1 1
  let b := f j.th2 2
  let c := f j.th3 3
  { j with th1 := a, th2 := b, th3 := c, tj := s.tLid q + a + b + c }

/-- The end of a 100 µs window (R467). -/
def Junction.window (j : Junction) : Junction :=
  let r := (j.tj - j.w0) * 10
  { j with rate := r, w0 := j.tj, hot := if 5 < r then j.hot + 1 else 0, calm := if r < 2 then j.calm + 1 else 0 }

/-- The temperature of a sensor's junction in °C: the larger of the model and the valid reading (R466). -/
def State.juncT (s : State) (q : Fin 7) (n : Nat) : Rat :=
  let m := ((s.sectors[q]).junc n).tj
  let r : Rat := (s.sensorT q n : Int) / 10
  if hasModel q n then (if s.sensorOk q n && m < r then r else m)
  else if s.is ⟨tempReg q n, 31, 31⟩ then r else 25

/-- The hottest junction of a sector and its temperature; the lowest sensor number of equals. -/
def State.hottest (s : State) (q : Fin 7) : Nat × Rat :=
  (List.range (sensorCount q)).foldl (fun b n => let t := s.juncT q n; if b.2 < t then (n, t) else b) (0, s.juncT q 0)

/-- The rate of the hottest junction in °C/ms. -/
def State.rateOf (s : State) (q : Fin 7) (n : Nat) : Rat := ((s.sectors[q]).junc n).rate

/-- The level that a temperature enters (Table 18-1). -/
def levelAt (t : Rat) (rate : Bool) : Nat := if 150 ≤ t then 4 else if 140 ≤ t then 3 else if 125 ≤ t || rate then 2 else if 115 ≤ t then 1 else 0

/-- The decision at the entry to STOP (R469): hard? -/
def hardStop (t rate : Rat) : Bool := (150 - t) / max rate (1 / 10) < 5 / 2

/-- The chargers of a sector; the PACK charger for the hub. -/
def sectorChargers (q : Nat) : List (Fin 25) := (List.finRange 25).filter fun k => k.val / 4 == q

/-- A sector is throttled or no longer (R468). -/
def State.setThrottle (s : State) (q : Nat) (on : Bool) : State :=
  let s1 := (sectorChargers q).foldl (fun s k => s.modCg k fun g => { g with throttle := on }) s
  if q = 6 then (List.range 4).foldl (fun s n => s.setb (F.SEQ_CL_STAT.THROTTLE n) on) s1 else s1

/-- A log record THERMAL (Table 18-4). -/
def State.thermLog (s : State) (q level : Nat) (hard : Bool) : State :=
  s.log 0x05 [BitVec.ofNat 32 q, BitVec.ofNat 32 level, wordOf (s.geti (F.THM_STAT.TMAX q)),
    BitVec.ofNat 32 (s.get (F.THM_STAT.HOT q)), BitVec.ofNat 32 (b2n hard)]

/-- What a hub stop does beside its channels (R472, R475): charging stops, HARD also ends discharging and switches off
domains 90 to 95, and a NOR erase is abandoned. -/
def State.hubStop (s : State) (hard : Bool) : State :=
  let s1 := (s.norAbandon).seti (F.CG_IEFF.I_CHG 24) 0
  if hard then [90, 91, 92, 93, 94, 95].foldl (fun s d => s.domOff d) s1.packStop else s1

/-- The sector enters a level from a lower one (R466, R468 to R472). -/
def State.enterLevel (s : State) (q : Fin 7) (n : Nat) : State :=
  let old := s.get (F.THM_STAT.LEVEL q)
  let (sensor, t) := s.hottest q
  let hard := decide (4 ≤ n) || hardStop t (s.rateOf q sensor)
  let s1 := s.set (F.THM_STAT.LEVEL q) n
  let new := fun (k : Nat) => decide (old < k ∧ k ≤ n)
  let s2 := [1, 2, 3, 4].foldl (fun s k => if new k then
    s.assertL (355 + q) k sensor (if k = 3 && hard then 1 else 0) else s) s1
  let latch := fun (s : State) (k bit : Nat) => if new k then s.set ⟨R.THM_LATCH, bit + q, bit + q⟩ 1 else s
  let s3 := latch (latch (latch s2 2 8) 3 16) 4 24
  let s4 := if new 2 then s3.setThrottle q true else s3
  let s5 := if new 3 || new 4 then
      let t := s4.stopChs (sectorChs q) hard
      if q.val = 6 then t.hubStop (decide (4 ≤ n)) else t
    else s4
  s5.thermLog q n (hard && decide (3 ≤ n))

/-- Would the rate bring the junction to 150 °C before the ramp of an orderly stop ends (R471)? -/
def State.rampTooLong (s : State) (q : Fin 7) : Bool :=
  let (n, t) := s.hottest q
  (sectorChs q).any fun c =>
    let h := s.ch c
    let v := (tdiv (i64 (s.rd64 (R.MS_V_LO c) (R.MS_V_HI c))) 10000).toNat
    let left : Rat := ((v - 100000 : Nat) : Rat) / (max 1 h.stopSlew : Nat) / 4000
    h.disch && h.stopSlew != 0 && decide (150 ≤ t + s.rateOf q n * left)

/-- The counts of Table 18-1's holds, in steps of 10 µs. -/
def State.holdCounts (s : State) (q : Fin 7) (t : Rat) : State :=
  let res : Rat := (s.get F.THM_CFG.RESUME : Nat)
  s.modSec q fun x => { x with
    c110 := if t < 110 then x.c110 + 1 else 0
    c120 := if t < 120 then x.c120 + 1 else 0
    cRes := if t < res then x.cRes + 1 else 0 }

/-- R464: 10 µs of a sector's thermal unit: the model of every leg, the reading as the estimate of every other sensor, the
windows of R467 over both, the hottest junction and the level. -/
def execThermalModelStep (sector : Fin 7) (legs : List (Int × Int)) (s : State) : Out :=
  .next (
    let q := sector
    let js := (List.range (sensorCount q)).map fun n =>
      let l := legs.getD n (0, 0)
      let j := (s.sectors[q]).junc n
      if hasModel q n then s.modelStep q n j l.1 l.2 else { j with tj := s.juncT q n }
    let full := decide (9 ≤ (s.sectors[q]).n)
    let s1 := s.modSec q fun x => { x with
      juncs := if full then js.map Junction.window else js
      n := if full then 0 else x.n + 1 }
    let ws := (s1.sectors[q]).juncs
    let s2 :=
      if ws.any fun j => decide (10 ≤ j.hot) then s1.set (F.THM_STAT.RATE q) 1
      else if ws.all fun j => decide (10 ≤ j.calm) then s1.set (F.THM_STAT.RATE q) 0
      else s1
    let (n, t) := s2.hottest q
    let s3 := ((s2.set (F.THM_STAT.HOT q) n).seti (F.THM_STAT.TMAX q) (satS 16 (tenths t))).holdCounts q t
    let level := levelAt t (s3.is (F.THM_STAT.RATE q))
    if s3.get (F.THM_STAT.LEVEL q) < level then s3.enterLevel q level
    else if s3.get (F.THM_STAT.LEVEL q) = 3 && s3.rampTooLong q then s3.stopChs (sectorChs q) true
    else s3)

/-- The level that still stands (Table 18-1). -/
def State.levelLeft (s : State) (q : Fin 7) : Nat :=
  let x := s.sectors[q]
  let old := s.get (F.THM_STAT.LEVEL q)
  if 3 ≤ old && x.cRes < 10000 then old
  else if 2 ≤ old && (x.c120 < 1000 || s.is (F.THM_STAT.RATE q)) then 2
  else if 1 ≤ old && x.c110 < 1000 then 1
  else 0

/-- R466, R473: the holds of the level have expired. A hub HARD level that is left is followed by a device reset
(R472). -/
def execThermalLevelRelease (sector : Fin 7) (s : State) : Out :=
  .next (
    let q := sector
    let old := s.get (F.THM_STAT.LEVEL q)
    let n := s.levelLeft q
    if old ≤ n then s
    else
      let s1 := s.set (F.THM_STAT.LEVEL q) n
      let s2 := [1, 2, 3, 4].foldl (fun s k => if n < k then s.deassertL (355 + q) k else s) s1
      let s3 := if n < 2 then s2.setThrottle q false else s2
      let s4 := (if 3 ≤ old then (sectorChs q).foldl (fun s c => s.reresolve c) s3 else s3).thermLog q n false
      if q.val = 6 && old = 4 then s4.deviceReset 3 5 else s4)

/-- Has a thread that the last pause of the hub held, and that is READY and can run, not issued since (R289)? -/
def State.issueOwed (s : State) : Bool :=
  (List.finRange 64).any fun t => s.threads[t].owed && s.thrState t == thrReady && !s.clusterOff (t / 16)

/-- R468: a pause of PAUSE_LEN in a throttled sector begins; it ends with the time (State.idle). -/
def execThrottlePause (sector : Fin 7) (s : State) : Out :=
  .next (
    let q := sector
    let len := s.get F.THM_CFG.PAUSE_LEN
    if s.get (F.THM_STAT.LEVEL q) < 2 || s.pausedIn q || (q.val == 6 && s.issueOwed) then s
    else
      let s1 : State := { s with paused := s.paused ++ [(q.val, len * 1000)] }
      if q.val ≠ 6 then s1
      else (List.range 4).foldl (fun s n => (s.inc (F.SEQ_CL_PAUSE.PAUSES n)).inc (F.SEQ_CL_PAUSE.TIME n) len) s1)

/-! ### Clock monitor and watchdog (R476 to R480) -/

/-- R476: the reaction is a hard stop of every sector. -/
def execMainClkFail (s : State) : Out := .next ((s.assertL 341 1).stopAll true)

/-- The main clock is back within 5 %: condition MAIN_CLK ends, and the stop with it (R437, R473). -/
def execMainClkReturn (s : State) : Out := .next ((s.deassertL 341 1).stopCheck)

/-- An expiry (R480): the count, the log, WDT_RESET of the dispatching core, and the MSS-only reset. -/
def State.wdtExpire (s : State) : State :=
  let s1 := (s.inc F.WDT_STAT.COUNT).set F.WDT_STAT.REMAIN (s.get F.WDT_CTRL.TIMEOUT)
  let s2 := (s1.log 0x08 [BitVec.ofNat 32 (s1.get F.WDT_STAT.COUNT), BitVec.ofNat 32 s.core]).raise (338 + s.core) 3
  State.countedReset { s2 with wdt := { s2.wdt with sub := 0 } } 6

/-- Does the watchdog count (R477, R479)? -/
def State.wdtRuns (s : State) : Bool := s.is F.WDT_CTRL.RUN && !s.is F.WDT_STAT.SUSP

/-- The watchdog starts or restarts its timeout. -/
def State.wdtLoad (s : State) : State :=
  State.set { s with wdt := { s.wdt with sub := 0 } } F.WDT_STAT.REMAIN (s.get F.WDT_CTRL.TIMEOUT)

/-- R478: only an MSS core kicks; any other value expires the watchdog. -/
def State.wdtKick (s : State) (rq : Requester) (w : Word) : State :=
  match rq with
  | .mss _ =>
    if !s.is F.WDT_CTRL.RUN then s
    else if bitsOf w 15 0 = 0x5AC3 then s.wdtLoad
    else s.wdtExpire
  | _ => s

/-- R478. -/
def execWdtKick (rq : Requester) (w : Word) (s : State) : Out := .next (s.wdtKick rq w)

/-- The watchdog starts under SOFTWARE (R477). -/
def State.wdtStart (s : State) : State :=
  if s.is F.WDT_CTRL.MODE && !s.is F.WDT_CTRL.RUN then (s.set F.WDT_CTRL.RUN 1).wdtLoad else s

/-- R477. -/
def execWdtStart (rq : Requester) (s : State) : Out := .next (if canWrite rq R.WDT_CTRL then s.wdtStart else s)

/-- R477: 5 s after the release of reset. -/
def execWdtAutostart (s : State) : Out := .next s.wdtStart

/-- R480. -/
def execCntClr (rq : Requester) (s : State) : Out :=
  .next (if canWrite rq R.WDT_CTRL then s.set F.WDT_STAT.COUNT 0 else s)

/-- R480. -/
def execWdtExpiry (s : State) : Out := .next (if s.wdtRuns then s.wdtExpire else s)

/-- R479. -/
def execWdtSuspendEnd (s : State) : Out := .next (s.set F.WDT_STAT.SUSP 0)

/-! ### The log (R475, R479, R481 to R483) -/

/-- LOG_WEAR follows the erase counts. -/
def State.updWear (s : State) : State :=
  let l := s.nor.wear
  (s.set F.LOG_WEAR.MAX (satU 16 (l.foldl max 0))).set F.LOG_WEAR.MIN (satU 16 (l.foldl min (l.headD 0)))

/-- A sector erase ends. -/
def State.norErased (s : State) (k : Nat) : State :=
  State.updWear { s with nor := { s.nor with wear := s.nor.wear.set k (satU 32 (s.nor.wear.getD k 0 + 1)) } }

/-- A sector erase begins (R479, R482): the watchdog is suspended. -/
def State.norErase (s : State) (k : Nat) : State :=
  let s1 : State := { s with
    nor := { s.nor with erase := some k, age := 0 }
    logNor := s.logNor.filter fun r => r.seq % 262144 / 4096 != k }
  if s.is F.WDT_CTRL.RUN then s1.set F.WDT_STAT.SUSP 1 else s1

/-- R482: four records of the buffer go to a page; a page that fails loses them. After an MSS-only reset the MSS first
waits for an erase in progress (R475). The erase ahead begins when the write
position enters the last quarter of its sector. -/
def execLogPageWrite (ok : Bool) (s : State) : Out :=
  .next (
    if s.logBuf.length < 4 || s.mssDown || s.nor.wait then s
    else
      let page := s.logBuf.take 4
      let s1 : State := { s with logBuf := s.logBuf.drop 4 }
      let s2 : State := if ok then { s1 with logNor := s1.logNor ++ page } else s1.raise 362 1
      match page.find? fun r => r.seq % 4096 == 3072 with
      | some r => if s.nor.erase.isNone then s2.norErase ((r.seq % 262144 / 4096 + 1) % 64) else s2
      | none => s2)

/-- A sector erase completes; the suspension ends with it (R479). -/
def execNorEraseDone (s : State) : Out :=
  .next (match s.nor.erase with
    | none => s
    | some k => (State.norErased { s with nor := { s.nor with erase := none, age := 0, wait := false } } k).set F.WDT_STAT.SUSP 0)

/-- The body of a TELEMETRY record after DTIME and EXT (Table 18-5). -/
def State.telemetry (s : State) : List Word :=
  let temp := fun (q : Nat) => trunc 8 (satS 8 (tdiv (s.geti (F.THM_STAT.TMAX q)) 10))
  let thr := bitMap 7 fun q => decide (2 ≤ s.get (F.THM_STAT.LEVEL q))
  let bytes := fun (l : List Nat) => BitVec.ofNat 32 (bytesNat (l.map (BitVec.ofNat 8)))
  let m := fun (n : Nat) => (i64 (s.rd64 (R.HSE_M_LO n) (R.HSE_M_HI n)))
  let src := s.get F.HSE_SEL_STAT.SRC
  let power := if src = 1 then m 2 else if src = 2 then m 6 else if src = 3 then -(m 10) else 0
  let chs := fun (f : Nat → Bool) => BitVec.ofNat 32 (bitMap 24 f)
  [bytes [temp 0, temp 1, temp 2, temp 3], bytes [temp 4, temp 5, temp 6, thr],
   BitVec.ofNat 32 (trunc 16 (tdiv (m 15) 10000000) * 2 ^ 16 + src * 2 ^ 13),
   BitVec.ofNat 32 (s.get F.LG_POOL.CREDITS * 2 ^ 16 + s.get F.LG_FREE.CREDITS), BitVec.ofNat 32 (trunc 32 (tdiv power 1000000)),
   s.rd R.PK_SOC, s.rd R.FLT_SEQ, chs fun c => s.is ⟨R.MD_RES c, 1, 0⟩, chs fun c => s.is (F.PS_STAT.CLAMP c),
   BitVec.ofNat 32 (s.get F.WDT_STAT.COUNT * 2 ^ 24)]

/-- R483. -/
def execTelemetrySnapshot (s : State) : Out :=
  .next (if s.is F.LOG_CFG.TELEM && !s.mssDown then s.log 0x02 s.telemetry else s)

end Sys2Proof.Machine
end

