-- ==== Sys2Proof/Machine/Boot.lean ====
section
/-!
DEFINITION. Power-up, boot and the reset requests (chapter 19, R488 to R500).
-/

namespace Sys2Proof.Machine

/-- The step in progress. -/
def State.bootStep (s : State) : Nat := s.get F.BOOT_STAT.STEP

/-- R488: everything ends, and the part is held in reset. -/
def execPowerOnReset (s : State) : Out :=
  .next (let w := s.wipe 1 1; { w with boot := { w.boot with por := true } })

/-- PK_SOC at power-on, from V_PACK in mV (R335). -/
def State.powerOnSoc (s : State) (v : Nat) : State :=
  let lo : Int := s.get (F.CG_V_PRE.VALUE 24)
  let hi : Int := s.get (F.CG_V_CV.VALUE 24)
  s.set F.PK_SOC.SOC (clampI 0 1000000 (((v : Int) * 100 - lo) * 1000000 / max 1 (hi - lo))).toNat

/-- R488: released 1 ms after the highest source has reached 20 V; voltages in mV. -/
def execPowerOnRelease (vPack vFeedA vFeedB : Nat) (s : State) : Out :=
  .next (
    if 20000 ≤ max vPack (max vFeedA vFeedB) && s.boot.por then
      State.powerOnSoc { s with boot := { s.boot with por := false } } vPack
    else s)

/-- R489: every channel stops hard, and the part is held while the pin is low. Power-on reset stands. -/
def execResetNAssert (s : State) : Out :=
  .next (
    let w := if s.boot.por then s else s.deviceReset 2 2
    { w with boot := { w.boot with pin := true } })

/-- Step n begins (R492); under HARDWARE the ROM kicks the watchdog. -/
def State.bootAt (s : State) (n : Nat) : State :=
  let s1 := s.set F.BOOT_STAT.STEP n
  if s1.is F.WDT_CTRL.RUN && !s1.is F.WDT_CTRL.MODE then s1.wdtLoad else s1

/-- Instruction `ir` is given to the TAP (R509): after the provisioning lock EXTEST, CLAMP and HIGHZ act only while
RESET_N is low, and DBG not at all; every other opcode acts as BYPASS. Leaving DBG clears its shadows (Table 21-2). -/
def State.jtagSet (s : State) (ir : Nat) : State :=
  let pins := ir == 3 || ir == 4 || ir == 5
  let ok := ir == 1 || ir == 2 || (pins && (!s.boot.prov || s.boot.pin)) || (ir == 0x20 && !s.boot.prov)
  let new := if ok then ir else 0xFF
  let s1 := if s.get F.LT_JTAG.IR = 0x20 && new ≠ 0x20 then s.clearShadows .dbg else s
  (s1.set F.LT_JTAG.IR new).setb F.LT_JTAG.ACTIVE (ok && (pins || ir == 0x20))

/-- R489, R490: RESET_N is high and power-on reset is over. The straps are sampled, the MSS starts, and the watchdog runs
under HARDWARE (R477). -/
def execResetRelease (st : Straps) (s : State) : Out :=
  .next (
    if s.boot.por || s.bootStep ≠ 0 then s
    else
      let s1 := State.jtagSet { s with boot := { s.boot with pin := false } } (s.get F.LT_JTAG.IR)
      let s2 := ((s1.setb F.BOOT_STRAP.NOPATCH st.b13).setb F.BOOT_STRAP.B14 st.b14).setb F.BOOT_STRAP.B15 st.b15
      let s3 := (s2.set F.TW_STAT.ADDR (0x58 + 2 * b2n st.b15 + b2n st.b14)).takeRoles.takePatch
      let s4 := if s.boot.wdtSw then s3 else s3.set F.WDT_CTRL.RUN 1
      s4.bootAt 1)

/-- Step 2: what the fuses hold goes to its registers (R491, Table 19-2). -/
def State.bootFuses (s : State) (f : BootFind) : State :=
  let s1 := (s.wr64 R.GLB_SERIAL_LO R.GLB_SERIAL_HI Config.serial).setb F.WDT_CTRL.MODE s.boot.wdtSw
  let s2 := [0, 1].foldl (fun (s : State) p => s.wr64 (R.HST_MAC_LO p) (R.HST_MAC_HI p) (Config.mac p % 2 ^ 48 : Nat)) s1
  let s3 : State := { s2 with boot := { s2.boot with keyDoubt := f.keyBad } }
  if f.fuseErr then (s3.set F.BOOT_STAT.FUSE_ERR 1).raise 363 1 else s3

/-- Step 3: each sector marked abandoned is erased again (R475, R492). -/
def State.bootErase (s : State) : State :=
  let l := s.nor.marked
  let s1 := l.foldl (fun s k => (s.log 0x0A [BitVec.ofNat 32 k, 1]).norErased k) { s with nor := { s.nor with marked := [] } }
  if l.isEmpty then s1 else s1.set F.BOOT_STAT.ERASE_REDONE 1

/-- A bank fails its test beyond its spares (R493): its summary entry counts rows and columns that the spec leaves open. -/
def State.bankFence (s : State) (b : Nat) : State :=
  let (d, s1) := s.fresh
  ((s1.set (domStat (82 + b)) 3).set ⟨R.BOOT_STAT, 16 + b, 16 + b⟩ 1).fenceEntry 11 b 1 (d % 2 ^ 28)

/-- Step 4: the march test. A failure of bank 0, 1 or 2 ends boot (R493). -/
def State.bootBist (s : State) (f : BootFind) : State :=
  let bad := (List.range 8).filter fun b => 3 ≤ b && f.banks.any fun x => x.val == b
  let s1 := bad.foldl State.bankFence s
  ((List.range 8).filter fun b => !s1.domFenced (82 + b)).foldl (fun s b => s.set (domStat (82 + b)) 1) s1

/-- The start of step 6: clusters, SerDes, supervisors and the house stage power up; the hosts' links are down until
they link up (R409); the discharge begins where the first inrush is over (R494). -/
def State.bootUp (s : State) : State :=
  let s1 := (List.range' 90 12 ++ [80, 81]).foldl State.startDom s
  let s2 := (List.range 6).foldl (fun s q => s.set (F.SUP_STAT.FWVER q) (Config.fwVer q)) s1
  let s3 := (s2.hostLink 0 false).hostLink 1 false
  if s3.house.started then s3.bootDrain else s3

/-- Does step 6 still wait: for a supervisor, in reset or not yet on (Table 19-7), for another domain, or for the discharge
of a channel? -/
def State.bootBusy (s : State) : Bool :=
  (List.range' 90 12).any (fun d => s.get (domStat d) == 2) || s.boot.drain ||
    (List.range 6).any (fun q => s.get (F.SUP_STAT.STATE q) == 1) ||
    allCh.any fun c => (s.ch c).drain && !s.domFenced (3 * c)

/-- Step 7: units without a valid calibration copy are fenced (R493). -/
def State.bootCal (s : State) (f : BootFind) : State :=
  let s1 := f.convs.foldl (fun s x => s.convFence x.1 x.2) s
  if f.convs.any fun x => (s1.ch x.1).fenced then s1.set F.BOOT_STAT.CAL_BAD 1 else s1

/-- The actions at READY, in order (R497). The chain ports leave TRAIN with their next PORT_UP. -/
def State.bootReady (s : State) (ms : Nat) : State :=
  let s1 := (s.set F.BOOT_STAT.STEP 8).set F.BOOT_STAT.TREADY (satU 16 ms)
  let s2 := (s1.set F.GLB_PINS.READY 1).set F.TW_STAT.READY 1
  let s3 := (s2.startSvcs [] ((List.range 4).zip s2.svcFields)).updSlow
  s3.alert 2

/-- R492, R493: the step in progress is done, and the next begins. Boot ends FAILED where the management set is
incomplete (R457). -/
def execBootStepDone (f : BootFind) (s : State) : Out :=
  .next (
    let n := s.bootStep
    if n = 0 || 8 ≤ n || (n = 6 && s.bootBusy) then s
    else if !f.ok || !s.mgtSet || (n = 4 && f.banks.any fun b => b.val < 3) then s.set F.BOOT_STAT.STEP 15
    else match n with
      | 2 => (s.bootFuses f).bootAt 3
      | 3 => s.bootErase.bootAt 4
      | 4 => (s.bootBist f).bootAt 5
      | 5 => s.bootUp.bootAt 6
      | 7 => ((s.bootCal f).bootAt 8).bootReady f.ms
      | _ => s.bootAt (n + 1))

/-- R494: 1 s after t0 no inrush has completed; the discharge runs later. -/
def execNobusTimeout (s : State) : Out :=
  .next (if s.bootStep = 6 && !s.house.started then (s.set F.BOOT_STAT.NOBUS 1).bootAt 7 else s)

/-- R496: a port that its partner has held in TRAIN for 2 s reads DOWN. -/
def execTrainTimeout (d : Fin 2) (s : State) : Out :=
  .next (if s.get (F.CHN_PORT.PSTATE d) = 1 then (s.set (F.CHN_PORT.PSTATE d) 0).assertL 335 1 d else s)

/-! ### RST_CTRL (R498, R500) -/

/-- A device reset that waits for the end of a stop takes place once every channel has stopped (R480, R500). -/
def State.resetDue (s : State) : State :=
  match s.boot.pendDev with
  | some cause => if s.stopped then s.deviceReset 3 cause else s
  | none => s

/-- Kind 3: an orderly stop of every channel, then the reset; a stop that runs completes first. -/
def State.rstDevice (s : State) : State :=
  let s1 := s.stopAll false
  State.resetDue { s1 with boot := { s1.boot with pendDev := some (s1.boot.pendDev.getD 3) } }

/-- A write of RST_CTRL with the key (R501); other kinds and targets out of range ignore it. -/
def State.rstWrite (s : State) (w : Word) : State :=
  let t := bitsOf w 4 0
  if bitsOf w 31 24 ≠ 0xC3 then s
  else match bitsOf w 23 20 with
    | 3 => s.rstDevice
    | 4 => s.mssReset 3
    | 5 => if h : t < 6 then s.supReset ⟨t, h⟩ 3 else s
    | 6 => match chan? t with
      | some c => s.resetCh c 3
      | none => s
    | _ => s

/-- R498. -/
def execRstDevice (rq : Requester) (s : State) : Out :=
  .next (if canWrite rq R.RST_CTRL then s.rstDevice else s)

/-- R498. -/
def execRstMss (rq : Requester) (s : State) : Out := .next (if canWrite rq R.RST_CTRL then s.mssReset 3 else s)

/-- R498. -/
def execRstSupervisor (rq : Requester) (q : Fin 6) (s : State) : Out :=
  .next (if canWrite rq R.RST_CTRL then s.supReset q 3 else s)

/-- R499. -/
def execRstChannel (rq : Requester) (c : Fin 24) (s : State) : Out :=
  .next (if canWrite rq R.RST_CTRL then s.resetCh c 3 else s)

end Sys2Proof.Machine
end

