-- ==== Sys2Proof/Machine/LinkTest.lean ====
section
/-!
DEFINITION. The STIPPLE engines and boundary scan (chapter 20, R502 to R511).
-/

namespace Sys2Proof.Machine

/-- Does Table 20-1 admit a mode for a group? -/
def ltAdmits (g mode : Nat) : Bool :=
  mode == 0 || (if g < 2 then [1, 2, 3, 4, 6] else [4, 5]).contains mode

/-- May the lane be released for a test (Table 20-3)? `force`: LT_CTRL.FORCE as written. -/
def State.ltPermit (s : State) (g i : Nat) (force : Bool) : Bool :=
  let chOff := fun (c : Nat) => bitsOf (s.rd (R.MD_RES c)) 1 0 == 0
  match g with
  | 0 => force || [0, 2, 5].contains (s.get F.CHN_STAT.RSTATE)
  | 1 => force || s.linkOf (1 - i) || s.sessions.all (·.isNone)
  | 2 =>
    let l := i / 17
    !(s.activeLanes l).contains (i % 17) || (!s.is (F.FAB_LINK_STAT.SPARE_USED l) && s.laneGood l 16)
  | _ =>
    if i < 120 then
      let q := i / 20
      let j := i % 20
      let c := 4 * q + (if j < 16 then j / 4 else j - 16)
      if j < 16 then (s.get (F.PS_STAT.LEG_FENCED c)).testBit (j % 4) || chOff c
      else chOff c && s.get (F.PS_STAT.BSW c) == 0
    else if i < 126 then
      s.house.legBad.contains (i - 120) || (s.src != srcPack && s.get (F.CG_IEFF.I_CHG 24) == 0)
    else if i = packLink then !s.is F.PK_DIS.HOLDUP_EN && !s.is F.PK_DIS.PK_EN
    else !(s.feed ((i - 127) / 2) == fdConnected || s.feed ((i - 127) / 2) == fdConnecting)

/-- What a test displaces (Table 20-3). A gate link is held OFF by its die while it is under test. -/
def State.ltDisplace (s : State) (g i : Nat) : State :=
  match g with
  | 0 => s.portFail ⟨i / 2 % 2, Nat.mod_lt _ (by decide)⟩ true
  | 1 => (s.set (F.HST_STAT.LINK i) 0).assertL (372 + i) 1 0 1
  | 2 =>
    let l := i / 17
    let k := i % 17
    if (s.activeLanes l).contains k && k != 16 then
      let s1 : State := { s with ltMoved := (l, k) :: s.ltMoved }
      s1.setLink l (s.get (F.FAB_LINK_STAT.STATE l)) ((s.activeLanes l).filter (· != k) ++ [16])
    else s
  | _ => match chan? (4 * (i / 20) + (i % 20 - 16)) with
    | some c => if i < 120 && 16 ≤ i % 20 then s.settle c else s
    | none => s

/-- The lane returns to service (R508). -/
def State.ltResume (s : State) (g i : Nat) : State :=
  match g with
  | 2 => s.ltReturn (i / 17) (i % 17)
  | 3 => match chan? (4 * (i / 20) + (i % 20 - 16)) with
    | some c => if i < 120 && 16 ≤ i % 20 then s.settle c else s
    | none => s
  | _ => s

/-- One bit of the generated stream is inverted (R506): a locked checker counts it. -/
def State.ltInject (s : State) (g i : Nat) : State :=
  if s.is (F.LT_STAT.LOCK g i) && [3, 4, 5].contains (s.get (F.LT_CTRL.MODE g i)) then s.inc (F.LT_ERR.ERR g i) else s

/-- A write of LT_CTRL (R503 to R508), with the status of LT_SET. A refused write leaves the register unchanged. -/
def State.ltCtrl (s : State) (g i : Nat) (w : Word) : Nat × State :=
  let mode := bitsOf w 31 29
  let run := s.ltRuns g i
  if ltCount g ≤ i || !ltAdmits g mode || 5 < bitsOf w 23 20 then (stBadArg, s)
  else if mode ≠ 0 && !run && !s.ltPermit g i (bitOf w 27) then (stDenied, s)
  else
    let old := s.rd (R.LT_CTRL g i)
    let s1 := s.wr (R.LT_CTRL g i) (w &&& 0xE8F80000)
    let s2 := if (old ^^^ w) &&& 0xE0F80000 = 0 then s1 else s1.set (F.LT_STAT.LOCK g i) 0
    let s3 :=
      if mode ≠ 0 && !run then (s2.set (F.LT_STAT.RUN g i) 1).ltDisplace g i
      else if mode = 0 && run then (s2.ltClose g i 1).ltResume g i
      else s2
    (stOk, if bitOf w 28 then s3.ltInject g i else s3)

/-- R507. -/
def execLtCtrlWrite (rq : Requester) (link : LtLink) (w : Word) (s : State) : Out :=
  .next (if canWrite rq (R.LT_CTRL link.group link.index) then (s.ltCtrl link.group link.index w).2 else s)

/-- R506. -/
def execErrorInject (link : LtLink) (s : State) : Out :=
  .next (if link.index.val < ltCount link.group then s.ltInject link.group link.index else s)

/-- Does a checker work under the engine's mode? -/
def State.ltChecks (s : State) (g i : Nat) : Bool :=
  decide (i < ltCount g) && s.ltRuns g i && [2, 3, 4, 5].contains (s.get (F.LT_CTRL.MODE g i))

/-- R505. -/
def execCheckerLock (link : LtLink) (s : State) : Out :=
  .next (if s.ltChecks link.group link.index then s.set (F.LT_STAT.LOCK link.group link.index) 1 else s)

/-- R505: lock is lost at 64 errors within 1,024 bits; under USER at 8 erroneous words within 16, whose bit errors are
open. They were counted while LOCK read 1. -/
def execCheckerLockLoss (link : LtLink) (s : State) : Out :=
  .next (
    let g := link.group.val
    let i := link.index.val
    if decide (i < ltCount g) && s.is (F.LT_STAT.LOCK g i) then
      let s1 := (s.set (F.LT_STAT.LOCK g i) 0).inc (F.LT_STAT.LOSS g i)
      if s.get (F.LT_CTRL.PAT g i) = 5 then
        let (n, s2) := s1.fresh
        s2.inc (F.LT_ERR.ERR g i) (8 + n % 505)
      else s1.inc (F.LT_ERR.ERR g i) 64
    else s)

/-- A write of LT_PAT_LO or LT_PAT_HI (R505): lock is cleared and the checker seeds again. -/
def State.ltPat (s : State) (g i : Nat) (hi : Bool) (w : Word) : State :=
  (s.wr (if hi then R.LT_PAT_HI g i else R.LT_PAT_LO g i) w).set (F.LT_STAT.LOCK g i) 0

/-- The identification code (R509): version, part and manufacturer. -/
def idCode : Word := 0x324604D3

/-- The boundary register as captured, from cell 0 on (Table 20-6). The status lands and TICK_OUT are always driven; the
levels of the two-wire and timebase lands, which no register shows, are free (DESIGN CHOICE, log entry 47). -/
def State.boundary (s : State) : List Bool × State :=
  let (n, s1) := s.fresh
  let free := fun (k m : Nat) => (List.range m).map fun i => n.testBit (k + i)
  let evt := (List.range 16).flatMap fun i =>
    [(s.get F.EVT_CFG.OE).testBit i, (s.get F.EVT_LVL.OUT).testBit i, (s.get F.EVT_LVL.PIN).testBit i]
  let low := [F.GLB_PINS.ERR, F.GLB_PINS.INT, F.GLB_PINS.FWARN].flatMap fun f => [true, !s.is f]
  (evt ++ low ++ [true, s.ready] ++ free 0 16 ++ [true, false] ++ free 16 8 ++ [!s.boot.pin], s1)

/-- The data register of the TAP's instruction is captured. CLAMP and HIGHZ select that of BYPASS, as IEEE 1149.1 has it
(PRESUMED, log entry 47); the spec gives DBG none. -/
def State.tapCapture (s : State) : State :=
  let ir := s.get F.LT_JTAG.IR
  let (l, s1) := if ir = 2 || ir = 3 then s.boundary else
    (if ir = 1 then (List.range 32).map idCode.getLsbD else if ir = 0x20 then [] else [false], s)
  { s1 with boot := { s1.boot with tapDr := l } }

/-- R509. -/
def execJtagInstructionUpdate (ir : BitVec 8) (s : State) : Out := .next (s.jtagSet ir.toNat).tapCapture

end Sys2Proof.Machine
end

