-- ==== Sys2Proof/Machine/RegRead.lean ====
section
/-!
DEFINITION. Reads of the register space (chapter 21): which addresses are mapped (R512), fields that show other
state, and what a requester's read does (R518, R520 to R523).
-/

namespace Sys2Proof.Machine

/-- Is `a` in the span of a block (Table 21-1)? -/
def mapped (a : Nat) : Bool :=
  a < 0x90000 || (0x100000 ≤ a && a < 0x160000) || (0x200000 ≤ a && a < 0x218000) || (0x300000 ≤ a && a < 0x308000)

/-- The register at `a` by the address of its first instance, and its instance. The PACK charger counts as instance
24 of the channels' chargers (R333). -/
def regKey (a : Nat) : Nat × Nat :=
  let r := fun (b s : Nat) => (b + (a - b) % s, (a - b) / s)
  if 0x300000 ≤ a then r 0x300000 0x1000
  else if 0x200000 ≤ a then r 0x200000 0x1000
  else if 0x100000 ≤ a then r 0x100000 0x10000
  else if 0x80000 ≤ a && a < 0x88000 then (0x80000 + a % 0x20, a % 0x2000 / 0x20)
  else if 0x70000 ≤ a && a < 0x70800 then r 0x70000 0x20
  else if 0x70800 ≤ a && a < 0x70840 then r 0x70800 0x10
  else if 0x50900 ≤ a && a < 0x509C0 then r 0x50900 0x40
  else if 0x50000 ≤ a && a < 0x50080 then r 0x50000 0x40
  else if 0x40000 ≤ a && a < 0x400E0 then r 0x40000 0x20
  else if 0x30300 ≤ a && a < 0x30380 then (0x200000 + (a - 0x30000), 24)
  else if 0x30200 ≤ a && a < 0x30280 then r 0x30200 0x8
  else if 0x30100 ≤ a && a < 0x30180 then r 0x30100 0x40
  else if 0x20400 ≤ a && a < 0x20600 then r 0x20400 0x20
  else if 0x20100 ≤ a && a < 0x201C0 then r 0x20100 0x40
  else (a, 0)

/-- The link-test group of an address. -/
def ltGroup (a : Nat) : Nat := (a - 0x80000) / 0x2000

/-- Is `a` the LO word of a snapshot pair (R521)? -/
def isLo (a : Nat) : Bool :=
  let k := (regKey a).1
  (regDef? a).isSome &&
    ([0x18, 0x20008, 0x20010, 0x2040C, 0x30200, 0x40820, 0x50018, 0x80004, 0x80014].contains k ||
      ((0x200218 ≤ k && k < 0x200238 || 0x200460 ≤ k && k < 0x200500) && k % 8 == 0))

/-- The MSS-only resets within the last 60 s (R479). -/
def State.wdtRecent (s : State) : Nat := min 7 (s.wdt.recent.filter fun t => s.wdt.clock < t + 60000000000).length

/-- Put a number into the bits hi:lo. -/
def State.viewFree (s : State) (w : Word) (hi lo : Nat) : Word × State :=
  let (v, s1) := s.fresh
  (setBits w hi lo v, s1)

/-- The fields of channel registers that show other state (R207, R520, Table 05-8). A LINE limit and a LINE current that
no command delivers are free while the line is closed. -/
def State.viewCh (s : State) (c : Fin 24) (k : Nat) (w : Word) : Word × State :=
  match k with
  | 0x200020 => (if s.domOn (3 * c) then w else setBits (setBits w 29 28 2) 27 24 0, s)
  | 0x200210 => (wordOf (s.bmSoc c), s)
  | 0x200400 =>
    let q := s.rd (R.MD_REQ c)
    let r := s.rd (R.MD_RES c)
    (setBits (setBits (setBits (setBits w 10 8 (bitsOf q 18 16)) 5 4 (bitsOf q 21 20)) 18 16 (bitsOf r 18 16))
      13 12 (bitsOf r 21 20), s)
  | 0x200408 =>
    let w1 := setBits (setBits w 1 0 (bitsOf (s.rd (R.MD_REQ c)) 13 12)) 5 4 (bitsOf (s.rd (R.MD_RES c)) 13 12)
    (if s.domOn (3 * c) then w1 else setBits w1 7 6 0, s)
  | 0x200608 => if s.lineClosed c then s.viewFree w 27 27 else (w, s)
  | 0x200610 => if s.lineClosed c then s.viewFree w 15 0 else (w, s)
  | _ => (w, s)

/-- FAB_CRED_l: the credits that the hub holds towards link l, by class (R392). -/
def State.credWord (s : State) (l : Nat) : Word :=
  let n := fun cls => (cellGet {} (linkKey l 0 cls) s.books).credits (linkKey l 0 cls)
  BitVec.ofNat 32 (((n 3 * 256 + n 2) * 256 + n 1) * 256 + n 0)

/-- The word that the register at `a` shows to requester rq, with no side effect but the draw of free values. Fields
that no command delivers (the worst latency of a fabric link, link-layer retries) are free. -/
def State.viewWord (s : State) (rq : Requester) (a : Nat) : Word × State :=
  let w := s.rd a
  let k := regKey a
  if 0x200000 ≤ a && a < 0x300000 then
    match chan? k.2 with
    | some c => s.viewCh c k.1 w
    | none => (w, s)
  else if 0x100000 ≤ a then
    (if k.1 = 0x100000 && a < 0x200000 then setBits w 7 0 (Config.dieStep k.2) else w, s)
  else match k.1 with
    | 0x20004 => (setBits w 17 0 (s.bucketOf s.count), s)
    | 0x20024 => (setBits w 17 0 (poolSize - s.records.length), s)
    | 0x20028 => (setBits w 29 18 (satU 12 (s.records.filter fun r => r.place == .overflow).length), s)
    | 0x70004 => match thr? k.2 with
      | some t => (s.thrStatWord t, s)
      | none => (w, s)
    | 0x70C08 => (setBits w 12 0 (s.threads.toList.foldl (fun n h => n + countTags Tag.isFree h.tags.toList) 0), s)
    | 0x24 => (setBits (setBits (setBits w 30 30 (b2n s.errPin)) 29 29 (b2n s.intPin)) 28 28
        (s.get F.HSE_SEL_STAT.FWARN), s)
    | 0x30 => (BitVec.ofNat 32 (rqKind rq * 2 ^ 24 + rqIndex rq), s)
    | 0x34 => ((s.req rq).stat, s)
    | 0x74 => (setBits (setBits w 31 31 (b2n s.boot.prov)) 29 29 (b2n s.boot.keyHash), s)
    | 0x10104 => (setBits (setBits w 31 31 (b2n s.errPin)) 30 30 (b2n s.intPin), s)
    | 0x10200 => (BitVec.ofNat 32 (s.cover 0), s)
    | 0x10204 => (BitVec.ofNat 32 (s.cover 1), s)
    | 0x10208 => (BitVec.ofNat 32 (s.cover 2), s)
    | 0x1020C => (BitVec.ofNat 32 (s.cover 3), s)
    | 0x40008 => s.viewFree w 31 0
    | 0x4000C => (s.credWord k.2, s)
    | 0x40808 => (setBits w 15 0 s.chain.lat, s)
    | 0x4082C => s.viewFree w 15 0
    | 0x60108 => (setBits w 22 20 s.wdtRecent, s)
    | 0x60804 => (setBits w 7 0 s.outstanding, s)
    | 0x88000 => (setBits w 31 31 (b2n s.boot.prov), s)
    | _ => (w, s)

/-- What a requester's read of a register clears or ends (R518): RCL fields, and the reactions of the latches. -/
def State.readEffect (s : State) (rq : Requester) (a : Nat) : State :=
  let k := regKey a
  match k.1 with
  | 0x34 => s.modReq rq fun x => { x with stat := x.stat &&& 0x0FFF0000 }
  | 0x2040C => s.set ⟨a + 8, 31, 31⟩ 0
  | 0x80014 => (s.wr a 0).wr (a + 4) 0
  | 0x30110 => s.readFdLatch k.2
  | 0x200030 => match chan? k.2 with
    | some c => s.readPsLatch c
    | none => s
  | 0x20060C => match chan? k.2 with
    | some c => s.readLnLatch c
    | none => s
  | _ => s.rclClear a

/-- A read of the LO word of a snapshot pair (R522): both halves of one update, and the pair's side effects. -/
def State.readLo (s : State) (rq : Requester) (a : Nat) : Word × State :=
  let (lo, s1) := s.viewWord rq a
  let (hi, s2) := s1.viewWord rq (a + 4)
  (lo, (s2.modReq rq fun x => { x with rsh := some (a, hi) }).readEffect rq a)

/-- The requester's status word after a torn read. -/
def tornStat (w : Word) : Word := setBits (setBits w 15 0 (satU 16 (bitsOf w 15 0 + 1))) 31 31 1

/-- A read of the HI word of a snapshot pair (R523). -/
def State.readHi (s : State) (rq : Requester) (a : Nat) : Word × State :=
  let live := fun (s : State) =>
    let (w, s1) := s.viewWord rq a
    (w, (s1.modReq rq fun x => { x with stat := tornStat x.stat }).accErr rq 5 a)
  match (s.req rq).rsh with
  | some (b, hi) => if b + 4 = a then (hi, s) else live s
  | none => live s

/-- A requester's read of the register word at an aligned address below 0x0040_0000 (R513, R514, R518, R521). -/
def State.readReg (s : State) (rq : Requester) (a : Nat) : Word × State :=
  if !mapped a then (0, (s.myStat rq 30).accErr rq 1 a)
  else if (regDef? a).isNone then (0, s)
  else if isLo a then s.readLo rq a
  else if 4 ≤ a && isLo (a - 4) then s.readHi rq a
  else
    let (w, s1) := s.viewWord rq a
    (w, s1.readEffect rq a)

/-- Reads of the registers at the addresses, in their order. -/
def State.readRegs (s : State) (rq : Requester) : List Nat → List Word × State
  | [] => ([], s)
  | a :: l =>
    let (w, s1) := s.readReg rq a
    let (ws, s2) := s1.readRegs rq l
    (w :: ws, s2)

/-- Is DBG's access in force (R509, R516)? Every other requester may always access. -/
def State.mayAccess (s : State) : Requester → Bool
  | .dbg => s.get F.LT_JTAG.IR == 0x20
  | _ => true

/-- R522. The word read goes to the requester, outside the state. -/
def execSnapshotLoRead (rq : Requester) (a : Nat) (s : State) : Out :=
  .next (if s.mayAccess rq && isLo a then (s.readLo rq a).2 else s)

/-- R523. -/
def execSnapshotHiRead (rq : Requester) (a : Nat) (s : State) : Out :=
  .next (if s.mayAccess rq && decide (4 ≤ a) && isLo (a - 4) then (s.readHi rq a).2 else s)

end Sys2Proof.Machine
end

