-- ==== Sys2Proof/Machine/RegWrite.lean ====
section
/-!
DEFINITION. Writes of the register space (chapter 21): the field rules of plain registers (R517), the registers whose
write acts, the provisioning lock (R526 to R528), and the one write that every requester makes.
-/

namespace Sys2Proof.Machine

/-! ### Field rules (R517) -/

/-- What a value outside a field's range does. -/
inductive Refuse where
  /-- The whole write is refused, and REJ set. -/
  | rej
  /-- The whole write is ignored. -/
  | ignore
  /-- The whole write is ignored, and the block's CFG_REJ set. -/
  | ignoreC
  /-- Only the field keeps its value. -/
  | keep
  /-- Only the field keeps its value, and the block's CFG_REJ is set. -/
  | keepC
deriving DecidableEq, Repr

/-- A field with the range of its legal values, and what another value does. -/
structure FldRule where
  hi  : Nat
  lo  : Nat
  min : Nat
  max : Nat
  how : Refuse

/-- Does a write of w satisfy the rule? -/
def FldRule.ok (r : FldRule) (w : Word) : Bool :=
  decide (r.min ≤ bitsOf w r.hi r.lo) && decide (bitsOf w r.hi r.lo ≤ r.max)

/-- The rules of the fields that one range describes, by register key. -/
def fldRules (k : Nat) : List FldRule :=
  match k with
  -- timebase
  | 0x20100 => [⟨30, 29, 0, 2, .keep⟩, ⟨28, 27, 0, 2, .keep⟩]
  | 0x20400 => [⟨29, 28, 0, 2, .keep⟩, ⟨9, 8, 0, 2, .keep⟩]
  | 0x20408 => [⟨31, 0, 0, 0x7FFFFFFF, .rej⟩]
  -- power stage (R99)
  | 0x200000 => [⟨31, 24, 4, 160, .ignoreC⟩, ⟨14, 0, 2000, 32000, .ignoreC⟩]
  | 0x200004 => [⟨31, 16, 0, 6000, .ignoreC⟩, ⟨15, 8, 5, 100, .ignoreC⟩]
  | 0x200008 => [⟨31, 16, 450, 6000, .ignoreC⟩, ⟨15, 0, 0, 1500, .ignoreC⟩]
  | 0x20000C => [⟨15, 8, 1, 255, .ignoreC⟩, ⟨7, 0, 10, 250, .ignoreC⟩]
  | 0x200010 => [⟨15, 0, 100, 6400, .ignoreC⟩]
  -- regulation
  | 0x200128 => [⟨31, 16, 1, 65535, .keepC⟩, ⟨15, 0, 1, 65535, .keepC⟩]
  | 0x20012C => [⟨31, 16, 1, 65535, .keepC⟩, ⟨15, 0, 1, 65535, .keepC⟩]
  | 0x200160 => [⟨25, 0, 4, 40000000, .ignoreC⟩, ⟨31, 30, 0, 2, .keepC⟩]
  -- chargers
  | 0x200300 => [⟨21, 16, 1, 40, .ignoreC⟩, ⟨26, 24, 0, 4, .keepC⟩]
  | 0x200308 => [⟨31, 0, 1, 1000000, .ignoreC⟩]
  | 0x200310 => [⟨31, 0, 0, 6000000, .ignoreC⟩]
  | 0x200314 => [⟨31, 0, 0, 6000000, .ignoreC⟩]
  | 0x200318 => [⟨31, 0, 0, 6000000, .ignoreC⟩]
  | 0x20031C => [⟨31, 0, 0, 6000000, .ignoreC⟩]
  | 0x200320 => [⟨31, 0, 0, 6000000, .ignoreC⟩]
  | 0x200324 => [⟨31, 0, 0, 20000000, .ignoreC⟩]
  | 0x200328 => [⟨31, 0, 0, 20000000, .ignoreC⟩]
  | 0x20032C => [⟨31, 0, 0, 20000000, .ignoreC⟩]
  | 0x200330 => [⟨31, 0, 0, 20000000, .ignoreC⟩]
  | 0x200348 => [⟨31, 24, 0, 100, .ignoreC⟩, ⟨23, 16, 0, 100, .ignoreC⟩, ⟨15, 8, 0, 100, .ignoreC⟩]
  | 0x200350 => [⟨23, 16, 1, 255, .ignoreC⟩]
  -- measurement and lines
  | 0x200414 => [⟨31, 0, 4, 0xFFFFFFFF, .ignoreC⟩]
  | 0x200600 => [⟨31, 24, 1, 250, .ignoreC⟩, ⟨21, 16, 5, 40, .ignoreC⟩, ⟨13, 0, 1, 10000, .ignoreC⟩]
  -- house die
  | 0x30000 => [⟨31, 24, 1, 255, .rej⟩, ⟨23, 16, 52, 60, .rej⟩, ⟨12, 8, 4, 20, .ignoreC⟩]
  | 0x3000C => [⟨31, 24, 0, 100, .rej⟩, ⟨23, 16, 5, 255, .rej⟩, ⟨15, 0, 380, 600, .rej⟩]
  | 0x30010 => [⟨23, 16, 1, 100, .rej⟩, ⟨15, 10, 1, 15, .rej⟩, ⟨9, 0, 0, 900, .rej⟩]
  | 0x30100 => [⟨30, 24, 0, 60, .rej⟩, ⟨23, 16, 20, 140, .rej⟩, ⟨9, 0, 1, 1000, .rej⟩]
  | 0x30104 => [⟨31, 16, 550, 650, .rej⟩, ⟨15, 0, 300, 500, .rej⟩]
  | 0x30108 => [⟨23, 16, 5, 60, .rej⟩, ⟨7, 0, 1, 200, .rej⟩]
  | 0x30380 => [⟨29, 24, 1, 60, .rej⟩, ⟨23, 19, 1, 20, .rej⟩, ⟨18, 10, 100, 240, .rej⟩, ⟨9, 0, 200, 600, .rej⟩]
  | 0x30518 => [⟨23, 16, 1, 255, .rej⟩, ⟨15, 8, 5, 255, .rej⟩, ⟨7, 0, 1, 255, .rej⟩]
  -- Type-C ports
  | 0x300000 => [⟨7, 0, 0, 50, .ignoreC⟩, ⟨31, 30, 0, 2, .keep⟩]
  | 0x300004 => [⟨15, 0, 1, 65535, .ignoreC⟩]
  | 0x300008 => [⟨15, 8, 1, 255, .ignoreC⟩, ⟨7, 0, 1, 255, .ignoreC⟩]
  | 0x30000C => [⟨24, 16, 50, 480, .ignoreC⟩, ⟨8, 0, 1, 500, .ignoreC⟩]
  | 0x30009C => [⟨31, 29, 0, 4, .keep⟩]
  -- chain, host, two-wire
  | 0x40800 => [⟨30, 28, 0, 5, .keepC⟩]
  | 0x40804 => [⟨15, 0, 1, 3600, .rej⟩]
  | 0x50000 => [⟨13, 0, 1280, 9000, .ignoreC⟩]
  | 0x50104 => [⟨31, 20, 16, 1024, .ignore⟩, ⟨19, 12, 1, 255, .ignore⟩, ⟨11, 0, 10, 4095, .ignore⟩]
  | 0x50200 => [⟨7, 0, 1, 255, .rej⟩]
  | 0x50808 => [⟨23, 16, 1, 255, .rej⟩]
  -- faults and management
  | 0x10100 => [⟨1, 0, 1, 3, .keep⟩]
  | 0x60200 => [⟨31, 24, 60, 110, .ignore⟩, ⟨23, 16, 1, 100, .ignore⟩]
  | _ => if 0x305A0 ≤ k && k < 0x30600 then [⟨9, 0, 0, 600, .rej⟩] else []

/-- The rules that one range does not describe: BM_TEMP, the gap of FD_THR, TW_TIM (R432), the period of THM_CFG,
and LOG_CFG (R483). -/
def wholeRule (k : Nat) (w : Word) : Option Refuse :=
  let no := fun (b : Bool) (h : Refuse) => if b then none else some h
  match k with
  | 0x200208 =>
    let t := sext 16 (bitsOf w 15 0)
    no (decide (-400 ≤ t) && decide (t ≤ 1250)) .ignoreC
  | 0x30104 => no (decide (bitsOf w 15 0 + 40 ≤ bitsOf w 31 16)) .ignoreC
  | 0x50800 =>
    let m := bitsOf w 31 30
    no (decide (m ≠ 3) && decide ([25, 10, 5, 0].getD m 0 ≤ bitsOf w 15 8) &&
      decide (bitsOf w 7 0 ≤ [345, 90, 45, 0].getD m 0)) .ignoreC
  | 0x60200 => no (decide (bitsOf w 23 16 < 10 * bitsOf w 15 8)) .ignore
  | 0x60308 =>
    let t := bitsOf w 21 0
    no (t == 0 || (decide (100 ≤ t) && decide (t ≤ 3600000))) .rej
  | _ => none

/-- The CFG_REJ bit of the block that holds the register. -/
def cfgRejOf (k i : Nat) : Option Fld :=
  if 0x300000 ≤ k then some (F.PD_LATCH.CFG_REJ i)
  else if 0x200000 ≤ k then
    let o := k - 0x200000
    some (if o < 0x100 then F.PS_STAT.CFG_REJ i else if o < 0x200 then F.RG_STAT.CFG_REJ i
      else if o < 0x300 then F.BM_STAT.CFG_REJ i else if o < 0x400 then F.CG_STAT.CFG_REJ i
      else if o < 0x500 then F.MS_STAT.CFG_REJ i else if o < 0x600 then F.MD_STAT.CFG_REJ i
      else F.LN_STAT.CFG_REJ i)
  else if 0x50800 ≤ k && k < 0x50900 then some F.TW_LATCH.CFG_REJ
  else if 0x50000 ≤ k && k < 0x50100 then some (F.HST_STAT.CFG_REJ i)
  else if 0x40800 ≤ k && k < 0x40900 then some F.CHN_STAT.CFG_REJ
  else if 0x30000 ≤ k && k < 0x40000 then some F.HSE_SEL_STAT.CFG_REJ
  else none

/-- Set the CFG_REJ bit of the register's block. -/
def State.cfgRej (s : State) (a : Nat) : State :=
  match cfgRejOf (regKey a).1 (regKey a).2 with
  | some f => s.set f 1
  | none => s

/-- The first failed rule that refuses the whole write. -/
def wholeRefusal (k : Nat) (w : Word) : Option Refuse :=
  match (fldRules k).find? fun r => !r.ok w && r.how != .keep && r.how != .keepC with
  | some r => some r.how
  | none => wholeRule k w

/-- The word after the fields that keep their values have been put back. -/
def keepFields (old w : Word) (l : List FldRule) : Word :=
  l.foldl (fun w r => if r.ok w then w else setBits w r.hi r.lo (bitsOf old r.hi r.lo)) w

/-- Write the RW and W1C fields of a register (R517); a WO field has no effect here. -/
def State.putFields (s : State) (a : Nat) (d : RegDef) (w : Word) : State :=
  let m : Word := BitVec.ofNat 32 d.rw
  s.wr a ((s.rd a &&& ~~~m &&& ~~~(w &&& BitVec.ofNat 32 d.w1c)) ||| (w &&& m))

/-- A write of a register whose fields only hold values (R517). -/
def State.putReg (s : State) (rq : Requester) (a : Nat) (d : RegDef) (w : Word) : State :=
  let k := (regKey a).1
  match wholeRefusal k w with
  | some .rej => s.rej rq a
  | some .ignoreC => s.cfgRej a
  | some _ => s
  | none =>
    let l := fldRules k
    let s1 := if l.any fun r => !r.ok w && r.how == .keepC then s.cfgRej a else s
    s1.putFields a d (keepFields (s.rd a) w l)

/-! ### The provisioning lock (R526 to R528) -/

/-- R528: a blow starts with its first pulse. -/
def State.provWrite (s : State) (rq : Requester) (w : Word) : State :=
  if bitsOf w 31 16 ≠ 0x5052 then s.rej rq R.GLB_PROV_CTRL
  else if !bitOf w 0 || s.boot.prov || s.boot.pulses ≠ 0 then s
  else State.set { s with boot := { s.boot with pulses := 1, provTry := true } } F.GLB_PROV_STAT.BUSY 1

/-- R528. -/
def execProvisioningLock (rq : Requester) (w : Word) (s : State) : Out :=
  .next (if canWrite rq R.GLB_PROV_CTRL && s.mayAccess rq then s.provWrite rq w else s)

/-- R528: the read after a pulse. `blown`: it shows the row blown; `doubt`: the row is in doubt after the majority read
of R491. BUSY ends at the first read that shows the row blown, or after the fourth pulse. -/
def execProvPulseDone (blown doubt : Bool) (s : State) : Out :=
  .next (
    if s.boot.pulses = 0 then s
    else if blown && !doubt then
      let s1 := State.set { s with boot := { s.boot with pulses := 0, prov := true } } F.GLB_PROV_STAT.BUSY 0
      if s1.get F.LT_JTAG.IR = 0x20 then s1.jtagSet 0xFF else s1
    else if s.boot.pulses < 4 && !blown then { s with boot := { s.boot with pulses := s.boot.pulses + 1 } }
    else
      (State.set { s with boot := { s.boot with pulses := 0 } } F.GLB_PROV_STAT.BUSY 0).set F.GLB_PROV_STAT.FAIL 1)

/-- R516, R526: a locked LCK field ignores the write. -/
def State.assetWrite (s : State) (rq : Requester) (a : Nat) (w : Word) : State :=
  if s.boot.prov then (s.myStat rq 29).accErr rq 3 a else s.wr a w

/-! ### Registers whose write acts -/

/-- Bits START and STOP of MS_WIN_CTRL and MS_CAP_CTRL: both act as STOP followed by START (R193, R197). -/
def startStop (w : Word) : List (Option Bool) :=
  (if bitOf w 30 then [none] else []) ++ (if bitOf w 31 then [some false] else [])

/-- MS_WIN_CTRL (R193). A write with START or STOP is ignored while a sweep owns the engine (R194). -/
def State.winWrite (s : State) (c : Fin 24) (w : Word) : State :=
  if s.sweepOwns c && (startStop w).length ≠ 0 then s.set (F.MS_STAT.CFG_REJ c) 1
  else (startStop w).foldl (fun s r => s.winCtl c r) (s.wr (R.MS_WIN_CTRL c) (w &&& 0x30000FFF))

/-- MS_CAP_CTRL (R197). -/
def State.capWrite (s : State) (c : Fin 24) (w : Word) : State :=
  let a := R.MS_CAP_CTRL c
  let s1 := s.wr a ((s.rd a &&& 0x20000000) ||| (w &&& 0x10000FFF))
  let s2 := if bitOf w 31 then s1.wakeCh c else s1
  s2.modFe c fun f => { f with capReq := f.capReq ++ startStop w }

/-- MS_SWP_CTRL (R200, R202): ABORT before START. -/
def State.swpWrite (s : State) (c : Fin 24) (w : Word) : State :=
  let a := R.MS_SWP_CTRL c
  let s1 := s.wr a ((s.rd a &&& 0x20000000) ||| (w &&& 0x10000FFF))
  let s2 := if bitOf w 30 then s1.sweepAbort c else s1
  if bitOf w 31 then s2.sweepStart c else s2

/-- CG_CTRL and PK_CTRL (R167, R171). -/
def State.cgWrite (s : State) (k : Fin 25) (w : Word) : State :=
  let s1 := if bitOf w 2 then s.loadPreset k else s
  if bitOf w 0 || bitOf w 1 then s1.cgCtl k (bitOf w 0) (bitOf w 1) else s1

/-- BM_CTRL (R145). -/
def State.bmCtrl (s : State) (c : Fin 24) (w : Word) : State :=
  let s1 := if bitOf w 0 then s.bmWrite c .relax else s
  if bitOf w 1 then s1.bmWrite c .hyst else s1

/-- MS_ACC_CTRL (R196). -/
def State.accCtrl (s : State) (rq : Requester) (c : Fin 24) (w : Word) : State :=
  (List.range 4).foldl (fun s i => if bitOf w i then s.clrBit rq c i else s) s

/-- GT_STAT: the W1C bits and SWCAP (R68). -/
def State.gtStatWrite (s : State) (n : Fin 16) (w : Word) : State :=
  let s1 := s.wr (R.GT_STAT n) (s.rd (R.GT_STAT n) &&& ~~~(w &&& 0x70000000))
  if bitOf w 26 && s1.get (F.GT_CFG.CAP_SRC n) == 20 then s1.capture n else s1

/-- GT_CFG: a reserved capture source refuses the write (R517). -/
def State.gtCfgWrite (s : State) (rq : Requester) (a : Nat) (d : RegDef) (w : Word) : State :=
  if 21 ≤ bitsOf w 4 0 && bitsOf w 4 0 ≤ 30 then s.rej rq a else s.putReg rq a d w

/-- LT_CTRL: a reserved MODE of every group refuses the write; what Table 20-2 or 20-3 does not admit changes
nothing. -/
def State.ltWrite (s : State) (rq : Requester) (g i a : Nat) (w : Word) : State :=
  if bitsOf w 31 29 = 7 then s.rej rq a else (s.ltCtrl g i w).2

/-- WDT_CTRL (R477, R480): LOCK stays set and freezes TIMEOUT. -/
def State.wdtWrite (s : State) (w : Word) : State :=
  let t := bitsOf w 12 0
  if t = 0 || 8000 < t then s
  else
    let s1 := if s.is F.WDT_CTRL.LOCK then s else s.set F.WDT_CTRL.TIMEOUT t
    let s2 := if bitOf w 31 then s1.set F.WDT_CTRL.LOCK 1 else s1
    let s3 := if bitOf w 27 then s2.set F.WDT_STAT.COUNT 0 else s2
    if bitOf w 28 then s3.wdtStart else s3

/-- HSE_HOUSE: the tap follows RSV (R338). -/
def State.houseWrite (s : State) (rq : Requester) (a : Nat) (d : RegDef) (w : Word) : State :=
  (s.putReg rq a d w).tapAdjust

/-- PK_DIS: the PACK charger stops and starts with PK_EN (R333). -/
def State.packWrite (s : State) (rq : Requester) (a : Nat) (d : RegDef) (w : Word) : State :=
  let s1 := s.putReg rq a d w
  if !s1.is F.PK_DIS.PK_EN then (if s.is F.PK_DIS.PK_EN then s1.cgStop 24 else s1)
  else if s.is F.PK_DIS.PK_EN then s1
  else s1.packFollow true s1.src

/-- CHN_CFG: with EN 0 both ports are DOWN (R395). A holdover goes on until it ends as R403 or R405 has it. -/
def State.chnWrite (s : State) (rq : Requester) (a : Nat) (d : RegDef) (w : Word) : State :=
  let s1 := s.putReg rq a d w
  if s1.is F.CHN_CFG.EN then s1
  else
    let s2 := (s1.portFail 0 false).portFail 1 false
    if s2.inSlack then s2 else s2.set F.CHN_STAT.RSTATE 0

/-- HST_CFG: a port with EN 0 is down (R409). -/
def State.hstWrite (s : State) (rq : Requester) (p a : Nat) (d : RegDef) (w : Word) : State :=
  let s1 := s.putReg rq a d w
  if s1.is (F.HST_CFG.EN p) then s1 else s1.hostLink p false

/-- EVT_CFG: a line whose OE becomes 1 drives its land with OUT (R356). -/
def State.evtCfgWrite (s : State) (w : Word) : State :=
  (List.range 16).foldl (fun s n =>
    let s1 := s.set ⟨R.EVT_CFG, n, n⟩ (b2n (bitOf w n))
    if bitOf w n then s1.set ⟨R.EVT_LVL, 16 + n, 16 + n⟩ (s1.get ⟨R.EVT_LVL, n, n⟩) else s1) s

/-- PD_BC: DETECT awaits a result (R379); another mode has none. -/
def State.bcWrite (s : State) (rq : Requester) (p a : Nat) (d : RegDef) (w : Word) : State :=
  let s1 := s.putReg rq a d w
  s1.set (F.PD_BC.RESULT p) (if s1.get (F.PD_BC.MODE p) = 4 then 4 else 0)

/-- PD_CFG: a change of VCONN_EN turns on what R376 lets a source supply, or off what no VCONN_Swap gave. -/
def State.pdCfgWrite (s : State) (rq : Requester) (p a : Nat) (d : RegDef) (w : Word) : State :=
  let s1 := s.putReg rq a d w
  match port? p with
  | some q =>
    if s1.is (F.PD_CFG.VCONN_EN p) == s.is (F.PD_CFG.VCONN_EN p) || s1.attach q ≠ atSrc then s1
    else if s1.is (F.PD_CFG.VCONN_EN p) then (if (s1.port q).ra then s1.set (F.PD_STAT.VCONN_ON p) 1 else s1)
    else if (s1.port q).vcSwap then s1
    else s1.set (F.PD_STAT.VCONN_ON p) 0
  | none => s1

/-- Writes that act, in a channel's block. -/
def State.actCh (s : State) (rq : Requester) (c : Fin 24) (k : Nat) (w : Word) : Option State :=
  if 0x200100 ≤ k && k < 0x200128 then some (s.setParam c ((k - 0x200100) / 4) w).2
  else match k with
    | 0x200130 => some (s.rgLoopWrite c w)
    | 0x200168 => some (s.profAddrWrite c w).2
    | 0x200204 => some (s.bmAddrWrite c w)
    | 0x20020C => some (s.bmCtrl c w)
    | 0x200210 => some (s.bmSocWrite c w)
    | 0x200218 => some (s.bmLoWrite rq c .q w)
    | 0x20021C => some (s.bmHiWrite rq c .q w)
    | 0x200220 => some (s.bmLoWrite rq c .v1 w)
    | 0x200224 => some (s.bmHiWrite rq c .v1 w)
    | 0x200228 => some (s.bmLoWrite rq c .v2 w)
    | 0x20022C => some (s.bmHiWrite rq c .v2 w)
    | 0x200230 => some (s.bmLoWrite rq c .h w)
    | 0x200234 => some (s.bmHiWrite rq c .h w)
    | 0x200304 => some (s.cgWrite c.castSucc w)
    | 0x200400 => some (s.msRangeWrite c w)
    | 0x200404 => some (s.msAutoWrite rq c w)
    | 0x200408 => some (s.msStageWrite c w)
    | 0x20040C => some (s.accCtrl rq c w)
    | 0x200410 => some (s.winWrite c w)
    | 0x20041C => some (s.capWrite c w)
    | 0x200430 => some (s.swpWrite c w)
    | 0x200500 => some (s.mdReqWrite c w)
    | 0x200504 => some (s.gangReq c (bitsOf w 1 0)).2
    | 0x200604 => some (s.lineReq c (bitsOf w 31 30) (4 * bitsOf w 29 0)).2
    | _ => none

/-- Writes that act, in a port's block. -/
def State.actTc (s : State) (rq : Requester) (p : Fin 8) (k a : Nat) (d : RegDef) (w : Word) : Option State :=
  if 0x300010 ≤ k && k < 0x300040 then some ((s.putReg rq a d w).pdEval p)
  else if k = 0x300000 then some (s.pdCfgWrite rq p a d w)
  else if k = 0x30009C then some (s.bcWrite rq p a d w)
  else none

/-- Writes that act, in the blocks of the hub. -/
def State.actHub (s : State) (rq : Requester) (k i a : Nat) (d : RegDef) (w : Word) : Option State :=
  match k with
  | 0x60 => some (s.assetWrite rq a w)
  | 0x64 => some (s.assetWrite rq a w)
  | 0x68 => some (s.assetWrite rq a w)
  | 0x6C => some (s.assetWrite rq a w)
  | 0x70 => some (s.provWrite rq w)
  | 0x10110 => some (s.force (bitsOf w 8 0) (bitsOf w 10 9))
  | 0x10180 => some (s.chClrWrite w)
  | 0x20000 => some (s.writeTbCtrl w)
  | 0x20018 => some (if bitOf w 0 then s.release (bitOf w 1) else s)
  | 0x20400 => some (s.gtCfgWrite rq a d w)
  | 0x20404 => some (if h : i < 16 then s.writeGtCmp ⟨i, h⟩ w else s)
  | 0x20414 => some (if h : i < 16 then s.gtStatWrite ⟨i, h⟩ w else s)
  | 0x20600 => some (s.evtCfgWrite w)
  | 0x30004 => some (s.selGoto w)
  | 0x30010 => some (s.houseWrite rq a d w)
  | 0x30380 => some (s.packWrite rq a d w)
  | 0x40800 => some (s.chnWrite rq a d w)
  | 0x50000 => some (s.hstWrite rq i a d w)
  | 0x50814 => some (if bitOf w 0 then let (n, s1) := s.fresh; s1.busClear (n % 2 == 1) else s)
  | 0x50900 => some (s.twCtrl i w)
  | 0x60100 => some (s.wdtWrite w)
  | 0x60104 => some (s.wdtKick rq w)
  | 0x6070C => some (s.rstWrite w)
  | 0x60800 => some (s.svcWrite w)
  | 0x70C00 => some (s.clearExcs false w (List.finRange 64))
  | 0x70C04 => some (s.clearExcs true w (List.finRange 64))
  | 0x80000 => some (s.ltWrite rq (ltGroup a) i a w)
  | 0x80004 => some (s.ltPat (ltGroup a) i false w)
  | 0x80008 => some (s.ltPat (ltGroup a) i true w)
  | _ =>
    if 0x10000 ≤ k && k < 0x10030 then some (s.sumClear ((k - 0x10000) / 4) w)
    else if 0x60400 ≤ k && k < 0x6041C then some (s.pdomWrite ((k - 0x60400) / 4) w)
    else none

/-- A write whose register acts; none for a register that only holds values. LT_BITS, QD and the keys of other registers
with no RW field fall to `putReg`, which leaves RO fields as they are. -/
def State.act? (s : State) (rq : Requester) (a : Nat) (d : RegDef) (w : Word) : Option State :=
  let k := regKey a
  if 0x300000 ≤ a then
    match port? k.2 with
    | some p => s.actTc rq p k.1 a d w
    | none => none
  else if a = R.CG_CTRL 24 then some (s.cgWrite 24 w)
  else if 0x200000 ≤ a then
    match chan? k.2 with
    | some c => s.actCh rq c k.1 w
    | none => none
  else if 0x200000 ≤ k.1 then none
  else s.actHub rq k.1 k.2 a d w

/-- A requester's write of the word at an aligned address below 0x0040_0000 that Table 21-3 permits (R513, R514,
R517). -/
def State.writeReg (s : State) (rq : Requester) (a : Nat) (w : Word) : State :=
  if !mapped a then (s.myStat rq 30).accErr rq 2 a
  else match regDef? a with
    | none => s
    | some d =>
      let s0 := if 0x200000 ≤ a && a < 0x300000 then s.opsFirst (regKey a).2 else s
      match s0.act? rq a d w with
      | some s1 => s1
      | none => s0.putReg rq a d w

/-- Writes of words at successive addresses. -/
def State.writeRegs (s : State) (rq : Requester) (a : Nat) : List Word → State
  | [] => s
  | w :: l => (s.writeReg rq a w).writeRegs rq (a + 4) l

/-- R517. A thread's store outside TB, CH and TC raises ILLEGAL with SUB PRIV (R516). -/
def execRegisterWrite (rq : Requester) (a : Nat) (w : Word) (s : State) : Out :=
  .next (
    if a % 4 ≠ 0 || 0x400000 ≤ a || !s.mayAccess rq then s
    else match rq with
      | .thread t =>
        if mapped a && !canWrite rq a then s.illegal (.thread t) 3 else s.writeReg rq a w
      | _ => s.writeReg rq a w)

end Sys2Proof.Machine
end

