-- ==== Sys2Proof/Machine/Posting.lean ====
section
/-!
DEFINITION. The remaining posting instructions (event records, rings, faults), the completion of posted operations
(R235 to R239, R276, R286), and LW and SW, which reach the register space (R233, R234, R277, R280).
-/

namespace Sys2Proof.Machine

/-! ### Posting: records, rings, faults -/

/-- SCHED and ARM read the record image as they are posted, after the thread's earlier stores (R281). -/
def State.postRec (s : State) (x : Exec) (rd ra : Fin 32) (k : List Word → OpKind) : State :=
  let a := (s.g x ra).toNat
  if !bufOk a 32 then s.post x rd .hub .bad
  else if s.bufFenced a 32 then s.post x rd .hub .bad (some (cword stFenced))
  else s.post x rd .hub (k (s.ldWords a 8))

/-- R247. -/
def execSched (x : Exec) (rd ra : Fin 32) (s : State) : Out :=
  .next (s.issue x fun s => s.postRec x rd ra .sched)

/-- R249. -/
def execArm (x : Exec) (rd ra : Fin 32) (s : State) : Out :=
  .next (s.issue x fun s => s.postRec x rd ra .arm)

/-- R250. -/
def execDisarm (x : Exec) (rd ra : Fin 32) (s : State) : Out :=
  .next (s.issue x fun s => s.post x rd .hub (.disarm (s.g x ra).toNat))

/-- QPUSH and QPOP: a ring from 0 to 4,095 and a buffer aligned to 8 (R255). -/
def State.postRing (s : State) (x : Exec) (rd ra rb : Fin 32) (k : Nat → OpKind) : State :=
  let n := (s.g x ra).toNat
  let a := (s.g x rb).toNat
  if n < 4096 && bufOk a 1 then s.post x rd (.ring n) (k a) else s.post x rd .hub .bad

/-- R255. -/
def execQpush (x : Exec) (rd ra rb : Fin 32) (s : State) : Out :=
  .next (s.issue x fun s => s.postRing x rd ra rb .qpush)

/-- R255. -/
def execQpop (x : Exec) (rd ra rb : Fin 32) (s : State) : Out :=
  .next (s.issue x fun s => s.postRing x rd ra rb .qpop)

/-- R258: the source's number travels as the instance of the collector's operation. -/
def execFltrd (x : Exec) (rd ra rb : Fin 32) (s : State) : Out :=
  .next (s.issue x fun s =>
    let a := (s.g x rb).toNat
    let n := (s.g x ra).toNat
    if 384 ≤ n || a % 64 ≠ 0 || !bufOk a 64 then s.post x rd .hub .bad
    else s.post x rd .coll (.fltrd n a))

/-- May the executor force faults (R259)? -/
def State.mayForce (s : State) : Exec → Bool
  | .thread t => s.is (F.SEQ_THR_CFG.FORCE t)
  | .mss _ => true

/-- Is an earlier operation of the same unit still to be executed (R277)? Each ring and the collector take operations in
order of arrival. -/
def State.behindIn (s : State) (o : Op) : Bool :=
  (s.ops.takeWhile fun p => p.who != o.who).any fun p => p.unit == o.unit && p.word.isNone

/-- The collector takes the force operations that no earlier operation holds back (R259, R277), of n at most. -/
def State.collGo (s : State) : Nat → State
  | 0 => s
  | n + 1 =>
    match s.ops.find? (fun o => o.unit == .coll && o.word.isNone) with
    | some o => match o.kind with
      | .force src op => ((s.force src op).setWord o.who (cword stOk)).collGo n
      | _ => s
    | none => s

/-- FLTFORCE (R259): the collector takes it in its order; it completes once the collector has accepted the forced
report. -/
def State.postForce (s : State) (x : Exec) (rd ra : Fin 32) (op : Nat) : State :=
  let n := (s.g x ra).toNat
  if 384 ≤ n then s.post x rd .hub .bad
  else if !s.mayForce x then s.post x rd .coll .bad (some (cword stDenied))
  else
    let s1 := s.post x rd .coll (.force n op)
    s1.collGo s1.ops.length

/-- R259. -/
def execFltforcePulse (x : Exec) (rd ra : Fin 32) (s : State) : Out :=
  .next (s.issue x fun s => s.postForce x rd ra 0)

/-- R259. -/
def execFltforceHold (x : Exec) (rd ra : Fin 32) (s : State) : Out :=
  .next (s.issue x fun s => s.postForce x rd ra 1)

/-- R259. -/
def execFltforceRelease (x : Exec) (rd ra : Fin 32) (s : State) : Out :=
  .next (s.issue x fun s => s.postForce x rd ra 2)

/-! ### Operations that their completion executes -/

/-- A completion word with the fill level of a ring (R255). -/
def fillWord (status : Nat) (r : Ring) : Word := cword status false (min r.fill (2 ^ 23 - 1))

/-- Is a bank that holds bytes of the ring or the buffer fenced (R238)? -/
def State.ringFenced (s : State) (r : Ring) (a : Nat) : Bool :=
  s.bufFenced a r.size || s.bufFenced r.base (r.slots * r.size)

/-- QPUSH at the ring (R255). -/
def State.qpush (s : State) (n a : Nat) : Word × State :=
  match s.ring? n with
  | none => (cword stBadArg, s)
  | some r =>
    if !bufOk a r.size then (cword stBadArg, s)
    else if s.ringFenced r a then (cword stFenced, s)
    else match s.ringPut n (s.ldWords a (r.size / 4)) with
      | none => (fillWord stNoRes r, s)
      | some s1 => (fillWord stOk { r with tail := (r.tail + 1) % 2 ^ 32 }, s1)

/-- QPOP at the ring (R255). -/
def State.qpop (s : State) (n a : Nat) : Word × State :=
  match s.ring? n with
  | none => (cword stBadArg, s)
  | some r =>
    if !bufOk a r.size then (cword stBadArg, s)
    else if s.ringFenced r a then (cword stFenced, s)
    else if r.sub.isSome then (fillWord stDenied r, s)
    else if r.fill = 0 then (fillWord stNotReady r, s)
    else
      let h := (r.head + 1) % 2 ^ 32
      (fillWord stOk { r with head := h },
        (s.stBytes a (s.ldBytes (r.slot r.head) r.size)).modRing n fun r => { r with head := h })

/-- FLTRD at the collector (R238, R258). -/
def State.fltrd (s : State) (n a : Nat) : Word × State :=
  if s.bufFenced a 64 then (cword stFenced, s)
  else match s.fltRec? n with
    | some r => (cword stOk, s.stWords a r.words)
    | none => (cword stNotReady, s)

/-- Execute an operation that its completion executes; none for one that its unit has not executed yet. -/
def State.doneNow (s : State) (o : Op) : Option (Word × State) :=
  if o.word.isNone && o.kind != .bad && s.behindIn o then none
  else match o.word, o.kind, o.unit with
  | some w, .force n _, _ => if s.reports.any fun r => r.src == n && r.forced then none else some (w, s)
  | some w, _, _ => some (w, s)
  | none, .bad, _ => some (cword stBadArg, s)
  | none, .qpush a, .ring n => some (s.qpush n a)
  | none, .qpop a, .ring n => some (s.qpop n a)
  | none, .fltrd n a, _ => some (s.fltrd n a)
  | none, _, _ => none

/-! ### Delivery of a completion word (R273, R274, R276, R286) -/

/-- The tag of a slot when its operation completes: DONE, or FREE where nobody waits for the word. -/
def Tag.complete (w : Word) : Tag → Tag
  | .out false => .done w
  | _ => .free

/-- The tag of the executor's slot becomes DONE or FREE. -/
def State.completeTag (s : State) (x : Exec) (slot : Nat) (w : Word) : State :=
  match x with
  | .thread t => s.modThr t fun h => { h with
      tags := h.tags.setIfInBounds slot ((h.tags.toList.getD slot .free).complete w) }
  | .mss k => s.modMss k fun m => { m with
      tags := m.tags.setIfInBounds slot ((m.tags.toList.getD slot .free).complete w) }

/-- The waits that the completion of an operation in `slot` ends: WAITG on it, FENCE, and a stall for a tag. -/
def State.completeWait (s : State) (x : Exec) (slot : Nat) : State :=
  match s.waitOf x with
  | .tag sl rd =>
    if sl = slot then
      match s.tagWord x slot with
      | some w => (s.takeTag x slot rd w).endWait x
      | none => s
    else s
  | .fence _ => if s.hasOps x then s else s.endWait x
  | .stall => if (s.freeTags x).isEmpty then s else s.endWait x
  | _ => s

/-- The exception that a completion raises: FENCED, or POOL where the event pool was empty. -/
def complCause (o : Op) (w : Word) : Option Nat :=
  if bitsOf w 7 0 = stFenced then some excFenced
  else if bitsOf w 7 0 = stNoRes then
    match o.kind with
    | .sched _ => some excPool
    | .arm _ => some excPool
    | _ => none
  else none

/-- FENCED and POOL follow OPX (R286); the MSS traps at its next instruction. -/
def State.complExc (s : State) (x : Exec) (o : Op) (w : Word) : State :=
  match complCause o w with
  | none => s
  | some c =>
    match x with
    | .thread t =>
      if s.is (F.SEQ_THR_CFG.OPX t) && s.thrLive t then s.thrExcept t c 0 (s.pcOf x) o.pc
      else s.recordExc t c 0 (s.pcOf x) o.pc
    | .mss k => if c = excFenced then s.mssExcept k c 0 (s.pcOf x) o.pc else s

/-- A completion reaches its executor. -/
def State.deliver (s : State) (x : Exec) (slot : Nat) (o : Op) (w : Word) : State :=
  ((s.completeTag x slot w).completeWait x slot).complExc x o w

/-- What a UCS response carries beside its status (Tables 11-10 to 11-19): what the unit reported, and what the
completion word holds of it. -/
def ucsBody (o : Op) (w : Word) : List Word :=
  let bit := fun (n : Nat) => (BitVec.ofNat 32 (bitsOf w n n) : Word)
  match o.kind with
  | .sched _ => [BitVec.ofNat 32 (bitsOf w 31 9), bit 8]
  | .arm _ => [BitVec.ofNat 32 (bitsOf w 31 9), bit 8]
  | .disarm _ => [bit 9, bit 10]
  | .meas _ _ => o.body ++ [BitVec.ofNat 32 (bitsOf w 31 9)]
  | .vdmSend _ _ => List.replicate 9 0
  | .vdmRecv _ => 0 :: o.body
  | _ => o.body

/-- The command of a UCS operation completes. -/
def State.ucsDone (s : State) (m : Cmd) (o : Op) (w : Word) : State :=
  match s.cmds.find? (·.names m) with
  | none => s
  | some c => s.done m c.code (bitsOf w 7 0) (ucsBody o w)

/-- The unit's part of a completion on a port, where it is still to be done. -/
def State.unitStep (s : State) (who : Issuer) : State :=
  match s.ops.find? (fun o => o.who == who) with
  | some o =>
    match o.unit, o.word with
    | .port p, none => match port? p with
      | some p => s.portStep p o
      | none => s
    | _, _ => s
  | none => s

/-- R276: the operation's word reaches its issuer and the operation is no longer in flight. -/
def execOperationCompletion (who : Issuer) (s0 : State) : Out :=
  .next (
    let s := s0.unitStep who
    match s.ops.find? (fun o => o.who == who) with
    | none => s
    | some o =>
      match s.doneNow o with
      | none => s
      | some (w, s1) =>
        let s2 := State.collGo { s1 with ops := s1.ops.filter fun p => p.who != who } s1.ops.length
        match who with
        | .thread t slot => s2.deliver (.thread t) slot o w
        | .mss k slot => s2.deliver (.mss k) slot o w
        | .ucs m => s2.ucsDone m o w)

/-! ### LW and SW (R233, R234) -/

/-- Does an operation of the executor on the unit of this register address still have to take effect (R277)? -/
def State.opBusy (s : State) (x : Exec) (a : Nat) : Bool :=
  let unit : Option Unit' :=
    if 0x300000 ≤ a then some (.port (regKey a).2) else if 0x200000 ≤ a then some (.chan (regKey a).2) else none
  s.ops.any fun o => o.word.isNone && some o.unit == unit && match o.who, x with
    | .thread t _, .thread u => t == u
    | .mss j _, .mss k => j == k
    | _, _ => false

/-- Does an operation or a store on the unit of this register address still have to take effect before a load (R280)? A start
or stop that a store has asked for takes effect with the next sample. -/
def State.unitBusy (s : State) (x : Exec) (a : Nat) : Bool :=
  let waits := match chan? (regKey a).2 with
    | some c => decide (0x200000 ≤ a ∧ a < 0x300000) && !((s.ch c).fe.winReq.isEmpty && (s.ch c).fe.capReq.isEmpty)
    | none => false
  waits || s.opBusy x a

/-- R233. A load from a channel or port block waits until the thread's earlier operations on the unit have taken effect
(R280). -/
def execLw (x : Exec) (rd ra : Fin 32) (imm : BitVec 16) (s : State) : Out :=
  .next (s.issue x fun s =>
    let a := s.ea x ra imm
    if a < 0x400000 && a % 4 == 0 then
      if s.unitBusy x a then s
      else
        let (w, s1) := s.readReg (rqOf x) a
        (s1.setG x rd w).advance x
    else s.loadMem x a 4 fun s l => s.setG x rd (bytesWord l))

/-- R233, R234. A thread stores only to TB, CH and TC blocks. -/
def execSw (x : Exec) (rd ra : Fin 32) (imm : BitVec 16) (s : State) : Out :=
  .next (s.issue x fun s =>
    let a := s.ea x ra imm
    let w := s.g x rd
    if a < 0x400000 && a % 4 == 0 then
      if mapped a && !canWrite (rqOf x) a then s.illegal x 3
      else if s.opBusy x a then s
      else (s.advance x).writeReg (rqOf x) a w
    else s.storeMem x a (wordBytes w))

/-! ### The scrubber -/

/-- R485: the word at `a`: clean (0), a corrected error (1), an uncorrectable error (2). The bank's row is open. -/
def execSramScrub (a : Nat) (kind : Fin 3) (s : State) : Out :=
  .next (
    if !inQueue a || !s.bankOn a || kind = 0 then s
    else
      let (row, s1) := s.fresh
      let s2 : State := if kind = 2 then { s1 with ue := a / 8 :: s1.ue.filter (· != a / 8) } else s1
      s2.raise (288 + bankOf a) kind.val row)

end Sys2Proof.Machine
end

