-- ==== Sys2Proof/Machine/UcsChan.lean ====
section
/-!
DEFINITION. The command catalogue (R314), first part: a command in execution, session and identity (Table 11-9), and
channels (Table 11-10). A row's command stands for one that its executor has taken (R307); COMMAND_DISPATCH runs the
same functions from a frame's body.
-/

namespace Sys2Proof.Machine

/-! ### A command in execution -/

/-- Command m is outstanding and has started. -/
def State.ucsBegin (s : State) (m : Cmd) (code : Nat) : State :=
  let mine := fun (c : OutCmd) => c.names m && !c.orphan
  if s.cmds.any mine then
    { s with cmds := s.cmds.map fun c => if mine c then { c with code := code, started := true } else c }
  else { s with cmds := s.cmds ++ [{ rq := m.rq, tag := m.tag, code := code, flags := 0, body := [], started := true }] }

/-- The execution of a command. Nothing starts under a tag whose command has started and is not answered (R301). -/
def State.ucs (s : State) (m : Cmd) (code : Nat) (f : State → State) : State :=
  if s.cmds.any fun c => c.names m && !c.orphan && c.started then s else f (s.ucsBegin m code)

/-- A command posts the operation that its row names; it completes when the operation does. -/
def State.ucsPost (s : State) (m : Cmd) (unit : Unit') (kind : OpKind) : State :=
  State.opFlit { s with ops := s.ops ++ [{ who := .ucs m, unit := unit, kind := kind }] } unit 0

/-- A command that answers with register reads (R305). -/
def State.ucsRead (s : State) (m : Cmd) (code : Nat) (l : List Nat) : State :=
  let r := s.readRegs m.rq l
  r.2.finish m code stOk r.1

/-- A command refused with BAD_ARG. -/
def State.ucsBad (s : State) (m : Cmd) (code : Nat) : State := s.finish m code stBadArg []

/-- A number as a word. -/
def nw (n : Nat) : Word := BitVec.ofNat 32 n

/-- A command on channel `ch`, BAD_ARG where there is none. -/
def State.ucsCh (s : State) (m : Cmd) (code : Nat) (ch : Word) (f : Fin 24 → State) : State :=
  match chan? ch.toNat with
  | some c => f c
  | none => s.ucsBad m code

/-- A command that posts a channel operation. -/
def State.ucsChOp (s : State) (m : Cmd) (code : Nat) (ch : Word) (ok : Bool) (k : OpKind) : State :=
  s.ucsCh m code ch fun c => if ok then s.ucsPost m (.chan c) k else s.ucsBad m code

/-! ### Session and identity -/

/-- NOP. -/
def State.uNop (s : State) (m : Cmd) : State := s.finish m 0x0000 stOk []

/-- IDENTIFY. -/
def State.uIdentify (s : State) (m : Cmd) : State :=
  s.finish m 0x0001 stOk [s.rd R.GLB_PART, s.rd R.GLB_STEP, s.rd R.GLB_UCS, nw (s.get F.GLB_PATCH.PATCHES),
    s.rd R.GLB_PSET_VER, s.rd R.GLB_SERIAL_LO, s.rd R.GLB_SERIAL_HI]

/-- STATE. -/
def State.uState (s : State) (m : Cmd) : State :=
  let l := s.svcFields
  let svc := (List.range 4).foldl (fun n i =>
    let f := l.getD i (false, 0)
    n + b2n (f.1 && s.svcUp f.2) * 2 ^ i) 0
  s.finish m 0x0002 stOk [nw (b2n s.ready), nw (b2n s.slow), nw s.core, nw svc, nw (s.outstandingOf m.rq)]

/-- NOTICE. -/
def State.uNotice (s : State) (m : Cmd) (mask : Word) : State :=
  if mask.toNat < 128 then
    (s.modReq m.rq fun x => { x with mask := mask }).finish m 0x0004 stOk [(s.req m.rq).mask]
  else s.ucsBad m 0x0004

/-- ABORT (R310). -/
def State.uAbort (s : State) (m : Cmd) (target : Word) : State :=
  let t : Cmd := { rq := m.rq, tag := BitVec.ofNat 16 target.toNat }
  match if target.toNat < 65536 then s.cmds.find? (fun c => c.names t && !c.orphan) else none with
  | none => s.ucsBad m 0x0005
  | some c =>
    if c.started then s.finish m 0x0005 stDenied []
    else (s.respondSt t c.code stAborted).finish m 0x0005 stOk []

/-! ### Channels -/

/-- CH_SET. -/
def State.uChSet (s : State) (m : Cmd) (ch param value : Word) : State :=
  s.ucsChOp m 0x0100 ch (param.toNat ≤ 9) (.chset param.toNat value)

/-- CH_RAMP. -/
def State.uChRamp (s : State) (m : Cmd) (ch param value slew : Word) : State :=
  s.ucsChOp m 0x0101 ch (param.toNat ≤ 3) (.chramp param.toNat value slew)

/-- CH_MODE. -/
def State.uChMode (s : State) (m : Cmd) (ch axes word : Word) : State :=
  s.ucsChOp m 0x0102 ch (axes.toNat < 128) (.chmode axes.toNat word)

/-- CH_GANG. -/
def State.uChGang (s : State) (m : Cmd) (ch size : Word) : State :=
  s.ucsChOp m 0x0103 ch (size.toNat < 4) (.chgang size.toNat)

/-- CH_GET. -/
def State.uChGet (s : State) (m : Cmd) (ch : Word) : State :=
  s.ucsCh m 0x0104 ch fun c => s.ucsRead m 0x0104 [R.MD_REQ c, R.MD_RES c, R.MD_WHY c, R.PS_STAT c, R.PS_RATING c,
    R.RG_STAT c, R.RG_TGT c, R.MS_RANGE c, R.MS_STAGE c]

/-- CH_LATCH. -/
def State.uChLatch (s : State) (m : Cmd) (ch : Word) : State :=
  s.ucsCh m 0x0105 ch fun c => s.ucsRead m 0x0105 [R.PS_LATCH c, R.RG_LATCH c, R.BM_LATCH c, R.CG_LATCH c, R.MS_LATCH c]

/-- The image of the record of CH_OFF: CHANNEL, at the present count, mode request of the axis ROLE with role OFF. -/
def State.offImage (s : State) (mask : Word) : List Word := [s.count, 0, 0, 0, mask, 0x02000001, 0, 0]

/-- One role request OFF per channel of the mask, ascending. -/
def State.offEach (s : State) (mask : Word) : State := (maskCh mask.toNat).foldl (fun s c => (s.modeReq c 1 0).2) s

/-- CH_OFF. With the pool empty or on the slow path the channels are asked one by one (R313). -/
def State.uChOff (s : State) (m : Cmd) (mask : Word) : State :=
  if mask = 0 || 0x1000000 ≤ mask.toNat then s.ucsBad m 0x0106
  else
    let each := (s.offEach mask).finish m 0x0106 stOk []
    if s.slow then each
    else match s.svcOf m with
      | none => each
      | some t =>
        let r := s.placeRec (s.offImage mask) t (some m.rq) true
        if bitsOf r.1 7 0 = stOk then r.2.finish m 0x0106 stOk [] else (r.2.offEach mask).finish m 0x0106 stOk []

/-- CH_CLEAR (R448). -/
def State.uChClear (s : State) (m : Cmd) (ch : Word) : State :=
  s.ucsCh m 0x0107 ch fun c =>
    let r := s.chClear c
    r.2.finish m 0x0107 (if r.1 then stOk else stDenied) []

/-! ### Rows -/

/-- R314. -/
def execNop (m : Cmd) (s : State) : Out := .next (s.ucs m 0x0000 fun s => s.uNop m)

/-- R314. -/
def execIdentify (m : Cmd) (s : State) : Out := .next (s.ucs m 0x0001 fun s => s.uIdentify m)

/-- R314. -/
def execState (m : Cmd) (s : State) : Out := .next (s.ucs m 0x0002 fun s => s.uState m)

/-- R304. -/
def execNotice (m : Cmd) (mask : Word) (s : State) : Out := .next (s.ucs m 0x0004 fun s => s.uNotice m mask)

/-- R310. -/
def execAbort (m : Cmd) (target : Word) (s : State) : Out := .next (s.ucs m 0x0005 fun s => s.uAbort m target)

/-- R240. -/
def execChSet (m : Cmd) (ch param value : Word) (s : State) : Out :=
  .next (s.ucs m 0x0100 fun s => s.uChSet m ch param value)

/-- R241. -/
def execChRamp (m : Cmd) (ch param value slew : Word) (s : State) : Out :=
  .next (s.ucs m 0x0101 fun s => s.uChRamp m ch param value slew)

/-- R242. -/
def execChMode (m : Cmd) (ch axes word : Word) (s : State) : Out :=
  .next (s.ucs m 0x0102 fun s => s.uChMode m ch axes word)

/-- R243. -/
def execChGang (m : Cmd) (ch size : Word) (s : State) : Out := .next (s.ucs m 0x0103 fun s => s.uChGang m ch size)

/-- R314. -/
def execChGet (m : Cmd) (ch : Word) (s : State) : Out := .next (s.ucs m 0x0104 fun s => s.uChGet m ch)

/-- R314. -/
def execChLatch (m : Cmd) (ch : Word) (s : State) : Out := .next (s.ucs m 0x0105 fun s => s.uChLatch m ch)

/-- R314. -/
def execChOff (m : Cmd) (mask : Word) (s : State) : Out := .next (s.ucs m 0x0106 fun s => s.uChOff m mask)

/-- R448. -/
def execChClear (m : Cmd) (ch : Word) (s : State) : Out := .next (s.ucs m 0x0107 fun s => s.uChClear m ch)

end Sys2Proof.Machine
end

