-- ==== Sys2Proof/Machine/Waves.lean ====
section
/-!
DEFINITION. The sine of a generated profile (R122, R315) in fixed point: 10^30 stands for 1. The series are carried far
beyond the 10 µV of a point; which of the two values beside the exact one a point takes is open (log entry 31).
-/

namespace Sys2Proof.Machine

/-- One in fixed point. -/
def fxOne : Int := 1000000000000000000000000000000

/-- The product in fixed point. -/
def fxMul (a b : Int) : Int := a * b / fxOne

/-- Two pi. -/
def fxTau : Int := 6283185307179586476925286766559

/-- The terms of a power series: each is the last times x over the next of the divisors. -/
def fxTerms (x : Int) (d : Nat → Nat) : Nat → Nat → Int → Int
  | 0, _, _ => 0
  | fuel + 1, k, t => t + fxTerms x d fuel (k + 1) (fxMul t x / (d k : Int))

/-- The sine of an angle in turns. -/
def fxSin (x : Int) : Int :=
  let h := fxOne / 2
  let y := fxMul ((x + h) % fxOne - h) fxTau
  fxTerms (-(fxMul y y)) (fun k => (2 * k + 2) * (2 * k + 3)) 30 0 y

/-- The exponential function. -/
def fxExp (x : Int) : Int := fxTerms x (fun k => k + 1) 100 0 fxOne

/-- The sum of z^(2k+1) / (2k+1): the inverse hyperbolic tangent of z. -/
def fxAtanh (z : Int) : Nat → Nat → Int → Int
  | 0, _, _ => 0
  | fuel + 1, k, t => t / (2 * k + 1 : Nat) + fxAtanh z fuel (k + 1) (fxMul (fxMul t z) z)

/-- The natural logarithm of a / b, both positive: the power of two taken out, the rest by the series. -/
def fxLog (a b : Nat) : Int :=
  let k := Nat.log2 a
  let j := Nat.log2 b
  let ln := fun (u v : Int) => let z := (u - v) * fxOne / (u + v); 2 * fxAtanh z 40 0 z
  ((k : Int) - j) * ln 2 1 + ln a (2 ^ k : Nat) - ln b (2 ^ j : Nat)

/-- A sine segment of a profile: its mean, peak to peak, the frequencies at its two ends in mHz, and whether the
sweep between them is logarithmic. -/
structure Sine where
  dc  : Nat
  pp  : Nat
  f0  : Nat
  f1  : Nat
  log : Bool := false

/-- Has the sweep a law: a logarithmic one neither begins nor ends at 0. -/
def Sine.lawful (w : Sine) : Bool := !w.log || w.f0 == w.f1 || (w.f0 != 0 && w.f1 != 0)

/-- The phase in turns, k counts after the start of a segment of n counts, at a count rate: the sine starts at phase 0
(DEDUCED, log entry 31). -/
def Sine.phase (w : Sine) (rate n k : Nat) : Int :=
  let u : Int := 1000 * rate
  if w.f0 = w.f1 || !w.lawful then (w.f0 * k : Nat) * fxOne / u
  else if w.log then
    let l := fxLog w.f1 w.f0
    (w.f0 * n : Nat) * ((fxExp (l * k / n) - fxOne) * fxOne / l) / u
  else ((w.f0 : Int) * (2 * n * k : Nat) + ((w.f1 : Int) - w.f0) * (k * k : Nat)) * fxOne / (2 * n * u)

/-- The value of a sine segment, in 10 µV. `r`: the free value that rounds it, and that stands for it where the sweep
has no law. -/
def Sine.value (w : Sine) (rate n k r : Nat) : Nat :=
  if w.lawful then
    let x := (w.dc : Int) + (w.pp : Int) * fxSin (w.phase rate n k) / (2 * fxOne) + (r % 2 : Nat)
    (min ((w.dc + w.pp / 2 : Nat) : Int) (max ((w.dc : Int) - (w.pp / 2 : Nat)) x)).toNat
  else w.dc - w.pp / 2 + r % (2 * (w.pp / 2) + 1)

/-- The longest gap in counts that is a sixteenth of a period of frequency f, of n counts. -/
def sineGapMax (rate f n : Nat) : Nat := if f = 0 then max 1 n else max 1 (rate * 1000 / (f * 16))

/-- The gap to the next point of a sine segment, at most a sixteenth of the period: a free gap where it turns the phase
by no more than that, else a free one that suits the higher frequency of the sweep. -/
def Sine.gap (w : Sine) (rate n k r : Nat) : Nat :=
  let g := 1 + r % sineGapMax rate (min w.f0 w.f1) n
  if w.lawful && decide (16 * (w.phase rate n (k + g) - w.phase rate n k) ≤ fxOne) then g
  else 1 + r % sineGapMax rate (max w.f0 w.f1) n

end Sys2Proof.Machine
end

