-- ==== Sys2Proof/Machine/UcsTbl.lean ====
section
/-!
DEFINITION. The command catalogue (R314): table extents and generated profiles (Table 11-11, R315), the table library,
the battery model and the chargers (Table 11-12).
-/

namespace Sys2Proof.Machine

/-! ### Extents (Table 11-11) -/

/-- The extent that holds the n bytes at address a. -/
def State.inExtent (s : State) (a n : Nat) : Option (Nat × Nat) :=
  s.extents.find? fun e => decide (e.1 ≤ a) && decide (a + n ≤ e.1 + e.2)

/-- Is the span of n bytes at a free and within the tables region? -/
def State.spanFree (s : State) (a n : Nat) : Bool :=
  decide (0x10E00000 ≤ a ∧ a + n ≤ 0x11A00000) && s.extents.all fun e => decide (a + n ≤ e.1 ∨ e.1 + e.2 ≤ a)

/-- The lowest free address for n bytes. -/
def State.lowestSpan (s : State) (n : Nat) : Option Nat :=
  ((0x10E00000 :: s.extents.map fun e => e.1 + e.2).filter fun a => s.spanFree a n).min?

/-- TBL_ALLOC. Every extent is a multiple of 64 bytes long, so that each starts at a multiple of 64. -/
def State.uTblAlloc (s : State) (m : Cmd) (size align : Word) : State :=
  let n := (size.toNat + 63) / 64 * 64
  if size = 0 || 12582912 < size.toNat || (align ≠ 16 && align ≠ 64) then s.ucsBad m 0x0200
  else match s.lowestSpan n with
    | some a => State.finish { s with extents := s.extents ++ [(a, n)] } m 0x0200 stOk [nw a]
    | none => s.finish m 0x0200 stNoRes []

/-- Does the device read from the extent: a profile in force, a model in force, a running sweep? -/
def State.extentUsed (s : State) (e : Nat × Nat) : Bool :=
  let within := fun (a : Nat) => decide (e.1 ≤ a) && decide (a < e.1 + e.2)
  let under := fun (c : Fin 24) (law : Nat) => (s.resMode c).law == law || (s.curMode c).law == law
  allCh.any fun c => (under c 5 && within (s.profAddr c)) || (under c 4 && within (s.bmAddr c)) ||
    (s.is (F.MS_SWP_CTRL.RUN c) && within (s.get (F.MS_SWP_ADDR.ADDR c) * 16))

/-- TBL_FREE. -/
def State.uTblFree (s : State) (m : Cmd) (addr : Word) : State :=
  match s.extents.find? fun e => e.1 == addr.toNat with
  | none => s.ucsBad m 0x0201
  | some e =>
    if s.extentUsed e then s.finish m 0x0201 stDenied []
    else State.finish { s with extents := s.extents.filter fun x => x.1 != e.1 } m 0x0201 stOk []

/-- TBL_WRITE. -/
def State.uTblWrite (s : State) (m : Cmd) (addr : Word) (data : List Word) : State :=
  match s.inExtent addr.toNat (4 * data.length) with
  | none => s.ucsBad m 0x0202
  | some _ => (s.stWords addr.toNat data).finish m 0x0202 stOk []

/-- The first address of an 8-byte word of the span that holds an uncorrectable error. -/
def State.ueSpan (s : State) (a n : Nat) : Option Nat :=
  (s.ue.find? fun u => decide (a < 8 * u + 8) && decide (8 * u < a + n)).map (8 * ·)

/-- The executor's load meets an uncorrectable error: MEMORY, and the command completes with INTERNAL (R285, R297,
R298). -/
def State.ucsFault (s : State) (m : Cmd) (code addr : Nat) : State :=
  let t := if s.slow then none else (s.svcOf m).bind thr?
  let s1 := s.finish m code stInternal []
  match t with
  | some t => s1.thrExcept t excMemory 1 (s1.rd (R.SEQ_THR_PC t)) (nw addr)
  | none => let k : Fin 2 := if s.core = 0 then 0 else 1
    s1.mssExcept k excMemory 1 (s1.mss[k]).pc (nw addr)

/-- A command that answers with len bytes of memory. -/
def State.ucsBytes (s : State) (m : Cmd) (code a len : Nat) : State :=
  match s.ueSpan a len with
  | some e => s.ucsFault m code e
  | none => s.finish m code stOk (bytesWords (len / 4) (s.loadBytes a len))

/-- A length of TBL_READ and MEM_READ: 4 to 4,092, a multiple of 4. -/
def readLen (n : Nat) : Bool := decide (4 ≤ n ∧ n ≤ 4092) && n % 4 == 0

/-- TBL_READ. -/
def State.uTblRead (s : State) (m : Cmd) (addr len : Word) : State :=
  if readLen len.toNat && (s.inExtent addr.toNat len.toNat).isSome then s.ucsBytes m 0x0203 addr.toNat len.toNat
  else s.ucsBad m 0x0203

/-! ### Generated profiles (R122, R315) -/

/-- A segment of a generated profile: its time in µs, the value at its end in 10 µV, and its sine. -/
structure Seg where
  dur  : Rat
  stop : Nat
  sine : Option Sine := none

/-- The AC bandwidth of the channel's loop profile in mHz (Table 04-4); CUSTOM states none. The profile is that of the
PROF field, also before its APPLY (DESIGN CHOICE, log entry 61). -/
def State.acBand (s : State) (c : Fin 24) : Option Nat := [25000000, 10000000, 2000000, 5000000][s.get (F.RG_LOOP.PROF c)]?

/-- The refusals of R122 and the points a kind needs where they are fixed: does the parameter list stand? -/
def profParamsOk (band : Option Nat) (kind : Nat) (p : List Nat) : Bool :=
  let v := fun (n : Nat) => decide (n ≤ 6000000)
  let f := fun (n : Nat) => match band with
    | some b => decide (n ≤ b)
    | none => true
  let wave := fun (dc pp : Nat) => decide (pp ≤ 2 * dc) && decide (2 * dc + pp ≤ 12000000)
  match kind, p with
  | 0, [vi, vf, vp, _, _, _, pp, fr, _, vfin] => v vi && v vf && wave vp pp && f fr && v vfin
  | 1, [vn, vd, _, _] => v vn && v vd
  | 2, [vn, vs, n, _, _] => v vn && decide (n * vs ≤ vn) && n != 0
  | 3, [va, vb, rate, _] => v va && v vb && rate != 0
  | 4, [dc, pp, f0, f1, law, _] => wave dc pp && f f0 && f f1 && decide (law ≤ 1)
  | _, _ => false

/-- The first value and the segments of a kind (Table 11-24). -/
def profSegs (kind : Nat) (p : List Nat) : Nat × List Seg :=
  match kind, p with
  | 0, [vi, vf, vp, tf, tfl, tp, pp, fr, tr, vfin] =>
    (vi, [⟨tf, vf, none⟩, ⟨tfl, vf, none⟩, ⟨100, vp, none⟩, ⟨tp, vp, some { dc := vp, pp := pp, f0 := fr, f1 := fr }⟩, ⟨tr, vfin, none⟩])
  | 1, [vn, vd, td, te] => (vn, [⟨te, vd, none⟩, ⟨td, vd, none⟩, ⟨te, vn, none⟩])
  | 2, [vn, vs, n, td, tr] =>
    (vn, (List.range n).flatMap fun k =>
      [⟨100, vn - (k + 1) * vs, none⟩, ⟨td, vn - (k + 1) * vs, none⟩, ⟨100, vn, none⟩, ⟨tr, vn, none⟩])
  | 3, [va, vb, rate, td] =>
    let t : Rat := mkRat (((va : Int) - vb).natAbs * 60000000 : Nat) rate
    (va, [⟨t, vb, none⟩, ⟨td, vb, none⟩, ⟨t, va, none⟩])
  | 4, [dc, pp, f0, f1, law, ts] =>
    (dc, [⟨ts, dc, some { dc := dc, pp := pp, f0 := f0, f1 := f1, log := law == 1 }⟩])
  | _, _ => (0, [])

/-- A time in counts; which of the two counts a time between them takes is open. -/
def profCount (key : List Word) (rate : Nat) (t : Rat) : Nat :=
  let x := t * (rate : Rat) / 1000000
  let n := x.floor.toNat
  if x = (n : Rat) then n else n + b2n (Config.profUp key n)

/-- The points inside a sine segment from offset o0 to o1, after offset a. -/
def sinePts (key : List Word) (rate o0 o1 : Nat) (w : Sine) : Nat → Nat → List (Nat × Nat)
  | _, 0 => []
  | a, fuel + 1 =>
    let b := a + w.gap rate (o1 - o0) (a - o0) (Config.sineGap key a)
    if o1 ≤ b then []
    else (b, w.value rate (o1 - o0) (b - o0) (Config.sineVal key b)) :: sinePts key rate o0 o1 w b fuel

/-- The points of the segments that follow time t and offset o. -/
def segPts (key : List Word) (rate : Nat) : Rat → Nat → List Seg → List (Nat × Nat)
  | _, _, [] => []
  | t, o, g :: l =>
    let t1 := t + g.dur
    let o1 := max (o + 1) (profCount key rate t1)
    match g.sine with
    | none => (o1, g.stop) :: segPts key rate t1 o1 l
    | some w => sinePts key rate o o1 w o (o1 - o) ++
        (o1, w.value rate (o1 - o) (o1 - o) (Config.sineVal key o1)) :: segPts key rate t1 o1 l

/-- PROF_GEN. -/
def State.uProfGen (s : State) (m : Cmd) (addr ch kind rate start flags : Word) (params : List Word) : State :=
  s.ucsCh m 0x0204 ch fun c =>
    let p := params.map (·.toNat)
    let r := rate.toNat
    let a := addr.toNat
    let key := rate :: kind :: params
    let needs := fun (n : Nat) => s.finish m 0x0204 stBadArg [nw n]
    if r = 0 || 125000000 < r || 1 < bitsOf flags 1 0 || 1 < bitsOf flags 3 2 || a % 16 ≠ 0 ||
        !profParamsOk (s.acBand c) kind.toNat p then s.ucsBad m 0x0204
    else if kind = 2 && 65536 < 1 + 4 * p.getD 2 0 then needs (1 + 4 * p.getD 2 0)
    else
      let (v0, l) := profSegs kind.toNat p
      let total := l.foldl (fun t g => t + g.dur) 0
      if (l.any fun g => decide (g.dur * (r : Rat) < 1000000)) || decide (2147483647 * 1000000 < total * (r : Rat)) then
        s.ucsBad m 0x0204
      else
        let pts := (0, v0) :: segPts key r 0 0 l
        let n := pts.length
        if 65536 < n then needs n
        else match s.inExtent a 0 with
          | none => s.ucsBad m 0x0204
          | some e =>
            if e.1 + e.2 < a + (0x10 + 8 * n) then s.finish m 0x0204 stNoRes [nw (0x10 + 8 * n)]
            else
              let head := [nw (bitsOf flags 1 0 * 2 ^ 26 + bitsOf flags 3 2 * 2 ^ 24), nw n, start, 0]
              (s.stWords a (head ++ pts.flatMap fun x => [nw x.1, nw x.2])).finish m 0x0204 stOk [nw n, nw (0x10 + 8 * n)]

/-! ### The table library -/

/-- LIB_LOAD. -/
def State.uLibLoad (s : State) (m : Cmd) (id addr : Word) : State :=
  match (Config.libDir s.upd.lib).find? (fun e => e.1 == id.toNat), s.inExtent addr.toNat 0 with
  | some e, some x =>
    if x.1 + x.2 < addr.toNat + e.2.2.2 then s.finish m 0x0300 stNoRes []
    else (s.stBytes addr.toNat ((s.upd.lib.drop e.2.2.1).take e.2.2.2)).finish m 0x0300 stOk [nw e.2.2.2]
  | _, _ => s.ucsBad m 0x0300

/-- LIB_LIST. -/
def State.uLibList (s : State) (m : Cmd) (first : Word) : State :=
  let l := ((Config.libDir s.upd.lib).drop first.toNat).take 255
  s.finish m 0x0301 stOk (nw l.length :: l.flatMap fun e => [nw e.1, nw e.2.1, nw e.2.2.2])

/-! ### Battery model and chargers -/

/-- BM_GET. -/
def State.uBmGet (s : State) (m : Cmd) (ch : Word) : State :=
  s.ucsCh m 0x0302 ch fun c => s.ucsRead m 0x0302 [R.BM_STAT c, R.BM_SOC c, R.BM_VTERM c, R.BM_OCV c, R.BM_Q_LO c,
    R.BM_Q_HI c, R.BM_V1_LO c, R.BM_V1_HI c, R.BM_V2_LO c, R.BM_V2_HI c, R.BM_H_LO c, R.BM_H_HI c]

/-- BM_SET. SOC is checked as a write of BM_SOC is (R134). -/
def State.uBmSet (s : State) (m : Cmd) (ch mask soc : Word) (q v1 v2 h : BitVec 64) : State :=
  s.ucsCh m 0x0303 ch fun c =>
    let on := fun (i : Nat) (w : BmWrite) => if bitOf mask i then [w] else []
    if 0x7F < mask.toNat || (bitOf mask 0 && (bitOf mask 1 || 1000000 < soc.toNat || !s.bmTblOk (s.bmAddr c))) then
      s.ucsBad m 0x0303
    else
      let l := on 0 (.soc soc.toNat) ++ on 1 (.field .q q.toInt) ++ on 2 (.field .v1 v1.toInt) ++
        on 3 (.field .v2 v2.toInt) ++ on 4 (.field .h h.toInt) ++ on 5 .relax ++ on 6 .hyst
      (l.foldl (fun s w => s.bmWrite c w) s).finish m 0x0303 stOk []

/-- CG_PRESET and PACK_PRESET: the checks of R167, then the writes. -/
def State.uPreset (s : State) (m : Cmd) (code : Nat) (k : Fin 25) (chem ncell cap : Word) : State :=
  let n := ncell.toNat
  if 4 < chem.toNat || n = 0 || 40 < n || cap = 0 || 1000000 < cap.toNat ||
      6000000 < (presetOf chem.toNat).1.getD 4 0 * 100 * n then s.ucsBad m code
  else (((((s.set (F.CG_CFG.CHEM k) chem.toNat).set (F.CG_CFG.NCELL k) n).set (F.CG_CAP.CAP k) cap.toNat).loadPreset k)).ucsRead
    m code [R.CG_STAT k]

/-- CG_PRESET. -/
def State.uCgPreset (s : State) (m : Cmd) (ch chem ncell cap : Word) : State :=
  s.ucsCh m 0x0304 ch fun c => s.uPreset m 0x0304 c.castSucc chem ncell cap

/-- CG_GET. -/
def State.uCgGet (s : State) (m : Cmd) (ch : Word) : State :=
  s.ucsCh m 0x0305 ch fun c => s.ucsRead m 0x0305 [R.CG_STAT c, R.CG_TIME c, R.CG_IEFF c, R.CG_LATCH c]

/-- CG_CTRL. -/
def State.uCgCtrl (s : State) (m : Cmd) (ch bits : Word) : State :=
  s.ucsCh m 0x0306 ch fun c => (s.cgWrite c.castSucc (bits &&& 3)).ucsRead m 0x0306 [R.CG_STAT c]

/-! ### Rows -/

/-- R314. -/
def execTblAlloc (m : Cmd) (size align : Word) (s : State) : Out :=
  .next (s.ucs m 0x0200 fun s => s.uTblAlloc m size align)

/-- R314. -/
def execTblFree (m : Cmd) (addr : Word) (s : State) : Out := .next (s.ucs m 0x0201 fun s => s.uTblFree m addr)

/-- R314. -/
def execTblWrite (m : Cmd) (addr : Word) (data : List Word) (s : State) : Out :=
  .next (s.ucs m 0x0202 fun s => s.uTblWrite m addr data)

/-- R314. -/
def execTblRead (m : Cmd) (addr len : Word) (s : State) : Out := .next (s.ucs m 0x0203 fun s => s.uTblRead m addr len)

/-- R315. -/
def execProfGen (m : Cmd) (addr ch kind rate start flags : Word) (params : List Word) (s : State) : Out :=
  .next (s.ucs m 0x0204 fun s => s.uProfGen m addr ch kind rate start flags params)

/-- R314. -/
def execLibLoad (m : Cmd) (id addr : Word) (s : State) : Out := .next (s.ucs m 0x0300 fun s => s.uLibLoad m id addr)

/-- R314. -/
def execLibList (m : Cmd) (first : Word) (s : State) : Out := .next (s.ucs m 0x0301 fun s => s.uLibList m first)

/-- R314. -/
def execBmGet (m : Cmd) (ch : Word) (s : State) : Out := .next (s.ucs m 0x0302 fun s => s.uBmGet m ch)

/-- R314. -/
def execBmSet (m : Cmd) (ch mask soc : Word) (q v1 v2 h : BitVec 64) (s : State) : Out :=
  .next (s.ucs m 0x0303 fun s => s.uBmSet m ch mask soc q v1 v2 h)

/-- R314. -/
def execCgPreset (m : Cmd) (ch chem ncell cap : Word) (s : State) : Out :=
  .next (s.ucs m 0x0304 fun s => s.uCgPreset m ch chem ncell cap)

/-- R314. -/
def execCgGet (m : Cmd) (ch : Word) (s : State) : Out := .next (s.ucs m 0x0305 fun s => s.uCgGet m ch)

/-- R171. -/
def execCgCtrl (m : Cmd) (ch bits : Word) (s : State) : Out := .next (s.ucs m 0x0306 fun s => s.uCgCtrl m ch bits)

end Sys2Proof.Machine
end

