-- ==== Sys2Proof/Machine/UcsMeas.lean ====
section
/-!
DEFINITION. The command catalogue (R314): measurement, sweeps, capture and rings (Table 11-13, R316), timebase and
scheduling (Table 11-14), programs and threads (Table 11-15, R264, R265).
-/

namespace Sys2Proof.Machine

/-! ### Measurement -/

/-- MEAS. -/
def State.uMeas (s : State) (m : Cmd) (ch qty : Word) : State :=
  s.ucsChOp m 0x0400 ch (measOk qty.toNat) (.meas qty.toNat 0)

/-- WIN. -/
def State.uWin (s : State) (m : Cmd) (ch op len ctrl : Word) : State :=
  s.ucsCh m 0x0401 ch fun c =>
    match op.toNat with
    | 0 => s.ucsPost m (.chan c) (.statRead 0)
    | 1 => s.ucsPost m (.chan c) .statStart
    | 2 => s.ucsPost m (.chan c) .statStop
    | 3 =>
      if len.toNat < 4 then s.ucsBad m 0x0401
      else ((s.writeReg m.rq (R.MS_WIN_LEN c) len).writeReg m.rq (R.MS_WIN_CTRL c) (ctrl &&& 0x3FFFFFFF)).finish m 0x0401 stOk []
    | _ => s.ucsBad m 0x0401

/-- CAP. -/
def State.uCap (s : State) (m : Cmd) (ch op ctrl dec len : Word) : State :=
  s.ucsCh m 0x0402 ch fun c =>
    match op.toNat with
    | 0 =>
      if capOk ctrl then
        ((s.writeReg m.rq (R.MS_CAP_DEC c) dec).writeReg m.rq (R.MS_CAP_LEN c) len).ucsPost m (.chan c) (.capStart ctrl)
      else s.ucsBad m 0x0402
    | 1 => s.ucsPost m (.chan c) .capStop
    | _ => s.ucsBad m 0x0402

/-- SWEEP. -/
def State.uSweep (s : State) (m : Cmd) (ch op addr ctrl : Word) : State :=
  s.ucsCh m 0x0403 ch fun c =>
    let stat := fun (s : State) => s.ucsRead m 0x0403 [R.MS_SWP_STAT c]
    match op.toNat with
    | 0 =>
      if s.sweepOk (addr.toNat / 16 * 16) then
        stat ((s.writeReg m.rq (R.MS_SWP_ADDR c) addr).swpWrite c (ctrl &&& 0x1FFFFFFF ||| 0x80000000))
      else s.ucsBad m 0x0403
    | 1 => stat (s.sweepAbort c)
    | 2 => stat s
    | _ => s.ucsBad m 0x0403

/-! ### Rings (R316, R420) -/

/-- Is a geometry within R316? -/
def ringGeom (size slots : Nat) : Bool :=
  size % 64 == 0 && decide (64 ≤ size ∧ size ≤ 4096) && decide (16 ≤ slots ∧ slots ≤ 1048576) && 2 ^ slots.log2 == slots

/-- Is the span of n bytes at a free, within the ring region and one available bank? -/
def State.ringFits (s : State) (a n : Nat) : Bool :=
  decide (0x12000000 ≤ a ∧ a + n ≤ 0x16000000) && bankOf a == bankOf (a + n - 1) && s.bankOn a &&
    s.rings.all fun r => decide (a + n ≤ r.base ∨ r.base + r.size * r.slots ≤ a)

/-- A base for n bytes among the 16,384 pages of the ring region, searched from page k on. -/
def State.ringBase (s : State) (n k : Nat) : Nat → Option Nat
  | 0 => none
  | f + 1 =>
    let a := 0x12000000 + 4096 * (k % 16384)
    if s.ringFits a n then some a else s.ringBase n (k + 1) f

/-- RING_ALLOC; which span of those that fit is open. -/
def State.uRingAlloc (s : State) (m : Cmd) (ring size slots : Word) : State :=
  let free := (List.range 4096).find? fun n => (s.ring? n).isNone
  let any := ring == 0xFFFFFFFF
  if !ringGeom size.toNat slots.toNat || (!any && 4096 ≤ ring.toNat) then s.ucsBad m 0x0410
  else if !any && (s.ring? ring.toNat).isSome then s.finish m 0x0410 stDenied []
  else match if any then free else some ring.toNat with
    | none => s.finish m 0x0410 stNoRes []
    | some n =>
      let (v, s1) := s.fresh
      match s1.ringBase (size.toNat * slots.toNat) v 16384 with
      | none => s1.finish m 0x0410 stNoRes []
      | some a =>
        State.finish { s1 with rings := s1.rings ++ [{ num := n, base := a, size := size.toNat, slots := slots.toNat }] }
          m 0x0410 stOk [nw n, nw a]

/-- Does a running capture, an enabled window or a running sweep name ring n? -/
def State.ringNamed (s : State) (n : Nat) : Bool :=
  allCh.any fun c => (s.is (F.MS_CAP_CTRL.RUN c) && s.get (F.MS_CAP_CTRL.RING c) == n) ||
    (s.is (F.MS_WIN_CTRL.RING_EN c) && s.get (F.MS_WIN_CTRL.RING c) == n) ||
    (s.is (F.MS_SWP_CTRL.RUN c) && s.get (F.MS_SWP_CTRL.RING c) == n)

/-- A command on an allocated ring. -/
def State.ucsRing (s : State) (m : Cmd) (code : Nat) (ring : Word) (f : Ring → State) : State :=
  match s.ring? ring.toNat with
  | some r => f r
  | none => s.ucsBad m code

/-- RING_FREE. -/
def State.uRingFree (s : State) (m : Cmd) (ring : Word) : State :=
  s.ucsRing m 0x0411 ring fun r =>
    if r.sub.isSome || s.ringNamed r.num then s.finish m 0x0411 stDenied []
    else State.finish { s with rings := s.rings.filter fun x => x.num != r.num } m 0x0411 stOk []

/-- RING_READ. -/
def State.uRingRead (s : State) (m : Cmd) (ring max : Word) : State :=
  s.ucsRing m 0x0412 ring fun r =>
    let n := min (min max.toNat ((4096 - 8) / r.size)) r.fill
    if s.bufFenced r.base (r.slots * r.size) then s.finish m 0x0412 stFenced []
    else if r.sub.isSome then s.finish m 0x0412 stDenied []
    else if r.fill = 0 then s.finish m 0x0412 stNotReady []
    else
      let l := (List.range n).flatMap fun i => s.ldWords (r.slot (r.head + i)) (r.size / 4)
      (s.modRing r.num fun r => { r with head := (r.head + n) % 2 ^ 32 }).finish m 0x0412 stOk (nw n :: l)

/-- RING_GET. -/
def State.uRingGet (s : State) (m : Cmd) (ring : Word) : State :=
  s.ucsRing m 0x0413 ring fun r => s.finish m 0x0413 stOk [nw r.base, nw r.size, nw r.slots, nw r.head, nw r.tail, nw r.drop]

/-- RING_SUB (R420). TW_M is no session: DENIED. -/
def State.uRingSub (s : State) (m : Cmd) (ring endpoint : Word) : State :=
  s.ucsRing m 0x0414 ring fun r =>
    let held := match r.sub with
      | some (q, _) => q != m.rq
      | none => false
    let session := match m.rq with
      | .session _ => true
      | _ => false
    if 0x10000 ≤ endpoint.toNat then s.ucsBad m 0x0414
    else if held || !session then s.finish m 0x0414 stDenied []
    else if endpoint = 0 then (s.modRing r.num fun r => { r with sub := none }).finish m 0x0414 stOk []
    else (s.modRing r.num fun r =>
      { r with sub := some (m.rq, endpoint.toNat), sent := if r.sub.isSome then r.sent else r.head }).finish m 0x0414 stOk []

/-! ### Timebase and scheduling -/

/-- TB_GET. -/
def State.uTbGet (s : State) (m : Cmd) : State :=
  s.ucsRead m 0x0500 [R.TB_CTRL, R.TB_STAT, R.TB_EXT_LO, R.TB_EXT_HI, R.TB_DTIME_LO, R.TB_DTIME_HI, R.TB_POOL, R.TB_WALK]

/-- TB_SET: the write of TB_CTRL, and BAD_ARG where CFG_REJ reads 1 afterwards. -/
def State.uTbSet (s : State) (m : Cmd) (ctrl : Word) : State :=
  let r := (s.writeTbCtrl ctrl).readReg m.rq R.TB_STAT
  if bitOf r.1 F.TB_STAT.CFG_REJ.lo then r.2.ucsBad m 0x0501 else r.2.finish m 0x0501 stOk [r.1]

/-- TB_SRC. The mains source has no IDX_ERR and no SRC_CNT: its two words are open. -/
def State.uTbSrc (s : State) (m : Cmd) (n cfg val period tol : Word) : State :=
  let i := n.toNat
  if 3 < i then s.ucsBad m 0x0502
  else if i = 3 then
    let r := (s.writeReg m.rq R.MAINS_CFG cfg).freshWords 2
    r.2.finish m 0x0502 stOk r.1
  else
    ((((s.writeReg m.rq (R.SRC_CFG i) cfg).writeReg m.rq (R.IDX_VAL i) val).writeReg m.rq (R.IDX_PERIOD i) period).writeReg
      m.rq (R.IDX_TOL i) tol).ucsRead m 0x0502 [R.IDX_ERR i, R.SRC_CNT i]

/-- TB_RELEASE. -/
def State.uTbRelease (s : State) (m : Cmd) (snap : Word) : State := (s.release (bitOf snap 0)).finish m 0x0503 stOk []

/-- SCHED; no record on the slow path (R313). -/
def State.uSched (s : State) (m : Cmd) (image : List Word) : State :=
  if image.length ≠ 8 then s.ucsBad m 0x0504
  else if s.slow then s.finish m 0x0504 stNoRes []
  else s.ucsPost m .hub (.sched image)

/-- ARM. -/
def State.uArm (s : State) (m : Cmd) (image : List Word) : State :=
  if image.length ≠ 8 then s.ucsBad m 0x0505
  else if s.slow then s.finish m 0x0505 stNoRes []
  else s.ucsPost m .hub (.arm image)

/-- DISARM, executed by the MSS (R250). -/
def State.uDisarm (s : State) (m : Cmd) (index : Word) : State := s.ucsPost m .hub (.disarm index.toNat)

/-- GT_SET. -/
def State.uGtSet (s : State) (m : Cmd) (n cfg cmp period : Word) : State :=
  if h : n.toNat < 16 then
    let k : Fin 16 := ⟨n.toNat, h⟩
    if 0x7FFFFFFF < period.toNat || (21 ≤ bitsOf cfg 4 0 && bitsOf cfg 4 0 ≤ 30) then s.ucsBad m 0x0507
    else
      let s1 := (s.writeReg m.rq (R.GT_CFG k) cfg).writeReg m.rq (R.GT_PERIOD k) period
      (if bitOf cfg 31 then s1.writeGtCmp k cmp else s1).ucsRead m 0x0507 [R.GT_STAT k]
  else s.ucsBad m 0x0507

/-- GT_GET. -/
def State.uGtGet (s : State) (m : Cmd) (n : Word) : State :=
  let k := n.toNat
  if k < 16 then s.ucsRead m 0x0508 [R.GT_CAP_LO k, R.GT_CAP_HI k, R.GT_STAT k] else s.ucsBad m 0x0508

/-! ### Load images (R264, R265) -/

/-- A segment descriptor (Table 09-14). -/
structure SegDesc where
  ty     : Nat
  addr   : Nat
  size   : Nat
  offset : Nat

/-- Segment i of the image at a. -/
def State.segDesc (s : State) (a i : Nat) : SegDesc :=
  let w := fun (k : Nat) => s.ldWord (a + 0x20 + 16 * i + k)
  { ty := bitsOf (w 0) 31 24, addr := (w 4).toNat, size := (w 8).toNat, offset := (w 12).toNat }

/-- Do two spans share a byte? -/
def overlap (a n b k : Nat) : Bool := decide (0 < n ∧ 0 < k ∧ a < b + k ∧ b < a + n)

/-- The checks of R265 on one segment of an image of `len` bytes staged at a. -/
def SegDesc.ok (d : SegDesc) (a len : Nat) : Bool :=
  decide (1 ≤ d.ty ∧ d.ty ≤ 4) && d.addr % (if d.ty = 1 then 4 else 8) == 0 &&
    (if d.ty = 4 then decide (0x10E00000 ≤ d.addr ∧ d.addr + d.size ≤ 0x11A00000)
     else decide (0x10600000 ≤ d.addr ∧ d.addr + d.size ≤ 0x10C00000)) &&
    (d.ty == 3 || decide (d.offset + d.size ≤ len)) && !overlap d.addr d.size a len

/-- No two segments of the list overlap. -/
def segsApart : List SegDesc → Bool
  | [] => true
  | d :: l => l.all (fun e => !overlap d.addr d.size e.addr e.size) && segsApart l

/-- Is a thread of a loaded image running: one that was started in a segment of it, or whose PC lies in one? -/
def State.imageRuns (s : State) (i : Image) : Bool :=
  let within := fun (w : Word) => i.segs.any fun g => decide (g.1 ≤ w.toNat ∧ w.toNat < g.1 + g.2)
  (List.finRange 64).any fun t => s.thrLive t && (within s.threads[t].entry || within (s.rd (R.SEQ_THR_PC t)))

/-- Does the load share a byte with the image? -/
def Image.hit (i : Image) (l : List SegDesc) : Bool := i.segs.any fun g => l.any fun d => overlap d.addr d.size g.1 g.2

/-- Does the image at a pass the checks of R265? -/
def State.imageOk (s : State) (a len : Nat) (l : List SegDesc) : Bool :=
  let w := fun (k : Nat) => (s.ldWord (a + k)).toNat
  let b := s.ldBytes a len
  let entry := w 0x0C
  decide (0x20 ≤ len) && w 0 == 0x4C47524E && w 4 / 65536 == 1 && decide (w 8 ≤ 1) && decide (1 ≤ w 0x10 ∧ w 0x10 ≤ 256) &&
    w 0x14 == len && decide (0x20 + 16 * w 0x10 ≤ len) &&
    crc32c (b.take 0x18 ++ [0, 0, 0, 0] ++ b.drop 0x1C) == w 0x18 &&
    l.all (fun d => d.ok a len) && segsApart l &&
    (l.any fun d => d.ty == 1 && decide (d.addr ≤ entry ∧ entry < d.addr + d.size)) &&
    !(s.images.any fun i => i.hit l && s.imageRuns i)

/-- Write one segment. -/
def State.loadSeg (s : State) (a : Nat) (d : SegDesc) : State :=
  s.stBytes d.addr (if d.ty = 3 then List.replicate d.size 0 else s.ldBytes (a + d.offset) d.size)

/-- IMG_LOAD. -/
def State.uImgLoad (s : State) (m : Cmd) (addr len : Word) : State :=
  let a := addr.toNat
  let n := min (s.ldWord (a + 0x10)).toNat 256
  let l := (List.range n).map (s.segDesc a)
  if (s.inExtent a len.toNat).isNone then s.ucsBad m 0x0600
  else match s.ueSpan a len.toNat with
    | some e => s.ucsFault m 0x0600 e
    | none =>
      if s.imageOk a len.toNat l then
        let s1 := l.foldl (fun s d => s.loadSeg a d) s
        State.finish { s1 with images := (s1.images.filter fun i => !i.hit l) ++ [{ segs := l.map fun d => (d.addr, d.size) }] }
          m 0x0600 stOk [s.ldWord (a + 0x0C), nw n]
      else s.ucsBad m 0x0600

/-! ### Threads -/

/-- A command on thread t that service threads refuse with DENIED (R295). -/
def State.ucsThr (s : State) (m : Cmd) (code : Nat) (t : Word) (f : Fin 64 → State) : State :=
  match thr? t.toNat with
  | none => s.ucsBad m code
  | some k => if s.isSvc k then s.finish m code stDenied [] else f k

/-- THR_START. -/
def State.uThrStart (s : State) (m : Cmd) (t pc arg : Word) : State :=
  s.ucsThr m 0x0601 t fun k =>
    if s.slow then s.finish m 0x0601 stNoRes []
    else if !fetchable pc.toNat then s.ucsBad m 0x0601
    else
      let r := (s.wr (R.SEQ_THR_ARG k) arg).tctlStart k pc
      r.2.finish m 0x0601 r.1 []

/-- THR_STOP. -/
def State.uThrStop (s : State) (m : Cmd) (t : Word) : State :=
  s.ucsThr m 0x0602 t fun k => (s.tctlStop k).finish m 0x0602 stOk []

/-- THR_GET. -/
def State.uThrGet (s : State) (m : Cmd) (t : Word) : State :=
  let k := t.toNat
  if k < 64 then s.ucsRead m 0x0603 [R.SEQ_THR_STAT k, R.SEQ_THR_PC k, R.SEQ_THR_EXC k, R.SEQ_THR_EPC k, R.SEQ_THR_EADDR k]
  else s.ucsBad m 0x0603

/-- THR_CFG. -/
def State.uThrCfg (s : State) (m : Cmd) (t cfg : Word) : State :=
  s.ucsThr m 0x0604 t fun k => (s.wr (R.SEQ_THR_CFG k) (cfg &&& 0xE0000000)).finish m 0x0604 stOk []

/-- EXC_CLR. -/
def State.uExcClr (s : State) (m : Cmd) (lo hi : Word) : State :=
  let l := (List.finRange 64).filter fun (t : Fin 64) => !s.isSvc t.val
  ((s.clearExcs false lo l).clearExcs true hi l).finish m 0x0605 stOk []

/-- SVC_SET (R320). -/
def State.uSvcSet (s : State) (m : Cmd) (w : Word) : State :=
  let s1 := s.svcWrite w
  if s.svcBad w then s1.ucsBad m 0x0606 else s1.finish m 0x0606 stOk [s1.rd R.UCS_SVC]

/-! ### Rows -/

/-- R244. -/
def execUcsMeas (m : Cmd) (ch qty : Word) (s : State) : Out := .next (s.ucs m 0x0400 fun s => s.uMeas m ch qty)

/-- R314. -/
def execWin (m : Cmd) (ch op len ctrl : Word) (s : State) : Out :=
  .next (s.ucs m 0x0401 fun s => s.uWin m ch op len ctrl)

/-- R314. -/
def execCap (m : Cmd) (ch op ctrl dec len : Word) (s : State) : Out :=
  .next (s.ucs m 0x0402 fun s => s.uCap m ch op ctrl dec len)

/-- R314. -/
def execSweep (m : Cmd) (ch op addr ctrl : Word) (s : State) : Out :=
  .next (s.ucs m 0x0403 fun s => s.uSweep m ch op addr ctrl)

/-- R316. -/
def execRingAlloc (m : Cmd) (ring size slots : Word) (s : State) : Out :=
  .next (s.ucs m 0x0410 fun s => s.uRingAlloc m ring size slots)

/-- R314. -/
def execRingFree (m : Cmd) (ring : Word) (s : State) : Out := .next (s.ucs m 0x0411 fun s => s.uRingFree m ring)

/-- R314. -/
def execRingRead (m : Cmd) (ring max : Word) (s : State) : Out := .next (s.ucs m 0x0412 fun s => s.uRingRead m ring max)

/-- R314. -/
def execRingGet (m : Cmd) (ring : Word) (s : State) : Out := .next (s.ucs m 0x0413 fun s => s.uRingGet m ring)

/-- R420. -/
def execRingSub (m : Cmd) (ring endpoint : Word) (s : State) : Out :=
  .next (s.ucs m 0x0414 fun s => s.uRingSub m ring endpoint)

/-- R314. -/
def execTbGet (m : Cmd) (s : State) : Out := .next (s.ucs m 0x0500 fun s => s.uTbGet m)

/-- R33. -/
def execTbSet (m : Cmd) (ctrl : Word) (s : State) : Out := .next (s.ucs m 0x0501 fun s => s.uTbSet m ctrl)

/-- R314. -/
def execTbSrc (m : Cmd) (n cfg val period tol : Word) (s : State) : Out :=
  .next (s.ucs m 0x0502 fun s => s.uTbSrc m n cfg val period tol)

/-- R49. -/
def execTbRelease (m : Cmd) (snap : Word) (s : State) : Out := .next (s.ucs m 0x0503 fun s => s.uTbRelease m snap)

/-- R247. -/
def execUcsSched (m : Cmd) (image : List Word) (s : State) : Out := .next (s.ucs m 0x0504 fun s => s.uSched m image)

/-- R249. -/
def execUcsArm (m : Cmd) (image : List Word) (s : State) : Out := .next (s.ucs m 0x0505 fun s => s.uArm m image)

/-- R250. -/
def execUcsDisarm (m : Cmd) (index : Word) (s : State) : Out := .next (s.ucs m 0x0506 fun s => s.uDisarm m index)

/-- R314. -/
def execGtSet (m : Cmd) (n cfg cmp period : Word) (s : State) : Out :=
  .next (s.ucs m 0x0507 fun s => s.uGtSet m n cfg cmp period)

/-- R314. -/
def execGtGet (m : Cmd) (n : Word) (s : State) : Out := .next (s.ucs m 0x0508 fun s => s.uGtGet m n)

/-- R265. -/
def execImgLoad (m : Cmd) (addr len : Word) (s : State) : Out := .next (s.ucs m 0x0600 fun s => s.uImgLoad m addr len)

/-- R314. -/
def execThrStart (m : Cmd) (t pc arg : Word) (s : State) : Out := .next (s.ucs m 0x0601 fun s => s.uThrStart m t pc arg)

/-- R314. -/
def execThrStop (m : Cmd) (t : Word) (s : State) : Out := .next (s.ucs m 0x0602 fun s => s.uThrStop m t)

/-- R314. -/
def execThrGet (m : Cmd) (t : Word) (s : State) : Out := .next (s.ucs m 0x0603 fun s => s.uThrGet m t)

/-- R314. -/
def execThrCfg (m : Cmd) (t cfg : Word) (s : State) : Out := .next (s.ucs m 0x0604 fun s => s.uThrCfg m t cfg)

/-- R314. -/
def execExcClr (m : Cmd) (lo hi : Word) (s : State) : Out := .next (s.ucs m 0x0605 fun s => s.uExcClr m lo hi)

/-- R320. -/
def execSvcSet (m : Cmd) (word : Word) (s : State) : Out := .next (s.ucs m 0x0606 fun s => s.uSvcSet m word)

end Sys2Proof.Machine
end

