-- ==== Sys2Proof/Machine/UcsHouse.lean ====
section
/-!
DEFINITION. The command catalogue (R314): house power and ledger (Table 11-16, R348), lines (Table 11-17, R354 to
R360), and PD (Table 11-18, R373, R385).
-/

namespace Sys2Proof.Machine

/-! ### Configuration words -/

/-- Would no register from address a on refuse its word as a whole (R517)? -/
def cfgOk : Nat → List Word → Bool
  | _, [] => true
  | a, w :: l => (wholeRefusal (regKey a).1 w).isNone && cfgOk (a + 4) l

/-- A command that writes up to n configuration registers from address a on. -/
def State.ucsCfg (s : State) (m : Cmd) (code a n : Nat) (words : List Word) : State :=
  if words.isEmpty || n < words.length || !cfgOk a words then s.ucsBad m code
  else (s.writeRegs m.rq a words).finish m code stOk []

/-! ### House power and ledger -/

/-- HSE_GET (R348). -/
def State.uHseGet (s : State) (m : Cmd) : State :=
  s.ucsRead m 0x0700 ([R.HSE_SEL_STAT, R.FD_STAT 0, R.FD_STAT 1, R.CG_STAT 24, R.PK_SOC, R.PK_LATCH, R.HSE_LATCH, R.LG_STAT,
    R.HSE_EVT] ++ (List.range 16).flatMap fun n => [R.HSE_M_LO n, R.HSE_M_HI n])

/-- FEED_CFG (R348). -/
def State.uFeedCfg (s : State) (m : Cmd) (feed : Word) (words : List Word) : State :=
  if 1 < feed.toNat then s.ucsBad m 0x0701 else s.ucsCfg m 0x0701 (R.FD_CFG feed.toNat) 3 words

/-- PACK_PRESET. -/
def State.uPackPreset (s : State) (m : Cmd) (chem ncell cap : Word) : State := s.uPreset m 0x0702 24 chem ncell cap

/-- PACK_CTRL. -/
def State.uPackCtrl (s : State) (m : Cmd) (bits : Word) : State :=
  (s.cgWrite 24 (bits &&& 3)).ucsRead m 0x0703 [R.CG_STAT 24]

/-- LEDGER_GET: a held word is LG_HELD_c, both holdings of the channel. -/
def State.uLedgerGet (s : State) (m : Cmd) : State :=
  s.finish m 0x0704 stOk ([nw s.pool, nw s.free, nw s.houseAcct, nw s.burstPool] ++
    allCh.map fun (c : Fin 24) => s.rd (R.LG_HELD c))

/-- LEDGER_RSV. -/
def State.uLedgerRsv (s : State) (m : Cmd) (ch credits : Word) : State :=
  s.ucsCh m 0x0705 ch fun c =>
    let n := credits.toNat
    if 600 < n then s.ucsBad m 0x0705
    else if s.free < n - s.get (F.LG_HELD.CONT c) then s.finish m 0x0705 stNoRes []
    else (s.set (F.LG_RSV.RSV c) n).finish m 0x0705 stOk [credits]

/-! ### Lines -/

/-- LINE_SET (R354); the width is in ns. -/
def State.uLineSet (s : State) (m : Cmd) (ch op width : Word) : State :=
  s.ucsCh m 0x0800 ch fun c =>
    let r := s.lineReq c op.toNat width.toNat
    r.2.finish m 0x0800 r.1 []

/-- LINE_CFG (R360). -/
def State.uLineCfg (s : State) (m : Cmd) (ch : Word) (words : List Word) : State :=
  s.ucsCh m 0x0801 ch fun c => s.ucsCfg m 0x0801 (R.LN_CFG c) 1 words

/-- LINE_GET (R360). -/
def State.uLineGet (s : State) (m : Cmd) (ch : Word) : State :=
  s.ucsCh m 0x0802 ch fun c => s.ucsRead m 0x0802 [R.LN_STAT c, R.LN_LATCH c]

/-- EVT_SET (R356, R357); a PULSE takes a width of 1 to 16,777,215 ns. -/
def State.uEvtSet (s : State) (m : Cmd) (mask op width : Word) : State :=
  let w := width.toNat
  if 0x10000 ≤ mask.toNat || 3 < op.toNat || (op = 0 && (w = 0 || 16777215 < w)) then s.ucsBad m 0x0803
  else (s.evtMask (0x20 + op.toNat) w mask.toNat (List.range 16)).finish m 0x0803 stOk []

/-! ### PD -/

/-- A command on port p. -/
def State.ucsPort (s : State) (m : Cmd) (code : Nat) (p : Word) (f : Fin 8 → State) : State :=
  match port? p.toNat with
  | some k => f k
  | none => s.ucsBad m code

/-- A command that posts an operation on a port. -/
def State.ucsPortOp (s : State) (m : Cmd) (p : Fin 8) (k : OpKind) : State := (s.ucsPost m (.port p) k).pdGo p

/-- PD_CFG (R385): the configuration, PDO and identity registers stand at offsets 0x00 to 0x84. -/
def State.uPdCfg (s : State) (m : Cmd) (p : Word) (words : List Word) : State :=
  s.ucsPort m 0x0900 p fun k => s.ucsCfg m 0x0900 (R.PD_CFG k) 34 words

/-- PD_GET (R385). -/
def State.uPdGet (s : State) (m : Cmd) (p : Word) : State :=
  s.ucsPort m 0x0901 p fun k => s.ucsRead m 0x0901 [R.PD_STAT k, R.PD_CON_V k, R.PD_CON_I k, R.PD_BC k, R.PD_LATCH k]

/-- PD_SEND. -/
def State.uPdSend (s : State) (m : Cmd) (p : Word) (msg : List Word) : State :=
  s.ucsPort m 0x0902 p fun k =>
    if msg.length ≠ 16 then s.ucsBad m 0x0902 else s.ucsPortOp m k (.pdSend 0 (msg.take 8))

/-- PD_RECV. -/
def State.uPdRecv (s : State) (m : Cmd) (p : Word) : State :=
  s.ucsPort m 0x0903 p fun k => s.ucsPortOp m k (.pdRecv 0)

/-- PD_VDM. -/
def State.uPdVdm (s : State) (m : Cmd) (p fn : Word) (req : List Word) : State :=
  s.ucsPort m 0x0904 p fun k =>
    if req.length ≠ 8 then s.ucsBad m 0x0904
    else match fn.toNat with
      | 0 => s.ucsPortOp m k (.vdmReq 0 req)
      | 1 => s.ucsPortOp m k (.vdmSend 0 req)
      | 2 => s.ucsPortOp m k (.vdmRecv 0)
      | _ => s.ucsBad m 0x0904

/-- Is a PD_REQUEST of the port outstanding? -/
def State.pdReqOut (s : State) (p : Fin 8) : Bool :=
  (s.port p).req.isSome || s.ops.any fun o => o.unit == Unit'.port p.val && match o.kind with
    | .pdReq _ _ _ _ => true
    | _ => false

/-- PD_REQUEST (R373); one at a time. -/
def State.uPdRequest (s : State) (m : Cmd) (p position voltage current : Word) : State :=
  s.ucsPort m 0x0905 p fun k =>
    if s.attach k ≠ atSnk then s.finish m 0x0905 stNotReady []
    else if s.pdReqOut k then s.finish m 0x0905 stBusy []
    else match s.pdTerms k position.toNat voltage.toNat current.toNat with
      | none => s.ucsBad m 0x0905
      | some t => s.ucsPortOp m k (.pdReq t.pos t.kind t.v t.i)

/-! ### Rows -/

/-- R348. -/
def execHseGet (m : Cmd) (s : State) : Out := .next (s.ucs m 0x0700 fun s => s.uHseGet m)

/-- R348. -/
def execFeedCfg (m : Cmd) (feed : Word) (words : List Word) (s : State) : Out :=
  .next (s.ucs m 0x0701 fun s => s.uFeedCfg m feed words)

/-- R314. -/
def execPackPreset (m : Cmd) (chem ncell cap : Word) (s : State) : Out :=
  .next (s.ucs m 0x0702 fun s => s.uPackPreset m chem ncell cap)

/-- R314. -/
def execPackCtrl (m : Cmd) (bits : Word) (s : State) : Out := .next (s.ucs m 0x0703 fun s => s.uPackCtrl m bits)

/-- R314. -/
def execLedgerGet (m : Cmd) (s : State) : Out := .next (s.ucs m 0x0704 fun s => s.uLedgerGet m)

/-- R314. -/
def execLedgerRsv (m : Cmd) (ch credits : Word) (s : State) : Out :=
  .next (s.ucs m 0x0705 fun s => s.uLedgerRsv m ch credits)

/-- R354. -/
def execLineSet (m : Cmd) (ch op width : Word) (s : State) : Out :=
  .next (s.ucs m 0x0800 fun s => s.uLineSet m ch op width)

/-- R360. -/
def execLineCfg (m : Cmd) (ch : Word) (words : List Word) (s : State) : Out :=
  .next (s.ucs m 0x0801 fun s => s.uLineCfg m ch words)

/-- R360. -/
def execLineGet (m : Cmd) (ch : Word) (s : State) : Out := .next (s.ucs m 0x0802 fun s => s.uLineGet m ch)

/-- R356. -/
def execEvtSet (m : Cmd) (mask op width : Word) (s : State) : Out :=
  .next (s.ucs m 0x0803 fun s => s.uEvtSet m mask op width)

/-- R385. -/
def execPdCfg (m : Cmd) (p : Word) (words : List Word) (s : State) : Out :=
  .next (s.ucs m 0x0900 fun s => s.uPdCfg m p words)

/-- R385. -/
def execPdGet (m : Cmd) (p : Word) (s : State) : Out := .next (s.ucs m 0x0901 fun s => s.uPdGet m p)

/-- R256. -/
def execPdSend (m : Cmd) (p : Word) (msg : List Word) (s : State) : Out :=
  .next (s.ucs m 0x0902 fun s => s.uPdSend m p msg)

/-- R256. -/
def execPdRecv (m : Cmd) (p : Word) (s : State) : Out := .next (s.ucs m 0x0903 fun s => s.uPdRecv m p)

/-- R257. -/
def execPdVdm (m : Cmd) (p fn : Word) (req : List Word) (s : State) : Out :=
  .next (s.ucs m 0x0904 fun s => s.uPdVdm m p fn req)

/-- R373. -/
def execPdRequest (m : Cmd) (p position voltage current : Word) (s : State) : Out :=
  .next (s.ucs m 0x0905 fun s => s.uPdRequest m p position voltage current)

end Sys2Proof.Machine
end

