-- ==== Sys2Proof/Machine/UcsSys.lean ====
section
/-!
DEFINITION. The command catalogue (R314): faults and coverage (Table 11-19), log, telemetry and thermal (Table 11-20),
updates (Table 11-21, R317 to R319), link test (Table 11-22, R511), and raw access (Table 11-23).
-/

namespace Sys2Proof.Machine

/-! ### Faults and coverage -/

/-- FLT_SUM: no bit is cleared. -/
def State.uFltSum (s : State) (m : Cmd) : State :=
  s.finish m 0x0A00 stOk ((List.range 12).map fun k => s.rd (R.FLT_SUM k))

/-- FLT_READ. -/
def State.uFltRead (s : State) (m : Cmd) (src : Word) : State :=
  if 384 ≤ src.toNat then s.ucsBad m 0x0A01
  else match s.fltRec? src.toNat with
    | some r => s.finish m 0x0A01 stOk r.words
    | none => s.finish m 0x0A01 stNotReady []

/-- FLT_CLEAR (R447). -/
def State.uFltClear (s : State) (m : Cmd) (first : Word) (mask : List Word) : State :=
  let k := first.toNat
  if mask.isEmpty || 12 < k + mask.length then s.ucsBad m 0x0A02
  else (((List.range mask.length).zip mask).foldl (fun s x => s.sumClear (k + x.1) x.2) s).finish m 0x0A02 stOk []

/-- FLT_FORCE, as FLTFORCE issued by the MSS (R259). -/
def State.uFltForce (s : State) (m : Cmd) (src op : Word) : State :=
  if 384 ≤ src.toNat || 2 < op.toNat then s.ucsBad m 0x0A03
  else
    State.collGo { s with ops := s.ops ++ [{ who := .ucs m, unit := .coll, kind := .force src.toNat op.toNat }] }
      (s.ops.length + 1)

/-- COVER (R458). -/
def State.uCover (s : State) (m : Cmd) : State := s.finish m 0x0A04 stOk ((List.range 4).map fun k => nw (s.cover k))

/-- An entry of the repair record as words (Table 17-7). -/
def Repair.words (e : Repair) : List Word :=
  [nw (e.type * 2 ^ 24 + e.index), nw (e.origin * 2 ^ 30 + e.state * 2 ^ 28 + e.detail % 2 ^ 28), nw e.dtime,
    nw (e.dtime / 2 ^ 32)]

/-- REPAIR_GET. -/
def State.uRepairGet (s : State) (m : Cmd) (first : Word) : State :=
  let l := (s.repairs.drop first.toNat).take 255
  s.finish m 0x0A05 stOk (nw l.length :: l.flatMap Repair.words)

/-- REPAIR (R456). -/
def State.uRepair (s : State) (m : Cmd) (unit op : Word) (pass : Bool) : State :=
  let r := s.repair unit op.toNat pass
  r.2.finish m 0x0A06 r.1 []

/-! ### Log, telemetry, thermal -/

/-- One bit of a CRC-16 of polynomial 0x1021. -/
def crc16Bit (c : Nat) : Nat := if c.testBit 15 then (2 * c % 65536) ^^^ 0x1021 else 2 * c % 65536

/-- The CRC-16 of Table 18-3. -/
def crc16 (l : List Byte) : Nat := l.foldl (fun c b => Nat.repeat crc16Bit 8 (c ^^^ (b.toNat * 256))) 0xFFFF

/-- A log record as sixteen words (Table 18-3). -/
def LogRec.words (r : LogRec) : List Word :=
  let body := (r.data ++ List.replicate 14 0).take 14 ++ [nw r.seq]
  body ++ [nw (r.kind * 2 ^ 24 + r.flags % 256 * 2 ^ 16 + crc16 (body.flatMap wordBytes))]

/-- LOG_READ (R484). -/
def State.uLogRead (s : State) (m : Cmd) (first count : Word) : State :=
  let n := count.toNat
  if n = 0 || 63 < n then s.ucsBad m 0x0B00
  else
    let all := (s.logNor ++ s.logBuf).filter fun r => decide (first.toNat ≤ r.seq)
    let l := all.take n
    let newest := s.get F.LOG_STAT.NEXT
    let next := if l.length < all.length then (l.getLast?.map fun r => r.seq + 1).getD newest else max first.toNat newest
    s.finish m 0x0B00 stOk (nw next :: l.flatMap LogRec.words)

/-- LOG_PUT (R484); a full buffer drops the record (R482). -/
def State.uLogPut (s : State) (m : Cmd) (data : List Word) : State :=
  if data.length ≠ 14 then s.ucsBad m 0x0B01
  else
    let s1 := s.logRec 0x03 0 data
    if 64 ≤ s.logBuf.length then s1.finish m 0x0B01 stBusy []
    else s1.finish m 0x0B01 stOk [nw (s.get F.LOG_STAT.NEXT)]

/-- TELEM_SET (R483). -/
def State.uTelemSet (s : State) (m : Cmd) (period : Word) : State :=
  let n := period.toNat
  if n = 0 || (100 ≤ n && n ≤ 3600000) then (s.set F.LOG_CFG.TELEM n).finish m 0x0B02 stOk [] else s.ucsBad m 0x0B02

/-- THERM_GET (R487). -/
def State.uThermGet (s : State) (m : Cmd) : State :=
  s.ucsRead m 0x0B03 ((List.range 7).map R.THM_STAT ++ [R.THM_LATCH, R.THM_SUB, R.HK_STAT])

/-! ### Updates -/

/-- Change the update state. -/
def State.modUpd (s : State) (f : Update → Update) : State := { s with upd := f s.upd }

/-- Does another requester hold the update? -/
def State.updOther (s : State) (m : Cmd) : Bool :=
  match s.upd.holder with
  | some q => q != m.rq
  | none => false

/-- A command of the holder; DENIED to every other requester. -/
def State.ucsUpd (s : State) (m : Cmd) (code : Nat) (f : State) : State :=
  if s.upd.holder = some m.rq then f else s.finish m code stDenied []

/-- UPD_BEGIN: the staging slot that does not hold the active image is erased. -/
def State.uUpdBegin (s : State) (m : Cmd) (length : Word) : State :=
  if 16777216 < length.toNat then s.ucsBad m 0x0C00
  else if s.updOther m then s.finish m 0x0C00 stBusy []
  else
    (s.modUpd fun u => { u with
      holder := some m.rq, length := length.toNat, stage := 1 - u.slot, staged := [], written := [], checked := none }).finish m 0x0C00 stOk [nw (1 - s.upd.slot)]

/-- The bytes of an erased slot. -/
def erased : Byte := 0xFF

/-- UPD_WRITE. -/
def State.uUpdWrite (s : State) (m : Cmd) (offset : Word) (data : List Word) : State :=
  s.ucsUpd m 0x0C01 (
    let o := offset.toNat
    let b := data.flatMap wordBytes
    let l := (List.range b.length).map (o + ·)
    if b.isEmpty || s.upd.length < o + b.length || l.any (s.upd.written.contains ·) then s.ucsBad m 0x0C01
    else (s.modUpd fun u => { u with
      staged := (l.zip b).foldl (fun c x => cellSet erased x.1 x.2 c) u.staged
      written := u.written ++ l, checked := none }).finish m 0x0C01 stOk [])

/-- Staged bytes. -/
def Update.bytes (u : Update) (o n : Nat) : List Byte := (List.range n).map fun i => cellGet erased (o + i) u.staged

/-- A staged word. -/
def Update.word (u : Update) (o : Nat) : Nat := bytesNat (u.bytes o 4)

/-- The refusals of R319 for the content of a patch set. -/
def patchOk (content : List Byte) : Bool :=
  let p := Config.patchPoints content
  decide (p.length ≤ 64) && decide p.Nodup && decide ((Config.patchStore content).length ≤ 65536) && p.all fun a =>
    a % 4 == 0 && decide (0x1F000040 ≤ a ∧ a ≤ 0x1F0EFFFF) && !decide (0x1F000100 ≤ a ∧ a ≤ 0x1F0001FF) &&
      !decide (0x1F000200 ≤ a ∧ a ≤ 0x1F00021F)

/-- The bytes of the NOR region that content goes to (Table 01-6): a copy of calibration data has half of its region; a patch
set and a firmware image have the staging slot. -/
def regionSize (kind : Nat) : Nat := if kind = 3 then 0x200000 else if kind = 4 then 0x800000 else 0x1000000

/-- Check 1 of R317, with the refusals of R319: the header is valid, and the image fits the staged length. Content that does
not fit its region fails here too (DESIGN CHOICE, log entry 62). -/
def Update.headOk (u : Update) : Bool :=
  let kind := u.word 4
  let len := u.word 0x10
  let target := u.word 0x14
  decide (0x60 ≤ u.length) && u.word 0 == 0x55504C55 && decide (1 ≤ kind ∧ kind ≤ 4) && decide (u.word 0xC ≤ 64) &&
    decide (0x60 + len + 64 ≤ u.length) && (if kind = 2 then decide (target < 64) else target == 0) &&
    u.word 0x18 == 0 && u.word 0x1C == 0 && (kind != 1 || patchOk (u.bytes 0x60 len)) && decide (len ≤ regionSize kind)

/-- The status of UPD_CHECK (R317). -/
def State.checkStatus (s : State) : Nat :=
  let u := s.upd
  let len := u.word 0x10
  let key := u.bytes 0x20 64
  if !u.headOk then stBadArg
  else if !s.boot.keyHash || s.boot.keyDoubt || sha256 key ≠ Config.keyHash then stBadSig
  else if !ecdsaOk key (sha256 (u.bytes 0 (0x60 + len))) (u.bytes (0x60 + len) 64) then stBadSig
  else if u.word 0xC < u.fuse then stRollback
  else stOk

/-- UPD_CHECK: a failed check raises condition CHECK of UPD; the log takes its outcome (Table 18-4). -/
def State.uUpdCheck (s : State) (m : Cmd) : State :=
  s.ucsUpd m 0x0C02 (
    let st := s.checkStatus
    let k := (s.upd.word 4, s.upd.word 8, s.upd.word 0xC, s.upd.word 0x10)
    let s1 := s.log 0x06 [nw k.1, nw k.2.1, nw k.2.2.1, nw st]
    if st = stOk then
      (s1.modUpd fun u => { u with checked := some k }).finish m 0x0C02 stOk [nw k.1, nw k.2.1, nw k.2.2.1]
    else ((s1.modUpd fun u => { u with checked := none }).raise 376 1).finish m 0x0C02 st [])

/-- The supervisors that a KIND 2 image names. -/
def targets (w : Nat) : List Nat := (List.range 6).filter fun q => w.testBit q

/-- Installs checked content (Table 11-26): calibration data in both copies, one after the other. -/
def State.install (s : State) (kind version len : Nat) : State :=
  let c := s.upd.bytes 0x60 len
  let t := targets (s.upd.word 0x14)
  s.modUpd fun u => match kind with
    | 1 => { u with patch := (version, (Config.patchPoints c).length, Config.patchStore c) }
    | 2 => { u with fw := (u.fw.filter fun v => !t.contains (v / 256)) ++ t.map fun q => q * 256 + version % 256 }
    | 3 => { u with cal := [c, c], calGen := u.calGen + 1 }
    | _ => { u with lib := c }

/-- The reset that an activation requests (Table 11-26). -/
def State.activateReset (s : State) (kind target : Nat) : State :=
  match kind with
  | 1 => s.mssReset 8
  | 2 => State.supResets s (targets target)
  | _ => s

/-- UPD_ACTIVATE (R318). -/
def State.uUpdActivate (s : State) (m : Cmd) (flags : Word) : State :=
  s.ucsUpd m 0x0C03 (
    match s.upd.checked with
    | none => s.finish m 0x0C03 stDenied []
    | some k =>
      let s1 := s.modUpd fun u => { u with fuse := max u.fuse k.2.2.1, slot := u.stage }
      let s2 := (s1.install k.1 k.2.1 k.2.2.2).finish m 0x0C03 stOk []
      if bitOf flags 0 then s2.activateReset k.1 (s.upd.word 0x14) else s2)

/-- UPD_GET. The spec gives no numbers for the words state and holder. -/
def State.uUpdGet (s : State) (m : Cmd) : State :=
  let r := s.freshWords 2
  r.2.finish m 0x0C04 stOk (r.1 ++ [s.rd R.GLB_PSET_VER, nw s.upd.fuse])

/-- UPD_CANCEL. -/
def State.uUpdCancel (s : State) (m : Cmd) : State :=
  s.ucsUpd m 0x0C05 ((s.modUpd fun u => { u with holder := none, checked := none }).finish m 0x0C05 stOk [])

/-! ### Link test -/

/-- A link word: group in bits 15:8, index in bits 7:0, where there is such an engine. -/
def engineOf (w : Word) : Option (Nat × Nat) :=
  let g := bitsOf w 15 8
  let i := bitsOf w 7 0
  if w.toNat < 65536 && g < 4 && i < ltCount g then some (g, i) else none

/-- LT_SET (R507, R511). -/
def State.uLtSet (s : State) (m : Cmd) (link : Word) (words : List Word) : State :=
  match engineOf link, words with
  | some (g, i), w :: l =>
    if 2 < l.length then s.ucsBad m 0x0D00
    else
      let r := s.ltCtrl g i w
      if r.1 ≠ stOk then s.finish m 0x0D00 r.1 []
      else (((List.range l.length).zip l).foldl (fun s x => s.ltPat g i (x.1 == 1) x.2) r.2).finish m 0x0D00 stOk []
  | _, _ => s.ucsBad m 0x0D00

/-- LT_GET (R511). -/
def State.uLtGet (s : State) (m : Cmd) (link : Word) : State :=
  match engineOf link with
  | some (g, i) => s.ucsRead m 0x0D01 [R.LT_STAT g i, R.LT_ERR g i, R.LT_BITS_LO g i, R.LT_BITS_HI g i]
  | none => s.ucsBad m 0x0D01

/-! ### Raw access -/

/-- Is `a` the address of a word of the register space? -/
def regAddr (a : Nat) : Bool := a % 4 == 0 && decide (a < 0x400000)

/-- REG_READ. -/
def State.uRegRead (s : State) (m : Cmd) (addr n : Word) : State :=
  let k := n.toNat
  let l := (List.range (min k 1023)).map fun i => addr.toNat + 4 * i
  if k = 0 || 1023 < k || !(l.all fun a => regAddr a && mapped a) then s.ucsBad m 0x0E00 else s.ucsRead m 0x0E00 l

/-- Is a field of the words from a on locked by provisioning (R526)? -/
def State.lockedAt (s : State) (a n : Nat) : Bool := s.boot.prov && decide (a < 0x70) && decide (0x60 < a + 4 * n)

/-- REG_WRITE. -/
def State.uRegWrite (s : State) (m : Cmd) (addr n : Word) (words : List Word) : State :=
  let a := addr.toNat
  let k := words.length
  if k = 0 || 1022 < k || n.toNat ≠ k || !regAddr a || 0x400000 < a + 4 * k then s.ucsBad m 0x0E01
  else if s.lockedAt a k then s.finish m 0x0E01 stLocked []
  else (s.writeRegs m.rq a words).finish m 0x0E01 stOk []

/-- REG_RMW. -/
def State.uRegRmw (s : State) (m : Cmd) (addr mask value : Word) : State :=
  let a := addr.toNat
  if !regAddr a then s.ucsBad m 0x0E02
  else if s.lockedAt a 1 then s.finish m 0x0E02 stLocked []
  else
    let r := s.readReg m.rq a
    (r.2.writeReg m.rq a ((r.1 &&& ~~~mask) ||| (value &&& mask))).finish m 0x0E02 stOk [r.1]

/-- MEM_READ. -/
def State.uMemRead (s : State) (m : Cmd) (addr len : Word) : State :=
  let a := addr.toNat
  let n := len.toNat
  let within := fun (lo hi : Nat) => decide (lo ≤ a ∧ a + n ≤ hi)
  if readLen n && (within 0x10000000 0x16000000 || within 0x1F000000 0x1F100000) then s.ucsBytes m 0x0E03 a n
  else s.ucsBad m 0x0E03

/-- MEM_WRITE. -/
def State.uMemWrite (s : State) (m : Cmd) (addr : Word) (data : List Word) : State :=
  let a := addr.toNat
  let n := 4 * data.length
  if n = 0 || !decide (0x10000000 ≤ a ∧ a + n ≤ 0x16000000) then s.ucsBad m 0x0E04
  else if overlap a n 0x10C00000 0x200000 then s.finish m 0x0E04 stDenied []
  else (s.stWords a data).finish m 0x0E04 stOk []

/-! ### Rows -/

/-- R314. -/
def execFltSum (m : Cmd) (s : State) : Out := .next (s.ucs m 0x0A00 fun s => s.uFltSum m)

/-- R258. -/
def execFltRead (m : Cmd) (src : Word) (s : State) : Out := .next (s.ucs m 0x0A01 fun s => s.uFltRead m src)

/-- R447. -/
def execFltClear (m : Cmd) (first : Word) (mask : List Word) (s : State) : Out :=
  .next (s.ucs m 0x0A02 fun s => s.uFltClear m first mask)

/-- R449. -/
def execFltForce (m : Cmd) (src op : Word) (s : State) : Out := .next (s.ucs m 0x0A03 fun s => s.uFltForce m src op)

/-- R458. -/
def execCover (m : Cmd) (s : State) : Out := .next (s.ucs m 0x0A04 fun s => s.uCover m)

/-- R314. -/
def execRepairGet (m : Cmd) (first : Word) (s : State) : Out := .next (s.ucs m 0x0A05 fun s => s.uRepairGet m first)

/-- R456. -/
def execRepair (m : Cmd) (unit op : Word) (pass : Bool) (s : State) : Out :=
  .next (s.ucs m 0x0A06 fun s => s.uRepair m unit op pass)

/-- R484. -/
def execLogRead (m : Cmd) (first count : Word) (s : State) : Out :=
  .next (s.ucs m 0x0B00 fun s => s.uLogRead m first count)

/-- R484. -/
def execLogPut (m : Cmd) (data : List Word) (s : State) : Out := .next (s.ucs m 0x0B01 fun s => s.uLogPut m data)

/-- R483. -/
def execTelemSet (m : Cmd) (period : Word) (s : State) : Out := .next (s.ucs m 0x0B02 fun s => s.uTelemSet m period)

/-- R487. -/
def execThermGet (m : Cmd) (s : State) : Out := .next (s.ucs m 0x0B03 fun s => s.uThermGet m)

/-- R314. -/
def execUpdBegin (m : Cmd) (length : Word) (s : State) : Out := .next (s.ucs m 0x0C00 fun s => s.uUpdBegin m length)

/-- R314. -/
def execUpdWrite (m : Cmd) (offset : Word) (data : List Word) (s : State) : Out :=
  .next (s.ucs m 0x0C01 fun s => s.uUpdWrite m offset data)

/-- R317. -/
def execUpdCheck (m : Cmd) (s : State) : Out := .next (s.ucs m 0x0C02 fun s => s.uUpdCheck m)

/-- R318. -/
def execUpdActivate (m : Cmd) (flags : Word) (s : State) : Out := .next (s.ucs m 0x0C03 fun s => s.uUpdActivate m flags)

/-- R314. -/
def execUpdGet (m : Cmd) (s : State) : Out := .next (s.ucs m 0x0C04 fun s => s.uUpdGet m)

/-- R314. -/
def execUpdCancel (m : Cmd) (s : State) : Out := .next (s.ucs m 0x0C05 fun s => s.uUpdCancel m)

/-- R507. -/
def execLtSet (m : Cmd) (link : Word) (words : List Word) (s : State) : Out :=
  .next (s.ucs m 0x0D00 fun s => s.uLtSet m link words)

/-- R511. -/
def execLtGet (m : Cmd) (link : Word) (s : State) : Out := .next (s.ucs m 0x0D01 fun s => s.uLtGet m link)

/-- R514. -/
def execRegRead (m : Cmd) (addr n : Word) (s : State) : Out := .next (s.ucs m 0x0E00 fun s => s.uRegRead m addr n)

/-- R516. -/
def execRegWrite (m : Cmd) (addr n : Word) (words : List Word) (s : State) : Out :=
  .next (s.ucs m 0x0E01 fun s => s.uRegWrite m addr n words)

/-- R314. -/
def execRegRmw (m : Cmd) (addr mask value : Word) (s : State) : Out :=
  .next (s.ucs m 0x0E02 fun s => s.uRegRmw m addr mask value)

/-- R314. -/
def execMemRead (m : Cmd) (addr len : Word) (s : State) : Out := .next (s.ucs m 0x0E03 fun s => s.uMemRead m addr len)

/-- R314. -/
def execMemWrite (m : Cmd) (addr : Word) (data : List Word) (s : State) : Out :=
  .next (s.ucs m 0x0E04 fun s => s.uMemWrite m addr data)

end Sys2Proof.Machine
end

