-- ==== Sys2Proof/Machine/UcsDispatch.lean ====
section
/-!
DEFINITION. COMMAND_DISPATCH (R307): an accepted command starts on its executor and runs from the words of its body. A
body of another length than its fields require completes with BAD_ARG (R314).
-/

namespace Sys2Proof.Machine

/-- A u64 from its two words, low word first. -/
def pairBv (lo hi : Word) : BitVec 64 := hi ++ lo

/-- Area 00: session and identity. -/
def State.runSession (s : State) (m : Cmd) (code : Nat) (body : List Word) : State :=
  match code % 256, body with
  | 0, [] => s.uNop m
  | 1, [] => s.uIdentify m
  | 2, [] => s.uState m
  | 4, [a] => s.uNotice m a
  | 5, [a] => s.uAbort m a
  | _, _ => s.ucsBad m code

/-- Area 01: channel. -/
def State.runChannel (s : State) (m : Cmd) (code : Nat) (body : List Word) : State :=
  match code % 256, body with
  | 0, [a, b, c] => s.uChSet m a b c
  | 1, [a, b, c, d] => s.uChRamp m a b c d
  | 2, [a, b, c] => s.uChMode m a b c
  | 3, [a, b] => s.uChGang m a b
  | 4, [a] => s.uChGet m a
  | 5, [a] => s.uChLatch m a
  | 6, [a] => s.uChOff m a
  | 7, [a] => s.uChClear m a
  | _, _ => s.ucsBad m code

/-- Area 02: profiles and tables. -/
def State.runTables (s : State) (m : Cmd) (code : Nat) (body : List Word) : State :=
  match code % 256, body with
  | 0, [a, b] => s.uTblAlloc m a b
  | 1, [a] => s.uTblFree m a
  | 2, a :: l => s.uTblWrite m a l
  | 3, [a, b] => s.uTblRead m a b
  | 4, a :: b :: c :: d :: e :: f :: l => s.uProfGen m a b c d e f l
  | _, _ => s.ucsBad m code

/-- Area 03: battery model and charging. -/
def State.runBattery (s : State) (m : Cmd) (code : Nat) (body : List Word) : State :=
  match code % 256, body with
  | 0, [a, b] => s.uLibLoad m a b
  | 1, [a] => s.uLibList m a
  | 2, [a] => s.uBmGet m a
  | 3, [a, b, c, q0, q1, v0, v1, w0, w1, h0, h1] =>
    s.uBmSet m a b c (pairBv q0 q1) (pairBv v0 v1) (pairBv w0 w1) (pairBv h0 h1)
  | 4, [a, b, c, d] => s.uCgPreset m a b c d
  | 5, [a] => s.uCgGet m a
  | 6, [a, b] => s.uCgCtrl m a b
  | _, _ => s.ucsBad m code

/-- Area 04: measurement and rings. -/
def State.runMeasure (s : State) (m : Cmd) (code : Nat) (body : List Word) : State :=
  match code % 256, body with
  | 0x00, [a, b] => s.uMeas m a b
  | 0x01, [a, b, c, d] => s.uWin m a b c d
  | 0x02, [a, b, c, d, e] => s.uCap m a b c d e
  | 0x03, [a, b, c, d] => s.uSweep m a b c d
  | 0x10, [a, b, c] => s.uRingAlloc m a b c
  | 0x11, [a] => s.uRingFree m a
  | 0x12, [a, b] => s.uRingRead m a b
  | 0x13, [a] => s.uRingGet m a
  | 0x14, [a, b] => s.uRingSub m a b
  | _, _ => s.ucsBad m code

/-- Area 05: timebase and scheduling. -/
def State.runTimebase (s : State) (m : Cmd) (code : Nat) (body : List Word) : State :=
  match code % 256, body with
  | 0, [] => s.uTbGet m
  | 1, [a] => s.uTbSet m a
  | 2, [a, b, c, d, e] => s.uTbSrc m a b c d e
  | 3, [a] => s.uTbRelease m a
  | 4, l => s.uSched m l
  | 5, l => s.uArm m l
  | 6, [a] => s.uDisarm m a
  | 7, [a, b, c, d] => s.uGtSet m a b c d
  | 8, [a] => s.uGtGet m a
  | _, _ => s.ucsBad m code

/-- Area 06: programs and threads. -/
def State.runThreads (s : State) (m : Cmd) (code : Nat) (body : List Word) : State :=
  match code % 256, body with
  | 0, [a, b] => s.uImgLoad m a b
  | 1, [a, b, c] => s.uThrStart m a b c
  | 2, [a] => s.uThrStop m a
  | 3, [a] => s.uThrGet m a
  | 4, [a, b] => s.uThrCfg m a b
  | 5, [a, b] => s.uExcClr m a b
  | 6, [a] => s.uSvcSet m a
  | _, _ => s.ucsBad m code

/-- Area 07: house power and ledger. -/
def State.runHouse (s : State) (m : Cmd) (code : Nat) (body : List Word) : State :=
  match code % 256, body with
  | 0, [] => s.uHseGet m
  | 1, a :: l => s.uFeedCfg m a l
  | 2, [a, b, c] => s.uPackPreset m a b c
  | 3, [a] => s.uPackCtrl m a
  | 4, [] => s.uLedgerGet m
  | 5, [a, b] => s.uLedgerRsv m a b
  | _, _ => s.ucsBad m code

/-- Area 08: lines. -/
def State.runLines (s : State) (m : Cmd) (code : Nat) (body : List Word) : State :=
  match code % 256, body with
  | 0, [a, b, c] => s.uLineSet m a b c
  | 1, a :: l => s.uLineCfg m a l
  | 2, [a] => s.uLineGet m a
  | 3, [a, b, c] => s.uEvtSet m a b c
  | _, _ => s.ucsBad m code

/-- Area 09: PD. -/
def State.runPd (s : State) (m : Cmd) (code : Nat) (body : List Word) : State :=
  match code % 256, body with
  | 0, a :: l => s.uPdCfg m a l
  | 1, [a] => s.uPdGet m a
  | 2, a :: l => s.uPdSend m a l
  | 3, [a] => s.uPdRecv m a
  | 4, a :: b :: l => s.uPdVdm m a b l
  | 5, [a, b, c, d] => s.uPdRequest m a b c d
  | _, _ => s.ucsBad m code

/-- Area 0A: faults and coverage. Whether a RETEST passes is open. -/
def State.runFaults (s : State) (m : Cmd) (code : Nat) (body : List Word) : State :=
  match code % 256, body with
  | 0, [] => s.uFltSum m
  | 1, [a] => s.uFltRead m a
  | 2, a :: l => s.uFltClear m a l
  | 3, [a, b] => s.uFltForce m a b
  | 4, [] => s.uCover m
  | 5, [a] => s.uRepairGet m a
  | 6, [a, b] => let r := s.fresh; r.2.uRepair m a b (r.1 % 2 == 1)
  | _, _ => s.ucsBad m code

/-- Areas 0B and 0D: log, telemetry, thermal; link test. -/
def State.runLog (s : State) (m : Cmd) (code : Nat) (body : List Word) : State :=
  match code, body with
  | 0x0B00, [a, b] => s.uLogRead m a b
  | 0x0B01, l => s.uLogPut m l
  | 0x0B02, [a] => s.uTelemSet m a
  | 0x0B03, [] => s.uThermGet m
  | 0x0D00, a :: l => s.uLtSet m a l
  | 0x0D01, [a] => s.uLtGet m a
  | _, _ => s.ucsBad m code

/-- Area 0C: update. -/
def State.runUpdate (s : State) (m : Cmd) (code : Nat) (body : List Word) : State :=
  match code % 256, body with
  | 0, [a] => s.uUpdBegin m a
  | 1, a :: l => s.uUpdWrite m a l
  | 2, [] => s.uUpdCheck m
  | 3, [a] => s.uUpdActivate m a
  | 4, [] => s.uUpdGet m
  | 5, [] => s.uUpdCancel m
  | _, _ => s.ucsBad m code

/-- Area 0E: raw access. -/
def State.runRaw (s : State) (m : Cmd) (code : Nat) (body : List Word) : State :=
  match code % 256, body with
  | 0, [a, b] => s.uRegRead m a b
  | 1, a :: b :: l => s.uRegWrite m a b l
  | 2, [a, b, c] => s.uRegRmw m a b c
  | 3, [a, b] => s.uMemRead m a b
  | 4, a :: l => s.uMemWrite m a l
  | _, _ => s.ucsBad m code

/-- Run a command from its code and body. -/
def State.runCmd (s : State) (m : Cmd) (code : Nat) (body : List Word) : State :=
  match code / 256 with
  | 0x00 => s.runSession m code body
  | 0x01 => s.runChannel m code body
  | 0x02 => s.runTables m code body
  | 0x03 => s.runBattery m code body
  | 0x04 => s.runMeasure m code body
  | 0x05 => s.runTimebase m code body
  | 0x06 => s.runThreads m code body
  | 0x07 => s.runHouse m code body
  | 0x08 => s.runLines m code body
  | 0x09 => s.runPd m code body
  | 0x0A => s.runFaults m code body
  | 0x0C => s.runUpdate m code body
  | 0x0E => s.runRaw m code body
  | _ => s.runLog m code body

/-- R307. A command that may not start yet, or for which no executor is free, stays as it is. -/
def execCommandDispatch (rq : Requester) (tag : BitVec 16) (s : State) : Out :=
  .next (
    let m : Cmd := { rq := rq, tag := tag }
    match s.cmds.find? (fun c => c.names m && !c.orphan), s.executorFor m with
    | some c, (some n, s1) => (s1.startCmd m n).runCmd m c.code c.body
    | _, (_, s1) => s1)

end Sys2Proof.Machine
end

