-- ==== Sys2Proof/Machine/Dispatch.lean ====
section
/-!
DEFINITION. The dispatch of a command to its meaning: one arm per constructor of `Instr`.
-/

namespace Sys2Proof.Machine

/-- The effect of a command on everything but the queue. -/
def exec (i : Instr) (s : State) : Host.Outcome State Fault Refusal :=
  match i with
  | .countedStep st => Sys2Proof.Machine.execCountedStep st s
  | .overrateClear n => Sys2Proof.Machine.execOverrateClear n s
  | .sourceQualLost src => Sys2Proof.Machine.execSourceQualLost src s
  | .mainsZeroCrossing freq => Sys2Proof.Machine.execMainsZeroCrossing freq s
  | .mainsPllLock freq => Sys2Proof.Machine.execMainsPllLock freq s
  | .mainsHoldoverEntry => Sys2Proof.Machine.execMainsHoldoverEntry s
  | .mainsHoldoverExpiry => Sys2Proof.Machine.execMainsHoldoverExpiry s
  | .tbCtrlWrite rq w => Sys2Proof.Machine.execTbCtrlWrite rq w s
  | .indexPulse slot a b z => Sys2Proof.Machine.execIndexPulse slot a b z s
  | .tbReleaseGo rq snap => Sys2Proof.Machine.execTbReleaseGo rq snap s
  | .walkerBucketStep => Sys2Proof.Machine.execWalkerBucketStep s
  | .walkerSchedDisarm => Sys2Proof.Machine.execWalkerSchedDisarm s
  | .overflowArm => Sys2Proof.Machine.execOverflowArm s
  | .fireReport => Sys2Proof.Machine.execFireReport s
  | .gtCapture n falling => Sys2Proof.Machine.execGtCapture n falling s
  | .gtSwcap rq n => Sys2Proof.Machine.execGtSwcap rq n s
  | .gtCapRead rq n => Sys2Proof.Machine.execGtCapRead rq n s
  | .gtCmpWrite rq n v => Sys2Proof.Machine.execGtCmpWrite rq n v s
  | .pdomOnRequest rq n w => Sys2Proof.Machine.execPdomOnRequest rq n w s
  | .pdomOffRequest rq n w => Sys2Proof.Machine.execPdomOffRequest rq n w s
  | .pdomAutoRequest rq n w => Sys2Proof.Machine.execPdomAutoRequest rq n w s
  | .pdomAutoOff c => Sys2Proof.Machine.execPdomAutoOff c s
  | .pdomPowerUpDone d => Sys2Proof.Machine.execPdomPowerUpDone d s
  | .pdomNoOn d => Sys2Proof.Machine.execPdomNoOn d s
  | .controlSample c x => Sys2Proof.Machine.execControlSample c x s
  | .senseLoss c => Sys2Proof.Machine.execSenseLoss c s
  | .vinUndervoltage c => Sys2Proof.Machine.execVinUndervoltage c s
  | .burstLimit c => Sys2Proof.Machine.execBurstLimit c s
  | .burstRecovered c => Sys2Proof.Machine.execBurstRecovered c s
  | .bswDiodeSwitch c on => Sys2Proof.Machine.execBswDiodeSwitch c on s
  | .bswSupplement c on => Sys2Proof.Machine.execBswSupplement c on s
  | .bswSoaLimit c iLim => Sys2Proof.Machine.execBswSoaLimit c iLim s
  | .bswTripFast c => Sys2Proof.Machine.execBswTripFast c s
  | .bswTripTimed c => Sys2Proof.Machine.execBswTripTimed c s
  | .batfedUndervoltage c => Sys2Proof.Machine.execBatfedUndervoltage c s
  | .pathTransitionDone c => Sys2Proof.Machine.execPathTransitionDone c s
  | .pathTransitionAbandon c => Sys2Proof.Machine.execPathTransitionAbandon c s
  | .dischargeDone c => Sys2Proof.Machine.execDischargeDone c s
  | .legShed c => Sys2Proof.Machine.execLegShed c s
  | .cbcLimit c k consecutive => Sys2Proof.Machine.execCbcLimit c k consecutive s
  | .hwTrip c => Sys2Proof.Machine.execHwTrip c s
  | .ovpTrip c => Sys2Proof.Machine.execOvpTrip c s
  | .legFence c k => Sys2Proof.Machine.execLegFence c k s
  | .gangShareSetpoint c => Sys2Proof.Machine.execGangShareSetpoint c s
  | .survivorEngineError c => Sys2Proof.Machine.execSurvivorEngineError c s
  | .rgLoopWrite rq c w => Sys2Proof.Machine.execRgLoopWrite rq c w s
  | .rgProfAddrWrite rq c w => Sys2Proof.Machine.execRgProfAddrWrite rq c w s
  | .modelUpdate c => Sys2Proof.Machine.execModelUpdate c s
  | .bmTblAddrWrite rq c w => Sys2Proof.Machine.execBmTblAddrWrite rq c w s
  | .bmSocWrite rq c w => Sys2Proof.Machine.execBmSocWrite rq c w s
  | .bmStateLoWrite rq c f w => Sys2Proof.Machine.execBmStateLoWrite rq c f w s
  | .bmStateHiWrite rq c f w => Sys2Proof.Machine.execBmStateHiWrite rq c f w s
  | .rstRelax rq c => Sys2Proof.Machine.execRstRelax rq c s
  | .rstHyst rq c => Sys2Proof.Machine.execRstHyst rq c s
  | .chargeTick k m => Sys2Proof.Machine.execChargeTick k m s
  | .phaseTimerExpiry k => Sys2Proof.Machine.execPhaseTimerExpiry k s
  | .totalTimerExpiry k => Sys2Proof.Machine.execTotalTimerExpiry k s
  | .nimhTerminationTest k vMean => Sys2Proof.Machine.execNimhTerminationTest k vMean s
  | .batOv k => Sys2Proof.Machine.execBatOv k s
  | .cgClear rq k => Sys2Proof.Machine.execCgClear rq k s
  | .cgRestart rq k => Sys2Proof.Machine.execCgRestart rq k s
  | .loadPreset rq k => Sys2Proof.Machine.execLoadPreset rq k s
  | .rangeChangeDone c => Sys2Proof.Machine.execRangeChangeDone c s
  | .calibrationDone c => Sys2Proof.Machine.execCalibrationDone c s
  | .converterRotation c => Sys2Proof.Machine.execConverterRotation c s
  | .forcedRotation c => Sys2Proof.Machine.execForcedRotation c s
  | .converterFence c u => Sys2Proof.Machine.execConverterFence c u s
  | .inPlaceCalibration c => Sys2Proof.Machine.execInPlaceCalibration c s
  | .stillQualified c => Sys2Proof.Machine.execStillQualified c s
  | .handoverDone c met => Sys2Proof.Machine.execHandoverDone c met s
  | .windowStart rq c => Sys2Proof.Machine.execWindowStart rq c s
  | .windowStop rq c => Sys2Proof.Machine.execWindowStop rq c s
  | .windowEnd c => Sys2Proof.Machine.execWindowEnd c s
  | .captureStart rq c => Sys2Proof.Machine.execCaptureStart rq c s
  | .captureStop rq c => Sys2Proof.Machine.execCaptureStop rq c s
  | .sweepStart rq c => Sys2Proof.Machine.execSweepStart rq c s
  | .sweepAbort rq c => Sys2Proof.Machine.execSweepAbort rq c s
  | .clrEout rq c => Sys2Proof.Machine.execClrEout rq c s
  | .clrQout rq c => Sys2Proof.Machine.execClrQout rq c s
  | .clrEbat rq c => Sys2Proof.Machine.execClrEbat rq c s
  | .clrQbat rq c => Sys2Proof.Machine.execClrQbat rq c s
  | .msRangeWrite rq c w => Sys2Proof.Machine.execMsRangeWrite rq c w s
  | .msStageWrite rq c w => Sys2Proof.Machine.execMsStageWrite rq c w s
  | .msAutoWrite rq c w => Sys2Proof.Machine.execMsAutoWrite rq c w s
  | .mdReqWrite rq c w => Sys2Proof.Machine.execMdReqWrite rq c w s
  | .mdGangWrite rq c w => Sys2Proof.Machine.execMdGangWrite rq c w s
  | .psLatchRead rq c => Sys2Proof.Machine.execPsLatchRead rq c s
  | .alu x rd ra rb fn => Sys2Proof.Machine.execAlu x rd ra rb fn s
  | .cmp x ra rb fn => Sys2Proof.Machine.execCmp x ra rb fn s
  | .cmpi x ra imm => Sys2Proof.Machine.execCmpi x ra imm s
  | .addi x rd ra imm => Sys2Proof.Machine.execAddi x rd ra imm s
  | .andi x rd ra imm => Sys2Proof.Machine.execAndi x rd ra imm s
  | .ori x rd ra imm => Sys2Proof.Machine.execOri x rd ra imm s
  | .xori x rd ra imm => Sys2Proof.Machine.execXori x rd ra imm s
  | .slli x rd ra imm => Sys2Proof.Machine.execSlli x rd ra imm s
  | .srli x rd ra imm => Sys2Proof.Machine.execSrli x rd ra imm s
  | .srai x rd ra imm => Sys2Proof.Machine.execSrai x rd ra imm s
  | .lui x rd imm => Sys2Proof.Machine.execLui x rd imm s
  | .lb x rd ra imm => Sys2Proof.Machine.execLb x rd ra imm s
  | .lbu x rd ra imm => Sys2Proof.Machine.execLbu x rd ra imm s
  | .lh x rd ra imm => Sys2Proof.Machine.execLh x rd ra imm s
  | .lhu x rd ra imm => Sys2Proof.Machine.execLhu x rd ra imm s
  | .lw x rd ra imm => Sys2Proof.Machine.execLw x rd ra imm s
  | .ld x rd ra imm => Sys2Proof.Machine.execLd x rd ra imm s
  | .sb x rd ra imm => Sys2Proof.Machine.execSb x rd ra imm s
  | .sh x rd ra imm => Sys2Proof.Machine.execSh x rd ra imm s
  | .sw x rd ra imm => Sys2Proof.Machine.execSw x rd ra imm s
  | .sd x rd ra imm => Sys2Proof.Machine.execSd x rd ra imm s
  | .b x cond off => Sys2Proof.Machine.execB x cond off s
  | .jal x rd off => Sys2Proof.Machine.execJal x rd off s
  | .jalr x rd ra imm => Sys2Proof.Machine.execJalr x rd ra imm s
  | .mfsr x rd fn => Sys2Proof.Machine.execMfsr x rd fn s
  | .mtsr x ra fn => Sys2Proof.Machine.execMtsr x ra fn s
  | .tctlStart x rd ra rb => Sys2Proof.Machine.execTctlStart x rd ra rb s
  | .tctlStop x rd ra => Sys2Proof.Machine.execTctlStop x rd ra s
  | .tctlReadState x rd ra => Sys2Proof.Machine.execTctlReadState x rd ra s
  | .eret x => Sys2Proof.Machine.execEret x s
  | .waitc x ra fn => Sys2Proof.Machine.execWaitc x ra fn s
  | .waitt x ra fn => Sys2Proof.Machine.execWaitt x ra fn s
  | .waittExpiry x => Sys2Proof.Machine.execWaittExpiry x s
  | .waite x rd ra rb fn => Sys2Proof.Machine.execWaite x rd ra rb fn s
  | .waitg x rd ra => Sys2Proof.Machine.execWaitg x rd ra s
  | .fence x fn => Sys2Proof.Machine.execFence x fn s
  | .yield x => Sys2Proof.Machine.execYield x s
  | .halt x => Sys2Proof.Machine.execHalt x s
  | .operationCompletion who => Sys2Proof.Machine.execOperationCompletion who s
  | .chset x rd ra rb fn => Sys2Proof.Machine.execChset x rd ra rb fn s
  | .chramp x rd ra rb fn => Sys2Proof.Machine.execChramp x rd ra rb fn s
  | .chmode x rd ra rb fn => Sys2Proof.Machine.execChmode x rd ra rb fn s
  | .chgang x rd ra rb => Sys2Proof.Machine.execChgang x rd ra rb s
  | .meas x rd ra rb fn => Sys2Proof.Machine.execMeas x rd ra rb fn s
  | .captStart x rd ra rb => Sys2Proof.Machine.execCaptStart x rd ra rb s
  | .captStop x rd ra rb => Sys2Proof.Machine.execCaptStop x rd ra rb s
  | .statRead x rd ra rb => Sys2Proof.Machine.execStatRead x rd ra rb s
  | .statStart x rd ra rb => Sys2Proof.Machine.execStatStart x rd ra rb s
  | .statStop x rd ra rb => Sys2Proof.Machine.execStatStop x rd ra rb s
  | .sched x rd ra => Sys2Proof.Machine.execSched x rd ra s
  | .arm x rd ra => Sys2Proof.Machine.execArm x rd ra s
  | .disarm x rd ra => Sys2Proof.Machine.execDisarm x rd ra s
  | .qpush x rd ra rb => Sys2Proof.Machine.execQpush x rd ra rb s
  | .qpop x rd ra rb => Sys2Proof.Machine.execQpop x rd ra rb s
  | .pdmsgSend x rd ra rb => Sys2Proof.Machine.execPdmsgSend x rd ra rb s
  | .pdmsgRecv x rd ra rb => Sys2Proof.Machine.execPdmsgRecv x rd ra rb s
  | .pdvdmStructured x rd ra rb => Sys2Proof.Machine.execPdvdmStructured x rd ra rb s
  | .pdvdmUnstructured x rd ra rb => Sys2Proof.Machine.execPdvdmUnstructured x rd ra rb s
  | .pdvdmRecv x rd ra rb => Sys2Proof.Machine.execPdvdmRecv x rd ra rb s
  | .fltrd x rd ra rb => Sys2Proof.Machine.execFltrd x rd ra rb s
  | .fltforcePulse x rd ra => Sys2Proof.Machine.execFltforcePulse x rd ra s
  | .fltforceHold x rd ra => Sys2Proof.Machine.execFltforceHold x rd ra s
  | .fltforceRelease x rd ra => Sys2Proof.Machine.execFltforceRelease x rd ra s
  | .excSumClear rq hi w => Sys2Proof.Machine.execExcSumClear rq hi w s
  | .pairFence n p => Sys2Proof.Machine.execPairFence n p s
  | .migrationDone n slot => Sys2Proof.Machine.execMigrationDone n slot s
  | .frameReceive rq bytes => Sys2Proof.Machine.execFrameReceive rq bytes s
  | .commandDispatch rq tag => Sys2Proof.Machine.execCommandDispatch rq tag s
  | .standbyTakeover => Sys2Proof.Machine.execStandbyTakeover s
  | .nop m => Sys2Proof.Machine.execNop m s
  | .identify m => Sys2Proof.Machine.execIdentify m s
  | .state m => Sys2Proof.Machine.execState m s
  | .notice m mask => Sys2Proof.Machine.execNotice m mask s
  | .abort m target => Sys2Proof.Machine.execAbort m target s
  | .chSet m ch param value => Sys2Proof.Machine.execChSet m ch param value s
  | .chRamp m ch param value slew => Sys2Proof.Machine.execChRamp m ch param value slew s
  | .chMode m ch axes word => Sys2Proof.Machine.execChMode m ch axes word s
  | .chGang m ch size => Sys2Proof.Machine.execChGang m ch size s
  | .chGet m ch => Sys2Proof.Machine.execChGet m ch s
  | .chLatch m ch => Sys2Proof.Machine.execChLatch m ch s
  | .chOff m mask => Sys2Proof.Machine.execChOff m mask s
  | .chClear m ch => Sys2Proof.Machine.execChClear m ch s
  | .tblAlloc m size align => Sys2Proof.Machine.execTblAlloc m size align s
  | .tblFree m addr => Sys2Proof.Machine.execTblFree m addr s
  | .tblWrite m addr data => Sys2Proof.Machine.execTblWrite m addr data s
  | .tblRead m addr len => Sys2Proof.Machine.execTblRead m addr len s
  | .profGen m addr ch kind rate start flags params => Sys2Proof.Machine.execProfGen m addr ch kind rate start flags params s
  | .libLoad m id addr => Sys2Proof.Machine.execLibLoad m id addr s
  | .libList m first => Sys2Proof.Machine.execLibList m first s
  | .bmGet m ch => Sys2Proof.Machine.execBmGet m ch s
  | .bmSet m ch mask soc q v1 v2 h => Sys2Proof.Machine.execBmSet m ch mask soc q v1 v2 h s
  | .cgPreset m ch chem ncell cap => Sys2Proof.Machine.execCgPreset m ch chem ncell cap s
  | .cgGet m ch => Sys2Proof.Machine.execCgGet m ch s
  | .cgCtrl m ch bits => Sys2Proof.Machine.execCgCtrl m ch bits s
  | .ucsMeas m ch qty => Sys2Proof.Machine.execUcsMeas m ch qty s
  | .win m ch op len ctrl => Sys2Proof.Machine.execWin m ch op len ctrl s
  | .cap m ch op ctrl dec len => Sys2Proof.Machine.execCap m ch op ctrl dec len s
  | .sweep m ch op addr ctrl => Sys2Proof.Machine.execSweep m ch op addr ctrl s
  | .ringAlloc m ring size slots => Sys2Proof.Machine.execRingAlloc m ring size slots s
  | .ringFree m ring => Sys2Proof.Machine.execRingFree m ring s
  | .ringRead m ring max => Sys2Proof.Machine.execRingRead m ring max s
  | .ringGet m ring => Sys2Proof.Machine.execRingGet m ring s
  | .ringSub m ring endpoint => Sys2Proof.Machine.execRingSub m ring endpoint s
  | .tbGet m => Sys2Proof.Machine.execTbGet m s
  | .tbSet m ctrl => Sys2Proof.Machine.execTbSet m ctrl s
  | .tbSrc m slot cfg val period tol => Sys2Proof.Machine.execTbSrc m slot cfg val period tol s
  | .tbRelease m snap => Sys2Proof.Machine.execTbRelease m snap s
  | .ucsSched m image => Sys2Proof.Machine.execUcsSched m image s
  | .ucsArm m image => Sys2Proof.Machine.execUcsArm m image s
  | .ucsDisarm m index => Sys2Proof.Machine.execUcsDisarm m index s
  | .gtSet m n cfg cmp period => Sys2Proof.Machine.execGtSet m n cfg cmp period s
  | .gtGet m n => Sys2Proof.Machine.execGtGet m n s
  | .imgLoad m addr len => Sys2Proof.Machine.execImgLoad m addr len s
  | .thrStart m t pc arg => Sys2Proof.Machine.execThrStart m t pc arg s
  | .thrStop m t => Sys2Proof.Machine.execThrStop m t s
  | .thrGet m t => Sys2Proof.Machine.execThrGet m t s
  | .thrCfg m t cfg => Sys2Proof.Machine.execThrCfg m t cfg s
  | .excClr m lo hi => Sys2Proof.Machine.execExcClr m lo hi s
  | .svcSet m word => Sys2Proof.Machine.execSvcSet m word s
  | .ucsSvcWrite rq w => Sys2Proof.Machine.execUcsSvcWrite rq w s
  | .hseGet m => Sys2Proof.Machine.execHseGet m s
  | .feedCfg m feed words => Sys2Proof.Machine.execFeedCfg m feed words s
  | .packPreset m chem ncell cap => Sys2Proof.Machine.execPackPreset m chem ncell cap s
  | .packCtrl m bits => Sys2Proof.Machine.execPackCtrl m bits s
  | .ledgerGet m => Sys2Proof.Machine.execLedgerGet m s
  | .ledgerRsv m ch credits => Sys2Proof.Machine.execLedgerRsv m ch credits s
  | .lineSet m ch op width => Sys2Proof.Machine.execLineSet m ch op width s
  | .lineCfg m ch words => Sys2Proof.Machine.execLineCfg m ch words s
  | .lineGet m ch => Sys2Proof.Machine.execLineGet m ch s
  | .evtSet m mask op width => Sys2Proof.Machine.execEvtSet m mask op width s
  | .pdCfg m p words => Sys2Proof.Machine.execPdCfg m p words s
  | .pdGet m p => Sys2Proof.Machine.execPdGet m p s
  | .pdSend m p msg => Sys2Proof.Machine.execPdSend m p msg s
  | .pdRecv m p => Sys2Proof.Machine.execPdRecv m p s
  | .pdVdm m p fn req => Sys2Proof.Machine.execPdVdm m p fn req s
  | .pdRequest m p position voltage current => Sys2Proof.Machine.execPdRequest m p position voltage current s
  | .fltSum m => Sys2Proof.Machine.execFltSum m s
  | .fltRead m src => Sys2Proof.Machine.execFltRead m src s
  | .fltClear m first mask => Sys2Proof.Machine.execFltClear m first mask s
  | .fltForce m src op => Sys2Proof.Machine.execFltForce m src op s
  | .cover m => Sys2Proof.Machine.execCover m s
  | .repairGet m first => Sys2Proof.Machine.execRepairGet m first s
  | .repair m unit op pass => Sys2Proof.Machine.execRepair m unit op pass s
  | .logRead m first count => Sys2Proof.Machine.execLogRead m first count s
  | .logPut m data => Sys2Proof.Machine.execLogPut m data s
  | .telemSet m period => Sys2Proof.Machine.execTelemSet m period s
  | .thermGet m => Sys2Proof.Machine.execThermGet m s
  | .updBegin m length => Sys2Proof.Machine.execUpdBegin m length s
  | .updWrite m offset data => Sys2Proof.Machine.execUpdWrite m offset data s
  | .updCheck m => Sys2Proof.Machine.execUpdCheck m s
  | .updActivate m flags => Sys2Proof.Machine.execUpdActivate m flags s
  | .updGet m => Sys2Proof.Machine.execUpdGet m s
  | .updCancel m => Sys2Proof.Machine.execUpdCancel m s
  | .ltSet m link words => Sys2Proof.Machine.execLtSet m link words s
  | .ltGet m link => Sys2Proof.Machine.execLtGet m link s
  | .regRead m addr n => Sys2Proof.Machine.execRegRead m addr n s
  | .regWrite m addr n words => Sys2Proof.Machine.execRegWrite m addr n words s
  | .regRmw m addr mask value => Sys2Proof.Machine.execRegRmw m addr mask value s
  | .memRead m addr len => Sys2Proof.Machine.execMemRead m addr len s
  | .memWrite m addr data => Sys2Proof.Machine.execMemWrite m addr data s
  | .feedQualified f => Sys2Proof.Machine.execFeedQualified f s
  | .feedDisqualify f down => Sys2Proof.Machine.execFeedDisqualify f down s
  | .feedFailure f high => Sys2Proof.Machine.execFeedFailure f high s
  | .feedFastTrip f => Sys2Proof.Machine.execFeedFastTrip f s
  | .feedBurstTrip f => Sys2Proof.Machine.execFeedBurstTrip f s
  | .feedTimedTrip f => Sys2Proof.Machine.execFeedTimedTrip f s
  | .inrushFail f => Sys2Proof.Machine.execInrushFail f s
  | .switchoverConnect level v => Sys2Proof.Machine.execSwitchoverConnect level v s
  | .inrushComplete f v => Sys2Proof.Machine.execInrushComplete f v s
  | .returnToPriority => Sys2Proof.Machine.execReturnToPriority s
  | .goto rq w => Sys2Proof.Machine.execGoto rq w s
  | .fdLatchRead rq f => Sys2Proof.Machine.execFdLatchRead rq f s
  | .fwarnAssert why => Sys2Proof.Machine.execFwarnAssert why s
  | .fwarnRelease => Sys2Proof.Machine.execFwarnRelease s
  | .houseLegFence k => Sys2Proof.Machine.execHouseLegFence k s
  | .packSwitchTrip => Sys2Proof.Machine.execPackSwitchTrip s
  | .packCutoff => Sys2Proof.Machine.execPackCutoff s
  | .houseTrip fast => Sys2Proof.Machine.execHouseTrip fast s
  | .houseRetry => Sys2Proof.Machine.execHouseRetry s
  | .ledgerRebase vfeed => Sys2Proof.Machine.execLedgerRebase vfeed s
  | .reclaimComplete => Sys2Proof.Machine.execReclaimComplete s
  | .creditEvaluation c draw => Sys2Proof.Machine.execCreditEvaluation c draw s
  | .creditRequest => Sys2Proof.Machine.execCreditRequest s
  | .creditGrant => Sys2Proof.Machine.execCreditGrant s
  | .creditReturn => Sys2Proof.Machine.execCreditReturn s
  | .chargerReclaimAck => Sys2Proof.Machine.execChargerReclaimAck s
  | .burstWindowClose => Sys2Proof.Machine.execBurstWindowClose s
  | .burstWindowRecover => Sys2Proof.Machine.execBurstWindowRecover s
  | .lentUpdate regen => Sys2Proof.Machine.execLentUpdate regen s
  | .busHigh v => Sys2Proof.Machine.execBusHigh v s
  | .busOv high => Sys2Proof.Machine.execBusOv high s
  | .lineOff c => Sys2Proof.Machine.execLineOff c s
  | .lineOn c => Sys2Proof.Machine.execLineOn c s
  | .linePulse c width => Sys2Proof.Machine.execLinePulse c width s
  | .linePulseEnd c => Sys2Proof.Machine.execLinePulseEnd c s
  | .lineInrushTrip c => Sys2Proof.Machine.execLineInrushTrip c s
  | .lineEfuseTrip c => Sys2Proof.Machine.execLineEfuseTrip c s
  | .lineOvldTrip c => Sys2Proof.Machine.execLineOvldTrip c s
  | .lineSoaTrip c => Sys2Proof.Machine.execLineSoaTrip c s
  | .lnLatchRead rq c => Sys2Proof.Machine.execLnLatchRead rq c s
  | .evtPulseEnd n => Sys2Proof.Machine.execEvtPulseEnd n s
  | .tcAttach p a => Sys2Proof.Machine.execTcAttach p a s
  | .tcDetach p => Sys2Proof.Machine.execTcDetach p s
  | .drpToggle p => Sys2Proof.Machine.execDrpToggle p s
  | .errorRecovery p => Sys2Proof.Machine.execErrorRecovery p s
  | .errorRecoveryEnd p => Sys2Proof.Machine.execErrorRecoveryEnd p s
  | .firstSourceCap p => Sys2Proof.Machine.execFirstSourceCap p s
  | .pdMessageReceive p m => Sys2Proof.Machine.execPdMessageReceive p m s
  | .capabilitiesResend p => Sys2Proof.Machine.execCapabilitiesResend p s
  | .sourceTransitionStart p => Sys2Proof.Machine.execSourceTransitionStart p s
  | .psRdySend p => Sys2Proof.Machine.execPsRdySend p s
  | .sourceTransitionTimeout p => Sys2Proof.Machine.execSourceTransitionTimeout p s
  | .senderResponseTimeout p => Sys2Proof.Machine.execSenderResponseTimeout p s
  | .hardReset p sent => Sys2Proof.Machine.execHardReset p sent s
  | .psHardResetTimeout p => Sys2Proof.Machine.execPsHardResetTimeout p s
  | .srcRecoverTimeout p => Sys2Proof.Machine.execSrcRecoverTimeout p s
  | .ppsRerequest p => Sys2Proof.Machine.execPpsRerequest p s
  | .eprKeepaliveSend p => Sys2Proof.Machine.execEprKeepaliveSend p s
  | .ppsTimeout p => Sys2Proof.Machine.execPpsTimeout p s
  | .eprKeepaliveTimeout p => Sys2Proof.Machine.execEprKeepaliveTimeout p s
  | .swapVbusReady p => Sys2Proof.Machine.execSwapVbusReady p s
  | .swapTimeout p => Sys2Proof.Machine.execSwapTimeout p s
  | .vconnTrip p => Sys2Proof.Machine.execVconnTrip p s
  | .pdRetry p => Sys2Proof.Machine.execPdRetry p s
  | .goodcrcRetryExhausted p => Sys2Proof.Machine.execGoodcrcRetryExhausted p s
  | .notSupportedReply p => Sys2Proof.Machine.execNotSupportedReply p s
  | .vdmResponseTimeout p => Sys2Proof.Machine.execVdmResponseTimeout p s
  | .bcDone p result => Sys2Proof.Machine.execBcDone p result s
  | .flitRetry l throttled => Sys2Proof.Machine.execFlitRetry l throttled s
  | .laneFailure l idx => Sys2Proof.Machine.execLaneFailure l idx s
  | .linkRetrain l lanes => Sys2Proof.Machine.execLinkRetrain l lanes s
  | .chainTrainingPattern d => Sys2Proof.Machine.execChainTrainingPattern d s
  | .portUp d => Sys2Proof.Machine.execPortUp d s
  | .portDown d => Sys2Proof.Machine.execPortDown d s
  | .delayMeasured d delay => Sys2Proof.Machine.execDelayMeasured d delay s
  | .chainLock k => Sys2Proof.Machine.execChainLock k s
  | .aloneTimeout => Sys2Proof.Machine.execAloneTimeout s
  | .epochSend => Sys2Proof.Machine.execEpochSend s
  | .epochReceive e => Sys2Proof.Machine.execEpochReceive e s
  | .relockSlewTimeout => Sys2Proof.Machine.execRelockSlewTimeout s
  | .stepRecordReceive r => Sys2Proof.Machine.execStepRecordReceive r s
  | .stepRecordApply => Sys2Proof.Machine.execStepRecordApply s
  | .slackEntry => Sys2Proof.Machine.execSlackEntry s
  | .holdoverExpiry => Sys2Proof.Machine.execHoldoverExpiry s
  | .chainFrameReceive src cls seq body => Sys2Proof.Machine.execChainFrameReceive src cls seq body s
  | .peerSummarySend => Sys2Proof.Machine.execPeerSummarySend s
  | .peerSummaryTimeout n => Sys2Proof.Machine.execPeerSummaryTimeout n s
  | .chainSignalFire n payload => Sys2Proof.Machine.execChainSignalFire n payload s
  | .trainTimeout d => Sys2Proof.Machine.execTrainTimeout d s
  | .hostLinkChange p up => Sys2Proof.Machine.execHostLinkChange p up s
  | .networkProtocolRequest p kind => Sys2Proof.Machine.execNetworkProtocolRequest p kind s
  | .reassemblyTimeout p => Sys2Proof.Machine.execReassemblyTimeout p s
  | .hdpOpen d => Sys2Proof.Machine.execHdpOpen d s
  | .hdpClose d => Sys2Proof.Machine.execHdpClose d s
  | .hdpData d => Sys2Proof.Machine.execHdpData d s
  | .hdpAck d => Sys2Proof.Machine.execHdpAck d s
  | .hdpKeepalive d => Sys2Proof.Machine.execHdpKeepalive d s
  | .hdpRetransmit idx => Sys2Proof.Machine.execHdpRetransmit idx s
  | .sessionTimeout idx => Sys2Proof.Machine.execSessionTimeout idx s
  | .keepaliveSend idx => Sys2Proof.Machine.execKeepaliveSend idx s
  | .streamSend idx => Sys2Proof.Machine.execStreamSend idx s
  | .ptpSync m => Sys2Proof.Machine.execPtpSync m s
  | .announceTimeout => Sys2Proof.Machine.execAnnounceTimeout s
  | .twMWrite bytes => Sys2Proof.Machine.execTwMWrite bytes s
  | .twMRead n => Sys2Proof.Machine.execTwMRead n s
  | .mbxSubmit => Sys2Proof.Machine.execMbxSubmit s
  | .mbxRelease => Sys2Proof.Machine.execMbxRelease s
  | .alertSend arbLost ack => Sys2Proof.Machine.execAlertSend arbLost ack s
  | .alertRetry arbLost ack => Sys2Proof.Machine.execAlertRetry arbLost ack s
  | .busclr rq freed => Sys2Proof.Machine.execBusclr rq freed s
  | .sdaStuckClear freed => Sys2Proof.Machine.execSdaStuckClear freed s
  | .sclTimeout => Sys2Proof.Machine.execSclTimeout s
  | .twTransfer rq n w => Sys2Proof.Machine.execTwTransfer rq n w s
  | .twTransferDone n r => Sys2Proof.Machine.execTwTransferDone n r s
  | .faultPairMessage src => Sys2Proof.Machine.execFaultPairMessage src s
  | .concentratorRefresh die => Sys2Proof.Machine.execConcentratorRefresh die s
  | .collectorReport => Sys2Proof.Machine.execCollectorReport s
  | .reactionComplete domain => Sys2Proof.Machine.execReactionComplete domain s
  | .railDisagreement src => Sys2Proof.Machine.execRailDisagreement src s
  | .suspectClear src => Sys2Proof.Machine.execSuspectClear src s
  | .collectorMismatch selfErr => Sys2Proof.Machine.execCollectorMismatch selfErr s
  | .fltSumClear rq k w => Sys2Proof.Machine.execFltSumClear rq k w s
  | .fltChclrWrite rq w => Sys2Proof.Machine.execFltChclrWrite rq w s
  | .forcePulse rq src => Sys2Proof.Machine.execForcePulse rq src s
  | .forceHold rq src => Sys2Proof.Machine.execForceHold rq src s
  | .forceRelease rq src => Sys2Proof.Machine.execForceRelease rq src s
  | .pllSwitchover d => Sys2Proof.Machine.execPllSwitchover d s
  | .referenceSwitchover r => Sys2Proof.Machine.execReferenceSwitchover r s
  | .mssCoreFault => Sys2Proof.Machine.execMssCoreFault s
  | .mssReset => Sys2Proof.Machine.execMssReset s
  | .supervisorReset q => Sys2Proof.Machine.execSupervisorReset q s
  | .housekeepingRound q r => Sys2Proof.Machine.execHousekeepingRound q r s
  | .sensorRestore sector n => Sys2Proof.Machine.execSensorRestore sector n s
  | .thermalModelStep sector legs => Sys2Proof.Machine.execThermalModelStep sector legs s
  | .thermalLevelRelease sector => Sys2Proof.Machine.execThermalLevelRelease sector s
  | .throttlePause sector => Sys2Proof.Machine.execThrottlePause sector s
  | .mainClkFail => Sys2Proof.Machine.execMainClkFail s
  | .wdtKick rq w => Sys2Proof.Machine.execWdtKick rq w s
  | .wdtStart rq => Sys2Proof.Machine.execWdtStart rq s
  | .wdtAutostart => Sys2Proof.Machine.execWdtAutostart s
  | .cntClr rq => Sys2Proof.Machine.execCntClr rq s
  | .wdtExpiry => Sys2Proof.Machine.execWdtExpiry s
  | .wdtSuspendEnd => Sys2Proof.Machine.execWdtSuspendEnd s
  | .logPageWrite ok => Sys2Proof.Machine.execLogPageWrite ok s
  | .norEraseDone => Sys2Proof.Machine.execNorEraseDone s
  | .telemetrySnapshot => Sys2Proof.Machine.execTelemetrySnapshot s
  | .powerOnReset => Sys2Proof.Machine.execPowerOnReset s
  | .powerOnRelease vPack vFeedA vFeedB => Sys2Proof.Machine.execPowerOnRelease vPack vFeedA vFeedB s
  | .resetNAssert => Sys2Proof.Machine.execResetNAssert s
  | .resetRelease st => Sys2Proof.Machine.execResetRelease st s
  | .bootStepDone f => Sys2Proof.Machine.execBootStepDone f s
  | .nobusTimeout => Sys2Proof.Machine.execNobusTimeout s
  | .rstDevice rq => Sys2Proof.Machine.execRstDevice rq s
  | .rstMss rq => Sys2Proof.Machine.execRstMss rq s
  | .rstSupervisor rq q => Sys2Proof.Machine.execRstSupervisor rq q s
  | .rstChannel rq c => Sys2Proof.Machine.execRstChannel rq c s
  | .ltCtrlWrite rq link w => Sys2Proof.Machine.execLtCtrlWrite rq link w s
  | .errorInject link => Sys2Proof.Machine.execErrorInject link s
  | .jtagInstructionUpdate ir => Sys2Proof.Machine.execJtagInstructionUpdate ir s
  | .snapshotLoRead rq addr => Sys2Proof.Machine.execSnapshotLoRead rq addr s
  | .snapshotHiRead rq addr => Sys2Proof.Machine.execSnapshotHiRead rq addr s
  | .provisioningLock rq w => Sys2Proof.Machine.execProvisioningLock rq w s
  | .provPulseDone blown doubt => Sys2Proof.Machine.execProvPulseDone blown doubt s
  | .registerWrite rq addr w => Sys2Proof.Machine.execRegisterWrite rq addr w s
  | .differentialInputValid src => Sys2Proof.Machine.execDifferentialInputValid src s
  | .partnerRpChange p rp => Sys2Proof.Machine.execPartnerRpChange p rp s
  | .feedReverseCurrent f => Sys2Proof.Machine.execFeedReverseCurrent f s
  | .feedDiodeReclose f => Sys2Proof.Machine.execFeedDiodeReclose f s
  | .checkerLock link => Sys2Proof.Machine.execCheckerLock link s
  | .checkerLockLoss link => Sys2Proof.Machine.execCheckerLockLoss link s
  | .sramScrub addr kind => Sys2Proof.Machine.execSramScrub addr kind s
  | .inPlaceCalibrationEnd c => Sys2Proof.Machine.execInPlaceCalibrationEnd c s
  | .referenceReturn r => Sys2Proof.Machine.execReferenceReturn r s
  | .mainClkReturn => Sys2Proof.Machine.execMainClkReturn s
  | .ptpAnnounce m => Sys2Proof.Machine.execPtpAnnounce m s
  | .houseRetryCountRestart => Sys2Proof.Machine.execHouseRetryCountRestart s

end Sys2Proof.Machine
end

