-- ==== Sys2Proof/Machine/Idle.lean ====
section
/-!
DEFINITION. What a step with an empty queue does: 8 ns pass (DESIGN CHOICE: one tick of device time as R40 samples
it). Only what runs with the time alone is here; every condition that a command of the opcode table stands for comes
with that command.
-/

namespace Sys2Proof.Machine

/-- The length of an idle step in ns. -/
def tickNs : Nat := 8

/-- Device time and the extended time of the chain run from the end of boot step 5 (R40, R492, R397). -/
def State.tickTime (s : State) : State :=
  if s.bootStep < 6 || s.boot.por || s.boot.pin then s
  else
    (s.wr64 R.TB_DTIME_LO R.TB_DTIME_HI ((s.dtime + tickNs : Nat) : Int)).wr64 R.CHN_CTIME_LO R.CHN_CTIME_HI
      ((s.ctime + 1000 * tickNs : Nat) : Int)

/-- An offset of the IEEE 1588 clock is slewed out at 100 ppm: 1 ns each 10,000 ns (R423). -/
def State.tickPtp (s : State) : State :=
  if s.ptp.slew = 0 then s
  else
    let a := s.ptp.acc + tickNs
    if a < 10000 then { s with ptp := { s.ptp with acc := a } }
    else
      let d : Int := if 0 < s.ptp.slew then 1 else -1
      State.wr64 { s with ptp := { slew := s.ptp.slew - d, acc := a - 10000 } } R.TB_DTIME_LO R.TB_DTIME_HI
        ((s.dtime : Int) + d)

/-- The always-on oscillator, and the watchdog's milliseconds (R477 to R480). Its expiry is a command. -/
def State.tickWdt (s : State) : State :=
  let s1 : State := { s with wdt := { s.wdt with clock := s.wdt.clock + tickNs } }
  if !s1.wdtRuns then s1
  else if s1.wdt.sub + tickNs < 1000000 then { s1 with wdt := { s1.wdt with sub := s1.wdt.sub + tickNs } }
  else
    State.set { s1 with wdt := { s1.wdt with sub := s1.wdt.sub + tickNs - 1000000 } } F.WDT_STAT.REMAIN
      (s1.get F.WDT_STAT.REMAIN - 1)

/-- A throttle pause of a sector ends: the records that waited are written, and each READY thread of the hub issues before
the next one (R289, R468). -/
def State.pauseEnd (s : State) (q : Nat) : State :=
  let s1 := if q = 6 then
      (List.finRange 64).foldl (fun s t => s.modThr t fun h => { h with owed := s.thrState t == thrReady }) s
    else s
  (sectorChs q).foldl (fun (s : State) (c : Fin 24) =>
    if s.pausedIn (c.val / 4) || s.pausedIn 6 then s else s.flushBuf c) s1

/-- The throttle pauses run. -/
def State.tickPauses (s : State) : State :=
  let high := s.paused.filter fun x => decide (x.2 ≤ tickNs)
  let left := (s.paused.filter fun x => decide (tickNs < x.2)).map fun x => (x.1, x.2 - tickNs)
  high.foldl (fun s x => s.pauseEnd x.1) { s with paused := left }

/-- Bits that a lane of a group carries in 8 ns (Table 20-1); at 10.3125 GBd 82 and 83 in turn. -/
def bitsPerTick (s : State) (g : Nat) : Nat :=
  if g < 2 then 82 + s.dtime / tickNs % 2 else if g = 2 then 128 else 20

/-- A locked checker counts the bits it compares (R505). -/
def State.tickLt (s : State) (g i : Nat) : State :=
  if s.ltChecks g i && s.is (F.LT_STAT.LOCK g i) then
    s.wr64 (R.LT_BITS_LO g i) (R.LT_BITS_HI g i)
      ((s.rd64 (R.LT_BITS_LO g i) (R.LT_BITS_HI g i) + bitsPerTick s g : Nat) : Int)
  else s

/-- The engines that run. -/
def State.ltRunning (s : State) : List (Nat × Nat) :=
  (List.range 4).flatMap fun g => ((List.range (ltCount g)).filter (s.ltRuns g)).map fun i => (g, i)

/-- The books of links and hops move; those of a link or a port that is DOWN stand (R389, R392, R393). -/
def State.tickBooks (s : State) : State :=
  s.books.foldl (fun s x =>
    if (if x.1 < 56 then s.linkDown (x.1 / 8) else decide (s.get (F.CHN_PORT.PSTATE (x.1 / 8 - 7)) < 3)) then s
    else s.modBook x.1 fun b => b.move x.1) s

/-- 8 ns pass with no command. -/
def State.idle (s : State) : State :=
  let s1 := s.tickTime.tickPtp.tickWdt.tickPauses
  let s2 := s1.ltRunning.foldl (fun s x => s.tickLt x.1 x.2) s1
  let s3 : State := if s2.nor.erase.isSome then { s2 with nor := { s2.nor with age := s2.nor.age + tickNs } } else s2
  s3.tickBooks.resetDue

end Sys2Proof.Machine
end

