-- ==== Sys2Proof/Safety.lean ====
section
/-!
DEFINITION. What counts as a well-kept state: registers and queue memory in their canonical forms, and bytes listed only
where a store has an effect.
-/

namespace Sys2Proof.Machine

/-- The canonical form of the register list: addresses strictly rising, no entry at its reset word. -/
def Regs.wf (l : List (Nat × Word)) : Bool :=
  l.all (fun x => x.2 != resetWord x.1) && (l.zip l.tail).all (fun p => p.1.1 < p.2.1)

/-- Registers and memory are in canonical form. -/
def State.wf (s : State) : Bool := Regs.wf s.regs && Memory.wf s.mem

/-- Every listed byte lies where a store has an effect (R16, R54). -/
def State.memIn (s : State) : Bool := s.mem.all fun x => storable x.1

/-- A run is safe while every step answers a next state. -/
def safeFor : Nat → State → Bool
  | 0, _ => true
  | k + 1, s => match step s with
    | .next t => safeFor k t
    | _ => false

/-! ### Words of the claims about programs -/

/-- Executor x may issue, and the word it is fetched from has no uncorrectable error (R268, R275, R284). -/
def State.runs (s : State) (x : Exec) : Bool :=
  s.canIssue x && (s.ctxBad x).isNone && !s.ue.contains ((s.pcOf x).toNat / 8)

/-- Nothing changed but registers, contexts of threads and of MSS cores, and the PCs of MSS cores. -/
structure OnlyContexts (s t : State) : Prop where
  rest : { t with regs := s.regs, threads := s.threads, mss := s.mss } = s
  thr  : ∀ k : Fin 64, { t.threads[k] with ctx := {} } = { s.threads[k] with ctx := {} }
  mss  : ∀ k : Fin 2, { t.mss[k] with ctx := {}, pc := 0 } = { s.mss[k] with ctx := {}, pc := 0 }

/-- What an instruction of x leaves that only writes x's context and PC: the context is c, the PC is p, and nothing
else has changed but that x has issued: the turn of its pair has passed on (`State.took`). -/
structure Stepped (x : Exec) (c : Ctx) (p : Word) (s t : State) : Prop where
  ctx    : t.ctx x = c
  pc     : t.pcOf x = p
  others : ∀ y, y ≠ x → t.ctx y = s.ctx y ∧ t.pcOf y = s.pcOf y
  regs   : ∀ a, (∀ k, x = .thread k → a ≠ R.SEQ_THR_PC k) → t.rd a = s.rd a
  mem    : ∀ a, t.ldByte a = s.ldByte a
  only   : OnlyContexts (s.took x) t

end Sys2Proof.Machine
end

