-- ==== Sys2Proof/Laws/Cells.lean ====
section
/-!
SUPPORT. The laws of sparse data in canonical form: a read after a write to the same key gives the value written, a
write leaves every other key alone, and it keeps the form. Registers and queue memory follow.
-/

namespace Sys2Proof.Machine

/-! ### Cells -/

/-- Keys strictly rising, and no entry at its key's default. -/
def Canon {β : Type} (d : Nat → β) (l : List (Nat × β)) : Prop :=
  l.Pairwise (fun x y => x.1 < y.1) ∧ ∀ x ∈ l, x.2 ≠ d x.1

theorem cellGet_of_lt {β : Type} (d : β) (k : Nat) (l : List (Nat × β)) (h : ∀ x ∈ l, k < x.1) :
    cellGet d k l = d := by
  induction l with
  | nil => rfl
  | cons x l ih =>
    have hx := h x (by simp)
    simp only [cellGet]
    rw [if_neg (by omega)]
    exact ih fun y hy => h y (by simp [hy])

theorem cellGet_cellSet_same {β : Type} [DecidableEq β] (d : β) (k : Nat) (v : β) (l : List (Nat × β))
    (h : l.Pairwise (fun x y => x.1 < y.1)) : cellGet d k (cellSet d k v l) = v := by
  induction l with
  | nil => by_cases hv : v = d <;> simp [cellSet, cellGet, hv]
  | cons x l ih =>
    obtain ⟨k', v'⟩ := x
    rw [List.pairwise_cons] at h
    simp only [cellSet]
    split
    · rename_i hlt
      by_cases hv : v = d
      · rw [if_pos hv, hv]
        refine cellGet_of_lt d k _ fun y hy => ?_
        rcases List.mem_cons.1 hy with rfl | hy
        · exact hlt
        · exact Nat.lt_trans hlt (h.1 y hy)
      · simp [hv, cellGet]
    · split
      · rename_i heq
        by_cases hv : v = d
        · rw [if_pos hv, hv]
          exact cellGet_of_lt d k _ fun y hy => heq ▸ h.1 y hy
        · simp [hv, cellGet]
      · rename_i hne
        simp only [cellGet]
        rw [if_neg hne]
        exact ih h.2

theorem cellGet_cellSet_other {β : Type} [DecidableEq β] (d e : β) (j k : Nat) (v : β) (l : List (Nat × β))
    (hjk : j ≠ k) : cellGet e j (cellSet d k v l) = cellGet e j l := by
  induction l with
  | nil => by_cases hv : v = d <;> simp [cellSet, cellGet, hv, hjk]
  | cons x l ih =>
    obtain ⟨k', v'⟩ := x
    simp only [cellSet]
    split
    · by_cases hv : v = d <;> simp [hv, cellGet, hjk]
    · split
      · rename_i heq
        subst heq
        by_cases hv : v = d <;> simp [hv, cellGet, hjk]
      · simp only [cellGet]
        split
        · rfl
        · exact ih

/-- A key of the list after a write is the written one or a former one. -/
theorem mem_cellSet {β : Type} [DecidableEq β] {d : β} {k : Nat} {v : β} {l : List (Nat × β)} {x : Nat × β}
    (h : x ∈ cellSet d k v l) : (x = (k, v) ∧ v ≠ d) ∨ x ∈ l := by
  induction l with
  | nil =>
    by_cases hv : v = d
    · simp [cellSet, hv] at h
    · simp [cellSet, hv] at h
      exact .inl ⟨h, hv⟩
  | cons y l ih =>
    obtain ⟨k', v'⟩ := y
    simp only [cellSet] at h
    split at h
    · by_cases hv : v = d
      · rw [if_pos hv] at h
        exact .inr h
      · rw [if_neg hv] at h
        rcases List.mem_cons.1 h with rfl | h
        · exact .inl ⟨rfl, hv⟩
        · exact .inr h
    · split at h
      · by_cases hv : v = d
        · rw [if_pos hv] at h
          exact .inr (List.mem_cons_of_mem _ h)
        · rw [if_neg hv] at h
          rcases List.mem_cons.1 h with rfl | h
          · exact .inl ⟨rfl, hv⟩
          · exact .inr (List.mem_cons_of_mem _ h)
      · rcases List.mem_cons.1 h with rfl | h
        · exact .inr (by simp)
        · rcases ih h with h | h
          · exact .inl h
          · exact .inr (List.mem_cons_of_mem _ h)

theorem cellSet_rising {β : Type} [DecidableEq β] (d : β) (k : Nat) (v : β) (l : List (Nat × β))
    (h : l.Pairwise (fun x y => x.1 < y.1)) : (cellSet d k v l).Pairwise (fun x y => x.1 < y.1) := by
  induction l with
  | nil => by_cases hv : v = d <;> simp [cellSet, hv]
  | cons x l ih =>
    obtain ⟨k', v'⟩ := x
    have hc := List.pairwise_cons.1 h
    simp only [cellSet]
    split
    · rename_i hlt
      by_cases hv : v = d
      · rw [if_pos hv]
        exact h
      · rw [if_neg hv]
        refine List.pairwise_cons.2 ⟨fun y hy => ?_, h⟩
        rcases List.mem_cons.1 hy with rfl | hy
        · exact hlt
        · exact Nat.lt_trans hlt (hc.1 y hy)
    · split
      · rename_i heq
        by_cases hv : v = d
        · rw [if_pos hv]
          exact hc.2
        · rw [if_neg hv]
          exact List.pairwise_cons.2 ⟨fun y hy => heq ▸ hc.1 y hy, hc.2⟩
      · rename_i hnlt hne
        refine List.pairwise_cons.2 ⟨fun y hy => ?_, ih hc.2⟩
        rcases mem_cellSet hy with ⟨rfl, -⟩ | hy
        · exact Nat.lt_of_le_of_ne (Nat.le_of_not_lt hnlt) (Ne.symm hne)
        · exact hc.1 y hy

theorem canon_cellSet {β : Type} [DecidableEq β] (d : Nat → β) (k : Nat) (v : β) (l : List (Nat × β))
    (h : Canon d l) : Canon d (cellSet (d k) k v l) := by
  refine ⟨cellSet_rising _ _ _ _ h.1, fun x hx => ?_⟩
  rcases mem_cellSet hx with ⟨rfl, hv⟩ | hx
  · exact hv
  · exact h.2 x hx

theorem canon_filter {β : Type} {d : Nat → β} {l : List (Nat × β)} (p : Nat × β → Bool) (h : Canon d l) :
    Canon d (l.filter p) :=
  ⟨h.1.filter p, fun x hx => h.2 x (List.mem_filter.1 hx).1⟩

theorem canon_nil {β : Type} (d : Nat → β) : Canon d ([] : List (Nat × β)) := ⟨.nil, by simp⟩

/-- The check of neighbours says that keys rise. -/
theorem rising_iff {β : Type} (l : List (Nat × β)) :
    (l.zip l.tail).all (fun p => p.1.1 < p.2.1) = true ↔ l.Pairwise (fun x y => x.1 < y.1) := by
  induction l with
  | nil => simp
  | cons x l ih =>
    cases l with
    | nil => simp
    | cons y l =>
      rw [List.tail_cons] at ih ⊢
      rw [List.zip_cons_cons, List.all_cons, Bool.and_eq_true, List.pairwise_cons]
      rw [ih]
      constructor
      · rintro ⟨h, hp⟩
        refine ⟨fun z hz => ?_, hp⟩
        have h' : x.1 < y.1 := by simpa using h
        rcases List.mem_cons.1 hz with rfl | hz
        · exact h'
        · exact Nat.lt_trans h' ((List.pairwise_cons.1 hp).1 z hz)
      · rintro ⟨h, hp⟩
        exact ⟨by simpa using h y (by simp), hp⟩

theorem memory_wf_iff (m : List Host.Cell) : Memory.wf m = true ↔ Canon (fun _ => memDefault) m := by
  unfold Memory.wf Canon
  rw [Bool.and_eq_true, rising_iff, and_comm]
  simp

theorem regs_wf_iff (l : List (Nat × Word)) : Regs.wf l = true ↔ Canon resetWord l := by
  unfold Regs.wf Canon
  rw [Bool.and_eq_true, rising_iff, and_comm]
  simp

/-! ### Registers -/

/-- The register part of the canonical form. -/
abbrev State.rwf (s : State) : Prop := Regs.wf s.regs = true

theorem State.rising (s : State) (h : s.rwf) : s.regs.Pairwise (fun x y => x.1 < y.1) := ((regs_wf_iff _).1 h).1

theorem State.wr_rwf (s : State) (a : Nat) (w : Word) (h : s.rwf) : (s.wr a w).rwf :=
  (regs_wf_iff _).2 (canon_cellSet resetWord a w _ ((regs_wf_iff _).1 h))

theorem State.set_rwf (s : State) (f : Fld) (v : Nat) (h : s.rwf) : (s.set f v).rwf := s.wr_rwf _ _ h
theorem State.setb_rwf (s : State) (f : Fld) (b : Bool) (h : s.rwf) : (s.setb f b).rwf := s.wr_rwf _ _ h
theorem State.seti_rwf (s : State) (f : Fld) (v : Int) (h : s.rwf) : (s.seti f v).rwf := s.wr_rwf _ _ h
theorem State.inc_rwf (s : State) (f : Fld) (n : Nat) (h : s.rwf) : (s.inc f n).rwf := s.wr_rwf _ _ h
theorem State.wr64_rwf (s : State) (l u : Nat) (v : Int) (h : s.rwf) : (s.wr64 l u v).rwf :=
  (s.wr l _).wr_rwf _ _ (s.wr_rwf _ _ h)

/-- A register read after its write. -/
theorem State.rd_wr (s : State) (a : Nat) (w : Word) (h : s.rwf) : (s.wr a w).rd a = w :=
  cellGet_cellSet_same _ a w _ (s.rising h)

/-- A write leaves every other register alone. -/
theorem State.rd_wr_other (s : State) (a b : Nat) (w : Word) (h : b ≠ a) : (s.wr a w).rd b = s.rd b :=
  cellGet_cellSet_other _ _ b a w _ h

/-- Bits of a word in which a field was set, by the field's width. -/
theorem bitsOf_setBits (w : Word) (hi lo v : Nat) (h1 : lo ≤ hi) (h2 : hi < 32) :
    bitsOf (setBits w hi lo v) hi lo = v % 2 ^ (hi - lo + 1) := by
  unfold bitsOf setBits
  apply Nat.eq_of_testBit_eq
  intro i
  simp only [Nat.testBit_mod_two_pow, Nat.testBit_shiftRight, BitVec.testBit_toNat, BitVec.getLsbD_or,
    BitVec.getLsbD_and, BitVec.getLsbD_not, BitVec.getLsbD_ofNat, Nat.testBit_shiftLeft,
    Nat.testBit_two_pow_sub_one]
  by_cases hi' : i < hi - lo + 1
  · have a1 : lo + i < 32 := by omega
    simp [hi', a1]
  · simp [hi']

/-- Bits that lie outside a field keep their value when it is set. -/
theorem bitsOf_setBits_other (w : Word) (hi lo v hi' lo' : Nat) (h : hi < lo' ∨ hi' < lo) (hl : lo' ≤ hi')
    (hl2 : lo ≤ hi) : bitsOf (setBits w hi lo v) hi' lo' = bitsOf w hi' lo' := by
  unfold bitsOf setBits
  apply Nat.eq_of_testBit_eq
  intro i
  simp only [Nat.testBit_mod_two_pow, Nat.testBit_shiftRight, BitVec.testBit_toNat, BitVec.getLsbD_or,
    BitVec.getLsbD_and, BitVec.getLsbD_not, BitVec.getLsbD_ofNat, Nat.testBit_shiftLeft,
    Nat.testBit_two_pow_sub_one]
  by_cases hi1 : i < hi' - lo' + 1
  · by_cases h32 : lo' + i < 32
    · have a1 : ¬(lo ≤ lo' + i ∧ lo' + i - lo < hi - lo + 1) := by omega
      by_cases a2 : lo ≤ lo' + i
      · have a3 : ¬(lo' + i - lo < hi - lo + 1) := fun h3 => a1 ⟨a2, h3⟩
        simp [h32, a3]
      · simp [h32, a2]
    · have : w.getLsbD (lo' + i) = false := BitVec.getLsbD_of_ge w _ (by omega)
      simp [h32, this]
  · simp [hi1]

/-- A field read after it was set. -/
theorem State.get_set (s : State) (f : Fld) (v : Nat) (h : s.rwf) (h1 : f.lo ≤ f.hi) (h2 : f.hi < 32) :
    (s.set f v).get f = v % 2 ^ f.width := by
  unfold State.get State.set
  rw [s.rd_wr _ _ h, bitsOf_setBits _ _ _ _ h1 h2]
  rfl

/-- A field of another register. -/
theorem State.get_set_other (s : State) (f g : Fld) (v : Nat) (h : g.addr ≠ f.addr) : (s.set f v).get g = s.get g := by
  unfold State.get State.set
  rw [s.rd_wr_other _ _ _ h]

/-- Another field of the same register. -/
theorem State.get_set_apart (s : State) (f g : Fld) (v : Nat) (h : s.rwf) (ha : g.addr = f.addr)
    (hb : f.hi < g.lo ∨ g.hi < f.lo) (hf : f.lo ≤ f.hi) (hg : g.lo ≤ g.hi) : (s.set f v).get g = s.get g := by
  unfold State.get State.set
  rw [ha, s.rd_wr _ _ h, bitsOf_setBits_other _ _ _ _ _ _ hb hg hf]

/-! ### Queue memory -/

/-- The memory part of the canonical form. -/
abbrev State.mwf (s : State) : Prop := Memory.wf s.mem = true

theorem State.poke_mwf (s : State) (a : Nat) (b : Byte) (h : s.mwf) : (s.poke a b).mwf :=
  (memory_wf_iff _).2 (canon_cellSet (fun _ => memDefault) a b _ ((memory_wf_iff _).1 h))

theorem State.stByte_mwf (s : State) (a : Nat) (b : Byte) (h : s.mwf) : (s.stByte a b).mwf := by
  unfold State.stByte
  split
  · exact s.poke_mwf a b h
  · exact h

theorem State.stBytes_mwf (l : List Byte) : ∀ (s : State) (a : Nat), s.mwf → (s.stBytes a l).mwf := by
  induction l with
  | nil => exact fun _ _ h => h
  | cons b l ih => exact fun s a h => ih _ _ (s.stByte_mwf a b h)

theorem State.stWords_mwf (l : List Word) : ∀ (s : State) (a : Nat), s.mwf → (s.stWords a l).mwf := by
  induction l with
  | nil => exact fun _ _ h => h
  | cons w l ih => exact fun s a h => ih _ _ (s.stBytes_mwf _ a h)

/-- Clearing a bank keeps the form. -/
theorem filter_mwf (m : List Host.Cell) (p : Host.Cell → Bool) (h : Memory.wf m = true) :
    Memory.wf (m.filter p) = true :=
  (memory_wf_iff _).2 (canon_filter p ((memory_wf_iff _).1 h))

/-- A byte read after it was stored, where a store has an effect. -/
theorem State.ldByte_stByte (s : State) (a : Nat) (b : Byte) (h : s.mwf) (hs : storable a = true)
    (hb : s.bankOn a = true) : (s.stByte a b).ldByte a = b := by
  have hq : inQueue a = true := by
    unfold storable at hs
    simp only [Bool.and_eq_true] at hs
    exact hs.1.1
  have hc : (decide (0x10000000 ≤ a) && decide (a < 0x10600000)) = false := by
    unfold storable at hs
    simp only [Bool.and_eq_true] at hs
    have := hs.1.2
    rwa [Bool.not_eq_true'] at this
  have hst : s.stByte a b = { s.poke a b with ue := s.ue.filter (· != a / 8) } := by
    unfold State.stByte
    rw [hs, hb]
    rfl
  have hbn : (s.stByte a b).bankOn a = true := by rw [hst]; exact hb
  unfold State.ldByte
  rw [hc, hq, hbn, hst]
  exact cellGet_cellSet_same memDefault a b s.mem ((memory_wf_iff _).1 h).1

/-- A store leaves every other byte of queue memory outside the calendar alone. -/
theorem State.ldByte_stByte_other (s : State) (a c : Nat) (b : Byte) (hac : c ≠ a)
    (hc : ¬(0x10000000 ≤ c ∧ c < 0x10600000)) : (s.stByte a b).ldByte c = s.ldByte c := by
  unfold State.stByte
  split
  · have h1 : (decide (0x10000000 ≤ c) && decide (c < 0x10600000)) = false := by simpa using hc
    have h2 : ({ s.poke a b with ue := s.ue.filter (· != a / 8) } : State).bankOn c = s.bankOn c := rfl
    unfold State.ldByte
    rw [h1, h2]
    split
    · rfl
    · split
      · exact cellGet_cellSet_other memDefault memDefault c a b s.mem hac
      · rfl
  · rfl

end Sys2Proof.Machine
end

