-- ==== Sys2Proof/Laws/State.lean ====
section
/-!
SUPPORT. One lemma for each field of State and each update: what the update leaves, and what it sets.
-/

namespace Sys2Proof.Machine

/-! ### wr -/

@[simp] theorem State.wr_pending (s : State) (a : Nat) (w : Word) : (s.wr a w).pending = s.pending := rfl
@[simp] theorem State.wr_mem (s : State) (a : Nat) (w : Word) : (s.wr a w).mem = s.mem := rfl
@[simp] theorem State.wr_freeCtr (s : State) (a : Nat) (w : Word) : (s.wr a w).freeCtr = s.freeCtr := rfl
@[simp] theorem State.wr_tb (s : State) (a : Nat) (w : Word) : (s.wr a w).tb = s.tb := rfl
@[simp] theorem State.wr_records (s : State) (a : Nat) (w : Word) : (s.wr a w).records = s.records := rfl
@[simp] theorem State.wr_fireReps (s : State) (a : Nat) (w : Word) : (s.wr a w).fireReps = s.fireReps := rfl
@[simp] theorem State.wr_gts (s : State) (a : Nat) (w : Word) : (s.wr a w).gts = s.gts := rfl
@[simp] theorem State.wr_evtPulse (s : State) (a : Nat) (w : Word) : (s.wr a w).evtPulse = s.evtPulse := rfl
@[simp] theorem State.wr_chainSig (s : State) (a : Nat) (w : Word) : (s.wr a w).chainSig = s.chainSig := rfl
@[simp] theorem State.wr_chans (s : State) (a : Nat) (w : Word) : (s.wr a w).chans = s.chans := rfl
@[simp] theorem State.wr_chargers (s : State) (a : Nat) (w : Word) : (s.wr a w).chargers = s.chargers := rfl
@[simp] theorem State.wr_threads (s : State) (a : Nat) (w : Word) : (s.wr a w).threads = s.threads := rfl
@[simp] theorem State.wr_mss (s : State) (a : Nat) (w : Word) : (s.wr a w).mss = s.mss := rfl
@[simp] theorem State.wr_wakes (s : State) (a : Nat) (w : Word) : (s.wr a w).wakes = s.wakes := rfl
@[simp] theorem State.wr_ops (s : State) (a : Nat) (w : Word) : (s.wr a w).ops = s.ops := rfl
@[simp] theorem State.wr_images (s : State) (a : Nat) (w : Word) : (s.wr a w).images = s.images := rfl
@[simp] theorem State.wr_cmds (s : State) (a : Nat) (w : Word) : (s.wr a w).cmds = s.cmds := rfl
@[simp] theorem State.wr_journal (s : State) (a : Nat) (w : Word) : (s.wr a w).journal = s.journal := rfl
@[simp] theorem State.wr_out (s : State) (a : Nat) (w : Word) : (s.wr a w).out = s.out := rfl
@[simp] theorem State.wr_reqs (s : State) (a : Nat) (w : Word) : (s.wr a w).reqs = s.reqs := rfl
@[simp] theorem State.wr_mssDown (s : State) (a : Nat) (w : Word) : (s.wr a w).mssDown = s.mssDown := rfl
@[simp] theorem State.wr_heldIn (s : State) (a : Nat) (w : Word) : (s.wr a w).heldIn = s.heldIn := rfl
@[simp] theorem State.wr_sessions (s : State) (a : Nat) (w : Word) : (s.wr a w).sessions = s.sessions := rfl
@[simp] theorem State.wr_closed (s : State) (a : Nat) (w : Word) : (s.wr a w).closed = s.closed := rfl
@[simp] theorem State.wr_wire (s : State) (a : Nat) (w : Word) : (s.wr a w).wire = s.wire := rfl
@[simp] theorem State.wr_twm (s : State) (a : Nat) (w : Word) : (s.wr a w).twm = s.twm := rfl
@[simp] theorem State.wr_ptp (s : State) (a : Nat) (w : Word) : (s.wr a w).ptp = s.ptp := rfl
@[simp] theorem State.wr_netOut (s : State) (a : Nat) (w : Word) : (s.wr a w).netOut = s.netOut := rfl
@[simp] theorem State.wr_ue (s : State) (a : Nat) (w : Word) : (s.wr a w).ue = s.ue := rfl
@[simp] theorem State.wr_extents (s : State) (a : Nat) (w : Word) : (s.wr a w).extents = s.extents := rfl
@[simp] theorem State.wr_rings (s : State) (a : Nat) (w : Word) : (s.wr a w).rings = s.rings := rfl
@[simp] theorem State.wr_upd (s : State) (a : Nat) (w : Word) : (s.wr a w).upd = s.upd := rfl
@[simp] theorem State.wr_reports (s : State) (a : Nat) (w : Word) : (s.wr a w).reports = s.reports := rfl
@[simp] theorem State.wr_asserts (s : State) (a : Nat) (w : Word) : (s.wr a w).asserts = s.asserts := rfl
@[simp] theorem State.wr_fltRecs (s : State) (a : Nat) (w : Word) : (s.wr a w).fltRecs = s.fltRecs := rfl
@[simp] theorem State.wr_reacts (s : State) (a : Nat) (w : Word) : (s.wr a w).reacts = s.reacts := rfl
@[simp] theorem State.wr_repairs (s : State) (a : Nat) (w : Word) : (s.wr a w).repairs = s.repairs := rfl
@[simp] theorem State.wr_suspects (s : State) (a : Nat) (w : Word) : (s.wr a w).suspects = s.suspects := rfl
@[simp] theorem State.wr_collDead (s : State) (a : Nat) (w : Word) : (s.wr a w).collDead = s.collDead := rfl
@[simp] theorem State.wr_house (s : State) (a : Nat) (w : Word) : (s.wr a w).house = s.house := rfl
@[simp] theorem State.wr_ledger (s : State) (a : Nat) (w : Word) : (s.wr a w).ledger = s.ledger := rfl
@[simp] theorem State.wr_ports (s : State) (a : Nat) (w : Word) : (s.wr a w).ports = s.ports := rfl
@[simp] theorem State.wr_laneBad (s : State) (a : Nat) (w : Word) : (s.wr a w).laneBad = s.laneBad := rfl
@[simp] theorem State.wr_chain (s : State) (a : Nat) (w : Word) : (s.wr a w).chain = s.chain := rfl
@[simp] theorem State.wr_paused (s : State) (a : Nat) (w : Word) : (s.wr a w).paused = s.paused := rfl
@[simp] theorem State.wr_sectors (s : State) (a : Nat) (w : Word) : (s.wr a w).sectors = s.sectors := rfl
@[simp] theorem State.wr_wdt (s : State) (a : Nat) (w : Word) : (s.wr a w).wdt = s.wdt := rfl
@[simp] theorem State.wr_logBuf (s : State) (a : Nat) (w : Word) : (s.wr a w).logBuf = s.logBuf := rfl
@[simp] theorem State.wr_logNor (s : State) (a : Nat) (w : Word) : (s.wr a w).logNor = s.logNor := rfl
@[simp] theorem State.wr_nor (s : State) (a : Nat) (w : Word) : (s.wr a w).nor = s.nor := rfl
@[simp] theorem State.wr_boot (s : State) (a : Nat) (w : Word) : (s.wr a w).boot = s.boot := rfl
@[simp] theorem State.wr_pllBad (s : State) (a : Nat) (w : Word) : (s.wr a w).pllBad = s.pllBad := rfl
@[simp] theorem State.wr_refBad (s : State) (a : Nat) (w : Word) : (s.wr a w).refBad = s.refBad := rfl
@[simp] theorem State.wr_ltMoved (s : State) (a : Nat) (w : Word) : (s.wr a w).ltMoved = s.ltMoved := rfl
@[simp] theorem State.wr_chargersB (s : State) (a : Nat) (w : Word) : (s.wr a w).chargersB = s.chargersB := rfl
@[simp] theorem State.wr_reasm (s : State) (a : Nat) (w : Word) : (s.wr a w).reasm = s.reasm := rfl
@[simp] theorem State.wr_turn (s : State) (a : Nat) (w : Word) : (s.wr a w).turn = s.turn := rfl
@[simp] theorem State.wr_books (s : State) (a : Nat) (w : Word) : (s.wr a w).books = s.books := rfl
@[simp] theorem State.wr_linkCnt (s : State) (a : Nat) (w : Word) : (s.wr a w).linkCnt = s.linkCnt := rfl

/-! ### set -/

@[simp] theorem State.set_pending (s : State) (f : Fld) (v : Nat) : (s.set f v).pending = s.pending := rfl
@[simp] theorem State.set_mem (s : State) (f : Fld) (v : Nat) : (s.set f v).mem = s.mem := rfl
@[simp] theorem State.set_freeCtr (s : State) (f : Fld) (v : Nat) : (s.set f v).freeCtr = s.freeCtr := rfl
@[simp] theorem State.set_tb (s : State) (f : Fld) (v : Nat) : (s.set f v).tb = s.tb := rfl
@[simp] theorem State.set_records (s : State) (f : Fld) (v : Nat) : (s.set f v).records = s.records := rfl
@[simp] theorem State.set_fireReps (s : State) (f : Fld) (v : Nat) : (s.set f v).fireReps = s.fireReps := rfl
@[simp] theorem State.set_gts (s : State) (f : Fld) (v : Nat) : (s.set f v).gts = s.gts := rfl
@[simp] theorem State.set_evtPulse (s : State) (f : Fld) (v : Nat) : (s.set f v).evtPulse = s.evtPulse := rfl
@[simp] theorem State.set_chainSig (s : State) (f : Fld) (v : Nat) : (s.set f v).chainSig = s.chainSig := rfl
@[simp] theorem State.set_chans (s : State) (f : Fld) (v : Nat) : (s.set f v).chans = s.chans := rfl
@[simp] theorem State.set_chargers (s : State) (f : Fld) (v : Nat) : (s.set f v).chargers = s.chargers := rfl
@[simp] theorem State.set_threads (s : State) (f : Fld) (v : Nat) : (s.set f v).threads = s.threads := rfl
@[simp] theorem State.set_mss (s : State) (f : Fld) (v : Nat) : (s.set f v).mss = s.mss := rfl
@[simp] theorem State.set_wakes (s : State) (f : Fld) (v : Nat) : (s.set f v).wakes = s.wakes := rfl
@[simp] theorem State.set_ops (s : State) (f : Fld) (v : Nat) : (s.set f v).ops = s.ops := rfl
@[simp] theorem State.set_images (s : State) (f : Fld) (v : Nat) : (s.set f v).images = s.images := rfl
@[simp] theorem State.set_cmds (s : State) (f : Fld) (v : Nat) : (s.set f v).cmds = s.cmds := rfl
@[simp] theorem State.set_journal (s : State) (f : Fld) (v : Nat) : (s.set f v).journal = s.journal := rfl
@[simp] theorem State.set_out (s : State) (f : Fld) (v : Nat) : (s.set f v).out = s.out := rfl
@[simp] theorem State.set_reqs (s : State) (f : Fld) (v : Nat) : (s.set f v).reqs = s.reqs := rfl
@[simp] theorem State.set_mssDown (s : State) (f : Fld) (v : Nat) : (s.set f v).mssDown = s.mssDown := rfl
@[simp] theorem State.set_heldIn (s : State) (f : Fld) (v : Nat) : (s.set f v).heldIn = s.heldIn := rfl
@[simp] theorem State.set_sessions (s : State) (f : Fld) (v : Nat) : (s.set f v).sessions = s.sessions := rfl
@[simp] theorem State.set_closed (s : State) (f : Fld) (v : Nat) : (s.set f v).closed = s.closed := rfl
@[simp] theorem State.set_wire (s : State) (f : Fld) (v : Nat) : (s.set f v).wire = s.wire := rfl
@[simp] theorem State.set_twm (s : State) (f : Fld) (v : Nat) : (s.set f v).twm = s.twm := rfl
@[simp] theorem State.set_ptp (s : State) (f : Fld) (v : Nat) : (s.set f v).ptp = s.ptp := rfl
@[simp] theorem State.set_netOut (s : State) (f : Fld) (v : Nat) : (s.set f v).netOut = s.netOut := rfl
@[simp] theorem State.set_ue (s : State) (f : Fld) (v : Nat) : (s.set f v).ue = s.ue := rfl
@[simp] theorem State.set_extents (s : State) (f : Fld) (v : Nat) : (s.set f v).extents = s.extents := rfl
@[simp] theorem State.set_rings (s : State) (f : Fld) (v : Nat) : (s.set f v).rings = s.rings := rfl
@[simp] theorem State.set_upd (s : State) (f : Fld) (v : Nat) : (s.set f v).upd = s.upd := rfl
@[simp] theorem State.set_reports (s : State) (f : Fld) (v : Nat) : (s.set f v).reports = s.reports := rfl
@[simp] theorem State.set_asserts (s : State) (f : Fld) (v : Nat) : (s.set f v).asserts = s.asserts := rfl
@[simp] theorem State.set_fltRecs (s : State) (f : Fld) (v : Nat) : (s.set f v).fltRecs = s.fltRecs := rfl
@[simp] theorem State.set_reacts (s : State) (f : Fld) (v : Nat) : (s.set f v).reacts = s.reacts := rfl
@[simp] theorem State.set_repairs (s : State) (f : Fld) (v : Nat) : (s.set f v).repairs = s.repairs := rfl
@[simp] theorem State.set_suspects (s : State) (f : Fld) (v : Nat) : (s.set f v).suspects = s.suspects := rfl
@[simp] theorem State.set_collDead (s : State) (f : Fld) (v : Nat) : (s.set f v).collDead = s.collDead := rfl
@[simp] theorem State.set_house (s : State) (f : Fld) (v : Nat) : (s.set f v).house = s.house := rfl
@[simp] theorem State.set_ledger (s : State) (f : Fld) (v : Nat) : (s.set f v).ledger = s.ledger := rfl
@[simp] theorem State.set_ports (s : State) (f : Fld) (v : Nat) : (s.set f v).ports = s.ports := rfl
@[simp] theorem State.set_laneBad (s : State) (f : Fld) (v : Nat) : (s.set f v).laneBad = s.laneBad := rfl
@[simp] theorem State.set_chain (s : State) (f : Fld) (v : Nat) : (s.set f v).chain = s.chain := rfl
@[simp] theorem State.set_paused (s : State) (f : Fld) (v : Nat) : (s.set f v).paused = s.paused := rfl
@[simp] theorem State.set_sectors (s : State) (f : Fld) (v : Nat) : (s.set f v).sectors = s.sectors := rfl
@[simp] theorem State.set_wdt (s : State) (f : Fld) (v : Nat) : (s.set f v).wdt = s.wdt := rfl
@[simp] theorem State.set_logBuf (s : State) (f : Fld) (v : Nat) : (s.set f v).logBuf = s.logBuf := rfl
@[simp] theorem State.set_logNor (s : State) (f : Fld) (v : Nat) : (s.set f v).logNor = s.logNor := rfl
@[simp] theorem State.set_nor (s : State) (f : Fld) (v : Nat) : (s.set f v).nor = s.nor := rfl
@[simp] theorem State.set_boot (s : State) (f : Fld) (v : Nat) : (s.set f v).boot = s.boot := rfl
@[simp] theorem State.set_pllBad (s : State) (f : Fld) (v : Nat) : (s.set f v).pllBad = s.pllBad := rfl
@[simp] theorem State.set_refBad (s : State) (f : Fld) (v : Nat) : (s.set f v).refBad = s.refBad := rfl
@[simp] theorem State.set_ltMoved (s : State) (f : Fld) (v : Nat) : (s.set f v).ltMoved = s.ltMoved := rfl
@[simp] theorem State.set_chargersB (s : State) (f : Fld) (v : Nat) : (s.set f v).chargersB = s.chargersB := rfl
@[simp] theorem State.set_reasm (s : State) (f : Fld) (v : Nat) : (s.set f v).reasm = s.reasm := rfl
@[simp] theorem State.set_turn (s : State) (f : Fld) (v : Nat) : (s.set f v).turn = s.turn := rfl
@[simp] theorem State.set_books (s : State) (f : Fld) (v : Nat) : (s.set f v).books = s.books := rfl
@[simp] theorem State.set_linkCnt (s : State) (f : Fld) (v : Nat) : (s.set f v).linkCnt = s.linkCnt := rfl

/-! ### setb -/

@[simp] theorem State.setb_pending (s : State) (f : Fld) (b : Bool) : (s.setb f b).pending = s.pending := rfl
@[simp] theorem State.setb_mem (s : State) (f : Fld) (b : Bool) : (s.setb f b).mem = s.mem := rfl
@[simp] theorem State.setb_freeCtr (s : State) (f : Fld) (b : Bool) : (s.setb f b).freeCtr = s.freeCtr := rfl
@[simp] theorem State.setb_tb (s : State) (f : Fld) (b : Bool) : (s.setb f b).tb = s.tb := rfl
@[simp] theorem State.setb_records (s : State) (f : Fld) (b : Bool) : (s.setb f b).records = s.records := rfl
@[simp] theorem State.setb_fireReps (s : State) (f : Fld) (b : Bool) : (s.setb f b).fireReps = s.fireReps := rfl
@[simp] theorem State.setb_gts (s : State) (f : Fld) (b : Bool) : (s.setb f b).gts = s.gts := rfl
@[simp] theorem State.setb_evtPulse (s : State) (f : Fld) (b : Bool) : (s.setb f b).evtPulse = s.evtPulse := rfl
@[simp] theorem State.setb_chainSig (s : State) (f : Fld) (b : Bool) : (s.setb f b).chainSig = s.chainSig := rfl
@[simp] theorem State.setb_chans (s : State) (f : Fld) (b : Bool) : (s.setb f b).chans = s.chans := rfl
@[simp] theorem State.setb_chargers (s : State) (f : Fld) (b : Bool) : (s.setb f b).chargers = s.chargers := rfl
@[simp] theorem State.setb_threads (s : State) (f : Fld) (b : Bool) : (s.setb f b).threads = s.threads := rfl
@[simp] theorem State.setb_mss (s : State) (f : Fld) (b : Bool) : (s.setb f b).mss = s.mss := rfl
@[simp] theorem State.setb_wakes (s : State) (f : Fld) (b : Bool) : (s.setb f b).wakes = s.wakes := rfl
@[simp] theorem State.setb_ops (s : State) (f : Fld) (b : Bool) : (s.setb f b).ops = s.ops := rfl
@[simp] theorem State.setb_images (s : State) (f : Fld) (b : Bool) : (s.setb f b).images = s.images := rfl
@[simp] theorem State.setb_cmds (s : State) (f : Fld) (b : Bool) : (s.setb f b).cmds = s.cmds := rfl
@[simp] theorem State.setb_journal (s : State) (f : Fld) (b : Bool) : (s.setb f b).journal = s.journal := rfl
@[simp] theorem State.setb_out (s : State) (f : Fld) (b : Bool) : (s.setb f b).out = s.out := rfl
@[simp] theorem State.setb_reqs (s : State) (f : Fld) (b : Bool) : (s.setb f b).reqs = s.reqs := rfl
@[simp] theorem State.setb_mssDown (s : State) (f : Fld) (b : Bool) : (s.setb f b).mssDown = s.mssDown := rfl
@[simp] theorem State.setb_heldIn (s : State) (f : Fld) (b : Bool) : (s.setb f b).heldIn = s.heldIn := rfl
@[simp] theorem State.setb_sessions (s : State) (f : Fld) (b : Bool) : (s.setb f b).sessions = s.sessions := rfl
@[simp] theorem State.setb_closed (s : State) (f : Fld) (b : Bool) : (s.setb f b).closed = s.closed := rfl
@[simp] theorem State.setb_wire (s : State) (f : Fld) (b : Bool) : (s.setb f b).wire = s.wire := rfl
@[simp] theorem State.setb_twm (s : State) (f : Fld) (b : Bool) : (s.setb f b).twm = s.twm := rfl
@[simp] theorem State.setb_ptp (s : State) (f : Fld) (b : Bool) : (s.setb f b).ptp = s.ptp := rfl
@[simp] theorem State.setb_netOut (s : State) (f : Fld) (b : Bool) : (s.setb f b).netOut = s.netOut := rfl
@[simp] theorem State.setb_ue (s : State) (f : Fld) (b : Bool) : (s.setb f b).ue = s.ue := rfl
@[simp] theorem State.setb_extents (s : State) (f : Fld) (b : Bool) : (s.setb f b).extents = s.extents := rfl
@[simp] theorem State.setb_rings (s : State) (f : Fld) (b : Bool) : (s.setb f b).rings = s.rings := rfl
@[simp] theorem State.setb_upd (s : State) (f : Fld) (b : Bool) : (s.setb f b).upd = s.upd := rfl
@[simp] theorem State.setb_reports (s : State) (f : Fld) (b : Bool) : (s.setb f b).reports = s.reports := rfl
@[simp] theorem State.setb_asserts (s : State) (f : Fld) (b : Bool) : (s.setb f b).asserts = s.asserts := rfl
@[simp] theorem State.setb_fltRecs (s : State) (f : Fld) (b : Bool) : (s.setb f b).fltRecs = s.fltRecs := rfl
@[simp] theorem State.setb_reacts (s : State) (f : Fld) (b : Bool) : (s.setb f b).reacts = s.reacts := rfl
@[simp] theorem State.setb_repairs (s : State) (f : Fld) (b : Bool) : (s.setb f b).repairs = s.repairs := rfl
@[simp] theorem State.setb_suspects (s : State) (f : Fld) (b : Bool) : (s.setb f b).suspects = s.suspects := rfl
@[simp] theorem State.setb_collDead (s : State) (f : Fld) (b : Bool) : (s.setb f b).collDead = s.collDead := rfl
@[simp] theorem State.setb_house (s : State) (f : Fld) (b : Bool) : (s.setb f b).house = s.house := rfl
@[simp] theorem State.setb_ledger (s : State) (f : Fld) (b : Bool) : (s.setb f b).ledger = s.ledger := rfl
@[simp] theorem State.setb_ports (s : State) (f : Fld) (b : Bool) : (s.setb f b).ports = s.ports := rfl
@[simp] theorem State.setb_laneBad (s : State) (f : Fld) (b : Bool) : (s.setb f b).laneBad = s.laneBad := rfl
@[simp] theorem State.setb_chain (s : State) (f : Fld) (b : Bool) : (s.setb f b).chain = s.chain := rfl
@[simp] theorem State.setb_paused (s : State) (f : Fld) (b : Bool) : (s.setb f b).paused = s.paused := rfl
@[simp] theorem State.setb_sectors (s : State) (f : Fld) (b : Bool) : (s.setb f b).sectors = s.sectors := rfl
@[simp] theorem State.setb_wdt (s : State) (f : Fld) (b : Bool) : (s.setb f b).wdt = s.wdt := rfl
@[simp] theorem State.setb_logBuf (s : State) (f : Fld) (b : Bool) : (s.setb f b).logBuf = s.logBuf := rfl
@[simp] theorem State.setb_logNor (s : State) (f : Fld) (b : Bool) : (s.setb f b).logNor = s.logNor := rfl
@[simp] theorem State.setb_nor (s : State) (f : Fld) (b : Bool) : (s.setb f b).nor = s.nor := rfl
@[simp] theorem State.setb_boot (s : State) (f : Fld) (b : Bool) : (s.setb f b).boot = s.boot := rfl
@[simp] theorem State.setb_pllBad (s : State) (f : Fld) (b : Bool) : (s.setb f b).pllBad = s.pllBad := rfl
@[simp] theorem State.setb_refBad (s : State) (f : Fld) (b : Bool) : (s.setb f b).refBad = s.refBad := rfl
@[simp] theorem State.setb_ltMoved (s : State) (f : Fld) (b : Bool) : (s.setb f b).ltMoved = s.ltMoved := rfl
@[simp] theorem State.setb_chargersB (s : State) (f : Fld) (b : Bool) : (s.setb f b).chargersB = s.chargersB := rfl
@[simp] theorem State.setb_reasm (s : State) (f : Fld) (b : Bool) : (s.setb f b).reasm = s.reasm := rfl
@[simp] theorem State.setb_turn (s : State) (f : Fld) (b : Bool) : (s.setb f b).turn = s.turn := rfl
@[simp] theorem State.setb_books (s : State) (f : Fld) (b : Bool) : (s.setb f b).books = s.books := rfl
@[simp] theorem State.setb_linkCnt (s : State) (f : Fld) (b : Bool) : (s.setb f b).linkCnt = s.linkCnt := rfl

/-! ### inc -/

@[simp] theorem State.inc_pending (s : State) (f : Fld) (n : Nat) : (s.inc f n).pending = s.pending := rfl
@[simp] theorem State.inc_mem (s : State) (f : Fld) (n : Nat) : (s.inc f n).mem = s.mem := rfl
@[simp] theorem State.inc_freeCtr (s : State) (f : Fld) (n : Nat) : (s.inc f n).freeCtr = s.freeCtr := rfl
@[simp] theorem State.inc_tb (s : State) (f : Fld) (n : Nat) : (s.inc f n).tb = s.tb := rfl
@[simp] theorem State.inc_records (s : State) (f : Fld) (n : Nat) : (s.inc f n).records = s.records := rfl
@[simp] theorem State.inc_fireReps (s : State) (f : Fld) (n : Nat) : (s.inc f n).fireReps = s.fireReps := rfl
@[simp] theorem State.inc_gts (s : State) (f : Fld) (n : Nat) : (s.inc f n).gts = s.gts := rfl
@[simp] theorem State.inc_evtPulse (s : State) (f : Fld) (n : Nat) : (s.inc f n).evtPulse = s.evtPulse := rfl
@[simp] theorem State.inc_chainSig (s : State) (f : Fld) (n : Nat) : (s.inc f n).chainSig = s.chainSig := rfl
@[simp] theorem State.inc_chans (s : State) (f : Fld) (n : Nat) : (s.inc f n).chans = s.chans := rfl
@[simp] theorem State.inc_chargers (s : State) (f : Fld) (n : Nat) : (s.inc f n).chargers = s.chargers := rfl
@[simp] theorem State.inc_threads (s : State) (f : Fld) (n : Nat) : (s.inc f n).threads = s.threads := rfl
@[simp] theorem State.inc_mss (s : State) (f : Fld) (n : Nat) : (s.inc f n).mss = s.mss := rfl
@[simp] theorem State.inc_wakes (s : State) (f : Fld) (n : Nat) : (s.inc f n).wakes = s.wakes := rfl
@[simp] theorem State.inc_ops (s : State) (f : Fld) (n : Nat) : (s.inc f n).ops = s.ops := rfl
@[simp] theorem State.inc_images (s : State) (f : Fld) (n : Nat) : (s.inc f n).images = s.images := rfl
@[simp] theorem State.inc_cmds (s : State) (f : Fld) (n : Nat) : (s.inc f n).cmds = s.cmds := rfl
@[simp] theorem State.inc_journal (s : State) (f : Fld) (n : Nat) : (s.inc f n).journal = s.journal := rfl
@[simp] theorem State.inc_out (s : State) (f : Fld) (n : Nat) : (s.inc f n).out = s.out := rfl
@[simp] theorem State.inc_reqs (s : State) (f : Fld) (n : Nat) : (s.inc f n).reqs = s.reqs := rfl
@[simp] theorem State.inc_mssDown (s : State) (f : Fld) (n : Nat) : (s.inc f n).mssDown = s.mssDown := rfl
@[simp] theorem State.inc_heldIn (s : State) (f : Fld) (n : Nat) : (s.inc f n).heldIn = s.heldIn := rfl
@[simp] theorem State.inc_sessions (s : State) (f : Fld) (n : Nat) : (s.inc f n).sessions = s.sessions := rfl
@[simp] theorem State.inc_closed (s : State) (f : Fld) (n : Nat) : (s.inc f n).closed = s.closed := rfl
@[simp] theorem State.inc_wire (s : State) (f : Fld) (n : Nat) : (s.inc f n).wire = s.wire := rfl
@[simp] theorem State.inc_twm (s : State) (f : Fld) (n : Nat) : (s.inc f n).twm = s.twm := rfl
@[simp] theorem State.inc_ptp (s : State) (f : Fld) (n : Nat) : (s.inc f n).ptp = s.ptp := rfl
@[simp] theorem State.inc_netOut (s : State) (f : Fld) (n : Nat) : (s.inc f n).netOut = s.netOut := rfl
@[simp] theorem State.inc_ue (s : State) (f : Fld) (n : Nat) : (s.inc f n).ue = s.ue := rfl
@[simp] theorem State.inc_extents (s : State) (f : Fld) (n : Nat) : (s.inc f n).extents = s.extents := rfl
@[simp] theorem State.inc_rings (s : State) (f : Fld) (n : Nat) : (s.inc f n).rings = s.rings := rfl
@[simp] theorem State.inc_upd (s : State) (f : Fld) (n : Nat) : (s.inc f n).upd = s.upd := rfl
@[simp] theorem State.inc_reports (s : State) (f : Fld) (n : Nat) : (s.inc f n).reports = s.reports := rfl
@[simp] theorem State.inc_asserts (s : State) (f : Fld) (n : Nat) : (s.inc f n).asserts = s.asserts := rfl
@[simp] theorem State.inc_fltRecs (s : State) (f : Fld) (n : Nat) : (s.inc f n).fltRecs = s.fltRecs := rfl
@[simp] theorem State.inc_reacts (s : State) (f : Fld) (n : Nat) : (s.inc f n).reacts = s.reacts := rfl
@[simp] theorem State.inc_repairs (s : State) (f : Fld) (n : Nat) : (s.inc f n).repairs = s.repairs := rfl
@[simp] theorem State.inc_suspects (s : State) (f : Fld) (n : Nat) : (s.inc f n).suspects = s.suspects := rfl
@[simp] theorem State.inc_collDead (s : State) (f : Fld) (n : Nat) : (s.inc f n).collDead = s.collDead := rfl
@[simp] theorem State.inc_house (s : State) (f : Fld) (n : Nat) : (s.inc f n).house = s.house := rfl
@[simp] theorem State.inc_ledger (s : State) (f : Fld) (n : Nat) : (s.inc f n).ledger = s.ledger := rfl
@[simp] theorem State.inc_ports (s : State) (f : Fld) (n : Nat) : (s.inc f n).ports = s.ports := rfl
@[simp] theorem State.inc_laneBad (s : State) (f : Fld) (n : Nat) : (s.inc f n).laneBad = s.laneBad := rfl
@[simp] theorem State.inc_chain (s : State) (f : Fld) (n : Nat) : (s.inc f n).chain = s.chain := rfl
@[simp] theorem State.inc_paused (s : State) (f : Fld) (n : Nat) : (s.inc f n).paused = s.paused := rfl
@[simp] theorem State.inc_sectors (s : State) (f : Fld) (n : Nat) : (s.inc f n).sectors = s.sectors := rfl
@[simp] theorem State.inc_wdt (s : State) (f : Fld) (n : Nat) : (s.inc f n).wdt = s.wdt := rfl
@[simp] theorem State.inc_logBuf (s : State) (f : Fld) (n : Nat) : (s.inc f n).logBuf = s.logBuf := rfl
@[simp] theorem State.inc_logNor (s : State) (f : Fld) (n : Nat) : (s.inc f n).logNor = s.logNor := rfl
@[simp] theorem State.inc_nor (s : State) (f : Fld) (n : Nat) : (s.inc f n).nor = s.nor := rfl
@[simp] theorem State.inc_boot (s : State) (f : Fld) (n : Nat) : (s.inc f n).boot = s.boot := rfl
@[simp] theorem State.inc_pllBad (s : State) (f : Fld) (n : Nat) : (s.inc f n).pllBad = s.pllBad := rfl
@[simp] theorem State.inc_refBad (s : State) (f : Fld) (n : Nat) : (s.inc f n).refBad = s.refBad := rfl
@[simp] theorem State.inc_ltMoved (s : State) (f : Fld) (n : Nat) : (s.inc f n).ltMoved = s.ltMoved := rfl
@[simp] theorem State.inc_chargersB (s : State) (f : Fld) (n : Nat) : (s.inc f n).chargersB = s.chargersB := rfl
@[simp] theorem State.inc_reasm (s : State) (f : Fld) (n : Nat) : (s.inc f n).reasm = s.reasm := rfl
@[simp] theorem State.inc_turn (s : State) (f : Fld) (n : Nat) : (s.inc f n).turn = s.turn := rfl
@[simp] theorem State.inc_books (s : State) (f : Fld) (n : Nat) : (s.inc f n).books = s.books := rfl
@[simp] theorem State.inc_linkCnt (s : State) (f : Fld) (n : Nat) : (s.inc f n).linkCnt = s.linkCnt := rfl

/-! ### wr64 -/

@[simp] theorem State.wr64_pending (s : State) (l h : Nat) (v : Int) : (s.wr64 l h v).pending = s.pending := rfl
@[simp] theorem State.wr64_mem (s : State) (l h : Nat) (v : Int) : (s.wr64 l h v).mem = s.mem := rfl
@[simp] theorem State.wr64_freeCtr (s : State) (l h : Nat) (v : Int) : (s.wr64 l h v).freeCtr = s.freeCtr := rfl
@[simp] theorem State.wr64_tb (s : State) (l h : Nat) (v : Int) : (s.wr64 l h v).tb = s.tb := rfl
@[simp] theorem State.wr64_records (s : State) (l h : Nat) (v : Int) : (s.wr64 l h v).records = s.records := rfl
@[simp] theorem State.wr64_fireReps (s : State) (l h : Nat) (v : Int) : (s.wr64 l h v).fireReps = s.fireReps := rfl
@[simp] theorem State.wr64_gts (s : State) (l h : Nat) (v : Int) : (s.wr64 l h v).gts = s.gts := rfl
@[simp] theorem State.wr64_evtPulse (s : State) (l h : Nat) (v : Int) : (s.wr64 l h v).evtPulse = s.evtPulse := rfl
@[simp] theorem State.wr64_chainSig (s : State) (l h : Nat) (v : Int) : (s.wr64 l h v).chainSig = s.chainSig := rfl
@[simp] theorem State.wr64_chans (s : State) (l h : Nat) (v : Int) : (s.wr64 l h v).chans = s.chans := rfl
@[simp] theorem State.wr64_chargers (s : State) (l h : Nat) (v : Int) : (s.wr64 l h v).chargers = s.chargers := rfl
@[simp] theorem State.wr64_threads (s : State) (l h : Nat) (v : Int) : (s.wr64 l h v).threads = s.threads := rfl
@[simp] theorem State.wr64_mss (s : State) (l h : Nat) (v : Int) : (s.wr64 l h v).mss = s.mss := rfl
@[simp] theorem State.wr64_wakes (s : State) (l h : Nat) (v : Int) : (s.wr64 l h v).wakes = s.wakes := rfl
@[simp] theorem State.wr64_ops (s : State) (l h : Nat) (v : Int) : (s.wr64 l h v).ops = s.ops := rfl
@[simp] theorem State.wr64_images (s : State) (l h : Nat) (v : Int) : (s.wr64 l h v).images = s.images := rfl
@[simp] theorem State.wr64_cmds (s : State) (l h : Nat) (v : Int) : (s.wr64 l h v).cmds = s.cmds := rfl
@[simp] theorem State.wr64_journal (s : State) (l h : Nat) (v : Int) : (s.wr64 l h v).journal = s.journal := rfl
@[simp] theorem State.wr64_out (s : State) (l h : Nat) (v : Int) : (s.wr64 l h v).out = s.out := rfl
@[simp] theorem State.wr64_reqs (s : State) (l h : Nat) (v : Int) : (s.wr64 l h v).reqs = s.reqs := rfl
@[simp] theorem State.wr64_mssDown (s : State) (l h : Nat) (v : Int) : (s.wr64 l h v).mssDown = s.mssDown := rfl
@[simp] theorem State.wr64_heldIn (s : State) (l h : Nat) (v : Int) : (s.wr64 l h v).heldIn = s.heldIn := rfl
@[simp] theorem State.wr64_sessions (s : State) (l h : Nat) (v : Int) : (s.wr64 l h v).sessions = s.sessions := rfl
@[simp] theorem State.wr64_closed (s : State) (l h : Nat) (v : Int) : (s.wr64 l h v).closed = s.closed := rfl
@[simp] theorem State.wr64_wire (s : State) (l h : Nat) (v : Int) : (s.wr64 l h v).wire = s.wire := rfl
@[simp] theorem State.wr64_twm (s : State) (l h : Nat) (v : Int) : (s.wr64 l h v).twm = s.twm := rfl
@[simp] theorem State.wr64_ptp (s : State) (l h : Nat) (v : Int) : (s.wr64 l h v).ptp = s.ptp := rfl
@[simp] theorem State.wr64_netOut (s : State) (l h : Nat) (v : Int) : (s.wr64 l h v).netOut = s.netOut := rfl
@[simp] theorem State.wr64_ue (s : State) (l h : Nat) (v : Int) : (s.wr64 l h v).ue = s.ue := rfl
@[simp] theorem State.wr64_extents (s : State) (l h : Nat) (v : Int) : (s.wr64 l h v).extents = s.extents := rfl
@[simp] theorem State.wr64_rings (s : State) (l h : Nat) (v : Int) : (s.wr64 l h v).rings = s.rings := rfl
@[simp] theorem State.wr64_upd (s : State) (l h : Nat) (v : Int) : (s.wr64 l h v).upd = s.upd := rfl
@[simp] theorem State.wr64_reports (s : State) (l h : Nat) (v : Int) : (s.wr64 l h v).reports = s.reports := rfl
@[simp] theorem State.wr64_asserts (s : State) (l h : Nat) (v : Int) : (s.wr64 l h v).asserts = s.asserts := rfl
@[simp] theorem State.wr64_fltRecs (s : State) (l h : Nat) (v : Int) : (s.wr64 l h v).fltRecs = s.fltRecs := rfl
@[simp] theorem State.wr64_reacts (s : State) (l h : Nat) (v : Int) : (s.wr64 l h v).reacts = s.reacts := rfl
@[simp] theorem State.wr64_repairs (s : State) (l h : Nat) (v : Int) : (s.wr64 l h v).repairs = s.repairs := rfl
@[simp] theorem State.wr64_suspects (s : State) (l h : Nat) (v : Int) : (s.wr64 l h v).suspects = s.suspects := rfl
@[simp] theorem State.wr64_collDead (s : State) (l h : Nat) (v : Int) : (s.wr64 l h v).collDead = s.collDead := rfl
@[simp] theorem State.wr64_house (s : State) (l h : Nat) (v : Int) : (s.wr64 l h v).house = s.house := rfl
@[simp] theorem State.wr64_ledger (s : State) (l h : Nat) (v : Int) : (s.wr64 l h v).ledger = s.ledger := rfl
@[simp] theorem State.wr64_ports (s : State) (l h : Nat) (v : Int) : (s.wr64 l h v).ports = s.ports := rfl
@[simp] theorem State.wr64_laneBad (s : State) (l h : Nat) (v : Int) : (s.wr64 l h v).laneBad = s.laneBad := rfl
@[simp] theorem State.wr64_chain (s : State) (l h : Nat) (v : Int) : (s.wr64 l h v).chain = s.chain := rfl
@[simp] theorem State.wr64_paused (s : State) (l h : Nat) (v : Int) : (s.wr64 l h v).paused = s.paused := rfl
@[simp] theorem State.wr64_sectors (s : State) (l h : Nat) (v : Int) : (s.wr64 l h v).sectors = s.sectors := rfl
@[simp] theorem State.wr64_wdt (s : State) (l h : Nat) (v : Int) : (s.wr64 l h v).wdt = s.wdt := rfl
@[simp] theorem State.wr64_logBuf (s : State) (l h : Nat) (v : Int) : (s.wr64 l h v).logBuf = s.logBuf := rfl
@[simp] theorem State.wr64_logNor (s : State) (l h : Nat) (v : Int) : (s.wr64 l h v).logNor = s.logNor := rfl
@[simp] theorem State.wr64_nor (s : State) (l h : Nat) (v : Int) : (s.wr64 l h v).nor = s.nor := rfl
@[simp] theorem State.wr64_boot (s : State) (l h : Nat) (v : Int) : (s.wr64 l h v).boot = s.boot := rfl
@[simp] theorem State.wr64_pllBad (s : State) (l h : Nat) (v : Int) : (s.wr64 l h v).pllBad = s.pllBad := rfl
@[simp] theorem State.wr64_refBad (s : State) (l h : Nat) (v : Int) : (s.wr64 l h v).refBad = s.refBad := rfl
@[simp] theorem State.wr64_ltMoved (s : State) (l h : Nat) (v : Int) : (s.wr64 l h v).ltMoved = s.ltMoved := rfl
@[simp] theorem State.wr64_chargersB (s : State) (l h : Nat) (v : Int) : (s.wr64 l h v).chargersB = s.chargersB := rfl
@[simp] theorem State.wr64_reasm (s : State) (l h : Nat) (v : Int) : (s.wr64 l h v).reasm = s.reasm := rfl
@[simp] theorem State.wr64_turn (s : State) (l h : Nat) (v : Int) : (s.wr64 l h v).turn = s.turn := rfl
@[simp] theorem State.wr64_books (s : State) (l h : Nat) (v : Int) : (s.wr64 l h v).books = s.books := rfl
@[simp] theorem State.wr64_linkCnt (s : State) (l h : Nat) (v : Int) : (s.wr64 l h v).linkCnt = s.linkCnt := rfl

/-! ### poke -/

@[simp] theorem State.poke_pending (s : State) (a : Nat) (b : Byte) : (s.poke a b).pending = s.pending := rfl
@[simp] theorem State.poke_regs (s : State) (a : Nat) (b : Byte) : (s.poke a b).regs = s.regs := rfl
@[simp] theorem State.poke_freeCtr (s : State) (a : Nat) (b : Byte) : (s.poke a b).freeCtr = s.freeCtr := rfl
@[simp] theorem State.poke_tb (s : State) (a : Nat) (b : Byte) : (s.poke a b).tb = s.tb := rfl
@[simp] theorem State.poke_records (s : State) (a : Nat) (b : Byte) : (s.poke a b).records = s.records := rfl
@[simp] theorem State.poke_fireReps (s : State) (a : Nat) (b : Byte) : (s.poke a b).fireReps = s.fireReps := rfl
@[simp] theorem State.poke_gts (s : State) (a : Nat) (b : Byte) : (s.poke a b).gts = s.gts := rfl
@[simp] theorem State.poke_evtPulse (s : State) (a : Nat) (b : Byte) : (s.poke a b).evtPulse = s.evtPulse := rfl
@[simp] theorem State.poke_chainSig (s : State) (a : Nat) (b : Byte) : (s.poke a b).chainSig = s.chainSig := rfl
@[simp] theorem State.poke_chans (s : State) (a : Nat) (b : Byte) : (s.poke a b).chans = s.chans := rfl
@[simp] theorem State.poke_chargers (s : State) (a : Nat) (b : Byte) : (s.poke a b).chargers = s.chargers := rfl
@[simp] theorem State.poke_threads (s : State) (a : Nat) (b : Byte) : (s.poke a b).threads = s.threads := rfl
@[simp] theorem State.poke_mss (s : State) (a : Nat) (b : Byte) : (s.poke a b).mss = s.mss := rfl
@[simp] theorem State.poke_wakes (s : State) (a : Nat) (b : Byte) : (s.poke a b).wakes = s.wakes := rfl
@[simp] theorem State.poke_ops (s : State) (a : Nat) (b : Byte) : (s.poke a b).ops = s.ops := rfl
@[simp] theorem State.poke_images (s : State) (a : Nat) (b : Byte) : (s.poke a b).images = s.images := rfl
@[simp] theorem State.poke_cmds (s : State) (a : Nat) (b : Byte) : (s.poke a b).cmds = s.cmds := rfl
@[simp] theorem State.poke_journal (s : State) (a : Nat) (b : Byte) : (s.poke a b).journal = s.journal := rfl
@[simp] theorem State.poke_out (s : State) (a : Nat) (b : Byte) : (s.poke a b).out = s.out := rfl
@[simp] theorem State.poke_reqs (s : State) (a : Nat) (b : Byte) : (s.poke a b).reqs = s.reqs := rfl
@[simp] theorem State.poke_mssDown (s : State) (a : Nat) (b : Byte) : (s.poke a b).mssDown = s.mssDown := rfl
@[simp] theorem State.poke_heldIn (s : State) (a : Nat) (b : Byte) : (s.poke a b).heldIn = s.heldIn := rfl
@[simp] theorem State.poke_sessions (s : State) (a : Nat) (b : Byte) : (s.poke a b).sessions = s.sessions := rfl
@[simp] theorem State.poke_closed (s : State) (a : Nat) (b : Byte) : (s.poke a b).closed = s.closed := rfl
@[simp] theorem State.poke_wire (s : State) (a : Nat) (b : Byte) : (s.poke a b).wire = s.wire := rfl
@[simp] theorem State.poke_twm (s : State) (a : Nat) (b : Byte) : (s.poke a b).twm = s.twm := rfl
@[simp] theorem State.poke_ptp (s : State) (a : Nat) (b : Byte) : (s.poke a b).ptp = s.ptp := rfl
@[simp] theorem State.poke_netOut (s : State) (a : Nat) (b : Byte) : (s.poke a b).netOut = s.netOut := rfl
@[simp] theorem State.poke_ue (s : State) (a : Nat) (b : Byte) : (s.poke a b).ue = s.ue := rfl
@[simp] theorem State.poke_extents (s : State) (a : Nat) (b : Byte) : (s.poke a b).extents = s.extents := rfl
@[simp] theorem State.poke_rings (s : State) (a : Nat) (b : Byte) : (s.poke a b).rings = s.rings := rfl
@[simp] theorem State.poke_upd (s : State) (a : Nat) (b : Byte) : (s.poke a b).upd = s.upd := rfl
@[simp] theorem State.poke_reports (s : State) (a : Nat) (b : Byte) : (s.poke a b).reports = s.reports := rfl
@[simp] theorem State.poke_asserts (s : State) (a : Nat) (b : Byte) : (s.poke a b).asserts = s.asserts := rfl
@[simp] theorem State.poke_fltRecs (s : State) (a : Nat) (b : Byte) : (s.poke a b).fltRecs = s.fltRecs := rfl
@[simp] theorem State.poke_reacts (s : State) (a : Nat) (b : Byte) : (s.poke a b).reacts = s.reacts := rfl
@[simp] theorem State.poke_repairs (s : State) (a : Nat) (b : Byte) : (s.poke a b).repairs = s.repairs := rfl
@[simp] theorem State.poke_suspects (s : State) (a : Nat) (b : Byte) : (s.poke a b).suspects = s.suspects := rfl
@[simp] theorem State.poke_collDead (s : State) (a : Nat) (b : Byte) : (s.poke a b).collDead = s.collDead := rfl
@[simp] theorem State.poke_house (s : State) (a : Nat) (b : Byte) : (s.poke a b).house = s.house := rfl
@[simp] theorem State.poke_ledger (s : State) (a : Nat) (b : Byte) : (s.poke a b).ledger = s.ledger := rfl
@[simp] theorem State.poke_ports (s : State) (a : Nat) (b : Byte) : (s.poke a b).ports = s.ports := rfl
@[simp] theorem State.poke_laneBad (s : State) (a : Nat) (b : Byte) : (s.poke a b).laneBad = s.laneBad := rfl
@[simp] theorem State.poke_chain (s : State) (a : Nat) (b : Byte) : (s.poke a b).chain = s.chain := rfl
@[simp] theorem State.poke_paused (s : State) (a : Nat) (b : Byte) : (s.poke a b).paused = s.paused := rfl
@[simp] theorem State.poke_sectors (s : State) (a : Nat) (b : Byte) : (s.poke a b).sectors = s.sectors := rfl
@[simp] theorem State.poke_wdt (s : State) (a : Nat) (b : Byte) : (s.poke a b).wdt = s.wdt := rfl
@[simp] theorem State.poke_logBuf (s : State) (a : Nat) (b : Byte) : (s.poke a b).logBuf = s.logBuf := rfl
@[simp] theorem State.poke_logNor (s : State) (a : Nat) (b : Byte) : (s.poke a b).logNor = s.logNor := rfl
@[simp] theorem State.poke_nor (s : State) (a : Nat) (b : Byte) : (s.poke a b).nor = s.nor := rfl
@[simp] theorem State.poke_boot (s : State) (a : Nat) (b : Byte) : (s.poke a b).boot = s.boot := rfl
@[simp] theorem State.poke_pllBad (s : State) (a : Nat) (b : Byte) : (s.poke a b).pllBad = s.pllBad := rfl
@[simp] theorem State.poke_refBad (s : State) (a : Nat) (b : Byte) : (s.poke a b).refBad = s.refBad := rfl
@[simp] theorem State.poke_ltMoved (s : State) (a : Nat) (b : Byte) : (s.poke a b).ltMoved = s.ltMoved := rfl
@[simp] theorem State.poke_chargersB (s : State) (a : Nat) (b : Byte) : (s.poke a b).chargersB = s.chargersB := rfl
@[simp] theorem State.poke_reasm (s : State) (a : Nat) (b : Byte) : (s.poke a b).reasm = s.reasm := rfl
@[simp] theorem State.poke_turn (s : State) (a : Nat) (b : Byte) : (s.poke a b).turn = s.turn := rfl
@[simp] theorem State.poke_books (s : State) (a : Nat) (b : Byte) : (s.poke a b).books = s.books := rfl
@[simp] theorem State.poke_linkCnt (s : State) (a : Nat) (b : Byte) : (s.poke a b).linkCnt = s.linkCnt := rfl

/-! ### modCh -/

@[simp] theorem State.modCh_pending (s : State) (c : Fin 24) (g : Chan → Chan) : (s.modCh c g).pending = s.pending := rfl
@[simp] theorem State.modCh_regs (s : State) (c : Fin 24) (g : Chan → Chan) : (s.modCh c g).regs = s.regs := rfl
@[simp] theorem State.modCh_mem (s : State) (c : Fin 24) (g : Chan → Chan) : (s.modCh c g).mem = s.mem := rfl
@[simp] theorem State.modCh_freeCtr (s : State) (c : Fin 24) (g : Chan → Chan) : (s.modCh c g).freeCtr = s.freeCtr := rfl
@[simp] theorem State.modCh_tb (s : State) (c : Fin 24) (g : Chan → Chan) : (s.modCh c g).tb = s.tb := rfl
@[simp] theorem State.modCh_records (s : State) (c : Fin 24) (g : Chan → Chan) : (s.modCh c g).records = s.records := rfl
@[simp] theorem State.modCh_fireReps (s : State) (c : Fin 24) (g : Chan → Chan) : (s.modCh c g).fireReps = s.fireReps := rfl
@[simp] theorem State.modCh_gts (s : State) (c : Fin 24) (g : Chan → Chan) : (s.modCh c g).gts = s.gts := rfl
@[simp] theorem State.modCh_evtPulse (s : State) (c : Fin 24) (g : Chan → Chan) : (s.modCh c g).evtPulse = s.evtPulse := rfl
@[simp] theorem State.modCh_chainSig (s : State) (c : Fin 24) (g : Chan → Chan) : (s.modCh c g).chainSig = s.chainSig := rfl
@[simp] theorem State.modCh_chans (s : State) (c : Fin 24) (g : Chan → Chan) :
    (s.modCh c g).chans = s.chans.set c (g s.chans[c]) := rfl
@[simp] theorem State.modCh_chargers (s : State) (c : Fin 24) (g : Chan → Chan) : (s.modCh c g).chargers = s.chargers := rfl
@[simp] theorem State.modCh_threads (s : State) (c : Fin 24) (g : Chan → Chan) : (s.modCh c g).threads = s.threads := rfl
@[simp] theorem State.modCh_mss (s : State) (c : Fin 24) (g : Chan → Chan) : (s.modCh c g).mss = s.mss := rfl
@[simp] theorem State.modCh_wakes (s : State) (c : Fin 24) (g : Chan → Chan) : (s.modCh c g).wakes = s.wakes := rfl
@[simp] theorem State.modCh_ops (s : State) (c : Fin 24) (g : Chan → Chan) : (s.modCh c g).ops = s.ops := rfl
@[simp] theorem State.modCh_images (s : State) (c : Fin 24) (g : Chan → Chan) : (s.modCh c g).images = s.images := rfl
@[simp] theorem State.modCh_cmds (s : State) (c : Fin 24) (g : Chan → Chan) : (s.modCh c g).cmds = s.cmds := rfl
@[simp] theorem State.modCh_journal (s : State) (c : Fin 24) (g : Chan → Chan) : (s.modCh c g).journal = s.journal := rfl
@[simp] theorem State.modCh_out (s : State) (c : Fin 24) (g : Chan → Chan) : (s.modCh c g).out = s.out := rfl
@[simp] theorem State.modCh_reqs (s : State) (c : Fin 24) (g : Chan → Chan) : (s.modCh c g).reqs = s.reqs := rfl
@[simp] theorem State.modCh_mssDown (s : State) (c : Fin 24) (g : Chan → Chan) : (s.modCh c g).mssDown = s.mssDown := rfl
@[simp] theorem State.modCh_heldIn (s : State) (c : Fin 24) (g : Chan → Chan) : (s.modCh c g).heldIn = s.heldIn := rfl
@[simp] theorem State.modCh_sessions (s : State) (c : Fin 24) (g : Chan → Chan) : (s.modCh c g).sessions = s.sessions := rfl
@[simp] theorem State.modCh_closed (s : State) (c : Fin 24) (g : Chan → Chan) : (s.modCh c g).closed = s.closed := rfl
@[simp] theorem State.modCh_wire (s : State) (c : Fin 24) (g : Chan → Chan) : (s.modCh c g).wire = s.wire := rfl
@[simp] theorem State.modCh_twm (s : State) (c : Fin 24) (g : Chan → Chan) : (s.modCh c g).twm = s.twm := rfl
@[simp] theorem State.modCh_ptp (s : State) (c : Fin 24) (g : Chan → Chan) : (s.modCh c g).ptp = s.ptp := rfl
@[simp] theorem State.modCh_netOut (s : State) (c : Fin 24) (g : Chan → Chan) : (s.modCh c g).netOut = s.netOut := rfl
@[simp] theorem State.modCh_ue (s : State) (c : Fin 24) (g : Chan → Chan) : (s.modCh c g).ue = s.ue := rfl
@[simp] theorem State.modCh_extents (s : State) (c : Fin 24) (g : Chan → Chan) : (s.modCh c g).extents = s.extents := rfl
@[simp] theorem State.modCh_rings (s : State) (c : Fin 24) (g : Chan → Chan) : (s.modCh c g).rings = s.rings := rfl
@[simp] theorem State.modCh_upd (s : State) (c : Fin 24) (g : Chan → Chan) : (s.modCh c g).upd = s.upd := rfl
@[simp] theorem State.modCh_reports (s : State) (c : Fin 24) (g : Chan → Chan) : (s.modCh c g).reports = s.reports := rfl
@[simp] theorem State.modCh_asserts (s : State) (c : Fin 24) (g : Chan → Chan) : (s.modCh c g).asserts = s.asserts := rfl
@[simp] theorem State.modCh_fltRecs (s : State) (c : Fin 24) (g : Chan → Chan) : (s.modCh c g).fltRecs = s.fltRecs := rfl
@[simp] theorem State.modCh_reacts (s : State) (c : Fin 24) (g : Chan → Chan) : (s.modCh c g).reacts = s.reacts := rfl
@[simp] theorem State.modCh_repairs (s : State) (c : Fin 24) (g : Chan → Chan) : (s.modCh c g).repairs = s.repairs := rfl
@[simp] theorem State.modCh_suspects (s : State) (c : Fin 24) (g : Chan → Chan) : (s.modCh c g).suspects = s.suspects := rfl
@[simp] theorem State.modCh_collDead (s : State) (c : Fin 24) (g : Chan → Chan) : (s.modCh c g).collDead = s.collDead := rfl
@[simp] theorem State.modCh_house (s : State) (c : Fin 24) (g : Chan → Chan) : (s.modCh c g).house = s.house := rfl
@[simp] theorem State.modCh_ledger (s : State) (c : Fin 24) (g : Chan → Chan) : (s.modCh c g).ledger = s.ledger := rfl
@[simp] theorem State.modCh_ports (s : State) (c : Fin 24) (g : Chan → Chan) : (s.modCh c g).ports = s.ports := rfl
@[simp] theorem State.modCh_laneBad (s : State) (c : Fin 24) (g : Chan → Chan) : (s.modCh c g).laneBad = s.laneBad := rfl
@[simp] theorem State.modCh_chain (s : State) (c : Fin 24) (g : Chan → Chan) : (s.modCh c g).chain = s.chain := rfl
@[simp] theorem State.modCh_paused (s : State) (c : Fin 24) (g : Chan → Chan) : (s.modCh c g).paused = s.paused := rfl
@[simp] theorem State.modCh_sectors (s : State) (c : Fin 24) (g : Chan → Chan) : (s.modCh c g).sectors = s.sectors := rfl
@[simp] theorem State.modCh_wdt (s : State) (c : Fin 24) (g : Chan → Chan) : (s.modCh c g).wdt = s.wdt := rfl
@[simp] theorem State.modCh_logBuf (s : State) (c : Fin 24) (g : Chan → Chan) : (s.modCh c g).logBuf = s.logBuf := rfl
@[simp] theorem State.modCh_logNor (s : State) (c : Fin 24) (g : Chan → Chan) : (s.modCh c g).logNor = s.logNor := rfl
@[simp] theorem State.modCh_nor (s : State) (c : Fin 24) (g : Chan → Chan) : (s.modCh c g).nor = s.nor := rfl
@[simp] theorem State.modCh_boot (s : State) (c : Fin 24) (g : Chan → Chan) : (s.modCh c g).boot = s.boot := rfl
@[simp] theorem State.modCh_pllBad (s : State) (c : Fin 24) (g : Chan → Chan) : (s.modCh c g).pllBad = s.pllBad := rfl
@[simp] theorem State.modCh_refBad (s : State) (c : Fin 24) (g : Chan → Chan) : (s.modCh c g).refBad = s.refBad := rfl
@[simp] theorem State.modCh_ltMoved (s : State) (c : Fin 24) (g : Chan → Chan) : (s.modCh c g).ltMoved = s.ltMoved := rfl
@[simp] theorem State.modCh_chargersB (s : State) (c : Fin 24) (g : Chan → Chan) : (s.modCh c g).chargersB = s.chargersB := rfl
@[simp] theorem State.modCh_reasm (s : State) (c : Fin 24) (g : Chan → Chan) : (s.modCh c g).reasm = s.reasm := rfl
@[simp] theorem State.modCh_turn (s : State) (c : Fin 24) (g : Chan → Chan) : (s.modCh c g).turn = s.turn := rfl
@[simp] theorem State.modCh_books (s : State) (c : Fin 24) (g : Chan → Chan) : (s.modCh c g).books = s.books := rfl
@[simp] theorem State.modCh_linkCnt (s : State) (c : Fin 24) (g : Chan → Chan) : (s.modCh c g).linkCnt = s.linkCnt := rfl

/-! ### modCg -/

@[simp] theorem State.modCg_pending (s : State) (k : Fin 25) (g : Charger → Charger) : (s.modCg k g).pending = s.pending := rfl
@[simp] theorem State.modCg_regs (s : State) (k : Fin 25) (g : Charger → Charger) : (s.modCg k g).regs = s.regs := rfl
@[simp] theorem State.modCg_mem (s : State) (k : Fin 25) (g : Charger → Charger) : (s.modCg k g).mem = s.mem := rfl
@[simp] theorem State.modCg_freeCtr (s : State) (k : Fin 25) (g : Charger → Charger) : (s.modCg k g).freeCtr = s.freeCtr := rfl
@[simp] theorem State.modCg_tb (s : State) (k : Fin 25) (g : Charger → Charger) : (s.modCg k g).tb = s.tb := rfl
@[simp] theorem State.modCg_records (s : State) (k : Fin 25) (g : Charger → Charger) : (s.modCg k g).records = s.records := rfl
@[simp] theorem State.modCg_fireReps (s : State) (k : Fin 25) (g : Charger → Charger) : (s.modCg k g).fireReps = s.fireReps := rfl
@[simp] theorem State.modCg_gts (s : State) (k : Fin 25) (g : Charger → Charger) : (s.modCg k g).gts = s.gts := rfl
@[simp] theorem State.modCg_evtPulse (s : State) (k : Fin 25) (g : Charger → Charger) : (s.modCg k g).evtPulse = s.evtPulse := rfl
@[simp] theorem State.modCg_chainSig (s : State) (k : Fin 25) (g : Charger → Charger) : (s.modCg k g).chainSig = s.chainSig := rfl
@[simp] theorem State.modCg_chans (s : State) (k : Fin 25) (g : Charger → Charger) : (s.modCg k g).chans = s.chans := rfl
@[simp] theorem State.modCg_chargers (s : State) (k : Fin 25) (g : Charger → Charger) :
    (s.modCg k g).chargers = s.chargers.set k (g s.chargers[k]) := rfl
@[simp] theorem State.modCg_threads (s : State) (k : Fin 25) (g : Charger → Charger) : (s.modCg k g).threads = s.threads := rfl
@[simp] theorem State.modCg_mss (s : State) (k : Fin 25) (g : Charger → Charger) : (s.modCg k g).mss = s.mss := rfl
@[simp] theorem State.modCg_wakes (s : State) (k : Fin 25) (g : Charger → Charger) : (s.modCg k g).wakes = s.wakes := rfl
@[simp] theorem State.modCg_ops (s : State) (k : Fin 25) (g : Charger → Charger) : (s.modCg k g).ops = s.ops := rfl
@[simp] theorem State.modCg_images (s : State) (k : Fin 25) (g : Charger → Charger) : (s.modCg k g).images = s.images := rfl
@[simp] theorem State.modCg_cmds (s : State) (k : Fin 25) (g : Charger → Charger) : (s.modCg k g).cmds = s.cmds := rfl
@[simp] theorem State.modCg_journal (s : State) (k : Fin 25) (g : Charger → Charger) : (s.modCg k g).journal = s.journal := rfl
@[simp] theorem State.modCg_out (s : State) (k : Fin 25) (g : Charger → Charger) : (s.modCg k g).out = s.out := rfl
@[simp] theorem State.modCg_reqs (s : State) (k : Fin 25) (g : Charger → Charger) : (s.modCg k g).reqs = s.reqs := rfl
@[simp] theorem State.modCg_mssDown (s : State) (k : Fin 25) (g : Charger → Charger) : (s.modCg k g).mssDown = s.mssDown := rfl
@[simp] theorem State.modCg_heldIn (s : State) (k : Fin 25) (g : Charger → Charger) : (s.modCg k g).heldIn = s.heldIn := rfl
@[simp] theorem State.modCg_sessions (s : State) (k : Fin 25) (g : Charger → Charger) : (s.modCg k g).sessions = s.sessions := rfl
@[simp] theorem State.modCg_closed (s : State) (k : Fin 25) (g : Charger → Charger) : (s.modCg k g).closed = s.closed := rfl
@[simp] theorem State.modCg_wire (s : State) (k : Fin 25) (g : Charger → Charger) : (s.modCg k g).wire = s.wire := rfl
@[simp] theorem State.modCg_twm (s : State) (k : Fin 25) (g : Charger → Charger) : (s.modCg k g).twm = s.twm := rfl
@[simp] theorem State.modCg_ptp (s : State) (k : Fin 25) (g : Charger → Charger) : (s.modCg k g).ptp = s.ptp := rfl
@[simp] theorem State.modCg_netOut (s : State) (k : Fin 25) (g : Charger → Charger) : (s.modCg k g).netOut = s.netOut := rfl
@[simp] theorem State.modCg_ue (s : State) (k : Fin 25) (g : Charger → Charger) : (s.modCg k g).ue = s.ue := rfl
@[simp] theorem State.modCg_extents (s : State) (k : Fin 25) (g : Charger → Charger) : (s.modCg k g).extents = s.extents := rfl
@[simp] theorem State.modCg_rings (s : State) (k : Fin 25) (g : Charger → Charger) : (s.modCg k g).rings = s.rings := rfl
@[simp] theorem State.modCg_upd (s : State) (k : Fin 25) (g : Charger → Charger) : (s.modCg k g).upd = s.upd := rfl
@[simp] theorem State.modCg_reports (s : State) (k : Fin 25) (g : Charger → Charger) : (s.modCg k g).reports = s.reports := rfl
@[simp] theorem State.modCg_asserts (s : State) (k : Fin 25) (g : Charger → Charger) : (s.modCg k g).asserts = s.asserts := rfl
@[simp] theorem State.modCg_fltRecs (s : State) (k : Fin 25) (g : Charger → Charger) : (s.modCg k g).fltRecs = s.fltRecs := rfl
@[simp] theorem State.modCg_reacts (s : State) (k : Fin 25) (g : Charger → Charger) : (s.modCg k g).reacts = s.reacts := rfl
@[simp] theorem State.modCg_repairs (s : State) (k : Fin 25) (g : Charger → Charger) : (s.modCg k g).repairs = s.repairs := rfl
@[simp] theorem State.modCg_suspects (s : State) (k : Fin 25) (g : Charger → Charger) : (s.modCg k g).suspects = s.suspects := rfl
@[simp] theorem State.modCg_collDead (s : State) (k : Fin 25) (g : Charger → Charger) : (s.modCg k g).collDead = s.collDead := rfl
@[simp] theorem State.modCg_house (s : State) (k : Fin 25) (g : Charger → Charger) : (s.modCg k g).house = s.house := rfl
@[simp] theorem State.modCg_ledger (s : State) (k : Fin 25) (g : Charger → Charger) : (s.modCg k g).ledger = s.ledger := rfl
@[simp] theorem State.modCg_ports (s : State) (k : Fin 25) (g : Charger → Charger) : (s.modCg k g).ports = s.ports := rfl
@[simp] theorem State.modCg_laneBad (s : State) (k : Fin 25) (g : Charger → Charger) : (s.modCg k g).laneBad = s.laneBad := rfl
@[simp] theorem State.modCg_chain (s : State) (k : Fin 25) (g : Charger → Charger) : (s.modCg k g).chain = s.chain := rfl
@[simp] theorem State.modCg_paused (s : State) (k : Fin 25) (g : Charger → Charger) : (s.modCg k g).paused = s.paused := rfl
@[simp] theorem State.modCg_sectors (s : State) (k : Fin 25) (g : Charger → Charger) : (s.modCg k g).sectors = s.sectors := rfl
@[simp] theorem State.modCg_wdt (s : State) (k : Fin 25) (g : Charger → Charger) : (s.modCg k g).wdt = s.wdt := rfl
@[simp] theorem State.modCg_logBuf (s : State) (k : Fin 25) (g : Charger → Charger) : (s.modCg k g).logBuf = s.logBuf := rfl
@[simp] theorem State.modCg_logNor (s : State) (k : Fin 25) (g : Charger → Charger) : (s.modCg k g).logNor = s.logNor := rfl
@[simp] theorem State.modCg_nor (s : State) (k : Fin 25) (g : Charger → Charger) : (s.modCg k g).nor = s.nor := rfl
@[simp] theorem State.modCg_boot (s : State) (k : Fin 25) (g : Charger → Charger) : (s.modCg k g).boot = s.boot := rfl
@[simp] theorem State.modCg_pllBad (s : State) (k : Fin 25) (g : Charger → Charger) : (s.modCg k g).pllBad = s.pllBad := rfl
@[simp] theorem State.modCg_refBad (s : State) (k : Fin 25) (g : Charger → Charger) : (s.modCg k g).refBad = s.refBad := rfl
@[simp] theorem State.modCg_ltMoved (s : State) (k : Fin 25) (g : Charger → Charger) : (s.modCg k g).ltMoved = s.ltMoved := rfl
@[simp] theorem State.modCg_chargersB (s : State) (k : Fin 25) (g : Charger → Charger) :
    (s.modCg k g).chargersB = s.chargersB.set k (g s.chargersB[k]) := rfl
@[simp] theorem State.modCg_reasm (s : State) (k : Fin 25) (g : Charger → Charger) : (s.modCg k g).reasm = s.reasm := rfl
@[simp] theorem State.modCg_turn (s : State) (k : Fin 25) (g : Charger → Charger) : (s.modCg k g).turn = s.turn := rfl
@[simp] theorem State.modCg_books (s : State) (k : Fin 25) (g : Charger → Charger) : (s.modCg k g).books = s.books := rfl
@[simp] theorem State.modCg_linkCnt (s : State) (k : Fin 25) (g : Charger → Charger) : (s.modCg k g).linkCnt = s.linkCnt := rfl

/-! ### modThr -/

@[simp] theorem State.modThr_pending (s : State) (t : Fin 64) (g : Thread → Thread) : (s.modThr t g).pending = s.pending := rfl
@[simp] theorem State.modThr_regs (s : State) (t : Fin 64) (g : Thread → Thread) : (s.modThr t g).regs = s.regs := rfl
@[simp] theorem State.modThr_mem (s : State) (t : Fin 64) (g : Thread → Thread) : (s.modThr t g).mem = s.mem := rfl
@[simp] theorem State.modThr_freeCtr (s : State) (t : Fin 64) (g : Thread → Thread) : (s.modThr t g).freeCtr = s.freeCtr := rfl
@[simp] theorem State.modThr_tb (s : State) (t : Fin 64) (g : Thread → Thread) : (s.modThr t g).tb = s.tb := rfl
@[simp] theorem State.modThr_records (s : State) (t : Fin 64) (g : Thread → Thread) : (s.modThr t g).records = s.records := rfl
@[simp] theorem State.modThr_fireReps (s : State) (t : Fin 64) (g : Thread → Thread) : (s.modThr t g).fireReps = s.fireReps := rfl
@[simp] theorem State.modThr_gts (s : State) (t : Fin 64) (g : Thread → Thread) : (s.modThr t g).gts = s.gts := rfl
@[simp] theorem State.modThr_evtPulse (s : State) (t : Fin 64) (g : Thread → Thread) : (s.modThr t g).evtPulse = s.evtPulse := rfl
@[simp] theorem State.modThr_chainSig (s : State) (t : Fin 64) (g : Thread → Thread) : (s.modThr t g).chainSig = s.chainSig := rfl
@[simp] theorem State.modThr_chans (s : State) (t : Fin 64) (g : Thread → Thread) : (s.modThr t g).chans = s.chans := rfl
@[simp] theorem State.modThr_chargers (s : State) (t : Fin 64) (g : Thread → Thread) : (s.modThr t g).chargers = s.chargers := rfl
@[simp] theorem State.modThr_threads (s : State) (t : Fin 64) (g : Thread → Thread) :
    (s.modThr t g).threads = s.threads.set t (g s.threads[t]) := rfl
@[simp] theorem State.modThr_mss (s : State) (t : Fin 64) (g : Thread → Thread) : (s.modThr t g).mss = s.mss := rfl
@[simp] theorem State.modThr_wakes (s : State) (t : Fin 64) (g : Thread → Thread) : (s.modThr t g).wakes = s.wakes := rfl
@[simp] theorem State.modThr_ops (s : State) (t : Fin 64) (g : Thread → Thread) : (s.modThr t g).ops = s.ops := rfl
@[simp] theorem State.modThr_images (s : State) (t : Fin 64) (g : Thread → Thread) : (s.modThr t g).images = s.images := rfl
@[simp] theorem State.modThr_cmds (s : State) (t : Fin 64) (g : Thread → Thread) : (s.modThr t g).cmds = s.cmds := rfl
@[simp] theorem State.modThr_journal (s : State) (t : Fin 64) (g : Thread → Thread) : (s.modThr t g).journal = s.journal := rfl
@[simp] theorem State.modThr_out (s : State) (t : Fin 64) (g : Thread → Thread) : (s.modThr t g).out = s.out := rfl
@[simp] theorem State.modThr_reqs (s : State) (t : Fin 64) (g : Thread → Thread) : (s.modThr t g).reqs = s.reqs := rfl
@[simp] theorem State.modThr_mssDown (s : State) (t : Fin 64) (g : Thread → Thread) : (s.modThr t g).mssDown = s.mssDown := rfl
@[simp] theorem State.modThr_heldIn (s : State) (t : Fin 64) (g : Thread → Thread) : (s.modThr t g).heldIn = s.heldIn := rfl
@[simp] theorem State.modThr_sessions (s : State) (t : Fin 64) (g : Thread → Thread) : (s.modThr t g).sessions = s.sessions := rfl
@[simp] theorem State.modThr_closed (s : State) (t : Fin 64) (g : Thread → Thread) : (s.modThr t g).closed = s.closed := rfl
@[simp] theorem State.modThr_wire (s : State) (t : Fin 64) (g : Thread → Thread) : (s.modThr t g).wire = s.wire := rfl
@[simp] theorem State.modThr_twm (s : State) (t : Fin 64) (g : Thread → Thread) : (s.modThr t g).twm = s.twm := rfl
@[simp] theorem State.modThr_ptp (s : State) (t : Fin 64) (g : Thread → Thread) : (s.modThr t g).ptp = s.ptp := rfl
@[simp] theorem State.modThr_netOut (s : State) (t : Fin 64) (g : Thread → Thread) : (s.modThr t g).netOut = s.netOut := rfl
@[simp] theorem State.modThr_ue (s : State) (t : Fin 64) (g : Thread → Thread) : (s.modThr t g).ue = s.ue := rfl
@[simp] theorem State.modThr_extents (s : State) (t : Fin 64) (g : Thread → Thread) : (s.modThr t g).extents = s.extents := rfl
@[simp] theorem State.modThr_rings (s : State) (t : Fin 64) (g : Thread → Thread) : (s.modThr t g).rings = s.rings := rfl
@[simp] theorem State.modThr_upd (s : State) (t : Fin 64) (g : Thread → Thread) : (s.modThr t g).upd = s.upd := rfl
@[simp] theorem State.modThr_reports (s : State) (t : Fin 64) (g : Thread → Thread) : (s.modThr t g).reports = s.reports := rfl
@[simp] theorem State.modThr_asserts (s : State) (t : Fin 64) (g : Thread → Thread) : (s.modThr t g).asserts = s.asserts := rfl
@[simp] theorem State.modThr_fltRecs (s : State) (t : Fin 64) (g : Thread → Thread) : (s.modThr t g).fltRecs = s.fltRecs := rfl
@[simp] theorem State.modThr_reacts (s : State) (t : Fin 64) (g : Thread → Thread) : (s.modThr t g).reacts = s.reacts := rfl
@[simp] theorem State.modThr_repairs (s : State) (t : Fin 64) (g : Thread → Thread) : (s.modThr t g).repairs = s.repairs := rfl
@[simp] theorem State.modThr_suspects (s : State) (t : Fin 64) (g : Thread → Thread) : (s.modThr t g).suspects = s.suspects := rfl
@[simp] theorem State.modThr_collDead (s : State) (t : Fin 64) (g : Thread → Thread) : (s.modThr t g).collDead = s.collDead := rfl
@[simp] theorem State.modThr_house (s : State) (t : Fin 64) (g : Thread → Thread) : (s.modThr t g).house = s.house := rfl
@[simp] theorem State.modThr_ledger (s : State) (t : Fin 64) (g : Thread → Thread) : (s.modThr t g).ledger = s.ledger := rfl
@[simp] theorem State.modThr_ports (s : State) (t : Fin 64) (g : Thread → Thread) : (s.modThr t g).ports = s.ports := rfl
@[simp] theorem State.modThr_laneBad (s : State) (t : Fin 64) (g : Thread → Thread) : (s.modThr t g).laneBad = s.laneBad := rfl
@[simp] theorem State.modThr_chain (s : State) (t : Fin 64) (g : Thread → Thread) : (s.modThr t g).chain = s.chain := rfl
@[simp] theorem State.modThr_paused (s : State) (t : Fin 64) (g : Thread → Thread) : (s.modThr t g).paused = s.paused := rfl
@[simp] theorem State.modThr_sectors (s : State) (t : Fin 64) (g : Thread → Thread) : (s.modThr t g).sectors = s.sectors := rfl
@[simp] theorem State.modThr_wdt (s : State) (t : Fin 64) (g : Thread → Thread) : (s.modThr t g).wdt = s.wdt := rfl
@[simp] theorem State.modThr_logBuf (s : State) (t : Fin 64) (g : Thread → Thread) : (s.modThr t g).logBuf = s.logBuf := rfl
@[simp] theorem State.modThr_logNor (s : State) (t : Fin 64) (g : Thread → Thread) : (s.modThr t g).logNor = s.logNor := rfl
@[simp] theorem State.modThr_nor (s : State) (t : Fin 64) (g : Thread → Thread) : (s.modThr t g).nor = s.nor := rfl
@[simp] theorem State.modThr_boot (s : State) (t : Fin 64) (g : Thread → Thread) : (s.modThr t g).boot = s.boot := rfl
@[simp] theorem State.modThr_pllBad (s : State) (t : Fin 64) (g : Thread → Thread) : (s.modThr t g).pllBad = s.pllBad := rfl
@[simp] theorem State.modThr_refBad (s : State) (t : Fin 64) (g : Thread → Thread) : (s.modThr t g).refBad = s.refBad := rfl
@[simp] theorem State.modThr_ltMoved (s : State) (t : Fin 64) (g : Thread → Thread) : (s.modThr t g).ltMoved = s.ltMoved := rfl
@[simp] theorem State.modThr_chargersB (s : State) (t : Fin 64) (g : Thread → Thread) : (s.modThr t g).chargersB = s.chargersB := rfl
@[simp] theorem State.modThr_reasm (s : State) (t : Fin 64) (g : Thread → Thread) : (s.modThr t g).reasm = s.reasm := rfl
@[simp] theorem State.modThr_turn (s : State) (t : Fin 64) (g : Thread → Thread) : (s.modThr t g).turn = s.turn := rfl
@[simp] theorem State.modThr_books (s : State) (t : Fin 64) (g : Thread → Thread) : (s.modThr t g).books = s.books := rfl
@[simp] theorem State.modThr_linkCnt (s : State) (t : Fin 64) (g : Thread → Thread) : (s.modThr t g).linkCnt = s.linkCnt := rfl

/-! ### modMss -/

@[simp] theorem State.modMss_pending (s : State) (k : Fin 2) (g : MssCore → MssCore) : (s.modMss k g).pending = s.pending := rfl
@[simp] theorem State.modMss_regs (s : State) (k : Fin 2) (g : MssCore → MssCore) : (s.modMss k g).regs = s.regs := rfl
@[simp] theorem State.modMss_mem (s : State) (k : Fin 2) (g : MssCore → MssCore) : (s.modMss k g).mem = s.mem := rfl
@[simp] theorem State.modMss_freeCtr (s : State) (k : Fin 2) (g : MssCore → MssCore) : (s.modMss k g).freeCtr = s.freeCtr := rfl
@[simp] theorem State.modMss_tb (s : State) (k : Fin 2) (g : MssCore → MssCore) : (s.modMss k g).tb = s.tb := rfl
@[simp] theorem State.modMss_records (s : State) (k : Fin 2) (g : MssCore → MssCore) : (s.modMss k g).records = s.records := rfl
@[simp] theorem State.modMss_fireReps (s : State) (k : Fin 2) (g : MssCore → MssCore) : (s.modMss k g).fireReps = s.fireReps := rfl
@[simp] theorem State.modMss_gts (s : State) (k : Fin 2) (g : MssCore → MssCore) : (s.modMss k g).gts = s.gts := rfl
@[simp] theorem State.modMss_evtPulse (s : State) (k : Fin 2) (g : MssCore → MssCore) : (s.modMss k g).evtPulse = s.evtPulse := rfl
@[simp] theorem State.modMss_chainSig (s : State) (k : Fin 2) (g : MssCore → MssCore) : (s.modMss k g).chainSig = s.chainSig := rfl
@[simp] theorem State.modMss_chans (s : State) (k : Fin 2) (g : MssCore → MssCore) : (s.modMss k g).chans = s.chans := rfl
@[simp] theorem State.modMss_chargers (s : State) (k : Fin 2) (g : MssCore → MssCore) : (s.modMss k g).chargers = s.chargers := rfl
@[simp] theorem State.modMss_threads (s : State) (k : Fin 2) (g : MssCore → MssCore) : (s.modMss k g).threads = s.threads := rfl
@[simp] theorem State.modMss_mss (s : State) (k : Fin 2) (g : MssCore → MssCore) :
    (s.modMss k g).mss = s.mss.set k (g s.mss[k]) := rfl
@[simp] theorem State.modMss_wakes (s : State) (k : Fin 2) (g : MssCore → MssCore) : (s.modMss k g).wakes = s.wakes := rfl
@[simp] theorem State.modMss_ops (s : State) (k : Fin 2) (g : MssCore → MssCore) : (s.modMss k g).ops = s.ops := rfl
@[simp] theorem State.modMss_images (s : State) (k : Fin 2) (g : MssCore → MssCore) : (s.modMss k g).images = s.images := rfl
@[simp] theorem State.modMss_cmds (s : State) (k : Fin 2) (g : MssCore → MssCore) : (s.modMss k g).cmds = s.cmds := rfl
@[simp] theorem State.modMss_journal (s : State) (k : Fin 2) (g : MssCore → MssCore) : (s.modMss k g).journal = s.journal := rfl
@[simp] theorem State.modMss_out (s : State) (k : Fin 2) (g : MssCore → MssCore) : (s.modMss k g).out = s.out := rfl
@[simp] theorem State.modMss_reqs (s : State) (k : Fin 2) (g : MssCore → MssCore) : (s.modMss k g).reqs = s.reqs := rfl
@[simp] theorem State.modMss_mssDown (s : State) (k : Fin 2) (g : MssCore → MssCore) : (s.modMss k g).mssDown = s.mssDown := rfl
@[simp] theorem State.modMss_heldIn (s : State) (k : Fin 2) (g : MssCore → MssCore) : (s.modMss k g).heldIn = s.heldIn := rfl
@[simp] theorem State.modMss_sessions (s : State) (k : Fin 2) (g : MssCore → MssCore) : (s.modMss k g).sessions = s.sessions := rfl
@[simp] theorem State.modMss_closed (s : State) (k : Fin 2) (g : MssCore → MssCore) : (s.modMss k g).closed = s.closed := rfl
@[simp] theorem State.modMss_wire (s : State) (k : Fin 2) (g : MssCore → MssCore) : (s.modMss k g).wire = s.wire := rfl
@[simp] theorem State.modMss_twm (s : State) (k : Fin 2) (g : MssCore → MssCore) : (s.modMss k g).twm = s.twm := rfl
@[simp] theorem State.modMss_ptp (s : State) (k : Fin 2) (g : MssCore → MssCore) : (s.modMss k g).ptp = s.ptp := rfl
@[simp] theorem State.modMss_netOut (s : State) (k : Fin 2) (g : MssCore → MssCore) : (s.modMss k g).netOut = s.netOut := rfl
@[simp] theorem State.modMss_ue (s : State) (k : Fin 2) (g : MssCore → MssCore) : (s.modMss k g).ue = s.ue := rfl
@[simp] theorem State.modMss_extents (s : State) (k : Fin 2) (g : MssCore → MssCore) : (s.modMss k g).extents = s.extents := rfl
@[simp] theorem State.modMss_rings (s : State) (k : Fin 2) (g : MssCore → MssCore) : (s.modMss k g).rings = s.rings := rfl
@[simp] theorem State.modMss_upd (s : State) (k : Fin 2) (g : MssCore → MssCore) : (s.modMss k g).upd = s.upd := rfl
@[simp] theorem State.modMss_reports (s : State) (k : Fin 2) (g : MssCore → MssCore) : (s.modMss k g).reports = s.reports := rfl
@[simp] theorem State.modMss_asserts (s : State) (k : Fin 2) (g : MssCore → MssCore) : (s.modMss k g).asserts = s.asserts := rfl
@[simp] theorem State.modMss_fltRecs (s : State) (k : Fin 2) (g : MssCore → MssCore) : (s.modMss k g).fltRecs = s.fltRecs := rfl
@[simp] theorem State.modMss_reacts (s : State) (k : Fin 2) (g : MssCore → MssCore) : (s.modMss k g).reacts = s.reacts := rfl
@[simp] theorem State.modMss_repairs (s : State) (k : Fin 2) (g : MssCore → MssCore) : (s.modMss k g).repairs = s.repairs := rfl
@[simp] theorem State.modMss_suspects (s : State) (k : Fin 2) (g : MssCore → MssCore) : (s.modMss k g).suspects = s.suspects := rfl
@[simp] theorem State.modMss_collDead (s : State) (k : Fin 2) (g : MssCore → MssCore) : (s.modMss k g).collDead = s.collDead := rfl
@[simp] theorem State.modMss_house (s : State) (k : Fin 2) (g : MssCore → MssCore) : (s.modMss k g).house = s.house := rfl
@[simp] theorem State.modMss_ledger (s : State) (k : Fin 2) (g : MssCore → MssCore) : (s.modMss k g).ledger = s.ledger := rfl
@[simp] theorem State.modMss_ports (s : State) (k : Fin 2) (g : MssCore → MssCore) : (s.modMss k g).ports = s.ports := rfl
@[simp] theorem State.modMss_laneBad (s : State) (k : Fin 2) (g : MssCore → MssCore) : (s.modMss k g).laneBad = s.laneBad := rfl
@[simp] theorem State.modMss_chain (s : State) (k : Fin 2) (g : MssCore → MssCore) : (s.modMss k g).chain = s.chain := rfl
@[simp] theorem State.modMss_paused (s : State) (k : Fin 2) (g : MssCore → MssCore) : (s.modMss k g).paused = s.paused := rfl
@[simp] theorem State.modMss_sectors (s : State) (k : Fin 2) (g : MssCore → MssCore) : (s.modMss k g).sectors = s.sectors := rfl
@[simp] theorem State.modMss_wdt (s : State) (k : Fin 2) (g : MssCore → MssCore) : (s.modMss k g).wdt = s.wdt := rfl
@[simp] theorem State.modMss_logBuf (s : State) (k : Fin 2) (g : MssCore → MssCore) : (s.modMss k g).logBuf = s.logBuf := rfl
@[simp] theorem State.modMss_logNor (s : State) (k : Fin 2) (g : MssCore → MssCore) : (s.modMss k g).logNor = s.logNor := rfl
@[simp] theorem State.modMss_nor (s : State) (k : Fin 2) (g : MssCore → MssCore) : (s.modMss k g).nor = s.nor := rfl
@[simp] theorem State.modMss_boot (s : State) (k : Fin 2) (g : MssCore → MssCore) : (s.modMss k g).boot = s.boot := rfl
@[simp] theorem State.modMss_pllBad (s : State) (k : Fin 2) (g : MssCore → MssCore) : (s.modMss k g).pllBad = s.pllBad := rfl
@[simp] theorem State.modMss_refBad (s : State) (k : Fin 2) (g : MssCore → MssCore) : (s.modMss k g).refBad = s.refBad := rfl
@[simp] theorem State.modMss_ltMoved (s : State) (k : Fin 2) (g : MssCore → MssCore) : (s.modMss k g).ltMoved = s.ltMoved := rfl
@[simp] theorem State.modMss_chargersB (s : State) (k : Fin 2) (g : MssCore → MssCore) : (s.modMss k g).chargersB = s.chargersB := rfl
@[simp] theorem State.modMss_reasm (s : State) (k : Fin 2) (g : MssCore → MssCore) : (s.modMss k g).reasm = s.reasm := rfl
@[simp] theorem State.modMss_turn (s : State) (k : Fin 2) (g : MssCore → MssCore) : (s.modMss k g).turn = s.turn := rfl
@[simp] theorem State.modMss_books (s : State) (k : Fin 2) (g : MssCore → MssCore) : (s.modMss k g).books = s.books := rfl
@[simp] theorem State.modMss_linkCnt (s : State) (k : Fin 2) (g : MssCore → MssCore) : (s.modMss k g).linkCnt = s.linkCnt := rfl

/-! ### setReq -/

@[simp] theorem State.setReq_pending (s : State) (rq : Requester) (x : ReqState) : (s.setReq rq x).pending = s.pending := rfl
@[simp] theorem State.setReq_regs (s : State) (rq : Requester) (x : ReqState) : (s.setReq rq x).regs = s.regs := rfl
@[simp] theorem State.setReq_mem (s : State) (rq : Requester) (x : ReqState) : (s.setReq rq x).mem = s.mem := rfl
@[simp] theorem State.setReq_freeCtr (s : State) (rq : Requester) (x : ReqState) : (s.setReq rq x).freeCtr = s.freeCtr := rfl
@[simp] theorem State.setReq_tb (s : State) (rq : Requester) (x : ReqState) : (s.setReq rq x).tb = s.tb := rfl
@[simp] theorem State.setReq_records (s : State) (rq : Requester) (x : ReqState) : (s.setReq rq x).records = s.records := rfl
@[simp] theorem State.setReq_fireReps (s : State) (rq : Requester) (x : ReqState) : (s.setReq rq x).fireReps = s.fireReps := rfl
@[simp] theorem State.setReq_gts (s : State) (rq : Requester) (x : ReqState) : (s.setReq rq x).gts = s.gts := rfl
@[simp] theorem State.setReq_evtPulse (s : State) (rq : Requester) (x : ReqState) : (s.setReq rq x).evtPulse = s.evtPulse := rfl
@[simp] theorem State.setReq_chainSig (s : State) (rq : Requester) (x : ReqState) : (s.setReq rq x).chainSig = s.chainSig := rfl
@[simp] theorem State.setReq_chans (s : State) (rq : Requester) (x : ReqState) : (s.setReq rq x).chans = s.chans := rfl
@[simp] theorem State.setReq_chargers (s : State) (rq : Requester) (x : ReqState) : (s.setReq rq x).chargers = s.chargers := rfl
@[simp] theorem State.setReq_threads (s : State) (rq : Requester) (x : ReqState) : (s.setReq rq x).threads = s.threads := rfl
@[simp] theorem State.setReq_mss (s : State) (rq : Requester) (x : ReqState) : (s.setReq rq x).mss = s.mss := rfl
@[simp] theorem State.setReq_wakes (s : State) (rq : Requester) (x : ReqState) : (s.setReq rq x).wakes = s.wakes := rfl
@[simp] theorem State.setReq_ops (s : State) (rq : Requester) (x : ReqState) : (s.setReq rq x).ops = s.ops := rfl
@[simp] theorem State.setReq_images (s : State) (rq : Requester) (x : ReqState) : (s.setReq rq x).images = s.images := rfl
@[simp] theorem State.setReq_cmds (s : State) (rq : Requester) (x : ReqState) : (s.setReq rq x).cmds = s.cmds := rfl
@[simp] theorem State.setReq_journal (s : State) (rq : Requester) (x : ReqState) : (s.setReq rq x).journal = s.journal := rfl
@[simp] theorem State.setReq_out (s : State) (rq : Requester) (x : ReqState) : (s.setReq rq x).out = s.out := rfl
@[simp] theorem State.setReq_mssDown (s : State) (rq : Requester) (x : ReqState) : (s.setReq rq x).mssDown = s.mssDown := rfl
@[simp] theorem State.setReq_heldIn (s : State) (rq : Requester) (x : ReqState) : (s.setReq rq x).heldIn = s.heldIn := rfl
@[simp] theorem State.setReq_sessions (s : State) (rq : Requester) (x : ReqState) : (s.setReq rq x).sessions = s.sessions := rfl
@[simp] theorem State.setReq_closed (s : State) (rq : Requester) (x : ReqState) : (s.setReq rq x).closed = s.closed := rfl
@[simp] theorem State.setReq_wire (s : State) (rq : Requester) (x : ReqState) : (s.setReq rq x).wire = s.wire := rfl
@[simp] theorem State.setReq_twm (s : State) (rq : Requester) (x : ReqState) : (s.setReq rq x).twm = s.twm := rfl
@[simp] theorem State.setReq_ptp (s : State) (rq : Requester) (x : ReqState) : (s.setReq rq x).ptp = s.ptp := rfl
@[simp] theorem State.setReq_netOut (s : State) (rq : Requester) (x : ReqState) : (s.setReq rq x).netOut = s.netOut := rfl
@[simp] theorem State.setReq_ue (s : State) (rq : Requester) (x : ReqState) : (s.setReq rq x).ue = s.ue := rfl
@[simp] theorem State.setReq_extents (s : State) (rq : Requester) (x : ReqState) : (s.setReq rq x).extents = s.extents := rfl
@[simp] theorem State.setReq_rings (s : State) (rq : Requester) (x : ReqState) : (s.setReq rq x).rings = s.rings := rfl
@[simp] theorem State.setReq_upd (s : State) (rq : Requester) (x : ReqState) : (s.setReq rq x).upd = s.upd := rfl
@[simp] theorem State.setReq_reports (s : State) (rq : Requester) (x : ReqState) : (s.setReq rq x).reports = s.reports := rfl
@[simp] theorem State.setReq_asserts (s : State) (rq : Requester) (x : ReqState) : (s.setReq rq x).asserts = s.asserts := rfl
@[simp] theorem State.setReq_fltRecs (s : State) (rq : Requester) (x : ReqState) : (s.setReq rq x).fltRecs = s.fltRecs := rfl
@[simp] theorem State.setReq_reacts (s : State) (rq : Requester) (x : ReqState) : (s.setReq rq x).reacts = s.reacts := rfl
@[simp] theorem State.setReq_repairs (s : State) (rq : Requester) (x : ReqState) : (s.setReq rq x).repairs = s.repairs := rfl
@[simp] theorem State.setReq_suspects (s : State) (rq : Requester) (x : ReqState) : (s.setReq rq x).suspects = s.suspects := rfl
@[simp] theorem State.setReq_collDead (s : State) (rq : Requester) (x : ReqState) : (s.setReq rq x).collDead = s.collDead := rfl
@[simp] theorem State.setReq_house (s : State) (rq : Requester) (x : ReqState) : (s.setReq rq x).house = s.house := rfl
@[simp] theorem State.setReq_ledger (s : State) (rq : Requester) (x : ReqState) : (s.setReq rq x).ledger = s.ledger := rfl
@[simp] theorem State.setReq_ports (s : State) (rq : Requester) (x : ReqState) : (s.setReq rq x).ports = s.ports := rfl
@[simp] theorem State.setReq_laneBad (s : State) (rq : Requester) (x : ReqState) : (s.setReq rq x).laneBad = s.laneBad := rfl
@[simp] theorem State.setReq_chain (s : State) (rq : Requester) (x : ReqState) : (s.setReq rq x).chain = s.chain := rfl
@[simp] theorem State.setReq_paused (s : State) (rq : Requester) (x : ReqState) : (s.setReq rq x).paused = s.paused := rfl
@[simp] theorem State.setReq_sectors (s : State) (rq : Requester) (x : ReqState) : (s.setReq rq x).sectors = s.sectors := rfl
@[simp] theorem State.setReq_wdt (s : State) (rq : Requester) (x : ReqState) : (s.setReq rq x).wdt = s.wdt := rfl
@[simp] theorem State.setReq_logBuf (s : State) (rq : Requester) (x : ReqState) : (s.setReq rq x).logBuf = s.logBuf := rfl
@[simp] theorem State.setReq_logNor (s : State) (rq : Requester) (x : ReqState) : (s.setReq rq x).logNor = s.logNor := rfl
@[simp] theorem State.setReq_nor (s : State) (rq : Requester) (x : ReqState) : (s.setReq rq x).nor = s.nor := rfl
@[simp] theorem State.setReq_boot (s : State) (rq : Requester) (x : ReqState) : (s.setReq rq x).boot = s.boot := rfl
@[simp] theorem State.setReq_pllBad (s : State) (rq : Requester) (x : ReqState) : (s.setReq rq x).pllBad = s.pllBad := rfl
@[simp] theorem State.setReq_refBad (s : State) (rq : Requester) (x : ReqState) : (s.setReq rq x).refBad = s.refBad := rfl
@[simp] theorem State.setReq_ltMoved (s : State) (rq : Requester) (x : ReqState) : (s.setReq rq x).ltMoved = s.ltMoved := rfl
@[simp] theorem State.setReq_chargersB (s : State) (rq : Requester) (x : ReqState) : (s.setReq rq x).chargersB = s.chargersB := rfl
@[simp] theorem State.setReq_reasm (s : State) (rq : Requester) (x : ReqState) : (s.setReq rq x).reasm = s.reasm := rfl
@[simp] theorem State.setReq_turn (s : State) (rq : Requester) (x : ReqState) : (s.setReq rq x).turn = s.turn := rfl
@[simp] theorem State.setReq_books (s : State) (rq : Requester) (x : ReqState) : (s.setReq rq x).books = s.books := rfl
@[simp] theorem State.setReq_linkCnt (s : State) (rq : Requester) (x : ReqState) : (s.setReq rq x).linkCnt = s.linkCnt := rfl

/-! ### modBook -/

@[simp] theorem State.modBook_pending (s : State) (k : Nat) (g : Book → Book) : (s.modBook k g).pending = s.pending := rfl
@[simp] theorem State.modBook_regs (s : State) (k : Nat) (g : Book → Book) : (s.modBook k g).regs = s.regs := rfl
@[simp] theorem State.modBook_mem (s : State) (k : Nat) (g : Book → Book) : (s.modBook k g).mem = s.mem := rfl
@[simp] theorem State.modBook_freeCtr (s : State) (k : Nat) (g : Book → Book) : (s.modBook k g).freeCtr = s.freeCtr := rfl
@[simp] theorem State.modBook_tb (s : State) (k : Nat) (g : Book → Book) : (s.modBook k g).tb = s.tb := rfl
@[simp] theorem State.modBook_records (s : State) (k : Nat) (g : Book → Book) : (s.modBook k g).records = s.records := rfl
@[simp] theorem State.modBook_fireReps (s : State) (k : Nat) (g : Book → Book) : (s.modBook k g).fireReps = s.fireReps := rfl
@[simp] theorem State.modBook_gts (s : State) (k : Nat) (g : Book → Book) : (s.modBook k g).gts = s.gts := rfl
@[simp] theorem State.modBook_evtPulse (s : State) (k : Nat) (g : Book → Book) : (s.modBook k g).evtPulse = s.evtPulse := rfl
@[simp] theorem State.modBook_chainSig (s : State) (k : Nat) (g : Book → Book) : (s.modBook k g).chainSig = s.chainSig := rfl
@[simp] theorem State.modBook_chans (s : State) (k : Nat) (g : Book → Book) : (s.modBook k g).chans = s.chans := rfl
@[simp] theorem State.modBook_chargers (s : State) (k : Nat) (g : Book → Book) : (s.modBook k g).chargers = s.chargers := rfl
@[simp] theorem State.modBook_chargersB (s : State) (k : Nat) (g : Book → Book) : (s.modBook k g).chargersB = s.chargersB := rfl
@[simp] theorem State.modBook_threads (s : State) (k : Nat) (g : Book → Book) : (s.modBook k g).threads = s.threads := rfl
@[simp] theorem State.modBook_mss (s : State) (k : Nat) (g : Book → Book) : (s.modBook k g).mss = s.mss := rfl
@[simp] theorem State.modBook_wakes (s : State) (k : Nat) (g : Book → Book) : (s.modBook k g).wakes = s.wakes := rfl
@[simp] theorem State.modBook_ops (s : State) (k : Nat) (g : Book → Book) : (s.modBook k g).ops = s.ops := rfl
@[simp] theorem State.modBook_images (s : State) (k : Nat) (g : Book → Book) : (s.modBook k g).images = s.images := rfl
@[simp] theorem State.modBook_cmds (s : State) (k : Nat) (g : Book → Book) : (s.modBook k g).cmds = s.cmds := rfl
@[simp] theorem State.modBook_journal (s : State) (k : Nat) (g : Book → Book) : (s.modBook k g).journal = s.journal := rfl
@[simp] theorem State.modBook_out (s : State) (k : Nat) (g : Book → Book) : (s.modBook k g).out = s.out := rfl
@[simp] theorem State.modBook_reqs (s : State) (k : Nat) (g : Book → Book) : (s.modBook k g).reqs = s.reqs := rfl
@[simp] theorem State.modBook_mssDown (s : State) (k : Nat) (g : Book → Book) : (s.modBook k g).mssDown = s.mssDown := rfl
@[simp] theorem State.modBook_heldIn (s : State) (k : Nat) (g : Book → Book) : (s.modBook k g).heldIn = s.heldIn := rfl
@[simp] theorem State.modBook_sessions (s : State) (k : Nat) (g : Book → Book) : (s.modBook k g).sessions = s.sessions := rfl
@[simp] theorem State.modBook_closed (s : State) (k : Nat) (g : Book → Book) : (s.modBook k g).closed = s.closed := rfl
@[simp] theorem State.modBook_wire (s : State) (k : Nat) (g : Book → Book) : (s.modBook k g).wire = s.wire := rfl
@[simp] theorem State.modBook_reasm (s : State) (k : Nat) (g : Book → Book) : (s.modBook k g).reasm = s.reasm := rfl
@[simp] theorem State.modBook_twm (s : State) (k : Nat) (g : Book → Book) : (s.modBook k g).twm = s.twm := rfl
@[simp] theorem State.modBook_ptp (s : State) (k : Nat) (g : Book → Book) : (s.modBook k g).ptp = s.ptp := rfl
@[simp] theorem State.modBook_netOut (s : State) (k : Nat) (g : Book → Book) : (s.modBook k g).netOut = s.netOut := rfl
@[simp] theorem State.modBook_ue (s : State) (k : Nat) (g : Book → Book) : (s.modBook k g).ue = s.ue := rfl
@[simp] theorem State.modBook_extents (s : State) (k : Nat) (g : Book → Book) : (s.modBook k g).extents = s.extents := rfl
@[simp] theorem State.modBook_rings (s : State) (k : Nat) (g : Book → Book) : (s.modBook k g).rings = s.rings := rfl
@[simp] theorem State.modBook_upd (s : State) (k : Nat) (g : Book → Book) : (s.modBook k g).upd = s.upd := rfl
@[simp] theorem State.modBook_reports (s : State) (k : Nat) (g : Book → Book) : (s.modBook k g).reports = s.reports := rfl
@[simp] theorem State.modBook_asserts (s : State) (k : Nat) (g : Book → Book) : (s.modBook k g).asserts = s.asserts := rfl
@[simp] theorem State.modBook_fltRecs (s : State) (k : Nat) (g : Book → Book) : (s.modBook k g).fltRecs = s.fltRecs := rfl
@[simp] theorem State.modBook_turn (s : State) (k : Nat) (g : Book → Book) : (s.modBook k g).turn = s.turn := rfl
@[simp] theorem State.modBook_books (s : State) (k : Nat) (g : Book → Book) :
    (s.modBook k g).books = cellSet {} k (g (cellGet {} k s.books)) s.books := rfl
@[simp] theorem State.modBook_reacts (s : State) (k : Nat) (g : Book → Book) : (s.modBook k g).reacts = s.reacts := rfl
@[simp] theorem State.modBook_repairs (s : State) (k : Nat) (g : Book → Book) : (s.modBook k g).repairs = s.repairs := rfl
@[simp] theorem State.modBook_suspects (s : State) (k : Nat) (g : Book → Book) : (s.modBook k g).suspects = s.suspects := rfl
@[simp] theorem State.modBook_collDead (s : State) (k : Nat) (g : Book → Book) : (s.modBook k g).collDead = s.collDead := rfl
@[simp] theorem State.modBook_house (s : State) (k : Nat) (g : Book → Book) : (s.modBook k g).house = s.house := rfl
@[simp] theorem State.modBook_ledger (s : State) (k : Nat) (g : Book → Book) : (s.modBook k g).ledger = s.ledger := rfl
@[simp] theorem State.modBook_ports (s : State) (k : Nat) (g : Book → Book) : (s.modBook k g).ports = s.ports := rfl
@[simp] theorem State.modBook_laneBad (s : State) (k : Nat) (g : Book → Book) : (s.modBook k g).laneBad = s.laneBad := rfl
@[simp] theorem State.modBook_linkCnt (s : State) (k : Nat) (g : Book → Book) : (s.modBook k g).linkCnt = s.linkCnt := rfl
@[simp] theorem State.modBook_chain (s : State) (k : Nat) (g : Book → Book) : (s.modBook k g).chain = s.chain := rfl
@[simp] theorem State.modBook_paused (s : State) (k : Nat) (g : Book → Book) : (s.modBook k g).paused = s.paused := rfl
@[simp] theorem State.modBook_sectors (s : State) (k : Nat) (g : Book → Book) : (s.modBook k g).sectors = s.sectors := rfl
@[simp] theorem State.modBook_wdt (s : State) (k : Nat) (g : Book → Book) : (s.modBook k g).wdt = s.wdt := rfl
@[simp] theorem State.modBook_logBuf (s : State) (k : Nat) (g : Book → Book) : (s.modBook k g).logBuf = s.logBuf := rfl
@[simp] theorem State.modBook_logNor (s : State) (k : Nat) (g : Book → Book) : (s.modBook k g).logNor = s.logNor := rfl
@[simp] theorem State.modBook_nor (s : State) (k : Nat) (g : Book → Book) : (s.modBook k g).nor = s.nor := rfl
@[simp] theorem State.modBook_boot (s : State) (k : Nat) (g : Book → Book) : (s.modBook k g).boot = s.boot := rfl
@[simp] theorem State.modBook_pllBad (s : State) (k : Nat) (g : Book → Book) : (s.modBook k g).pllBad = s.pllBad := rfl
@[simp] theorem State.modBook_refBad (s : State) (k : Nat) (g : Book → Book) : (s.modBook k g).refBad = s.refBad := rfl
@[simp] theorem State.modBook_ltMoved (s : State) (k : Nat) (g : Book → Book) : (s.modBook k g).ltMoved = s.ltMoved := rfl

end Sys2Proof.Machine
end

