-- ==== Sys2Proof/Laws/Steps.lean ====
section
/-!
SUPPORT. What the frame of an instruction does: an executor that runs executes its instruction, and an instruction that
writes its context and PC alone leaves everything else.
-/

namespace Sys2Proof.Machine

theorem thrPc_inj (j k : Fin 64) (h : R.SEQ_THR_PC j = R.SEQ_THR_PC k) : j = k := by
  have : R.SEQ_THR_PC j = R.SEQ_THR_PC k → j.val = k.val := by
    simp only [R.SEQ_THR_PC]; omega
  exact Fin.ext (this h)

theorem State.wf_rwf {s : State} (h : s.wf = true) : s.rwf := by
  simp only [State.wf, Bool.and_eq_true] at h; exact h.1

theorem State.wf_mwf {s : State} (h : s.wf = true) : s.mwf := by
  simp only [State.wf, Bool.and_eq_true] at h; exact h.2

/-- A byte of queue memory depends on the memory, the records and the states of the banks. -/
theorem State.ldByte_congr (s t : State) (hm : t.mem = s.mem) (hr : t.records = s.records)
    (hb : t.rd (R.PDOM_STAT 5) = s.rd (R.PDOM_STAT 5)) (a : Nat) : t.ldByte a = s.ldByte a := by
  have hcal : ∀ b, t.calWord b = s.calWord b := by
    intro b; simp only [State.calWord, State.bucketRecs, State.recWords, hr]
  have hon : inQueue a = true → t.bankOn a = s.bankOn a := by
    intro h
    have hk : (82 + bankOf a) / 16 = 5 := by
      simp only [inQueue, Bool.and_eq_true, decide_eq_true_eq] at h
      simp only [bankOf]; omega
    simp only [State.bankOn, State.domOn, State.get, domStat, hk, hb]
  by_cases h : inQueue a = true
  · simp only [State.ldByte, hcal, hm, hon h]
  · simp only [State.ldByte, hcal, hm, h, Bool.false_and]

/-! ### Issuing -/

theorem took_ctx (s : State) (x y : Exec) : (s.took x).ctx y = s.ctx y := by
  cases x with
  | mss k => rfl
  | thread k =>
    cases y with
    | mss j => rfl
    | thread j =>
      simp only [State.took, State.ctx, State.modThr_threads]
      by_cases e : k = j
      · subst e; simp
      · have hn : ¬ k.val = j.val := fun e' => e (Fin.ext e')
        simp [Vector.getElem_set_ne, hn]

theorem took_pcOf (s : State) (x y : Exec) : (s.took x).pcOf y = s.pcOf y := by cases x <;> cases y <;> rfl

theorem took_rd (s : State) (x : Exec) (a : Nat) : (s.took x).rd a = s.rd a := by cases x <;> rfl

theorem took_wf (s : State) (x : Exec) : (s.took x).wf = s.wf := by cases x <;> rfl

theorem took_ldByte (s : State) (x : Exec) (a : Nat) : (s.took x).ldByte a = s.ldByte a := by cases x <;> rfl

/-- What a change of an executor's context and PC leaves. -/
structure Moved (x : Exec) (c : Ctx) (p : Word) (s t : State) : Prop where
  ctx    : t.ctx x = c
  pc     : t.pcOf x = p
  others : ∀ y, y ≠ x → t.ctx y = s.ctx y ∧ t.pcOf y = s.pcOf y
  regs   : ∀ a, (∀ k, x = .thread k → a ≠ R.SEQ_THR_PC k) → t.rd a = s.rd a
  mem    : ∀ a, t.ldByte a = s.ldByte a
  only   : OnlyContexts s t

theorem Moved.stepped {x : Exec} {c : Ctx} {p : Word} {s t : State} (h : Moved x c p (s.took x) t) : Stepped x c p s t :=
  ⟨h.ctx, h.pc, fun y hy => by rw [(h.others y hy).1, (h.others y hy).2, took_ctx, took_pcOf]; exact ⟨rfl, rfl⟩,
   fun a ha => (h.regs a ha).trans (took_rd s x a), fun a => (h.mem a).trans (took_ldByte s x a), h.only⟩

theorem moved_setPc (x : Exec) (f : Ctx → Ctx) (p : Word) (s : State) (h : s.wf = true) :
    Moved x (f (s.ctx x)) p s ((s.modCtx x f).setPc x p) := by
  cases x with
  | thread k =>
    have hreg : ∀ a, a ≠ R.SEQ_THR_PC k →
        (((s.modCtx (.thread k) f).setPc (.thread k) p)).rd a = s.rd a := by
      intro a ha; exact State.rd_wr_other _ _ _ _ ha
    refine ⟨?_, ?_, ?_, ?_, ?_, ?_⟩
    · simp [State.ctx, State.setPc, State.modCtx]
    · exact State.rd_wr _ _ _ (State.wf_rwf h)
    · intro y hy
      cases y with
      | thread j =>
        have hjk : j ≠ k := fun e => hy (by rw [e])
        refine ⟨?_, hreg _ fun e => hjk (thrPc_inj _ _ e)⟩
        have hn : ¬ k.val = j.val := fun e => hjk (Fin.ext e.symm)
        simp [State.ctx, State.setPc, State.modCtx, Vector.getElem_set_ne, hn]
      | mss j => exact ⟨rfl, rfl⟩
    · intro a ha; exact hreg a (ha k rfl)
    · exact State.ldByte_congr _ _ rfl rfl (hreg _ (by simp only [R.SEQ_THR_PC, R.PDOM_STAT]; omega))
    · refine ⟨rfl, ?_, fun _ => rfl⟩
      intro j
      simp only [State.setPc, State.modCtx, State.wr_threads, State.modThr_threads]
      by_cases e : j = k
      · subst e; simp
      · have hn : ¬ k.val = j.val := fun e' => e (Fin.ext e'.symm)
        simp [Vector.getElem_set_ne, hn]
  | mss k =>
    refine ⟨?_, ?_, ?_, fun _ _ => rfl, fun _ => rfl, rfl, fun _ => rfl, ?_⟩
    · simp [State.ctx, State.setPc, State.modCtx, State.modMss]
    · simp [State.pcOf, State.setPc, State.modCtx, State.modMss]
    · intro y hy
      cases y with
      | thread j => exact ⟨rfl, rfl⟩
      | mss j =>
        have hjk : ¬ k.val = j.val := fun e => hy (by rw [Fin.ext e])
        simp [State.ctx, State.pcOf, State.setPc, State.modCtx, State.modMss, Vector.getElem_set_ne, hjk]
    · intro j
      simp only [State.setPc, State.modCtx, State.modMss]
      by_cases e : j = k
      · subst e; simp
      · have hjk : ¬ k.val = j.val := fun e' => e (Fin.ext e'.symm)
        simp [Vector.getElem_set_ne, hjk]

theorem pcOf_modCtx (s : State) (x : Exec) (f : Ctx → Ctx) : (s.modCtx x f).pcOf x = s.pcOf x := by
  cases x with
  | thread k => rfl
  | mss k => simp [State.pcOf, State.modCtx, State.modMss]

theorem moved_advance (x : Exec) (f : Ctx → Ctx) (s : State) (h : s.wf = true) :
    Moved x (f (s.ctx x)) (s.pcOf x + 4) s ((s.modCtx x f).advance x) := by
  rw [State.advance, pcOf_modCtx]; exact moved_setPc x f _ s h

theorem modCtx_id (s : State) (x : Exec) : s.modCtx x id = s := by
  cases x with
  | thread k =>
    have h : s.threads.set k s.threads[k] k.isLt = s.threads := Vector.set_getElem_self _
    show { s with threads := s.threads.set k { s.threads[k] with ctx := s.threads[k].ctx } k.isLt } = s
    rw [show ({ s.threads[k] with ctx := s.threads[k].ctx } : Thread) = s.threads[k] from rfl, h]
  | mss k =>
    have h : s.mss.set k s.mss[k] k.isLt = s.mss := Vector.set_getElem_self _
    show { s with mss := s.mss.set k { s.mss[k] with ctx := s.mss[k].ctx } k.isLt } = s
    rw [show ({ s.mss[k] with ctx := s.mss[k].ctx } : MssCore) = s.mss[k] from rfl, h]

/-- An executor that runs executes its instruction: it has issued, and then the instruction acts. -/
theorem issue_runs (s : State) (x : Exec) (f : State → State) (h : s.runs x = true) : s.issue x f = f (s.took x) := by
  simp only [State.runs, Bool.and_eq_true, Bool.not_eq_true', Option.isNone_iff_eq_none] at h
  obtain ⟨⟨hi, hc⟩, hu⟩ := h
  have hc' : (s.took x).ctxBad x = none := by cases x <;> exact hc
  have hu' : (s.took x).ue.contains (((s.took x).pcOf x).toNat / 8) = false := by
    rw [took_pcOf]; cases x <;> exact hu
  simp only [State.issue, hi, if_true, hc', hu', Bool.false_eq_true, if_false]

theorem stepped_setPc (x : Exec) (f : Ctx → Ctx) (p : Word) (s : State) (h : s.wf = true) :
    Stepped x (f (s.ctx x)) p s (((s.took x).modCtx x f).setPc x p) := by
  have := moved_setPc x f p (s.took x) (by rwa [took_wf])
  rw [took_ctx] at this
  exact this.stepped

theorem stepped_advance (x : Exec) (f : Ctx → Ctx) (s : State) (h : s.wf = true) :
    Stepped x (f (s.ctx x)) (s.pcOf x + 4) s (((s.took x).modCtx x f).advance x) := by
  have := moved_advance x f (s.took x) (by rwa [took_wf])
  rw [took_ctx, took_pcOf] at this
  exact this.stepped

theorem stepped_go (x : Exec) (p : Word) (s : State) (h : s.wf = true) :
    Stepped x (s.ctx x) p s ((s.took x).setPc x p) := by
  have := stepped_setPc x id p s h
  rwa [modCtx_id] at this

end Sys2Proof.Machine
end

