-- ==== Sys2Proof/Certificates/Slice0/Obligations.lean ====
section
/-!
DEFINITION. The statements for the provers. Each obligation stands at the end of this file and is the conjunction of the
clauses of Sys2Proof.Claims that it names; each clause cites the rules of the spec it follows, and each obligation the log
entries (notes/assumptions) whose choices or readings it rests on.
-/

namespace Sys2Proof.Claims

open Sys2Proof Sys2Proof.Machine

/-! ### Programs: arithmetic, flags, branches -/

/-- The immediate forms of Table 09-3 (R230): rd takes the result, the PC advances by 4, nothing else changes. -/
def NerogImmediates : Prop :=
  ∀ (x : Exec) (rd ra : Fin 32) (imm : BitVec 16) (s : State), s.wf = true → s.runs x = true →
    let a := s.g x ra
    let goes := fun (c : Instr) (w : Word) =>
      ∃ t, exec c s = .next t ∧ Stepped x ((s.ctx x).setReg rd w) (s.pcOf x + 4) s t
    goes (.addi x rd ra imm) (a + imm.signExtend 32) ∧
    goes (.andi x rd ra imm) (a &&& imm.zeroExtend 32) ∧
    goes (.ori x rd ra imm) (a ||| imm.zeroExtend 32) ∧
    goes (.xori x rd ra imm) (a ^^^ imm.zeroExtend 32) ∧
    goes (.slli x rd ra imm) (a <<< (imm.toNat % 32)) ∧
    goes (.srli x rd ra imm) (a >>> (imm.toNat % 32)) ∧
    goes (.srai x rd ra imm) (a.sshiftRight (imm.toNat % 32)) ∧
    goes (.lui x rd imm) (imm.zeroExtend 32 <<< 16)

/-- A single operation of Table 09-4 (R227): rd takes the table's result of ra and rb. -/
def AluSingles : Prop :=
  ∀ (x : Exec) (rd ra rb : Fin 32) (s : State), s.wf = true → s.runs x = true →
    let a := s.g x ra
    let b := s.g x rb
    let sh := b.toNat % 32
    let goes := fun (fn : BitVec 11) (w : Word) =>
      ∃ t, exec (.alu x rd ra rb fn) s = .next t ∧ Stepped x ((s.ctx x).setReg rd w) (s.pcOf x + 4) s t
    goes 0x00 (a + b) ∧ goes 0x01 (a - b) ∧ goes 0x02 (a &&& b) ∧ goes 0x03 (a ||| b) ∧ goes 0x04 (a ^^^ b) ∧
    goes 0x05 (a <<< sh) ∧ goes 0x06 (a >>> sh) ∧ goes 0x07 (a.sshiftRight sh) ∧ goes 0x08 (a * b) ∧
    goes 0x09 (BitVec.ofInt 32 (a.toInt * b.toInt / 2 ^ 32)) ∧
    goes 0x0A (BitVec.ofNat 32 (a.toNat * b.toNat / 2 ^ 32)) ∧
    (b ≠ 0 → goes 0x0B (BitVec.ofInt 32 (a.toInt.tdiv b.toInt)) ∧ goes 0x0C (BitVec.ofNat 32 (a.toNat / b.toNat)) ∧
      goes 0x0D (BitVec.ofInt 32 (a.toInt.tmod b.toInt)) ∧ goes 0x0E (BitVec.ofNat 32 (a.toNat % b.toNat))) ∧
    goes 0x0F (if a.toInt ≤ b.toInt then a else b) ∧ goes 0x10 (if a.toInt ≤ b.toInt then b else a) ∧
    goes 0x11 (if a.toNat ≤ b.toNat then a else b) ∧ goes 0x12 (if a.toNat ≤ b.toNat then b else a) ∧
    goes 0x13 (BitVec.ofInt 32 (max (-(2 ^ 31)) (min (2 ^ 31 - 1) (a.toInt + b.toInt)))) ∧
    goes 0x14 (BitVec.ofInt 32 (max (-(2 ^ 31)) (min (2 ^ 31 - 1) (a.toInt - b.toInt))))

/-- Division never traps (R228): every division and remainder, single and pair, goes on with a result; a divisor of 0
gives a quotient of ones and the dividend as remainder; the most negative value divided by −1 gives itself with
remainder 0. -/
def DivisionNeverTraps : Prop :=
  ∀ (x : Exec) (rd ra rb : Fin 32) (s : State), s.wf = true → s.runs x = true →
    let goes := fun (fn : BitVec 11) (c : Ctx) =>
      ∃ t, exec (.alu x rd ra rb fn) s = .next t ∧ Stepped x c (s.pcOf x + 4) s t
    let single := fun (fn : BitVec 11) (w : Word) => goes fn ((s.ctx x).setReg rd w)
    let pair := fun (fn : BitVec 11) (v : Nat) => goes fn ((s.ctx x).setPair rd (v : Int))
    (∀ fn : BitVec 11, 0x0B ≤ fn.toNat → fn.toNat ≤ 0x0E → ∃ w, single fn w) ∧
    (∀ fn : BitVec 11, 0x24 ≤ fn.toNat → fn.toNat ≤ 0x27 → isPair rd = true → isPair ra = true → isPair rb = true →
      ∃ v, v < 2 ^ 64 ∧ pair fn v) ∧
    (s.g x rb = 0 →
      single 0x0B 0xFFFFFFFF ∧ single 0x0C 0xFFFFFFFF ∧ single 0x0D (s.g x ra) ∧ single 0x0E (s.g x ra)) ∧
    (s.g x ra = 0x80000000 → s.g x rb = 0xFFFFFFFF → single 0x0B 0x80000000 ∧ single 0x0D 0) ∧
    (isPair rd = true → isPair ra = true → isPair rb = true →
      (s.gp x rb = 0 →
        pair 0x24 (2 ^ 64 - 1) ∧ pair 0x25 (2 ^ 64 - 1) ∧ pair 0x26 (s.gp x ra) ∧ pair 0x27 (s.gp x ra)) ∧
      (s.gp x ra = 2 ^ 63 → s.gp x rb = 2 ^ 64 - 1 → pair 0x24 (2 ^ 63) ∧ pair 0x26 0))

/-- The pair operations of Table 09-4 (R227) write the pair of rd; g0 and g1 take part as R221 says. -/
def AluPairs : Prop :=
  ∀ (x : Exec) (rd ra rb : Fin 32) (s : State), s.wf = true → s.runs x = true → isPair rd = true →
    let a := s.g x ra
    let b := s.g x rb
    let pa := s.gp x ra
    let pb := s.gp x rb
    let sh := b.toNat % 64
    let goes := fun (fn : BitVec 11) (v : Nat) =>
      ∃ t, exec (.alu x rd ra rb fn) s = .next t ∧ Stepped x ((s.ctx x).setPair rd (v : Int)) (s.pcOf x + 4) s t
    goes 0x22 ((BitVec.ofInt 64 (a.toInt * b.toInt)).toNat) ∧ goes 0x23 (a.toNat * b.toNat) ∧
    goes 0x2B (a.signExtend 64).toNat ∧ goes 0x2C a.toNat ∧
    (isPair ra = true →
      goes 0x28 (pa * 2 ^ sh % 2 ^ 64) ∧ goes 0x29 (pa / 2 ^ sh) ∧
      goes 0x2A ((BitVec.ofNat 64 pa).sshiftRight sh).toNat ∧
      (isPair rb = true →
        goes 0x20 ((pa + pb) % 2 ^ 64) ∧ goes 0x21 ((pa + 2 ^ 64 - pb) % 2 ^ 64) ∧
        (pb ≠ 0 → goes 0x25 (pa / pb) ∧ goes 0x27 (pa % pb) ∧
          goes 0x24 (BitVec.ofInt 64 ((BitVec.ofNat 64 pa).toInt.tdiv (BitVec.ofNat 64 pb).toInt)).toNat ∧
          goes 0x26 (BitVec.ofInt 64 ((BitVec.ofNat 64 pa).toInt.tmod (BitVec.ofNat 64 pb).toInt)).toNat)))

/-- g0 reads 0 and discards writes; another register reads what was written last (R220); a pair holds bits 31:0 in its
even register and 63:32 in its odd one, and the pair g0 takes only the high word (R221). -/
def RegistersAndPairs : Prop :=
  ∀ (c : Ctx) (r q : Fin 32) (w : Word) (v : Nat), v < 2 ^ 64 →
    c.reg 0 = 0 ∧ c.setReg 0 w = c ∧
    (r ≠ 0 → (c.setReg r w).reg r = w) ∧ (q ≠ r → (c.setReg r w).reg q = c.reg q) ∧
    (c.setReg r w).z = c.z ∧ (c.setReg r w).n = c.n ∧ (c.setReg r w).cy = c.cy ∧ (c.setReg r w).v = c.v ∧
    (c.setReg r w).late = c.late ∧
    (isPair r = true → (c.setPair r (v : Int)).reg (pairHi r) = BitVec.ofNat 32 (v / 2 ^ 32) ∧
      (r ≠ 0 → (c.setPair r (v : Int)).pair r = v) ∧
      (c.setPair 0 (v : Int)).pair 0 = v / 2 ^ 32 * 2 ^ 32 ∧
      (q ≠ r → q ≠ pairHi r → (c.setPair r (v : Int)).reg q = c.reg q))

/-- CMP, CMPP, CMPI and TST write the four flags by R229 and no register; another fn is reserved and raises ILLEGAL. -/
def CompareFlags : Prop :=
  ∀ (x : Exec) (ra rb : Fin 32) (fn : BitVec 11) (imm : BitVec 16) (s : State), s.wf = true → s.runs x = true →
    let a := s.g x ra
    let b := s.g x rb
    let i := imm.signExtend 32
    let pa : BitVec 64 := BitVec.ofNat 64 (s.gp x ra)
    let pb : BitVec 64 := BitVec.ofNat 64 (s.gp x rb)
    let goes := fun (c : Instr) (z n cy v : Bool) =>
      ∃ t, exec c s = .next t ∧ Stepped x { s.ctx x with z := z, n := n, cy := cy, v := v } (s.pcOf x + 4) s t
    goes (.cmp x ra rb 0) (a == b) (a - b).msb (decide (b.toNat ≤ a.toNat))
      (decide (a.toInt - b.toInt < -(2 ^ 31) ∨ 2 ^ 31 ≤ a.toInt - b.toInt)) ∧
    goes (.cmpi x ra imm) (a == i) (a - i).msb (decide (i.toNat ≤ a.toNat))
      (decide (a.toInt - i.toInt < -(2 ^ 31) ∨ 2 ^ 31 ≤ a.toInt - i.toInt)) ∧
    goes (.cmp x ra rb 2) (a &&& b == 0) (a &&& b).msb false false ∧
    (2 < fn.toNat → exec (.cmp x ra rb fn) s = .next ((s.took x).illegal x 1)) ∧
    (isPair ra = true → isPair rb = true →
      goes (.cmp x ra rb 1) (pa == pb) (pa - pb).msb (decide (pb.toNat ≤ pa.toNat))
        (decide (pa.toInt - pb.toInt < -(2 ^ 63) ∨ 2 ^ 63 ≤ pa.toInt - pb.toInt)))

/-- B, JAL and JALR (R231) with a target in the fetch regions; a condition that does not hold continues at PC + 4. -/
def Branches : Prop :=
  ∀ (x : Exec) (rd ra : Fin 32) (cond : Fin 16) (o22 : BitVec 22) (o21 : BitVec 21) (imm : BitVec 16) (s : State),
    s.wf = true → s.runs x = true →
    let pc := s.pcOf x
    let goes := fun (c : Instr) (k : Ctx) (p : Word) => ∃ t, exec c s = .next t ∧ Stepped x k p s t
    (cond ≠ 15 → (s.ctx x).cond cond = false → goes (.b x cond o22) (s.ctx x) (pc + 4)) ∧
    (cond ≠ 15 → (s.ctx x).cond cond = true → fetchable (pc + o22.signExtend 32 * 4).toNat = true →
      goes (.b x cond o22) (s.ctx x) (pc + o22.signExtend 32 * 4)) ∧
    (fetchable (pc + o21.signExtend 32 * 4).toNat = true →
      goes (.jal x rd o21) ((s.ctx x).setReg rd (pc + 4)) (pc + o21.signExtend 32 * 4)) ∧
    (fetchable ((s.g x ra + imm.signExtend 32) &&& 0xFFFFFFFC).toNat = true →
      goes (.jalr x rd ra imm) ((s.ctx x).setReg rd (pc + 4)) ((s.g x ra + imm.signExtend 32) &&& 0xFFFFFFFC))

/-- Table 09-5: when each branch condition holds. -/
def BranchConditions : Prop :=
  ∀ c : Ctx,
    (c.cond 0 ↔ c.z = true) ∧ (c.cond 1 ↔ c.z = false) ∧ (c.cond 2 ↔ c.n ≠ c.v) ∧ (c.cond 3 ↔ c.n = c.v) ∧
    (c.cond 4 ↔ c.cy = false) ∧ (c.cond 5 ↔ c.cy = true) ∧ (c.cond 6 ↔ c.z = false ∧ c.n = c.v) ∧
    (c.cond 7 ↔ c.z = true ∨ c.n ≠ c.v) ∧ (c.cond 8 ↔ c.cy = true ∧ c.z = false) ∧
    (c.cond 9 ↔ c.cy = false ∨ c.z = true) ∧ (c.cond 10 ↔ c.late = true) ∧ (c.cond 11 ↔ c.late = false) ∧
    (c.cond 12 ↔ c.n = true) ∧ (c.cond 13 ↔ c.n = false) ∧ (c.cond 14 = true)

/-! ### Programs: memory and registers -/

/-- Loads of queue memory and ROM that R233 admits (R232, R233): bytes at the effective address, sign- or zero-extended. -/
def NerogLoads : Prop :=
  ∀ (x : Exec) (rd ra : Fin 32) (imm : BitVec 16) (s : State), s.wf = true → s.runs x = true →
    let a := (s.g x ra + imm.signExtend 32).toNat
    let m := fun (i : Nat) => s.loadByte (a + i)
    let ok := fun (n : Nat) => memAdmits x a n false = true ∧ s.ueIn a n = none
    let goes := fun (c : Instr) (k : Ctx) => ∃ t, exec c s = .next t ∧ Stepped x k (s.pcOf x + 4) s t
    let sets := fun (c : Instr) (w : Word) => goes c ((s.ctx x).setReg rd w)
    (ok 1 → sets (.lb x rd ra imm) ((m 0).signExtend 32) ∧ sets (.lbu x rd ra imm) ((m 0).zeroExtend 32)) ∧
    (ok 2 → sets (.lh x rd ra imm) ((m 1 ++ m 0).signExtend 32) ∧
      sets (.lhu x rd ra imm) ((m 1 ++ m 0).zeroExtend 32)) ∧
    (ok 4 → 0x400000 ≤ a → sets (.lw x rd ra imm) (m 3 ++ m 2 ++ m 1 ++ m 0)) ∧
    (ok 8 → isPair rd = true →
      goes (.ld x rd ra imm)
        ((s.ctx x).setPair rd ((m 7 ++ m 6 ++ m 5 ++ m 4 ++ m 3 ++ m 2 ++ m 1 ++ m 0).toNat : Int)))

/-- Stores to queue memory that R233 admits: the low bytes of rd (SD: of the pair) at the effective address, where the
region takes stores (R16, R54) and its bank is powered (Table 01-7); every other byte, register and context stays, and
the turn passes on (R267). -/
def NerogStores : Prop :=
  ∀ (x : Exec) (rd ra : Fin 32) (imm : BitVec 16) (s : State), s.wf = true → s.runs x = true →
    let a := (s.g x ra + imm.signExtend 32).toNat
    let goes := fun (c : Instr) (l : List Byte) => ∃ t, exec c s = .next t ∧ t.pcOf x = s.pcOf x + 4 ∧
      (∀ i b, l[i]? = some b →
        t.ldByte (a + i) = if storable (a + i) && s.bankOn (a + i) then b else s.ldByte (a + i)) ∧
      (∀ b, b < a ∨ a + l.length ≤ b → t.ldByte b = s.ldByte b) ∧
      (∀ y, t.ctx y = s.ctx y ∧ (y ≠ x → t.pcOf y = s.pcOf y)) ∧
      (∀ r, (∀ k, x = .thread k → r ≠ R.SEQ_THR_PC k) → t.rd r = s.rd r) ∧
      { t with regs := s.regs, mem := s.mem, ue := s.ue, mss := s.mss } = s.took x
    let w := s.g x rd
    let v := s.g x (pairHi rd)
    let b := fun (w : Word) (i : Nat) => (w.extractLsb' (8 * i) 8 : Byte)
    (memAdmits x a 1 true = true → goes (.sb x rd ra imm) [b w 0]) ∧
    (memAdmits x a 2 true = true → goes (.sh x rd ra imm) [b w 0, b w 1]) ∧
    (memAdmits x a 4 true = true → 0x400000 ≤ a → goes (.sw x rd ra imm) [b w 0, b w 1, b w 2, b w 3]) ∧
    (memAdmits x a 8 true = true → isPair rd = true →
      goes (.sd x rd ra imm) [b w 0, b w 1, b w 2, b w 3, b v 0, b v 1, b v 2, b v 3])

/-- LW and SW in the register space (R234, R277, R280): the executor's own read or write of the register, as its requester,
once no earlier operation or start of it on the unit is still to take effect. -/
def RegisterLoadsAndStores : Prop :=
  ∀ (x : Exec) (rd ra : Fin 32) (imm : BitVec 16) (s : State), s.runs x = true →
    let a := (s.g x ra + imm.signExtend 32).toNat
    let u := s.took x
    a < 0x400000 → a % 4 = 0 →
    (s.unitBusy x a = false →
      exec (.lw x rd ra imm) s = .next (((u.readReg (rqOf x) a).2.setG x rd (u.readReg (rqOf x) a).1).advance x)) ∧
    (s.unitBusy x a = true → exec (.lw x rd ra imm) s = .next u) ∧
    (s.opBusy x a = false → canWrite (rqOf x) a = true →
      exec (.sw x rd ra imm) s = .next ((u.advance x).writeReg (rqOf x) a (s.g x rd))) ∧
    (s.opBusy x a = true → canWrite (rqOf x) a = true → exec (.sw x rd ra imm) s = .next u) ∧
    (mapped a = true → canWrite (rqOf x) a = false → exec (.sw x rd ra imm) s = .next (u.illegal x 3))

/-- What raises the illegal-instruction exception, with its subcause: OPCODE 1, PAIR 2, PRIV 3, ADDR 4 (R225, R231,
R233). -/
def IllegalInstructions : Prop :=
  ∀ (x : Exec) (rd ra rb : Fin 32) (imm : BitVec 16) (fn : BitVec 11) (o : BitVec 22) (s : State), s.runs x = true →
    let a := (s.g x ra + imm.signExtend 32).toNat
    let traps := fun (c : Instr) (sub : Nat) (eaddr : Nat) => exec c s = .next ((s.took x).illegal x sub eaddr)
    ((0x15 ≤ fn.toNat ∧ fn.toNat < 0x20) ∨ 0x2C < fn.toNat → traps (.alu x rd ra rb fn) 1 0) ∧
    (0x20 ≤ fn.toNat → fn.toNat ≤ 0x2C → isPair rd = false → traps (.alu x rd ra rb fn) 2 0) ∧
    (2 < fn.toNat → traps (.cmp x ra rb fn) 1 0) ∧
    (isPair ra = false → traps (.cmp x ra rb 1) 2 0) ∧
    traps (.b x 15 o) 1 0 ∧
    (isPair rd = false → traps (.ld x rd ra imm) 2 0 ∧ traps (.sd x rd ra imm) 2 0) ∧
    (memAdmits x a 1 false = false → traps (.lb x rd ra imm) 4 a ∧ traps (.lbu x rd ra imm) 4 a) ∧
    (memAdmits x a 2 false = false → traps (.lh x rd ra imm) 4 a ∧ traps (.lhu x rd ra imm) 4 a) ∧
    (memAdmits x a 1 true = false → traps (.sb x rd ra imm) 4 a) ∧
    (memAdmits x a 2 true = false → traps (.sh x rd ra imm) 4 a) ∧
    (0x400000 ≤ a ∨ a % 4 ≠ 0 → memAdmits x a 4 false = false → traps (.lw x rd ra imm) 4 a) ∧
    (0x400000 ≤ a ∨ a % 4 ≠ 0 → memAdmits x a 4 true = false → traps (.sw x rd ra imm) 4 a) ∧
    (2 < fn.toNat → traps (.waitc x ra fn) 5 0 ∧ traps (.fence x fn) 1 0) ∧
    (1 < fn.toNat → traps (.waitt x ra fn) 1 0 ∧ traps (.waite x rd ra rb fn) 1 0) ∧
    (isPair rb = false → traps (.chramp x rd ra rb fn) 2 0)

/-- The MSS profile on a sequencer thread raises ILLEGAL with subcause PRIV (R225, R263). -/
def MssProfileOnThreads : Prop :=
  ∀ (t : Fin 64) (rd ra rb : Fin 32) (fn : BitVec 11) (s : State), s.runs (.thread t) = true →
    let traps := fun (c : Instr) => exec c s = .next ((s.took (.thread t)).illegal (.thread t) 3)
    traps (.mfsr (.thread t) rd fn) ∧ traps (.mtsr (.thread t) ra fn) ∧ traps (.tctlStart (.thread t) rd ra rb) ∧
    traps (.tctlStop (.thread t) rd ra) ∧ traps (.tctlReadState (.thread t) rd ra) ∧ traps (.eret (.thread t))

/-- An exception of a sequencer thread that is no service thread (R284, R285, R287): the first is recorded, sets its summary
bit and raises SEQ_n_EXC; a later one sets MORE alone. -/
def ThreadException : Prop :=
  ∀ (t : Fin 64) (cause sub : Nat) (epc eaddr : Word) (s : State), s.wf = true → s.isSvc t = false →
    cause < 256 → sub < 256 →
    let u := s.except (.thread t) cause sub epc eaddr
    u.thrState t = 4 ∧
    (s.get (F.SEQ_THR_EXC.VALID t) = 0 →
      u.get (excSumBit t) = 1 ∧ (∃ r ∈ u.reports, r.src = 296 + t.val / 16) ∧
      u.get (F.SEQ_THR_EXC.VALID t) = 1 ∧ u.get (F.SEQ_THR_EXC.CAUSE t) = cause ∧ u.get (F.SEQ_THR_EXC.SUB t) = sub ∧
      u.rd (R.SEQ_THR_EPC t) = epc ∧ u.rd (R.SEQ_THR_EADDR t) = eaddr) ∧
    (s.get (F.SEQ_THR_EXC.VALID t) ≠ 0 →
      u.get (excSumBit t) = s.get (excSumBit t) ∧ u.reports = s.reports ∧
      u.get (F.SEQ_THR_EXC.MORE t) = 1 ∧ u.get (F.SEQ_THR_EXC.CAUSE t) = s.get (F.SEQ_THR_EXC.CAUSE t) ∧
      u.rd (R.SEQ_THR_EPC t) = s.rd (R.SEQ_THR_EPC t) ∧ u.rd (R.SEQ_THR_EADDR t) = s.rd (R.SEQ_THR_EADDR t)) ∧
    u.mem = s.mem ∧ (∀ y, u.ctx y = s.ctx y)

/-- An exception of an MSS core saves EPC, ECAUSE and EADDR, clears STATUS bit 0 and continues at 0x1F00_0040; ERET
restores STATUS and resumes at EPC (R288), which the handler has set to the dispatch entry, 0x1F00_0000 (R298). -/
def MssExceptionAndReturn : Prop :=
  ∀ (k : Fin 2) (cause sub : Nat) (epc eaddr : Word) (s : State),
    let u := s.except (.mss k) cause sub epc eaddr
    u.mss[k].epc = epc ∧ u.mss[k].ecause = BitVec.ofNat 32 (cause * 256 + sub) ∧ u.mss[k].eaddr = eaddr ∧
    u.mss[k].status = s.mss[k].status &&& 0xFFFFFFFE ∧ u.mss[k].pc = 0x1F000040 ∧ u.mss[k].ctx = s.mss[k].ctx ∧
    (s.runs (.mss k) = true → ∃ v, exec (.eret (.mss k)) s = .next v ∧
      v.mss[k].pc = (if s.mss[k].handler then 0x1F000000 else s.mss[k].epc) ∧
      v.mss[k].status = s.mss[k].saved ∧ v.mss[k].ctx = s.mss[k].ctx ∧ v.regs = s.regs ∧ v.mem = s.mem ∧
      v.threads = s.threads) ∧
    (u.runs (.mss k) = true → ∃ v, exec (.eret (.mss k)) u = .next v ∧ v.mss[k].pc = 0x1F000000 ∧
      v.mss[k].epc = 0x1F000000 ∧ v.mss[k].status = s.mss[k].status)

/-- MFSR and MTSR (R263): EPC, ECAUSE, EADDR, STATUS and COREID by number; ECAUSE, EADDR and COREID ignore a write;
another number is reserved. -/
def MssSpecialRegisters : Prop :=
  ∀ (k : Fin 2) (rd ra : Fin 32) (fn : BitVec 11) (s : State), s.wf = true → s.runs (.mss k) = true →
    let m := s.mss[k]
    let gets := fun (fn : BitVec 11) (w : Word) => ∃ t, exec (.mfsr (.mss k) rd fn) s = .next t ∧
      Stepped (.mss k) (m.ctx.setReg rd w) (m.pc + 4) s t
    let puts := fun (fn : BitVec 11) (n : MssCore) => ∃ t, exec (.mtsr (.mss k) ra fn) s = .next t ∧
      t = { s with mss := s.mss.set k { n with pc := m.pc + 4 } }
    let a := m.ctx.reg ra
    gets 0 m.epc ∧ gets 1 m.ecause ∧ gets 2 m.eaddr ∧ gets 3 m.status ∧ gets 4 (BitVec.ofNat 32 k) ∧
    puts 0 { m with epc := a, handler := false } ∧ puts 1 m ∧ puts 2 m ∧ puts 3 { m with status := a } ∧ puts 4 m ∧
    (4 < fn.toNat → exec (.mfsr (.mss k) rd fn) s = .next (s.illegal (.mss k) 1) ∧
      exec (.mtsr (.mss k) ra fn) s = .next (s.illegal (.mss k) 1))

/-! ### Programs: waits, threads and tags -/

/-- A wait whose condition holds already goes on at once with the flags of its rule (R251 to R254); FENCE with nothing
in flight, and YIELD, only go on (R260, R261). -/
def WaitsThatCompleteAtOnce : Prop :=
  ∀ (x : Exec) (rd ra rb : Fin 32) (fn : BitVec 11) (s : State), s.wf = true → s.runs x = true →
    let goes := fun (c : Instr) (k : Ctx) => ∃ t, exec c s = .next t ∧ Stepped x k (s.pcOf x + 4) s t
    let up := fn = 0 ∨ fn = 2 ∧ s.is F.TB_STAT.DIR = false
    let n := s.rd R.TB_EXT_LO
    (fn.toNat ≤ 2 → (up → (n - s.g x ra).toNat < 2 ^ 31) → (¬up → (s.g x ra - n).toNat < 2 ^ 31) →
      s.is F.TB_STAT.HOLD = false → goes (.waitc x ra fn) { s.ctx x with late := true }) ∧
    (isPair ra = true → s.gp x ra ≤ s.dtime →
      goes (.waitt x ra 0) { s.ctx x with late := decide (s.gp x ra < s.dtime) }) ∧
    (isPair ra = true → s.gp x ra = 0 → goes (.waitt x ra 1) { s.ctx x with late := false }) ∧
    (isPair rd = true → wakeLegal (s.g x ra) = true →
      goes (.waite x rd ra rb 1)
        { (s.ctx x).setPair rd (wakePair (s.wakeOf x (bitsOf (s.g x ra) 31 24) (bitsOf (s.g x ra) 7 0)).1
            (s.wakeOf x (bitsOf (s.g x ra) 31 24) (bitsOf (s.g x ra) 7 0)).2) with
          z := (s.wakeOf x (bitsOf (s.g x ra) 31 24) (bitsOf (s.g x ra) 7 0)).1 == (s.g x rb).toNat }) ∧
    (s.handleSlot x (s.g x ra) = none →
      goes (.waitg x rd ra) { (s.ctx x).setReg rd 0x11 with z := false, late := false }) ∧
    (fn.toNat ≤ 2 → fn = 1 ∨ s.hasOps x = false → goes (.fence x fn) (s.ctx x)) ∧
    goes (.yield x) (s.ctx x)

/-- A wait whose condition does not hold yet puts the executor in its wait, with the PC at the next instruction (R251,
R252, R253, R254, R260, R268). -/
def WaitsThatWait : Prop :=
  ∀ (x : Exec) (rd ra : Fin 32) (v : Word) (s : State), s.runs x = true →
    let u := (s.took x).advance x
    (s.g x ra = v → ¬ (s.rd R.TB_EXT_LO - v).toNat < 2 ^ 31 →
      exec (.waitc x ra 0) s = .next (u.enterWait x (.count v true true) 1)) ∧
    (s.g x ra = v → ¬ (v - s.rd R.TB_EXT_LO).toNat < 2 ^ 31 →
      exec (.waitc x ra 1) s = .next (u.enterWait x (.count v false true) 1)) ∧
    (isPair ra = true → s.dtime < s.gp x ra →
      exec (.waitt x ra 0) s = .next (u.enterWait x (.time (s.gp x ra)) 2)) ∧
    (∀ rb, isPair rd = true → wakeLegal (s.g x ra) = true →
      exec (.waite x rd ra rb 0) s =
        .next ((u.enterWait x (.event (bitsOf (s.g x ra) 31 24) (bitsOf (s.g x ra) 7 0) (bitsOf (s.g x rb) 15 0) rd) 3).wakeThr x)) ∧
    (∀ slot, s.handleSlot x (s.g x ra) = some slot → s.tagWord x slot = none →
      exec (.waitg x rd ra) s = .next (u.enterWait x (.tag slot rd) 4)) ∧
    (s.is F.TB_STAT.HOLD = true →
      exec (.waitc x ra 0) s = .next (u.enterWait x (.count (s.g x ra) true (!reached true (s.g x ra) s.count)) 1)) ∧
    (s.hasOps x = true → exec (.fence x 0) s = .next (u.enterWait x (.fence 0) 5) ∧
      exec (.fence x 2) s = .next (u.enterWait x (.fence 2) 5)) ∧
    (∀ t : Fin 64, s.wf = true → x = .thread t → ∀ w wk, wk < 8 →
      (u.enterWait x w wk).thrState t = 2 ∧ (u.enterWait x w wk).get (F.SEQ_THR_STAT.WKIND t) = wk ∧
      (u.enterWait x w wk).waitOf x = w ∧ (u.enterWait x w wk).pcOf x = s.pcOf x + 4)

/-- WAITG with a DONE tag: rd takes the completion word, Z whether its status is OK, LATE its bit 8; the tag is FREE
(R254). -/
def WaitgTakesTheWord : Prop :=
  ∀ (t : Fin 64) (rd ra : Fin 32) (slot : Fin 64) (w : Word) (s : State), s.wf = true → s.runs (.thread t) = true →
    s.handleSlot (.thread t) (s.g (.thread t) ra) = some slot → s.threads[t].tags[slot] = .done w →
    ∃ u, exec (.waitg (.thread t) rd ra) s = .next u ∧ u.threads[t].tags[slot] = .free ∧
      u.threads[t].ctx = { s.threads[t].ctx.setReg rd w with z := bitsOf w 7 0 == 0, late := bitOf w 8 } ∧
      u.pcOf (.thread t) = s.pcOf (.thread t) + 4 ∧ (∀ i : Fin 64, i ≠ slot → u.threads[t].tags[i] = s.threads[t].tags[i]) ∧
      (∀ k, k ≠ t → u.threads[k] = s.threads[k]) ∧ u.mem = s.mem ∧ u.mss = s.mss

/-- HALT stops a thread: its state is HALTED, its DONE tags are FREE and the words of its operations will be discarded
(R262, R271); on an MSS core it waits. -/
def Halt : Prop :=
  ∀ s : State, s.wf = true →
    (∀ t : Fin 64, s.runs (.thread t) = true → ∃ u, exec (.halt (.thread t)) s = .next u ∧ u.thrState t = 3 ∧
      u.get (F.SEQ_THR_STAT.WKIND t) = 0 ∧ u.pcOf (.thread t) = s.pcOf (.thread t) + 4 ∧
      u.ctx (.thread t) = s.ctx (.thread t) ∧
      (∀ i : Fin 64, u.threads[t].tags[i] = match s.threads[t].tags[i] with
        | .done _ => .free
        | .out _ => .out true
        | .free => .free) ∧ u.mem = s.mem ∧ u.ops = s.ops) ∧
    (∀ k : Fin 2, s.runs (.mss k) = true → ∃ u, exec (.halt (.mss k)) s = .next u ∧ u.mss[k].wait = .halt ∧
      u.mss[k].pc = s.mss[k].pc + 4 ∧ u.regs = s.regs ∧ u.mem = s.mem)

/-- TCTL (R269, R270): START of a thread that is IDLE, HALTED or stopped with no operation in flight; STOP; READ STATE. -/
def ThreadControl : Prop :=
  ∀ (k : Fin 2) (rd ra rb : Fin 32) (t : Fin 64) (s : State), s.runs (.mss k) = true →
    (s.g (.mss k) ra).toNat = t.val →
    let x := Exec.mss k
    let ends := fun (c : Instr) (u : State) (w : Word) => exec c s = .next ((u.setG x rd w).advance x)
    (fetchable (s.g x rb).toNat = true → s.clusterOff (t / 16) = false → s.noPair t = false →
      s.thrLive t = false → s.opsOf t = [] →
      ends (.tctlStart x rd ra rb) (s.startThr t (s.g x rb) (s.rd (R.SEQ_THR_ARG t))) 0) ∧
    (fetchable (s.g x rb).toNat = false → ends (.tctlStart x rd ra rb) s 0x11) ∧
    (s.thrState t = 1 ∨ s.thrState t = 2 → ends (.tctlStop x rd ra) (s.stopThr t 3) 0) ∧
    ends (.tctlReadState x rd ra) s (s.thrStatWord t)

/-- What the start of a thread sets (R269): READY at its PC, g2 the argument, every other register and flag 0, the
exception record and WAKE and FIRE counters cleared. -/
def ThreadStart : Prop :=
  ∀ (t : Fin 64) (pc arg : Word) (s : State), s.wf = true →
    let u := s.startThr t pc arg
    u.thrState t = 1 ∧ u.pcOf (.thread t) = pc ∧ u.threads[t].ctx.reg 2 = arg ∧
    (∀ r, r ≠ 2 → u.threads[t].ctx.reg r = 0) ∧
    u.threads[t].ctx.z = false ∧ u.threads[t].ctx.n = false ∧ u.threads[t].ctx.cy = false ∧
    u.threads[t].ctx.v = false ∧ u.threads[t].ctx.late = false ∧ u.threads[t].wait = .none ∧
    u.rd (R.SEQ_THR_EXC t) = 0 ∧ u.rd (R.SEQ_THR_EPC t) = 0 ∧ u.rd (R.SEQ_THR_EADDR t) = 0 ∧
    u.get (excSumBit t) = 0 ∧ u.threads[t].wakeCnt = 0 ∧ u.threads[t].fireCnt = 0 ∧ u.mem = s.mem

/-- A posting instruction with a FREE tag (R235, R272, R273, R275): one FREE slot is taken and its generation counts up;
the operation leaves for its unit with the PC of its instruction; rd takes the handle; the PC advances; the rest stays. -/
def PostingTakesATag : Prop :=
  ∀ (rd : Fin 32) (unit : Unit') (kind : OpKind) (s : State), s.wf = true →
    (∀ t : Fin 64, s.freeTags (.thread t) ≠ [] → ∃ slot : Fin 64, slot.val ∈ s.freeTags (.thread t) ∧
      let u := s.post (.thread t) rd unit kind
      let gen := (s.threads[t].gens[slot] + 1) % 256
      u.ops = s.ops ++ [{ who := .thread t slot, unit := unit, kind := kind, pc := s.pcOf (.thread t) }] ∧
      u.threads[t].tags[slot] = .out (decide (rd = 0)) ∧ u.threads[t].gens[slot] = gen ∧
      u.threads[t].ctx = s.threads[t].ctx.setReg rd (BitVec.ofNat 32 (gen * 4096 + t.val * 64 + slot.val)) ∧
      u.pcOf (.thread t) = s.pcOf (.thread t) + 4 ∧
      (∀ i : Fin 64, i ≠ slot → u.threads[t].tags[i] = s.threads[t].tags[i]) ∧
      (∀ r, r ≠ R.SEQ_THR_PC t → u.rd r = s.rd r) ∧ u.mem = s.mem ∧ (∀ k, k ≠ t → u.threads[k] = s.threads[k])) ∧
    (∀ k : Fin 2, s.freeTags (.mss k) ≠ [] → ∃ slot : Fin 16, slot.val ∈ s.freeTags (.mss k) ∧
      let u := s.post (.mss k) rd unit kind
      let gen := (s.mss[k].gens[slot] + 1) % 256
      u.ops = s.ops ++ [{ who := .mss k slot, unit := unit, kind := kind, pc := s.mss[k].pc }] ∧
      u.mss[k].tags[slot] = .out (decide (rd = 0)) ∧ u.mss[k].gens[slot] = gen ∧
      u.mss[k].ctx = s.mss[k].ctx.setReg rd (BitVec.ofNat 32 (2 ^ 20 + gen * 4096 + k.val * 64 + slot.val)) ∧
      u.mss[k].pc = s.mss[k].pc + 4 ∧ u.regs = s.regs ∧ u.mem = s.mem ∧ u.threads = s.threads)

/-- No FREE tag (R274, R275): TRAP and DEADLOCK raise the tag exception; STALL with an operation posted to g0 waits with
WKIND TAG at the same instruction; an MSS core traps. Nothing is posted. -/
def PostingWithoutATag : Prop :=
  ∀ (x : Exec) (rd : Fin 32) (unit : Unit') (kind : OpKind) (s : State), s.freeTags x = [] →
    (∀ t, x = .thread t → s.is (F.SEQ_THR_CFG.TAGX t) = true →
      s.post x rd unit kind = s.except x 2 1 (s.pcOf x) 0) ∧
    (∀ t, x = .thread t → s.is (F.SEQ_THR_CFG.TAGX t) = false → s.hasDiscard t = false →
      s.post x rd unit kind = s.except x 2 2 (s.pcOf x) 0) ∧
    (∀ t, x = .thread t → s.is (F.SEQ_THR_CFG.TAGX t) = false → s.hasDiscard t = true →
      s.post x rd unit kind = s.enterWait x .stall 6) ∧
    (∀ k, x = .mss k → s.post x rd unit kind = s.except x 2 1 (s.pcOf x) 0)

/-- The posting instructions on channels (R240 to R246): operands read at issue; a channel above 23 or an operand the
rule calls invalid posts an operation that completes with BAD_ARG. -/
def ChannelPostings : Prop :=
  ∀ (x : Exec) (rd ra rb : Fin 32) (fn : BitVec 11) (s : State), s.runs x = true →
    let n := (s.g x ra).toNat
    let b := s.g x rb
    let u := s.took x
    let posts := fun (c : Instr) (k : OpKind) => exec c s = .next (u.post x rd (.chan n) k)
    let bad := fun (c : Instr) => exec c s = .next (u.post x rd .hub .bad)
    (n < 24 →
      (fn.toNat ≤ 9 → posts (.chset x rd ra rb fn) (.chset fn.toNat b)) ∧
      (fn.toNat ≤ 3 → isPair rb = true → posts (.chramp x rd ra rb fn) (.chramp fn.toNat b (s.g x (pairHi rb)))) ∧
      (fn.toNat < 128 → posts (.chmode x rd ra rb fn) (.chmode fn.toNat b)) ∧
      (b.toNat < 4 → posts (.chgang x rd ra rb) (.chgang b.toNat)) ∧
      (measOk fn.toNat = true → bufOk b.toNat 24 = true → posts (.meas x rd ra rb fn) (.meas fn.toNat b.toNat)) ∧
      (capOk b = true → posts (.captStart x rd ra rb) (.capStart b)) ∧
      posts (.captStop x rd ra rb) .capStop ∧
      (bufOk b.toNat 128 = true → posts (.statRead x rd ra rb) (.statRead b.toNat)) ∧
      posts (.statStart x rd ra rb) .statStart ∧ posts (.statStop x rd ra rb) .statStop) ∧
    (24 ≤ n → bad (.chset x rd ra rb fn) ∧ bad (.chmode x rd ra rb fn) ∧ bad (.chgang x rd ra rb) ∧
      bad (.meas x rd ra rb fn) ∧ bad (.captStart x rd ra rb) ∧ bad (.captStop x rd ra rb) ∧
      bad (.statRead x rd ra rb) ∧ bad (.statStart x rd ra rb) ∧ bad (.statStop x rd ra rb)) ∧
    (9 < fn.toNat → bad (.chset x rd ra rb fn)) ∧ (128 ≤ fn.toNat → bad (.chmode x rd ra rb fn)) ∧
    (4 ≤ b.toNat → bad (.chgang x rd ra rb)) ∧ (measOk fn.toNat = false → bad (.meas x rd ra rb fn))

/-- The posting instructions on events, rings, ports and faults (R247 to R250, R255 to R259). -/
def HubPostings : Prop :=
  ∀ (x : Exec) (rd ra rb : Fin 32) (s : State), s.runs x = true →
    let n := (s.g x ra).toNat
    let a := (s.g x rb).toNat
    let v := s.took x
    let posts := fun (c : Instr) (u : Unit') (k : OpKind) => exec c s = .next (v.post x rd u k)
    let bad := fun (c : Instr) => exec c s = .next (v.post x rd .hub .bad)
    (bufOk n 32 = true → s.bufFenced n 32 = false →
      posts (.sched x rd ra) .hub (.sched (s.ldWords n 8)) ∧ posts (.arm x rd ra) .hub (.arm (s.ldWords n 8))) ∧
    (bufOk n 32 = false → bad (.sched x rd ra) ∧ bad (.arm x rd ra)) ∧
    posts (.disarm x rd ra) .hub (.disarm n) ∧
    (n < 4096 → bufOk a 1 = true →
      posts (.qpush x rd ra rb) (.ring n) (.qpush a) ∧ posts (.qpop x rd ra rb) (.ring n) (.qpop a)) ∧
    (4096 ≤ n → bad (.qpush x rd ra rb) ∧ bad (.qpop x rd ra rb)) ∧
    (bufOk n 32 = true → s.bufFenced n 32 = true →
      exec (.sched x rd ra) s = .next (v.post x rd .hub .bad (some (cword 0x30))) ∧
      exec (.arm x rd ra) s = .next (v.post x rd .hub .bad (some (cword 0x30)))) ∧
    (∀ p : Fin 8, n = p.val → bufOk a 64 = true →
      let toPort := fun (c : Instr) (k : OpKind) => exec c s = .next ((v.post x rd (.port p) k).pdGo p)
      toPort (.pdmsgSend x rd ra rb) (.pdSend a (s.ldWords a 8)) ∧ toPort (.pdmsgRecv x rd ra rb) (.pdRecv a) ∧
      toPort (.pdvdmStructured x rd ra rb) (.vdmReq a (s.ldWords a 8)) ∧
      toPort (.pdvdmUnstructured x rd ra rb) (.vdmSend a (s.ldWords a 8)) ∧
      toPort (.pdvdmRecv x rd ra rb) (.vdmRecv a)) ∧
    (8 ≤ n → bad (.pdmsgSend x rd ra rb) ∧ bad (.pdmsgRecv x rd ra rb) ∧ bad (.pdvdmStructured x rd ra rb) ∧
      bad (.pdvdmUnstructured x rd ra rb) ∧ bad (.pdvdmRecv x rd ra rb)) ∧
    (n < 384 → a % 64 = 0 → bufOk a 64 = true → posts (.fltrd x rd ra rb) .coll (.fltrd n a)) ∧
    (384 ≤ n → bad (.fltrd x rd ra rb) ∧ bad (.fltforcePulse x rd ra) ∧ bad (.fltforceHold x rd ra) ∧
      bad (.fltforceRelease x rd ra)) ∧
    (n < 384 → s.mayForce x = true →
      let force := fun (op : Nat) => v.post x rd .coll (.force n op)
      exec (.fltforcePulse x rd ra) s = .next ((force 0).collGo (force 0).ops.length) ∧
      exec (.fltforceHold x rd ra) s = .next ((force 1).collGo (force 1).ops.length) ∧
      exec (.fltforceRelease x rd ra) s = .next ((force 2).collGo (force 2).ops.length)) ∧
    (n < 384 → s.mayForce x = false →
      exec (.fltforcePulse x rd ra) s = .next (v.post x rd .coll .bad (some (cword 0x40))) ∧
      exec (.fltforceHold x rd ra) s = .next (v.post x rd .coll .bad (some (cword 0x40))) ∧
      exec (.fltforceRelease x rd ra) s = .next (v.post x rd .coll .bad (some (cword 0x40))))

/-- A completed operation of a thread leaves the table of operations, and its tag becomes DONE with the word, or FREE
where rd was g0 (R273, R276), when nothing waits for it, no exception follows and no force operation waits behind it. -/
def OperationCompletion : Prop :=
  ∀ (t : Fin 64) (slot : Fin 64) (o : Op) (w : Word) (s : State),
    s.ops.find? (fun o => o.who == .thread t slot) = some o → o.word = some w → (∀ n op, o.kind ≠ .force n op) →
    let v := State.collGo { s with ops := s.ops.filter fun p => p.who != .thread t slot } s.ops.length
    exec (.operationCompletion (.thread t slot)) s = .next (v.deliver (.thread t) slot o w) ∧
    (s.threads[t].wait = .none → complCause o w = none → (∀ p ∈ s.ops, p.unit = .coll → p.word ≠ none) →
    ∃ u, exec (.operationCompletion (.thread t slot)) s = .next u ∧
      u.ops = s.ops.filter (fun p => p.who != .thread t slot) ∧
      (s.threads[t].tags[slot] = .out false → u.threads[t].tags[slot] = .done w) ∧
      (s.threads[t].tags[slot] = .out true → u.threads[t].tags[slot] = .free) ∧
      (∀ i : Fin 64, i ≠ slot → u.threads[t].tags[i] = s.threads[t].tags[i]) ∧
      u.ctx (.thread t) = s.ctx (.thread t) ∧ u.regs = s.regs ∧ u.mem = s.mem ∧
      (∀ k, k ≠ t → u.threads[k] = s.threads[k]))

/-- A completion with FENCED is recorded and the thread goes on under RECORD; under STOP a live thread stops with it
(R286). -/
def FencedCompletion : Prop :=
  ∀ (t : Fin 64) (o : Op) (w : Word) (s : State), bitsOf w 7 0 = 0x30 →
    (s.is (F.SEQ_THR_CFG.OPX t) = false →
      s.complExc (.thread t) o w = s.recordExc t 4 0 (s.pcOf (.thread t)) o.pc) ∧
    (s.is (F.SEQ_THR_CFG.OPX t) = true → s.thrLive t = true →
      s.complExc (.thread t) o w = s.thrExcept t 4 0 (s.pcOf (.thread t)) o.pc)

/-- Clearing a thread's bit of SEQ_EXC_SUM clears VALID and MORE (R287); the other threads keep theirs. -/
def ExceptionSummaryClear : Prop :=
  ∀ (rq : Requester) (hi : Bool) (w : Word) (s : State), s.wf = true → canWrite rq R.SEQ_EXC_SUM_LO = true →
    ∃ u, exec (.excSumClear rq hi w) s = .next u ∧ ∀ t : Fin 64,
      (decide (32 ≤ t.val) = hi → bitOf w (t.val % 32) = true →
        u.get (excSumBit t) = 0 ∧ u.get (F.SEQ_THR_EXC.VALID t) = 0 ∧ u.get (F.SEQ_THR_EXC.MORE t) = 0) ∧
      (decide (32 ≤ t.val) ≠ hi ∨ bitOf w (t.val % 32) = false →
        u.get (excSumBit t) = s.get (excSumBit t) ∧ u.rd (R.SEQ_THR_EXC t) = s.rd (R.SEQ_THR_EXC t))

/-- A fenced pair (R291): its slot moves to the spare pair and the slot's threads migrate; with no spare its threads are
LOST. MIGRATION_DONE returns the threads of a slot to the state their contexts record. -/
def PairFencing : Prop :=
  ∀ (n : Fin 4) (p q : Fin 5) (sl : Fin 4) (s : State), s.get (pairFld n p) < 2 →
    (List.range 4).find? (fun k => s.get (slotFld n k) == p.val) = some sl.val →
    let f := s.set (pairFld n p) 2
    ((List.range 5).find? (fun k => f.get (pairFld n k) == 1) = some q.val →
      exec (.pairFence n p) s = .next ((State.forSlot ((((f.set (pairFld n q) 0).set (slotFld n sl) q).inc
        (F.SEQ_CL_EVT.MIGR n))) n sl State.migrateThr).assertL (300 + n) 1 p)) ∧
    ((List.range 5).find? (fun k => f.get (pairFld n k) == 1) = none →
      exec (.pairFence n p) s =
        .next (((State.forSlot (f.set (slotFld n sl) 7) n sl fun s t => s.loseThr t).assertL (300 + n) 2 p).updSlow)) ∧
    (∀ t : Fin 64, s.thrState t = 5 → s.threads[t].stopReq = false →
      s.resumeThr t = s.setThrState t s.threads[t].back s.threads[t].backK) ∧
    exec (.migrationDone n sl) s = .next (s.forSlot n sl State.resumeThr)

/-- The scrubber (R485): a clean word changes nothing; an uncorrectable one is known to later reads, and its bank's source
is raised. -/
def Scrubber : Prop :=
  ∀ (a : Nat) (s : State), inQueue a = true → s.bankOn a = true →
    exec (.sramScrub a 0) s = .next s ∧
    (∃ u, exec (.sramScrub a 1) s = .next u ∧ u.ue = s.ue ∧ u.regs = s.regs ∧ u.mem = s.mem ∧
      ∃ r ∈ u.reports, r.src = 288 + bankOf a ∧ r.cond = 1) ∧
    (∃ u, exec (.sramScrub a 2) s = .next u ∧ u.ue.contains (a / 8) = true ∧ u.regs = s.regs ∧ u.mem = s.mem ∧
      ∃ r ∈ u.reports, r.src = 288 + bankOf a ∧ r.cond = 2)

/-! ### Timebase -/

/-- A transition of a source (R31, R34, R35): an encoder's level is accepted once stable for FILT samples; an illegal one only
counts in QERR and raises the source's fault; over-rate clears QUAL and is raised once. A transition of the selected source
moves the count by one, DIR and the epoch following (R39); a held TBC keeps its value, and so it does until step 5 of boot
is over (R492). -/
def CountedSteps : Prop :=
  ∀ (s : State) (st : CountStep),
    let sel := s.get F.TB_CTRL.SRC = st.src.val
    (st.src ≠ 1 → st.src ≠ 2 → s.feedsChain st.src = false →
      (¬ sel ∨ s.stands = true → exec (.countedStep st) s = .next s) ∧
      (sel → s.stands = false →
        (st.src = 0 ∨ st.src = 5 → exec (.countedStep st) s = .next (s.stepCount false)) ∧
        (st.src = 3 → exec (.countedStep st) s = .next s.mainsStep) ∧
        (st.src = 4 → exec (.countedStep st) s = .next (if s.leads then s.coast else s)))) ∧
    (∀ n : Fin 2, st.src.val = n.val + 1 →
      let q := if st.overrate then s.overrateAt n else s
      let down := st.down != s.is (F.SRC_CFG.INVERT n)
      (st.stable < s.get (F.SRC_CFG.FILT n) → exec (.countedStep st) s = .next s) ∧
      (s.get (F.SRC_CFG.FILT n) ≤ st.stable →
        (st.illegal = true → exec (.countedStep st) s = .next ((s.inc (F.SRC_CNT.QERR n)).raise (333 + n) 1)) ∧
        (st.illegal = false → s.feedsChain st.src = false →
          (sel → s.stands = false → exec (.countedStep st) s = .next (q.stepCount down)) ∧
          (¬ sel ∨ s.stands = true → exec (.countedStep st) s = .next q)) ∧
        (st.illegal = false → s.feedsChain st.src = true → ¬ sel → exec (.countedStep st) s =
          .next (q.chainRecord { stamp := s.ctime, jump := false, down := down })))) ∧
    (s.stands = false ↔ s.tb.held = false ∧ 6 ≤ s.get F.BOOT_STAT.STEP ∧ s.boot.por = false ∧ s.boot.pin = false) ∧
    (∀ down : Bool, s.stepCount down =
      let n := if down then s.count - 1 else s.count + 1
      ((((s.setb F.TB_STAT.DIR down).setCount s.count n (!down)).bucketMove s.count (if down then -1 else 1) false).tickOut
        down n).arrive s.count n 0 (!down)) ∧
    (∀ (o n : Word) (fwd : Bool), s.wf = true →
      let u := s.setCount o n fwd
      u.rd R.TB_EXT_LO = n ∧
      u.rd R.TB_EXT_HI = (if fwd = true ∧ n.toNat < o.toNat then s.rd R.TB_EXT_HI + 1
        else if fwd = false ∧ o.toNat < n.toNat then s.rd R.TB_EXT_HI - 1 else s.rd R.TB_EXT_HI) ∧
      (∀ a, a ≠ R.TB_EXT_LO → a ≠ R.TB_EXT_HI → u.rd a = s.rd a))

/-- TICK_OUT (R542): one pulse for each counted up-step, on INTERNAL for each that makes the count a multiple of 4; none for a
down-step, before step 5 of boot, in reset, or while dispatch is frozen. -/
def TickOutPulses : Prop :=
  ∀ (s : State) (down : Bool) (n : Word),
    let live := s.is F.TB_STAT.HOLD = false ∧ 5 ≤ s.get F.BOOT_STAT.STEP ∧ s.boot.por = false ∧ s.boot.pin = false
    (down = false → live → (s.get F.TB_CTRL.SRC ≠ 0 ∨ n.toNat % 4 = 0) →
      s.tickOut down n = { s with tb := { s.tb with ticks := s.tb.ticks + 1 } }) ∧
    (down = true ∨ ¬ live ∨ (s.get F.TB_CTRL.SRC = 0 ∧ n.toNat % 4 ≠ 0) → s.tickOut down n = s)

/-- Qualification (R32 to R36): loss of the active source holds the TBC and raises TB_SRC_LOST; a source that qualifies
again counts on; over-rate alone acts on QUAL alone. -/
def SourceQualification : Prop :=
  ∀ (s : State) (src : Fin 6) (n : Fin 2) (freq : Nat),
    let locked := (((s.set F.MAINS_STAT.LOCK 1).set F.MAINS_STAT.HOLDOVER 0).set F.MAINS_STAT.FREQ freq).gainQual 3
    exec (.sourceQualLost 0) s = .next s ∧
    exec (.sourceQualLost 3) s = .next (((s.set F.MAINS_STAT.LOCK 0).set F.MAINS_STAT.HOLDOVER 0).loseQual 3) ∧
    exec (.sourceQualLost 4) s = .next (s.loseQual 4) ∧
    (src = 1 ∨ src = 2 ∨ src = 5 →
      (∃ u, exec (.sourceQualLost src) s = .next (State.loseQual u src) ∧ u.tb.invalid.contains src.val = true ∧
        { u with tb := s.tb } = s) ∧
      (s.tb.overrate = [] → ∃ u, exec (.differentialInputValid src) s = .next (State.gainQual u src) ∧
        u.tb.invalid.contains src.val = false ∧ { u with tb := s.tb } = s)) ∧
    (s.get F.TB_CTRL.SRC = src.val → (s.loseQual src).tb.held = true ∧ (s.gainQual src).tb.held = false) ∧
    (s.get F.TB_CTRL.SRC ≠ src.val → s.loseQual src = s.set (qualFld src) 0 ∧ s.gainQual src = s.set (qualFld src) 1) ∧
    (s.tb.overrate.contains (n.val + 1) = true → ∃ u, exec (.overrateClear n) s = .next u ∧
      u.tb.overrate.contains (n.val + 1) = false ∧ u.tb.held = s.tb.held ∧
      (s.tb.invalid.contains (n.val + 1) = false → s.wf = true → u.get (qualFld (n.val + 1)) = 1)) ∧
    exec (.mainsPllLock freq) s =
      .next (if s.is F.MAINS_STAT.LOCK then locked else { locked with tb := { locked.tb with reacq := true } }) ∧
    (s.is F.MAINS_STAT.LOCK = true →
      exec .mainsHoldoverEntry s = .next ((s.set F.MAINS_STAT.LOCK 0).set F.MAINS_STAT.HOLDOVER 1)) ∧
    (s.is F.MAINS_STAT.HOLDOVER = true → exec .mainsHoldoverExpiry s = .next (s.loseQual 3))

/-- A rising zero crossing (R36): FREQ follows; it ends a holdover; a count held for want of the mains is aligned, by a slew
up to STEP_THR x 1,024 counts and else by one jump; the locked PLL slews an error above 64 counts. -/
def MainsCrossings : Prop :=
  ∀ (s : State) (freq : Nat),
    let u := s.set F.MAINS_STAT.FREQ freq
    let q := ((u.set F.MAINS_STAT.HOLDOVER 0).set F.MAINS_STAT.LOCK 1).gainQual 3
    let r : State := { q with tb := { q.tb with reacq := true } }
    let goes := fun (t : State) => exec (.mainsZeroCrossing freq) s = .next t
    (s.is F.MAINS_STAT.HOLDOVER = true → goes (if r.get F.TB_CTRL.SRC = 3 then r.reacquire else r)) ∧
    (s.is F.MAINS_STAT.HOLDOVER = false →
      (u.get F.TB_CTRL.SRC ≠ 3 → goes u) ∧
      (u.get F.TB_CTRL.SRC = 3 → u.tb.reacq = true → goes u.reacquire) ∧
      (u.get F.TB_CTRL.SRC = 3 → u.tb.reacq = false →
        goes (if u.is F.MAINS_STAT.LOCK then u.trackPhase else u))) ∧
    (s.phaseError.natAbs ≤ s.get F.MAINS_CFG.STEP_THR * 1024 →
      s.reacquire.tb.slew = s.phaseError ∧ s.reacquire.regs = s.regs ∧ s.reacquire.records = s.records) ∧
    (s.get F.MAINS_CFG.STEP_THR * 1024 < s.phaseError.natAbs →
      ∃ v : State, s.reacquire = v.jumpBy s.phaseError false ∧ v.tb.slew = 0 ∧ { v with tb := s.tb } = s) ∧
    (s.tb.slew = 0 → s.phaseError.natAbs ≤ 64 → s.trackPhase = s) ∧
    (64 < s.phaseError.natAbs → s.trackPhase.tb.slew = s.phaseError ∧ s.trackPhase.regs = s.regs)

/-- TB_CTRL (R33, R53): a change of source keeps the count; an unqualified or reserved source, and a grain while the
calendar holds records, are refused with CFG_REJ; a new grain puts the walker's front K buckets ahead (R59). -/
def TimebaseControl : Prop :=
  ∀ (rq : Requester) (w : Word) (s : State), canWrite rq R.TB_CTRL = true →
    let g := bitsOf w 13 10
    let src := bitsOf w 2 0
    let s1 := s.set F.TB_CTRL.K_M1 (bitsOf w 23 14)
    (g = s.get F.TB_CTRL.G → src = s.get F.TB_CTRL.SRC → exec (.tbCtrlWrite rq w) s = .next s1) ∧
    (g ≠ s.get F.TB_CTRL.G → src = s.get F.TB_CTRL.SRC →
      (g ≤ 14 → s.calEmpty = true → exec (.tbCtrlWrite rq w) s = .next ((s1.set F.TB_CTRL.G g).rebaseWalk) ∧
        (s1.set F.TB_CTRL.G g).rebaseWalk.tb.lead = s.tb.walkK) ∧
      (14 < g ∨ s.calEmpty = false → exec (.tbCtrlWrite rq w) s = .next (s1.set F.TB_STAT.CFG_REJ 1))) ∧
    (g = s.get F.TB_CTRL.G → src ≠ s.get F.TB_CTRL.SRC → 5 < src ∨ s.get (qualFld src) ≠ 1 →
      exec (.tbCtrlWrite rq w) s = .next (s1.set F.TB_STAT.CFG_REJ 1)) ∧
    (g = s.get F.TB_CTRL.G → src ≠ s.get F.TB_CTRL.SRC → src ≤ 5 → s.get (qualFld src) = 1 → ∃ u : State,
      exec (.tbCtrlWrite rq w) s = .next ((State.farCheck (u.deassertL 332 1)).updLag) ∧
      u.tb.held = false ∧ u.tb.slew = 0 ∧ u.regs = (s1.set F.TB_CTRL.SRC src).regs ∧ u.records = s.records)

/-- The outcome of an honoured index (R47, R48, R49): IDX_ERR takes the error; within the tolerance the count jumps
silently; outside it SNAP jumps, HOLD freezes dispatch and raises TB_IDX_HOLD, TRUST logs; one not honoured, or not yet stable
for FILT samples (R35), does nothing. -/
def IndexOutcomes : Prop :=
  ∀ (i : Fin 3) (a b down silent : Bool) (n : Nat) (s : State),
    let c := s.idxCount
    let e := indexError (s.rd (R.IDX_VAL i)) c (s.rd (R.IDX_PERIOD i))
    let u := s.wr (R.IDX_ERR i) (BitVec.ofInt 32 e)
    let v := u.inc (F.SRC_CNT.OUTSIDE i)
    let out := (u.get (F.IDX_TOL.TOL i) : Int) < e.natAbs
    let goes := fun (t : State) => exec (.indexPulse i a b ⟨down, n⟩) s = .next t
    (i ≠ 2 → n < s.get (F.SRC_CFG.FILT i) → goes s) ∧
    (s.honoured i a b down = false → goes s) ∧
    (s.honoured i a b down = true → i = 2 ∨ s.get (F.SRC_CFG.FILT i) ≤ n →
      (u.is F.TB_STAT.HOLD = true → goes (if out then v else u)) ∧
      (u.is F.TB_STAT.HOLD = false →
        (e = 0 → goes u) ∧
        (e ≠ 0 → ¬ out → goes ((u.inc (F.SRC_CNT.SILENT i)).idxJump i e true)) ∧
        (e ≠ 0 → out → u.get (F.SRC_CFG.POLICY i) = 0 → goes (v.idxJump i e false)) ∧
        (e ≠ 0 → out → u.get (F.SRC_CFG.POLICY i) = 1 →
          goes (((v.set F.TB_STAT.HOLD 1).set F.TB_STAT.HOLD_SRC (srcOfIdx i)).assertL 332 2 i)) ∧
        (e ≠ 0 → out → 1 < u.get (F.SRC_CFG.POLICY i) → v.get (F.SRC_CFG.POLICY i) = u.get (F.SRC_CFG.POLICY i) →
          ∃ k, goes (v.fresh.2.log k [BitVec.ofNat 32 i, c, BitVec.ofInt 32 e])))) ∧
    (s.get F.TB_CTRL.SRC = srcOfIdx i → s.feedsChain (srcOfIdx i) = false → s.idxJump i e silent = s.jumpBy e silent) ∧
    (e ≠ 0 → s.jumpBy e silent =
      ((s.setCount s.count (s.count + BitVec.ofInt 32 e) (decide (0 < e))).bucketMove s.count e true).arrive s.count
        (s.count + BitVec.ofInt 32 e) (if silent then 2 else 1) (decide (0 < e)))

/-- The error of an index (R47): the signed difference, or with a period the nearest expected value, a tie forward. -/
def IndexError : Prop :=
  ∀ (v c p : Word),
    indexError v c 0 = (v - c).toInt ∧
    (p ≠ 0 → p.toNat < 2 ^ 31 →
      let r := (v - c).toInt % (p.toNat : Int)
      indexError v c p = if (p.toNat : Int) / 2 < r then r - p.toNat else r)

/-- TB_RELEASE (R49): with no freeze it has no effect. It ends the freeze: with SNAP the count first jumps by the latest error
of the index in HOLD_SRC; then HOLD and HOLD_SRC are 0, TB_IDX_HOLD ends, what was reached fires in compare order, waits of
WAITC end, and held sweep steps are applied. -/
def ReleaseOfTheFreeze : Prop :=
  ∀ (rq : Requester) (snap : Bool) (s : State), canWrite rq R.TB_RELEASE = true →
    let e := match idxOfSrc (s.get F.TB_STAT.HOLD_SRC) with
      | some i => s.geti (F.IDX_ERR.ERR i)
      | none => 0
    let j := if snap then s.jumpBy e false else s
    let u := ((j.set F.TB_STAT.HOLD 0).set F.TB_STAT.HOLD_SRC 0).deassertL 332 2
    (s.is F.TB_STAT.HOLD = false → exec (.tbReleaseGo rq snap) s = .next s) ∧
    (s.is F.TB_STAT.HOLD = true → exec (.tbReleaseGo rq snap) s =
      .next (allCh.foldl (fun s c => s.sweepCheck s.count s.count 1 c)
        (allExec.foldl (fun s x => s.waitcCheck s.count 1 x) u.releaseFires.heldSpans))) ∧
    (s.is F.TB_STAT.HOLD = true → snap = false → s.records = [] → (∀ x, s.waitOf x = .none) →
      (∀ c : Fin 24, u.is (F.MS_SWP_CTRL.RUN c) = false) → exec (.tbReleaseGo rq snap) s = .next u)

/-- The walker and the overflow list (R46, R57 to R59, R65): nothing moves while dispatch is frozen; a turn of the direction of
travel turns the window; else a bucket that a jump skipped is visited, or the front moves on by one while it lies fewer than K
ahead. SCHED, ARM and DISARM are executed in the order of their arrival; the first waiting record whose slots are free is
armed. -/
def WalkerSteps : Prop :=
  ∀ s : State,
    let goes := fun (u : State) => exec .walkerBucketStep s = .next u.updLag
    let waits := s.inOrder s.count (s.records.filter fun r => r.place == .overflow)
    (s.is F.TB_STAT.HOLD = true → exec .walkerBucketStep s = .next s) ∧
    (s.is F.TB_STAT.HOLD = false → s.dirDown ≠ s.tb.walkDown →
      goes (s.turnWalk.visit (s.turnWalk.bucketOf s.turnWalk.count))) ∧
    (s.is F.TB_STAT.HOLD = false → s.dirDown = s.tb.walkDown →
      let u := s.settleWalk
      (∀ p l, u.tb.spans = p :: l → goes (u.walkSpan p l)) ∧
      (u.tb.spans = [] → u.tb.lead < u.tb.walkK →
        goes ((u.setLead (u.tb.lead + 1)).visit ((u.setLead (u.tb.lead + 1)).get F.TB_WALK.FRONT))) ∧
      (u.tb.spans = [] → (u.tb.walkK : Int) ≤ u.tb.lead → goes u)) ∧
    (∀ r : Record, (s.calDue r = false → s.promote r = if s.promotable r then s.armRec r (s.effUp r) else s) ∧
      (s.calDue r = true → r.held = true → s.promote r = s.fireRec r true 3)) ∧
    exec .walkerSchedDisarm s = .next (s.hubOps (s.ops.filter fun o => o.unit == .hub && o.word.isNone)) ∧
    (∀ r, waits.find? (fun r => s.slotsFree r) = some r → exec .overflowArm s = .next { s with
      records := s.records.map fun x => if x.idx == r.idx then { x with place := .armed } else x }) ∧
    (waits.find? (fun r => s.slotsFree r) = none → exec .overflowArm s = .next s)

/-- A fire report that reaches the hub (R56, R67): the last one returns its record to the pool; with NOTIFY the owner's
FIRE occurs, and the requester of a record placed by command gets its notice. -/
def FireReports : Prop :=
  ∀ (f : FireRep) (l : List FireRep) (s : State), s.fireReps = f :: l →
    let u : State := { s with
      fireReps := l
      records := if f.last then s.records.filter (fun r => !(r.idx == f.idx && r.place == .reporting)) else s.records }
    (f.notify = false → exec .fireReport s = .next u) ∧
    (∀ t : Fin 64, f.notify = true → f.owner = t.val → f.placer = none →
      exec .fireReport s = .next (u.signalFire t (BitVec.ofNat 32 (f.idx + b2n f.late * 2 ^ 31)))) ∧
    (∀ (t : Fin 64) (rq : Requester), f.notify = true → f.owner = t.val → f.placer = some rq →
      let pay : Word := BitVec.ofNat 32 (f.idx + b2n f.late * 2 ^ 31)
      (u.signalFire t pay).slow = false →
      exec .fireReport s = .next ((u.signalFire t pay).noticeTo rq 1 0x0580 [pay]))

/-- General timers (R68, R69): a capture takes the extended count and sets VALID, OVERRUN where VALID stood; the read
clears VALID; a write of GT_CMP arms the compare. -/
def GeneralTimers : Prop :=
  ∀ (rq : Requester) (n : Fin 16) (v : Word) (s : State), s.wf = true →
    let cap := fun (u : State) => u.rd (R.GT_CAP_LO n) = s.rd R.TB_EXT_LO ∧ u.rd (R.GT_CAP_HI n) = s.rd R.TB_EXT_HI ∧
      u.get (F.GT_STAT.VALID n) = 1 ∧ u.gts[n].dtime = s.dtime ∧ (s.is (F.GT_STAT.VALID n) = true → u.get (F.GT_STAT.OVERRUN n) = 1) ∧
      (s.is (F.GT_STAT.VALID n) = false → u.get (F.GT_STAT.OVERRUN n) = s.get (F.GT_STAT.OVERRUN n))
    (∀ falling : Bool, s.get (F.GT_CFG.CAP_SRC n) < 20 →
      s.get (F.GT_CFG.EDGE n) = 2 ∨ s.get (F.GT_CFG.EDGE n) = b2n falling →
      ∃ u, exec (.gtCapture n falling) s = .next u ∧ cap u) ∧
    (∀ falling : Bool, 20 ≤ s.get (F.GT_CFG.CAP_SRC n) → exec (.gtCapture n falling) s = .next s) ∧
    (canWrite rq (R.GT_STAT n) = true → s.get (F.GT_CFG.CAP_SRC n) = 20 →
      ∃ u, exec (.gtSwcap rq n) s = .next u ∧ cap u) ∧
    (∃ u, exec (.gtCapRead rq n) s = .next u ∧ u.get (F.GT_STAT.VALID n) = 0 ∧
      (u.req rq).rsh = some (R.GT_CAP_LO n, s.rd (R.GT_CAP_HI n)) ∧ u.mem = s.mem) ∧
    (canWrite rq (R.GT_CMP n) = true → s.get (F.GT_CFG.CMP_DIR n) = 0 → ¬ (s.rd R.TB_EXT_LO - v).toNat < 2 ^ 31 →
      ∃ u, exec (.gtCmpWrite rq n v) s = .next u ∧ u.rd (R.GT_CMP n) = v ∧ u.get (F.GT_STAT.ARMED n) = 1 ∧
        u.gts[n] = { s.gts[n] with up := true, early := true })

/-- When an event is reached (R41): up once the count is less than 2^31 past its value, down the other way round. -/
def ReachedRule : Prop :=
  ∀ v n : Word, (reached true v n = true ↔ (n - v).toNat < 2 ^ 31) ∧ (reached false v n = true ↔ (v - n).toNat < 2 ^ 31) ∧
    reached true v v = true ∧ reached false v v = true

/-! ### Power domains -/

/-- A write of PDOM_REQ_n is the requests of its fields; a field of 0b11 asks nothing (R21, R23, R24, R27). -/
def PowerDomainRequests : Prop :=
  ∀ (rq : Requester) (n : Fin 7) (d : Nat) (w : Word) (s : State), canWrite rq (R.PDOM_REQ n) = true →
    let ask := bitsOf w (2 * (d % 16) + 1) (2 * (d % 16))
    exec (.pdomOnRequest rq n w) s = .next (s.pdomWrite n w) ∧
    exec (.pdomOffRequest rq n w) s = .next (s.pdomWrite n w) ∧
    exec (.pdomAutoRequest rq n w) s = .next (s.pdomWrite n w) ∧
    (d < 102 → d / 16 = n.val → (∀ e, e ≠ d → e / 16 = n.val → bitsOf w (2 * (e % 16) + 1) (2 * (e % 16)) = 3) →
      (ask = 1 → s.domFenced d = true → s.pdomWrite n w = s.domDeny d 5) ∧
      (ask = 1 → s.domFenced d = false → s.pdomWrite n w = ((s.set (domReq d) 1).domUp d).domResolve d) ∧
      (∀ r, ask = 2 → s.offDenied d = some r → s.pdomWrite n w = s.domDeny d r) ∧
      (ask = 2 → s.offDenied d = none → s.pdomWrite n w = ((s.set (domReq d) 2).domOff d).domResolve d) ∧
      (ask = 0 → s.get (domReq d) ≠ 0 → s.pdomWrite n w = s.domReqAuto d) ∧
      (ask = 0 → s.get (domReq d) = 0 → s.pdomWrite n w = s) ∧
      (ask = 3 → s.pdomWrite n w = s))

/-- Why a domain may not go off, and the record of a refusal (Table 01-7, Table 01-8). -/
def PowerOffDenied : Prop :=
  ∀ (s : State) (c : Fin 24) (d r : Nat), s.wf = true →
    (s.domFenced d = true → s.offDenied d = some 5) ∧
    (s.domFenced (3 * c) = false → s.offDenied (3 * c) = if s.chIdle c then none else some 1) ∧
    (s.domFenced (3 * c + 1) = false →
      s.offDenied (3 * c + 1) = if s.domOn (3 * c) ∨ s.get (domStat (3 * c)) = 2 then some 2 else none) ∧
    (82 ≤ d → d < 85 → s.domFenced d = false → s.offDenied d = some 4) ∧
    (s.domFenced 80 = false → s.offDenied 80 =
      if (s.chargers[24]).running = false ∧ ∃ f : Fin 2, 2 ≤ s.get (F.FD_STAT.STATE f) ∧ s.get (F.FD_STAT.STATE f) ≤ 4
      then none else some 3) ∧
    (r < 32 → d < 128 → (s.domDeny d r).get F.PDOM_DENY.VALID = 1 ∧ (s.domDeny d r).get F.PDOM_DENY.REASON = r ∧
      (s.domDeny d r).get F.PDOM_DENY.DOMAIN = d ∧
      (∀ a, a ≠ R.PDOM_DENY → (s.domDeny d r).rd a = s.rd a) ∧ (s.domDeny d r).mem = s.mem)

/-- Powering domain d up starts it and every domain it needs, where they are OFF (R23, Table 01-7); the order of the
needs of a power stage is supply, front end, control (R21). -/
def PowerUpStartsTheNeeds : Prop :=
  ∀ (s : State) (d e : Nat), s.wf = true → d < 102 → e < 102 →
    (s.domUp d).get (domStat e) = (if (e ∈ domNeeds d ∨ e = d) ∧ s.get (domStat e) = 0 then 2 else s.get (domStat e)) ∧
    (∀ c : Fin 24, domNeeds (3 * c) = [96 + c.val / 4, 3 * c.val + 2, 3 * c.val + 1])

/-- Switching under AUTO, the end of a power-up, and a power-up that misses its time (R20, R21, R22, R328). -/
def PowerDomainSteps : Prop :=
  ∀ (s : State) (c : Fin 24) (d : Fin 102),
    (∀ e, s.autoOff e = if s.domOn e && s.get (domReq e) = 0 && (s.offDenied e).isNone then s.domOff e else s) ∧
    (s.chIdle c = true → 8 ≤ c.val →
      exec (.pdomAutoOff c) s = .next (((s.autoOff (3 * c)).autoOff (3 * c + 1)).autoOff (3 * c + 2))) ∧
    (s.chIdle c = false → 8 ≤ c.val → exec (.pdomAutoOff c) s = .next s) ∧
    (s.get (domStat d) ≠ 2 → exec (.pdomPowerUpDone d) s = .next s ∧ exec (.pdomNoOn d) s = .next s) ∧
    (s.get (domStat d) = 2 → exec (.pdomNoOn d) s = .next (s.assertL 364 1 d)) ∧
    (s.get (domStat d) = 2 → (domNeeds d).all s.domOn = false → exec (.pdomPowerUpDone d) s = .next s) ∧
    (s.get (domStat d) = 2 → (domNeeds d).all s.domOn = true →
      ((d.val < 72 ∧ d.val % 3 ≠ 0) ∨ (72 ≤ d.val ∧ d.val < 80) ∨ (81 ≤ d.val ∧ d.val < 90) ∨ d.val = 94 ∨ d.val = 95 →
        exec (.pdomPowerUpDone d) s = .next (s.set (domStat d) 1)) ∧
      (90 ≤ d.val → d.val < 94 → exec (.pdomPowerUpDone d) s = .next (s.set (domStat d) 1).updSlow) ∧
      (d.val = 3 * c.val → exec (.pdomPowerUpDone d) s =
        .next (if s.house.started then (s.set (domStat d) 1).stageOn c else s)) ∧
      (d.val = 80 → exec (.pdomPowerUpDone d) s = .next (if s.house.started then s.set (domStat d) 1 else s)) ∧
      (∀ q : Fin 6, d.val = 96 + q.val →
        exec (.pdomPowerUpDone d) s = .next ((s.set (domStat d) 1).set (F.SUP_STAT.STATE q) 0)))

/-- A bank of queue memory that goes off loses its contents, and every other byte stays (Table 01-7). -/
def BankOffLosesItsContents : Prop :=
  ∀ (s : State) (d a : Nat), s.wf = true → 85 ≤ d → d < 90 →
    (s.domOff d).wf = true ∧ (s.domOff d).get (domStat d) = 0 ∧
    (inQueue a = true → bankOf a = d - 82 → (s.domOff d).ldByte a = 0) ∧
    (inQueue a = true → bankOf a ≠ d - 82 → (s.domOff d).ldByte a = s.ldByte a)

/-! ### The power stage -/

/-- What opens the switches of a channel (R92, R93, R73, R80, R81, R471). -/
def TripsAndFences : Prop :=
  ∀ (s : State) (c : Fin 24) (k : Fin 4),
    let o := (s.openAll c).lineChTrip c
    let trip := fun (code : Nat) (latch : Fld) =>
      let u := (o.set latch 1).modCh c fun h => { h with trip := h.trip ||| code, latchRd := false }
      Host.Outcome.next ((u.assertL (12 * c) code 0 (u.rd (R.PS_LATCH c))).reresolve c)
    exec (.hwTrip c) s = trip 1 (F.PS_LATCH.HWTRIP c) ∧
    exec (.ovpTrip c) s = trip 2 (F.PS_LATCH.OVP c) ∧
    exec (.legFence c k) s = .next (s.fenceLeg c k) ∧
    (s.legOk c k = false → s.fenceLeg c k = s) ∧
    ((s.ch c).fenced = true → s.fenceCh c = s) ∧
    ((s.ch c).fenced = false → s.fenceCh c =
      (((o.modCh c fun h => { h with fenced := true }).assertL (12 * c + 3) 3).dropMember c).reresolve c) ∧
    (s.get (F.PS_STAT.INPUT c) = 1 → exec (.vinUndervoltage c) s = .next ((s.legsStop c).assertL (12 * c + 5) 1)) ∧
    (s.get (F.PS_STAT.INPUT c) ≠ 1 → exec (.vinUndervoltage c) s = .next s) ∧
    (s.get (F.PS_STAT.BSW c) ≠ 0 → exec (.bswTripFast c) s = .next (s.bswTrip c) ∧
      (400000 ≤ (s.ch c).batN → exec (.bswTripTimed c) s = .next (s.bswTrip c))) ∧
    (s.get (F.PS_STAT.INPUT c) = 2 → ∃ u : State, exec (.batfedUndervoltage c) s = .next (u.reresolve c) ∧
      u.regs = (((s.legsStop c).set (F.PS_STAT.INPUT c) 0).set (F.PS_LATCH.BATFED_UV c) 1).regs ∧
      (u.ch c).disch = false ∧ (u.ch c).react.isSome = true)

/-- The switches of Table 03-3 after every switch has opened: battery switch OFF, no input, no leg active, the LINE
open with CH_TRIP; other registers of the power stages stay (R92, R353). -/
def OpenedSwitches : Prop :=
  ∀ (s : State) (c : Fin 24), s.wf = true →
    let u := (s.openAll c).lineChTrip c
    u.get (F.PS_STAT.BSW c) = 0 ∧ u.get (F.PS_STAT.INPUT c) = 0 ∧ u.get (F.PS_STAT.LEG_ACTIVE c) = 0 ∧
    u.get (F.PS_STAT.TRANS c) = 0 ∧ u.get (F.LN_STAT.STATE c) = 0 ∧ u.get (F.LN_LATCH.CH_TRIP c) = 1 ∧
    (u.ch c).dead = true ∧ (u.ch c).dest = none ∧
    (∀ e : Fin 24, e ≠ c → u.ch e = s.ch e ∧ u.rd (R.PS_STAT e) = s.rd (R.PS_STAT e)) ∧ u.mem = s.mem ∧ u.wf = true

/-- Ratings by the number of healthy legs (Table 03-2, R74). -/
def RatingsFollowTheLegs : Prop :=
  ∀ (s : State) (c : Fin 24), s.wf = true →
    let n := (s.legsOk c).length
    let u := s.updRating c
    let is := fun (i p w b : Nat) => u.get (F.PS_RATING.I_CONT c) = i ∧ u.get (F.PS_RATING.I_PEAK c) = p ∧
      u.get (F.PS_RATING.P_CONT c) = w ∧ u.get (F.PS_RATING.P_BURST c) = b
    (n = 4 → is 150 200 80 120) ∧ (n = 3 → is 150 150 80 120) ∧ (n = 2 → is 100 100 80 80) ∧
    (∀ a, a ≠ R.PS_RATING c → u.rd a = s.rd a)

/-- The last control engine, local sense, the current limits of the legs, and the shed of a leg (R72, R90, R91, R97,
R128). The SENSE pair of a follower is not used. -/
def PowerStageEvents : Prop :=
  ∀ (s : State) (c : Fin 24) (k : Fin 4) (e : Nat) (seq : Bool),
    let run := (if seq then (s.ch c).cbc.getD k 0 else 0) + 1
    let hit := (s.inc ⟨R.PS_CBC_CNT c, 8 * k + 7, 8 * k⟩).modCh c fun h =>
      { h with cbc := h.cbc.set k run, cbcHit := h.cbcHit ||| 2 ^ k.val }
    let told := if run = 64 then (hit.set ⟨R.PS_LATCH c, 4 + k, 4 + k⟩ 1).raise (12 * c + 2) 2 k else hit
    let left := (ratingOf ((told.legsOk c).length - 1)).1
    let on := (List.range 4).filter fun k => (s.get (F.PS_STAT.LEG_ACTIVE c)).testBit k
    (s.enginesOk c = [e] → exec (.survivorEngineError c) s = .next (s.fenceEngine c e false)) ∧
    ((s.enginesOk c).length ≠ 1 → exec (.survivorEngineError c) s = .next s) ∧
    (s.get (F.PS_GANG.ROLE c) ≠ 2 →
      exec (.senseLoss c) s = .next ((s.set (F.PS_STAT.LOCAL c) 1).assertL (12 * c + 4) 1)) ∧
    (s.get (F.PS_GANG.ROLE c) = 2 → exec (.senseLoss c) s = .next s) ∧
    ((s.get (F.PS_STAT.LEG_ACTIVE c)).testBit k = true → exec (.cbcLimit c k seq) s = .next (
      if run < 64 then hit
      else if (i64 (told.rd64 (R.MS_I_LO c) (R.MS_I_HI c))).natAbs * 4 ≤ 3 * left * 100000000000 then told.fenceLeg c k
      else told.set (F.PS_STAT.CLAMP c) 1)) ∧
    ((s.get (F.PS_STAT.LEG_ACTIVE c)).testBit k = false → exec (.cbcLimit c k seq) s = .next s) ∧
    (s.is (F.PS_PWM.SHED_EN c) = true → 2 ≤ on.length → 4 * s.get (F.PS_SHED.HOLD c) ≤ (s.ch c).shedN →
      ∃ l, on.getLast? = some l ∧ exec (.legShed c) s = .next (s.shedLeg c l)) ∧
    (s.is (F.PS_PWM.SHED_EN c) = false ∨ on.length < 2 ∨ (s.ch c).shedN < 4 * s.get (F.PS_SHED.HOLD c) →
      exec (.legShed c) s = .next s)

/-- Bursts, the battery switch in DIODE, PATH and LINEAR, and the share of a gang's leader, which no link that is DOWN
carries (R75, R77, R78, R79, R97, R389). -/
def BurstsAndTheBatterySwitch : Prop :=
  ∀ (s : State) (c : Fin 24) (lim : Nat) (on : Bool),
    (s.is (F.PS_STAT.BURST c) = true → 400000 ≤ (s.ch c).burstN → exec (.burstLimit c) s =
      .next (((((s.inc (F.PS_BURST.CLAMP_CNT c)).set (F.PS_STAT.BURST c) 0).set (F.PS_STAT.BURST_READY c) 0).set
        (F.PS_STAT.CLAMP c) 1).modCh c
          fun h => { h with burstD := h.burstN, burstN := 0, calmN := 0, episode := true })) ∧
    (s.is (F.PS_STAT.BURST c) = false ∨ (s.ch c).burstN < 400000 → exec (.burstLimit c) s = .next s) ∧
    (s.is (F.PS_STAT.BURST_READY c) = false → 9 * (s.ch c).burstD ≤ (s.ch c).calmN → exec (.burstRecovered c) s =
      .next (((s.set (F.PS_STAT.BURST_READY c) 1).set (F.PS_BURST.REMAIN c) 1000).modCh c
        fun h => { h with burstD := 0, calmN := 0 })) ∧
    (s.is (F.PS_STAT.BURST_READY c) = true ∨ 9 * (s.ch c).burstD > (s.ch c).calmN →
      exec (.burstRecovered c) s = .next s) ∧
    (s.get (F.PS_STAT.BSW c) = 3 →
      exec (.bswDiodeSwitch c on) s = .next (s.modCh c fun h => { h with diode := on })) ∧
    (s.get (F.PS_STAT.BSW c) ≠ 3 → exec (.bswDiodeSwitch c on) s = .next s) ∧
    ((s.ch c).pathF = 0 → s.is (F.PS_STAT.TRANS c) = false → (s.curMode c).role ≠ 0 → (s.curMode c).law = 6 →
      (s.get (F.PS_STAT.BSW c) = 1 → s.get (F.RG_STAT.LIMIT c) = 3 ∨ s.get (F.RG_STAT.LIMIT c) = 5 ∨
          s.get (F.RG_STAT.LIMIT c) = 7 →
        exec (.bswSupplement c true) s = .next ((s.modCh c fun h => { h with supp := true }).bswTo c 2)) ∧
      (s.get (F.PS_STAT.BSW c) = 2 →
        exec (.bswSupplement c false) s = .next ((s.modCh c fun h => { h with supp := false }).bswTo c 1))) ∧
    ((s.ch c).pathF ≠ 0 ∨ (s.curMode c).law ≠ 6 → exec (.bswSupplement c on) s = .next s) ∧
    (s.get (F.PS_STAT.BSW c) = 1 → exec (.bswSoaLimit c lim) s =
      .next (((s.set (F.PS_LATCH.BSW_SOA c) 1).set (F.CG_STAT.BIND_SOA c) 1).seti (F.CG_IEFF.I_CHG c)
        (min (s.geti (F.CG_IEFF.I_CHG c)) (lim : Int)))) ∧
    (s.get (F.PS_STAT.BSW c) ≠ 1 → exec (.bswSoaLimit c lim) s = .next s) ∧
    (∀ l : Fin 24, s.get (F.PS_GANG.ROLE c) = 2 → s.gangLeader c = l.val → exec (.gangShareSetpoint c) s = .next (
      if s.linkDown (l / 4) || s.linkDown (c / 4) then s
      else ((s.modCh c fun h => { h with share := (s.ch l).share }).flit (l.val / 4) 1 0).flit (c.val / 4) 0 0)) ∧
    (s.get (F.PS_GANG.ROLE c) ≠ 2 → exec (.gangShareSetpoint c) s = .next s)

/-- A path transition: its first step, the step it enters on a sample, its end, an abandoned one, and the end of a
discharge (R82 to R85, R112, Table 03-4). The paths are 0 PATH, 1 TIED, 2 OPEN, 3 BATFED. -/
def PathTransitions : Prop :=
  ∀ (s : State) (c : Fin 24) (p : Nat),
    let h := s.ch c
    (p = h.pathF → s.startPath c p = s) ∧
    (p ≠ h.pathF → s.wf = true → (s.startPath c p).get (F.PS_STAT.TRANS c) = 1 ∧
      ((s.startPath c p).ch c).dest = some p ∧ ((s.startPath c p).ch c).pathF = h.pathF ∧
      ((s.startPath c p).ch c).eng.restart = true ∧
      (h.pathF ≤ 1 → 2 ≤ p → ((s.startPath c p).ch c).tstep = .takeover) ∧
      (h.pathF = 2 → p = 1 → ((s.startPath c p).ch c).tstep = .seek) ∧
      (h.pathF = 2 → p = 0 → ((s.startPath c p).ch c).tstep = .linear) ∧
      (h.pathF = 2 → p = 3 → ((s.startPath c p).ch c).tstep = .pause) ∧
      (h.pathF = 3 → ((s.startPath c p).ch c).tstep = .credit)) ∧
    (∀ t, s.wf = true → s.ltRuns 3 (bswLink c) = false →
      ((s.enterStep c t).ch c).tstep = t ∧
      (t = .pause → (s.enterStep c t).get (F.PS_STAT.BSW c) = 0 ∧ (s.enterStep c t).get (F.PS_STAT.INPUT c) = 0) ∧
      (t = .join → ((s.enterStep c t).ch c).bswMax = 2000000) ∧
      (t = .unload ∨ t = .join ∨ t = .linear → (s.enterStep c t).get (F.PS_STAT.BSW c) = 1) ∧
      (t = .resume → h.dest = some p → (s.enterStep c t).get (F.PS_STAT.INPUT c) = (if p = 3 then 2 else 1))) ∧
    (h.dest = some p →
      (h.tstep = .takeover → s.transStep c = (s.modCh c fun h => { h with tn := h.tn + 1 }).enterStep c .unload) ∧
      (h.tstep = .pause → s.transStep c = (s.modCh c fun h => { h with tn := h.tn + 1 }).enterStep c .resume) ∧
      (h.tstep = .join ∨ h.tstep = .linear ∨ h.tstep = .unload ∧ p ≠ 3 ∨ h.tstep = .resume ∧ 2 ≤ p →
        exec (.pathTransitionDone c) s = .next (s.endPath c p)) ∧
      (h.tstep = .unload → p = 3 → exec (.pathTransitionDone c) s = .next (s.enterStep c .pause)) ∧
      (h.tstep = .takeover ∨ h.tstep = .seek ∨ h.tstep = .credit ∨ h.tstep = .pause ∨ h.tstep = .resume ∧ p < 2 →
        exec (.pathTransitionDone c) s = .next s)) ∧
    (h.dest = none → exec (.pathTransitionDone c) s = .next s) ∧
    (s.endPath c p = ((((s.set (F.PS_STAT.TRANS c) 0).modCh c fun h =>
      { (h.modEng fun e => { e with restart := true }) with
        dest := none, tstep := .takeover, tn := 0, bswMax := 0, pathF := p }).startDischarge c).settle c).resumePath c) ∧
    (h.dest = some 1 → h.tstep = .join → exec (.pathTransitionAbandon c) s =
      .next ((((s.set (F.PS_LATCH.BSW_SOA c) 1).modCh c fun h => { h with abandon := true }).reresolve c).endPath c 2)) ∧
    (h.dest ≠ some 1 ∨ h.tstep ≠ .join → exec (.pathTransitionAbandon c) s = .next s) ∧
    (h.disch = true → exec (.dischargeDone c) s = .next (
      let t := ((s.modCh c fun h => { h with disch := false, drain := false, stopSlew := 0 }).legsStop c).settle c
      if h.stopSlew = 0 then t else t.lineOpen c 0)) ∧
    (h.disch = false → exec (.dischargeDone c) s = .next s)

/-! ### Modes -/

/-- What a resolution answers in every state (R209, R210, Table 08-2): safety resolves the role, and no combination that
the table forbids comes out. -/
def ResolutionRules : Prop :=
  ∀ (s : State) (c : Fin 24),
    let m := (s.resolveOf c).1
    let h := s.ch c
    (h.fenced = true ∨ h.trip ≠ 0 ∨ s.domHeldOff (3 * c) = true → m.role = 0 ∧ m.path = 2) ∧
    (s.thermStop c = true ∨ h.heldOff = true ∨ h.gangLeft = true ∨ h.react.isSome = true → m.role = 0) ∧
    (h.react = some true → m.path = 2) ∧
    (m.path = 3 → m.role ≤ 1) ∧
    (m.law = 6 → m.path ≤ 1 ∧ m.role ≠ 2) ∧
    (m.stage ≠ 0 → m.path = 2) ∧
    (m.vrange = 1 → s.get (F.RG_VLIM_HI.VALUE c) ≤ 600000) ∧
    (8 ≤ c.val → m.pd = 0) ∧
    (m.irange ≤ 2 ∨ (m.irange ≤ 5 ∧ m.role ≠ 0 ∧ m.stage ≠ 0) ∨ 5 < m.irange)

/-- What a resolution writes (R209, R214, R215): nothing where neither the word nor the reasons change; else MD_RES,
MD_WHY and SEQ, and without a request RERES. -/
def ResolutionWrites : Prop :=
  ∀ (s : State) (c : Fin 24) (rer : Bool), s.wf = true →
    let r := s.resolveOf c
    let same := modeWord r.1 = s.rd (R.MD_RES c) ∧ r.2.1 = s.get (F.MD_WHY.WHY c)
    let u := s.resolve1 rer c
    (same → u.regs = s.regs ∧ u.out = s.out ∧ u.wakes = s.wakes) ∧
    (¬same → u.rd (R.MD_RES c) = modeWord r.1 ∧ u.get (F.MD_WHY.WHY c) = r.2.1 % 2 ^ 27 ∧
      u.get (F.MD_STAT.SEQ c) = (s.get (F.MD_STAT.SEQ c) + 1) % 65536 ∧
      (rer = true → u.get (F.MD_STAT.RERES c) = 1) ∧ u.rd (R.MD_REQ c) = s.rd (R.MD_REQ c) ∧ u.mem = s.mem)

/-- A mode request (R72, R207, R208, R216): the operations that the channel took before it act first; a reserved value or
a failed entry check changes nothing but its marks; an accepted request stores its fields, powers the channel up and
resolves, and one for OFF in OFF ends its local sense. -/
def ModeRequests : Prop :=
  ∀ (rq : Requester) (c : Fin 24) (w : Word) (s : State), canWrite rq (R.MD_REQ c) = true →
    let m := modeOf w
    let t := s.opsFirst c
    let entry := (m.law = 4 ∨ m.law = 5 ∨ m.law = 6) ∧ m.law ≠ (t.resMode c).law
    let reserved := m.law = 7 ∨ m.stage = 3 ∨ m.irange = 6 ∨ m.vrange = 2
    (reserved → exec (.mdReqWrite rq c w) s = .next (t.set (F.MD_STAT.CFG_REJ c) 1)) ∧
    (¬reserved → entry → t.lawOk c m.law = false →
      exec (.mdReqWrite rq c w) s = .next ((t.lawErr c m.law).set (F.MD_STAT.CFG_REJ c) 1)) ∧
    (¬reserved → (entry → t.lawOk c m.law = true) → ∃ u : State,
      exec (.mdReqWrite rq c w) s = .next (if m.role = 0 ∧ ((u.resolveCh false c).curMode c).role = 0
        then (u.resolveCh false c).senseEnd c else u.resolveCh false c) ∧
      u.regs = ((t.wakeCh c).wr (R.MD_REQ c) (modeWord (modeMerge 0x7F (t.reqMode c) m))).regs ∧
      (u.ch c).react = none ∧ (u.ch c).gangLeft = false ∧ (u.ch c).abandon = false ∧
      (∀ e : Fin 24, e ≠ c → u.ch e = t.ch e) ∧ u.mem = t.mem)

/-- The views of the requested word in MS_RANGE and MS_STAGE, and the read of PS_LATCH (R80, R207). -/
def ModeViews : Prop :=
  ∀ (rq : Requester) (c : Fin 24) (w : Word) (s : State), canWrite rq (R.MS_RANGE c) = true →
    let i := bitsOf w 10 8
    let v := bitsOf w 5 4
    let q := bitsOf w 1 0
    let word := BitVec.ofNat 32 (v * 2 ^ 20 + i * 2 ^ 16)
    let t := s.opsFirst c
    (i ≠ 6 → v ≠ 2 → exec (.msRangeWrite rq c w) s = .next (t.modeReq c 0x30 word).2) ∧
    (i = 6 → v ≠ 2 → exec (.msRangeWrite rq c w) s = .next ((t.set (F.MS_STAT.CFG_REJ c) 1).modeReq c 0x20 word).2) ∧
    (i ≠ 6 → v = 2 → exec (.msRangeWrite rq c w) s = .next ((t.set (F.MS_STAT.CFG_REJ c) 1).modeReq c 0x10 word).2) ∧
    (i = 6 → v = 2 → exec (.msRangeWrite rq c w) s = .next (t.set (F.MS_STAT.CFG_REJ c) 1)) ∧
    (q ≠ 3 → exec (.msStageWrite rq c w) s = .next (t.modeReq c 0x08 (BitVec.ofNat 32 (q * 2 ^ 12))).2) ∧
    (q = 3 → exec (.msStageWrite rq c w) s = .next (t.set (F.MS_STAT.CFG_REJ c) 1)) ∧
    exec (.psLatchRead rq c) s = .next ((((s.rclClear (R.PS_LATCH c)).modCh c fun h => { h with latchRd := true }).deassertL
      (12 * c + 1) 1).reresolve c)

/-- A gang request (R96, R210, R211): one for a group that cannot be formed stands as row 7 until it can; one that can is
formed, and the followers of the group it replaces leave. -/
def GangRequests : Prop :=
  ∀ (rq : Requester) (c : Fin 24) (w : Word) (s : State), canWrite rq (R.MD_GANG c) = true →
    let n := bitsOf w 1 0
    let g := ((s.opsFirst c).wakeCh c).modCh c fun h => { h with gangWant := 0 }
    let lead := g.get (F.PS_GANG.ROLE c) = 1
    let same := lead ∧ g.get (F.PS_GANG.SIZE c) = n
    let out := g.followers c
    (n = 0 → ¬lead → exec (.mdGangWrite rq c w) s = .next (g.resolveCh false c)) ∧
    (n = 0 → lead → exec (.mdGangWrite rq c w) s = .next ((g.dissolve c false).resolveCh false c)) ∧
    (n ≠ 0 → same → exec (.mdGangWrite rq c w) s = .next (g.resolveCh false c)) ∧
    (n ≠ 0 → ¬same → g.gangOk c n = false →
      exec (.mdGangWrite rq c w) s = .next ((g.modCh c fun h => { h with gangWant := n }).resolveCh false c)) ∧
    (n ≠ 0 → ¬same → g.gangOk c n = true → exec (.mdGangWrite rq c w) s =
      .next (((out.foldl State.reresolve ((out.foldl State.leaveGang g).formGang c n)).resolveCh false c).regroup)) ∧
    (∀ e : Fin 24, (g.gangBad e = true ↔ (g.ch e).gangWant ≠ 0 ∧ g.gangOk e (g.ch e).gangWant = false)) ∧
    (∀ e : Fin 24, (g.ch e).gangWant = 0 ∨ g.gangOk e (g.ch e).gangWant = false → g.regroupCh e = g)

/-- A gang's leader stands at a multiple of its size, all of its members are free and none is fenced or held OFF (R96,
Table 03-6, R211). -/
def GangPlacement : Prop :=
  ∀ (s : State) (c f : Fin 24) (n : Nat), s.gangOk c n = true →
    c.val % 2 ^ n = 0 ∧ c.val + 2 ^ n ≤ 24 ∧
    (c.val ≤ f.val → f.val < c.val + 2 ^ n → (s.ch f).fenced = false ∧ s.domHeldOff (3 * f) = false ∧
      (s.get (F.PS_GANG.ROLE f) = 0 ∨ s.gangLeader f = c.val)) ∧
    (f ∈ gangGroup c n ↔ c.val ≤ f.val ∧ f.val < c.val + 2 ^ n)

/-! ### Regulation -/

/-- Which values a set-point or limit takes (R103, Table 04-2): an accepted one is stored; a refused one leaves the
register and sets CFG_REJ. -/
def SetPointsAndLimits : Prop :=
  ∀ (s : State) (c : Fin 24) (fn : Nat) (w : Word), fn ≤ 9 →
    let ok := (fn = 0 → w.toNat ≤ 6000000) ∧ (fn = 1 → -20000000 ≤ w.toInt ∧ w.toInt ≤ 20000000) ∧
      (fn = 2 → -600000 ≤ w.toInt ∧ w.toInt ≤ 600000) ∧ (fn = 3 → w.toNat ≤ 20000000) ∧
      (fn = 4 → w.toNat ≤ 6000000 ∧ (s.rd (R.RG_VLIM_LO c)).toNat ≤ w.toNat) ∧
      (fn = 5 → w.toNat ≤ 6000000 ∧ w.toNat ≤ (s.rd (R.RG_VLIM_HI c)).toNat) ∧
      (fn = 6 ∨ fn = 7 → w.toNat ≤ 20000000) ∧ (fn = 8 ∨ fn = 9 → w.toNat ≤ 600000)
    ((s.setParam c fn w).1 = true ↔ ok) ∧
    (¬ok → s.setParam c fn w = (false, s.set (F.RG_STAT.CFG_REJ c) 1)) ∧
    (ok → fn ≠ 4 → s.wf = true → (s.setParam c fn w).2.rd (R.RG_VSET c + 4 * fn) = w ∧
      (∀ a, a ≠ R.RG_VSET c + 4 * fn → (s.setParam c fn w).2.rd a = s.rd a) ∧ (s.setParam c fn w).2.mem = s.mem)

/-- RG_LOOP and RG_PROF_ADDR, after the operations that the channel took before them (R101, R115, R118, R121). -/
def LoopAndProfileRegisters : Prop :=
  ∀ (rq : Requester) (c : Fin 24) (w : Word) (s : State), canWrite rq (R.RG_LOOP c) = true →
    let p := bitsOf w 2 0
    let a := bitsOf w 31 4 * 16
    let t := s.opsFirst c
    let u := if p < 5 then t.set (F.RG_LOOP.PROF c) p else t.set (F.RG_STAT.CFG_REJ c) 1
    (bitOf w 31 = false → exec (.rgLoopWrite rq c w) s = .next u) ∧
    (bitOf w 31 = true → exec (.rgLoopWrite rq c w) s = .next (u.modEng c fun e => { e with apply := true })) ∧
    ((t.resMode c).law ≠ 5 → exec (.rgProfAddrWrite rq c w) s = .next (t.set (F.RG_PROF_ADDR.ADDR c) (a / 16))) ∧
    ((t.resMode c).law = 5 → t.profOk a = false →
      exec (.rgProfAddrWrite rq c w) s = .next ((t.set (F.RG_STAT.CFG_REJ c) 1).set (F.RG_LATCH.PROF_ERR c) 1)) ∧
    ((t.resMode c).law = 5 → t.profOk a = true → ∃ v : State, exec (.rgProfAddrWrite rq c w) s = .next v ∧
      v.regs = (t.set (F.RG_PROF_ADDR.ADDR c) (a / 16)).regs ∧ (v.ch c).eng.prof = some (t.profHdr a) ∧
      (v.ch c).engB.prof = some (t.profHdr a) ∧ (v.ch c).eng.profIdx = 0)

/-- An APPLY that waits (R115): the coefficients of a preset, or those of RG_COEF where the filter is stable, are in force
from the sample's start, and the first output repeats the last; unstable ones are refused. -/
def LoopApply : Prop :=
  ∀ (s : State) (c : Fin 24), s.wf = true →
    let p := s.get (F.RG_LOOP.PROF c)
    let k := fun n => i32 (s.rd (R.RG_COEF c n))
    let stable := (k 4).natAbs < 2 ^ 28 ∧ ((k 3).natAbs : Int) < 2 ^ 28 + k 4
    let u := s.loadLoop c
    ((s.ch c).eng.apply = false → u = s) ∧
    ((s.ch c).eng.apply = true → (p ≠ 4 ∨ stable) →
      u.regs = s.regs ∧ (u.ch c).eng.loaded = p ∧ (u.ch c).eng.apply = false ∧ (u.ch c).eng.bump = true ∧
      (p = 4 → ∀ n, n < 7 → (u.ch c).eng.coef n = k n)) ∧
    ((s.ch c).eng.apply = true → p = 4 → ¬stable → (u.ch c).eng.loaded = (s.ch c).eng.loaded ∧
      (u.ch c).eng.apply = false ∧ u.get (F.RG_LATCH.COEF_REJ c) = 1 ∧ u.get (F.RG_STAT.CFG_REJ c) = 1 ∧
      u.get (F.RG_LOOP.PROF c) = (s.ch c).eng.loaded % 8) ∧
    (∀ (e : Engine) (h : Comp) (err : Int), e.bump = true → (e.hv h err).1 = h.y1)

/-- The PWM generator (R88): dead time wins, the on-times fill the span of the pair, no pulse is shorter than 48 ticks,
and the carry holds at most 47 and keeps what a skipped pulse was due. -/
def PwmPairs : Prop :=
  ∀ (cmd carry period dead : Nat) (stretch : Bool), 2000 ≤ period → period ≤ 32000 → 4 ≤ dead → dead ≤ 160 →
    let span := period - 2 * dead
    let o := pwmPair cmd carry period dead stretch
    o.t + o.tc = span ∧ (o.t = 0 ∨ 48 ≤ o.t) ∧ (o.tc = 0 ∨ 48 ≤ o.tc) ∧ o.carry ≤ 47 ∧
    (o.carry ≠ 0 → o.t = 0 ∧ o.carry = cmd + carry ∧ stretch = false) ∧
    (48 ≤ cmd + carry → cmd + carry + 48 ≤ span → o.t = cmd + carry ∧ o.skip = 0 ∧ o.str = 0 ∧ o.short = 0) ∧
    (o.short = 1 ↔ span < cmd + carry)

/-- The ramp (R108): each sample moves the reference toward the target by at most the slew, never past it, and never
winds up behind a limit; with no limit active it is exactly one bounded step. -/
def RampSteps : Prop :=
  ∀ (r tgt step m : Int) (limited : Bool), 0 ≤ step →
    let n := rampStep r tgt step m limited
    (-step ≤ n - r ∧ n - r ≤ step) ∧ (r ≤ tgt → r ≤ n ∧ n ≤ tgt) ∧ (tgt ≤ r → tgt ≤ n ∧ n ≤ r) ∧
    (limited = false → n = r + max (-step) (min step (tgt - r))) ∧
    (limited = true → r < tgt → n ≤ max r (m + step)) ∧ (limited = true → tgt < r → min r (m - step) ≤ n)

/-- The role bounds the current demand (R104), and LIMIT reads ROLE exactly where it changed it. -/
def RoleBounds : Prop :=
  ∀ (role : Nat) (i : Int) (code : Nat),
    let b := roleBound role (i, code)
    (role = 1 → b.1 = max 0 i) ∧ (role = 2 → b.1 = min 0 i) ∧ (role ≠ 1 → role ≠ 2 → b = (i, code)) ∧
    (b.1 = i → b.2 = code) ∧ (b.1 ≠ i → b.2 = 8)

/-- The region of a leg (R87): it leaves BUCK above 0.90 × VIN, BOOST below 1.10 × VIN, and
FOUR_SWITCH below 0.88 or above 1.12. -/
def LegRegions : Prop :=
  ∀ v vin : Int, 0 < vin →
    (100 * v < 90 * vin → nextRegion 1 v vin = 1) ∧ (90 * vin ≤ 100 * v → 100 * v ≤ 112 * vin → nextRegion 1 v vin = 2) ∧
    (110 * vin < 100 * v → nextRegion 3 v vin = 3) ∧ (88 * vin ≤ 100 * v → 100 * v ≤ 110 * vin → nextRegion 3 v vin = 2) ∧
    (100 * v < 88 * vin → nextRegion 2 v vin = 1) ∧ (112 * vin < 100 * v → nextRegion 2 v vin = 3) ∧
    (88 * vin ≤ 100 * v → 100 * v ≤ 112 * vin → nextRegion 2 v vin = 2)

/-! ### Lines and EVT outputs -/

/-- LINE_c (R350 to R355): ON, OFF and PULSE at their action points, the end of a pulse, trips and the read of LN_LATCH.
With the power stage off a request wakes the channel and waits for it (R21, R22). -/
def LinesOpenAndClose : Prop :=
  ∀ (rq : Requester) (c : Fin 24) (width : Nat) (s : State),
    let st := s.get (F.LN_STAT.STATE c)
    let shut := st = 1 ∨ st = 2
    let on := s.domOn (3 * c) = true
    let trip := fun (b : Fld) => ((s.lineOpen c 3).set b 1).assertL (12 * c + 8) 1 0 (((s.lineOpen c 3).set b 1).rd (R.LN_LATCH c))
    let wait := fun (op w : Nat) => (s.wakeCh c).modCh c fun h => { h with delayed := h.delayed ++
      [{ acode := 8, arg0 := op, arg1 := BitVec.ofNat 32 w, arg2 := 0, late := true }] }
    (¬on → exec (.lineOff c) s = .next (wait 0 0) ∧ exec (.lineOn c) s = .next (wait 1 0) ∧
      (0 < width → exec (.linePulse c width) s = .next (wait 2 width))) ∧
    (width = 0 → exec (.linePulse c width) s = .next s) ∧
    (on → st ≠ 3 → exec (.lineOff c) s = .next (s.lineOpen c 0) ∧
      exec (.lineOn c) s = .next ((s.lineClose c).set (F.LN_STAT.PULSE c) 0) ∧
      (2000 ≤ width → exec (.linePulse c width) s = .next ((s.lineClose c).set (F.LN_STAT.PULSE c) 1)) ∧
      (0 < width → width < 2000 → exec (.linePulse c width) s =
        .next (((s.set (F.LN_LATCH.STRETCH c) 1).lineClose c).set (F.LN_STAT.PULSE c) 1))) ∧
    (on → st = 3 → exec (.lineOff c) s = .next s ∧ exec (.lineOn c) s = .next (s.set (F.LN_LATCH.DENIED c) 1) ∧
      (0 < width → exec (.linePulse c width) s = .next (s.set (F.LN_LATCH.DENIED c) 1))) ∧
    (s.is (F.LN_STAT.PULSE c) = true → exec (.linePulseEnd c) s = .next (s.lineOpen c 0)) ∧
    (s.is (F.LN_STAT.PULSE c) = false → exec (.linePulseEnd c) s = .next s) ∧
    (shut → exec (.lineInrushTrip c) s = .next (trip (F.LN_LATCH.INRUSH c)) ∧
      exec (.lineEfuseTrip c) s = .next (trip (F.LN_LATCH.EFUSE c)) ∧
      exec (.lineSoaTrip c) s = .next (trip (F.LN_LATCH.SOA c)) ∧
      (20 < s.get (F.LN_CFG.ILIM c) → exec (.lineOvldTrip c) s = .next (trip (F.LN_LATCH.OVLD c)))) ∧
    (s.get (F.LN_CFG.ILIM c) ≤ 20 → exec (.lineOvldTrip c) s = .next s) ∧
    (¬shut → exec (.lineInrushTrip c) s = .next s ∧ exec (.lineEfuseTrip c) s = .next s ∧
      exec (.lineSoaTrip c) s = .next s) ∧
    (s.wf = true → ∃ u, exec (.lnLatchRead rq c) s = .next u ∧
      u.get (F.LN_STAT.STATE c) = (if st = 3 then 0 else st) ∧ u.get (F.LN_LATCH.EFUSE c) = 0 ∧
      u.get (F.LN_LATCH.INRUSH c) = 0 ∧ u.get (F.LN_LATCH.SOA c) = 0 ∧ u.get (F.LN_LATCH.OVLD c) = 0 ∧ u.mem = s.mem)

/-- What opening and closing a line leave in LN_STAT (R350): OFF or FAULT at once; closing counts the turn-on and rises. -/
def LineStates : Prop :=
  ∀ (c : Fin 24) (st : Nat) (s : State), s.wf = true → st < 4 →
    (s.lineOpen c st).get (F.LN_STAT.STATE c) = st ∧ (s.lineOpen c st).get (F.LN_STAT.PULSE c) = 0 ∧
    (∀ a, a ≠ R.LN_STAT c → (s.lineOpen c st).rd a = s.rd a) ∧
    (s.lineClosed c = true → s.lineClose c = s) ∧
    (s.lineClosed c = false → (s.lineClose c).get (F.LN_STAT.STATE c) = (if s.riseSamples c = 0 then 2 else 1) ∧
      ((s.lineClose c).ch c).lineRise = s.riseSamples c ∧
      (s.lineClose c).get (F.LN_STAT.ONCNT c) = (s.get (F.LN_STAT.ONCNT c) + 1) % 2 ^ (F.LN_STAT.ONCNT c).width)

/-- EVT lines (R356, R357): a level action ends a pulse; the level is driven where OE is 1 and latched in NOOE where it is
0; a pulse shorter than 4 ns is marked STRETCH, and its end drives the line low. -/
def EvtLines : Prop :=
  ∀ (n : Fin 16) (w : Nat) (hi : Bool) (s : State), s.wf = true →
    (s.evtSetLevel n hi).get ⟨R.EVT_LVL, n, n⟩ = b2n hi ∧ (s.evtSetLevel n hi).evtPulse = s.evtPulse.filter (· != n.val) ∧
    (s.get ⟨R.EVT_CFG, n, n⟩ = 1 → (s.evtSetLevel n hi).get ⟨R.EVT_LVL, 16 + n, 16 + n⟩ = b2n hi) ∧
    (s.get ⟨R.EVT_CFG, n, n⟩ = 0 → (s.evtSetLevel n hi).get ⟨R.EVT_LATCH, 16 + n, 16 + n⟩ = 1 ∧
      (s.evtSetLevel n hi).get ⟨R.EVT_LVL, 16 + n, 16 + n⟩ = s.get ⟨R.EVT_LVL, 16 + n, 16 + n⟩) ∧
    ((s.evtPulseOn n w).get ⟨R.EVT_LVL, n, n⟩ = 1 ∧ n.val ∈ (s.evtPulseOn n w).evtPulse) ∧
    (w < 4 → (s.evtPulseOn n w).get ⟨R.EVT_LATCH, n, n⟩ = 1) ∧
    (n.val ∈ s.evtPulse → exec (.evtPulseEnd n) s = .next (s.evtSetLevel n false)) ∧
    (n.val ∉ s.evtPulse → exec (.evtPulseEnd n) s = .next s)

/-! ### Battery model -/

/-- Writes of the battery model's registers, after the operations that the channel took before them (R101, R134, R145,
R146, R524): a refused one sets CFG_REJ; an accepted one acts at once while the model is frozen and is latched while it
runs; the LO word waits for the HI word of its pair. -/
def ModelRegisterWrites : Prop :=
  ∀ (rq : Requester) (c : Fin 24) (f : BmField) (w : Word) (s : State), canWrite rq (R.BM_SOC c) = true →
    let t := s.opsFirst c
    let lo := bmLo c f
    let refuse := (t.set (F.BM_LATCH.TBL_ERR c) 1).set (F.BM_STAT.CFG_REJ c) 1
    ((t.resMode c).law ≠ 4 ∨ t.bmTblOk (bitsOf w 31 6 * 64) = true →
      exec (.bmTblAddrWrite rq c w) s = .next (t.set (F.BM_TBL_ADDR.ADDR c) (bitsOf w 31 6))) ∧
    ((t.resMode c).law = 4 → t.bmTblOk (bitsOf w 31 6 * 64) = false → exec (.bmTblAddrWrite rq c w) s = .next refuse) ∧
    (1000000 < w.toNat → exec (.bmSocWrite rq c w) s = .next (t.set (F.BM_STAT.CFG_REJ c) 1)) ∧
    (w.toNat ≤ 1000000 → t.bmTblOk (t.bmAddr c) = true →
      exec (.bmSocWrite rq c w) s = .next (t.bmWrite c (.soc w.toNat))) ∧
    (w.toNat ≤ 1000000 → t.bmTblOk (t.bmAddr c) = false → exec (.bmSocWrite rq c w) s = .next refuse) ∧
    exec (.bmStateLoWrite rq c f w) s = .next (t.modReq rq fun x => { x with wsh := some (lo, w) }) ∧
    (∀ l, (t.req rq).wsh = some (lo, l) → exec (.bmStateHiWrite rq c f w) s =
      .next ((t.modReq rq fun x => { x with wsh := none }).bmWrite c (.field f (i64 (pairNat l w))))) ∧
    ((∀ l, (t.req rq).wsh ≠ some (lo, l)) → exec (.bmStateHiWrite rq c f w) s =
      .next (t.bmWrite c (.field f (i64 (pairNat (t.rd lo) w))))) ∧
    exec (.rstRelax rq c) s = .next (t.bmWrite c .relax) ∧ exec (.rstHyst rq c) s = .next (t.bmWrite c .hyst)

/-- A state write of the model (R145): latched in order while it runs; else the pair holds the value, and what it clears
is clear. -/
def ModelStateWrites : Prop :=
  ∀ (c : Fin 24) (f : BmField) (v : Int) (s : State), s.wf = true → -(2 ^ 63) ≤ v → v < 2 ^ 63 →
    (s.is (F.BM_STAT.RUN c) = true → ∀ w, (s.bmWrite c w).regs = s.regs ∧
      ((s.bmWrite c w).ch c).bm.writes = (s.ch c).bm.writes ++ [w]) ∧
    (s.is (F.BM_STAT.RUN c) = false →
      (s.bmWrite c (.field f v)).bmGet c f = v ∧
      (∀ g, g ≠ f → (s.bmWrite c (.field f v)).bmGet c g = s.bmGet c g) ∧
      (f = .q → ((s.bmWrite c (.field f v)).ch c).bm.res = 0) ∧
      (f = .v1 → ((s.bmWrite c (.field f v)).ch c).bm.rem1 = 0) ∧
      (f = .v2 → ((s.bmWrite c (.field f v)).ch c).bm.rem2 = 0) ∧
      (s.bmWrite c .relax).bmGet c .v1 = 0 ∧ (s.bmWrite c .relax).bmGet c .v2 = 0 ∧
      (s.bmWrite c .relax).bmGet c .q = s.bmGet c .q ∧ (s.bmWrite c .hyst).bmGet c .h = 0)

/-- The model updates while it runs under law MODEL; a frozen model keeps its state; it follows the resolved law from
sample to sample (R138, R145, R147). -/
def ModelUpdates : Prop :=
  ∀ (c : Fin 24) (s : State),
    let on := (s.resMode c).law = 4 ∧ s.domOn (3 * c + 1) = true
    let run := s.is (F.BM_STAT.RUN c) = true
    (run → (s.resMode c).law = 4 → exec (.modelUpdate c) s = .next (s.bmUpdate c)) ∧
    (¬run ∨ (s.resMode c).law ≠ 4 → exec (.modelUpdate c) s = .next s) ∧
    (on → ¬run → s.bmFollow c = s.bmEnter c) ∧ (¬on → run → s.bmFollow c = s.bmLeave c) ∧
    ((on ↔ run) → s.bmFollow c = s) ∧
    (s.wf = true → (s.bmEnter c).is (F.BM_STAT.RUN c) = true ∧ ((s.bmEnter c).ch c).bm.fresh = true ∧
      (s.bmLeave c).is (F.BM_STAT.RUN c) = false ∧ ((s.bmLeave c).ch c).bm.writes = [])

/-- The steps of one update (R8, R136, R139): a relaxation pair with no resistance or capacitance is 0, one under a
constant current moves toward I × Rp, the remainder keeps what the division dropped, and results saturate as i64; the
hysteresis with HMAX 0 is 0 and stays within ± HMAX. -/
def ModelArithmetic : Prop :=
  ∀ (i rp cp v rem hmax hq h : Int), 0 ≤ rp → 0 ≤ cp → 0 ≤ hmax → 0 < hq →
    let sat := fun x : Int => max (-(2 ^ 63)) (min (2 ^ 63 - 1) x)
    let tau := max (sat (rp * cp)) 100000
    let num := sat (sat (sat ((sat (i * rp)).tdiv 1000 - v) * 1000) + rem)
    let hm := sat (hmax * 10000000)
    let r := relaxPair i rp cp v rem
    (rp = 0 ∨ cp = 0 → r = (0, 0, false)) ∧
    (rp ≠ 0 → cp ≠ 0 → r.1 = sat (v + num.tdiv tau) ∧ r.2.1 = num - num.tdiv tau * tau ∧
      r.2.1.natAbs < tau.natAbs ∧ (r.2.2 = true ↔ rp * cp < 100000)) ∧
    (hmax = 0 → hystStep i hmax hq h = 0) ∧
    (h.natAbs ≤ hm.natAbs → i.natAbs ≤ (sat (hq * 1000000000000)).natAbs →
      (hystStep i hmax hq h).natAbs ≤ hm.natAbs) ∧
    (i = 0 → 0 < hmax → sat h = h → hystStep i hmax hq h = h)

/-- A table the model accepts (R134, Table 05-1): its header fields, its placement in the tables region aligned to 64
bytes, and its grid values in range. -/
def ModelTableChecks : Prop :=
  ∀ (s : State) (a : Nat), s.bmTblOk a = true →
    a % 64 = 0 ∧ 0x10E00000 ≤ a ∧ a + 8256 ≤ 0x11A00000 ∧ bitsOf (s.ldWord a) 31 24 = 1 ∧ s.ldWord (a + 4) ≠ 0 ∧
    (s.ldWord (a + 0x10)).toNat ≤ 100000 ∧ (s.ldWord (a + 0x14) ≠ 0 ∨ s.ldWord (a + 0x10) = 0) ∧
    (∀ k, k < 7 → s.bmT a k < s.bmT a (k + 1)) ∧
    (∀ p, p < 512 → (s.ldWord (a + 0x40 + 16 * p + 4)).toNat ≤ 10000000 ∧
      (s.ldWord (a + 0x40 + 16 * p + 8)).toNat ≤ 10000000 ∧ (s.ldWord (a + 0x40 + 16 * p + 12)).toNat ≤ 10000000)

/-! ### Charging -/

/-- One tick, the timers and the controls of a charger (R153, R157, R159, R160, R167, R170, R171, R333, R335); PACK's
stands still while no feed is connected, and its coulomb count goes on. -/
def ChargerCommands : Prop :=
  ∀ (rq : Requester) (k : Fin 25) (m : TickMeans) (v : Int) (s : State), canWrite rq (R.CG_CTRL k) = true →
    let g := s.chargers[k]
    let t := s.opsFirst k
    let p := s.packCount k m
    let on := (p.chargers[k]).running = true ∧ p.packHeld k = false
    (on → exec (.chargeTick k m) s = .next (p.cgTick k m)) ∧ (¬on → exec (.chargeTick k m) s = .next p) ∧
    (k.val < 24 → p = s ∧ p.packHeld k = false) ∧
    (g.running = true → g.moved = false → s.phaseDue k = true → exec (.phaseTimerExpiry k) s = .next (s.phaseExpiry k)) ∧
    (g.running = false ∨ s.phaseDue k = false → exec (.phaseTimerExpiry k) s = .next s) ∧
    (g.running = true → g.moved = false → s.totalDue k = true → exec (.totalTimerExpiry k) s = .next (s.cgFault k 5)) ∧
    (g.running = false ∨ s.totalDue k = false → exec (.totalTimerExpiry k) s = .next s) ∧
    (g.running = true → g.moved = false → s.phase k = 2 → s.nimh k = true →
      s.get (F.CG_NIMH.HOLDOFF k) * 10000 < g.holdoff → exec (.nimhTerminationTest k v) s = .next (s.nimhTest k v)) ∧
    (g.running = false ∨ s.phase k ≠ 2 ∨ s.nimh k = false → exec (.nimhTerminationTest k v) s = .next s) ∧
    (g.running = true → s.phase k ≠ 7 → exec (.batOv k) s = .next (s.cgFault k 1)) ∧
    (g.running = false ∨ s.phase k = 7 → exec (.batOv k) s = .next s) ∧
    ((t.chargers[k]).running = true →
      exec (.cgClear rq k) s = .next (t.modCg k fun g => { g with clear := true }) ∧
      exec (.cgRestart rq k) s = .next (t.modCg k fun g => { g with restart := true })) ∧
    ((t.chargers[k]).running = false → exec (.cgClear rq k) s = .next t ∧ exec (.cgRestart rq k) s = .next t) ∧
    exec (.loadPreset rq k) s = .next (t.loadPreset k)

/-- A NiMH termination test (R159): a fall of DV_THR below the peak in two tests in a row, or a rise of DTDT_THR within a
minute, ends CC; the peak follows the highest mean. -/
def NimhTests : Prop :=
  ∀ (s : State) (k : Fin 25) (v p : Int), s.wf = true → (s.chargers[k]).peak = some p →
    let g := s.chargers[k]
    let thr : Int := (s.get (F.CG_NIMH.DV_THR k) : Int) * 10
    let n := if v ≤ p - thr then g.below + 1 else 0
    let u := s.nimhTest k v
    (n < 2 → s.is (F.CG_CFG.DTDT_EN k) = false →
      u.chargers[k] = { g with peak := some (max p v), below := n } ∧
      u.regs = s.regs ∧ u.mem = s.mem ∧ u.chans = s.chans) ∧
    (s.is (F.CG_CFG.DV_EN k) = true → 2 ≤ n → u.get (F.CG_LATCH.DV_TERM k) = 1 ∧ u.phase k = s.afterCv k) ∧
    (s.is (F.CG_CFG.DTDT_EN k) = true → s.is (F.CG_CFG.THERM_EN k) = true → 61 ≤ g.temps.length →
      (s.get (F.CG_NIMH.DTDT_THR k) : Int) ≤ g.temps.headD 0 - g.temps.getLastD 0 →
      u.get (F.CG_LATCH.DTDT_TERM k) = 1 ∧ u.phase k = s.afterCv k)

/-- What ends a phase when its timer expires (Table 06-2, Table 06-5): a fault of the phase's code, or the next phase;
TOTAL_TMO goes first. -/
def PhaseTimers : Prop :=
  ∀ (s : State) (k : Fin 25),
    (s.totalDue k = true → s.phaseExpiry k = s.cgFault k 5) ∧
    (s.totalDue k = false →
      (s.phase k = 0 → s.phaseExpiry k = s.cgFault k 2) ∧ (s.phase k = 1 → s.phaseExpiry k = s.cgFault k 3) ∧
      (s.phase k = 2 → s.phaseExpiry k = s.cgFault k 4) ∧
      (s.phase k = 3 → s.phaseExpiry k = (s.set (F.CG_LATCH.CV_TMO k) 1).enterPhase k (s.afterCv k)) ∧
      (s.phase k = 4 → s.phaseExpiry k = s.enterPhase k (if s.is (F.CG_CFG.MAINT_EN k) then 5 else 6)) ∧
      (s.phase k = 5 → s.phaseExpiry k = s.enterPhase k 6) ∧ (s.phase k = 8 → s.phaseExpiry k = s.cgFault k 6)) ∧
    s.afterCv k = (if s.get (F.CG_TMR_2.TA k) ≠ 0 then 4 else if s.is (F.CG_CFG.MAINT_EN k) then 5 else 6)

/-- The order of a tick's tests (R157): CLEAR and RESTART, then faults in the order of R170, then REST, then the exit of
the phase; one transition at most. A path that is lost faults the charger at once (R150). -/
def ChargeTickOrder : Prop :=
  ∀ (s : State) (k : Fin 25) (m : TickMeans),
    let g := s.chargers[k]
    let s1 := s.modCg k fun g => { g with clear := false, restart := false }
    let asked := (g.clear = true ∧ g.restart = true) ∨ (g.clear = true ∧ s.phase k = 7) ∨ (g.restart = true ∧ s.phase k ≠ 7)
    (asked → s.cgTests k m = s1.enterPhase k 0) ∧
    (¬asked → (∀ e, s1.cgFaultOf k = some e → s.cgTests k m = s1.cgFault k e) ∧
      (s1.cgFaultOf k = none → (∀ w, s1.restDue k = some w → s.cgTests k m = s1.enterRest k w) ∧
        (s1.restDue k = none → s.cgTests k m = s1.cgExit k m))) ∧
    (s.phase k = 7 → s.cgFaultOf k = none) ∧
    (s.phase k ≠ 7 → s.phase k ≠ 6 → s.holds k 6 = true → s.cgFaultOf k = some 7) ∧
    (s.phase k ≠ 7 → s.phase k = 6 ∨ s.holds k 6 = false → s.cgOrderOk k = false → s.cgFaultOf k = some 10) ∧
    (s.phase k ≠ 7 → s.phase k = 6 ∨ s.holds k 6 = false → s.cgOrderOk k = true → g.lost = true →
      s.cgFaultOf k = some 8) ∧
    (g.lost = false → s.phase k ≠ 7 → s.cgLost k = (s.modCg k fun g => { g with lost := true }).cgFault k 8)

/-- Entering a phase, and a fault (R156, R157, R160, R170): PHASE, the timers at zero, T_TOTAL kept but at QUALIFY; a
fault stores its code, stops the current and raises the channel's charge source. -/
def PhaseEntries : Prop :=
  ∀ (s : State) (k : Fin 25) (c : Fin 24) (p code : Nat), s.wf = true → p < 9 → code < 16 →
    let u := s.enterPhase k p
    u.get (F.CG_STAT.PHASE k) = p ∧ u.get (F.CG_STAT.RREASON k) = 0 ∧ (u.chargers[k]).phaseMs = 0 ∧
    (u.chargers[k]).restMs = 0 ∧ (u.chargers[k]).totalMs = (if p = 0 then 0 else (s.chargers[k]).totalMs) ∧
    (p = 6 → u.get (F.CG_LATCH.DONE k) = 1) ∧ u.mem = s.mem ∧ (∀ j, j ≠ k → u.chargers[j] = s.chargers[j]) ∧
    (k.val = c.val → s.linkDown (c / 4) = false →
      let f := s.cgFault k code
      f.get (F.CG_STAT.PHASE k) = 7 ∧ f.get (F.CG_STAT.FCODE k) = code ∧ f.get (F.CG_LATCH.FAULT k) = 1 ∧
      f.geti (F.CG_IEFF.I_CHG k) = 0 ∧ ∃ r ∈ f.reports, r.src = 12 * c.val + 9 ∧ r.cond = 1)

/-- The charge current's target by phase and zone (Table 06-1, R161). -/
def ChargeTargets : Prop :=
  ∀ (s : State) (k : Fin 25), s.get (F.CG_STAT.ZONE k) = 2 →
    let i := fun (f : Fld) => (s.get f : Int)
    (s.phase k = 1 → s.cgTarget k = i (F.CG_I_PRE.VALUE k)) ∧ (s.phase k = 2 → s.cgTarget k = i (F.CG_I_CC.VALUE k)) ∧
    (s.phase k = 3 → s.cgTarget k = i (F.CG_I_CC.VALUE k)) ∧
    (s.phase k = 4 → s.nimh k = true → s.cgTarget k = i (F.CG_I_PRE.VALUE k)) ∧
    (s.phase k = 4 → s.nimh k = false → s.cgTarget k = i (F.CG_I_CC.VALUE k)) ∧
    (s.phase k = 5 → s.cgTarget k = i (F.CG_I_MAINT.VALUE k)) ∧
    (s.phase k = 0 ∨ 6 ≤ s.phase k → s.cgTarget k = 0)

/-- LOAD_PRESET (R167): a cell count of 0, above 40, or an OVP above 60 V is refused and stores nothing; else the voltages
are the column's times the cells and the currents the column's times the capacity, clamped at 20 A. -/
def PresetsLoad : Prop :=
  ∀ (s : State) (k : Fin 25), s.wf = true → s.get (F.CG_CFG.CHEM k) ≤ 4 →
    let p := presetOf (s.get (F.CG_CFG.CHEM k))
    let n := s.get (F.CG_CFG.NCELL k)
    let cap := s.get (F.CG_CAP.CAP k)
    let u := s.loadPreset k
    (n = 0 ∨ 40 < n ∨ 6000000 < p.1.getD 4 0 * 100 * n → u = s.set (F.CG_STAT.CFG_REJ k) 1) ∧
    (0 < n → n ≤ 40 → p.1.getD 4 0 * 100 * n ≤ 6000000 →
      u.get (F.CG_V_CV.VALUE k) = p.1.getD 0 0 * 100 * n ∧ u.get (F.CG_V_OVP.VALUE k) = p.1.getD 4 0 * 100 * n ∧
      u.get (F.CG_I_CC.VALUE k) = min (p.2.1.getD 0 0 * cap) 20000000 ∧
      u.get (F.CG_I_TERM.VALUE k) = min (p.2.1.getD 2 0 * cap) 20000000 ∧
      u.get (F.CG_ZONE_ADJ.THYS k) = 20 ∧ u.get (F.CG_TMR_0.TA k) = 10 ∧
      u.get (F.CG_CFG.NCELL k) = n ∧ u.get (F.CG_CAP.CAP k) = cap ∧ u.mem = s.mem ∧ u.chargers = s.chargers)

/-! ### Measurement -/

/-- Ranges, handovers and converter units (R179 to R184, R188 to R191). -/
def RangesStagesAndUnits : Prop :=
  ∀ (rq : Requester) (c : Fin 24) (u : Fin 3) (w : Word) (met : Bool) (r a : Nat) (s : State),
    canWrite rq (R.MS_AUTO c) = true →
    let f := (s.ch c).fe
    let t := s.opsFirst c
    let bad := bitsOf w 31 16 = 0 ∨ 5 < bitsOf w 10 8 ∨ 5 < bitsOf w 2 0
    let act := s.get (F.MS_STAGE.ACT c)
    (bad → exec (.msAutoWrite rq c w) s = .next (t.rej rq (R.MS_AUTO c))) ∧
    (¬bad → bitsOf w 2 0 < bitsOf w 10 8 → exec (.msAutoWrite rq c w) s = .next (t.set (F.MS_STAT.CFG_REJ c) 1)) ∧
    (¬bad → bitsOf w 10 8 ≤ bitsOf w 2 0 → exec (.msAutoWrite rq c w) s =
      .next (((t.set (F.MS_AUTO.DOWN_HOLD c) (bitsOf w 31 16)).set (F.MS_AUTO.ICEIL c) (bitsOf w 10 8)).set
        (F.MS_AUTO.IFLOOR c) (bitsOf w 2 0))) ∧
    (f.chg = some r → ∃ v : State, exec (.rangeChangeDone c) s = .next (v.heldRange c) ∧
      v.regs = ((s.set (F.MS_RANGE.IACT c) r).set (F.MS_STAT.RCHG c) 0).regs ∧ (v.ch c).fe.chg = none ∧
      (v.ch c).fe.downI = 0) ∧
    (f.chg = none → exec (.rangeChangeDone c) s = .next s) ∧
    (f.calib = true → 3 ≤ f.units.length → s.supRuns c = true →
      exec (.calibrationDone c) s = .next (s.modFe c fun f => { f with calib := false, spareOk := true })) ∧
    (f.calib = false ∨ f.units.length < 3 ∨ s.supRuns c = false → exec (.calibrationDone c) s = .next s) ∧
    (s.measBusy c = true → exec (.converterRotation c) s = .next s) ∧
    (s.measBusy c = false → exec (.converterRotation c) s = .next (s.rotate c false)) ∧
    exec (.forcedRotation c) s = .next (s.rotate c true) ∧
    ((s.ch c).convBad.contains u.val = true → exec (.converterFence c u) s = .next s) ∧
    ((s.ch c).convBad.contains u.val = false → ∃ v : State,
      exec (.converterFence c u) s = .next (if f.units.length < 3 then v.fenceCh c else v) ∧
      (v.ch c).convBad = (s.ch c).convBad ++ [u.val] ∧ (v.ch c).fe.spareOk = false ∧ v.regs = s.regs) ∧
    (f.units.length = 2 → f.calPlace = none →
      exec (.inPlaceCalibration c) s = .next (s.modFe c fun f => { f with calPlace := some (f.oldest % 2) })) ∧
    (f.units.length ≠ 2 ∨ f.calPlace ≠ none → exec (.inPlaceCalibration c) s = .next s) ∧
    (f.calPlace = none → exec (.inPlaceCalibrationEnd c) s = .next s) ∧
    (f.calPlace = some a →
      exec (.inPlaceCalibrationEnd c) s = .next (s.modFe c fun f => { f with calPlace := none, oldest := 1 - a % 2 })) ∧
    (s.canHandover c = true → (s.curMode c).stage = 2 → act = 0 → 40000 ≤ f.still →
      exec (.stillQualified c) s = .next (s.handoverIn c)) ∧
    (f.still < 40000 → exec (.stillQualified c) s = .next s) ∧
    (act = 2 → ∃ v : State, exec (.handoverDone c met) s =
        .next ((((v.signal 0x07 c (v.stageWord c)).reresolve c).heldRange c).resumePath c) ∧
      v.regs = ((s.set (F.MS_STAGE.ACT c) 1).inc (F.MS_STAGE.HCNT c)).regs) ∧
    (act = 3 → met = true → ∃ v : State, exec (.handoverDone c met) s =
        .next ((((v.signal 0x07 c (v.stageWord c)).reresolve c).heldRange c).resumePath c) ∧
      v.regs = ((s.set (F.MS_STAGE.ACT c) 0).inc (F.MS_STAGE.HCNT c)).regs) ∧
    (act = 3 → met = false → ∃ v : State, exec (.handoverDone c met) s =
        .next ((((v.signal 0x07 c (v.stageWord c)).reresolve c).heldRange c).resumePath c) ∧
      v.regs = (((s.set (F.MS_STAGE.ACT c) 0).inc (F.MS_STAGE.HCNT c)).set (F.MS_LATCH.HO_LIMIT c) 1).regs) ∧
    (act < 2 → exec (.handoverDone c met) s = .next s)

/-- A rotation (R183): with a calibrated spare, the spare takes the place of the unit that has run longest, which is
calibrated next; with none, or while the sector's supervisor does not run, nothing changes (R462). The unit takes the
calibration data in force (R318). -/
def RotationsSwapTheSpare : Prop :=
  ∀ (s : State) (c : Fin 24) (mark : Bool) (v i sp : Nat),
    let f := (s.ch c).fe
    (f.spareOk = false ∨ s.supRuns c = false → s.rotate c mark = s) ∧
    (f.spareOk = true → s.supRuns c = true → f.units = [v, i, sp] →
      let g := ((s.rotate c mark).ch c).fe
      (f.oldest = 0 → g.units = [sp, i, v] ∧ g.oldest = 1) ∧ (f.oldest = 1 → g.units = [v, sp, i] ∧ g.oldest = 0) ∧
      g.spareOk = false ∧ g.calib = true ∧ (s.rotate c mark).regs = s.regs ∧
      g.calOf = f.calOf.set sp s.upd.calGen)

/-- Windows, captures, sweeps and the accumulators' clears, after the operations that the channel took before them (R101,
R192 to R202). -/
def WindowsCapturesAndSweeps : Prop :=
  ∀ (rq : Requester) (c : Fin 24) (s : State), canWrite rq (R.MS_WIN_CTRL c) = true →
    let t := s.opsFirst c
    let asks := fun (r : Option Bool) => (t.wakeCh c).modFe c fun f => { f with winReq := f.winReq ++ [r] }
    let a := t.get (F.MS_SWP_ADDR.ADDR c) * 16
    let begun := ((((if (t.ch c).fe.win.step = 0xFFFFFFFF then t else t.closeWin c true).set (F.MS_SWP_CTRL.RUN c) 1).setb
      (F.MS_SWP_STAT.PAUSED c) (t.is (F.MS_STAT.SLACK c) && (t.sweepHdr a).policy == 1)).set (F.MS_SWP_STAT.STEP c) 0).modFe c
        fun f => { f with sweep := t.sweepHdr a }
    let w := (s.ch c).fe.win
    let clears := fun (i : Instr) (bit : Nat) =>
      exec i s = .next (s.modFe c fun f => { f with clr := f.clr ||| 2 ^ bit })
    (t.is (F.MS_SWP_CTRL.RUN c) = true →
      exec (.windowStart rq c) s = .next (t.set (F.MS_STAT.CFG_REJ c) 1) ∧
      exec (.windowStop rq c) s = .next (t.set (F.MS_STAT.CFG_REJ c) 1)) ∧
    (t.is (F.MS_SWP_CTRL.RUN c) = false →
      exec (.windowStart rq c) s = .next (asks (some false)) ∧ exec (.windowStop rq c) s = .next (asks none)) ∧
    (w.full = false → exec (.windowEnd c) s = .next s) ∧
    (w.full = true → w.step = 0xFFFFFFFF →
      (s.is (F.MS_WIN_CTRL.REPEAT c) = false ∨ s.is (F.MS_SWP_CTRL.RUN c) = true →
        exec (.windowEnd c) s = .next (s.closeWin c false)) ∧
      (s.is (F.MS_WIN_CTRL.REPEAT c) = true → s.is (F.MS_SWP_CTRL.RUN c) = false → exec (.windowEnd c) s =
        .next ((s.closeWin c false).openWin c ((s.closeWin c false).rd (R.MS_WIN_LEN c)).toNat false 0xFFFFFFFF))) ∧
    (w.full = true → w.step ≠ 0xFFFFFFFF → exec (.windowEnd c) s =
      .next (if w.step + 1 = (s.ch c).fe.sweep.n ∧ s.is (F.MS_SWP_CTRL.RUN c) = true
        then (s.closeWin c false).sweepDone c else s.closeWin c false)) ∧
    exec (.captureStart rq c) s =
      .next ((t.wakeCh c).modFe c fun f => { f with capReq := f.capReq ++ [some false] }) ∧
    exec (.captureStop rq c) s = .next (t.modFe c fun f => { f with capReq := f.capReq ++ [none] }) ∧
    (t.sweepOk a = false →
      exec (.sweepStart rq c) s = .next ((t.set (F.MS_LATCH.SWP_ERR c) 1).set (F.MS_STAT.CFG_REJ c) 1)) ∧
    (t.sweepOk a = true →
      exec (.sweepStart rq c) s = .next ((begun.sweepCheck begun.count begun.count 1 c).wakeCh c)) ∧
    (t.is (F.MS_SWP_CTRL.RUN c) = false → exec (.sweepAbort rq c) s = .next t) ∧
    (t.is (F.MS_SWP_CTRL.RUN c) = true → exec (.sweepAbort rq c) s =
      .next ((if (t.ch c).fe.win.opened then t.closeWin c true else t).sweepDone c)) ∧
    clears (.clrEout rq c) 0 ∧ clears (.clrQout rq c) 1 ∧ clears (.clrEbat rq c) 2 ∧ clears (.clrQbat rq c) 3

/-- The results of a window (R193): over the samples it holds, minima, maxima, truncated means, and the integer square
roots of the mean squares. -/
def WindowResults : Prop :=
  ∀ (w : Window) (v i : Int) (fl d x : Nat),
    let u := w.add v i fl d x
    u.n = w.n + 1 ∧ u.sv = w.sv + v ∧ u.si = w.si + i ∧ u.sp = w.sp + v * i ∧ u.flags = w.flags ||| fl ∧
    (w.n = 0 → u.vmin = v ∧ u.vmax = v ∧ u.imin = i ∧ u.imax = i ∧ u.d0 = d ∧ u.x0 = x) ∧
    (w.n ≠ 0 → u.vmin = min w.vmin v ∧ u.vmax = max w.vmax v ∧ u.d0 = w.d0 ∧ u.x0 = w.x0) ∧ u.d1 = d ∧ u.x1 = x ∧
    (winResults w).length = 10 ∧ (winResults w).getD 2 0 = w.sv.tdiv w.n ∧ (winResults w).getD 6 0 = w.si.tdiv w.n ∧
    (∀ q, q < 2 ^ 192 → isqrt q * isqrt q ≤ q ∧ q < (isqrt q + 1) * (isqrt q + 1))

/-- An energy or charge accumulator (R8, R195): residue and accumulator together keep every quantum, the residue stays
below one, and a result beyond an i64 saturates. -/
def AccumulatorsKeepEveryQuantum : Prop :=
  ∀ res acc d q : Int, 0 < q → res.natAbs < q.natAbs →
    let sat := fun x : Int => max (-(2 ^ 63)) (min (2 ^ 63 - 1) x)
    let t := sat (res + sat d)
    let r := accStep res acc d q
    r.2 = sat (acc + t.tdiv q) ∧ t.tdiv q * q + r.1 = t ∧ r.1.natAbs < q.natAbs ∧
    (sat d = d → t = res + d → sat (acc + t.tdiv q) = acc + t.tdiv q → r.2 * q + r.1 = acc * q + res + d)

/-- Rounding to the nearest with ties away from zero (R195). -/
def RoundingToNearest : Prop :=
  ∀ (a : Int) (b : Nat), 0 < b →
    let n := roundDiv a b
    2 * (n * b - a).natAbs ≤ b ∧ (2 * (n * b - a).natAbs = b → a.natAbs < (n * b).natAbs) ∧ roundDiv (-a) b = -n

/-! ### The control sample -/

/-- What a sample does and in which order (R100, R101, R127, R494): results, requests, armed events, the mode, the
accumulators, the law; a disputed sample leaves its inputs to the next and repeats the on-times; while boot discharges OUT
no mode is applied. -/
def ControlSampleOrder : Prop :=
  ∀ (c : Fin 24) (x : Sample) (s : State),
    let fe := s.domOn (3 * c + 2) = true
    let s1 := (s.upset c x.upset).measure c x
    let s2 := if s1.domOn (3 * c) then s1.vinCheck c x.vin else s1
    let s3 := ((s2.takeReqs c).takeInputs c).portSample c
    let s4 := (if s3.domOn (3 * c) = true ∧ (s3.ch c).drain = false then s3.applyMode c else s3).bmFollow c
    let d := s2.dispute c x.errA x.errB
    (s2.disputed c = false → exec (.controlSample c x) s =
      .next ((((if fe then s4.accumulate c x.coarse (s4.vTarget c) else s4).batCounts c).law c x).sampleEnd c)) ∧
    (s2.disputed c = true → exec (.controlSample c x) s =
      .next (((((if fe then (d.winFull c).accumulate c x.coarse (d.vTarget c) else d).batCounts c).legsRepeat c x).supervise
        c false).sampleEnd c))

/-- The results of a sample (R72, R97, R173, R178): the registers hold the sample; a current beyond its range's full scale
is taken from the coarse sense and marked OVR; under local sense, and on a follower, V is taken at OUT. -/
def SampleResults : Prop :=
  ∀ (c : Fin 24) (x : Sample) (s : State), s.wf = true → (s.ch c).fe.chg = none → (s.ch c).fe.calPlace = none →
    let u := s.latch c x
    let loc := s.is (F.PS_STAT.LOCAL c) = true ∨ s.get (F.PS_GANG.ROLE c) = 2
    let v := if loc then x.vloc else x.v
    let ovr := rangeFs (s.get (F.MS_RANGE.IACT c)) < x.i.natAbs ∨ vrangeFs (s.get (F.MS_RANGE.VACT c)) < v.natAbs
    let fits := fun (v : Int) => -(2 ^ 63) ≤ v ∧ v < 2 ^ 63
    (fits v → u.result c 0 = v) ∧ (fits x.vloc → u.result c 1 = x.vloc) ∧
    (fits x.vbat → u.result c 4 = x.vbat) ∧ (fits x.ibat → u.result c 5 = x.ibat) ∧ (fits x.vin → u.result c 6 = x.vin) ∧
    (fits x.i → x.i.natAbs ≤ rangeFs (s.get (F.MS_RANGE.IACT c)) → u.result c 2 = x.i) ∧
    (fits x.coarse → rangeFs (s.get (F.MS_RANGE.IACT c)) < x.i.natAbs → u.result c 2 = x.coarse) ∧
    (u.get (F.MS_STAT.OVR c) = 1 ↔ ovr) ∧ u.mem = s.mem

/-- The engines of a channel (R126 to R128): a sample is disputed where both run and their states differ; the engine that
reports an error is fenced, and engine B where neither does. -/
def DisputedEngines : Prop :=
  ∀ (s : State) (c : Fin 24) (k : Fin 25), k.val = c.val →
    let m := s.inc (F.RG_ENG.MISMATCH c)
    (s.disputed c = true ↔ (s.enginesOk c).length = 2 ∧ s.domOn (3 * c + 1) = true ∧
      ((s.ch c).eng ≠ (s.ch c).engB ∨ (s.ch c).bm ≠ (s.ch c).bmB ∨ s.chargers[k] ≠ s.chargersB[k])) ∧
    s.dispute c true false = m.fenceEngine c 0 false ∧ s.dispute c false true = m.fenceEngine c 1 false ∧
    s.dispute c false false = m.fenceEngine c 1 true ∧
    s.dispute c true true = (m.fenceEngine c 0 false).fenceEngine c 1 false ∧
    (∀ b, s.get (F.RG_ENG.ENG_A c) ≠ 0 → s.fenceEngine c 0 b = s) ∧
    (s.engineFrom c 0).disputed c = false ∧ (s.engineFrom c 1).disputed c = false

/-! ### House power -/

/-- Feeds (R321 to R324, R326, R328): qualification, loss of it, failures and trips. -/
def FeedsQualifyAndFail : Prop :=
  ∀ (rq : Requester) (f : Fin 2) (s : State),
    let st := s.feed f
    let live := st = 3 ∨ st = 4
    let bit := fun (b : Nat → Fld) => (b f : Fld)
    (st ≤ 1 → exec (.feedQualified f) s = .next ((s.set (F.FD_STAT.STATE f) 2).houseEvt 0x03 f).selTry) ∧
    (1 < st → exec (.feedQualified f) s = .next s) ∧
    (st ≤ 2 → exec (.feedDisqualify f true) s = .next (s.set (F.FD_STAT.STATE f) 0) ∧
      exec (.feedDisqualify f false) s = .next (s.set (F.FD_STAT.STATE f) 1)) ∧
    (2 < st → ∀ d, exec (.feedDisqualify f d) s = .next s) ∧
    exec (.feedFailure f false) s = .next (s.feedFail f 1 (bit F.FD_LATCH.UV)) ∧
    exec (.feedFailure f true) s = .next (s.feedFail f 1 (bit F.FD_LATCH.OV)) ∧
    exec (.feedFastTrip f) s = .next (s.feedFail f 5 (bit F.FD_LATCH.FAST)) ∧
    exec (.feedBurstTrip f) s = .next (s.feedFail f 5 (bit F.FD_LATCH.BURST)) ∧
    exec (.feedTimedTrip f) s = .next (s.feedFail f 5 (bit F.FD_LATCH.TIMED)) ∧
    (st = 3 → exec (.inrushFail f) s = .next (s.feedFail f 5 (bit F.FD_LATCH.INRUSH_FAIL))) ∧
    (¬live → ∀ n b, s.feedFail f n b = s) ∧
    (live → ∀ (n : Nat) (b : Fld), n < 8 → b = bit F.FD_LATCH.UV ∨ b = bit F.FD_LATCH.FAST → s.wf = true →
      s.src = f.val + 1 →
      let u := s.feedFail f n b
      u.feed f = n ∧ u.get b = 1 ∧ u.get (F.FD_LATCH.FAILOVER f) = 1 ∧ u.src = 4 ∧ u.house.failed = some f.val) ∧
    (live → s.is (F.FD_CFG.REV_EN f) = true → exec (.feedReverseCurrent f) s = .next (s.set (F.FD_STAT.REV f) 1)) ∧
    (live → s.is (F.FD_CFG.REV_EN f) = false → exec (.feedReverseCurrent f) s =
      .next (s.modHouse fun h => { h with opened := f.val :: h.opened.filter (· != f.val) })) ∧
    (¬live → exec (.feedReverseCurrent f) s = .next s) ∧
    exec (.feedDiodeReclose f) s =
      .next ((s.set (F.FD_STAT.REV f) 0).modHouse fun h => { h with opened := h.opened.filter (· != f.val) }) ∧
    (s.wf = true → ∃ u, exec (.fdLatchRead rq f) s = .next u ∧ u.rd (R.FD_LATCH f) = s.rd (R.FD_LATCH f) &&& 0xFFFFFF80 ∧
      (st ≠ 5 → u.feed f = st) ∧ (st = 5 → u.feed f ≤ 1))

/-- The selector (R323, R325, R327, R334): what the end of the break connects, an inrush that completes, the return to the
priority feed, a commanded switchover, and the warning output (R331). -/
def TheSelector : Prop :=
  ∀ (rq : Requester) (f : Fin 2) (v : Nat) (w : Word) (why : Fin 3) (level : Bool) (s : State), canWrite rq R.HSE_SEL_CTRL = true →
    let p := s.get F.HSE_SEL_CFG.PRI
    let g := bitsOf w 0 0
    let free := s.modHouse fun h => { h with target := none, failed := none }
    let go := s.feed g = 2 ∧ s.feedTested g = false ∧ s.srcFeed = true ∧ s.is F.HSE_SEL_STAT.SWITCHING = false
    (s.src ≠ 4 → exec (.switchoverConnect level v) s = .next s) ∧
    (s.src = 4 → s.house.target = none → s.pickFeed = some f.val → exec (.switchoverConnect level v) s =
      .next (((((free.ltCloseAt 3 2 (feedLinks f)).set (F.FD_STAT.STATE f) (if level then 4 else 3)).updSwitching).setSrc
        (f + 1)).rebase v)) ∧
    (s.src = 4 → s.house.target = none → s.pickFeeds true = [] → s.pickFeed = none →
      (s.is F.PK_DIS.HOLDUP_EN = true → s.packLive = true → s.get (F.THM_STAT.LEVEL 6) ≠ 4 →
        exec (.switchoverConnect level v) s = .next (((free.ltCloseAt 3 2 [packLink]).setSrc 3).rebase v).selTry) ∧
      (s.is F.PK_DIS.HOLDUP_EN = false ∨ s.packLive = false →
        exec (.switchoverConnect level v) s = .next (((free.ltCloseAt 3 2 [packLink]).setSrc 0).rebase 0).selTry)) ∧
    (s.packLive = true ↔ s.domOn 80 = true ∧ s.domOn 81 = true ∧ s.house.packOff = false) ∧
    (s.feed f ≠ 3 → exec (.inrushComplete f v) s = .next s) ∧
    (s.wf = true → s.feed f = 3 → s.boot.drain = false → s.src = 0 ∨ s.src = 3 → exec (.inrushComplete f v) s =
      .next (((((s.set (F.FD_STAT.STATE f) 4).updSwitching).modHouse fun h => { h with started := true, failed := none }).setSrc
        (f + 1)).rebase v)) ∧
    (s.wf = true → s.feed f = 3 → s.boot.drain = false → s.src ≠ 0 → s.src ≠ 3 → exec (.inrushComplete f v) s =
      .next (((s.set (F.FD_STAT.STATE f) 4).updSwitching).modHouse fun h => { h with started := true, failed := none })) ∧
    (s.is F.HSE_SEL_CFG.RET_EN = true → s.src = 2 - p → s.feed p = 2 → s.feedTested p = false →
      s.is F.HSE_SEL_STAT.SWITCHING = false → exec .returnToPriority s = .next (s.planned p)) ∧
    (s.is F.HSE_SEL_CFG.RET_EN = false → exec .returnToPriority s = .next s) ∧
    (bitOf w 1 = false → exec (.goto rq w) s = .next s) ∧
    (bitOf w 1 = true → go → exec (.goto rq w) s = .next (s.planned g)) ∧
    (bitOf w 1 = true → ¬go → exec (.goto rq w) s = .next (s.set F.HSE_SEL_STAT.CFG_REJ 1)) ∧
    (s.is F.HSE_SEL_STAT.FWARN = false → (if why = 2 then s.lowPack else s.lastFeed) = true →
      exec (.fwarnAssert why) s = .next ((s.set F.HSE_SEL_STAT.FWARN 1).houseEvt 0x04 why)) ∧
    (s.is F.HSE_SEL_STAT.FWARN = true → exec (.fwarnAssert why) s = .next s) ∧
    (s.lowPack = false → exec .fwarnRelease s = .next (s.set F.HSE_SEL_STAT.FWARN 0)) ∧
    (s.lowPack = true → exec .fwarnRelease s = .next s)

/-- The house stage, PACK and HOUSE (R332, R334, R336), and BUS above its limits (R344). -/
def HouseStageAndTap : Prop :=
  ∀ (k : Fin 6) (fast : Bool) (v : Nat) (s : State),
    let pk := fun (u : State) => (u.raise 329 1 0 (u.rd R.PK_LATCH)).packStop
    (s.house.legBad.contains k.val = true → exec (.houseLegFence k) s = .next s) ∧
    (s.house.legBad.contains k.val = false → ∃ u : State,
      exec (.houseLegFence k) s = .next (u.assertL 328 1 k (u.rd R.PK_LATCH)) ∧ u.house.legBad = k.val :: s.house.legBad ∧
      u.regs = (s.set F.PK_LATCH.HLEG 1).regs) ∧
    exec .packSwitchTrip s = .next (pk ((s.set F.PK_LATCH.SW_TRIP 1).modHouse fun h => { h with packOff := true })) ∧
    (s.src ≠ 3 → exec .packCutoff s = .next s ∧ s.packStop = s) ∧
    (s.src = 3 → s.packStop = ((s.setSrc 0).rebase 0).selTry ∧ exec .packCutoff s =
      .next (((s.set F.PK_LATCH.CUTOFF 1).packStop).houseEvt 0x05
        ((i64 (s.rd64 (R.HSE_M_LO 8) (R.HSE_M_HI 8))).toNat / 100000000))) ∧
    (s.houseOn = true → ∃ u : State, exec (.houseTrip fast) s =
        .next (u.houseEvt 0x06 (u.get F.HSE_HOUSE.RETRY - s.house.retries)) ∧ u.house.tripped = true ∧
      u.regs = (s.set F.HSE_LATCH.HOUSE_TRIP 1).regs) ∧
    (s.houseOn = false → exec (.houseTrip fast) s = .next s) ∧
    (s.house.tripped = true → s.is F.HSE_HOUSE.EN = true → s.house.retries < s.get F.HSE_HOUSE.RETRY →
      exec .houseRetry s = .next (s.modHouse fun h => { h with tripped := false, retries := h.retries + 1 })) ∧
    (s.get F.HSE_HOUSE.RETRY ≤ s.house.retries → exec .houseRetry s = .next s) ∧
    (s.house.tripped = false → exec .houseRetryCountRestart s = .next (s.modHouse fun h => { h with retries := 0 })) ∧
    (1000 * s.get F.HSE_SEL_CFG.BUS_HI < v → exec (.busHigh v) s = .next (
      let u := (s.modHouse fun h => { h with sink := h.sink * 9 / 10 }).set F.HSE_LATCH.BUS_HIGH 1
      if s.house.sink = 1000000 then u.houseEvt 0x08 (v / 100) else u)) ∧
    (v ≤ 1000 * s.get F.HSE_SEL_CFG.BUS_HI → 1000 * s.get F.HSE_SEL_CFG.BUS_HI ≤ v + 1000 →
      exec (.busHigh v) s = .next s) ∧
    (v + 1000 < 1000 * s.get F.HSE_SEL_CFG.BUS_HI → exec (.busHigh v) s =
      .next (s.modHouse fun h => { h with sink := min 1000000 (h.sink + 10000) })) ∧
    (∃ u : State, exec (.busOv true) s = .next (u.assertL 331 1 0 (u.rd R.HSE_LATCH)) ∧ u.house.busOv = true ∧
      u.regs = (s.set F.HSE_LATCH.BUS_OV 1).regs) ∧
    exec (.busOv false) s = .next ((s.modHouse fun h => { h with busOv := false }).deassertL 331 1)

/-! ### The power ledger -/

/-- The books of the ledger (R338): both identities, the pools within Table 12-6, and messages of tiles that exist. -/
structure Books (s : State) : Prop where
  cont : s.pool + s.lent = s.sumCont + s.houseAcct + s.free
  brst : s.burstPool = s.sumBurst + s.lent + s.bfree
  caps : s.pool ≤ 6000 ∧ s.burstPool ≤ 9000
  who  : (∀ a ∈ s.ledger.asks, a.who ≤ 24 ∧ (a.who = 24 → a.burst = 0)) ∧ (∀ q ∈ s.ledger.queue, q.1 ≤ 24) ∧
    (∀ q ∈ s.ledger.bqueue, q.1 < 24) ∧ (∀ b ∈ s.ledger.backs, b.who ≤ 24) ∧ (∀ c ∈ s.ledger.recent, c < 24)
  wf   : s.wf = true

/-- Does a command belong to the ledger and the selector? -/
def ofLedger : Instr → Bool
  | .ledgerRebase _ | .reclaimComplete | .creditEvaluation _ _ | .creditRequest | .creditGrant | .creditReturn
  | .chargerReclaimAck | .burstWindowClose | .burstWindowRecover | .lentUpdate _ | .switchoverConnect _ _
  | .returnToPriority | .goto _ _ | .packCutoff | .packSwitchTrip | .feedFailure _ _ | .feedQualified _ => true
  | _ => false

/-- Every update of the ledger keeps both identities of R338, from every state in which they hold. -/
def LedgerKeepsItsBooks : Prop :=
  ∀ (i : Instr) (s t : State), ofLedger i = true → Books s → exec i s = .next t → Books t

/-- The ledger's commands (R81, R340 to R346); a channel that leaves BATFED gathers its credits and gives none back. -/
def LedgerCommands : Prop :=
  ∀ (c : Fin 24) (v regen : Nat) (draw : Int) (a : Credit) (rest : List Credit) (s : State),
    let t := s.ledger.tiles.getD c (0, 0)
    let leaves := (s.ch c).pathF = 3 ∧ (s.ch c).dest.any (· != 3) = true ∧ s.domOn (3 * c) = true
    let need := (draw.toNat + 999) / 1000 + s.get F.LG_CFG.HEADROOM
    let step := s.get F.LG_CFG.STEP
    let rsv := s.get (F.LG_RSV.RSV c)
    let cap := s.contCap c
    let cont := min (need - (t.1 + t.2) + step) (cap - t.1)
    let new := if s.srcFeed then min (96 * regen / 100000) (s.lent + s.bfree) else 0
    (s.srcFeed = true → s.ledger.vBase + 2000 < v ∨ v + 2000 < s.ledger.vBase →
      exec (.ledgerRebase v) s = .next (s.rebase v)) ∧
    (s.ledger.vBase ≤ v + 2000 → v ≤ s.ledger.vBase + 2000 → exec (.ledgerRebase v) s = .next s) ∧
    (s.is F.LG_STAT.RECLAIM = false → exec .reclaimComplete s = .next s) ∧
    (s.is F.LG_STAT.RECLAIM = true → ∃ u : State, exec .reclaimComplete s =
        .next (((u.houseEvt 0x07 u.pool).tapAdjust.serve).selTry) ∧
      u.ledger.tiles = allCh.map (fun (c : Fin 24) => (s.get (F.LG_HELD.CONT c), s.get (F.LG_HELD.BURST c)))) ∧
    (leaves → exec (.creditEvaluation c draw) s = .next s) ∧
    (¬leaves → s.domOn (3 * c) = false ∨ (s.ch c).pathF = 3 →
      exec (.creditEvaluation c draw) s = .next (s.giveBack c (t.1 + t.2))) ∧
    (s.domOn (3 * c) = true → (s.ch c).pathF ≠ 3 →
      (t.1 + t.2 < need → exec (.creditEvaluation c draw) s =
        .next (s.askFor c cont (if cap < need then need - (t.1 + t.2) + step - cont else 0))) ∧
      (need ≤ t.1 + t.2 → t.1 + t.2 < rsv → exec (.creditEvaluation c draw) s =
        .next (s.askFor c (rsv - (t.1 + t.2)) 0)) ∧
      (max rsv (need + 2 * step) < t.1 + t.2 → 100 * s.get F.LG_CFG.RET_HOLD ≤ s.ledger.surplus.getD c 0 + 1 →
        exec (.creditEvaluation c draw) s = .next (s.giveBack c (t.1 + t.2 - max rsv (need + step))))) ∧
    (s.ledger.asks = [] → exec .creditRequest s = .next s.serve) ∧
    (s.ledger.asks = a :: rest → exec .creditRequest s = .next (State.serve (s.modLedger fun l =>
      { l with asks := rest, queue := enqueue a.who a.cont l.queue, bqueue := enqueue a.who a.burst l.bqueue }))) ∧
    (s.ledger.grants = a :: rest → exec .creditGrant s = .next (s.modLedger fun l =>
      { l with grants := rest, tiles := l.tiles.modify a.who fun t => (t.1 + a.cont, t.2 + a.burst) })) ∧
    (s.ledger.grants = [] → exec .creditGrant s = .next s) ∧
    (s.ledger.backs = a :: rest → ∃ u : State, exec .creditReturn s = .next u.tapAdjust.serve ∧ u.ledger.backs = rest) ∧
    (s.ledger.chgCall = true → ∃ u : State, exec .chargerReclaimAck s = .next u.serve ∧ u.ledger.chgCall = false ∧
      (s.wf = true → u.get F.LG_HOUSE.CHG = 0 ∧ u.geti (F.CG_IEFF.I_CHG 24) = 0)) ∧
    (s.ledger.chgCall = false → exec .chargerReclaimAck s = .next s) ∧
    (s.is F.LG_STAT.BWIN = true → s.wf = true → ∃ u, exec .burstWindowClose s = .next u ∧ u.sumBurst = 0 ∧
      u.get F.LG_STAT.BWIN = 0 ∧ u.ledger.recover = true ∧ (∀ x ∈ u.ledger.tiles, x.2 = 0)) ∧
    (s.is F.LG_STAT.BWIN = false → exec .burstWindowClose s = .next s) ∧
    (s.ledger.recover = true → s.is F.LG_STAT.BWIN = false →
      exec .burstWindowRecover s = .next (State.serve (s.modLedger fun l => { l with recover := false }))) ∧
    (s.is F.LG_STAT.RECLAIM = true → exec (.lentUpdate regen) s = .next s) ∧
    (s.ledger.recover = false ∨ s.is F.LG_STAT.BWIN = true → exec .burstWindowRecover s = .next s) ∧
    (s.is F.LG_STAT.RECLAIM = false → new < s.lent → exec (.lentUpdate regen) s = .next (s.lentFall (s.lent - new))) ∧
    (s.is F.LG_STAT.RECLAIM = false → s.lent ≤ new → exec (.lentUpdate regen) s =
      .next ((((s.set F.LG_LENT.CREDITS new).set F.LG_FREE.CREDITS (s.free + (new - s.lent))).set F.LG_BFREE.CREDITS
        (s.bfree - (new - s.lent))).tapAdjust.serve))

/-- The pools of Table 12-6 (R339). -/
def LedgerPools : Prop :=
  ∀ (s : State) (v : Nat),
    let i := s.get (F.FD_CFG.ILIM (s.src - 1))
    (s.src = 1 ∨ s.src = 2 → s.poolsAt v = (min 6000 (v * i * 96 / 100000), min 9000 (v * 3 * i * 96 / 200000) -
      min 6000 (v * i * 96 / 100000))) ∧
    (s.src = 3 → 5 ≤ 6 - s.house.legBad.length → s.poolsAt v = (min 6000 (v * s.get F.PK_DIS.IDIS_LIM * 90 / 100000), 0)) ∧
    (s.src = 0 ∨ s.src = 4 → s.poolsAt v = (0, 0)) ∧
    (s.src = 1 → s.get (F.FD_CFG.ILIM 0) = 140 → s.poolsAt 48000 = (6000, 3000) ∧ s.poolsAt 40000 = (5376, 2688)) ∧
    (s.src = 3 → s.house.legBad = [] → s.get F.PK_DIS.IDIS_LIM = 60 → s.poolsAt 46800 = (2527, 0))

/-! ### Type-C ports and USB PD -/

/-- Attach, detach, DRP toggling and error recovery (R363, R364, R365, Table 14-2): an attach takes the orientation, the
data role and VCONN; a detach clears the contract and leaves the parameters as they are. -/
def AttachAndDetach : Prop :=
  ∀ (p : Fin 8) (a : AttachInfo) (s : State), s.wf = true →
    let fits := if s.pdRole p = 3 then a.asSource = (s.port p).rpOn else s.pdRole p = (if a.asSource then 1 else 2)
    (s.attach p = 0 → s.pdRole p ≠ 0 → (s.port p).errRec = false → fits → a.rp.val < 3 →
      exec (.tcAttach p a) s = .next
        (((((((s.setb (F.PD_STAT.DATA_ROLE p) a.asSource).setb (F.PD_STAT.CC_POL p) a.flipped).setb (F.PD_STAT.VCONN_ON p)
          (a.asSource && s.is (F.PD_CFG.VCONN_EN p) && a.ra)).set (F.PD_STAT.PARTNER_RP p)
          (if a.asSource then 0 else a.rp + 1)).pdAttach p a.asSource).pdEvent p (if a.asSource then 0x01 else 0x02)).modPort p
          fun h => { h with ra := a.ra })) ∧
    (s.attach p ≠ 0 ∨ s.pdRole p = 0 ∨ (s.port p).errRec = true → exec (.tcAttach p a) s = .next s) ∧
    (s.attach p = 0 → exec (.tcDetach p) s = .next s) ∧
    (s.attach p ≠ 0 → exec (.tcDetach p) s = .next (s.pdDetach p)) ∧
    (s.pdRole p = 3 → s.attach p = 0 → (s.port p).errRec = false → exec (.drpToggle p) s =
      .next (s.modPort p fun h => { h with rpOn := !h.rpOn })) ∧
    (s.pdRole p ≠ 3 → exec (.drpToggle p) s = .next s) ∧
    (s.pdRole p ≠ 0 → (s.port p).errRec = false → exec (.errorRecovery p) s = .next
      (let t := (s.set (F.PD_LATCH.ERR_RECOVERY p) 1).pdDetach p
       (t.raise (312 + p) 1 0 (t.rd (R.PD_LATCH p))).modPort p fun h => { h with errRec := true })) ∧
    exec (.errorRecoveryEnd p) s = .next (s.modPort p fun h => { h with errRec := false })

/-- What a detach leaves (R364, R365, R366, R373): the port is unattached with no contract and no exchange, and the
re-resolution follows. -/
def DetachClears : Prop :=
  ∀ (p : Fin 8) (s : State), s.wf = true → ∃ t : State, s.pdDetach p = t.reresolve (portCh p) ∧
    t.attach p = 0 ∧ t.get (F.PD_STAT.CONTRACT p) = 0 ∧ t.get (F.PD_STAT.VCONN_ON p) = 0 ∧ t.get (F.PD_STAT.OVR p) = 0 ∧
    t.rd (R.PD_CON_V p) = 0 ∧ t.rd (R.PD_CON_I p) = 0 ∧ (t.port p).ex = .idle ∧ (t.port p).caps = [] ∧
    (t.port p).epr = false ∧ ∀ fn < 10, t.rd (paramAddr p fn) = s.rd (paramAddr p fn)

/-- The partner's Rp, and the source's first capabilities and their resending (R366, R368, R369). -/
def CapabilitiesGoOut : Prop :=
  ∀ (p : Fin 8) (rp : Fin 3) (s : State), s.wf = true →
    let u := s.set (F.PD_STAT.PARTNER_RP p) (rp + 1)
    (s.attach p = 2 → s.get (F.PD_STAT.CONTRACT p) = 0 → exec (.partnerRpChange p rp) s = .next ((u.pdAttachWrites p false).pdGo p)) ∧
    (s.attach p = 2 → s.is (F.PD_STAT.CONTRACT p) = true → exec (.partnerRpChange p rp) s = .next (u.pdGo p)) ∧
    (s.attach p ≠ 2 → exec (.partnerRpChange p rp) s = .next s) ∧
    (s.attach p = 1 → s.is (F.PD_CFG.PD_EN p) = true → (s.port p).ex = .idle →
      (s.is (F.PD_STAT.CONTRACT p) = false → s.advSpr p ≠ [] → exec (.firstSourceCap p) s = .next (s.sendCaps p false)) ∧
      ((s.port p).resend = true → exec (.capabilitiesResend p) s = .next (s.sendCaps p false))) ∧
    (s.is (F.PD_CFG.PD_EN p) = false ∨ s.attach p ≠ 1 →
      exec (.firstSourceCap p) s = .next s ∧ exec (.capabilitiesResend p) s = .next s) ∧
    (s.advSpr p = [] → exec (.firstSourceCap p) s = .next s) ∧
    (∀ must, ∃ m : PdMsg, ((s.sendCaps p must).port p).tx = (s.port p).tx ++ [m] ∧
      ((s.sendCaps p must).port p).ex = .caps must ∧ (s.sendCaps p must).regs = s.regs ∧
      ((s.port p).epr = false → m = datMsg datSourceCap (s.advSpr p)))

/-- The transition of a source (R371): tSrcTransition after the Accept the limit is written, then the voltage by CHRAMP;
PS_RDY follows once the target is reached and SENSE is in its band, and the contract is in force. -/
def SourceTransitions : Prop :=
  ∀ (p : Fin 8) (t : PdTerms) (s : State), s.wf = true → (s.port p).pend = some t →
    let slew := min (s.get (F.PD_SLEW.SLEW p)) (s.get (F.RG_SLEW_VI.VSLEW p))
    ((s.port p).ex = .srcWait → exec (.sourceTransitionStart p) s =
      .next (((s.pdWrite p 1 t.lim).pdWrite p 0 t.v (some slew)).pdEx p .srcRamp)) ∧
    ((s.port p).ex = .srcRamp → s.pdInBand p t.v = true → exec (.psRdySend p) s =
      .next (((s.pdTx p (ctlMsg ctlPsRdy)).pdContract p).pdIdle p)) ∧
    ((s.port p).ex = .srcRamp → s.pdInBand p t.v = false → exec (.psRdySend p) s = .next s) ∧
    ((s.port p).ex = .srcRamp → exec (.sourceTransitionTimeout p) s = .next (s.pdHard p true)) ∧
    ((s.port p).ex ≠ .srcRamp → exec (.sourceTransitionTimeout p) s = .next s) ∧
    (t.pos < 16 → t.kind < 8 → (let u := s.pdContract p
      u.get (F.PD_STAT.CONTRACT p) = (if (s.port p).epr then 2 else 1) ∧ u.get (F.PD_STAT.POS p) = t.pos ∧
      u.get (F.PD_STAT.KIND p) = t.kind ∧ u.rd (R.PD_CON_V p) = BitVec.ofNat 32 t.v ∧
      u.rd (R.PD_CON_I p) = BitVec.ofNat 32 t.i))

/-- A Request is accepted only where every condition of R370 holds; else Reject, or Wait where only the ledger fails and
WAIT_EN is 1, and CONTRACT_REJ. -/
def RequestEvaluation : Prop :=
  ∀ (p : Fin 8) (rdo : Word) (s : State), s.wf = true →
    let o := (s.advAt p (bitsOf rdo 31 28)).bind pdoOf
    let sent := fun (t : State) => (t.port p).tx[(s.port p).tx.length]?
    (o = none → sent (s.pdEvaluate p rdo) = some (ctlMsg ctlReject) ∧
      (s.pdEvaluate p rdo).get (F.PD_LATCH.CONTRACT_REJ p) = 1) ∧
    (∀ d, o = some d →
      let v := (requestOf d rdo).1
      let i := (requestOf d rdo).2.1
      let fits := (requestOf d rdo).2.2 = true ∧ v * i ≤ s.contP (portCh p) * 1000 ∧ (i : Int) * 1000 ≤ s.contI (portCh p)
      let tl := s.ledger.tiles.getD p (0, 0)
      let covered := v * i ≤ (tl.1 + tl.2 + s.free) * 1000000
      (¬fits → sent (s.pdEvaluate p rdo) = some (ctlMsg ctlReject) ∧
        (s.pdEvaluate p rdo).get (F.PD_LATCH.CONTRACT_REJ p) = 1) ∧
      (fits → ¬covered → sent (s.pdEvaluate p rdo) =
          some (ctlMsg (if s.is (F.PD_CFG.WAIT_EN p) then ctlWait else ctlReject)) ∧
        (s.pdEvaluate p rdo).get (F.PD_LATCH.CONTRACT_REJ p) = 1) ∧
      (fits → covered → sent (s.pdEvaluate p rdo) = some (ctlMsg ctlAccept) ∧
        ((s.pdEvaluate p rdo).port p).ex = .srcWait ∧ (s.pdEvaluate p rdo).regs = s.regs))

/-- Timeouts and Hard Resets (R366, R369, R374, R375, R379): which exchange ends in a Hard Reset, which in error recovery,
and which simply ends; what a Hard Reset does as source and as sink. -/
def PdTimeouts : Prop :=
  ∀ (p : Fin 8) (s : State), s.wf = true →
    let ex := (s.port p).ex
    let hard := fun (c : Instr) => exec c s = .next (s.pdHard p true)
    (ex = .caps true ∨ ex = .reqSent ∨ ex = .soft → hard (.senderResponseTimeout p)) ∧
    (ex = .caps false ∨ ex = .get ∨ ex = .drOffer ∨ ex = .vcOffer ∨ ex = .prOffer ∨ ex = .eprAsk →
      exec (.senderResponseTimeout p) s = .next (s.pdIdle p)) ∧
    (ex = .idle → exec (.senderResponseTimeout p) s = .next s ∧ exec (.swapTimeout p) s = .next s) ∧
    (s.attach p = 1 → s.is (F.PD_STAT.CONTRACT p) = true → s.get (F.PD_STAT.KIND p) = 1 → hard (.ppsTimeout p)) ∧
    (s.attach p = 1 → (s.port p).epr = true → hard (.eprKeepaliveTimeout p)) ∧
    (s.attach p ≠ 1 → exec (.ppsTimeout p) s = .next s ∧ exec (.eprKeepaliveTimeout p) s = .next s) ∧
    (∀ sent, exec (.hardReset p sent) s = .next (s.pdHard p sent)) ∧
    (s.attached p = false → ∀ sent, s.pdHard p sent = s) ∧
    (ex = .prSrcRdy ∨ ex = .prSnkWait → exec (.swapTimeout p) s = .next (s.pdRecover p)) ∧
    (s.attach p = 1 → ex = .hard → exec (.psHardResetTimeout p) s =
      .next ((s.set (F.PD_STAT.ATTACH p) 4).reresolve (portCh p))) ∧
    (ex ≠ .hard → exec (.psHardResetTimeout p) s = .next s) ∧
    (s.attach p = 4 → (s.ch (portCh p)).disch = false → exec (.srcRecoverTimeout p) s = .next (s.pdAttach p true)) ∧
    (s.attach p ≠ 4 → exec (.srcRecoverTimeout p) s = .next s) ∧
    (s.attach p = 1 → ∀ sent, ((s.pdHard p sent).port p).ex = .hard ∧
      (s.pdHard p sent).get (F.PD_LATCH.HARD_RESET p) = 1 ∧ (s.pdHard p sent).get (F.PD_STAT.CONTRACT p) = 0 ∧
      (s.pdHard p sent).attach p = 1) ∧
    (s.attach p = 2 → ∀ sent, ∃ t : State, s.pdHard p sent = (t.pdAttachWrites p false).pdEx p .idle ∧
      t.get (F.PD_LATCH.HARD_RESET p) = 1 ∧ t.get (F.PD_STAT.CONTRACT p) = 0 ∧ t.attach p = 2)

/-- A sink keeps its contract alive, retries after Wait or BUSY, and gives up when its retries are used (R374, R380);
a message without GoodCRC ends in a Soft Reset (R379). -/
def SinkKeepsItsContract : Prop :=
  ∀ (p : Fin 8) (t : PdTerms) (s : State), s.wf = true →
    let h := s.port p
    let left := h.tries < s.get (F.PD_RETRY.COUNT p)
    let waiting := s.is (F.PD_STAT.WAITING p)
    let v := s.get (F.PD_CON_V.VALUE p)
    let i := s.get (F.PD_CON_I.VALUE p)
    (s.attach p = 2 → s.is (F.PD_STAT.CONTRACT p) = true → s.get (F.PD_STAT.KIND p) = 1 → h.ex = .idle →
      exec (.ppsRerequest p) s = .next
        (s.pdRequest p { pos := s.get (F.PD_STAT.POS p), kind := 1, v := v, i := i })) ∧
    (s.attach p ≠ 2 → exec (.ppsRerequest p) s = .next s ∧ exec (.eprKeepaliveSend p) s = .next s) ∧
    (s.attach p = 2 → h.epr = true → exec (.eprKeepaliveSend p) s = .next (s.pdTx p (eprControl 3))) ∧
    (waiting = false → exec (.pdRetry p) s = .next s) ∧
    (waiting = true → left → h.ex = .waiting → h.pend = some t → exec (.pdRetry p) s =
      .next ((s.modPort p fun h => { h with tries := h.tries + 1 }).pdRequest p t)) ∧
    (waiting = true → left → h.ex = .vdm → ∀ m, s.pdCurMsg p = some m → ∃ u, exec (.pdRetry p) s = .next u ∧
      (u.port p).tx = h.tx ++ [m] ∧ (u.port p).tries = h.tries + 1 ∧ u.regs = s.regs) ∧
    (waiting = true → ¬left → exec (.pdRetry p) s = .next (s.pdBusy p (h.ex == .vdm))) ∧
    (s.attached p = false → exec (.goodcrcRetryExhausted p) s = .next s) ∧
    (s.attached p = true → h.cur = none → h.ex ≠ .reqSent → exec (.goodcrcRetryExhausted p) s =
      .next (((s.pdTx p (ctlMsg ctlSoftReset)).pdEvent p 0x0A).pdEx p .soft))

/-- Swaps and VCONN (R375, R376, Table 14-5): OUT of the new source at 4.75 V sends PS_RDY; a trip turns VCONN off. -/
def SwapsAndVconn : Prop :=
  ∀ (p : Fin 8) (s : State), s.wf = true →
    ((s.port p).ex = .prSnkUp → exec (.swapVbusReady p) s =
      .next (((s.pdTx p (ctlMsg ctlPsRdy)).pdEvent p 0x06).pdIdle p)) ∧
    ((s.port p).ex ≠ .prSnkUp → exec (.swapVbusReady p) s = .next s) ∧
    (s.is (F.PD_STAT.VCONN_ON p) = false → exec (.vconnTrip p) s = .next s) ∧
    (s.is (F.PD_STAT.VCONN_ON p) = true → exec (.vconnTrip p) s = .next
      (let t := (s.set (F.PD_STAT.VCONN_ON p) 0).set (F.PD_LATCH.VCONN_OC p) 1
       (t.raise (312 + p) 2 0 (t.rd (R.PD_LATCH p))).pdEvent p 0x0F)) ∧
    ((s.port p).ex = .prSrcWait → exec (.sourceTransitionStart p) s = .next (s.pdSwapOff p .prSrcOff)) ∧
    ((s.port p).ex = .prSrcOff → (s.ch (portCh p)).disch = false → exec (.psRdySend p) s =
      .next ((s.pdTx p (ctlMsg ctlPsRdy)).pdEx p .prSrcRdy))

/-- Received messages (R370, R375, R378, Table 14-7): the engine takes a message only while the port is attached and
PD_EN is 1, and takes none while BIST Test Data runs; who answers what. -/
def ReceivedMessages : Prop :=
  ∀ (p : Fin 8) (m : PdMsg) (s : State), s.wf = true →
    let gets := fun (t : State) => exec (.pdMessageReceive p m) s = .next t
    let swaps := fun (ok : Bool) (f : State → State) =>
      gets (if ok then f (s.pdTx p (ctlMsg ctlAccept)) else s.pdTx p (ctlMsg ctlReject))
    (s.is (F.PD_CFG.PD_EN p) = false ∨ (s.attached p = false ∧ s.attach p ≠ 3) ∨ (s.port p).bist = true → gets s) ∧
    (s.is (F.PD_CFG.PD_EN p) = true → s.attached p = true → (s.port p).bist = false → m.rev2 = false → m.sop = 0 → m.extended = false →
      (m.objs = [] →
        (m.mtype = ctlGoodCrc ∨ m.mtype = ctlPing → gets s) ∧
        (m.mtype = ctlDrSwap → swaps (s.is (F.PD_CFG.DRS_EN p)) fun t => t.pdDrSwap p) ∧
        (m.mtype = ctlVconnSwap → swaps (s.is (F.PD_CFG.VCS_EN p)) fun t => t.pdVconnGo p) ∧
        (m.mtype = ctlPrSwap → swaps (s.is (F.PD_CFG.PRS_EN p) && bitsOf (s.rd (R.MD_REQ p)) 31 30 == 3)
          fun t => t.pdSwapGo p) ∧
        (m.mtype = ctlSoftReset → gets ((((s.pdDropOps p).pdTx p (ctlMsg ctlAccept)).pdEvent p 0x0A).pdIdle p)) ∧
        (m.mtype = ctlGetSinkCap → gets (s.pdTx p (datMsg datSinkCap
          (((List.range 7).map fun n => s.rd (R.PD_SNK_PDO p n)).takeWhile (· != 0))))) ∧
        (m.mtype = 19 ∨ m.mtype = 0 → gets (s.pdTx p (ctlMsg ctlNotSupported)))) ∧
      (m.objs ≠ [] →
        (m.mtype = datRequest → s.attach p = 1 → (s.port p).ex ≠ .hard → gets (s.pdEvaluate p (m.objs.headD 0))) ∧
        (m.mtype = datBist → bitsOf (m.objs.headD 0) 31 28 ≠ 8 → gets s) ∧
        (m.mtype = datBist → bitsOf (m.objs.headD 0) 31 28 = 8 → gets (s.modPort p fun h => { h with bist := true })) ∧
        (m.mtype = datAlert ∨ m.mtype = datBattery → (s.port p).rxq.length < 8 → gets
          ((s.modPort p fun h => { h with rxq := h.rxq ++ [m] }).pdEvent p 0x0B)) ∧
        (m.mtype = datAlert → 8 ≤ (s.port p).rxq.length → gets (s.set (F.PD_LATCH.RXDROP p) 1)))) ∧
    (s.is (F.PD_CFG.PD_EN p) = true → s.attached p = true → (s.port p).bist = false → m.rev2 = true → (s.port p).rev2 = false → m.sop = 0 →
      m.extended = false → m.objs = [] → m.mtype = ctlPing →
      ∃ u, gets u ∧ u.get (F.PD_LATCH.REV2 p) = 1 ∧ (u.port p).rev2 = true)

/-- Not_Supported for a request that no program answered, VDM timeouts and BC 1.2 detection (R378, R381, R383). -/
def PdReports : Prop :=
  ∀ (p : Fin 8) (r : Fin 8) (s : State), s.wf = true →
    ((s.port p).answers = [] → exec (.notSupportedReply p) s = .next s) ∧
    (∀ a l, (s.port p).answers = a :: l → ∃ u, exec (.notSupportedReply p) s = .next u ∧ (u.port p).answers = l ∧
      (u.port p).tx = (s.port p).tx ++ [ctlMsg ctlNotSupported] ∧ u.regs = s.regs) ∧
    ((s.port p).ex = .vdm → exec (.vdmResponseTimeout p) s =
      .next (((s.set (F.PD_STAT.WAITING p) 0).pdOpDone p (cword stNotReady) [0]).pdIdle p)) ∧
    ((s.port p).ex = .eprCable → exec (.vdmResponseTimeout p) s =
      .next ((s.pdTx p (datMsg datEprMode [0x04000000])).pdIdle p)) ∧
    ((s.port p).ex = .idle → exec (.vdmResponseTimeout p) s = .next s) ∧
    (s.domOn (72 + p) = true → s.get (F.PD_BC.MODE p) = 4 → 1 ≤ r.val → r.val ≤ 3 → ∃ u, exec (.bcDone p r) s = .next u ∧
      u.get (F.PD_BC.RESULT p) = r.val ∧ u.mem = s.mem) ∧
    (s.get (F.PD_BC.MODE p) ≠ 4 → exec (.bcDone p r) s = .next s)

/-! ### Fabric and chain -/

/-- Retries and lanes of a fabric link (R386, R388, R391, Table 15-1): a failed lane in use moves to the spare, a link
that has none goes on at half width or DOWN; a failed lane that carries nothing only counts as bad. -/
def FabricLanes : Prop :=
  ∀ (l : Fin 7) (i : Fin 17) (s : State), s.wf = true →
    let bad : State := { s with laneBad := (l.val, i.val) :: s.laneBad }
    let run := fun k => s.ltRuns 2 (17 * l + k)
    (s.linkDown l = true → ∀ b, exec (.flitRetry l b) s = .next s) ∧
    (s.linkDown l = false → exec (.flitRetry l false) s = .next (s.inc (F.FAB_LINK_ERR.RETRY l)) ∧
      exec (.flitRetry l true) s =
        .next (((s.inc (F.FAB_LINK_ERR.RETRY l)).inc F.FAB_C0_STAT.THROTTLE).raise 311 1 l)) ∧
    (s.laneGood l i = false → exec (.laneFailure l i) s = .next s) ∧
    (s.laneGood l i = true → (∀ k < 17, run k = false) → s.linkDown l = true → exec (.laneFailure l i) s = .next bad) ∧
    (s.laneGood l i = true → (∀ k < 17, run k = false) → s.linkDown l = false → i.val ∉ s.activeLanes l →
      exec (.laneFailure l i) s = .next (bad.assertL (304 + l) 1 i)) ∧
    (s.laneGood l i = true → (∀ k < 17, run k = false) → s.get (F.FAB_LINK_STAT.STATE l) = 2 → i.val < 16 →
      i.val ∈ s.activeLanes l → s.get (F.FAB_LINK_STAT.SPARE_USED l) = 0 → s.laneGood l 16 = true →
      ∃ u, exec (.laneFailure l i) s = .next u ∧ u.get (F.FAB_LINK_STAT.STATE l) = 2 ∧
        u.get (F.FAB_LINK_STAT.SPARE_USED l) = 1 ∧ (∀ k < 17, k ∈ u.activeLanes l ↔ (k ∈ s.activeLanes l ∧ k ≠ i.val) ∨ k = 16) ∧
        u.laneGood l i = false)

/-- A link that is DOWN returns with the lanes its training found (R389): sixteen, or eight at half width; below eight it
stays DOWN. A link that is up ignores it. -/
def LinkRetrains : Prop :=
  ∀ (l : Fin 7) (n : Fin 17) (s : State), s.wf = true →
    let w := if 16 ≤ n.val then 16 else 8
    let good := s.lanesFrom l 0
    (s.linkDown l = false ∨ n.val < 8 ∨ good.length < w → exec (.linkRetrain l n) s = .next s) ∧
    (s.linkDown l = true → 8 ≤ n.val → w ≤ good.length →
      let t := (s.setLink l (if w = 16 then 2 else 3) (good.take w)).deassertL (304 + l) 3
      let u := (State.rereport (t.fullBooks (linkKey l 0 0)) l t.asserts).linkFires
      exec (.linkRetrain l n) s = .next (if l.val < 6 then ((allCh.filter fun c => c.val / 4 == l.val).foldl
        (fun s c => s.sweepCheck s.count s.count 1 c) u).supForward l true else u) ∧
      (t.get (F.FAB_LINK_STAT.STATE l) = if w = 16 then 2 else 3) ∧ (t.activeLanes l).length = w)

/-- Credits (R392): the sender of a class holds what is left of the receiver's depth; a flit spends one or waits; a tick
receives what is in flight, frees what is occupied and lets waiting flits go, and loses none. A link that is DOWN carries
none (R389). -/
def CreditsKeepTheirBooks : Prop :=
  ∀ (b : Book) (k : Nat) (l : Fin 7) (dir cls : Fin 4) (s : State),
    let fits := fun (b : Book) => b.flight + b.occ + b.back ≤ bookDepth k
    (fits b → fits (b.send k) ∧ fits (b.move k) ∧ (b.move k).credits k + (b.move k).flight = bookDepth k - b.flight - b.occ ∧
      (b.move k).occ = b.flight ∧ (b.move k).back = b.occ ∧ (b.move k).flight + (b.move k).wait = b.wait) ∧
    (b.credits k = 0 → b.send k = { b with wait := b.wait + 1 }) ∧
    (b.credits k ≠ 0 → b.send k = { b with flight := b.flight + 1 } ∧ (b.send k).credits k + 1 = b.credits k) ∧
    (b.wait = 0 → b.flight = 0 → b.occ = 0 → (b.move k).credits k = bookDepth k) ∧
    (s.linkDown l = true → s.flit l dir cls = s) ∧
    (s.linkDown l = false → s.flit l dir cls = s.modBook (linkKey l dir cls) fun b => b.send (linkKey l dir cls)) ∧
    (bookDepth (linkKey l 0 0) = 32 ∧ bookDepth (linkKey l 0 1) = 64 ∧ bookDepth (linkKey l 0 2) = 128 ∧
      bookDepth (linkKey l 0 3) = 64 ∧ bookDepth (hopKey 0 0 0) = 64 ∧ bookDepth (hopKey 1 0 2) = 256)

/-- Ports (R395, R396, R401): training, delay measurement, up and DOWN. A port that goes DOWN from service counts a break
and, where the other port is up, turns its traffic back through it. -/
def ChainPorts : Prop :=
  ∀ (d : Fin 2) (n : Nat) (s : State), s.wf = true →
    let o : Nat := 1 - d.val
    let st := s.get (F.CHN_PORT.PSTATE d)
    (s.chainUp = true → s.portTested d = false →
      (st = 0 → exec (.chainTrainingPattern d) s = .next (s.chainSend (.training d))) ∧
      (st ≠ 0 → exec (.chainTrainingPattern d) s = .next s) ∧
      (∃ u, exec (.delayMeasured d n) s = .next u ∧ u.rd (R.CHN_DELAY d) = BitVec.ofNat 32 n ∧
        u.get (F.CHN_PORT.PSTATE d) = max 2 st) ∧
      (3 ≤ st → exec (.portUp d) s = .next s) ∧
      (st < 3 → s.is F.GLB_PINS.READY = false → exec (.portUp d) s = .next (s.set (F.CHN_PORT.PSTATE d) 1)) ∧
      (st < 3 → s.is F.GLB_PINS.READY = true → s.get (F.CHN_PORT.PSTATE o) < 3 →
        ∃ u, exec (.portUp d) s = .next u ∧ u.get (F.CHN_PORT.PSTATE d) = 3 ∧
          u.get (F.CHN_PORT.PSTATE o) = s.get (F.CHN_PORT.PSTATE o) ∧
          u.get F.CHN_STAT.RSTATE = (if s.get F.CHN_STAT.RSTATE = 0 then 1 else s.get F.CHN_STAT.RSTATE)) ∧
      (st < 3 → s.is F.GLB_PINS.READY = true → 3 ≤ s.get (F.CHN_PORT.PSTATE o) → s.get F.CHN_STAT.RSTATE = 3 →
        ∃ u, exec (.portUp d) s = .next u ∧ u.get (F.CHN_PORT.PSTATE d) = 3 ∧ u.get F.CHN_STAT.RSTATE = 2 ∧
          u.get F.CHN_STAT.BREAKS = 0)) ∧
    (s.chainUp = false ∨ s.portTested d = true → exec (.chainTrainingPattern d) s = .next s ∧
      exec (.delayMeasured d n) s = .next s ∧ exec (.portUp d) s = .next s) ∧
    (st = 0 → exec (.portDown d) s = .next s) ∧
    (st ≠ 0 → ∃ u, exec (.portDown d) s = .next u ∧ u.get (F.CHN_PORT.PSTATE d) = 0 ∧
      ∃ a ∈ u.asserts, a.src = 335 ∧ a.cond = 1 ∧ a.d0 = d.val) ∧
    (st = 3 → s.get (F.CHN_PORT.PSTATE o) = 3 → s.get F.CHN_STAT.RSTATE = 2 →
      ∃ u, exec (.portDown d) s = .next u ∧ u.get (F.CHN_PORT.PSTATE d) = 0 ∧ u.get (F.CHN_PORT.PSTATE o) = 4 ∧
        u.get F.CHN_LATCH.OXBOW = 1 ∧ u.get F.CHN_STAT.RSTATE = 3 ∧
        u.get F.CHN_STAT.BREAKS = min 2 (s.get F.CHN_STAT.BREAKS + 1) ∧
        ∃ a ∈ u.asserts, a.src = 335 ∧ a.cond = 1 ∧ a.d0 = d.val)

/-- Lock, a chain of one, and epochs (R397, R398, R400, R402): who sends an epoch, what a member takes from one; an epoch
of a segment's leader counts in SLACK only. -/
def LocksAndEpochs : Prop :=
  ∀ (k : ChainLock) (e : EpochMsg) (s : State), s.wf = true →
    let r := s.get F.CHN_STAT.RSTATE
    let p := fun d => s.get (F.CHN_PORT.PSTATE d)
    let member := s.chainUp = true ∧ s.is F.CHN_STAT.MASTER = false ∧ (r = 2 ∨ r = 3 ∨ r = 4)
    (s.chainUp = false ∨ (p 0 < 3 ∧ p 1 < 3) → exec (.chainLock k) s = .next s) ∧
    (s.chainUp = true → 3 ≤ p 0 ∨ 3 ≤ p 1 → r ≠ 4 →
      ∃ u, exec (.chainLock k) s = .next u ∧ u.get F.CHN_STAT.NODE = k.node.val ∧ u.get F.CHN_STAT.NODES = k.nodes ∧
        u.get F.CHN_STAT.MASTER = (if k.node = 0 then 1 else 0) ∧ u.get F.CHN_STAT.RSTATE = (if k.ring then 2 else 3) ∧
        (k.joined = true → u.get F.CHN_LATCH.MASTER_CHG = 1)) ∧
    (s.chainUp = true → p 0 = 0 → p 1 = 0 → r ≠ 4 → r ≠ 5 → exec .aloneTimeout s = .next s.becomeAlone) ∧
    (p 0 ≠ 0 ∨ p 1 ≠ 0 ∨ r = 4 ∨ r = 5 → exec .aloneTimeout s = .next s) ∧
    (s.becomeAlone.get F.CHN_STAT.RSTATE = 5 ∧ s.becomeAlone.get F.CHN_STAT.MASTER = 1 ∧
      s.becomeAlone.get F.CHN_LATCH.ALONE = 1) ∧
    (s.chainUp = true → s.is F.CHN_STAT.MASTER = true ∨ s.leads = true → exec .epochSend s =
      .next (s.chainSend (.epoch s.ctime s.ext s.dirDown s.chain.lat (!s.is F.CHN_STAT.MASTER)))) ∧
    (s.is F.CHN_STAT.MASTER = false → s.leads = false → exec .epochSend s = .next s ) ∧
    (s.leads = true ↔ r = 4 ∧ s.is F.CHN_STAT.MASTER = false ∧
      ∀ n < s.get F.CHN_STAT.NODE, s.is (F.CHN_PEER.VALID n) = false) ∧
    (¬member ∨ (e.slack = true ∧ r ≠ 4) → exec (.epochReceive e) s = .next s) ∧
    (member → (e.slack = true → r = 4) → e.slack = true ∨ (s.chain.relock = false ∧ s.tb.chainAcq = false) → ∃ u, exec (.epochReceive e) s = .next u ∧
      u.ctime = (e.time + e.path) % 2 ^ 64 ∧ u.chain = { s.chain with lat := e.lat } ∧ u.mem = s.mem) ∧
    (∀ hops : List Nat, latencyOf hops * 100000 < 5500000 + 2 * hops.foldl (· + ·) 0 + 100000 ∧
      5500000 + 2 * hops.foldl (· + ·) 0 ≤ latencyOf hops * 100000)

/-- Step records (R399, R402): kept in the order of their stamps, applied at stamp plus L. -/
def StepRecords : Prop :=
  ∀ (r : StepRec) (rs : List StepRec) (s : State), s.wf = true →
    let st := s.get F.CHN_STAT.RSTATE
    let member := s.chainUp = true ∧ s.is F.CHN_STAT.MASTER = false ∧ (st = 2 ∨ st = 3 ∨ st = 4)
    (member → (r.slack = true → st = 4) → exec (.stepRecordReceive r) s =
      .next (State.hopIn { s with chain := { s.chain with recs := insertStep r s.chain.recs } } 0)) ∧
    (¬member ∨ (r.slack = true ∧ st ≠ 4) → exec (.stepRecordReceive r) s = .next s) ∧
    (rs.Pairwise (fun a b => a.stamp ≤ b.stamp) → (insertStep r rs).Pairwise (fun a b => a.stamp ≤ b.stamp) ∧
      (insertStep r rs).Perm (r :: rs)) ∧
    (s.chain.recs = [] → exec .stepRecordApply s = .next s) ∧
    (s.chain.recs = r :: rs → s.get F.TB_CTRL.SRC ≠ 4 → r.stamp + 100000 * s.chain.lat < 2 ^ 64 →
      ∃ u, exec .stepRecordApply s = .next u ∧ u.chain = { s.chain with recs := rs } ∧
        u.ctime = max s.ctime (r.stamp + 100000 * s.chain.lat) ∧ u.count = s.count) ∧
    (s.chain.recs = r :: rs → s.get F.TB_CTRL.SRC = 4 → s.tb.held = false →
      r.stamp + 100000 * s.chain.lat ≤ s.ctime → exec .stepRecordApply s = .next
        (let t : State := { s with chain := { s.chain with recs := rs } }
         if r.jump then t.jumpBy r.delta r.silent else t.chainStep r.down))

/-- SLACK (R402, R403): a member that misses an epoch coasts; after HOLD_MAX the count holds. R405: a slew lasts 1 s. -/
def SlackAndHoldover : Prop :=
  ∀ s : State, s.wf = true →
    let r := s.get F.CHN_STAT.RSTATE
    (s.is F.CHN_STAT.MASTER = true ∨ (r ≠ 2 ∧ r ≠ 3) → exec .slackEntry s = .next s) ∧
    (s.is F.CHN_STAT.MASTER = false → r = 2 ∨ r = 3 → (∀ c : Fin 24, s.is (F.MS_SWP_CTRL.RUN c) = false) →
      ∃ u, exec .slackEntry s = .next u ∧ u.get F.CHN_STAT.RSTATE = 4 ∧ u.get F.CHN_LATCH.SLACK = 1 ∧
        (∀ c : Fin 24, u.get (F.MS_STAT.SLACK c) = 1) ∧ u.chain.relock = true ∧ u.count = s.count ∧
        ∃ a ∈ u.asserts, a.src = 336 ∧ a.cond = 1) ∧
    (r ≠ 4 → exec .holdoverExpiry s = .next s) ∧
    (r = 4 → exec .holdoverExpiry s = .next
      (let t := ((s.loseQual 4).set F.CHN_LATCH.HOLD_EXP 1).assertL 336 2 0 (s.rd R.CHN_LATCH)
       if t.get (F.CHN_PORT.PSTATE 0) = 0 ∧ t.get (F.CHN_PORT.PSTATE 1) = 0 then t.becomeAlone else t)) ∧
    (s.chain.slew = 0 → exec .relockSlewTimeout s = .next s) ∧
    (s.chain.slew ≠ 0 → s.get F.TB_CTRL.SRC = 4 → exec .relockSlewTimeout s =
      .next ((s.jumpBy s.chain.slew false).relockDone)) ∧
    (s.chain.slew ≠ 0 → s.get F.TB_CTRL.SRC ≠ 4 → exec .relockSlewTimeout s = .next s.relockDone)

/-- Frames and peers (R406, R407): a frame whose number is not ahead of the last one of its source and class by 1 to
32,767 is a duplicate; a gap in Class 0 counts; a summary is kept with VALID. -/
def FramesAndPeers : Prop :=
  ∀ (src : Fin 16) (cls : Fin 4) (seq : BitVec 16) (w : Word) (n : Fin 64) (s : State), s.wf = true →
    let d := (seq.toNat + 65536 - s.lastSeq src cls) % 65536
    (d = 0 ∨ 32767 < d → ∀ b, exec (.chainFrameReceive src cls seq b) s = .next ((s.hopIn cls).inc F.CHN_ERR.DUP)) ∧
    (1 ≤ d → d ≤ 32767 →
      (∀ b, ∃ u, exec (.chainFrameReceive src cls seq b) s = .next u ∧ u.lastSeq src cls = seq.toNat ∧
        (cls ≠ 0 ∨ d = 1 → u.get F.CHN_ERR.SEQ_GAP = s.get F.CHN_ERR.SEQ_GAP ∧ u.reports = s.reports) ∧
        (cls = 0 → 1 < d → ∃ r ∈ u.reports, r.src = 335 ∧ r.cond = 2 ∧ r.d0 = src.val)) ∧
      (∃ u, exec (.chainFrameReceive src cls seq (.summary w)) s = .next u ∧ u.get (F.CHN_PEER.VALID src) = 1 ∧
        u.rd (R.CHN_PEER src) &&& 0x7C00FFFF = w &&& 0x7C00FFFF)) ∧
    (s.chainUp = true → exec .peerSummarySend s = .next (s.chainSend (.summary s.peerWord))) ∧
    (s.chainUp = false → exec .peerSummarySend s = .next s) ∧
    exec (.peerSummaryTimeout src) s = .next (s.set (F.CHN_PEER.VALID src) 0) ∧
    exec (.chainSignalFire n w) s =
      .next (State.signal { s with chainSig := s.chainSig.erase (n.val, w) } 0x30 n w)

/-! ### Host ports, HDP, device time and the two-wire interfaces -/

/-- The link of a host port and the network requests it answers (R409). -/
def HostLinks : Prop :=
  ∀ (p : Fin 2) (up : Bool) (s : State), s.wf = true →
    let on := up && s.is (F.HST_CFG.EN p) && s.domOn 94 && !s.ltRuns 1 p
    (∃ u, exec (.hostLinkChange p up) s = .next u ∧ u.linkOf p = on ∧ (u.linkOf (1 - p.val) = s.linkOf (1 - p.val)) ∧
      u.mem = s.mem ∧ u.sessions = s.sessions) ∧
    (∀ k, s.linkOf p = false → exec (.networkProtocolRequest p k) s = .next s) ∧
    (∀ k, s.linkOf p = true → s.is (F.HST_IP4.ADDR p) = true ∨ k = .neighbour ∨ k = .echo6 →
      exec (.networkProtocolRequest p k) s = .next { s with netOut := s.netOut ++ [(p.val, k)] }) ∧
    (s.is (F.HST_IP4.ADDR p) = false → exec (.networkProtocolRequest p .arp) s = .next s ∧
      exec (.networkProtocolRequest p .echo4) s = .next s)

/-- Datagrams that do not reach a session (R409, R410, R412, R413, R416): over a port that does not take them they are
lost; else they are counted, and where their session was closed answered by CLOSE. The ports of IEEE 1588 do not count. -/
def StrayDatagrams : Prop :=
  ∀ (d : HdpDgram) (s : State), s.wf = true → d.frag = none →
    let heard := s.linkOf d.port = true ∧ (d.peer % 2 = 1 ∨ s.is (F.HST_IP4.ADDR d.port) = true)
    let served := d.udp = s.get F.HST_HDP.UDP_PORT ∨ ∃ i : Fin 16, ∃ x, s.sessions[i] = some x ∧ x.udp = d.udp
    let bad := s.inc (F.HST_DROP.BADHDP d.port)
    let stray := if d.udp = 319 ∨ d.udp = 320 then s else s.inc (F.HST_DROP.BADPORT d.port)
    let all := fun (t : State) => exec (.hdpClose d) s = .next t ∧ exec (.hdpData d) s = .next t ∧
      exec (.hdpAck d) s = .next t ∧ exec (.hdpKeepalive d) s = .next t
    (¬heard → all s ∧ exec (.hdpOpen d) s = .next s) ∧
    (heard →
      (¬served → all stray) ∧
      (served → d.sound = false → all bad) ∧
      (served → d.sound = true → s.sess? d.session = none → s.closedFor d.session = none → all bad) ∧
      (∀ r, served → d.sound = true → s.sess? d.session = none → s.closedFor d.session = some r →
        all (bad.hdpClose d r)) ∧
      (d.udp ≠ s.get F.HST_HDP.UDP_PORT → exec (.hdpOpen d) s = .next stray) ∧
      (d.udp = s.get F.HST_HDP.UDP_PORT → d.sound = false ∨ d.session ≠ 0 → exec (.hdpOpen d) s = .next bad))

/-- Fragments (R411): one that makes its datagram whole acts as the datagram, an incomplete one waits, and one that passes
9,216 bytes or finds 64 reassemblies in progress is lost; after 10 ms the incomplete ones of a port are discarded. -/
def FragmentsJoin : Prop :=
  ∀ (d : HdpDgram) (f : IpFrag) (p : Fin 2) (s : State), d.frag = some f →
    let same := fun (r : Reasm) => r.port = d.port.val ∧ r.peer = d.peer ∧ r.id = f.id
    let new := ∀ r ∈ s.reasm, ¬same r
    let heard := s.linkOf d.port = true ∧ (d.peer % 2 = 1 ∨ s.is (F.HST_IP4.ADDR d.port) = true)
    let x := dgramOf d f.bytes
    exec (.hdpOpen d) s = .next (s.fragIn d f) ∧ exec (.hdpClose d) s = .next (s.fragIn d f) ∧
    exec (.hdpData d) s = .next (s.fragIn d f) ∧ exec (.hdpAck d) s = .next (s.fragIn d f) ∧
    exec (.hdpKeepalive d) s = .next (s.fragIn d f) ∧
    (¬heard ∨ (new ∧ 64 ≤ s.reasm.length) → s.fragIn d f = s) ∧
    (heard → new → s.reasm.length < 64 → f.off + f.bytes.length ≤ 9216 →
      (f.off = 0 → f.more = false → s.fragIn d f = s.hdpTake x.1 x.2) ∧
      (f.bytes.length % 8 = 0 → f.bytes ≠ [] → f.more = true → s.fragIn d f = { s with reasm := s.reasm ++
        [{ port := d.port, peer := d.peer, id := f.id, parts := [(f.off, f.bytes)], total := none, since := s.dtime }] })) ∧
    (heard → 9216 < f.off + f.bytes.length → s.reasm.length < 64 → ∃ l, s.fragIn d f = { s with reasm := l } ∧
      (∀ r ∈ l, r ∈ s.reasm ∧ ¬same r)) ∧
    exec (.reassemblyTimeout p) s =
      .next { s with reasm := s.reasm.filter fun r => !(r.port == p.val && decide (r.since + 10000000 ≤ s.dtime)) }

/-- A session opens (R413): with a slot free ACCEPT goes out with a new identifier that names the slot; with none a CLOSE of
reason 3 does. -/
def SessionsOpen : Prop :=
  ∀ (d : HdpDgram) (s : State), s.wf = true → d.frag = none → s.hears d.port d.peer = true →
    d.udp = s.get F.HST_HDP.UDP_PORT → d.sound = true → d.session = 0 → 0 < s.get F.HST_HDP_TMR.WIN → (∀ i : Fin 16, ∀ x, s.sessions[i] = some x → x.openSeq ≠ d.seq) →
    ((∀ i : Fin 16, s.sessions[i] ≠ none) → exec (.hdpOpen d) s = .next (s.hdpClose { d with session := 0 } 3)) ∧
    ((∃ i : Fin 16, s.sessions[i] = none) → ∃ u : State, ∃ i : Fin 16, ∃ x, exec (.hdpOpen d) s = .next u ∧
      s.sessions[i] = none ∧ u.sessions[i] = some x ∧ x.rx = d.seq + 1 ∧ x.udp = d.udp ∧ x.peers[d.port]? = some (some d.peer) ∧
      (∀ k : Fin 16, k ≠ i → u.sessions[k] = s.sessions[k]) ∧
      ∃ w ∈ u.wire, w.kind = 2 ∧ w.session = x.id ∧ w.port = d.port)

/-- A valid datagram of an open session (R414, R415, R416, R417): its peer and port are learned and what it acknowledges is no
longer kept; data is delivered in order. -/
def SessionTraffic : Prop :=
  ∀ (d : HdpDgram) (x : Session) (s : State), s.wf = true → d.frag = none → s.hears d.port d.peer = true → d.sound = true →
    d.udp = s.get F.HST_HDP.UDP_PORT → s.sess? d.session = some x →
    let i := slotOf d.session
    let v := s.hdpValid i x d
    exec (.hdpAck d) s = .next v ∧ exec (.hdpKeepalive d) s = .next v ∧
    exec (.hdpData d) s = .next (v.hdpSeq i d.seq (some d.payload)) ∧
    exec (.hdpClose d) s = .next (v.hdpSeq i d.seq none) ∧
    (x.waits = [] → ∃ y, v.sessions[i] = some y ∧ y.port = d.port.val ∧
      y.unacked = x.unacked.filter (fun u => !seqBefore u.seq d.ack) ∧ y.rx = x.rx ∧ y.id = x.id) ∧
    (∀ (y : Session) (b : List Byte), s.sessions[i] = some y → y.held = [] → s.mssDown = false →
      (2 ^ 31 ≤ (d.seq - y.rx).toNat → s.hdpSeq i d.seq (some b) = s.hdpAck i) ∧
      (s.get F.HST_HDP_TMR.WIN ≤ (d.seq - y.rx).toNat → (d.seq - y.rx).toNat < 2 ^ 31 →
        s.hdpSeq i d.seq (some b) = s))

/-- Sessions by their timers (R415, R416, R420): retransmission, keepalive, the end of a session, and streaming. -/
def SessionTimers : Prop :=
  ∀ (i : Fin 16) (x : Session) (s : State), s.wf = true →
    let none' := fun (c : Instr) => exec c s = .next s
    (s.sessions[i] = none → none' (.hdpRetransmit i) ∧ none' (.sessionTimeout i) ∧ none' (.keepaliveSend i) ∧
      none' (.streamSend i)) ∧
    (s.sessions[i] = some x →
      exec (.keepaliveSend i) s = .next (s.hdpSend x 7 x.tx .none false) ∧
      exec (.sessionTimeout i) s =
        .next (((s.hdpSend x 3 x.tx (.close 2) false).closeSess i 2).inc F.HST_SESS.CLOSED_TMO) ∧
      (x.unacked = [] → none' (.hdpRetransmit i)) ∧
      (∀ u l, x.unacked = u :: l → exec (.hdpRetransmit i) s =
        .next ((s.setSess i (some { x with unacked := { u with tries := u.tries + 1 } :: l })).hdpSend x u.kind u.seq u.body
          true)) ∧
      (s.get F.HST_HDP_TMR.WIN ≤ x.unacked.length → none' (.streamSend i)) ∧
      ((∀ r ∈ s.rings, ∀ q, r.sub = some q → q.1 ≠ .session i) → none' (.streamSend i)) ∧
      (∀ n r, s.closeSess i n = r → r.sessions[i] = none ∧ (∀ k : Fin 16, k ≠ i → r.sessions[k] = s.sessions[k]) ∧
        r.closed = s.closed ++ [(x.id, n)] ∧ (∀ g ∈ r.rings, ∀ q, g.sub = some q → q.1 ≠ .session i) ∧
        (∀ j ∈ r.journal, j.rq ≠ .session i) ∧ r.mem = s.mem))

/-- Streaming (R420): a ring this session subscribes to sends its records not yet sent, in order, as one STREAM datagram while
fewer than WIN datagrams are unacknowledged. -/
def StreamingSends : Prop :=
  ∀ (i : Fin 16) (x : Session) (r : Ring) (k : Nat) (s : State),
    let mine := fun (g : Ring) => (g.sub.map (·.1) == some (Requester.session i)) && g.sent != g.tail
    let n := min (min ((r.tail + 2 ^ 32 - r.sent) % 2 ^ 32) 255) (8192 / r.size)
    s.sessions[i] = some x → s.rings.find? mine = some r → r.sub = some (.session i, k) →
    x.unacked.length < s.get F.HST_HDP_TMR.WIN →
    exec (.streamSend i) s = .next
      ((s.modRing r.num fun g => { g with sent := (g.sent + n) % 2 ^ 32 }).hdpPut i 6
        (.stream k r.num r.sent n ((List.range n).flatMap fun j => s.ldBytes (r.slot (r.sent + j)) r.size)))

/-- Device time (R422, R423): a step above STEP_THR, a slew below it; the best-master algorithm; the end of announcements. -/
def DeviceTimeFollows : Prop :=
  ∀ (m : PtpSync) (a : PtpAnnounce) (s : State), s.wf = true →
    let st := s.get F.PTP_STAT.STATE
    (s.ptpUp = false → exec (.ptpSync m) s = .next s ∧ exec (.ptpAnnounce a) s = .next s) ∧
    (st ≠ 1 → st ≠ 2 → exec (.ptpSync m) s = .next s) ∧
    (s.ptpHears m.port m.domain = true → st = 1 ∨ st = 2 →
      (s.get F.PTP_CFG.STEP_THR * 10000 < m.offset.natAbs → ∃ u, exec (.ptpSync m) s = .next u ∧
        (u.dtime : Int) = ((s.dtime : Int) - m.offset) % 2 ^ 64 ∧
        u.get F.PTP_STAT.STEPPED = 1 ∧ u.ptp = {}) ∧
      (m.offset.natAbs ≤ s.get F.PTP_CFG.STEP_THR * 10000 → ∃ u, exec (.ptpSync m) s = .next u ∧ u.dtime = s.dtime ∧
        u.ptp = { slew := -m.offset, acc := 0 } ∧ u.get F.PTP_STAT.STATE = 2)) ∧
    (s.ptpHears a.port a.domain = true → s.ptpTakes a = true → ∃ u, exec (.ptpAnnounce a) s = .next u ∧
      u.get F.PTP_STAT.STATE = (if st = 2 then 2 else 1) ∧ ∀ x ∈ u.asserts, x.src = 374 → x.cond = 1 → x.forced = true) ∧
    (s.ptpTakes a = false → s.is F.PTP_CFG.SLAVE_ONLY = true → exec (.ptpAnnounce a) s = .next s) ∧
    (s.ptpHears a.port a.domain = true → s.is F.PTP_CFG.SLAVE_ONLY = false →
      (s.get F.PTP_CFG.PRIO1 < a.prio1.toNat ∨ (s.get F.PTP_CFG.PRIO1 = a.prio1.toNat ∧ a.selected = false)) →
      exec (.ptpAnnounce a) s = .next { s.set F.PTP_STAT.STATE 3 with ptp := {} }) ∧
    (s.is F.PTP_CFG.EN = false → exec .announceTimeout s = .next s) ∧
    (s.is F.PTP_CFG.EN = true → exec .announceTimeout s =
      .next (State.assertL { s.set F.PTP_STAT.STATE (if s.is F.PTP_CFG.SLAVE_ONLY then 0 else 3) with ptp := {} } 374 1))

/-- The TW_M target (R425 to R428): a transfer's first byte is the pointer; a write at 0xFC of 1 submits and of 2 releases; the
window is written low byte first; a read returns n bytes. -/
def MailboxTarget : Prop :=
  ∀ (p b : Byte) (l : List Byte) (n : Nat) (s : State), s.boot.por = false →
    let at' := s.modTwm fun t => { t with ptr := p.toNat }
    exec (.twMWrite []) s = .next s ∧ exec (.twMWrite [p]) s = .next at' ∧
    exec (.twMWrite (p :: l)) s = .next (l.foldl State.twWrite at') ∧
    (exec (.twMWrite [0xFC, 1]) s = .next ((State.mbxSubmit (s.modTwm fun t => { t with ptr := 0xFC })).modTwm
      fun t => { t with ptr := 0xFD })) ∧
    (exec (.twMWrite [0xFC, 2]) s = .next ((State.mbxRelease (s.modTwm fun t => { t with ptr := 0xFC })).modTwm
      fun t => { t with ptr := 0xFD })) ∧
    (∃ u, exec (.twMWrite [0xFE, p, b]) s = .next u ∧ u.twm.win = b.toNat * 256 + p.toNat ∧ u.twm.ptr = 0 ∧ u.regs = s.regs) ∧
    (∃ u, exec (.twMRead n) s = .next u ∧ u.twm.out.length = n ∧ u.twm.ptr = (if n = 0 then s.twm.ptr else (s.twm.ptr + n) % 256) ∧
      u.mem = s.mem)

/-- Submit and release (R427): a SUBMIT in a state other than IDLE sets MBX_OVR and is discarded; a RELEASE frees the
response, or shows the oldest queued notice. -/
def MailboxCommands : Prop :=
  ∀ s : State, s.wf = true →
    (s.get F.TW_STAT.MBX ≠ 0 → exec .mbxSubmit s = .next (s.set F.TW_LATCH.MBX_OVR 1)) ∧
    (s.get F.TW_STAT.MBX = 0 →
      let l := fun n => (List.range n).map fun k => cellGet (0 : Byte) k s.twm.req
      let n := 20 + (bytesWord ((l 16).drop 12)).toNat
      exec .mbxSubmit s = .next ((s.set F.TW_STAT.MBX 1).frameIn .twm (l (min n 4284)))) ∧
    (s.get F.TW_STAT.MBX ≠ 2 → exec .mbxRelease s = .next s) ∧
    (s.get F.TW_STAT.MBX = 2 → s.twm.notices = [] → ∃ u, exec .mbxRelease s = .next u ∧ u.get F.TW_STAT.MBX = 0 ∧
      u.twm = { s.twm with resp := [] }) ∧
    (s.get F.TW_STAT.MBX = 2 → ∀ f q, s.twm.notices = f :: q → exec .mbxRelease s =
      .next (s.modTwm fun w => { w with resp := frameBytes f, notices := q }))

/-- Alerts (R429, R430): an attempt that is acknowledged sends the message of Table 16-5 and ends the alert; one that is not
uses a retry, and the last sets ALERT_FAIL. -/
def Alerts : Prop :=
  ∀ (retry : Bool) (s : State), s.wf = true →
    let try' := fun (lost ack : Bool) => if retry then exec (.alertRetry lost ack) s else exec (.alertSend lost ack) s
    let due := s.is F.TW_STAT.ALERT_PEND = true ∧ s.is F.TW_ALERT.EN = true ∧ s.twm.stuck = false ∧
      (s.twm.tries ≠ 0 ↔ retry = true)
    let left := s.get F.TW_STAT.ALERT_LEFT - (if retry then 1 else 0)
    (¬due → ∀ lost ack, try' lost ack = .next s) ∧
    (due → (∀ ack, try' true ack = .next (s.set F.TW_LATCH.ARB_LOST 1)) ∧
      (∃ u, try' false true = .next u ∧ u.get F.TW_STAT.ALERT_PEND = 0 ∧ u.get F.TW_STAT.ALERT_LEFT = 0 ∧
        u.twm = { s.twm with sent := s.twm.sent ++ [s.alertMsg] }) ∧
      (∃ u, try' false false = .next u ∧ u.twm = { s.twm with tries := s.twm.tries + 1 } ∧
        (left ≠ 0 → u.get F.TW_STAT.ALERT_LEFT = left ∧ u.get F.TW_STAT.ALERT_PEND = 1) ∧
        (left = 0 → u.get F.TW_STAT.ALERT_PEND = 0 ∧ u.get F.TW_LATCH.ALERT_FAIL = 1)))

/-- Bus clears (R433) and the controllers TW_0 to TW_2 (R434): GO on an idle controller starts a transfer; a value out of
range, or GO while busy, sets CFG_REJ and changes nothing else. -/
def TwoWireControllers : Prop :=
  ∀ (rq : Requester) (freed : Bool) (n : Fin 3) (w : Word) (r : TwResult) (s : State), s.wf = true →
    let bad := bitsOf w 30 29 = 3 ∨ 32 < bitsOf w 13 8 ∨ 32 < bitsOf w 5 0
    let rej := s.set (F.TWN_STAT.CFG_REJ n) 1
    (canWrite rq R.TW_CTRL = true → exec (.busclr rq true) s =
        .next ((s.modTwm fun t => { t with stuck := false }).deassertL 337 1) ∧
      exec (.busclr rq false) s =
        .next (((s.modTwm fun t => { t with stuck := true }).set F.TW_LATCH.SDA_STUCK 1).assertL 337 1)) ∧
    (s.is F.TW_STAT.ALERT_PEND = true ∨ s.twm.stuck = true → exec (.sdaStuckClear freed) s = .next (s.busClear freed)) ∧
    (s.is F.TW_STAT.ALERT_PEND = false → s.twm.stuck = false → exec (.sdaStuckClear freed) s = .next s) ∧
    (∃ u, exec .sclTimeout s = .next u ∧ u.get F.TW_LATCH.SCL_TO = 1 ∧ u.twm = { s.twm with wlow := none }) ∧
    (canWrite rq (R.TWN_CTRL n) = true →
      (bad ∨ (bitOf w 31 = true ∧ s.is (F.TWN_STAT.BUSY n) = true) → exec (.twTransfer rq n w) s = .next rej) ∧
      (¬bad → bitOf w 31 = true → s.is (F.TWN_STAT.BUSY n) = false → ∃ u, exec (.twTransfer rq n w) s = .next u ∧
        u.get (F.TWN_STAT.BUSY n) = 1 ∧ u.rd (R.TWN_CTRL n) = w &&& 0x607F3F3F) ∧
      (¬bad → bitOf w 31 = false → exec (.twTransfer rq n w) s = .next (s.wr (R.TWN_CTRL n) (w &&& 0x607F3F3F)))) ∧
    (s.is (F.TWN_STAT.BUSY n) = false → exec (.twTransferDone n r) s = .next s) ∧
    (s.is (F.TWN_STAT.BUSY n) = true → ∃ u, exec (.twTransferDone n r) s = .next u ∧
      u.get (F.TWN_STAT.BUSY n) = 0 ∧ u.get (F.TWN_STAT.DONE n) = 1 ∧ u.get (F.TWN_STAT.RESULT n) = r.code ∧
      u.get (F.TWN_STAT.COUNT n) = r.count)

/-! ### Faults -/

/-- Reports reach the hub (R439): a change of a pair, and the refresh of a die's pairs, which repeats L conditions; nothing
passes a link that is DOWN. -/
def ReportsReachTheHub : Prop :=
  ∀ (src : Fin 384) (die : Fin 7) (s : State),
    (srcLink src = none → exec (.faultPairMessage src) s = .next s) ∧
    (∀ l, srcLink src = some l → s.linkDown l = true → exec (.faultPairMessage src) s = .next s) ∧
    (∀ l, srcLink src = some l → s.linkDown l = false → ∃ u, exec (.faultPairMessage src) s = .next u ∧
      { u with reports := s.reports } = s ∧ u.reports.length = s.reports.length ∧
      (∀ r ∈ u.reports, r.src = src.val → r.atHub = true) ∧ (∀ r ∈ s.reports, r.src ≠ src.val → r ∈ u.reports)) ∧
    (s.linkDown die = true → exec (.concentratorRefresh die) s = .next s) ∧
    (s.linkDown die = false → ∃ u, exec (.concentratorRefresh die) s = .next u ∧ { u with reports := s.reports } = s ∧
      ∀ r ∈ s.reports, (srcLink r.src = some die.val → (condOf r.src r.cond r.d1).2.1 = false →
          { r with atHub := true } ∈ u.reports) ∧ (srcLink r.src ≠ some die.val → r ∈ u.reports))

/-- The collector takes the oldest report at the hub, and accepts it unless it records no more or the report's domain reacts
(R442, R443). -/
def CollectorTakesReports : Prop :=
  ∀ (r : Report) (s : State),
    let rest : State := { s with reports := s.reports.erase r }
    ((∀ x ∈ s.reports, x.atHub = false) → exec .collectorReport s = .next s) ∧
    (s.reports.find? (fun x => x.atHub) = some r →
      (s.collDead = true ∨ s.reacting (fenceDomain r.src) = true ∨ s.stale r = true → exec .collectorReport s = .next rest) ∧
      (s.collDead = false → s.reacting (fenceDomain r.src) = false → s.stale r = false →
        exec .collectorReport s = .next (rest.acceptRep r)))

/-- An accepted report (R442, R445, R446, Table 17-4): FLT_SEQ counts, the record is the source's latest, its summary bit is
set and a reaction is in progress in its domain. -/
def AcceptedReports : Prop :=
  ∀ (r : Report) (s : State), s.wf = true → r.src < 384 → r.src ≠ 340 → r.src ≠ 341 → r.src ≠ 365 → r.forced = false →
    (condOf r.src r.cond r.d1).2.2 = 0 → s.suspects.contains r.src = false →
    let u := s.acceptRep r
    let k := condOf r.src r.cond r.d1
    u.get (⟨R.FLT_SUM (r.src / 32), r.src % 32, r.src % 32⟩) = 1 ∧
    u.get F.FLT_SEQ.SEQ = (s.get F.FLT_SEQ.SEQ + 1) % 2 ^ 32 ∧
    u.reacts = s.reacts ++ [{ domain := fenceDomain r.src, code := 0, rep := r }] ∧
    u.get F.FLT_STAT.REACTING = (s.reacts.length + 1) % 2 ^ F.FLT_STAT.REACTING.width ∧
    (∃ x ∈ u.fltRecs, x.src = r.src ∧ x.words.length = 16 ∧
      (r.cond < 256 → k.1 < 4 → bitsOf (x.words.getD 0 0) 15 0 = r.src ∧ bitsOf (x.words.getD 0 0) 19 18 = k.1 ∧
        bitsOf (x.words.getD 0 0) 31 24 = r.cond ∧ bitOf (x.words.getD 0 0) 17 = false)) ∧
    (∀ x ∈ u.fltRecs, x.src = r.src ∨ x ∈ s.fltRecs)

/-- A reaction completes (R442, R444): it leaves the domain, a fence is entered and acknowledged, and the domain is examined
again. -/
def ReactionsComplete : Prop :=
  ∀ (d : Fin 160) (x : Reaction) (s : State),
    ((∀ y ∈ s.reacts, y.domain ≠ d.val) → exec (.reactionComplete d) s = .next s) ∧
    (s.reacts.find? (fun y => y.domain == d.val) = some x →
      let l := s.reacts.erase x
      let t := State.set { s with reacts := l } F.FLT_STAT.REACTING l.length
      (x.code ≠ 1 → x.code ≠ 2 → exec (.reactionComplete d) s = .next ((t.stopCheck).reexamine d)) ∧
      (x.code = 1 ∨ x.code = 2 → exec (.reactionComplete d) s = .next (((t.fenceDone x).stopCheck).reexamine d))) ∧
    ((∀ a ∈ s.asserts, a.recorded = true ∨ fenceDomain a.src ≠ d.val ∨ a.src ∈ s.suspects) → s.reexamine d = s)

/-- Suspect pairs (R440) and the collector's halves (R441). -/
def SuspectsAndHalves : Prop :=
  ∀ (src : Fin 384) (h : Fin 2) (s : State), s.wf = true →
    let half := fun (n : Nat) => s.get (if n = 0 then F.FLT_STAT.HALF_0 else F.FLT_STAT.HALF_1)
    (src.val ∈ s.suspects → exec (.railDisagreement src) s = .next s) ∧
    (src.val ∉ s.suspects → ∃ u, exec (.railDisagreement src) s = .next u ∧ u.suspects = s.suspects ++ [src.val] ∧
      u.get F.FLT_RAIL.VALID = 1 ∧ u.get F.FLT_RAIL.SOURCE = src.val ∧
      ∃ a ∈ u.asserts, a.src = 354 ∧ a.cond = 1 ∧ a.d0 = src.val) ∧
    (src.val ∉ s.suspects → exec (.suspectClear src) s = .next s) ∧
    (src.val ∈ s.suspects → ∃ u, exec (.suspectClear src) s = .next u ∧ src.val ∉ u.suspects ∧
      (∀ n, n ≠ src.val → (n ∈ u.suspects ↔ n ∈ s.suspects)) ∧ u.regs = s.regs ∧ u.mem = s.mem) ∧
    (half h = 0 → half (1 - h.val) = 0 → ∃ u, exec (.collectorMismatch (some h)) s = .next u ∧
      u.get (if h.val = 0 then F.FLT_STAT.HALF_0 else F.FLT_STAT.HALF_1) = 1 ∧ u.collDead = s.collDead) ∧
    (half h = 0 → half (1 - h.val) ≠ 0 → exec (.collectorMismatch (some h)) s = .next { s with collDead := true }) ∧
    (half 0 ≠ 0 ∨ half 1 ≠ 0 → exec (.collectorMismatch none) s = .next s)

/-- Summary bits and trips (R447, R448, R439): a bit whose source asserts or lies behind a link that is DOWN stays, the others are cleared by a 1; a trip is
cleared only after its latch was read, with the current below 1 A. -/
def SummariesAndTrips : Prop :=
  ∀ (rq : Requester) (k : Fin 12) (w : Word) (c : Fin 24) (s : State), s.wf = true →
    let h := s.ch c
    let low := (i64 (s.rd64 (R.MS_I_LO c) (R.MS_I_HI c))).natAbs < 1000000000000
    (canWrite rq (R.FLT_SUM k) = true → ∃ u, exec (.fltSumClear rq k w) s = .next u ∧ u.mem = s.mem ∧
      (∀ i < 32, u.get ⟨R.FLT_SUM k, i, i⟩ = if bitOf w i = true ∧ (∀ a ∈ s.asserts, a.src ≠ 32 * k.val + i) ∧
          (∀ l, srcLink (32 * k.val + i) = some l → s.linkDown l = false) then 0
        else s.get ⟨R.FLT_SUM k, i, i⟩) ∧ (∀ a, a ≠ R.FLT_SUM k → u.rd a = s.rd a)) ∧
    (canWrite rq R.FLT_CHCLR = true → exec (.fltChclrWrite rq 0) s = .next s ∧
      exec (.fltChclrWrite rq (BitVec.ofNat 32 (2 ^ c.val))) s = .next (s.chClear c).2) ∧
    (h.trip ≠ 0 → h.latchRd = true → low → s.chClear c = (true,
      (((s.modCh c fun h => { h with trip := 0 }).deassertL (12 * c) 1).deassertL (12 * c) 2).reresolve c)) ∧
    (h.trip ≠ 0 → h.latchRd = false ∨ ¬low → s.chClear c = (false, s)) ∧
    (h.trip = 0 → s.chClear c = (true, s))

/-- Force bits (R449): a pulse reports the source's first condition once; a hold of an L condition asserts until its release;
a hold of an E condition is a pulse. -/
def ForcedFaults : Prop :=
  ∀ (rq : Requester) (src : Fin 384) (s : State), s.wf = true → canForce rq = true →
    let edge := (condOf src 1 0).2.1
    let held : Fld := ⟨R.FLT_HELD (src / 32), src % 32, src % 32⟩
    exec (.forcePulse rq src) s = .next (((s.forced src).2).report (s.forced src).1) ∧
    (edge = true → exec (.forceHold rq src) s = exec (.forcePulse rq src) s) ∧
    (edge = false → s.get held = 0 → ∃ u, exec (.forceHold rq src) s = .next u ∧ u.get held = 1 ∧
      (∃ a ∈ u.asserts, a.src = src.val ∧ a.cond = 1 ∧ a.forced = true) ∧ (∀ a ∈ s.asserts, a ∈ u.asserts)) ∧
    (edge = false → s.get held = 1 → exec (.forceHold rq src) s = .next s) ∧
    (∃ t : State, exec (.forceRelease rq src) s = .next t.stopCheck ∧ t.get held = 0 ∧
      (∀ a ∈ t.asserts, a.src = src.val → a.forced = false) ∧
      (∀ a ∈ s.asserts, a.src ≠ src.val ∨ a.forced = false → a ∈ t.asserts)) ∧
    ((s.forced src).1.src = src.val ∧ (s.forced src).1.cond = 1 ∧ (s.forced src).1.forced = true)

/-- PLLs and references (R451): the one in use fails, and a lost reference that returns is intact again. -/
def ClocksFail : Prop :=
  ∀ (d : Fin 8) (r : Fin 2) (s : State),
    ((d.val, 0) ∉ s.pllBad → exec (.pllSwitchover d) s =
      .next (State.assertL { s with pllBad := (d.val, 0) :: s.pllBad } (342 + d) 1 0)) ∧
    ((d.val, 0) ∈ s.pllBad → (d.val, 1) ∉ s.pllBad → exec (.pllSwitchover d) s =
      .next (State.assertL { s with pllBad := (d.val, 1) :: s.pllBad } (342 + d) 1 1)) ∧
    ((d.val, 0) ∈ s.pllBad → (d.val, 1) ∈ s.pllBad → exec (.pllSwitchover d) s = .next s) ∧
    (r.val ∉ s.refBad → exec (.referenceSwitchover r) s =
      .next (State.assertL { s with refBad := r.val :: s.refBad } (350 + r) 1)) ∧
    (r.val ∈ s.refBad → exec (.referenceSwitchover r) s = .next s) ∧
    (r.val ∉ s.refBad → exec (.referenceReturn r) s = .next s) ∧
    (r.val ∈ s.refBad → ∃ u, exec (.referenceReturn r) s = .next u ∧ r.val ∉ u.refBad ∧
      (∀ n, n ≠ r.val → (n ∈ u.refBad ↔ n ∈ s.refBad)) ∧
      ∀ a ∈ u.asserts, a.src = 350 + r.val → a.cond = 1 → a.forced = true)

/-! ### Management, temperature, watchdog, log -/

/-- Cores and supervisors (R460, R462): a fault of the dispatching core fences it where the other works; a supervisor that
resets is logged, reported and in RESET until it is back in service, and one whose domain is off has nothing to reset. -/
def CoresAndSupervisors : Prop :=
  ∀ (q : Fin 6) (s : State), s.wf = true →
    (s.core = 0 → s.get F.MSS_STAT.CORE0 ≠ 2 → s.get F.MSS_STAT.CORE1 ≠ 2 → ∃ u, exec .mssCoreFault s = .next u ∧
      u.get F.MSS_STAT.CORE0 = 2 ∧ u.get F.MSS_STAT.CORE1 = s.get F.MSS_STAT.CORE1 ∧ u.mssDown = true ∧
      u.mss[(0 : Fin 2)].ok = false ∧ u.mss[(1 : Fin 2)] = s.mss[(1 : Fin 2)] ∧
      ∃ a ∈ u.asserts, a.src = 338 ∧ a.cond = 1) ∧
    (s.core = 0 → s.get F.MSS_STAT.CORE0 ≠ 2 → s.get F.MSS_STAT.CORE1 = 2 →
      exec .mssCoreFault s = .next ((s.assertL 338 1).countedReset 7)) ∧
    exec .mssReset s = .next (s.countedReset 7) ∧
    exec (.supervisorReset q) s = .next (s.supReset q 9) ∧
    (s.get (F.SUP_STAT.STATE q) = 4 → s.supReset q 9 = s) ∧
    (s.get (F.SUP_STAT.STATE q) ≠ 4 → s.linkDown q = false → (s.supReset q 9).get (F.SUP_STAT.STATE q) = 1 ∧
      (∃ r ∈ (s.supReset q 9).reports, r.src = 378 + q.val ∧ r.cond = 1) ∧ (s.supReset q 9).mem = s.mem) ∧
    (s.get (F.SUP_STAT.STATE q) = 1 → s.upd.resets = [] → (s.supBack q).get (F.SUP_STAT.STATE q) = 0) ∧
    (s.get (F.SUP_STAT.STATE q) ≠ 1 → s.supBack q = s)

/-- Housekeeping (R463): a supervisor that runs puts its readings into the registers; the hub's round ends the round of the
device; a round that took longer than 1 ms counts. -/
def HousekeepingRounds : Prop :=
  ∀ (q : Fin 7) (r : HkRound) (s : State), s.wf = true →
    let off := q.val < 6 ∧ (s.domOn (96 + q) = false ∨ 2 ≤ s.get (F.SUP_STAT.STATE q))
    (off → exec (.housekeepingRound q r) s = .next s) ∧
    (¬off → r.record = none → r.late = false → q.val < 6 →
      exec (.housekeepingRound q r) s = .next (((s.supBack q).putTemps q r).crossCheck q)) ∧
    (q.val = 6 → r.record = none → ∃ u, exec (.housekeepingRound q r) s = .next u ∧
      u.get F.HK_STAT.ROUNDS = (s.get F.HK_STAT.ROUNDS + 1) % 2 ^ F.HK_STAT.ROUNDS.width ∧
      (r.late = true → u.get F.HK_STAT.OVERRUN = min (s.get F.HK_STAT.OVERRUN + 1) (2 ^ F.HK_STAT.OVERRUN.width - 1))) ∧
    (∀ n : Nat, n < sensorCount q → ∀ t, r.temps[n]? = some t → -32768 ≤ t → t < 32768 →
      (s.putTemps q r).reading q n = t ∧ (s.putTemps q r).is ⟨tempReg q n, 31, 31⟩ = true)

/-- A sensor that fails the cross-check is substituted, marked in its register, in THM_STAT and THM_SUB and reported; a
substituted sensor returns after 1,000 rounds of agreement, and not before (R465). -/
def SensorsCrossChecked : Prop :=
  ∀ (q : Fin 7) (n : Fin 24) (s : State), s.wf = true →
    let x := s.sectors[q]
    (n.val ∉ x.subs ∨ x.good.getD n 0 < 1000 → exec (.sensorRestore q n) s = .next s) ∧
    (n.val ∈ x.subs → 1000 ≤ x.good.getD n 0 → ∃ u, exec (.sensorRestore q n) s = .next u ∧
      n.val ∉ (u.sectors[q]).subs ∧ u.get ⟨tempReg q n, 30, 30⟩ = 0 ∧
      u.get (F.THM_STAT.SUBST q) = (if x.subs.all (· == n.val) then 0 else 1) ∧ (∀ k, k ≠ q → u.sectors[k] = s.sectors[k])) ∧
    (let u := s.sensorFail q n
     u.get (F.THM_STAT.SUBST q) = 1 ∧ u.get F.THM_SUB.SECTOR = q.val ∧ u.get F.THM_SUB.SENSOR = n.val ∧
     n.val ∈ (u.sectors[q]).subs ∧ (q.val < 6 → n.val < 24 → u.get ⟨tempReg q n, 30, 30⟩ = 1) ∧
     ∃ a ∈ u.asserts, a.src = 355 + q.val ∧ a.cond = 5 ∧ a.d0 = n.val)

/-- The levels of Table 18-1 by temperature and rate (R466, R467), and the choice of R469 at the entry to STOP. -/
def ThermalLevels : Prop :=
  ∀ (t rate : Rat) (b : Bool),
    (150 ≤ t → levelAt t b = 4) ∧ (140 ≤ t → t < 150 → levelAt t b = 3) ∧ (125 ≤ t → t < 140 → levelAt t b = 2) ∧
    (t < 140 → levelAt t true = 2) ∧ (115 ≤ t → t < 125 → levelAt t false = 1) ∧ (t < 115 → levelAt t false = 0) ∧
    (1 / 10 ≤ rate → (hardStop t rate = true ↔ (150 - t) / rate < 5 / 2)) ∧
    (rate < 1 / 10 → (hardStop t rate = true ↔ (150 - t) * 10 < 5 / 2))

/-- A step of the thermal unit (R464, R466, R471): THM_STAT reports the hottest junction; a level above the present one is entered,
and the level does not fall by itself; a ramp that would last too long becomes a hard stop. -/
def ThermalSteps : Prop :=
  ∀ (q : Fin 7) (legs : List (Int × Int)) (s : State), s.wf = true → ∃ t : State,
    let level := levelAt (t.hottest q).2 (t.is (F.THM_STAT.RATE q))
    t.get (F.THM_STAT.LEVEL q) = s.get (F.THM_STAT.LEVEL q) ∧ t.get (F.THM_STAT.HOT q) = (t.hottest q).1 % 32 ∧ t.mem = s.mem ∧
    (s.get (F.THM_STAT.LEVEL q) < level → exec (.thermalModelStep q legs) s = .next (t.enterLevel q level)) ∧
    (level ≤ s.get (F.THM_STAT.LEVEL q) → s.get (F.THM_STAT.LEVEL q) ≠ 3 → exec (.thermalModelStep q legs) s = .next t) ∧
    (level ≤ s.get (F.THM_STAT.LEVEL q) → s.get (F.THM_STAT.LEVEL q) = 3 → exec (.thermalModelStep q legs) s =
      .next (if t.rampTooLong q then t.stopChs (sectorChs q) true else t))

/-- The end of a level (R466, R468, R473): it falls only when its holds have expired, and throttling ends with WARN. -/
def ThermalReleases : Prop :=
  ∀ (q : Fin 7) (s : State), s.wf = true →
    let old := s.get (F.THM_STAT.LEVEL q)
    let n := s.levelLeft q
    (old ≤ n → exec (.thermalLevelRelease q) s = .next s) ∧
    (n < old → old < 3 → ∃ t : State, t.get (F.THM_STAT.LEVEL q) = n ∧
      exec (.thermalLevelRelease q) s = .next (t.thermLog q n false) ∧
      (∀ k, n < k → k ≤ 4 → ∀ a ∈ t.asserts, a.src = 355 + q.val → a.cond = k → a.forced = true)) ∧
    (let x := s.sectors[q]
     (3 ≤ old → x.cRes < 10000 → n = old) ∧
     (2 ≤ old → old < 3 ∨ 10000 ≤ x.cRes → x.c120 < 1000 ∨ s.is (F.THM_STAT.RATE q) = true → n = 2) ∧
     (10000 ≤ x.cRes → 1000 ≤ x.c120 → 1000 ≤ x.c110 → s.is (F.THM_STAT.RATE q) = false → n = 0))

/-- A throttle pause (R468, R289): it begins only from LIMIT on, once at a time, in the hub only after every thread that the
last one held has issued, and lasts PAUSE_LEN; the clusters count it. -/
def ThrottlePauses : Prop :=
  ∀ (q : Fin 7) (s : State), s.wf = true →
    let len := s.get F.THM_CFG.PAUSE_LEN
    let hub := q.val = 6
    (s.get (F.THM_STAT.LEVEL q) < 2 ∨ s.pausedIn q = true ∨ (hub ∧ s.issueOwed = true) →
      exec (.throttlePause q) s = .next s) ∧
    (2 ≤ s.get (F.THM_STAT.LEVEL q) → s.pausedIn q = false → ¬(hub ∧ s.issueOwed = true) →
      (q.val < 6 → exec (.throttlePause q) s = .next { s with paused := s.paused ++ [(q.val, len * 1000)] }) ∧
      (q.val = 6 → ∃ u, exec (.throttlePause q) s = .next u ∧ u.paused = s.paused ++ [(6, len * 1000)] ∧
        u.threads = s.threads ∧ u.pausedIn 6 = true ∧ ∀ n < 4,
          u.get (F.SEQ_CL_PAUSE.PAUSES n) = min (s.get (F.SEQ_CL_PAUSE.PAUSES n) + 1) (2 ^ (F.SEQ_CL_PAUSE.PAUSES n).width - 1)))

/-- The clock monitor (R476): every channel stops hard; when the clock is back its condition ends, and the stop with it. -/
def ClockMonitor : Prop :=
  ∀ s : State,
    exec .mainClkFail s = .next ((s.assertL 341 1).stopAll true) ∧
    exec .mainClkReturn s = .next ((s.deassertL 341 1).stopCheck) ∧
    (∀ c : Fin 24, ∀ l : List (Fin 24), (l.foldl (fun (s : State) c => s.modCh c fun h => { h with stopF := true }) s).ch c =
      if c ∈ l then { s.ch c with stopF := true } else s.ch c)

/-- The watchdog (R477 to R480): it starts under SOFTWARE or by itself, a kick of 0x5AC3 from an MSS core restarts its
timeout, any other kick and the expiry count and reset the MSS. -/
def Watchdog : Prop :=
  ∀ (rq : Requester) (k : Fin 2) (w : Word) (s : State), s.wf = true →
    let run := s.is F.WDT_CTRL.RUN
    let starts := s.is F.WDT_CTRL.MODE = true ∧ run = false
    let loaded := fun (u : State) => u.get F.WDT_STAT.REMAIN = s.get F.WDT_CTRL.TIMEOUT ∧ u.wdt.sub = 0
    (run = false → exec (.wdtKick (.mss k) w) s = .next s) ∧
    (run = true → bitsOf w 15 0 = 0x5AC3 → ∃ u, exec (.wdtKick (.mss k) w) s = .next u ∧ loaded u ∧ u.mem = s.mem) ∧
    (run = true → bitsOf w 15 0 ≠ 0x5AC3 → exec (.wdtKick (.mss k) w) s = .next s.wdtExpire) ∧
    ((∀ k, rq ≠ .mss k) → exec (.wdtKick rq w) s = .next s) ∧
    (canWrite rq R.WDT_CTRL = true → (starts → ∃ u, exec (.wdtStart rq) s = .next u ∧ u.get F.WDT_CTRL.RUN = 1 ∧ loaded u) ∧
      (¬starts → exec (.wdtStart rq) s = .next s) ∧ exec (.cntClr rq) s = .next (s.set F.WDT_STAT.COUNT 0)) ∧
    (starts → ∃ u, exec .wdtAutostart s = .next u ∧ u.get F.WDT_CTRL.RUN = 1 ∧ loaded u) ∧
    (¬starts → exec .wdtAutostart s = .next s) ∧
    (run = true → s.is F.WDT_STAT.SUSP = false → exec .wdtExpiry s = .next s.wdtExpire) ∧
    (run = false ∨ s.is F.WDT_STAT.SUSP = true → exec .wdtExpiry s = .next s) ∧
    exec .wdtSuspendEnd s = .next (s.set F.WDT_STAT.SUSP 0) ∧
    (∃ t : State, s.wdtExpire = t.countedReset 6 ∧
      t.get F.WDT_STAT.COUNT = min (s.get F.WDT_STAT.COUNT + 1) 255 ∧
      (s.core < 2 → ∃ r ∈ t.reports, r.src = 338 + s.core ∧ r.cond = 3))

/-- The log in NOR (R475, R479, R481 to R483): pages of four records; a page that fails loses them; a sector erase suspends the
watchdog until it completes; telemetry goes out where LOG_CFG.TELEM is 1. -/
def LogPages : Prop :=
  ∀ (ok : Bool) (k : Nat) (s : State), s.wf = true →
    (s.logBuf.length < 4 ∨ s.mssDown = true ∨ s.nor.wait = true → exec (.logPageWrite ok) s = .next s) ∧
    (4 ≤ s.logBuf.length → s.mssDown = false → s.nor.wait = false → (∀ r ∈ s.logBuf.take 4, r.seq % 4096 ≠ 3072) →
      exec (.logPageWrite true) s =
        .next { s with logBuf := s.logBuf.drop 4, logNor := s.logNor ++ s.logBuf.take 4 } ∧
      exec (.logPageWrite false) s = .next (State.raise { s with logBuf := s.logBuf.drop 4 } 362 1)) ∧
    (∀ r l, s.mssDown = false → s.nor.wait = false → s.logBuf = r :: l → 3 ≤ l.length → r.seq % 4096 = 3072 → s.nor.erase = none →
      ∃ u, exec (.logPageWrite true) s = .next u ∧ u.nor.erase = some ((r.seq % 262144 / 4096 + 1) % 64) ∧
        (s.is F.WDT_CTRL.RUN = true → u.get F.WDT_STAT.SUSP = 1)) ∧
    (s.nor.erase = none → exec .norEraseDone s = .next s) ∧
    (s.nor.erase = some k → ∃ u, exec .norEraseDone s = .next u ∧ u.nor.erase = none ∧ u.nor.wait = false ∧ u.get F.WDT_STAT.SUSP = 0 ∧
      u.nor.wear = s.nor.wear.set k (min (s.nor.wear.getD k 0 + 1) (2 ^ 32 - 1)) ∧ u.logNor = s.logNor) ∧
    (s.is F.LOG_CFG.TELEM = true → s.mssDown = false → exec .telemetrySnapshot s = .next (s.log 0x02 s.telemetry)) ∧
    (s.is F.LOG_CFG.TELEM = false ∨ s.mssDown = true → exec .telemetrySnapshot s = .next s)

/-! ### Power-up, boot, resets, link tests -/

/-- Power-on reset and RESET_N (R488, R489, R335): power-on reset stands until the highest source reaches 20 V, and PK_SOC then
follows the voltage of PACK; the pin resets with a hard stop and holds the part while it is low. -/
def PowerOnAndResetPin : Prop :=
  ∀ (p a b : Nat) (s : State),
    (∃ u, exec .powerOnReset s = .next u ∧ u.boot.por = true ∧ u.mem = [] ∧ u.ops = [] ∧ u.threads = State.reset.threads ∧
      u.pending = s.pending ∧ u.get F.RST_CAUSE.KIND = 1) ∧
    (20000 ≤ max p (max a b) → s.boot.por = true → exec (.powerOnRelease p a b) s =
      .next (State.powerOnSoc { s with boot := { s.boot with por := false } } p)) ∧
    (let lo : Int := s.get (F.CG_V_PRE.VALUE 24)
     let hi : Int := s.get (F.CG_V_CV.VALUE 24)
     s.wf = true → lo < hi → (p * 100 ≤ lo → (s.powerOnSoc p).get F.PK_SOC.SOC = 0) ∧
       (hi ≤ p * 100 → (s.powerOnSoc p).get F.PK_SOC.SOC = 1000000)) ∧
    (max p (max a b) < 20000 ∨ s.boot.por = false → exec (.powerOnRelease p a b) s = .next s) ∧
    (s.boot.por = true → exec .resetNAssert s = .next { s with boot := { s.boot with pin := true } }) ∧
    (s.boot.por = false → ∃ u, exec .resetNAssert s = .next u ∧ u.boot.pin = true ∧ u.mem = [] ∧ u.ops = [] ∧
      u.get F.RST_CAUSE.KIND = 2 ∧ (∀ k : Fin 16, u.sessions[k] = none) ∧ u.repairs = s.repairs)

/-- The release of reset (R490, R427, R477): the straps give the address of TW_M and NOPATCH, step 1 begins, and under
HARDWARE the watchdog runs. -/
def ResetIsReleased : Prop :=
  ∀ (st : Straps) (s : State), s.wf = true →
    (s.boot.por = true ∨ s.bootStep ≠ 0 → exec (.resetRelease st) s = .next s) ∧
    (s.boot.por = false → s.bootStep = 0 → ∃ u, exec (.resetRelease st) s = .next u ∧ u.bootStep = 1 ∧ u.boot.pin = false ∧
      u.get F.BOOT_STRAP.NOPATCH = (if st.b13 then 1 else 0) ∧
      u.get F.TW_STAT.ADDR = 0x58 + 2 * (if st.b15 then 1 else 0) + (if st.b14 then 1 else 0) ∧
      (s.boot.wdtSw = false → u.get F.WDT_CTRL.RUN = 1) ∧ u.mem = s.mem)

/-- The steps of boot (R492, R493, R494, R496, R497): a step that fails ends boot; READY shows in the pins, in TW_M and in the
alert. -/
def BootSteps : Prop :=
  ∀ (f : BootFind) (d : Fin 2) (s : State), s.wf = true →
    let n := s.bootStep
    let good := f.ok = true ∧ s.mgtSet = true
    (n = 0 ∨ 8 ≤ n ∨ (n = 6 ∧ s.bootBusy = true) → exec (.bootStepDone f) s = .next s) ∧
    (1 ≤ n → n < 8 → n ≠ 6 → ¬good → exec (.bootStepDone f) s = .next (s.set F.BOOT_STAT.STEP 15)) ∧
    (n = 4 → (∃ b ∈ f.banks, b.val < 3) → exec (.bootStepDone f) s = .next (s.set F.BOOT_STAT.STEP 15)) ∧
    (n = 1 → good → exec (.bootStepDone f) s = .next (s.bootAt 2)) ∧
    (n = 2 → good → ∃ u, exec (.bootStepDone f) s = .next u ∧ u.bootStep = 3 ∧
      u.rd64 R.GLB_SERIAL_LO R.GLB_SERIAL_HI = Config.serial % 2 ^ 64 ∧
      u.get F.WDT_CTRL.MODE = (if s.boot.wdtSw then 1 else 0) ∧ (f.fuseErr = true → u.get F.BOOT_STAT.FUSE_ERR = 1)) ∧
    (n = 3 → good → s.nor.marked = [] → ∃ u, exec (.bootStepDone f) s = .next u ∧ u.bootStep = 4 ∧ u.logBuf = s.logBuf) ∧
    (n = 4 → good → f.banks = [] → (∀ b < 8, s.domFenced (82 + b) = false) → ∃ u, exec (.bootStepDone f) s = .next u ∧
      u.bootStep = 5 ∧ ∀ b < 8, u.get (domStat (82 + b)) = 1) ∧
    (n = 5 → good → exec (.bootStepDone f) s = .next (s.bootUp.bootAt 6)) ∧
    (n = 6 → s.bootBusy = false → good → exec (.bootStepDone f) s = .next (s.bootAt 7)) ∧
    (n = 7 → good → exec (.bootStepDone f) s = .next (((s.bootCal f).bootAt 8).bootReady f.ms)) ∧
    (n = 6 → s.house.started = false → exec .nobusTimeout s = .next ((s.set F.BOOT_STAT.NOBUS 1).bootAt 7)) ∧
    (n ≠ 6 ∨ s.house.started = true → exec .nobusTimeout s = .next s) ∧
    (s.get (F.CHN_PORT.PSTATE d) = 1 → exec (.trainTimeout d) s =
      .next ((s.set (F.CHN_PORT.PSTATE d) 0).assertL 335 1 d)) ∧
    (s.get (F.CHN_PORT.PSTATE d) ≠ 1 → exec (.trainTimeout d) s = .next s)

/-- What READY shows (R497). -/
def ReadyShows : Prop :=
  ∀ (ms : Nat) (s : State), s.wf = true → ∃ t : State, s.bootReady ms = t.alert 2 ∧
    t.bootStep = 8 ∧ t.get F.BOOT_STAT.TREADY = min ms 65535 ∧ t.get F.GLB_PINS.READY = 1 ∧ t.get F.TW_STAT.READY = 1

/-- The requests of RST_CTRL (R498, R499, R461): a device reset follows an orderly stop; an MSS-only reset keeps memory,
threads and channels; a channel reset ends its role and its operations. -/
def ResetRequests : Prop :=
  ∀ (rq : Requester) (q : Fin 6) (c : Fin 24) (s : State), s.wf = true →
    (canWrite rq R.RST_CTRL = true →
      exec (.rstDevice rq) s = .next
        (let t := s.stopAll false
         State.resetDue { t with boot := { t.boot with pendDev := some (t.boot.pendDev.getD 3) } }) ∧
      (s.boot.pendDev = none → ∃ u, exec (.rstMss rq) s = .next u ∧ u.mssDown = true ∧ u.mem = s.mem ∧
        u.threads = s.threads ∧ u.chans = s.chans ∧ u.records = s.records ∧ (∀ k : Fin 2, u.mss[k] = { ok := s.mss[k].ok }) ∧
        u.get F.MSS_STAT.MSSRST = min (s.get F.MSS_STAT.MSSRST + 1) (2 ^ F.MSS_STAT.MSSRST.width - 1)) ∧
      (s.boot.pendDev.isSome = true → exec (.rstMss rq) s = .next s) ∧
      exec (.rstSupervisor rq q) s = .next (s.supReset q 3) ∧
      exec (.rstChannel rq c) s = .next (s.resetCh c 3)) ∧
    (canWrite rq R.RST_CTRL = false → exec (.rstDevice rq) s = .next s ∧ exec (.rstMss rq) s = .next s ∧
      exec (.rstSupervisor rq q) s = .next s ∧ exec (.rstChannel rq c) s = .next s) ∧
    (∀ cause, s.boot.pendDev = some cause → (s.stopped = true → s.resetDue = s.deviceReset 3 cause) ∧
      (s.stopped = false → s.resetDue = s)) ∧
    (s.boot.pendDev = none → s.resetDue = s) ∧
    (∀ kind cause, (s.wipe kind cause).mem = [] ∧ (s.wipe kind cause).records = [] ∧ (s.wipe kind cause).rings = [] ∧
      (s.wipe kind cause).pending = s.pending ∧ (s.wipe kind cause).repairs = s.repairs)

/-- A write of LT_CTRL (R503, R504, R507, R508, Tables 20-1 and 20-3): refused with the register unchanged where a value, the
mode or the lane does not admit it; MODE OFF ends a test with END 1. -/
def LinkTestControl : Prop :=
  ∀ (rq : Requester) (l : LtLink) (w : Word) (s : State), s.wf = true →
    canWrite rq (R.LT_CTRL l.group l.index) = true →
    let g := l.group.val
    let i := l.index.val
    let mode := bitsOf w 31 29
    let bad := ltCount g ≤ i ∨ ltAdmits g mode = false ∨ 5 < bitsOf w 23 20
    let res := exec (.ltCtrlWrite rq l w) s
    (bad → res = .next s ∧ (s.ltCtrl g i w).1 = stBadArg) ∧
    (¬bad → mode ≠ 0 → s.ltRuns g i = false → s.ltPermit g i (bitOf w 27) = false →
      res = .next s ∧ (s.ltCtrl g i w).1 = stDenied) ∧
    (¬bad → mode = 0 → s.ltRuns g i = false → bitOf w 28 = false → ∃ u, res = .next u ∧
      u.rd (R.LT_CTRL g i) = w &&& 0xE8F80000 ∧ u.ltRuns g i = false ∧ (s.ltCtrl g i w).1 = stOk ∧ u.mem = s.mem) ∧
    (¬bad → mode ≠ 0 → s.ltRuns g i = true → bitOf w 28 = false → ∃ u, res = .next u ∧
      u.rd (R.LT_CTRL g i) = w &&& 0xE8F80000 ∧ u.ltRuns g i = true) ∧
    (¬bad → mode ≠ 0 → s.ltRuns g i = false → s.ltPermit g i (bitOf w 27) = true → bitOf w 28 = false →
      (s.ltCtrl g i w).1 = stOk ∧ (g = 3 → i < 120 → i % 20 < 16 → ∃ u, res = .next u ∧ u.ltRuns g i = true ∧
        u.rd (R.LT_CTRL g i) = w &&& 0xE8F80000 ∧ u.mem = s.mem)) ∧
    (∀ code < 4, (s.ltClose g i code).get (F.LT_STAT.END g i) = code ∧ (s.ltClose g i code).ltRuns g i = false ∧
      (s.ltClose g i code).get (F.LT_CTRL.MODE g i) = 0 ∧ (s.ltClose g i code).get (F.LT_STAT.LOCK g i) = 0)

/-- Checkers and the TAP (R505, R506, R509): an injected error counts only at a locked checker; the loss of lock counts; after
the provisioning lock EXTEST, CLAMP and HIGHZ act only in reset, and DBG not at all. -/
def CheckersAndTap : Prop :=
  ∀ (l : LtLink) (ir : BitVec 8) (s : State), s.wf = true →
    let g := l.group.val
    let i := l.index.val
    let mode := s.get (F.LT_CTRL.MODE g i)
    let locked := s.is (F.LT_STAT.LOCK g i)
    let err := fun n => min (s.get (F.LT_ERR.ERR g i) + n) (2 ^ (F.LT_ERR.ERR g i).width - 1)
    (ltCount g ≤ i → exec (.errorInject l) s = .next s ∧ exec (.checkerLock l) s = .next s ∧
      exec (.checkerLockLoss l) s = .next s) ∧
    (i < ltCount g →
      (locked = true → mode = 3 ∨ mode = 4 ∨ mode = 5 → exec (.errorInject l) s = .next (s.inc (F.LT_ERR.ERR g i))) ∧
      (locked = false → exec (.errorInject l) s = .next s ∧ exec (.checkerLockLoss l) s = .next s) ∧
      (s.ltRuns g i = true → 2 ≤ mode → mode ≤ 5 → exec (.checkerLock l) s = .next (s.set (F.LT_STAT.LOCK g i) 1)) ∧
      (s.ltRuns g i = false → exec (.checkerLock l) s = .next s) ∧
      (locked = true → s.get (F.LT_CTRL.PAT g i) ≠ 5 → ∃ u, exec (.checkerLockLoss l) s = .next u ∧
        u.get (F.LT_STAT.LOCK g i) = 0 ∧ u.get (F.LT_ERR.ERR g i) = err 64)) ∧
    (∃ u, exec (.jtagInstructionUpdate ir) s = .next u ∧ u.mem = s.mem ∧
      (ir = 1 ∨ ir = 2 → u.get F.LT_JTAG.IR = ir.toNat ∧ u.get F.LT_JTAG.ACTIVE = 0) ∧
      (ir = 3 ∨ ir = 4 ∨ ir = 5 → s.boot.prov = false ∨ s.boot.pin = true →
        u.get F.LT_JTAG.IR = ir.toNat ∧ u.get F.LT_JTAG.ACTIVE = 1) ∧
      (ir = 3 ∨ ir = 4 ∨ ir = 5 → s.boot.prov = true → s.boot.pin = false →
        u.get F.LT_JTAG.IR = 0xFF ∧ u.get F.LT_JTAG.ACTIVE = 0) ∧
      (ir = 0x20 → s.boot.prov = true → u.get F.LT_JTAG.IR = 0xFF ∧ u.get F.LT_JTAG.ACTIVE = 0) ∧
      (ir = 0x20 → s.boot.prov = false → u.get F.LT_JTAG.IR = 0x20 ∧ u.get F.LT_JTAG.ACTIVE = 1) ∧
      (5 < ir.toNat → ir ≠ 0x20 → u.get F.LT_JTAG.IR = 0xFF ∧ u.boot.tapDr = [false]) ∧
      (ir = 1 → u.boot.tapDr = (List.range 32).map (0x324604D3 : Word).getLsbD) ∧
      (ir = 2 → ∃ l, u.boot.tapDr = (List.range 16).flatMap (fun n =>
        [(s.get F.EVT_CFG.OE).testBit n, (s.get F.EVT_LVL.OUT).testBit n, (s.get F.EVT_LVL.PIN).testBit n]) ++ l ++ [!s.boot.pin] ∧
        u.boot.tapDr.length = 83))

/-! ### Register access -/

/-- A mapped word that holds no register (R513): it reads 0 and ignores writes, and the access changes nothing. -/
def ReservedWords : Prop :=
  ∀ (rq : Requester) (a : Nat) (w : Word) (s : State), a < 0x400000 → a % 4 = 0 → mapped a = true → regDef? a = none →
    s.readReg rq a = (0, s) ∧ (canWrite rq a = true → exec (.registerWrite rq a w) s = .next s) ∧
    (∀ (x : Exec) (rd ra : Fin 32) (imm : BitVec 16), s.runs x = true → (s.g x ra + imm.signExtend 32).toNat = a →
      s.unitBusy x a = false → exec (.lw x rd ra imm) s = .next (((s.took x).setG x rd 0).advance x) ∧
      (canWrite (rqOf x) a = true → exec (.sw x rd ra imm) s = .next ((s.took x).advance x)))

/-- A read or write of an unmapped address (R512, R514): the read gives 0, the write has no effect; the requester's status word and
the device-wide record show it. -/
def UnmappedAccess : Prop :=
  ∀ (rq : Requester) (a : Nat) (w : Word) (s : State), s.wf = true → mapped a = false →
    (s.readReg rq a).1 = 0 ∧
    (let u := (s.readReg rq a).2
     bitOf (u.req rq).stat 30 = true ∧ u.get F.GLB_ACC_ERR.VALID = 1 ∧ u.get F.GLB_ACC_ERR.CAUSE = 1 ∧
     u.rd R.GLB_ACC_ADDR = BitVec.ofNat 32 a) ∧
    (a % 4 = 0 → a < 0x400000 → s.mayAccess rq = true → ∃ u, exec (.registerWrite rq a w) s = .next u ∧
      bitOf (u.req rq).stat 30 = true ∧ u.get F.GLB_ACC_ERR.VALID = 1 ∧ u.get F.GLB_ACC_ERR.CAUSE = 2 ∧
      u.rd R.GLB_ACC_ADDR = BitVec.ofNat 32 a ∧ u.mem = s.mem ∧
      (∀ b, b ≠ R.GLB_ACC_ERR → b ≠ R.GLB_ACC_ADDR → u.rd b = s.rd b))

/-- A write of a register that only holds values (R6, R7, R517): RW bits take the word, W1C bits written 1 clear, every other
bit and every other register stays. In a channel's block the operations that arrived before it act first (R277). -/
def PlainRegisterWrites : Prop :=
  ∀ (rq : Requester) (a : Nat) (w : Word) (d : RegDef) (s t : State), mapped a = true → a % 4 = 0 →
    a < 0x400000 → s.mayAccess rq = true → regDef? a = some d →
    t = (if 0x200000 ≤ a ∧ a < 0x300000 then s.opsFirst (regKey a).2 else s) → t.wf = true → t.act? rq a d w = none →
    wholeRefusal (regKey a).1 w = none → (∀ r ∈ fldRules (regKey a).1, r.ok w = true) → (∀ t, rq ≠ .thread t) →
    ∃ u, exec (.registerWrite rq a w) s = .next u ∧
      u.rd a = ((t.rd a &&& ~~~(BitVec.ofNat 32 d.rw) &&& ~~~(w &&& BitVec.ofNat 32 d.w1c)) ||| (w &&& BitVec.ofNat 32 d.rw)) ∧
      (∀ b, b ≠ a → u.rd b = t.rd b) ∧ { u with regs := t.regs } = t ∧ (s.ops = [] → t = s)

/-- A refused write (R517): nothing is written; REJ and the record, or the block's CFG_REJ, show it. A thread writes the
blocks TB, CH and TC only (R516). An address that is not aligned, or not in the register space, is no register write. -/
def RefusedRegisterWrites : Prop :=
  ∀ (rq : Requester) (a : Nat) (w : Word) (d : RegDef) (t : Fin 64) (s : State), s.wf = true →
    (a % 4 ≠ 0 ∨ 0x400000 ≤ a ∨ s.mayAccess rq = false → exec (.registerWrite rq a w) s = .next s) ∧
    (a % 4 = 0 → a < 0x400000 → mapped a = true → canWrite (.thread t) a = false →
      exec (.registerWrite (.thread t) a w) s = .next (s.illegal (.thread t) 3)) ∧
    (wholeRefusal (regKey a).1 w = some .rej → s.putReg rq a d w = s.rej rq a) ∧
    (wholeRefusal (regKey a).1 w = some .ignoreC → s.putReg rq a d w = s.cfgRej a) ∧
    (wholeRefusal (regKey a).1 w = some .ignore → s.putReg rq a d w = s) ∧
    (let u := s.rej rq a
     bitOf (u.req rq).stat 28 = true ∧ u.get F.GLB_ACC_ERR.CAUSE = 4 ∧ u.get F.GLB_ACC_ERR.VALID = 1)

/-- Snapshot pairs (R521, R522, R523): a read of LO keeps the HI word of the same update for its requester; the next read of
HI gives it and changes nothing; a HI read with no LO read before it gives the live word and marks TORN. -/
def SnapshotPairs : Prop :=
  ∀ (rq : Requester) (a : Nat) (s : State), s.wf = true → s.mayAccess rq = true → isLo a = true →
    let lo := s.viewWord rq a
    let hi := lo.2.viewWord rq (a + 4)
    (∃ u, exec (.snapshotLoRead rq a) s = .next u ∧ (s.readLo rq a).1 = lo.1 ∧ (u.req rq).rsh = some (a, hi.1) ∧
      u.mem = s.mem) ∧
    (∀ w, (s.req rq).rsh = some (a, w) → exec (.snapshotHiRead rq (a + 4)) s = .next s ∧ (s.readHi rq (a + 4)).1 = w) ∧
    ((s.req rq).rsh = none → ∃ u, exec (.snapshotHiRead rq (a + 4)) s = .next u ∧
      (s.readHi rq (a + 4)).1 = (s.viewWord rq (a + 4)).1 ∧ bitOf (u.req rq).stat 31 = true ∧
      u.get F.GLB_ACC_ERR.CAUSE = 5)

/-- A requester that may not access, or an address of no pair, reads nothing; the accumulators' clear bits (R195, R196). -/
def SnapshotGuardsAndClears : Prop :=
  ∀ (rq : Requester) (a : Nat) (c : Fin 24) (s : State), s.wf = true →
    (s.mayAccess rq = false ∨ isLo a = false → exec (.snapshotLoRead rq a) s = .next s) ∧
    (s.mayAccess rq = false ∨ isLo (a - 4) = false ∨ a < 4 → exec (.snapshotHiRead rq a) s = .next s) ∧
    (canWrite rq (R.MS_ACC_CTRL c) = true → exec (.clrEout rq c) s = .next (s.clrBit rq c 0) ∧
      exec (.clrQout rq c) s = .next (s.clrBit rq c 1) ∧ exec (.clrEbat rq c) s = .next (s.clrBit rq c 2) ∧
      exec (.clrQbat rq c) s = .next (s.clrBit rq c 3))

/-- The provisioning lock (R526, R527, R528): a write without the key is refused; the lock blows by at most four pulses, and a
row that cannot be read blown fails; a locked asset tag ignores writes. -/
def ProvisioningLock : Prop :=
  ∀ (rq : Requester) (k : Fin 4) (w : Word) (s : State), s.wf = true → canWrite rq R.GLB_PROV_CTRL = true →
    s.mayAccess rq = true →
    let b := s.boot
    (bitsOf w 31 16 ≠ 0x5052 → exec (.provisioningLock rq w) s = .next (s.rej rq R.GLB_PROV_CTRL)) ∧
    (bitsOf w 31 16 = 0x5052 → bitOf w 0 = false ∨ b.prov = true ∨ b.pulses ≠ 0 →
      exec (.provisioningLock rq w) s = .next s) ∧
    (bitsOf w 31 16 = 0x5052 → bitOf w 0 = true → b.prov = false → b.pulses = 0 → ∃ u,
      exec (.provisioningLock rq w) s = .next u ∧ u.boot.pulses = 1 ∧ u.get F.GLB_PROV_STAT.BUSY = 1) ∧
    (b.pulses = 0 → ∀ x y, exec (.provPulseDone x y) s = .next s) ∧
    (b.pulses ≠ 0 →
      (∃ u, exec (.provPulseDone true false) s = .next u ∧ u.boot.prov = true ∧ u.boot.pulses = 0 ∧
        u.get F.GLB_PROV_STAT.BUSY = 0) ∧
      (b.pulses < 4 → ∀ y, exec (.provPulseDone false y) s = .next { s with boot := { b with pulses := b.pulses + 1 } }) ∧
      (4 ≤ b.pulses → ∀ y, ∃ u, exec (.provPulseDone false y) s = .next u ∧ u.boot.pulses = 0 ∧ u.boot.prov = b.prov ∧
        u.get F.GLB_PROV_STAT.BUSY = 0 ∧ u.get F.GLB_PROV_STAT.FAIL = 1)) ∧
    ((∀ t, rq ≠ .thread t) →
      (b.prov = true → ∃ u, exec (.registerWrite rq (R.GLB_ASSET k) w) s = .next u ∧ u.rd (R.GLB_ASSET k) = s.rd (R.GLB_ASSET k) ∧
        bitOf (u.req rq).stat 29 = true ∧ u.get F.GLB_ACC_ERR.CAUSE = 3) ∧
      (b.prov = false → exec (.registerWrite rq (R.GLB_ASSET k) w) s = .next (s.wr (R.GLB_ASSET k) w)))

/-! ### Ulielvi command set: frames, order, answers -/

/-- A frame that arrives (R301, R311, Table 11-4): held while no core dispatches; turned away with the status of the first
row it fails; else outstanding, with nothing else changed. -/
def FramesReceived : Prop :=
  ∀ (rq : Requester) (l : List Byte) (s : State), s.wf = true →
    let f := rxFrame l
    let away := fun (st : Nat) => exec (.frameReceive rq l) s = .next (s.turnAway rq f st)
    let replay := f.flags.testBit 3
    (s.mssDown = true → exec (.frameReceive rq l) s = .next { s with heldIn := s.heldIn ++ [(rq, l)] }) ∧
    (s.mssDown = false →
      (frameFail rq l f ≠ 0 → ∃ u, exec (.frameReceive rq l) s = .next u ∧ u.cmds = s.cmds ∧
        (∃ o ∈ u.out, o.rq = rq ∧ o.code = f.code ∧ o.tag = f.tag ∧ o.flags = 1 + 8 * (if replay then 1 else 0) ∧
          o.body = [BitVec.ofNat 32 0x10, BitVec.ofNat 32 (frameFail rq l f)])) ∧
      (frameFail rq l f = 0 →
        (codeAssigned f.code = false → away 0x13) ∧
        (codeAssigned f.code = true → s.tagOut rq f.tag = true → replay = false → away 0x14) ∧
        (codeAssigned f.code = true → s.tagOut rq f.tag = false →
          (s.ready = false → 2 < f.code → away 0x02) ∧
          (s.ready = true ∨ f.code ≤ 2 →
            (∀ j, replay = true → s.journal.reverse.find? (fun j => j.rq == rq && j.tag == f.tag) = some j →
              exec (.frameReceive rq l) s = .next (s.send (journalFrame j (9 + 16 * (if j.trunc then 1 else 0))))) ∧
            (replay = false → 32 ≤ s.outstandingOf rq ∨ 128 ≤ s.outstanding → away 0x01) ∧
            (replay = false → s.outstandingOf rq < 32 → s.outstanding < 128 → exec (.frameReceive rq l) s =
              .next { s with cmds := s.cmds ++
                [{ rq := rq, tag := f.tag, code := f.code, flags := f.flags, body := f.body, replay := false }] })))))

/-- The checks of Table 11-4 on a frame, in their order (R299, R300, R301). -/
def FrameChecks : Prop :=
  ∀ (rq : Requester) (l : List Byte) (f : RxFrame),
    let n := frameFail rq l f
    (n = 0 → l.length = 20 + f.len ∧ crc32c (l.take (16 + f.len)) = f.crc.toNat ∧ f.magic = 0x5543534C ∧ f.ver / 256 = 1 ∧
      f.flags % 4 = 0 ∧ f.flags / 32 = 0 ∧ f.len ≤ 4096 ∧ f.len % 4 = 0) ∧
    (l.length ≠ 20 + f.len → n = 1) ∧ (n = 2 → crc32c (l.take (16 + f.len)) ≠ f.crc.toNat) ∧
    (n = 3 → f.magic ≠ 0x5543534C) ∧ (n = 4 → f.ver / 256 ≠ 1) ∧ (n ≤ 6)

/-- Dispatch (R307, R313): a command starts only after the earlier commands of its requester with its key, or with ORDERED
after all of them, on a free service thread or, on the slow path, alone; else nothing starts. -/
def CommandsStartInOrder : Prop :=
  ∀ (rq : Requester) (tag : BitVec 16) (c : OutCmd) (pre post : List OutCmd) (s : State), s.wf = true →
    let m : Cmd := { rq := rq, tag := tag }
    let res := exec (.commandDispatch rq tag) s
    ((∀ d ∈ s.cmds, d.names m = true → d.orphan = true) → res = .next s) ∧
    (s.cmds = pre ++ c :: post → c.names m = true → c.orphan = false → (∀ d ∈ pre, d.names m = true → d.orphan = true) →
      (c.started = true ∨ s.mssDown = true ∨
        (∃ d ∈ pre, d.rq = rq ∧ d.orphan = false ∧ (d.key = c.key ∨ c.flags.testBit 2 = true)) → res = .next s) ∧
      (c.started = false → s.mssDown = false →
        (∀ d ∈ pre, d.rq = rq → d.orphan = false → d.key ≠ c.key ∧ c.flags.testBit 2 = false) →
        (∀ t, s.slow = false → s.svcFree = [t] → res = .next ((s.startCmd m t).runCmd m c.code c.body)) ∧
        (s.slow = false → s.svcFree = [] → res = .next s) ∧
        (s.slow = true → (∀ d ∈ pre, d.orphan = true) → (∀ d ∈ s.cmds, d.started = false) →
          res = .next ((s.startCmd m (64 + s.core)).runCmd m c.code c.body)) ∧
        (s.slow = true → (∃ d ∈ s.cmds, d.started = true) → res = .next s)))

/-- A takeover (R311): the core that dispatches is the lower-numbered unfenced one, what waited is answered and checked. -/
def Takeovers : Prop :=
  ∀ (s : State), s.wf = true →
    let c : Nat := if s.get F.MSS_STAT.CORE0 = 2 then 1 else 0
    (s.mssDown = false → exec .standbyTakeover s = .next s) ∧
    (s.mssDown = true → s.cmds = [] → s.heldIn = [] → s.journal = [] → ∃ u, exec .standbyTakeover s = .next u ∧
      u.mssDown = false ∧ u.core = c ∧ (u.get (if c = 0 then F.MSS_STAT.CORE0 else F.MSS_STAT.CORE1) = 0) ∧
      u.get F.MSS_STAT.TAKEOVERS = (if s.core = c then s.get F.MSS_STAT.TAKEOVERS
        else min (s.get F.MSS_STAT.TAKEOVERS + 1) 255))

/-- The answer of a command (R302, R306, R308): a response frame with its status and body, an entry in the journal, and the
command is no longer outstanding; while no core dispatches the journal holds it unsent. -/
def CommandsAreAnswered : Prop :=
  ∀ (m : Cmd) (code status : Nat) (body : List Word) (s : State), (∀ c ∈ s.cmds, c.names m = true → c.orphan = false) →
    let u := s.finish m code status body
    (∃ j ∈ u.journal, j.rq = m.rq ∧ j.tag = m.tag ∧ j.code = code ∧ j.status = status ∧ j.sent = !s.mssDown ∧
      j.trunc = decide (64 < body.length) ∧ j.body = if 64 < body.length then [] else body) ∧
    (s.mssDown = false → ∃ f ∈ u.out, f.rq = m.rq ∧ f.tag = m.tag ∧ f.code = code ∧ f.flags % 2 = 1 ∧
      f.body = BitVec.ofNat 32 status :: body) ∧
    (s.mssDown = true → u.out = s.out) ∧
    (u.cmds.countP (fun c => c.names m) = s.cmds.countP (fun c => c.names m) - 1) ∧ u.mem = s.mem

/-- UCS_SVC (R295, R320): a word that names a thread twice, or one in another use, is refused. -/
def ServiceThreads : Prop :=
  ∀ (rq : Requester) (w : Word) (s : State), canWrite rq R.UCS_SVC = true →
    let on := ((svcOfWord w).filter (·.1)).map (·.2)
    exec (.ucsSvcWrite rq w) s = .next (s.svcWrite w) ∧
    (¬on.Nodup → s.svcWrite w = s.set F.UCS_STAT.CFG_REJ 1) ∧
    (∀ t : Fin 64, t.val ∈ on → s.isSvc t = false → s.thrState t ≠ 0 → s.thrState t ≠ 3 →
      s.svcWrite w = s.set F.UCS_STAT.CFG_REJ 1)

/-! ### Ulielvi command set: the commands -/

/-- No command that has started runs under m's tag. -/
def TagIdle (m : Cmd) (s : State) : Prop := ∀ c ∈ s.cmds, c.names m = true → c.orphan = false → c.started = false

/-- Row c of command m with CODE answers with a status and no body. -/
def Answers (c : Instr) (m : Cmd) (code status : Nat) (s : State) : Prop :=
  exec c s = .next ((s.ucsBegin m code).finish m code status [])

/-- Row c answers OK: with what it does to the state and its body. -/
def AnswersOk (c : Instr) (m : Cmd) (code : Nat) (f : State → State) (body : State → List Word) (s : State) : Prop :=
  exec c s = .next ((f (s.ucsBegin m code)).finish m code 0 (body (s.ucsBegin m code)))

/-- Row c answers OK with what the registers read. -/
def AnswersRead (c : Instr) (m : Cmd) (code : Nat) (f : State → State) (l : List Nat) (s : State) : Prop :=
  exec c s = .next ((f (s.ucsBegin m code)).ucsRead m code l)

/-- Row c posts an operation on a unit, and answers when it completes. -/
def PostsOp (c : Instr) (m : Cmd) (code : Nat) (u : Unit') (k : OpKind) (s : State) : Prop :=
  exec c s = .next ((s.ucsBegin m code).ucsPost m u k)

/-- Session and identity (Table 11-9, R304, R310). -/
def SessionCommands : Prop :=
  ∀ (m : Cmd) (w : Word) (s : State), s.wf = true → TagIdle m s →
    let b := s.ucsBegin m
    let t : Cmd := { rq := m.rq, tag := BitVec.ofNat 16 w.toNat }
    AnswersOk (.nop m) m 0x0000 id (fun _ => []) s ∧
    AnswersOk (.identify m) m 0x0001 id (fun s => [s.rd R.GLB_PART, s.rd R.GLB_STEP, s.rd R.GLB_UCS,
      BitVec.ofNat 32 (s.get F.GLB_PATCH.PATCHES), s.rd R.GLB_PSET_VER, s.rd R.GLB_SERIAL_LO, s.rd R.GLB_SERIAL_HI]) s ∧
    (∃ svc, AnswersOk (.state m) m 0x0002 id (fun b => [BitVec.ofNat 32 (if s.ready then 1 else 0),
      BitVec.ofNat 32 (if s.slow then 1 else 0), BitVec.ofNat 32 s.core, svc, BitVec.ofNat 32 (b.outstandingOf m.rq)]) s) ∧
    (w.toNat < 128 → AnswersOk (.notice m w) m 0x0004 (fun s => s.modReq m.rq fun x => { x with mask := w })
      (fun s => [(s.req m.rq).mask]) s) ∧
    (128 ≤ w.toNat → Answers (.notice m w) m 0x0004 0x11 s) ∧
    (65536 ≤ w.toNat → Answers (.abort m w) m 0x0005 0x11 s) ∧
    ((∀ c ∈ (b 0x0005).cmds, c.names t = true → c.orphan = true) → Answers (.abort m w) m 0x0005 0x11 s) ∧
    (w.toNat < 65536 → ∀ c, (b 0x0005).cmds.find? (fun c => c.names t && !c.orphan) = some c →
      (c.started = true → Answers (.abort m w) m 0x0005 0x40 s) ∧
      (c.started = false → AnswersOk (.abort m w) m 0x0005 (fun s => s.respondSt t c.code 0x50) (fun _ => []) s))

/-- Channel commands (Table 11-10, R240 to R243, R313, R448). -/
def ChannelCommands : Prop :=
  ∀ (m : Cmd) (c : Fin 24) (p a v w : Word) (s : State), s.wf = true → TagIdle m s →
    let ch : Word := BitVec.ofNat 32 c
    let clr := (s.ucsBegin m 0x0107).chClear c
    (p.toNat ≤ 9 → PostsOp (.chSet m ch p v) m 0x0100 (.chan c) (.chset p.toNat v) s) ∧
    (9 < p.toNat → Answers (.chSet m ch p v) m 0x0100 0x11 s) ∧
    (p.toNat ≤ 3 → PostsOp (.chRamp m ch p v w) m 0x0101 (.chan c) (.chramp p.toNat v w) s) ∧
    (3 < p.toNat → Answers (.chRamp m ch p v w) m 0x0101 0x11 s) ∧
    (a.toNat < 128 → PostsOp (.chMode m ch a w) m 0x0102 (.chan c) (.chmode a.toNat w) s) ∧
    (128 ≤ a.toNat → Answers (.chMode m ch a w) m 0x0102 0x11 s) ∧
    (a.toNat < 4 → PostsOp (.chGang m ch a) m 0x0103 (.chan c) (.chgang a.toNat) s) ∧
    (4 ≤ a.toNat → Answers (.chGang m ch a) m 0x0103 0x11 s) ∧
    AnswersRead (.chGet m ch) m 0x0104 id [R.MD_REQ c, R.MD_RES c, R.MD_WHY c, R.PS_STAT c, R.PS_RATING c,
      R.RG_STAT c, R.RG_TGT c, R.MS_RANGE c, R.MS_STAGE c] s ∧
    AnswersRead (.chLatch m ch) m 0x0105 id [R.PS_LATCH c, R.RG_LATCH c, R.BM_LATCH c, R.CG_LATCH c, R.MS_LATCH c] s ∧
    (a = 0 ∨ 0x1000000 ≤ a.toNat → Answers (.chOff m a) m 0x0106 0x11 s) ∧
    (a ≠ 0 → a.toNat < 0x1000000 → s.slow = true → AnswersOk (.chOff m a) m 0x0106 (fun s => s.offEach a) (fun _ => []) s) ∧
    exec (.chClear m ch) s = .next (clr.2.finish m 0x0107 (if clr.1 then 0 else 0x40) []) ∧
    (24 ≤ a.toNat → Answers (.chSet m a p v) m 0x0100 0x11 s ∧ Answers (.chRamp m a p v w) m 0x0101 0x11 s ∧
      Answers (.chMode m a p w) m 0x0102 0x11 s ∧ Answers (.chGang m a p) m 0x0103 0x11 s ∧
      Answers (.chGet m a) m 0x0104 0x11 s ∧ Answers (.chLatch m a) m 0x0105 0x11 s ∧ Answers (.chClear m a) m 0x0107 0x11 s)

/-- Tables, library, battery model and chargers (Tables 11-11 and 11-12). -/
def TableCommands : Prop :=
  ∀ (m : Cmd) (c : Fin 24) (a n v w x : Word) (q v1 v2 h : BitVec 64) (data : List Word) (s : State), s.wf = true → TagIdle m s →
    let ch : Word := BitVec.ofNat 32 c
    let size := (n.toNat + 63) / 64 * 64
    let ext := s.extents.find? fun e => e.1 == a.toNat
    (n = 0 ∨ 12582912 < n.toNat ∨ (w ≠ 16 ∧ w ≠ 64) → Answers (.tblAlloc m n w) m 0x0200 0x11 s) ∧
    (n ≠ 0 → n.toNat ≤ 12582912 → w = 16 ∨ w = 64 →
      (s.lowestSpan size = none → Answers (.tblAlloc m n w) m 0x0200 0x20 s) ∧
      (∀ b, s.lowestSpan size = some b → AnswersOk (.tblAlloc m n w) m 0x0200
        (fun s => { s with extents := s.extents ++ [(b, size)] }) (fun _ => [BitVec.ofNat 32 b]) s)) ∧
    (ext = none → Answers (.tblFree m a) m 0x0201 0x11 s) ∧
    (∀ e, ext = some e → (s.extentUsed e = true → Answers (.tblFree m a) m 0x0201 0x40 s) ∧
      (s.extentUsed e = false → AnswersOk (.tblFree m a) m 0x0201
        (fun s => { s with extents := s.extents.filter fun x => x.1 != e.1 }) (fun _ => []) s)) ∧
    (s.inExtent a.toNat (4 * data.length) = none → Answers (.tblWrite m a data) m 0x0202 0x11 s) ∧
    ((s.inExtent a.toNat (4 * data.length)).isSome = true → AnswersOk (.tblWrite m a data) m 0x0202
      (fun s => s.stWords a.toNat data) (fun _ => []) s) ∧
    (readLen n.toNat = false ∨ s.inExtent a.toNat n.toNat = none → Answers (.tblRead m a n) m 0x0203 0x11 s) ∧
    (readLen n.toNat = true → (s.inExtent a.toNat n.toNat).isSome = true → s.ueSpan a.toNat n.toNat = none →
      AnswersOk (.tblRead m a n) m 0x0203 id (fun s => bytesWords (n.toNat / 4) (s.loadBytes a.toNat n.toNat)) s) ∧
    (let e := (Config.libDir s.upd.lib).find? fun e => e.1 == n.toNat
     (e = none ∨ s.inExtent a.toNat 0 = none → Answers (.libLoad m n a) m 0x0300 0x11 s) ∧
     (∀ d x, e = some d → s.inExtent a.toNat 0 = some x → a.toNat + d.2.2.2 ≤ x.1 + x.2 →
      AnswersOk (.libLoad m n a) m 0x0300 (fun s => s.stBytes a.toNat ((s.upd.lib.drop d.2.2.1).take d.2.2.2))
        (fun _ => [BitVec.ofNat 32 d.2.2.2]) s)) ∧
    (let l := ((Config.libDir s.upd.lib).drop n.toNat).take 255
     AnswersOk (.libList m n) m 0x0301 id (fun _ => BitVec.ofNat 32 l.length ::
      l.flatMap fun e => [BitVec.ofNat 32 e.1, BitVec.ofNat 32 e.2.1, BitVec.ofNat 32 e.2.2.2]) s) ∧
    AnswersRead (.bmGet m ch) m 0x0302 id [R.BM_STAT c, R.BM_SOC c, R.BM_VTERM c, R.BM_OCV c, R.BM_Q_LO c, R.BM_Q_HI c,
      R.BM_V1_LO c, R.BM_V1_HI c, R.BM_V2_LO c, R.BM_V2_HI c, R.BM_H_LO c, R.BM_H_HI c] s ∧
    (0x7F < n.toNat ∨ (bitOf n 0 = true ∧ (bitOf n 1 = true ∨ 1000000 < w.toNat)) →
      Answers (.bmSet m ch n w q v1 v2 h) m 0x0303 0x11 s) ∧
    (AnswersOk (.bmSet m ch 0x1E w q v1 v2 h) m 0x0303 (fun s => [BmWrite.field .q q.toInt, .field .v1 v1.toInt,
      .field .v2 v2.toInt, .field .h h.toInt].foldl (fun s w => s.bmWrite c w) s) (fun _ => []) s) ∧
    (4 < n.toNat ∨ v = 0 ∨ 40 < v.toNat ∨ w = 0 ∨ 1000000 < w.toNat → Answers (.cgPreset m ch n v w) m 0x0304 0x11 s) ∧
    (n.toNat ≤ 4 → v ≠ 0 → v.toNat ≤ 40 → w ≠ 0 → w.toNat ≤ 1000000 →
      (presetOf n.toNat).1.getD 4 0 * 100 * v.toNat ≤ 6000000 → AnswersRead (.cgPreset m ch n v w) m 0x0304
        (fun s => (((s.set (F.CG_CFG.CHEM c) n.toNat).set (F.CG_CFG.NCELL c) v.toNat).set (F.CG_CAP.CAP c) w.toNat).loadPreset
          c.castSucc) [R.CG_STAT c] s) ∧
    AnswersRead (.cgGet m ch) m 0x0305 id [R.CG_STAT c, R.CG_TIME c, R.CG_IEFF c, R.CG_LATCH c] s ∧
    AnswersRead (.cgCtrl m ch n) m 0x0306 (fun s => s.cgWrite c.castSucc (n &&& 3)) [R.CG_STAT c] s ∧
    (24 ≤ x.toNat → Answers (.bmGet m x) m 0x0302 0x11 s ∧ Answers (.bmSet m x n w q v1 v2 h) m 0x0303 0x11 s ∧
      Answers (.cgPreset m x n v w) m 0x0304 0x11 s ∧ Answers (.cgGet m x) m 0x0305 0x11 s ∧
      Answers (.cgCtrl m x n) m 0x0306 0x11 s)

/-- A generated profile (R122, R315): refused where the parameters of its kind do not stand; else its extent holds the header
and the points, and the answer is their number and length. -/
def ProfilesGenerated : Prop :=
  ∀ (m : Cmd) (c : Fin 24) (a kind rate start : Word) (vn vd td te : Word) (params : List Word) (s : State), s.wf = true →
    TagIdle m s →
    let ch : Word := BitVec.ofNat 32 c
    let r := rate.toNat
    let gen := fun (p : List Word) => Instr.profGen m a ch kind rate start 0 p
    let pts := (0, vn.toNat) :: segPts (rate :: 1 :: [vn, vd, td, te]) r 0 0 (profSegs 1 [vn.toNat, vd.toNat, td.toNat, te.toNat]).2
    (r = 0 ∨ 125000000 < r ∨ a.toNat % 16 ≠ 0 ∨ profParamsOk (s.acBand c) kind.toNat (params.map (·.toNat)) = false →
      Answers (gen params) m 0x0204 0x11 s) ∧
    (kind = 1 → 0 < r → r ≤ 125000000 → a.toNat % 16 = 0 → vn.toNat ≤ 6000000 → vd.toNat ≤ 6000000 →
      1000000 ≤ td.toNat * r → 1000000 ≤ te.toNat * r → (td.toNat + 2 * te.toNat) * r ≤ 2147483647 * 1000000 →
      pts.length = 4 ∧
      (s.inExtent a.toNat 0 = none → Answers (gen [vn, vd, td, te]) m 0x0204 0x11 s) ∧
      (∀ e, s.inExtent a.toNat 0 = some e → a.toNat + 0x30 ≤ e.1 + e.2 → AnswersOk (gen [vn, vd, td, te]) m 0x0204
        (fun s => s.stWords a.toNat ([0, 4, start, 0] ++ pts.flatMap fun x => [BitVec.ofNat 32 x.1, BitVec.ofNat 32 x.2]))
        (fun _ => [4, 0x30]) s))

/-- The points of a generated sine (R122, R315): every value within the mean and half the peak to peak, every gap at least one
count and, at one frequency, at most a sixteenth of its period. -/
def SinePoints : Prop :=
  ∀ (w : Sine) (rate n k r : Nat), w.pp ≤ 2 * w.dc →
    w.dc - w.pp / 2 ≤ w.value rate n k r ∧ w.value rate n k r ≤ w.dc + w.pp / 2 ∧ 1 ≤ w.gap rate n k r ∧
    (w.f0 = w.f1 → 0 < w.f0 → w.gap rate n k r = 1 ∨ 16 * w.f0 * w.gap rate n k r ≤ 1000 * rate)

/-- Measurement, sweeps and rings (Table 11-13, R316, R420). -/
def MeasurementCommands : Prop :=
  ∀ (m : Cmd) (c : Fin 24) (a n v w : Word) (s : State), s.wf = true → TagIdle m s →
    let ch : Word := BitVec.ofNat 32 c
    let posts := fun (i : Instr) (code : Nat) (k : OpKind) => PostsOp i m code (.chan c) k s
    let sess : Prop := ∃ i, m.rq = .session i
    (measOk n.toNat = true → posts (.ucsMeas m ch n) 0x0400 (.meas n.toNat 0)) ∧
    (measOk n.toNat = false → Answers (.ucsMeas m ch n) m 0x0400 0x11 s) ∧
    posts (.win m ch 0 n w) 0x0401 (.statRead 0) ∧ posts (.win m ch 1 n w) 0x0401 .statStart ∧
    posts (.win m ch 2 n w) 0x0401 .statStop ∧
    (n.toNat < 4 → Answers (.win m ch 3 n w) m 0x0401 0x11 s) ∧
    (4 ≤ n.toNat → AnswersOk (.win m ch 3 n w) m 0x0401 (fun s => (s.writeReg m.rq (R.MS_WIN_LEN c) n).writeReg m.rq
      (R.MS_WIN_CTRL c) (w &&& 0x3FFFFFFF)) (fun _ => []) s) ∧
    (3 < a.toNat → Answers (.win m ch a n w) m 0x0401 0x11 s) ∧
    (capOk v = true → exec (.cap m ch 0 v n w) s = .next ((((s.ucsBegin m 0x0402).writeReg m.rq (R.MS_CAP_DEC c) n).writeReg m.rq
      (R.MS_CAP_LEN c) w).ucsPost m (.chan c) (.capStart v))) ∧
    posts (.cap m ch 1 v n w) 0x0402 .capStop ∧
    (capOk v = false → Answers (.cap m ch 0 v n w) m 0x0402 0x11 s) ∧
    (1 < a.toNat → Answers (.cap m ch a v n w) m 0x0402 0x11 s) ∧
    (s.sweepOk (a.toNat / 16 * 16) = false → Answers (.sweep m ch 0 a w) m 0x0403 0x11 s) ∧
    (s.sweepOk (a.toNat / 16 * 16) = true → AnswersRead (.sweep m ch 0 a w) m 0x0403
      (fun s => (s.writeReg m.rq (R.MS_SWP_ADDR c) a).swpWrite c (w &&& 0x1FFFFFFF ||| 0x80000000)) [R.MS_SWP_STAT c] s) ∧
    AnswersRead (.sweep m ch 1 a w) m 0x0403 (fun s => s.sweepAbort c) [R.MS_SWP_STAT c] s ∧
    AnswersRead (.sweep m ch 2 a w) m 0x0403 id [R.MS_SWP_STAT c] s ∧
    (ringGeom n.toNat v.toNat = false ∨ (a ≠ 0xFFFFFFFF ∧ 4096 ≤ a.toNat) → Answers (.ringAlloc m a n v) m 0x0410 0x11 s) ∧
    (ringGeom n.toNat v.toNat = true → a.toNat < 4096 →
      ((s.ring? a.toNat).isSome = true → Answers (.ringAlloc m a n v) m 0x0410 0x40 s) ∧
      (s.ring? a.toNat = none → ∀ x, ((s.ucsBegin m 0x0410).fresh.2).ringBase (n.toNat * v.toNat) s.fresh.1 16384 = some x →
        AnswersOk (.ringAlloc m a n v) m 0x0410 (fun s => { s.fresh.2 with rings := s.rings ++
          [{ num := a.toNat, base := x, size := n.toNat, slots := v.toNat }] })
          (fun _ => [BitVec.ofNat 32 a.toNat, BitVec.ofNat 32 x]) s)) ∧
    (s.ring? a.toNat = none → Answers (.ringFree m a) m 0x0411 0x11 s ∧ Answers (.ringRead m a n) m 0x0412 0x11 s ∧
      Answers (.ringGet m a) m 0x0413 0x11 s ∧ Answers (.ringSub m a n) m 0x0414 0x11 s) ∧
    (∀ r, s.ring? a.toNat = some r →
      (r.sub = none → s.ringNamed r.num = false → AnswersOk (.ringFree m a) m 0x0411
        (fun s => { s with rings := s.rings.filter fun x => x.num != r.num }) (fun _ => []) s) ∧
      (r.sub.isSome = true ∨ s.ringNamed r.num = true → Answers (.ringFree m a) m 0x0411 0x40 s) ∧
      AnswersOk (.ringGet m a) m 0x0413 id (fun _ => [BitVec.ofNat 32 r.base, BitVec.ofNat 32 r.size, BitVec.ofNat 32 r.slots,
        BitVec.ofNat 32 r.head, BitVec.ofNat 32 r.tail, BitVec.ofNat 32 r.drop]) s ∧
      (s.bufFenced r.base (r.slots * r.size) = true → Answers (.ringRead m a n) m 0x0412 0x30 s) ∧
      (s.bufFenced r.base (r.slots * r.size) = false → r.sub.isSome = true → Answers (.ringRead m a n) m 0x0412 0x40 s) ∧
      (s.bufFenced r.base (r.slots * r.size) = false → r.sub = none → r.fill = 0 → Answers (.ringRead m a n) m 0x0412 0x02 s) ∧
      (s.bufFenced r.base (r.slots * r.size) = false → r.sub = none → r.fill ≠ 0 →
        let k := min (min n.toNat (4088 / r.size)) r.fill
        AnswersOk (.ringRead m a n) m 0x0412 (fun s => s.modRing r.num fun r => { r with head := (r.head + k) % 2 ^ 32 })
          (fun s => BitVec.ofNat 32 k :: (List.range k).flatMap fun i => s.ldWords (r.slot (r.head + i)) (r.size / 4)) s) ∧
      (¬sess → n.toNat < 65536 → Answers (.ringSub m a n) m 0x0414 0x40 s) ∧
      (sess → r.sub = none → n ≠ 0 → n.toNat < 65536 → AnswersOk (.ringSub m a n) m 0x0414
        (fun s => s.modRing r.num fun r => { r with sub := some (m.rq, n.toNat), sent := if r.sub.isSome then r.sent else r.head })
        (fun _ => []) s))

/-- Timebase, scheduling, programs and threads (Tables 11-14 and 11-15, R250, R264, R265, R295, R313). -/
def TimebaseAndThreadCommands : Prop :=
  ∀ (m : Cmd) (t : Fin 64) (k : Fin 16) (a n v w x : Word) (l : List Word) (s : State), s.wf = true → TagIdle m s →
    let th : Word := BitVec.ofNat 32 t
    let g : Word := BitVec.ofNat 32 k
    let rq := m.rq
    AnswersRead (.tbGet m) m 0x0500 id [R.TB_CTRL, R.TB_STAT, R.TB_EXT_LO, R.TB_EXT_HI, R.TB_DTIME_LO, R.TB_DTIME_HI, R.TB_POOL,
      R.TB_WALK] s ∧
    (let r := ((s.ucsBegin m 0x0501).writeTbCtrl w).readReg rq R.TB_STAT
     exec (.tbSet m w) s = .next (if bitOf r.1 F.TB_STAT.CFG_REJ.lo then r.2.finish m 0x0501 0x11 []
      else r.2.finish m 0x0501 0 [r.1])) ∧
    (3 < a.toNat → Answers (.tbSrc m a n v w x) m 0x0502 0x11 s) ∧
    (a.toNat < 3 → AnswersRead (.tbSrc m a n v w x) m 0x0502 (fun s => (((s.writeReg rq (R.SRC_CFG a.toNat) n).writeReg rq
      (R.IDX_VAL a.toNat) v).writeReg rq (R.IDX_PERIOD a.toNat) w).writeReg rq (R.IDX_TOL a.toNat) x)
      [R.IDX_ERR a.toNat, R.SRC_CNT a.toNat] s) ∧
    AnswersOk (.tbRelease m w) m 0x0503 (fun s => s.release (bitOf w 0)) (fun _ => []) s ∧
    (l.length ≠ 8 → Answers (.ucsSched m l) m 0x0504 0x11 s ∧ Answers (.ucsArm m l) m 0x0505 0x11 s) ∧
    (l.length = 8 → s.slow = true → Answers (.ucsSched m l) m 0x0504 0x20 s ∧ Answers (.ucsArm m l) m 0x0505 0x20 s) ∧
    (l.length = 8 → s.slow = false → PostsOp (.ucsSched m l) m 0x0504 .hub (.sched l) s ∧
      PostsOp (.ucsArm m l) m 0x0505 .hub (.arm l) s) ∧
    PostsOp (.ucsDisarm m a) m 0x0506 .hub (.disarm a.toNat) s ∧
    (16 ≤ a.toNat → Answers (.gtSet m a n v w) m 0x0507 0x11 s ∧ Answers (.gtGet m a) m 0x0508 0x11 s) ∧
    (0x7FFFFFFF < w.toNat → Answers (.gtSet m g n v w) m 0x0507 0x11 s) ∧
    (w.toNat ≤ 0x7FFFFFFF → bitsOf n 4 0 < 21 → bitOf n 31 = false → AnswersRead (.gtSet m g n v w) m 0x0507
      (fun s => (s.writeReg rq (R.GT_CFG k) n).writeReg rq (R.GT_PERIOD k) w) [R.GT_STAT k] s) ∧
    AnswersRead (.gtGet m g) m 0x0508 id [R.GT_CAP_LO k, R.GT_CAP_HI k, R.GT_STAT k] s ∧
    (s.inExtent a.toNat n.toNat = none → Answers (.imgLoad m a n) m 0x0600 0x11 s) ∧
    ((s.inExtent a.toNat n.toNat).isSome = true → s.ueSpan a.toNat n.toNat = none →
      let cnt := min (s.ldWord (a.toNat + 0x10)).toNat 256
      let d := (List.range cnt).map (s.segDesc a.toNat)
      (s.imageOk a.toNat n.toNat d = false → Answers (.imgLoad m a n) m 0x0600 0x11 s) ∧
      (s.imageOk a.toNat n.toNat d = true → ∃ u : State, exec (.imgLoad m a n) s =
          .next (u.finish m 0x0600 0 [s.ldWord (a.toNat + 0x0C), BitVec.ofNat 32 cnt]) ∧ u.regs = s.regs ∧
        (∃ i ∈ u.images, i.segs = d.map fun e => (e.addr, e.size)))) ∧
    (64 ≤ a.toNat → Answers (.thrStart m a n v) m 0x0601 0x11 s ∧ Answers (.thrStop m a) m 0x0602 0x11 s ∧
      Answers (.thrGet m a) m 0x0603 0x11 s ∧ Answers (.thrCfg m a n) m 0x0604 0x11 s) ∧
    (s.isSvc t = true → Answers (.thrStart m th n v) m 0x0601 0x40 s ∧ Answers (.thrStop m th) m 0x0602 0x40 s ∧
      Answers (.thrCfg m th n) m 0x0604 0x40 s) ∧
    (s.isSvc t = false →
      (s.slow = true → Answers (.thrStart m th n v) m 0x0601 0x20 s) ∧
      (s.slow = false → fetchable n.toNat = true → s.clusterOff (t / 16) = false → s.noPair t = false → s.thrLive t = false →
        s.opsOf t = [] → AnswersOk (.thrStart m th n v) m 0x0601
          (fun s => (s.wr (R.SEQ_THR_ARG t) v).startThr t n v) (fun _ => []) s) ∧
      AnswersOk (.thrStop m th) m 0x0602 (fun s => s.tctlStop t) (fun _ => []) s ∧
      AnswersOk (.thrCfg m th n) m 0x0604 (fun s => s.wr (R.SEQ_THR_CFG t) (n &&& 0xE0000000)) (fun _ => []) s) ∧
    AnswersRead (.thrGet m th) m 0x0603 id
      [R.SEQ_THR_STAT t, R.SEQ_THR_PC t, R.SEQ_THR_EXC t, R.SEQ_THR_EPC t, R.SEQ_THR_EADDR t] s ∧
    (let own := (List.finRange 64).filter fun (t : Fin 64) => !s.isSvc t.val
     AnswersOk (.excClr m a n) m 0x0605 (fun s => (s.clearExcs false a own).clearExcs true n own) (fun _ => []) s) ∧
    (s.svcBad w = false → exec (.svcSet m w) s =
      .next (((s.ucsBegin m 0x0606).svcWrite w).finish m 0x0606 0 [((s.ucsBegin m 0x0606).svcWrite w).rd R.UCS_SVC])) ∧
    (s.svcBad w = true → exec (.svcSet m w) s =
      .next (((s.ucsBegin m 0x0606).set F.UCS_STAT.CFG_REJ 1).finish m 0x0606 0x11 []))

/-- House power, lines and PD (Tables 11-16 to 11-18, R348, R354, R356, R360, R373, R385). -/
def HouseLinePdCommands : Prop :=
  ∀ (m : Cmd) (c : Fin 24) (p : Fin 8) (a n v w : Word) (l : List Word) (s : State), s.wf = true → TagIdle m s →
    let ch : Word := BitVec.ofNat 32 c
    let po : Word := BitVec.ofNat 32 p
    let rq := m.rq
    let cfg := fun (i : Instr) (code addr k : Nat) =>
      (l = [] ∨ k < l.length ∨ cfgOk addr l = false → Answers i m code 0x11 s) ∧
      (l ≠ [] → l.length ≤ k → cfgOk addr l = true → AnswersOk i m code (fun s => s.writeRegs rq addr l) (fun _ => []) s)
    let port := fun (i : Instr) (code : Nat) (k : OpKind) =>
      exec i s = .next (((s.ucsBegin m code).ucsPost m (.port p) k).pdGo p)
    AnswersRead (.hseGet m) m 0x0700 id ([R.HSE_SEL_STAT, R.FD_STAT 0, R.FD_STAT 1, R.CG_STAT 24, R.PK_SOC, R.PK_LATCH,
      R.HSE_LATCH, R.LG_STAT, R.HSE_EVT] ++ (List.range 16).flatMap fun n => [R.HSE_M_LO n, R.HSE_M_HI n]) s ∧
    (1 < a.toNat → Answers (.feedCfg m a l) m 0x0701 0x11 s) ∧
    (a.toNat ≤ 1 → cfg (.feedCfg m a l) 0x0701 (R.FD_CFG a.toNat) 3) ∧
    (4 < n.toNat ∨ v = 0 ∨ 40 < v.toNat ∨ w = 0 ∨ 1000000 < w.toNat → Answers (.packPreset m n v w) m 0x0702 0x11 s) ∧
    (n.toNat ≤ 4 → v ≠ 0 → v.toNat ≤ 40 → w ≠ 0 → w.toNat ≤ 1000000 →
      (presetOf n.toNat).1.getD 4 0 * 100 * v.toNat ≤ 6000000 → AnswersRead (.packPreset m n v w) m 0x0702
        (fun s => (((s.set (F.CG_CFG.CHEM 24) n.toNat).set (F.CG_CFG.NCELL 24) v.toNat).set (F.CG_CAP.CAP 24) w.toNat).loadPreset
          24) [R.CG_STAT 24] s) ∧
    AnswersRead (.packCtrl m n) m 0x0703 (fun s => s.cgWrite 24 (n &&& 3)) [R.CG_STAT 24] s ∧
    AnswersOk (.ledgerGet m) m 0x0704 id (fun s => [BitVec.ofNat 32 s.pool, BitVec.ofNat 32 s.free, BitVec.ofNat 32 s.houseAcct,
      BitVec.ofNat 32 s.burstPool] ++ allCh.map fun (c : Fin 24) => s.rd (R.LG_HELD c)) s ∧
    (600 < n.toNat → Answers (.ledgerRsv m ch n) m 0x0705 0x11 s) ∧
    (n.toNat ≤ 600 → s.free < n.toNat - s.get (F.LG_HELD.CONT c) → Answers (.ledgerRsv m ch n) m 0x0705 0x20 s) ∧
    (n.toNat ≤ 600 → n.toNat - s.get (F.LG_HELD.CONT c) ≤ s.free → AnswersOk (.ledgerRsv m ch n) m 0x0705
      (fun s => s.set (F.LG_RSV.RSV c) n.toNat) (fun _ => [n]) s) ∧
    (let r := (s.ucsBegin m 0x0800).lineReq c a.toNat w.toNat
     exec (.lineSet m ch a w) s = .next (r.2.finish m 0x0800 r.1 [])) ∧
    cfg (.lineCfg m ch l) 0x0801 (R.LN_CFG c) 1 ∧
    AnswersRead (.lineGet m ch) m 0x0802 id [R.LN_STAT c, R.LN_LATCH c] s ∧
    (0x10000 ≤ a.toNat ∨ 3 < n.toNat ∨ (n = 0 ∧ (w = 0 ∨ 16777215 < w.toNat)) → Answers (.evtSet m a n w) m 0x0803 0x11 s) ∧
    (a.toNat < 0x10000 → n.toNat ≤ 3 → n ≠ 0 ∨ (w ≠ 0 ∧ w.toNat ≤ 16777215) → AnswersOk (.evtSet m a n w) m 0x0803
      (fun s => s.evtMask (0x20 + n.toNat) w.toNat a.toNat (List.range 16)) (fun _ => []) s) ∧
    cfg (.pdCfg m po l) 0x0900 (R.PD_CFG p) 34 ∧
    AnswersRead (.pdGet m po) m 0x0901 id [R.PD_STAT p, R.PD_CON_V p, R.PD_CON_I p, R.PD_BC p, R.PD_LATCH p] s ∧
    (l.length ≠ 16 → Answers (.pdSend m po l) m 0x0902 0x11 s) ∧
    (l.length = 16 → port (.pdSend m po l) 0x0902 (.pdSend 0 (l.take 8))) ∧
    port (.pdRecv m po) 0x0903 (.pdRecv 0) ∧
    (l.length ≠ 8 → Answers (.pdVdm m po n l) m 0x0904 0x11 s) ∧
    (l.length = 8 → port (.pdVdm m po 0 l) 0x0904 (.vdmReq 0 l) ∧ port (.pdVdm m po 1 l) 0x0904 (.vdmSend 0 l) ∧
      port (.pdVdm m po 2 l) 0x0904 (.vdmRecv 0)) ∧
    (s.attach p ≠ 2 → Answers (.pdRequest m po n v w) m 0x0905 0x02 s) ∧
    (s.attach p = 2 → s.pdReqOut p = true → Answers (.pdRequest m po n v w) m 0x0905 0x01 s) ∧
    (s.attach p = 2 → s.pdReqOut p = false →
      (s.pdTerms p n.toNat v.toNat w.toNat = none → Answers (.pdRequest m po n v w) m 0x0905 0x11 s) ∧
      (∀ t, s.pdTerms p n.toNat v.toNat w.toNat = some t → port (.pdRequest m po n v w) 0x0905 (.pdReq t.pos t.kind t.v t.i))) ∧
    (24 ≤ a.toNat → Answers (.ledgerRsv m a n) m 0x0705 0x11 s ∧ Answers (.lineSet m a n w) m 0x0800 0x11 s ∧
      Answers (.lineCfg m a l) m 0x0801 0x11 s ∧ Answers (.lineGet m a) m 0x0802 0x11 s) ∧
    (8 ≤ a.toNat → Answers (.pdCfg m a l) m 0x0900 0x11 s ∧ Answers (.pdGet m a) m 0x0901 0x11 s ∧
      Answers (.pdSend m a l) m 0x0902 0x11 s ∧ Answers (.pdRecv m a) m 0x0903 0x11 s ∧
      Answers (.pdVdm m a n l) m 0x0904 0x11 s ∧ Answers (.pdRequest m a n v w) m 0x0905 0x11 s)

/-- Faults, log and thermal (Tables 11-19 and 11-20, R258, R259, R447, R456, R458, R483, R484, R487). -/
def FaultAndLogCommands : Prop :=
  ∀ (m : Cmd) (a n : Word) (l : List Word) (pass : Bool) (s : State), s.wf = true → TagIdle m s →
    let b := s.ucsBegin m
    AnswersOk (.fltSum m) m 0x0A00 id (fun s => (List.range 12).map fun k => s.rd (R.FLT_SUM k)) s ∧
    (384 ≤ a.toNat → Answers (.fltRead m a) m 0x0A01 0x11 s) ∧
    (a.toNat < 384 → (s.fltRec? a.toNat = none → Answers (.fltRead m a) m 0x0A01 0x02 s) ∧
      (∀ r, s.fltRec? a.toNat = some r →
        AnswersOk (.fltRead m a) m 0x0A01 id (fun _ => r.words) s)) ∧
    (l = [] ∨ 12 < a.toNat + l.length → Answers (.fltClear m a l) m 0x0A02 0x11 s) ∧
    (l ≠ [] → a.toNat + l.length ≤ 12 → AnswersOk (.fltClear m a l) m 0x0A02
      (fun s => ((List.range l.length).zip l).foldl (fun s x => s.sumClear (a.toNat + x.1) x.2) s) (fun _ => []) s) ∧
    (384 ≤ a.toNat ∨ 2 < n.toNat → Answers (.fltForce m a n) m 0x0A03 0x11 s) ∧
    (a.toNat < 384 → n.toNat ≤ 2 → (∀ o ∈ s.ops, o.unit = .coll → o.word.isSome = true) →
      let u := b 0x0A03
      let o : Op := { who := .ucs m, unit := .coll, kind := .force a.toNat n.toNat }
      exec (.fltForce m a n) s = .next ((State.force { u with ops := u.ops ++ [o] } a.toNat n.toNat).setWord o.who (cword stOk))) ∧
    AnswersOk (.cover m) m 0x0A04 id (fun s => (List.range 4).map fun k => BitVec.ofNat 32 (s.cover k)) s ∧
    (let r := (s.repairs.drop a.toNat).take 255
     AnswersOk (.repairGet m a) m 0x0A05 id (fun _ => BitVec.ofNat 32 r.length :: r.flatMap Repair.words) s) ∧
    (let r := (b 0x0A06).repair a n.toNat pass
     exec (.repair m a n pass) s = .next (r.2.finish m 0x0A06 r.1 [])) ∧
    (unitCount (bitsOf a 31 24) ≤ bitsOf a 23 0 ∨ 2 < n.toNat → Answers (.repair m a n pass) m 0x0A06 0x11 s) ∧
    (n = 0 ∨ 63 < n.toNat → Answers (.logRead m a n) m 0x0B00 0x11 s) ∧
    (n ≠ 0 → n.toNat ≤ 63 → (∀ r ∈ s.logNor ++ s.logBuf, r.seq < a.toNat) → AnswersOk (.logRead m a n) m 0x0B00 id
      (fun _ => [BitVec.ofNat 32 (max a.toNat (s.get F.LOG_STAT.NEXT))]) s) ∧
    (l.length ≠ 14 → Answers (.logPut m l) m 0x0B01 0x11 s) ∧
    (l.length = 14 → s.logBuf.length < 64 → AnswersOk (.logPut m l) m 0x0B01 (fun s => s.logRec 0x03 0 l)
      (fun s => [BitVec.ofNat 32 (s.get F.LOG_STAT.NEXT)]) s) ∧
    (l.length = 14 → 64 ≤ s.logBuf.length → exec (.logPut m l) s =
      .next (((b 0x0B01).logRec 0x03 0 l).finish m 0x0B01 0x01 [])) ∧
    (a = 0 ∨ (100 ≤ a.toNat ∧ a.toNat ≤ 3600000) → AnswersOk (.telemSet m a) m 0x0B02
      (fun s => s.set F.LOG_CFG.TELEM a.toNat) (fun _ => []) s) ∧
    (a ≠ 0 → a.toNat < 100 ∨ 3600000 < a.toNat → Answers (.telemSet m a) m 0x0B02 0x11 s) ∧
    AnswersRead (.thermGet m) m 0x0B03 id ((List.range 7).map R.THM_STAT ++ [R.THM_LATCH, R.THM_SUB, R.HK_STAT]) s

/-- Updates and link tests (Tables 11-21 and 11-22, R317, R318, R507, R511): only the holder writes, checks, activates and
cancels; an image that fails a check is not activated. -/
def UpdateCommands : Prop :=
  ∀ (m : Cmd) (a n : Word) (l : List Word) (s : State), s.wf = true → TagIdle m s →
    let b := s.ucsBegin m
    let mine := s.upd.holder = some m.rq
    let bytes := l.flatMap wordBytes
    let span := (List.range bytes.length).map (a.toNat + ·)
    let link := engineOf a
    (16777216 < a.toNat → Answers (.updBegin m a) m 0x0C00 0x11 s) ∧
    (a.toNat ≤ 16777216 → s.upd.holder ≠ none → ¬mine → Answers (.updBegin m a) m 0x0C00 0x01 s) ∧
    (a.toNat ≤ 16777216 → s.upd.holder = none ∨ mine → AnswersOk (.updBegin m a) m 0x0C00
      (fun s => s.modUpd fun u => { u with
        holder := some m.rq, length := a.toNat, stage := 1 - u.slot, staged := [], written := [], checked := none }) (fun s => [BitVec.ofNat 32 (1 - s.upd.slot)]) s) ∧
    (¬mine → Answers (.updWrite m a l) m 0x0C01 0x40 s ∧ Answers (.updCheck m) m 0x0C02 0x40 s ∧
      Answers (.updActivate m n) m 0x0C03 0x40 s ∧ Answers (.updCancel m) m 0x0C05 0x40 s) ∧
    (mine →
      (l = [] ∨ s.upd.length < a.toNat + bytes.length ∨ (∃ i ∈ span, i ∈ s.upd.written) →
        Answers (.updWrite m a l) m 0x0C01 0x11 s) ∧
      (l ≠ [] → a.toNat + bytes.length ≤ s.upd.length → (∀ i ∈ span, i ∉ s.upd.written) → AnswersOk (.updWrite m a l) m 0x0C01
        (fun s => s.modUpd fun u => { u with
          staged := (span.zip bytes).foldl (fun c x => cellSet erased x.1 x.2 c) u.staged
          written := u.written ++ span, checked := none }) (fun _ => []) s) ∧
      (s.checkStatus ≠ 0 → ∃ u : State, exec (.updCheck m) s = .next (u.finish m 0x0C02 s.checkStatus []) ∧
        u.upd.checked = none ∧ ∃ r ∈ u.reports, r.src = 376 ∧ r.cond = 1) ∧
      (s.checkStatus = 0 → ∃ u : State, exec (.updCheck m) s = .next (u.finish m 0x0C02 0
          [BitVec.ofNat 32 (s.upd.word 4), BitVec.ofNat 32 (s.upd.word 8), BitVec.ofNat 32 (s.upd.word 0xC)]) ∧
        u.upd = { s.upd with checked := some (s.upd.word 4, s.upd.word 8, s.upd.word 0xC, s.upd.word 0x10) }) ∧
      (s.upd.checked = none → Answers (.updActivate m n) m 0x0C03 0x40 s) ∧
      (∀ k, s.upd.checked = some k → bitOf n 0 = false → AnswersOk (.updActivate m n) m 0x0C03
        (fun s => (s.modUpd fun u => { u with fuse := max u.fuse k.2.2.1, slot := u.stage }).install k.1 k.2.1 k.2.2.2)
        (fun _ => []) s) ∧
      AnswersOk (.updCancel m) m 0x0C05 (fun s => s.modUpd fun u => { u with holder := none, checked := none })
        (fun _ => []) s) ∧
    (∃ x y, exec (.updGet m) s = .next (((b 0x0C04).freshWords 2).2.finish m 0x0C04 0
      [x, y, s.rd R.GLB_PSET_VER, BitVec.ofNat 32 s.upd.fuse])) ∧
    (s.checkStatus = 0 → s.upd.headOk = true ∧ s.upd.fuse ≤ s.upd.word 0xC) ∧
    (link = none ∨ l = [] ∨ 3 < l.length → Answers (.ltSet m a l) m 0x0D00 0x11 s) ∧
    (∀ g i w, link = some (g, i) → l = [w] → exec (.ltSet m a l) s =
      .next (((b 0x0D00).ltCtrl g i w).2.finish m 0x0D00 ((b 0x0D00).ltCtrl g i w).1 [])) ∧
    (link = none → Answers (.ltGet m a) m 0x0D01 0x11 s) ∧
    (∀ g i, link = some (g, i) → AnswersRead (.ltGet m a) m 0x0D01 id
      [R.LT_STAT g i, R.LT_ERR g i, R.LT_BITS_LO g i, R.LT_BITS_HI g i] s)

/-- Raw access (Table 11-23, R514, R516, R526): registers as the requester's own reads and writes; memory in the queue region,
where contexts and reserved memory may not be written. -/
def RawCommands : Prop :=
  ∀ (m : Cmd) (a n v w : Word) (l : List Word) (s : State), s.wf = true → TagIdle m s →
    let rq := m.rq
    let x := a.toNat
    let span := (List.range n.toNat).map fun i => x + 4 * i
    let within := (0x10000000 ≤ x ∧ x + n.toNat ≤ 0x16000000) ∨ (0x1F000000 ≤ x ∧ x + n.toNat ≤ 0x1F100000)
    let k := 4 * l.length
    (n = 0 ∨ 1023 < n.toNat → Answers (.regRead m a n) m 0x0E00 0x11 s) ∧
    (n ≠ 0 → n.toNat ≤ 1023 → (∀ b ∈ span, b % 4 = 0 ∧ b < 0x400000 ∧ mapped b = true) →
      AnswersRead (.regRead m a n) m 0x0E00 id span s) ∧
    (n ≠ 0 → n.toNat ≤ 1023 → (∃ b ∈ span, b % 4 ≠ 0 ∨ 0x400000 ≤ b ∨ mapped b = false) →
      Answers (.regRead m a n) m 0x0E00 0x11 s) ∧
    (l = [] ∨ 1022 < l.length ∨ n.toNat ≠ l.length ∨ x % 4 ≠ 0 ∨ 0x400000 < x + k →
      Answers (.regWrite m a n l) m 0x0E01 0x11 s) ∧
    (l ≠ [] → l.length ≤ 1022 → n.toNat = l.length → x % 4 = 0 → x + k ≤ 0x400000 →
      (s.boot.prov = true → x < 0x70 → 0x60 < x + k → Answers (.regWrite m a n l) m 0x0E01 0x41 s) ∧
      (s.boot.prov = false → AnswersOk (.regWrite m a n l) m 0x0E01 (fun s => s.writeRegs rq x l) (fun _ => []) s)) ∧
    (x % 4 ≠ 0 ∨ 0x400000 ≤ x → Answers (.regRmw m a v w) m 0x0E02 0x11 s) ∧
    (x % 4 = 0 → x < 0x400000 → s.boot.prov = false → AnswersOk (.regRmw m a v w) m 0x0E02
      (fun s => (s.readReg rq x).2.writeReg rq x (((s.readReg rq x).1 &&& ~~~v) ||| (w &&& v)))
      (fun s => [(s.readReg rq x).1]) s) ∧
    (readLen n.toNat = false ∨ ¬within → Answers (.memRead m a n) m 0x0E03 0x11 s) ∧
    (readLen n.toNat = true → within → s.ueSpan x n.toNat = none → AnswersOk (.memRead m a n) m 0x0E03 id
      (fun s => bytesWords (n.toNat / 4) (s.loadBytes x n.toNat)) s) ∧
    (l = [] ∨ x < 0x10000000 ∨ 0x16000000 < x + k → Answers (.memWrite m a l) m 0x0E04 0x11 s) ∧
    (l ≠ [] → 0x10000000 ≤ x → x + k ≤ 0x16000000 →
      (x < 0x10E00000 → 0x10C00000 < x + k → Answers (.memWrite m a l) m 0x0E04 0x40 s) ∧
      (0x10E00000 ≤ x ∨ x + k ≤ 0x10C00000 → AnswersOk (.memWrite m a l) m 0x0E04 (fun s => s.stWords x l)
        (fun _ => []) s))

/-! ### The block: queue, reset, words -/

/-- Queue memory stays in its canonical form under stores, whose bytes read back where the region takes stores and the bank is
on (R16, R54). -/
def StoresKeepMemory : Prop :=
  ∀ (s : State) (a : Nat) (b : Byte) (l : List Byte) (ws : List Word), Memory.wf s.mem = true →
    Memory.wf (s.stByte a b).mem = true ∧ Memory.wf (s.stBytes a l).mem = true ∧ Memory.wf (s.stWords a ws).mem = true ∧
    (storable a = true → s.bankOn a = true → (s.stByte a b).ldByte a = b) ∧
    (∀ c, c ≠ a → (s.stByte a b).ldByte c = s.ldByte c) ∧
    (∀ c, c < a ∨ a + l.length ≤ c → (s.stBytes a l).ldByte c = s.ldByte c) ∧
    (∀ c, c < a ∨ a + 4 * ws.length ≤ c → (s.stWords a ws).ldByte c = s.ldByte c)

/-- Registers and queue memory stay in canonical form under every step, and no byte is listed where no store has an effect
(R16, R54), whatever command stands at the front and also when the queue is empty. -/
def StepsKeepCanonical : Prop :=
  ∀ s t : State, step s = .next t → (s.wf = true → t.wf = true) ∧ (s.memIn = true → t.memIn = true)

/-- The instructions of Tables 09-3 to 09-7 that stay on their executor: no posting, no register access, no wait. -/
def plainNerog : Instr → Bool
  | .alu _ _ _ _ _ | .cmp _ _ _ _ | .addi _ _ _ _ | .andi _ _ _ _ | .ori _ _ _ _ | .xori _ _ _ _ | .slli _ _ _ _
  | .srli _ _ _ _ | .srai _ _ _ _ | .lui _ _ _ | .cmpi _ _ _ | .lb _ _ _ _ | .lbu _ _ _ _ | .lh _ _ _ _ | .lhu _ _ _ _
  | .ld _ _ _ _ | .sb _ _ _ _ | .sh _ _ _ _ | .sd _ _ _ _ | .b _ _ _ | .jal _ _ _ | .jalr _ _ _ _ | .mfsr _ _ _
  | .mtsr _ _ _ | .eret _ | .yield _ => true
  | _ => false

/-- Every such instruction, with every form and every exception it raises, keeps registers and memory in canonical form, and
leaves the queue of commands and the free values as they are. -/
def PlainNerogKeepsCanonical : Prop :=
  ∀ (i : Instr) (s : State), plainNerog i = true → s.wf = true → ∃ t, exec i s = .next t ∧ t.wf = true ∧
    t.pending = s.pending ∧ t.freeCtr = s.freeCtr ∧ t.ops = s.ops ∧ t.records = s.records

/-- WAITT ends (R252): when device time reaches its target, with LATE 0; a command that no wait awaits changes nothing. -/
def WaitsForTimeEnd : Prop :=
  ∀ (x : Exec) (n : Nat) (s : State), s.wf = true → n < 2 ^ 64 →
    (s.waitOf x = .time n → n ≤ s.dtime → exec (.waittExpiry x) s =
      .next ((s.modCtx x fun c => { c with late := false }).endWait x)) ∧
    (s.waitOf x = .time n → s.dtime < n → ∃ u, exec (.waittExpiry x) s = .next u ∧ u.dtime = n ∧ (u.ctx x).late = false ∧
      u.waitOf x = .none) ∧
    ((∀ k, s.waitOf x ≠ .time k) → exec (.waittExpiry x) s = .next s)

/-- The program of Table 09-12: its words decode to its instructions, for any executor, and encode back. -/
def ProgramWords : Prop :=
  ∀ x : Exec,
    let is := fun (w : Word) (i : Instr) => Nerog.decode x w = some i ∧ Nerog.encode i = some w
    is 0x2C801060 (.lui x 4 0x1060) ∧ is 0x18848000 (.ori x 4 4 0x8000) ∧ is 0xDCA40000 (.sched x 5 4) ∧
    is 0xACC50000 (.waitg x 6 5) ∧ is 0x80400007 (.b x 1 7) ∧ is 0x18E0EA60 (.ori x 7 0 60000) ∧ is 0xA0070000 (.waitc x 7 0) ∧
    is 0x11040040 (.addi x 8 4 0x40) ∧ is 0x19200003 (.ori x 9 0 3) ∧ is 0xD1494002 (.meas x 10 9 8 2) ∧
    is 0xAD6A0000 (.waitg x 11 10) ∧ is 0xB8000000 (.halt x)

/-- A word of a Nerog instruction decodes to that instruction, with every operand at every value (R224 to R226). -/
def NerogWordsRoundTrip : Prop :=
  ∀ (i : Instr) (x : Exec) (w : Word), Nerog.execOf i = some x → Nerog.encode i = some w → Nerog.decode x w = some i

/-- Every word decodes, to an instruction of the executor, which encodes to a word of the same opcode that decodes to it again
(R226). A word that R225 calls reserved decodes to ALU under a reserved fn, and one that R237 does to CHSET under one, which do
what these rules say of it; that it is these two is the model's choice (log entry 27). -/
def NerogDecodesToItself : Prop :=
  ∀ (x : Exec) (w : Word),
    let illegal : Instr := .alu x (wRd w) (wRa w) (wRb w) 0x7FF
    let badArg : Instr := .chset x (wRd w) (wRa w) (wRb w) 0x7FF
    let n := (wFn w).toNat
    (∃ i v, Nerog.decode x w = some i ∧ Nerog.execOf i = some x ∧ Nerog.encode i = some v ∧ Nerog.decode x v = some i ∧
      (wOp v = wOp w ∨ i = illegal ∨ (i = badArg ∧ 0x35 ≤ wOp w))) ∧
    (wOp w ∈ [0x00, 0x03, 0x0D, 0x0E, 0x0F, 0x1A, 0x1B, 0x1C, 0x1D, 0x1E, 0x1F, 0x23, 0x2F] ∨ (wOp w = 0x26 ∧ 2 < n) →
      Nerog.decode x w = some illegal) ∧
    ((wOp w = 0x35 ∨ wOp w = 0x3C) ∧ 1 < n ∨ (wOp w = 0x36 ∨ wOp w = 0x3D ∨ wOp w = 0x3F) ∧ 2 < n →
      Nerog.decode x w = some badArg)

/-- A step takes the command at the front of the queue and is that command's effect on the state with the rest queued. -/
def StepRunsTheFront : Prop :=
  ∀ (c : Instr) (rest : List Instr) (s : State),
    step { s with pending := c :: rest } = exec c { s with pending := rest }

/-- Every command, from every state, answers a next state: no fault, no refusal. -/
def EveryCommandAnswers : Prop := ∀ (c : Instr) (s : State), ∃ t, exec c s = .next t

/-- An empty queue (the model's own choice): 8 ns pass, and device time runs on from boot step 6. -/
def IdleSteps : Prop :=
  ∀ s : State, s.pending = [] → ∃ t, step s = .next t ∧
    (s.wf = true → s.boot.pendDev = none → s.ptp.slew = 0 → s.paused = [] → s.bootStep < 6 → t.dtime = s.dtime) ∧
    (s.wf = true → s.boot.pendDev = none → s.ptp.slew = 0 → s.paused = [] → 6 ≤ s.bootStep → s.boot.por = false →
      s.boot.pin = false → (∀ g < 4, ∀ i < ltCount g, s.ltRuns g i = false) → t.dtime = (s.dtime + 8) % 2 ^ 64 ∧
      t.ctime = (s.ctime + 8000) % 2 ^ 64)

/-- The state after reset: the cause of a power-on reset and its record in the log; every other register at its Reset column,
and nothing in memory, in operation, asserted, open or waiting. -/
def ResetState : Prop :=
  let s := State.reset
  s.wf = true ∧ s.get F.RST_CAUSE.KIND = 1 ∧ s.get F.RST_CAUSE.CAUSE = 1 ∧ s.get F.LOG_STAT.NEXT = 1 ∧
  (∀ a, a ≠ R.LOG_STAT → a ≠ R.RST_CAUSE → s.rd a = resetWord a) ∧
  s.pending = [] ∧ s.mem = [] ∧ s.ops = [] ∧ s.records = [] ∧ s.cmds = [] ∧ s.rings = [] ∧ s.asserts = [] ∧
  s.repairs = (List.range 8).map memSummary ∧
  (∀ i : Fin 16, s.sessions[i] = none) ∧ (∀ t : Fin 64, s.thrState t = 0) ∧
  (∀ c : Fin 24, s.get (F.MD_REQ.ROLE c) = 0) ∧ s.boot.por = false ∧ s.bootStep = 0 ∧ s.logBuf.length = 1

/-- The opcode table gives no row any bits: no word spells a command, and placing one changes nothing. -/
def NoTableWords : Prop :=
  ∀ (nbits w : Nat) (s : State), decodeTableWord nbits w = none ∧ s.withFetchWord nbits w = s

end Sys2Proof.Claims

/-- A step runs the command at the front of the queue; every command answers; an idle step. The model's own choices
and readings in it are those of log entries 1, 2, 4. -/
def Obligations.StepRunsTheFront : Prop :=
  Sys2Proof.Claims.StepRunsTheFront ∧ Sys2Proof.Claims.EveryCommandAnswers ∧ Sys2Proof.Claims.NoTableWords ∧
    Sys2Proof.Claims.IdleSteps

/-- The state after power-on reset: every register at its Reset column, nothing in memory, in operation or waiting.
The model's own choices and readings in it are those of log entries 46, 47, 48, 49, 50, 54, 55, 56. -/
def Obligations.ResetLeavesTheTables : Prop :=
  Sys2Proof.Claims.ResetState

/-- Every step keeps registers and queue memory in canonical form, from every state in that form. The model's own
choices and readings in it are those of log entry 54. -/
def Obligations.StepsKeepCanonicalForm : Prop :=
  Sys2Proof.Claims.StepsKeepCanonical

/-- Every word of a Nerog instruction decodes to that instruction, with every operand at every value. -/
def Obligations.NerogWordsRoundTrip : Prop :=
  Sys2Proof.Claims.NerogWordsRoundTrip

/-- What a word decodes to, reserved words included (log entry 27: those decode to a refused form); the program of
Table 09-12. The model's own choices and readings in it are those of log entry 27. -/
def Obligations.NerogDecodingIsExact : Prop :=
  Sys2Proof.Claims.NerogDecodesToItself ∧ Sys2Proof.Claims.ProgramWords

/-- ADDI, ANDI, ORI, XORI, SLLI, SRLI, SRAI and LUI: results, PC and frame. It states that exec answers the next state
of their own effect for: addi, andi, ori, xori, slli, srli, srai, lui. -/
def Obligations.NerogImmediateForms : Prop :=
  Sys2Proof.Claims.NerogImmediates

/-- Every single and pair operation of Table 09-4: result, PC and frame. It states that exec answers the next state of
their own effect for: alu. -/
def Obligations.NerogAluResults : Prop :=
  Sys2Proof.Claims.AluSingles ∧ Sys2Proof.Claims.AluPairs

/-- Division never traps; CMP, CMPP, CMPI and TST set the four flags and write no register. It states that exec
answers the next state of their own effect for: alu, cmp, cmpi. -/
def Obligations.DivisionAndCompare : Prop :=
  Sys2Proof.Claims.DivisionNeverTraps ∧ Sys2Proof.Claims.CompareFlags

/-- g0, pairs, the branch conditions, B, JAL and JALR. It states that exec answers the next state of their own effect
for: b, jal, jalr. The model's own choices and readings in it are those of log entry 20. -/
def Obligations.RegistersBranchesAndJumps : Prop :=
  Sys2Proof.Claims.RegistersAndPairs ∧ Sys2Proof.Claims.Branches ∧ Sys2Proof.Claims.BranchConditions

/-- Loads and stores of queue memory, ROM and the register space, with their frames. It states that exec answers the
next state of their own effect for: lb, lbu, lh, lhu, lw, ld, sb, sh, sw, sd. The model's own choices and readings in
it are those of log entry 24. -/
def Obligations.NerogMemoryAccess : Prop :=
  Sys2Proof.Claims.NerogLoads ∧ Sys2Proof.Claims.NerogStores ∧ Sys2Proof.Claims.RegisterLoadsAndStores

/-- What raises the illegal-instruction exception of an executor, and its subcause. The model's own choices and
readings in it are those of log entry 27. -/
def Obligations.IllegalNerogInstructions : Prop :=
  Sys2Proof.Claims.IllegalInstructions ∧ Sys2Proof.Claims.MssProfileOnThreads

/-- An MSS exception saves EPC, ECAUSE and EADDR and clears the interrupt enable; ERET returns. It states that exec
answers the next state of their own effect for: eret. The model's own choices and readings in it are those of log
entry 21. -/
def Obligations.MssExceptionsSaveAndReturn : Prop :=
  Sys2Proof.Claims.MssExceptionAndReturn

/-- Exceptions of a thread, the clear of its summary bit, and MFSR and MTSR of an MSS core. It states that exec
answers the next state of their own effect for: mfsr, mtsr, excSumClear. The model's own choices and readings in it
are those of log entry 21. -/
def Obligations.ThreadExceptionsAndSpecialRegisters : Prop :=
  Sys2Proof.Claims.ThreadException ∧ Sys2Proof.Claims.MssSpecialRegisters ∧ Sys2Proof.Claims.ExceptionSummaryClear

/-- WAITC, WAITT, WAITE, WAITG, FENCE and YIELD: what goes on at once, what waits, how a wait ends. It states that
exec answers the next state of their own effect for: waitc, waitt, waite, waitg, fence, yield, waittExpiry. The
model's own choices and readings in it are those of log entries 22, 24. -/
def Obligations.NerogWaits : Prop :=
  Sys2Proof.Claims.WaitsThatCompleteAtOnce ∧ Sys2Proof.Claims.WaitsThatWait ∧ Sys2Proof.Claims.WaitgTakesTheWord ∧
    Sys2Proof.Claims.WaitsForTimeEnd

/-- HALT, TCTL START, STOP and READ STATE, the start of a thread, and fenced pairs. It states that exec answers the
next state of their own effect for: halt, tctlStart, tctlStop, tctlReadState, pairFence, migrationDone. The model's
own choices and readings in it are those of log entries 22, 55. -/
def Obligations.ThreadsStartAndStop : Prop :=
  Sys2Proof.Claims.Halt ∧ Sys2Proof.Claims.ThreadControl ∧ Sys2Proof.Claims.ThreadStart ∧
    Sys2Proof.Claims.PairFencing

/-- Posting instructions: the tag they take, what they do without one, and the operation each posts. It states that
exec answers the next state of their own effect for: chset, chramp, chmode, chgang, meas, captStart, captStop,
statRead, statStart, statStop, sched, arm, disarm, qpush, qpop, pdmsgSend, pdmsgRecv, pdvdmStructured,
pdvdmUnstructured, pdvdmRecv, fltrd, fltforcePulse, fltforceHold, fltforceRelease. The model's own choices and
readings in it are those of log entries 5, 9, 23, 25. -/
def Obligations.PostingInstructions : Prop :=
  Sys2Proof.Claims.PostingTakesATag ∧ Sys2Proof.Claims.PostingWithoutATag ∧ Sys2Proof.Claims.ChannelPostings ∧
    Sys2Proof.Claims.HubPostings

/-- An operation that completes, a completion with FENCED, and the scrubber of queue memory. It states that exec
answers the next state of their own effect for: operationCompletion, sramScrub. The model's own choices and readings
in it are those of log entries 23, 26. -/
def Obligations.OperationsComplete : Prop :=
  Sys2Proof.Claims.OperationCompletion ∧ Sys2Proof.Claims.FencedCompletion ∧ Sys2Proof.Claims.Scrubber

/-- Stores keep queue memory canonical and read back; plain Nerog instructions keep the form. The model's own choices
and readings in it are those of log entry 54. -/
def Obligations.StoresKeepQueueMemory : Prop :=
  Sys2Proof.Claims.StoresKeepMemory ∧ Sys2Proof.Claims.PlainNerogKeepsCanonical

/-- Counted steps, TICK_OUT pulses, qualification of sources, mains crossings and the writes of TB_CTRL. It states
that exec answers the next state of their own effect for: countedStep, overrateClear, sourceQualLost, mainsPllLock,
mainsHoldoverEntry, mainsHoldoverExpiry, differentialInputValid, mainsZeroCrossing, tbCtrlWrite. The model's own
choices and readings in it are those of log entries 7, 60. -/
def Obligations.TimebaseCounts : Prop :=
  Sys2Proof.Claims.CountedSteps ∧ Sys2Proof.Claims.TickOutPulses ∧ Sys2Proof.Claims.SourceQualification ∧
    Sys2Proof.Claims.MainsCrossings ∧ Sys2Proof.Claims.TimebaseControl

/-- What an honoured index does, the index error, and the release of the dispatch freeze. It states that exec answers
the next state of their own effect for: indexPulse, tbReleaseGo. The model's own choices and readings in it are those
of log entries 7, 60. -/
def Obligations.IndexPulses : Prop :=
  Sys2Proof.Claims.IndexOutcomes ∧ Sys2Proof.Claims.IndexError ∧ Sys2Proof.Claims.ReleaseOfTheFreeze

/-- The half-range rule, the calendar walker, fire reports and the general timers. It states that exec answers the
next state of their own effect for: walkerBucketStep, walkerSchedDisarm, overflowArm, fireReport, gtCapture, gtSwcap,
gtCapRead, gtCmpWrite. The model's own choices and readings in it are those of log entries 7, 60. -/
def Obligations.EventsAndTimers : Prop :=
  Sys2Proof.Claims.ReachedRule ∧ Sys2Proof.Claims.WalkerSteps ∧ Sys2Proof.Claims.FireReports ∧
    Sys2Proof.Claims.GeneralTimers

/-- Power-domain requests, what denies them, power-up and power-off of domains and banks. It states that exec answers
the next state of their own effect for: pdomOnRequest, pdomOffRequest, pdomAutoRequest, pdomAutoOff, pdomPowerUpDone,
pdomNoOn. The model's own choices and readings in it are those of log entries 54, 60. -/
def Obligations.PowerDomains : Prop :=
  Sys2Proof.Claims.PowerDomainRequests ∧ Sys2Proof.Claims.PowerUpStartsTheNeeds ∧
    Sys2Proof.Claims.PowerDomainSteps ∧ Sys2Proof.Claims.PowerOffDenied ∧ Sys2Proof.Claims.BankOffLosesItsContents

/-- What trips and fences a channel, and that every switch is open after it. It states that exec answers the next
state of their own effect for: vinUndervoltage, bswTripFast, bswTripTimed, batfedUndervoltage, legFence, hwTrip,
ovpTrip. -/
def Obligations.TripsOpenTheSwitches : Prop :=
  Sys2Proof.Claims.TripsAndFences ∧ Sys2Proof.Claims.OpenedSwitches

/-- Ratings by healthy legs, power-stage events and the path transitions. It states that exec answers the next state
of their own effect for: senseLoss, legShed, cbcLimit, survivorEngineError, burstLimit, burstRecovered,
bswDiodeSwitch, bswSupplement, bswSoaLimit, gangShareSetpoint, pathTransitionDone, pathTransitionAbandon,
dischargeDone. The model's own choices and readings in it are those of log entries 11, 57, 61. -/
def Obligations.PowerStageRules : Prop :=
  Sys2Proof.Claims.RatingsFollowTheLegs ∧ Sys2Proof.Claims.PowerStageEvents ∧
    Sys2Proof.Claims.BurstsAndTheBatterySwitch ∧ Sys2Proof.Claims.PathTransitions

/-- What a mode resolution may answer in any state, and what it writes. The model's own choices and readings in it are
those of log entry 13. -/
def Obligations.ModeResolution : Prop :=
  Sys2Proof.Claims.ResolutionRules ∧ Sys2Proof.Claims.ResolutionWrites

/-- Mode requests, their views in MS_RANGE and MS_STAGE, gangs and the read of PS_LATCH. It states that exec answers
the next state of their own effect for: mdReqWrite, msRangeWrite, msStageWrite, psLatchRead, mdGangWrite. The model's
own choices and readings in it are those of log entries 13, 61. -/
def Obligations.ModeRequestsAndGangs : Prop :=
  Sys2Proof.Claims.ModeRequests ∧ Sys2Proof.Claims.ModeViews ∧ Sys2Proof.Claims.GangRequests ∧
    Sys2Proof.Claims.GangPlacement

/-- Which set-points and limits are taken, loop and profile registers, and the ramp. It states that exec answers the
next state of their own effect for: rgLoopWrite, rgProfAddrWrite. The model's own choices and readings in it are those
of log entries 10, 11, 61. -/
def Obligations.RegulationRegisters : Prop :=
  Sys2Proof.Claims.SetPointsAndLimits ∧ Sys2Proof.Claims.LoopAndProfileRegisters ∧ Sys2Proof.Claims.LoopApply ∧
    Sys2Proof.Claims.RampSteps

/-- The PWM pair, the role bounds of the current demand, and the regions of a leg. The model's own choices and
readings in it are those of log entries 10, 11, 61. -/
def Obligations.PwmAndRoleBounds : Prop :=
  Sys2Proof.Claims.PwmPairs ∧ Sys2Proof.Claims.RoleBounds ∧ Sys2Proof.Claims.LegRegions

/-- LINE_c opens, closes, pulses and trips; the EVT lines. It states that exec answers the next state of their own
effect for: lineOff, lineOn, linePulse, linePulseEnd, lineInrushTrip, lineEfuseTrip, lineOvldTrip, lineSoaTrip,
lnLatchRead, evtPulseEnd. The model's own choices and readings in it are those of log entry 60. -/
def Obligations.LinesAndEvtOutputs : Prop :=
  Sys2Proof.Claims.LinesOpenAndClose ∧ Sys2Proof.Claims.LineStates ∧ Sys2Proof.Claims.EvtLines

/-- The battery model: writes, updates, its integer arithmetic and the tables it accepts. It states that exec answers
the next state of their own effect for: bmTblAddrWrite, bmSocWrite, bmStateLoWrite, bmStateHiWrite, rstRelax, rstHyst,
modelUpdate. The model's own choices and readings in it are those of log entries 14, 15, 61. -/
def Obligations.BatteryModel : Prop :=
  Sys2Proof.Claims.ModelRegisterWrites ∧ Sys2Proof.Claims.ModelStateWrites ∧ Sys2Proof.Claims.ModelUpdates ∧
    Sys2Proof.Claims.ModelArithmetic ∧ Sys2Proof.Claims.ModelTableChecks

/-- The commands and timers of a charger. It states that exec answers the next state of their own effect for:
chargeTick, phaseTimerExpiry, totalTimerExpiry, nimhTerminationTest, batOv, cgClear, cgRestart, loadPreset. The
model's own choices and readings in it are those of log entries 16, 17. -/
def Obligations.ChargersTakeCommands : Prop :=
  Sys2Proof.Claims.ChargerCommands ∧ Sys2Proof.Claims.NimhTests ∧ Sys2Proof.Claims.PhaseTimers

/-- The order of a charge tick, entering a phase, faults, targets and presets. The model's own choices and readings in
it are those of log entry 16. -/
def Obligations.ChargingPhases : Prop :=
  Sys2Proof.Claims.ChargeTickOrder ∧ Sys2Proof.Claims.PhaseEntries ∧ Sys2Proof.Claims.ChargeTargets ∧
    Sys2Proof.Claims.PresetsLoad

/-- Ranges, handovers, converter rotations, calibrations and fences. It states that exec answers the next state of
their own effect for: rangeChangeDone, calibrationDone, converterRotation, forcedRotation, converterFence,
inPlaceCalibration, stillQualified, handoverDone, msAutoWrite, inPlaceCalibrationEnd. The model's own choices and
readings in it are those of log entry 18. -/
def Obligations.RangesAndConverters : Prop :=
  Sys2Proof.Claims.RangesStagesAndUnits ∧ Sys2Proof.Claims.RotationsSwapTheSpare

/-- Windows, captures, sweeps and the results of a window. It states that exec answers the next state of their own
effect for: windowStart, windowStop, windowEnd, captureStart, captureStop, sweepStart, sweepAbort. The model's own
choices and readings in it are those of log entry 18. -/
def Obligations.WindowsAndSweeps : Prop :=
  Sys2Proof.Claims.WindowsCapturesAndSweeps ∧ Sys2Proof.Claims.WindowResults

/-- Energy and charge accumulators lose nothing; rounding to nearest. -/
def Obligations.AccumulatorsKeepEveryQuantum : Prop :=
  Sys2Proof.Claims.AccumulatorsKeepEveryQuantum ∧ Sys2Proof.Claims.RoundingToNearest

/-- The order of a control sample, the results it leaves, and disputed engines. It states that exec answers the next
state of their own effect for: controlSample. The model's own choices and readings in it are those of log entries 10,
59, 61. -/
def Obligations.ControlSamples : Prop :=
  Sys2Proof.Claims.ControlSampleOrder ∧ Sys2Proof.Claims.SampleResults ∧ Sys2Proof.Claims.DisputedEngines

/-- House feeds and the selector: qualification, failure, switchover and return. It states that exec answers the next
state of their own effect for: feedQualified, feedDisqualify, feedFailure, feedFastTrip, feedBurstTrip, feedTimedTrip,
inrushFail, fdLatchRead, feedReverseCurrent, feedDiodeReclose, switchoverConnect, inrushComplete, returnToPriority,
goto, fwarnAssert, fwarnRelease. The model's own choices and readings in it are those of log entry 34. -/
def Obligations.HouseFeedsAndSelector : Prop :=
  Sys2Proof.Claims.FeedsQualifyAndFail ∧ Sys2Proof.Claims.TheSelector

/-- PACK, the house stage, BUS limits, and the commands and pools of the power ledger. It states that exec answers the
next state of their own effect for: houseLegFence, packSwitchTrip, packCutoff, houseTrip, houseRetry, busHigh, busOv,
houseRetryCountRestart, ledgerRebase, reclaimComplete, creditEvaluation, creditRequest, creditGrant, creditReturn,
chargerReclaimAck, burstWindowClose, burstWindowRecover, lentUpdate. The model's own choices and readings in it are
those of log entries 34, 35, 36, 61. -/
def Obligations.HouseStageAndLedgerCommands : Prop :=
  Sys2Proof.Claims.HouseStageAndTap ∧ Sys2Proof.Claims.LedgerCommands ∧ Sys2Proof.Claims.LedgerPools

/-- Every command of the ledger and the selector keeps both identities of the power ledger. The model's own choices
and readings in it are those of log entries 34, 36. -/
def Obligations.LedgerKeepsItsBooks : Prop :=
  Sys2Proof.Claims.LedgerKeepsItsBooks

/-- Type-C attach and detach, error recovery, and the capabilities a source sends. It states that exec answers the
next state of their own effect for: tcAttach, tcDetach, drpToggle, errorRecovery, errorRecoveryEnd, firstSourceCap,
capabilitiesResend, partnerRpChange. The model's own choices and readings in it are those of log entries 37, 38. -/
def Obligations.TypeCAttachAndCapabilities : Prop :=
  Sys2Proof.Claims.AttachAndDetach ∧ Sys2Proof.Claims.DetachClears ∧ Sys2Proof.Claims.CapabilitiesGoOut

/-- Power Delivery: Requests, source transitions, timeouts and Hard Resets. It states that exec answers the next state
of their own effect for: sourceTransitionStart, psRdySend, sourceTransitionTimeout, senderResponseTimeout, hardReset,
psHardResetTimeout, srcRecoverTimeout, ppsTimeout, eprKeepaliveTimeout, swapTimeout. The model's own choices and
readings in it are those of log entries 37, 38. -/
def Obligations.PdContracts : Prop :=
  Sys2Proof.Claims.SourceTransitions ∧ Sys2Proof.Claims.RequestEvaluation ∧ Sys2Proof.Claims.PdTimeouts

/-- Power Delivery: sinks, swaps, VCONN, received messages and reports. It states that exec answers the next state of
their own effect for: ppsRerequest, eprKeepaliveSend, pdRetry, goodcrcRetryExhausted, sourceTransitionStart,
psRdySend, swapVbusReady, vconnTrip, pdMessageReceive, notSupportedReply, vdmResponseTimeout, bcDone. The model's own
choices and readings in it are those of log entries 37, 38. -/
def Obligations.PdSinksAndMessages : Prop :=
  Sys2Proof.Claims.SinkKeepsItsContract ∧ Sys2Proof.Claims.SwapsAndVconn ∧ Sys2Proof.Claims.ReceivedMessages ∧
    Sys2Proof.Claims.PdReports

/-- Fabric links: retries, failed lanes, the spare lane, retraining and credits. It states that exec answers the next
state of their own effect for: flitRetry, laneFailure, linkRetrain. The model's own choices and readings in it are
those of log entry 62. -/
def Obligations.FabricLinks : Prop :=
  Sys2Proof.Claims.FabricLanes ∧ Sys2Proof.Claims.LinkRetrains ∧ Sys2Proof.Claims.CreditsKeepTheirBooks

/-- The chain: ports, locks, epochs, step records, SLACK, holdover, frames and peers. It states that exec answers the
next state of their own effect for: chainTrainingPattern, portUp, portDown, delayMeasured, chainLock, aloneTimeout,
epochSend, epochReceive, stepRecordReceive, stepRecordApply, relockSlewTimeout, slackEntry, holdoverExpiry,
chainFrameReceive, peerSummarySend, peerSummaryTimeout, chainSignalFire. The model's own choices and readings in it
are those of log entries 39, 62. -/
def Obligations.ChainOfDevices : Prop :=
  Sys2Proof.Claims.ChainPorts ∧ Sys2Proof.Claims.LocksAndEpochs ∧ Sys2Proof.Claims.StepRecords ∧
    Sys2Proof.Claims.SlackAndHoldover ∧ Sys2Proof.Claims.FramesAndPeers

/-- Host ports, datagrams that reach no session, and how a session opens. It states that exec answers the next state
of their own effect for: hostLinkChange, networkProtocolRequest, hdpOpen, hdpClose, hdpData, hdpAck, hdpKeepalive,
reassemblyTimeout. The model's own choices and readings in it are those of log entry 40. -/
def Obligations.HostLinksAndSessions : Prop :=
  Sys2Proof.Claims.HostLinks ∧ Sys2Proof.Claims.StrayDatagrams ∧ Sys2Proof.Claims.FragmentsJoin ∧
    Sys2Proof.Claims.SessionsOpen

/-- Sessions: delivery in order, acknowledgement, timers and streaming. It states that exec answers the next state of
their own effect for: hdpClose, hdpData, hdpAck, hdpKeepalive, hdpRetransmit, sessionTimeout, keepaliveSend,
streamSend. The model's own choices and readings in it are those of log entry 40. -/
def Obligations.SessionsCarryTraffic : Prop :=
  Sys2Proof.Claims.SessionTraffic ∧ Sys2Proof.Claims.SessionTimers ∧ Sys2Proof.Claims.StreamingSends

/-- Device time, the TW_M mailbox and alerts, and the two-wire controllers. It states that exec answers the next state
of their own effect for: ptpSync, announceTimeout, ptpAnnounce, twMWrite, twMRead, mbxSubmit, mbxRelease, alertSend,
alertRetry, busclr, sdaStuckClear, sclTimeout, twTransfer, twTransferDone. The model's own choices and readings in it
are those of log entries 40, 41. -/
def Obligations.DeviceTimeAndTwoWire : Prop :=
  Sys2Proof.Claims.DeviceTimeFollows ∧ Sys2Proof.Claims.MailboxTarget ∧ Sys2Proof.Claims.MailboxCommands ∧
    Sys2Proof.Claims.Alerts ∧ Sys2Proof.Claims.TwoWireControllers

/-- Fault reports reach the hub, are accepted and reacted to. It states that exec answers the next state of their own
effect for: faultPairMessage, concentratorRefresh, collectorReport, reactionComplete. The model's own choices and
readings in it are those of log entry 42. -/
def Obligations.FaultReportsAndReactions : Prop :=
  Sys2Proof.Claims.ReportsReachTheHub ∧ Sys2Proof.Claims.CollectorTakesReports ∧ Sys2Proof.Claims.AcceptedReports
    ∧ Sys2Proof.Claims.ReactionsComplete

/-- Suspect pairs, collector halves, summary bits, trips, forced faults and clocks. It states that exec answers the
next state of their own effect for: railDisagreement, suspectClear, collectorMismatch, fltSumClear, fltChclrWrite,
forcePulse, forceHold, forceRelease, pllSwitchover, referenceSwitchover, referenceReturn. The model's own choices and
readings in it are those of log entries 42, 43. -/
def Obligations.FaultRedundancyAndForcing : Prop :=
  Sys2Proof.Claims.SuspectsAndHalves ∧ Sys2Proof.Claims.SummariesAndTrips ∧ Sys2Proof.Claims.ForcedFaults ∧
    Sys2Proof.Claims.ClocksFail

/-- MSS cores, supervisors, housekeeping rounds and the cross-check of sensors. It states that exec answers the next
state of their own effect for: mssCoreFault, mssReset, supervisorReset, housekeepingRound, sensorRestore. The model's
own choices and readings in it are those of log entries 45, 62. -/
def Obligations.ManagementAndSensors : Prop :=
  Sys2Proof.Claims.CoresAndSupervisors ∧ Sys2Proof.Claims.HousekeepingRounds ∧
    Sys2Proof.Claims.SensorsCrossChecked

/-- Thermal levels, their entry and release, and throttle pauses. It states that exec answers the next state of their
own effect for: thermalModelStep, thermalLevelRelease, throttlePause. The model's own choices and readings in it are
those of log entry 44. -/
def Obligations.ThermalManagement : Prop :=
  Sys2Proof.Claims.ThermalLevels ∧ Sys2Proof.Claims.ThermalSteps ∧ Sys2Proof.Claims.ThermalReleases ∧
    Sys2Proof.Claims.ThrottlePauses

/-- The clock monitor, the watchdog and the log in NOR. It states that exec answers the next state of their own effect
for: mainClkFail, mainClkReturn, wdtKick, wdtStart, wdtAutostart, cntClr, wdtExpiry, wdtSuspendEnd, logPageWrite,
norEraseDone, telemetrySnapshot. The model's own choices and readings in it are those of log entry 45. -/
def Obligations.WatchdogAndLog : Prop :=
  Sys2Proof.Claims.ClockMonitor ∧ Sys2Proof.Claims.Watchdog ∧ Sys2Proof.Claims.LogPages

/-- Power-on reset, RESET_N, the steps of boot, READY and the requests of RST_CTRL. It states that exec answers the
next state of their own effect for: powerOnReset, powerOnRelease, resetNAssert, resetRelease, trainTimeout,
bootStepDone, nobusTimeout, rstDevice, rstMss, rstSupervisor, rstChannel. The model's own choices and readings in it
are those of log entries 46, 47, 48, 49. -/
def Obligations.ResetsAndBoot : Prop :=
  Sys2Proof.Claims.PowerOnAndResetPin ∧ Sys2Proof.Claims.ResetIsReleased ∧ Sys2Proof.Claims.BootSteps ∧
    Sys2Proof.Claims.ReadyShows ∧ Sys2Proof.Claims.ResetRequests

/-- Link tests, their checkers, and the boundary-scan port. It states that exec answers the next state of their own
effect for: ltCtrlWrite, errorInject, jtagInstructionUpdate, checkerLock, checkerLockLoss. The model's own choices and
readings in it are those of log entry 47. -/
def Obligations.LinkTests : Prop :=
  Sys2Proof.Claims.LinkTestControl ∧ Sys2Proof.Claims.CheckersAndTap

/-- A mapped word that holds no register reads 0 and ignores writes. It states that exec answers the next state of
their own effect for: lw, sw. -/
def Obligations.ReservedWordsReadZero : Prop :=
  Sys2Proof.Claims.ReservedWords

/-- Register access: unmapped words, field writes, refusals, snapshot pairs, the provisioning lock. It states that
exec answers the next state of their own effect for: registerWrite, snapshotLoRead, snapshotHiRead, clrEout, clrQout,
clrEbat, clrQbat, provisioningLock, provPulseDone. The model's own choices and readings in it are those of log entries
52, 53. -/
def Obligations.RegisterAccessRules : Prop :=
  Sys2Proof.Claims.UnmappedAccess ∧ Sys2Proof.Claims.PlainRegisterWrites ∧ Sys2Proof.Claims.RefusedRegisterWrites
    ∧ Sys2Proof.Claims.SnapshotPairs ∧ Sys2Proof.Claims.SnapshotGuardsAndClears ∧
    Sys2Proof.Claims.ProvisioningLock

/-- UCS frames: their checks, the order of commands, takeovers and answers. It states that exec answers the next state
of their own effect for: frameReceive, commandDispatch, standbyTakeover, ucsSvcWrite. The model's own choices and
readings in it are those of log entry 29. -/
def Obligations.CommandFramesAndOrder : Prop :=
  Sys2Proof.Claims.FramesReceived ∧ Sys2Proof.Claims.FrameChecks ∧ Sys2Proof.Claims.CommandsStartInOrder ∧
    Sys2Proof.Claims.Takeovers ∧ Sys2Proof.Claims.CommandsAreAnswered ∧ Sys2Proof.Claims.ServiceThreads

/-- UCS commands of session, channel, tables, battery model, chargers and profiles. It states that exec answers the
next state of their own effect for: nop, identify, state, notice, abort, chSet, chRamp, chMode, chGang, chGet,
chLatch, chOff, chClear, tblAlloc, tblFree, tblWrite, tblRead, libLoad, libList, bmGet, bmSet, cgPreset, cgGet,
cgCtrl, profGen. The model's own choices and readings in it are those of log entries 28, 30, 31, 61. -/
def Obligations.CommandsOnChannelsAndTables : Prop :=
  Sys2Proof.Claims.SessionCommands ∧ Sys2Proof.Claims.ChannelCommands ∧ Sys2Proof.Claims.TableCommands ∧
    Sys2Proof.Claims.ProfilesGenerated ∧ Sys2Proof.Claims.SinePoints

/-- UCS commands of measurement, rings, timebase, threads, house, lines and ports. It states that exec answers the
next state of their own effect for: ucsMeas, win, cap, sweep, ringAlloc, ringFree, ringRead, ringGet, ringSub, sched,
arm, disarm, tbGet, tbSet, tbSrc, tbRelease, ucsSched, ucsArm, ucsDisarm, gtSet, gtGet, imgLoad, thrStart, thrStop,
thrGet, thrCfg, excClr, svcSet, hseGet, feedCfg, packPreset, packCtrl, ledgerGet, ledgerRsv, lineSet, lineCfg,
lineGet, evtSet, pdCfg, pdGet, pdSend, pdRecv, pdVdm, pdRequest. The model's own choices and readings in it are those
of log entries 28, 30. -/
def Obligations.CommandsOnMeasurementAndPower : Prop :=
  Sys2Proof.Claims.MeasurementCommands ∧ Sys2Proof.Claims.TimebaseAndThreadCommands ∧
    Sys2Proof.Claims.HouseLinePdCommands

/-- UCS commands of faults, log, images, updates, fuses, link tests and raw access. It states that exec answers the
next state of their own effect for: fltSum, fltRead, fltClear, fltForce, cover, repairGet, repair, logRead, logPut,
telemSet, thermGet, updBegin, updWrite, updCheck, updActivate, updGet, updCancel, ltSet, ltGet, regRead, regWrite,
regRmw, memRead, memWrite. The model's own choices and readings in it are those of log entries 30, 32, 33, 62. -/
def Obligations.CommandsOnFaultsAndUpdates : Prop :=
  Sys2Proof.Claims.FaultAndLogCommands ∧ Sys2Proof.Claims.UpdateCommands ∧ Sys2Proof.Claims.RawCommands
end

