-- ==== Sys2Proof/Laws/Told.lean ====
section
/-!
SUPPORT. What the shared operations that tell the outside do: frames to transports, notices, reports of faults and
responses.
-/

namespace Sys2Proof.Machine

/-- What handing frames to transports leaves: registers outside the two-wire block, and everything but the transports. -/
structure OnlySent (s t : State) : Prop where
  regs : ∀ a, a < 0x50800 ∨ 0x50900 ≤ a → t.rd a = s.rd a
  wf   : s.wf = true → t.wf = true
  rest : { t with regs := s.regs, out := s.out, wire := s.wire, sessions := s.sessions, twm := s.twm } = s

theorem OnlySent.refl (s : State) : OnlySent s s := ⟨fun _ _ => rfl, id, rfl⟩

theorem OnlySent.trans {s t u : State} (h : OnlySent s t) (k : OnlySent t u) : OnlySent s u := by
  refine ⟨fun a ha => (k.regs a ha).trans (h.regs a ha), fun w => k.wf (h.wf w), ?_⟩
  have h1 := h.rest; have h2 := k.rest
  rw [← h2] at h1
  exact h1

theorem State.wr_wf (s : State) (a : Nat) (w : Word) (h : s.wf = true) : (s.wr a w).wf = true := by
  have := s.wr_rwf a w (State.wf_rwf h)
  have hm := State.wf_mwf h
  simp only [State.wf, Bool.and_eq_true]
  exact ⟨this, hm⟩

theorem State.set_wf (s : State) (f : Fld) (v : Nat) (h : s.wf = true) : (s.set f v).wf = true := s.wr_wf _ _ h

theorem onlySent_set (s : State) (f : Fld) (v : Nat) (h : 0x50800 ≤ f.addr ∧ f.addr < 0x50900) :
    OnlySent s (s.set f v) := by
  refine ⟨fun a ha => State.rd_wr_other _ _ _ _ (by omega), s.set_wf f v, rfl⟩

theorem onlySent_hdpSend (s : State) (x : Session) (k : Nat) (q : Word) (b : HdpBody) (r : Bool) :
    OnlySent s (s.hdpSend x k q b r) := by
  simp only [State.hdpSend]; split
  · exact .refl s
  · exact ⟨fun _ _ => rfl, id, rfl⟩

theorem onlySent_setSess (s : State) (i : Fin 16) (x : Option Session) : OnlySent s (s.setSess i x) :=
  ⟨fun _ _ => rfl, id, rfl⟩

theorem onlySent_hdpPut (s : State) (i : Fin 16) (k : Nat) (b : HdpBody) : OnlySent s (s.hdpPut i k b) := by
  simp only [State.hdpPut]; split
  · exact .refl s
  · split
    · exact (onlySent_setSess _ _ _).trans (onlySent_hdpSend _ _ _ _ _ _)
    · exact onlySent_setSess _ _ _

theorem onlySent_modTwm (s : State) (f : TwM → TwM) : OnlySent s (s.modTwm f) := ⟨fun _ _ => rfl, id, rfl⟩

theorem onlySent_alert (s : State) (b : Nat) : OnlySent s (s.alert b) := by
  simp only [State.alert]
  refine .trans ?_ (onlySent_modTwm _ _)
  refine .trans ?_ (onlySent_set _ _ _ (by decide))
  refine .trans ?_ (onlySent_set _ _ _ (by decide))
  exact onlySent_set _ _ _ (by decide)

theorem onlySent_mbxPlace (s : State) (f : Frame) : OnlySent s (s.mbxPlace f) := by
  simp only [State.mbxPlace]
  exact ((onlySent_modTwm _ _).trans (onlySent_set _ _ _ (by decide))).trans (onlySent_alert _ _)

theorem onlySent_mbxNotice (s : State) (f : Frame) : OnlySent s (s.mbxNotice f) := by
  simp only [State.mbxNotice]
  split
  · exact onlySent_mbxPlace s f
  · split
    · exact onlySent_set _ _ _ (by decide)
    · split
      · exact (onlySent_modTwm _ _).trans (onlySent_alert _ _)
      · exact onlySent_modTwm _ _

theorem onlySent_send (s : State) (f : Frame) : OnlySent s (s.send f) := by
  have h : OnlySent s { s with out := s.out ++ [f] } := ⟨fun _ _ => rfl, id, rfl⟩
  simp only [State.send]
  split
  · exact h.trans (onlySent_hdpPut _ _ _ _)
  · split
    · exact h.trans (onlySent_mbxNotice _ _)
    · exact h.trans (onlySent_mbxPlace _ _)
  · exact h

theorem onlySent_foldl {α : Type} (g : State → α → State) (hg : ∀ s a, OnlySent s (g s a)) (l : List α) :
    ∀ s, OnlySent s (l.foldl g s) := by
  induction l with
  | nil => exact fun s => .refl s
  | cons a l ih => exact fun s => (hg s a).trans (ih _)

theorem onlySent_notice (s : State) (b c : Nat) (w : List Word) : OnlySent s (s.notice b c w) :=
  onlySent_foldl _ (fun s _ => onlySent_send s _) _ s

theorem onlySent_noticeTo (s : State) (rq : Requester) (b c : Nat) (w : List Word) : OnlySent s (s.noticeTo rq b c w) := by
  simp only [State.noticeTo]; split
  · exact onlySent_send s _
  · exact .refl s

/-- What the reports of faults, notices and responses leave. -/
structure OnlyTold (s t : State) : Prop where
  regs : ∀ a, a < 0x50800 ∨ 0x50900 ≤ a → t.rd a = s.rd a
  wf   : s.wf = true → t.wf = true
  reps : ∃ l, t.reports = s.reports ++ l
  rest : { t with regs := s.regs, out := s.out, wire := s.wire, sessions := s.sessions, twm := s.twm,
                  reports := s.reports, cmds := s.cmds, journal := s.journal, books := s.books } = s

theorem OnlySent.told {s t : State} (h : OnlySent s t) : OnlyTold s t :=
  ⟨h.regs, h.wf, ⟨[], by have := congrArg State.reports h.rest; simpa using congrArg State.reports h.rest⟩, by
    have := h.rest; rw [← this]⟩

theorem State.set_rd_other (s : State) (f : Fld) (v a : Nat) (h : a ≠ f.addr) : (s.set f v).rd a = s.rd a :=
  State.rd_wr_other _ _ _ _ h

theorem get_congr {s t : State} (f : Fld) (h : t.rd f.addr = s.rd f.addr) : t.get f = s.get f := by
  simp only [State.get, h]

theorem OnlyTold.trans {s t u : State} (h : OnlyTold s t) (k : OnlyTold t u) : OnlyTold s u := by
  refine ⟨fun a ha => (k.regs a ha).trans (h.regs a ha), fun w => k.wf (h.wf w), ?_, ?_⟩
  · obtain ⟨l, hl⟩ := h.reps
    obtain ⟨m, hm⟩ := k.reps
    exact ⟨l ++ m, by rw [hm, hl, List.append_assoc]⟩
  · have h1 := h.rest; have h2 := k.rest
    rw [← h2] at h1
    exact h1

theorem told_flit (s : State) (l d c : Nat) : OnlyTold s (s.flit l d c) := by
  simp only [State.flit]
  split
  · exact (OnlySent.refl s).told
  · exact ⟨fun _ _ => rfl, id, ⟨[], by simp⟩, rfl⟩

theorem told_report (s : State) (r : Report) : OnlyTold s (s.report r) := by
  simp only [State.report]
  split
  · exact ⟨fun _ _ => rfl, id, ⟨_, rfl⟩, rfl⟩
  · split
    · exact (OnlySent.refl s).told
    · refine .trans (t := { s with reports := s.reports ++ [{ r with atHub := false }] }) ⟨fun _ _ => rfl, id, ⟨_, rfl⟩, rfl⟩ ?_
      exact told_flit _ _ _ _

theorem told_respond (s : State) (m : Cmd) (c st : Nat) (b : List Word) : OnlyTold s (s.respond m c st b) := by
  have h : ∀ x j, OnlyTold s { s with cmds := x, journal := j } :=
    fun x j => ⟨fun _ _ => rfl, id, ⟨[], by simp⟩, rfl⟩
  simp only [State.respond]
  split
  · exact h _ _
  · split
    · exact h _ _
    · exact (h _ _).trans (onlySent_send _ _).told

theorem told_failCmdOf (s : State) (n st : Nat) : OnlyTold s (s.failCmdOf n st) := by
  simp only [State.failCmdOf]
  split
  · exact told_respond _ _ _ _ _
  · exact (OnlySent.refl s).told

end Sys2Proof.Machine
end

