-- ==== Sys2Proof/Tests/Slice0.lean ====
section
/-!
SUPPORT. Small tests of single steps and of the checks, and witnesses: for each group of clauses of Sys2Proof.Claims
that has hypotheses, concrete states and operands that meet them.
-/

namespace Sys2Proof.Tests

open Sys2Proof Sys2Proof.Machine

/-! ### States of the witnesses -/

/-- Right after reset. -/
def r0 : State := State.reset
/-- Every power domain is ON. -/
def allOn : State := (List.range 102).foldl (fun s d => s.set (domStat d) 1) r0
/-- Its cluster is ON and thread 0 READY, and an MSS core runs too. -/
def rdy : State := (r0.set (domStat 90) 1).setThrState 0 1 0
abbrev t0 : Exec := .thread 0
abbrev m0 : Exec := .mss 0
/-- Register g_r of core 0 holds w. -/
def gw (s : State) (r : Fin 32) (w : Word) : State := s.setG m0 r w

/-! ### Programs -/

theorem witness_executors : rdy.wf = true ∧ rdy.runs t0 = true ∧ rdy.runs m0 = true ∧ r0.runs m0 = true := by decide

theorem witness_AluSingles : (gw r0 3 5).g m0 3 ≠ 0 ∧ (gw r0 3 5).runs m0 = true := by decide

theorem witness_AluPairs : isPair 2 = true ∧ isPair 30 = true ∧ (gw r0 2 5).gp m0 2 ≠ 0 ∧ (gw r0 2 5).wf = true := by decide

theorem witness_DivisionNeverTraps : r0.g m0 3 = 0 ∧ (gw r0 4 0x80000000).g m0 4 = 0x80000000 ∧
    (gw r0 5 0xFFFFFFFF).g m0 5 = 0xFFFFFFFF ∧ r0.gp m0 6 = 0 ∧ (gw r0 9 0x80000000).gp m0 8 = 2 ^ 63 ∧
    (gw (gw r0 10 0xFFFFFFFF) 11 0xFFFFFFFF).gp m0 10 = 2 ^ 64 - 1 := by decide

theorem witness_RegistersAndPairs : (2 ^ 64 - 1 < 2 ^ 64) ∧ isPair 0 = true ∧ isPair 30 = true ∧ isPair 31 = false := by decide

theorem witness_CompareFlags : isPair 0 = true ∧ isPair 2 = true ∧ 2 < (3 : BitVec 11).toNat ∧ 2 < (0x7FF : BitVec 11).toNat := by
  decide

theorem witness_Branches :
    (r0.ctx m0).cond 14 = true ∧ (r0.ctx m0).cond 0 = false ∧ fetchable (r0.pcOf m0 + (2 : BitVec 22).signExtend 32 * 4).toNat = true ∧
    fetchable (r0.pcOf m0 + (0 : BitVec 21).signExtend 32 * 4).toNat = true ∧
    fetchable (((gw r0 2 0x1F000103).g m0 2 + (1 : BitVec 16).signExtend 32) &&& 0xFFFFFFFC).toNat = true := by decide

theorem witness_NerogLoads : memAdmits m0 0x10E00000 1 false = true ∧ memAdmits m0 0x10E00002 2 false = true ∧
    memAdmits m0 0x10E00004 4 false = true ∧ memAdmits m0 0x10E00008 8 false = true ∧ r0.ueIn 0x10E00000 8 = none ∧
    (gw r0 2 0x10E00000).g m0 2 + (8 : BitVec 16).signExtend 32 = 0x10E00008 := by decide

theorem witness_NerogStores : memAdmits t0 0x10E00000 1 true = true ∧ memAdmits t0 0x10E00002 2 true = true ∧
    memAdmits m0 0x15FFFFFC 4 true = true ∧ memAdmits m0 0x15FFFFF8 8 true = true ∧ storable 0x15FFFFFF = true ∧
    allOn.bankOn 0x15FFFFFF = true ∧ storable 0x10000000 = false := by decide

theorem witness_RegisterLoadsAndStores : (gw r0 2 0x20000).runs m0 = true ∧
    ((gw r0 2 0x20000).g m0 2 + (0 : BitVec 16).signExtend 32).toNat = 0x20000 ∧ r0.unitBusy m0 0x20000 = false ∧
    canWrite (rqOf m0) 0x20000 = true ∧ mapped 0x20000 = true ∧ mapped 0x0 = true ∧ canWrite (rqOf t0) 0x0 = false ∧
    r0.opBusy m0 0x20000 = false := by decide

/-- An operation of thread 0 on channel 0, which an earlier store of it waits for. -/
def busyOp : State := { rdy with ops := [{ who := .thread 0 3, unit := .chan 0, kind := .chset 0 5 }] }

theorem witness_RegisterLoadsAndStores_busy : busyOp.runs t0 = true ∧ busyOp.unitBusy t0 (R.RG_TGT 0) = true ∧
    busyOp.opBusy t0 (R.RG_TGT 0) = true ∧ canWrite (rqOf t0) (R.RG_TGT 0) = true := by decide

theorem witness_IllegalInstructions : isPair 1 = false ∧ memAdmits m0 0x90000 1 false = false ∧
    memAdmits m0 0x10E00001 2 false = false ∧ memAdmits m0 0x400000 4 false = false ∧ memAdmits m0 0x400000 4 true = false ∧
    memAdmits m0 0x10E00001 2 true = false ∧ memAdmits m0 0x1F000000 1 true = false ∧ (0x2D : BitVec 11).toNat = 0x2C + 1 := by
  decide

theorem witness_ThreadException : rdy.wf = true ∧ rdy.isSvc 0 = false ∧ rdy.get (F.SEQ_THR_EXC.VALID 0) = 0 ∧
    (rdy.set (F.SEQ_THR_EXC.VALID 0) 1).get (F.SEQ_THR_EXC.VALID 0) ≠ 0 ∧ (rdy.set (F.SEQ_THR_EXC.VALID 0) 1).isSvc 0 = false := by
  decide

theorem witness_MssExceptionAndReturn : (r0.except m0 1 2 3 4).runs m0 = true ∧ r0.runs m0 = true ∧ r0.mss[(0 : Fin 2)].handler = false ∧
    (r0.except m0 1 2 3 4).mss[(0 : Fin 2)].handler = true := by decide

theorem witness_MssSpecialRegisters : r0.wf = true ∧ r0.runs (.mss 1) = true ∧ 4 < (5 : BitVec 11).toNat := by decide

theorem witness_WaitsThatCompleteAtOnce : (r0.rd R.TB_EXT_LO - r0.g m0 2).toNat < 2 ^ 31 ∧ r0.is F.TB_STAT.HOLD = false ∧
    r0.is F.TB_STAT.DIR = false ∧ r0.gp m0 2 ≤ r0.dtime ∧ r0.gp m0 2 = 0 ∧ wakeLegal (BitVec.ofNat 32 0x01000000) = true ∧
    r0.handleSlot m0 (r0.g m0 2) = none ∧ r0.hasOps m0 = false := by decide

/-- An operation of thread 0 in tag slot 3. -/
def withOpT : State := { rdy with ops := [{ who := .thread 0 3, unit := .hub, kind := .bad }] }

theorem witness_WaitsThatWait : ¬ (r0.rd R.TB_EXT_LO - 1).toNat < 2 ^ 31 ∧ ¬ (0x80000000 - r0.rd R.TB_EXT_LO).toNat < 2 ^ 31 ∧
    r0.dtime < (gw r0 2 5).gp m0 2 ∧ (r0.set F.TB_STAT.HOLD 1).is F.TB_STAT.HOLD = true ∧
    withOpT.hasOps t0 = true ∧ withOpT.runs t0 = true := by decide

/-- Thread 0 waits on its tag 3, which is DONE. -/
def tagDone : State :=
  (rdy.modThr 0 fun h => { h with tags := h.tags.set 3 (.done 0x100), gens := h.gens.set 3 1 }).setG t0 2 0x1003

theorem witness_WaitgTakesTheWord : tagDone.wf = true ∧ tagDone.runs t0 = true ∧
    tagDone.handleSlot t0 (tagDone.g t0 2) = some 3 ∧ tagDone.threads[(0 : Fin 64)].tags[(3 : Fin 64)] = .done 0x100 := by decide

theorem witness_ThreadControl : (gw allOn 3 0x10600100).runs m0 = true ∧ (allOn.g m0 2).toNat = (0 : Fin 64).val ∧
    fetchable ((gw allOn 3 0x10600100).g m0 3).toNat = true ∧ allOn.clusterOff 0 = false ∧ allOn.noPair 0 = false ∧
    allOn.thrLive 0 = false ∧ allOn.opsOf 0 = [] ∧ fetchable (r0.g m0 3).toNat = false ∧ rdy.thrState 0 = 1 := by decide

theorem witness_PostingTakesATag : rdy.wf = true ∧ rdy.freeTags t0 ≠ [] ∧ rdy.freeTags m0 ≠ [] := by decide

/-- No tag of thread 0 is FREE; slot 5 will be discarded where d. -/
def noTag (d : Bool) : State :=
  rdy.modThr 0 fun h => { h with tags := (Vector.replicate 64 (Tag.done 0)).set 5 (.out d) }

theorem witness_PostingWithoutATag : (noTag false).freeTags t0 = [] ∧ (noTag true).freeTags t0 = [] ∧
    (noTag false).hasDiscard 0 = false ∧ (noTag true).hasDiscard 0 = true ∧ (noTag true).is (F.SEQ_THR_CFG.TAGX 0) = false ∧
    ((noTag false).set (F.SEQ_THR_CFG.TAGX 0) 1).is (F.SEQ_THR_CFG.TAGX 0) = true ∧
    ((noTag false).set (F.SEQ_THR_CFG.TAGX 0) 1).freeTags t0 = [] ∧
    State.freeTags { r0 with mss := r0.mss.set 0 { tags := Vector.replicate 16 (.done 0) } } m0 = [] := by decide

theorem witness_ChannelPostings : (9 : BitVec 11).toNat ≤ 9 ∧ (127 : BitVec 11).toNat < 128 ∧ measOk 0 = true ∧
    bufOk 0x10E00000 24 = true ∧ capOk 0 = true ∧ bufOk 0x10E00000 128 = true ∧ (gw r0 2 24).g m0 2 = 24 ∧
    measOk 0x7FF = false := by decide

theorem witness_HubPostings : bufOk 0x10E00000 32 = true ∧ r0.bufFenced 0x10E00000 32 = false ∧
    (r0.set (domStat (82 + bankOf 0x10E00000)) 3).bufFenced 0x10E00000 32 = true ∧ r0.mayForce t0 = false ∧ bufOk 0x10E00001 32 = false ∧
    bufOk 0x10E00000 1 = true ∧ bufOk 0x10E00000 64 = true ∧ 0x10E00000 % 64 = 0 ∧ r0.mayForce m0 = true ∧ r0.freeTags m0 ≠ [] := by decide

theorem witness_OperationCompletion :
    let s : State := { rdy with ops := [{ who := .thread 0 3, unit := .hub, kind := .disarm 0, word := some 0 }] }
    s.ops.find? (fun o => o.who == .thread 0 3) = some { who := .thread 0 3, unit := .hub, kind := .disarm 0, word := some 0 } ∧
    s.threads[(0 : Fin 64)].wait = .none ∧ (∀ p ∈ s.ops, p.unit = .coll → p.word ≠ none) ∧
    complCause { who := .thread 0 3, unit := .hub, kind := .disarm 0, word := some 0 } 0 = none := by decide

theorem witness_FencedCompletion : bitsOf (0x30 : Word) 7 0 = 0x30 ∧ rdy.is (F.SEQ_THR_CFG.OPX 0) = false ∧
    (rdy.set (F.SEQ_THR_CFG.OPX 0) 1).is (F.SEQ_THR_CFG.OPX 0) = true ∧ (rdy.set (F.SEQ_THR_CFG.OPX 0) 1).thrLive 0 = true := by
  decide

theorem witness_PairFencing : r0.get (pairFld 0 0) < 2 ∧
    (List.range 4).find? (fun k => r0.get (slotFld 0 k) == 0) = some 0 ∧
    (List.range 5).find? (fun k => (r0.set (pairFld 0 0) 2).get (pairFld 0 k) == 1) = some 4 ∧
    (List.range 5).find? (fun k => ((r0.set (pairFld 0 4) 2).set (pairFld 0 0) 2).get (pairFld 0 k) == 1) = none ∧
    (r0.setThrState 0 5 0).thrState 0 = 5 ∧ r0.threads[(0 : Fin 64)].stopReq = false := by decide

theorem witness_Scrubber : inQueue 0x15FFFFFF = true ∧ allOn.bankOn 0x15FFFFFF = true ∧ allOn.bankOn 0x10000000 = true := by decide

/-! ### Timebase -/

theorem witness_CountedSteps : (r0.set F.BOOT_STAT.STEP 8).stands = false ∧ r0.stands = true ∧
    ({ r0.set F.BOOT_STAT.STEP 8 with tb := { r0.tb with held := true } } : State).stands = true ∧
    r0.feedsChain 1 = false ∧ r0.get F.TB_CTRL.SRC = (0 : Fin 6).val ∧ (r0.set F.TB_CTRL.SRC 2).get F.TB_CTRL.SRC = (1 : Fin 2).val + 1 ∧
    (r0.set F.TB_CTRL.SRC 3).get F.TB_CTRL.SRC = (3 : Fin 6).val ∧ (r0.set F.TB_CTRL.SRC 4).get F.TB_CTRL.SRC = (4 : Fin 6).val ∧
    r0.get (F.SRC_CFG.FILT 0) ≤ 255 ∧ 0 < (r0.set (F.SRC_CFG.FILT 0) 1).get (F.SRC_CFG.FILT 0) ∧
    (((r0.set F.CHN_STAT.MASTER 1).set F.CHN_CFG.MSRC 1).set F.TB_CTRL.SRC 0).feedsChain 1 = true ∧ r0.wf = true := by decide

/-- TICK_OUT is live, with source n. -/
def ticking (n : Nat) : State := (r0.set F.BOOT_STAT.STEP 5).set F.TB_CTRL.SRC n

theorem witness_TickOutPulses : (ticking 1).is F.TB_STAT.HOLD = false ∧ 5 ≤ (ticking 1).get F.BOOT_STAT.STEP ∧
    (ticking 1).boot.por = false ∧ (ticking 1).boot.pin = false ∧ (ticking 1).get F.TB_CTRL.SRC ≠ 0 ∧ (8 : Word).toNat % 4 = 0 ∧
    (7 : Word).toNat % 4 ≠ 0 ∧ (ticking 0).get F.TB_CTRL.SRC = 0 ∧ ¬ 5 ≤ (r0.set F.BOOT_STAT.STEP 4).get F.BOOT_STAT.STEP := by decide

theorem witness_MainsCrossings : (r0.set F.MAINS_STAT.HOLDOVER 1).is F.MAINS_STAT.HOLDOVER = true ∧ r0.is F.MAINS_STAT.HOLDOVER = false ∧
    r0.get F.TB_CTRL.SRC ≠ 3 ∧ ((r0.set F.TB_CTRL.SRC 3).set F.MAINS_STAT.FREQ 1).get F.TB_CTRL.SRC = 3 ∧
    ({ r0 with tb := { r0.tb with reacq := true } } : State).tb.reacq = true ∧ r0.tb.reacq = false ∧ r0.tb.slew = 0 ∧
    r0.phaseError.natAbs ≤ 64 ∧ r0.phaseError.natAbs ≤ r0.get F.MAINS_CFG.STEP_THR * 1024 ∧
    64 < (r0.wr R.TB_EXT_LO 65536).phaseError.natAbs ∧ ((r0.wr R.TB_EXT_LO 131072).set F.MAINS_CFG.STEP_THR 0).get F.MAINS_CFG.STEP_THR * 1024 <
      ((r0.wr R.TB_EXT_LO 131072).set F.MAINS_CFG.STEP_THR 0).phaseError.natAbs := by decide

theorem witness_SourceQualification : r0.tb.overrate = [] ∧ r0.get F.TB_CTRL.SRC = (0 : Fin 6).val ∧
    r0.get F.TB_CTRL.SRC ≠ (5 : Fin 6).val ∧ ({ r0 with tb := { r0.tb with overrate := [1] } } : State).tb.overrate.contains 1 = true ∧
    r0.tb.invalid.contains 1 = false ∧ (r0.set F.MAINS_STAT.LOCK 1).is F.MAINS_STAT.LOCK = true ∧
    (r0.set F.MAINS_STAT.HOLDOVER 1).is F.MAINS_STAT.HOLDOVER = true := by decide

theorem witness_TimebaseControl : canWrite (.thread 0) R.TB_CTRL = true ∧ r0.calEmpty = true ∧
    State.calEmpty { r0 with records := [{ idx := 0, cmp := 0, place := .bucket 0 }] } = false ∧ r0.get (qualFld 1) ≠ 1 ∧
    (r0.set (qualFld 5) 1).get (qualFld 5) = 1 ∧ r0.get F.TB_CTRL.SRC ≠ 5 := by decide

/-- Index source 0 is honoured, with the value v. -/
def idx (v : Word) : State :=
  ((r0.set F.TB_CTRL.SRC 1).set (F.SRC_CFG.IDX_EN 0) 1).wr (R.IDX_VAL 0) v

theorem witness_IndexOutcomes : (idx 0).honoured 0 false false false = true ∧ r0.honoured 0 false false false = false ∧
    indexError ((idx 0).rd (R.IDX_VAL 0)) (idx 0).idxCount ((idx 0).rd (R.IDX_PERIOD 0)) = 0 ∧
    indexError ((idx 9).rd (R.IDX_VAL 0)) (idx 9).idxCount ((idx 9).rd (R.IDX_PERIOD 0)) = 9 ∧ (idx 9).honoured 0 false false false = true ∧
    ((idx 9).get (F.IDX_TOL.TOL 0) : Int) < (9 : Int).natAbs ∧
    ¬ (((idx 9).set (F.IDX_TOL.TOL 0) 9).get (F.IDX_TOL.TOL 0) : Int) < (9 : Int).natAbs ∧
    (idx 9).is F.TB_STAT.HOLD = false ∧ ((idx 9).set F.TB_STAT.HOLD 1).is F.TB_STAT.HOLD = true ∧
    r0.get (F.SRC_CFG.FILT 0) ≤ 0 ∧ 0 < (r0.set (F.SRC_CFG.FILT 0) 1).get (F.SRC_CFG.FILT 0) ∧
    ((idx 9).set (F.SRC_CFG.POLICY 0) 2).get (F.SRC_CFG.POLICY 0) = 2 ∧ (idx 9).feedsChain (srcOfIdx 0) = false ∧
    (idx 9).get F.TB_CTRL.SRC = srcOfIdx 0 ∧
    (idx 9).get (F.SRC_CFG.POLICY 0) = 0 ∧ ((idx 9).set (F.SRC_CFG.POLICY 0) 1).get (F.SRC_CFG.POLICY 0) = 1 := by decide

theorem witness_IndexError : (1 : Word) ≠ 0 ∧ (0x7FFFFFFF : Word).toNat < 2 ^ 31 := by decide

theorem witness_ReleaseOfTheFreeze : canWrite .twm R.TB_RELEASE = true ∧ r0.is F.TB_STAT.HOLD = false ∧
    (r0.set F.TB_STAT.HOLD 1).is F.TB_STAT.HOLD = true ∧ (r0.set F.TB_STAT.HOLD 1).records = [] ∧
    (∀ c : Fin 24, r0.is (F.MS_SWP_CTRL.RUN c) = false) ∧ (∀ k : Fin 64, r0.waitOf (.thread k) = .none) := by decide

theorem witness_WalkerSteps : r0.dirDown = false ∧ r0.tb.walkDown = false ∧ (r0.set F.TB_STAT.DIR 1).dirDown = true ∧
    r0.settleWalk.tb.spans = [] ∧ r0.settleWalk.tb.lead < r0.settleWalk.tb.walkK ∧
    (let s : State := { r0 with tb := { r0.tb with lead := r0.tb.walkK } }
     s.settleWalk.tb.spans = [] ∧ (s.settleWalk.tb.walkK : Int) ≤ s.settleWalk.tb.lead) ∧
    (r0.bucketMove r0.count (-30000000) true).settleWalk.tb.spans ≠ [] ∧
    r0.calDue { idx := 1, cmp := 9, place := .bucket 0 } = false ∧
    r0.calDue { idx := 1, cmp := 0, held := true, place := .bucket 0 } = true ∧
    (let s : State := { r0 with records := [{ idx := 1, cmp := 9, tkind := 3, place := .overflow }] }
     (s.inOrder s.count (s.records.filter fun r => r.place == .overflow)).find? (fun r => s.slotsFree r) =
       some { idx := 1, cmp := 9, tkind := 3, place := .overflow }) := by decide

theorem witness_FireReports : (0 : Fin 64).val = 0 ∧
    ({ r0 with fireReps := [{ idx := 1, owner := 0, notify := true, late := true, last := true, placer := none, ext := 9, dtime := 9, status := 0 }] } : State).fireReps
      = { idx := 1, owner := 0, notify := true, late := true, last := true, placer := none, ext := 9, dtime := 9, status := 0 } :: [] ∧
    (rdy.wr R.UCS_SVC 0x80000000 |>.signalFire 5 9).slow = false := by decide

theorem witness_GeneralTimers : r0.wf = true ∧ (r0.set (F.GT_CFG.CAP_SRC 15) 19).get (F.GT_CFG.CAP_SRC 15) < 20 ∧ 20 ≤ r0.get (F.GT_CFG.CAP_SRC 15) ∧ r0.get (F.GT_CFG.EDGE 15) = b2n false ∧
    ((r0.set (F.GT_CFG.CAP_SRC 0) 20).get (F.GT_CFG.CAP_SRC 0) = 20) ∧ canWrite (.thread 63) (R.GT_STAT 15) = true ∧
    r0.get (F.GT_CFG.CMP_DIR 0) = 0 ∧ ¬ (r0.rd R.TB_EXT_LO - 1).toNat < 2 ^ 31 := by decide

/-! ### Power -/

theorem witness_PowerDomainRequests : canWrite .twm (R.PDOM_REQ 0) = true ∧ canWrite .twm (R.PDOM_REQ 6) = true ∧
    (∀ e < 130, e ≠ 101 → e / 16 = 6 → bitsOf (0xFFFFF7FF : Word) (2 * (e % 16) + 1) (2 * (e % 16)) = 3) ∧
    bitsOf (0xFFFFF7FF : Word) 11 10 = 1 ∧ r0.domFenced 101 = false ∧ (r0.set (domStat 101) 3).domFenced 101 = true ∧
    r0.offDenied 82 = some 4 ∧ r0.offDenied 0 = none ∧ bitsOf (0xFFFFF3FF : Word) 11 10 = 0 ∧ r0.get (domReq 101) = 0 ∧
    (r0.set (domReq 101) 1).get (domReq 101) ≠ 0 := by decide

theorem witness_PowerOffDenied : r0.wf = true ∧ r0.domFenced 69 = false ∧ r0.domFenced 82 = false ∧ r0.domFenced 84 = false ∧
    (r0.set (domStat 3) 3).domFenced 3 = true ∧ r0.domFenced 80 = false ∧ (r0.chargers[(24 : Fin 25)]).running = false ∧
    2 ≤ (r0.set (F.FD_STAT.STATE 0) 4).get (F.FD_STAT.STATE 0) := by decide

theorem witness_PowerUpStartsTheNeeds : r0.wf = true ∧ (101 < 102) ∧ (96 ∈ domNeeds 0) ∧ r0.get (domStat 96) = 0 := by decide

/-- Domain d powers up while house power runs. -/
def powering (d : Nat) : State := { allOn.set (domStat d) 2 with house := { started := true } }

theorem witness_PowerDomainSteps : r0.chIdle 23 = true ∧ (r0.wr (R.MD_RES 23) 1).chIdle 23 = false ∧
    r0.get (domStat 101) ≠ 2 ∧ (powering 72).get (domStat 72) = 2 ∧ (domNeeds 72).all (powering 72).domOn = true ∧
    (domNeeds 69).all (powering 69).domOn = true ∧ (powering 101).get (domStat 101) = 2 ∧ (powering 0).house.started = true ∧
    (domNeeds 1).all (powering 1).domOn = true ∧ (domNeeds 93).all (powering 93).domOn = true ∧
    (domNeeds 80).all (powering 80).domOn = true ∧ (powering 80).get (domStat 80) = 2 ∧
    (domNeeds 96).all (powering 96).domOn = true ∧ (domNeeds 0).all (r0.set (domStat 0) 2).domOn = false ∧
    (r0.set (domStat 0) 2).get (domStat 0) = 2 := by decide

theorem witness_BankOffLosesItsContents : allOn.wf = true ∧ inQueue 0x12400000 = true ∧ bankOf 0x12400000 = 85 - 82 ∧
    inQueue 0x15FFFFFF = true ∧ bankOf 0x15FFFFFF = 89 - 82 := by decide

theorem witness_TripsAndFences : r0.legOk 0 0 = true ∧ (r0.fenceLeg 0 0).legOk 0 0 = false ∧ (r0.ch 0).fenced = false ∧
    ((r0.modCh 23 fun h => { h with fenced := true }).ch 23).fenced = true ∧
    (r0.set (F.PS_STAT.INPUT 0) 1).get (F.PS_STAT.INPUT 0) = 1 ∧ (r0.set (F.PS_STAT.INPUT 0) 2).get (F.PS_STAT.INPUT 0) = 2 ∧
    (r0.set (F.PS_STAT.BSW 0) 1).get (F.PS_STAT.BSW 0) ≠ 0 ∧
    400000 ≤ ((r0.modCh 0 fun h => { h with batN := 400000 }).ch 0).batN := by decide

theorem witness_RatingsFollowTheLegs : (r0.legsOk 0).length = 4 ∧ ((r0.fenceLeg 0 3).legsOk 0).length = 3 ∧
    (((r0.fenceLeg 0 3).fenceLeg 0 0).legsOk 0).length = 2 := by decide

/-- Channel 0 with one field of its state changed. -/
def chS (f : Chan → Chan) : State := r0.modCh 0 f

theorem witness_PowerStageEvents :
    ((r0.fenceEngine 0 0 false).enginesOk 0 = [1]) ∧ (r0.enginesOk 0).length ≠ 1 ∧ r0.get (F.PS_GANG.ROLE 0) ≠ 2 ∧
    (r0.set (F.PS_GANG.ROLE 0) 2).get (F.PS_GANG.ROLE 0) = 2 ∧
    ((r0.set (F.PS_STAT.LEG_ACTIVE 0) 8).get (F.PS_STAT.LEG_ACTIVE 0)).testBit (3 : Fin 4) = true ∧
    (r0.get (F.PS_STAT.LEG_ACTIVE 0)).testBit (3 : Fin 4) = false ∧ (r0.ch 0).cbc.getD 3 0 < 63 ∧
    63 ≤ ((chS fun h => { h with cbc := h.cbc.set 3 63 }).ch 0).cbc.getD 3 0 ∧
    2 ≤ ((List.range 4).filter fun k => ((r0.set (F.PS_STAT.LEG_ACTIVE 0) 15).get (F.PS_STAT.LEG_ACTIVE 0)).testBit k).length ∧
    r0.is (F.PS_PWM.SHED_EN 0) = true ∧ 4 * r0.get (F.PS_SHED.HOLD 0) ≤ ((chS fun h => { h with shedN := 200 }).ch 0).shedN ∧
    (r0.ch 0).shedN < 4 * r0.get (F.PS_SHED.HOLD 0) := by decide

theorem witness_BurstsAndTheBatterySwitch :
    (r0.set (F.PS_STAT.BSW 0) 3).get (F.PS_STAT.BSW 0) = 3 ∧ (r0.set (F.PS_STAT.BSW 0) 1).get (F.PS_STAT.BSW 0) = 1 ∧
    (r0.set (F.RG_STAT.LIMIT 0) 3).get (F.RG_STAT.LIMIT 0) = 3 ∧ (r0.set (F.PS_STAT.BURST 0) 1).is (F.PS_STAT.BURST 0) = true ∧
    400000 ≤ ((chS fun h => { h with burstN := 400000 }).ch 0).burstN ∧
    9 * ((chS fun h => { h with burstD := 1, calmN := 9 }).ch 0).burstD ≤ ((chS fun h => { h with burstD := 1, calmN := 9 }).ch 0).calmN ∧
    9 * ((chS fun h => { h with burstD := 1, calmN := 8 }).ch 0).burstD > ((chS fun h => { h with burstD := 1, calmN := 8 }).ch 0).calmN ∧
    (r0.set (F.PS_STAT.BURST_READY 0) 0).is (F.PS_STAT.BURST_READY 0) = false ∧ r0.is (F.PS_STAT.BURST 0) = false ∧
    (chS fun h => { h with pathF := 0, force := 0x61 }).is (F.PS_STAT.TRANS 0) = false ∧
    ((chS fun h => { h with pathF := 0, force := 0x61 }).ch 0).pathF = 0 ∧
    ((chS fun h => { h with pathF := 0, force := 0x61 }).curMode 0).role ≠ 0 ∧
    ((chS fun h => { h with pathF := 0, force := 0x61 }).curMode 0).law = 6 ∧
    (r0.set (F.PS_STAT.BSW 0) 2).get (F.PS_STAT.BSW 0) = 2 ∧ (r0.ch 0).pathF ≠ 0 ∧ r0.get (F.PS_STAT.BSW 0) ≠ 1 ∧
    (r0.set (F.PS_GANG.ROLE 1) 2).get (F.PS_GANG.ROLE 1) = 2 ∧ (r0.set (F.PS_GANG.ROLE 1) 2).gangLeader 1 = (0 : Fin 24).val := by
  decide

theorem witness_PathTransitions : r0.wf = true ∧ (2 : Nat) = (r0.ch 0).pathF ∧ (3 : Nat) ≠ (r0.ch 0).pathF ∧
    ((chS fun h => { h with dest := some 1 }).ch 0).dest = some 1 ∧ ((chS fun h => { h with disch := true }).ch 0).disch = true ∧
    (r0.ch 0).stopSlew = 0 ∧ (r0.ch 0).disch = false ∧ r0.ltRuns 3 (bswLink 0) = false ∧ (r0.ch 0).dest = none ∧
    (r0.ch 0).tstep = .takeover ∧ ((chS fun h => { h with tstep := .join }).ch 0).tstep = .join ∧
    ((chS fun h => { h with stopSlew := 5 }).ch 0).stopSlew ≠ 0 ∧ ((chS fun h => { h with pathF := 3 }).ch 0).pathF = 3 ∧
    ((chS fun h => { h with pathF := 1 }).ch 0).pathF ≤ 1 := by decide

/-! ### Modes, regulation, lines -/

theorem witness_ResolutionRules : ((chS fun h => { h with trip := 1 }).ch 0).trip ≠ 0 ∧
    ((chS fun h => { h with react := some true }).ch 0).react = some true ∧ (r0.modCh 0 fun h => { h with heldOff := true }).wf = true := by
  decide

theorem witness_ResolutionWrites : r0.wf = true ∧
    (modeWord (r0.resolveOf 0).1 = r0.rd (R.MD_RES 0) ∧ (r0.resolveOf 0).2.1 = r0.get (F.MD_WHY.WHY 0) ∨
      modeWord (r0.resolveOf 0).1 ≠ r0.rd (R.MD_RES 0) ∨ (r0.resolveOf 0).2.1 ≠ r0.get (F.MD_WHY.WHY 0)) ∧
    modeWord ((r0.wr (R.MD_RES 1) 0xFFFFFFFF).resolveOf 1).1 ≠ (r0.wr (R.MD_RES 1) 0xFFFFFFFF).rd (R.MD_RES 1) := by decide

theorem witness_ModeRequests : canWrite (.thread 0) (R.MD_REQ 23) = true ∧ (modeOf 0x70).law = 7 ∧ (modeOf 0x00370201).law = 0 ∧
    (modeOf 0x00370201).stage ≠ 3 ∧ (modeOf 0x00370201).irange ≠ 6 ∧ (modeOf 0x00370201).vrange ≠ 2 ∧
    (modeOf 0x00370250).law = 5 ∧ (modeOf 0x00370250).law ≠ ((r0.opsFirst 0).resMode 0).law ∧ (r0.opsFirst 0).lawOk 0 5 = false ∧
    (modeOf 0x00370201).role ≠ 0 ∧ (modeOf 0).role = 0 ∧ ((r0.opsFirst 0).curMode 0).role = 0 := by decide

theorem witness_ModeViews : canWrite (.mss 0) (R.MS_RANGE 0) = true ∧ bitsOf (0x600 : Word) 10 8 = 6 ∧
    bitsOf (0x620 : Word) 5 4 = 2 ∧ bitsOf (0x120 : Word) 10 8 ≠ 6 ∧ bitsOf (3 : Word) 1 0 = 3 := by decide

theorem witness_GangRequests : canWrite (.mss 0) (R.MD_GANG 0) = true ∧ bitsOf (1 : Word) 1 0 ≠ 0 ∧
    (let g := ((r0.opsFirst 0).wakeCh 0).modCh 0 fun h => { h with gangWant := 0 }
     g.get (F.PS_GANG.ROLE 0) ≠ 1 ∧ g.gangOk 0 1 = true) ∧
    (let g := ((r0.opsFirst 1).wakeCh 1).modCh 1 fun h => { h with gangWant := 0 }
     g.gangOk 1 1 = false) ∧
    (let g := (((r0.set (F.PS_GANG.ROLE 0) 1).set (F.PS_GANG.SIZE 0) 1 |>.opsFirst 0).wakeCh 0).modCh 0 fun h => { h with gangWant := 0 }
     g.get (F.PS_GANG.ROLE 0) = 1 ∧ g.get (F.PS_GANG.SIZE 0) = 1) ∧ (r0.ch 0).gangWant = 0 := by decide

theorem witness_GangPlacement : r0.gangOk 0 3 = true ∧ r0.gangOk 16 3 = true := by decide

theorem witness_SetPointsAndLimits : r0.wf = true ∧ (6000000 : Word).toNat ≤ 6000000 ∧
    (BitVec.ofInt 32 (-20000000)).toInt = -20000000 ∧ (r0.rd (R.RG_VLIM_LO 0)).toNat ≤ (r0.rd (R.RG_VLIM_HI 0)).toNat := by decide

theorem witness_LoopAndProfileRegisters : canWrite .dbg (R.RG_LOOP 0) = true ∧ bitsOf (4 : Word) 2 0 < 5 ∧
    bitOf (0x80000004 : Word) 31 = true ∧ bitsOf (5 : Word) 2 0 = 5 ∧ ((r0.opsFirst 0).resMode 0).law ≠ 5 ∧
    (((r0.wr (R.MD_RES 0) 0x50).opsFirst 0).resMode 0).law = 5 ∧ (r0.opsFirst 0).profOk 0x10E00000 = false ∧
    (State.opsFirst { allOn with mem := [(0x10E00004, 2)] } 0).profOk 0x10E00000 = true := by decide

theorem witness_LoopApply : r0.wf = true ∧ (r0.ch 0).eng.apply = false ∧
    ((chS fun h => { h with eng := { h.eng with apply := true } }).ch 0).eng.apply = true ∧ r0.get (F.RG_LOOP.PROF 0) ≠ 4 ∧
    (r0.set (F.RG_LOOP.PROF 0) 4).get (F.RG_LOOP.PROF 0) = 4 ∧ (i32 (r0.rd (R.RG_COEF 0 4))).natAbs < 2 ^ 28 ∧
    ((i32 (r0.rd (R.RG_COEF 0 3))).natAbs : Int) < 2 ^ 28 + i32 (r0.rd (R.RG_COEF 0 4)) ∧
    ¬ (i32 ((r0.wr (R.RG_COEF 0 4) 0x10000000).rd (R.RG_COEF 0 4))).natAbs < 2 ^ 28 ∧
    ({ bump := true } : Engine).bump = true := by decide

theorem witness_PwmPairs : (2000 : Nat) ≤ 2000 ∧ (160 : Nat) ≤ 160 ∧ 48 ≤ 48 + 0 ∧ 48 + 0 + 48 ≤ 2000 - 2 * 160 := by decide

theorem witness_LegRegions : 100 * (879 : Int) < 88 * 1000 ∧ 90 * (1000 : Int) ≤ 100 * 900 ∧ 112 * (1000 : Int) < 100 * 1121 := by
  decide

theorem witness_LinesOpenAndClose : canWrite (.thread 0) (R.LN_STAT 23) = true ∧ r0.get (F.LN_STAT.STATE 0) ≠ 3 ∧
    (r0.set (F.LN_STAT.STATE 0) 3).get (F.LN_STAT.STATE 0) = 3 ∧ (r0.set (F.LN_STAT.PULSE 0) 1).is (F.LN_STAT.PULSE 0) = true ∧
    (r0.set (F.LN_STAT.STATE 0) 1).get (F.LN_STAT.STATE 0) = 1 ∧ (r0.set (F.LN_CFG.ILIM 0) 21).get (F.LN_CFG.ILIM 0) = 20 + 1 ∧
    (r0.set (F.LN_CFG.ILIM 0) 20).get (F.LN_CFG.ILIM 0) ≤ 20 ∧ r0.domOn (3 * 0) = false ∧ allOn.domOn (3 * 23) = true ∧
    allOn.get (F.LN_STAT.STATE 0) ≠ 3 := by decide

theorem witness_LineStates : r0.wf = true ∧ r0.lineClosed 0 = false ∧ (r0.lineClose 0).lineClosed 0 = true := by decide

theorem witness_EvtLines : r0.wf = true ∧ (r0.set ⟨R.EVT_CFG, 15, 15⟩ 1).get ⟨R.EVT_CFG, 15, 15⟩ = 1 ∧ r0.get ⟨R.EVT_CFG, 0, 0⟩ = 0 ∧
    15 ∈ (r0.evtPulseOn 15 3).evtPulse ∧ 0 ∉ r0.evtPulse := by decide

/-! ### Battery model, charging -/

/-- A table at 0x10E00000 that the model accepts: CAP 1, HMAX 0, and T rising by one, all else 0. -/
def tbl : State := { allOn with mem := [(0x10E00003, 1), (0x10E00004, 1), (0x10E0001A, 1), (0x10E0001C, 2), (0x10E0001E, 3),
  (0x10E00020, 4), (0x10E00022, 5), (0x10E00024, 6), (0x10E00026, 7)] }

theorem witness_ModelTableChecks_header : tbl.wf = true ∧ tbl.bmFormatOk 0x10E00000 = true ∧ tbl.bmCapOk 0x10E00000 = true ∧
    tbl.bmHmaxOk 0x10E00000 = true ∧ tbl.bmHqOk 0x10E00000 = true ∧ tblPlaced 0x10E00000 8256 64 = true := by decide

theorem witness_ModelTableChecks_T : tbl.bmTOk 0x10E00000 = true := by decide

theorem witness_ModelRegisterWrites : canWrite (.thread 0) (R.BM_SOC 23) = true ∧ ((r0.opsFirst 0).resMode 0).law ≠ 4 ∧
    (((r0.wr (R.MD_RES 0) 0x40).opsFirst 0).resMode 0).law = 4 ∧ (r0.opsFirst 0).bmTblOk 0x10E00000 = false ∧
    1000000 < (1000001 : Word).toNat ∧ (1000000 : Word).toNat ≤ 1000000 ∧ ((r0.opsFirst 0).req .twm).wsh = none ∧
    (((r0.modReq .twm fun q => { q with wsh := some (bmLo 0 .q, 5) }).opsFirst 0).req .twm).wsh = some (bmLo 0 .q, 5) := by decide

theorem witness_ModelUpdates : (r0.wr (R.MD_RES 0) 0x40 |>.resMode 0).law = 4 ∧ allOn.domOn (3 * 0 + 1) = true ∧
    r0.is (F.BM_STAT.RUN 0) = false ∧ (r0.set (F.BM_STAT.RUN 0) 1).is (F.BM_STAT.RUN 0) = true ∧ (r0.resMode 0).law ≠ 4 ∧
    r0.wf = true := by decide

theorem witness_ModelStateWrites : r0.wf = true ∧ r0.is (F.BM_STAT.RUN 0) = false ∧
    (r0.set (F.BM_STAT.RUN 0) 1).is (F.BM_STAT.RUN 0) = true ∧ (-(2 ^ 63) ≤ (-9223372036854775808 : Int)) := by decide

theorem witness_ModelArithmetic :
    let sat := fun x : Int => max (-(2 ^ 63)) (min (2 ^ 63 - 1) x)
    (0 : Int) ≤ 1 ∧ (0 : Int) < 1 ∧ (5 : Int).natAbs ≤ (sat ((1 : Int) * 10000000)).natAbs ∧
    (7 : Int).natAbs ≤ (sat ((9223373 : Int) * 1000000000000)).natAbs ∧ sat 5 = 5 := by decide

/-- Charger k runs in phase p. -/
def charging (k : Fin 25) (p : Nat) : State :=
  (r0.set (F.CG_STAT.PHASE k) p).modCg k fun g => { g with running := true, phaseMs := 2 ^ 40, totalMs := 2 ^ 40, holdoff := 2 ^ 40 }

/-- A tick in which nothing flows. -/
def means0 : TickMeans := { vbat := 0, ibat := 0, iout := 0 }

theorem witness_ChargerCommands : canWrite .twm (R.CG_CTRL 24) = true ∧ ((charging 0 1).chargers[(0 : Fin 25)]).running = true ∧
    ((charging 0 1).chargers[(0 : Fin 25)]).moved = false ∧ (charging 0 1).phaseDue 0 = true ∧ r0.phaseDue 0 = false ∧
    ((charging 0 1).set (F.CG_TMR_3.TB 0) 1).totalDue 0 = true ∧ r0.totalDue 0 = false ∧ (charging 0 2).phase 0 = 2 ∧
    ((charging 0 2).set (F.CG_CFG.CHEM 0) 4).nimh 0 = true ∧
    (charging 0 2).get (F.CG_NIMH.HOLDOFF 0) * 10000 < ((charging 0 2).chargers[(0 : Fin 25)]).holdoff ∧
    (charging 0 7).phase 0 = 7 ∧ ((r0.chargers[(0 : Fin 25)]).running = false) ∧ r0.nimh 0 = false ∧
    (((charging 3 1).packCount 3 means0).chargers[(3 : Fin 25)]).running = true ∧ ((charging 3 1).packCount 3 means0).packHeld 3 = false ∧
    ((r0.packCount 24 means0).chargers[(24 : Fin 25)]).running = false ∧
    (((charging 0 1).opsFirst 0).chargers[(0 : Fin 25)]).running = true ∧ ((r0.opsFirst 0).chargers[(0 : Fin 25)]).running = false := by
  decide

/-- Charger 0 has a peak of 100, and a minute of temperatures that rose by 60. -/
def nimhRun (below : Nat) : State := r0.modCg 0 fun g => { g with peak := some 100, below := below, temps := 60 :: List.replicate 60 0 }

theorem witness_NimhTests : (nimhRun 0).wf = true ∧ ((nimhRun 0).chargers[(0 : Fin 25)]).peak = some 100 ∧
    r0.is (F.CG_CFG.DTDT_EN 0) = false ∧ (r0.set (F.CG_CFG.DV_EN 0) 1).is (F.CG_CFG.DV_EN 0) = true ∧
    (-(2 ^ 31) : Int) ≤ 100 - (r0.get (F.CG_NIMH.DV_THR 0) : Int) * 10 ∧ 2 ≤ (nimhRun 1).chargers[(0 : Fin 25)].below + 1 ∧
    ((r0.set (F.CG_CFG.DTDT_EN 0) 1).is (F.CG_CFG.DTDT_EN 0)) = true ∧ (r0.set (F.CG_CFG.THERM_EN 0) 1).is (F.CG_CFG.THERM_EN 0) = true ∧
    61 ≤ ((nimhRun 0).chargers[(0 : Fin 25)]).temps.length ∧
    (((nimhRun 0).set (F.CG_NIMH.DTDT_THR 0) 60).get (F.CG_NIMH.DTDT_THR 0) : Int) ≤
      ((nimhRun 0).chargers[(0 : Fin 25)]).temps.headD 0 - ((nimhRun 0).chargers[(0 : Fin 25)]).temps.getLastD 0 := by decide

theorem witness_PhaseTimers : (charging 24 8).phase 24 = 8 ∧ ((charging 24 1).set (F.CG_TMR_3.TB 24) 1).totalDue 24 = true ∧ r0.totalDue 24 = false := by decide

theorem witness_ChargeTickOrder : (r0.chargers[(0 : Fin 25)]).clear = false ∧ (charging 0 7).phase 0 = 7 ∧
    ((charging 0 1).modCg 0 fun g => { g with holds := List.replicate 8 (2 ^ 20) }).holds 0 6 = true ∧ (charging 0 1).holds 0 6 = false ∧
    ((charging 0 1).set (F.CG_V_CV.VALUE 0) 0).cgOrderOk 0 = false ∧ ((charging 0 7).modCg 0 fun g => { g with clear := true }).phase 0 = 7 ∧
    (charging 0 1).cgOrderOk 0 = true ∧ ((charging 0 1).modCg 0 fun g => { g with lost := true }).chargers[(0 : Fin 25)].lost = true ∧
    ((charging 0 1).chargers[(0 : Fin 25)]).lost = false := by decide

theorem witness_PhaseEntries : r0.wf = true ∧ (8 < 9) ∧ (15 < 16) ∧ (23 : Fin 25).val = (23 : Fin 24).val ∧ r0.linkDown 5 = false := by decide

theorem witness_ChargeTargets : ((charging 0 4).set (F.CG_STAT.ZONE 0) 2).get (F.CG_STAT.ZONE 0) = 2 ∧
    ((charging 0 4).set (F.CG_CFG.CHEM 0) 4).nimh 0 = true ∧ (charging 0 4).nimh 0 = false ∧ (charging 0 4).phase 0 = 4 ∧
    6 ≤ (charging 0 8).phase 0 := by decide

theorem witness_PresetsLoad : r0.wf = true ∧ r0.get (F.CG_CFG.CHEM 0) ≤ 4 ∧ ((r0.set (F.CG_CFG.NCELL 0) 41).get (F.CG_CFG.NCELL 0) = 41) ∧
    ((r0.set (F.CG_CFG.NCELL 0) 1).get (F.CG_CFG.NCELL 0) = 1) ∧ (presetOf 4).1.getD 4 0 * 100 * 1 ≤ 6000000 ∧
    6000000 < (presetOf 0).1.getD 4 0 * 100 * 40 := by decide

/-! ### Measurement and the control sample -/

theorem witness_RangesStagesAndUnits : r0.supRuns 0 = true ∧ (r0.set (F.SUP_STAT.STATE 0) 4).supRuns 0 = false ∧ canWrite (.thread 0) (R.MS_AUTO 0) = true ∧ bitsOf (0x00010000 : Word) 31 16 = 1 ∧
    bitsOf (0x00010005 : Word) 2 0 = 5 ∧ bitsOf (0x00010500 : Word) 10 8 = 5 ∧ bitsOf (0x00010006 : Word) 2 0 = 6 ∧
    ((r0.modFe 0 fun f => { f with chg := some 3 }).ch 0).fe.chg = some 3 ∧ (r0.ch 0).fe.chg = none ∧ (r0.ch 0).fe.calib = true ∧
    3 ≤ (r0.ch 0).fe.units.length ∧ r0.measBusy 0 = false ∧ (r0.set (F.MS_SWP_CTRL.RUN 0) 1).measBusy 0 = true ∧
    (r0.ch 0).convBad.contains 2 = false ∧ ((chS fun h => { h with convBad := [2] }).ch 0).convBad.contains 2 = true ∧
    ((r0.modFe 0 fun f => { f with units := [0, 1] }).ch 0).fe.units.length = 2 ∧
    ((r0.modFe 0 fun f => { f with calPlace := some 1 }).ch 0).fe.calPlace = some 1 ∧ (r0.ch 0).fe.still < 40000 ∧
    (r0.set (F.MS_STAGE.ACT 0) 2).get (F.MS_STAGE.ACT 0) = 2 ∧ (r0.set (F.MS_STAGE.ACT 0) 3).get (F.MS_STAGE.ACT 0) = 3 ∧
    r0.get (F.MS_STAGE.ACT 0) < 2 := by decide

theorem witness_StillQualified :
    let s := (chS fun h => { h with force := 0x00002201 }).modFe 0 fun f => { f with still := 40000 }
    (s.curMode 0).stage = 2 ∧ s.get (F.MS_STAGE.ACT 0) = 0 ∧ 40000 ≤ (s.ch 0).fe.still ∧ s.canHandover 0 = true := by decide

theorem witness_RotationsSwapTheSpare : (r0.ch 0).fe.spareOk = false ∧ (r0.ch 0).fe.units = [0, 1, 2] ∧
    ((r0.modFe 0 fun f => { f with spareOk := true, oldest := 1 }).ch 0).fe.oldest = 1 ∧ r0.supRuns 0 = true := by decide

theorem witness_WindowsCapturesAndSweeps : canWrite (.thread 0) (R.MS_WIN_CTRL 0) = true ∧ (r0.opsFirst 0).is (F.MS_SWP_CTRL.RUN 0) = false ∧
    ((r0.set (F.MS_SWP_CTRL.RUN 0) 1).opsFirst 0).is (F.MS_SWP_CTRL.RUN 0) = true ∧ ({ step := 3 } : Window).step ≠ 0xFFFFFFFF ∧
    (r0.set (F.MS_SWP_CTRL.RUN 0) 1).is (F.MS_SWP_CTRL.RUN 0) = true ∧ (r0.ch 0).fe.win.full = false ∧
    ({ opened := true, len := 4, n := 4 } : Window).full = true ∧ (r0.ch 0).fe.win.step = 0xFFFFFFFF ∧
    r0.is (F.MS_WIN_CTRL.REPEAT 0) = false ∧ (r0.set (F.MS_WIN_CTRL.REPEAT 0) 1).is (F.MS_WIN_CTRL.REPEAT 0) = true ∧
    (r0.opsFirst 0).sweepOk ((r0.opsFirst 0).get (F.MS_SWP_ADDR.ADDR 0) * 16) = false ∧
    (State.opsFirst { allOn with mem := [(0x10E00004, 1), (0x10E0000C, 1), (0x10E00014, 4)] } 0).sweepOk 0x10E00000 = true := by decide

theorem witness_WindowResults : ({} : Window).n = 0 ∧ ({ n := 1 } : Window).n ≠ 0 ∧ (3 : Nat) < 2 ^ 192 := by decide

theorem witness_AccumulatorsKeepEveryQuantum : (0 : Int) < 4000000 ∧ (-3999999 : Int).natAbs < (4000000 : Int).natAbs := by decide

theorem witness_RoundingToNearest : 0 < 1 ∧ 2 * (roundDiv 1 2 * (2 : Nat) - 1).natAbs = 2 := by decide

theorem witness_ControlSampleOrder : (((allOn.upset 0 none).measure 0 {}).vinCheck 0 0).disputed 0 = false ∧
    (((allOn.upset 0 (some (0, 3, 5))).measure 0 {}).vinCheck 0 0).disputed 0 = true ∧
    allOn.domOn (3 * 0 + 2) = true ∧ r0.domOn (3 * 0 + 2) = false := by decide

theorem witness_SampleResults : r0.wf = true ∧ (r0.ch 0).fe.chg = none ∧ (r0.ch 0).fe.calPlace = none ∧
    r0.is (F.PS_STAT.LOCAL 0) = false ∧ (r0.set (F.PS_STAT.LOCAL 0) 1).is (F.PS_STAT.LOCAL 0) = true ∧ (-(2 ^ 63) ≤ (-(2 ^ 63) : Int)) ∧ (0 : Int).natAbs ≤ rangeFs (r0.get (F.MS_RANGE.IACT 0)) ∧
    rangeFs (r0.get (F.MS_RANGE.IACT 0)) < (2 ^ 62 : Int).natAbs := by decide

theorem witness_DisputedEngines : (r0.enginesOk 0).length = 2 ∧ allOn.domOn 1 = true ∧
    (r0.fenceEngine 0 0 false).get (F.RG_ENG.ENG_A 0) ≠ 0 := by decide

/-! ### House power and the ledger -/

/-- Feed f in state st. -/
def feedAt (f : Fin 2) (st : Nat) : State := r0.set (F.FD_STAT.STATE f) st
/-- House power from SRC n. -/
def srcAt (n : Nat) : State := r0.setSrc n

theorem witness_FeedsQualifyAndFail : r0.feed 0 ≤ 1 ∧ (feedAt 1 2).feed 1 = 2 ∧ (feedAt 1 5).feed 1 = 5 ∧ (feedAt 0 3).feed 0 = 3 ∧
    (feedAt 0 4).feed 0 = 4 ∧ (feedAt 0 4).wf = true ∧ ((feedAt 0 4).setSrc 1).src = 1 ∧ ((feedAt 0 4).setSrc 1).wf = true ∧
    ((feedAt 0 4).set (F.FD_CFG.REV_EN 0) 1).is (F.FD_CFG.REV_EN 0) = true ∧
    ((feedAt 0 4).set (F.FD_CFG.REV_EN 0) 0).is (F.FD_CFG.REV_EN 0) = false := by decide

theorem witness_TheSelector : canWrite .dbg R.HSE_SEL_CTRL = true ∧ r0.src ≠ 4 ∧ (srcAt 4).src = 4 ∧ r0.house.target = none ∧
    ((feedAt 0 2).setSrc 4).pickFeed = some 0 ∧ (srcAt 4).pickFeed = none ∧ (srcAt 4).pickFeeds true = [] ∧
    ((srcAt 4).set F.PK_DIS.HOLDUP_EN 1).is F.PK_DIS.HOLDUP_EN = true ∧ ((srcAt 4).set F.PK_DIS.HOLDUP_EN 0).is F.PK_DIS.HOLDUP_EN = false ∧
    r0.packLive = false ∧ allOn.packLive = true ∧ r0.get (F.THM_STAT.LEVEL 6) ≠ 4 ∧ ((feedAt 0 3).setSrc 1).feed 0 = 3 ∧
    ((feedAt 0 3).setSrc 1).src ≠ 0 ∧ (r0.set F.HSE_SEL_STAT.FWARN 1).is F.HSE_SEL_STAT.FWARN = true ∧
    (((srcAt 3).set F.HSE_FWARN.SOC_WARN 1).set F.PK_SOC.SOC 0).lowPack = true ∧ (feedAt 0 3).wf = true ∧ ({ r0 with boot := { r0.boot with drain := false } } : State).boot.drain = false ∧ r0.src = 0 ∧
    (r0.set F.HSE_SEL_CFG.RET_EN 1).is F.HSE_SEL_CFG.RET_EN = true ∧ (r0.set F.HSE_SEL_CFG.RET_EN 0).is F.HSE_SEL_CFG.RET_EN = false ∧
    r0.feedTested 0 = false ∧ r0.is F.HSE_SEL_STAT.SWITCHING = false ∧ bitOf (3 : Word) 1 = true ∧ ((feedAt 1 2).setSrc 1).srcFeed = true ∧
    r0.is F.HSE_SEL_STAT.FWARN = false ∧ r0.lowPack = false ∧ (feedAt 0 4).lastFeed = true := by decide

theorem witness_HouseStageAndTap : r0.house.legBad.contains 5 = false ∧ (r0.modHouse fun h => { h with legBad := [5] }).house.legBad.contains 5 = true ∧
    r0.src ≠ 3 ∧ (srcAt 3).src = 3 ∧ r0.houseOn = false ∧ (r0.modHouse fun h => { h with tripped := true }).house.tripped = true ∧
    (r0.set F.HSE_HOUSE.EN 1).is F.HSE_HOUSE.EN = true ∧ r0.house.retries < (r0.set F.HSE_HOUSE.RETRY 1).get F.HSE_HOUSE.RETRY ∧
    (r0.set F.HSE_HOUSE.RETRY 0).get F.HSE_HOUSE.RETRY ≤ r0.house.retries ∧ 1000 * r0.get F.HSE_SEL_CFG.BUS_HI < 100000 ∧
    (∃ v ∈ [1000 * r0.get F.HSE_SEL_CFG.BUS_HI], v ≤ 1000 * r0.get F.HSE_SEL_CFG.BUS_HI ∧ 1000 * r0.get F.HSE_SEL_CFG.BUS_HI ≤ v + 1000) ∧
    r0.house.sink = 1000000 ∧
    (r0.modHouse fun h => { h with sink := 999999 }).house.sink < 1000000 ∧ 0 + 1000 < 1000 * r0.get F.HSE_SEL_CFG.BUS_HI := by decide

theorem witness_HouseOn : ((srcAt 1).modHouse fun h => { h with started := true }).wf = true ∧
    (((srcAt 1).set F.HSE_HOUSE.EN 1).modHouse fun h => { h with started := true }).houseOn = true := by decide

/-- A ledger in the middle of its work. -/
def lent : State := r0.modLedger fun l =>
  { l with asks := [{ who := 24, cont := 1, burst := 0 }], grants := [{ who := 0, cont := 1, burst := 0 }], backs := [{ who := 0, cont := 1, burst := 0 }], chgCall := true }

theorem witness_LedgerCommands : (srcAt 1).srcFeed = true ∧ r0.ledger.vBase + 2000 < 48000 ∧ r0.ledger.vBase ≤ 0 + 2000 ∧
    r0.is F.LG_STAT.RECLAIM = false ∧ (r0.set F.LG_STAT.RECLAIM 1).is F.LG_STAT.RECLAIM = true ∧ r0.domOn 0 = false ∧ allOn.domOn 0 = true ∧
    (r0.ch 0).pathF ≠ 3 ∧ (allOn.modCh 0 fun h => { h with pathF := 3, dest := some 0 }).domOn (3 * 0) = true ∧
    ((chS fun h => { h with pathF := 3, dest := some 0 }).ch 0).dest.any (· != 3) = true ∧
    (0 + 999) / 1000 + (r0.set F.LG_CFG.HEADROOM 0).get F.LG_CFG.HEADROOM ≤ 0 ∧ 0 < (r0.set (F.LG_RSV.RSV 0) 5).get (F.LG_RSV.RSV 0) ∧
    100 * (r0.set F.LG_CFG.RET_HOLD 0).get F.LG_CFG.RET_HOLD ≤ r0.ledger.surplus.getD 0 0 + 1 ∧ r0.ledger.recover = false ∧
    r0.lent ≤ 0 ∧ (r0.ledger.tiles.getD 0 (0, 0)).1 < (1001 + 999) / 1000 + r0.get F.LG_CFG.HEADROOM ∧ r0.ledger.asks = [] ∧
    lent.wf = true ∧ r0.ledger.chgCall = false ∧ r0.is F.LG_STAT.BWIN = false ∧
    (r0.set F.LG_STAT.BWIN 1).is F.LG_STAT.BWIN = true ∧
    min (96 * 0 / 100000) ((r0.set F.LG_LENT.CREDITS 5).lent + (r0.set F.LG_LENT.CREDITS 5).bfree) < (r0.set F.LG_LENT.CREDITS 5).lent := by decide

theorem witness_LedgerPools : (srcAt 1).src = 1 ∧ (srcAt 2).src = 2 ∧ (srcAt 3).src = 3 ∧ (srcAt 4).src = 4 ∧ r0.house.legBad = [] ∧
    ((srcAt 1).set (F.FD_CFG.ILIM 0) 140).get (F.FD_CFG.ILIM 0) = 140 ∧ ((srcAt 3).set F.PK_DIS.IDIS_LIM 60).get F.PK_DIS.IDIS_LIM = 60 := by
  decide

/-! ### Type-C ports and USB PD -/

/-- Port 0: attach state att, exchange ex, a contract of kind 1 (PPS) in force, PD_EN 1, its PHY on. -/
def pt (att : Nat) (ex : PdEx) : State :=
  (((((r0.set (domStat 72) 1).set (F.PD_STAT.ATTACH 0) att).set (F.PD_STAT.CONTRACT 0) 1).set (F.PD_STAT.KIND 0) 1).set
    (F.PD_CFG.PD_EN 0) 1).modPort 0 fun h => { h with ex := ex, pend := some { pos := 1, kind := 0, v := 500000, i := 1000000 } }
/-- Port 0 unattached, its channel resolved to role r of Table 14-1. -/
def role (r : Word) : State := ((r0.set (domStat 72) 1).wr (R.MD_RES 0) (r <<< 30))

theorem witness_AttachAndDetach : (role 3).wf = true ∧ (role 3).pdRole 0 = 3 ∧ (role 1).pdRole 0 = 1 ∧ r0.pdRole 0 = 0 ∧
    (role 3).attach 0 = 0 ∧ ((role 3).port 0).errRec = false ∧ ((role 3).port 0).rpOn = false ∧ (2 : Fin 3).val < 3 ∧
    (pt 2 .idle).attach 0 ≠ 0 ∧ ((r0.modPort 7 fun h => { h with errRec := true }).port 7).errRec = true := by decide

theorem witness_CapabilitiesGoOut : (pt 2 .idle).wf = true ∧ (pt 2 .idle).attach 0 = 2 ∧ (pt 2 .idle).is (F.PD_STAT.CONTRACT 0) = true ∧
    ((pt 2 .idle).set (F.PD_STAT.CONTRACT 0) 0).get (F.PD_STAT.CONTRACT 0) = 0 ∧ (pt 1 .idle).attach 0 = 1 ∧
    (pt 1 .idle).is (F.PD_CFG.PD_EN 0) = true ∧ ((pt 1 .idle).port 0).ex = .idle ∧ (r0.set (F.PD_CFG.PD_EN 0) 0).is (F.PD_CFG.PD_EN 0) = false ∧
    ((pt 1 .idle).modPort 0 fun h => { h with resend := true, epr := true }).wf = true ∧ (r0.wr (R.PD_SRC_PDO 0 0) 0).advSpr 0 = [] ∧ r0.advSpr 0 ≠ [] ∧
    ((pt 1 .idle).set (F.PD_STAT.CONTRACT 0) 0).is (F.PD_STAT.CONTRACT 0) = false ∧ ((pt 1 .idle).port 0).epr = false := by decide

theorem witness_SourceTransitions : ((pt 1 .srcWait).port 0).pend = some { pos := 1, kind := 0, v := 500000, i := 1000000 } ∧
    ((pt 1 .srcWait).port 0).ex = .srcWait ∧ ((pt 1 .srcRamp).port 0).ex = .srcRamp ∧ (pt 1 .srcRamp).pdInBand 0 500000 = false ∧
    (((pt 1 .srcRamp).wr (R.RG_TGT 0) 500000).wr64 (R.MS_V_LO 0) (R.MS_V_HI 0) 5000000000).pdInBand 0 500000 = true ∧
    (pt 1 .srcRamp).wf = true ∧ (1 : Nat) < 16 ∧ (0 : Nat) < 8 := by decide

/-- Port 0 advertises 5 V at 3 A, and the gang of its channel is rated for it. -/
def offering : State :=
  (((pt 1 .idle).modPort 0 fun h => { h with adv := [0x0001912C] }).wr (R.PS_RATING 0) 0xFFFFFFFF)

theorem witness_RequestEvaluation : (offering.advAt 0 1).bind pdoOf = some { kind := 0, vmin := 5000, vmax := 5000, i := 3000, p := 15000 } ∧
    (offering.advAt 0 0).bind pdoOf = none ∧
    (requestOf { kind := 0, vmin := 5000, vmax := 5000, i := 3000, p := 15000 } 0x1001912C).2.2 = true ∧
    (requestOf { kind := 0, vmin := 5000, vmax := 5000, i := 3000, p := 15000 } 0x1004B52D).2.2 = false ∧
    offering.is (F.PD_CFG.WAIT_EN 0) = true ∧ (offering.set (F.PD_CFG.WAIT_EN 0) 0).is (F.PD_CFG.WAIT_EN 0) = false := by decide

theorem witness_PdTimeouts : ((pt 1 (.caps true)).port 0).ex = .caps true ∧ ((pt 1 .get).port 0).ex = .get ∧
    ((pt 1 .idle).port 0).ex = .idle ∧ (pt 1 .idle).get (F.PD_STAT.KIND 0) = 1 ∧ (pt 1 .idle).attach 0 = 1 ∧
    (((pt 1 .idle).modPort 0 fun h => { h with epr := true }).port 0).epr = true ∧ r0.attached 0 = false ∧
    ((pt 1 .prSrcRdy).port 0).ex = .prSrcRdy ∧ ((pt 1 .hard).port 0).ex = .hard ∧ (pt 4 .hard).attach 0 = 4 ∧
    (r0.ch (portCh 0)).disch = false ∧ (pt 2 .idle).attach 0 = 2 := by decide

theorem witness_SinkKeepsItsContract : ((pt 2 .idle).port 0).pend.isSome = true ∧ (pt 2 .idle).is (F.PD_STAT.WAITING 0) = false ∧
    ((pt 2 .waiting).set (F.PD_STAT.WAITING 0) 1).is (F.PD_STAT.WAITING 0) = true ∧
    ((pt 2 .waiting).port 0).tries < ((pt 2 .waiting).set (F.PD_RETRY.COUNT 0) 1).get (F.PD_RETRY.COUNT 0) ∧
    ¬ ((pt 2 .waiting).port 0).tries < ((pt 2 .waiting).set (F.PD_RETRY.COUNT 0) 0).get (F.PD_RETRY.COUNT 0) ∧
    State.pdCurMsg ({ (pt 2 .vdm).modPort 0 fun h => { h with cur := some (.thread 0 0) } with
      ops := [{ who := .thread 0 0, unit := .hub, kind := .pdSend 0 [0] }] }) 0 = msgOf [0] ∧ (msgOf [0]).isSome = true ∧
    r0.attached 0 = false ∧ (pt 2 .idle).attached 0 = true ∧ ((pt 2 .idle).port 0).cur = none := by decide

theorem witness_SwapsAndVconn : ((pt 1 .prSnkUp).port 0).ex = .prSnkUp ∧ (pt 1 .idle).is (F.PD_STAT.VCONN_ON 0) = false ∧
    ((pt 1 .idle).set (F.PD_STAT.VCONN_ON 0) 1).is (F.PD_STAT.VCONN_ON 0) = true ∧ ((pt 1 .prSrcWait).port 0).ex = .prSrcWait ∧
    ((pt 1 .prSrcOff).port 0).ex = .prSrcOff := by decide

theorem witness_ReceivedMessages : r0.attached 0 = false ∧ r0.attach 0 ≠ 3 ∧ (pt 1 .idle).attached 0 = true ∧
    ((pt 1 .idle).port 0).rev2 = false ∧ ((pt 1 .idle).port 0).rxq.length < 8 ∧
    8 ≤ (((pt 1 .idle).modPort 0 fun h => { h with rxq := List.replicate 8 (ctlMsg ctlPing) }).port 0).rxq.length ∧
    (pt 1 .idle).is (F.PD_CFG.DRS_EN 0) = false ∧ (pt 1 .idle).wf = true ∧ ((pt 1 .idle).port 0).bist = false ∧
    (((pt 1 .idle).modPort 0 fun h => { h with bist := true }).port 0).bist = true ∧ bitsOf (0x80000000 : Word) 31 28 = 8 := by decide

theorem witness_PdReports : (r0.port 0).answers = [] ∧ ((r0.modPort 0 fun h => { h with answers := [1] }).port 0).answers = 1 :: [] ∧
    ((pt 1 .vdm).port 0).ex = .vdm ∧ ((pt 1 .eprCable).port 0).ex = .eprCable ∧ (pt 1 .idle).domOn 72 = true ∧
    ((pt 0 .idle).set (F.PD_BC.MODE 0) 4).get (F.PD_BC.MODE 0) = 4 ∧ (pt 0 .idle).get (F.PD_BC.MODE 0) ≠ 4 ∧
    1 ≤ (1 : Fin 8).val ∧ (3 : Fin 8).val ≤ 3 := by decide

/-! ### Fabric and chain -/

/-- Link 0 is UP on sixteen lanes. -/
def linked : State := r0.setLink 0 2 (List.range 16)

theorem witness_FabricLanes : linked.wf = true ∧ linked.linkDown 0 = false ∧ (r0.setLink 6 0 []).linkDown 6 = true ∧
    linked.laneGood 0 15 = true ∧ State.laneGood { r0 with laneBad := [(0, 15)] } 0 15 = false ∧
    (∀ k < 17, linked.ltRuns 2 (17 * 0 + k) = false) ∧ 15 ∈ linked.activeLanes 0 ∧ 16 ∉ linked.activeLanes 0 ∧
    linked.get (F.FAB_LINK_STAT.STATE 0) = 2 ∧ linked.get (F.FAB_LINK_STAT.SPARE_USED 0) = 0 ∧ linked.laneGood 0 16 = true := by decide

theorem witness_LinkRetrains : (r0.setLink 0 0 []).linkDown 0 = true ∧ 8 ≤ (8 : Fin 17).val ∧ (7 : Fin 17).val < 8 ∧
    16 ≤ (r0.lanesFrom 0 0).length ∧ linked.linkDown (0 : Fin 7) = false ∧ (State.lanesFrom { r0 with laneBad := (List.range 10).map fun i => (0, i) } 0 0).length < 8 := by decide

theorem witness_CreditsKeepTheirBooks : ({ flight := 31, occ := 1 } : Book).flight + 1 + 0 ≤ bookDepth (linkKey 0 0 0) ∧
    ({ flight := 32 } : Book).credits (linkKey 0 0 0) = 0 ∧ ({} : Book).credits (linkKey 0 0 0) ≠ 0 ∧ linked.linkDown 0 = false ∧
    (r0.setLink 0 0 []).linkDown 0 = true := by decide

/-- The chain is enabled and its domain on; port d in state n. -/
def chained (d : Fin 2) (n : Nat) : State :=
  (((r0.set F.CHN_CFG.EN 1).set (domStat 95) 1).set (F.CHN_PORT.PSTATE d) n).set F.GLB_PINS.READY 1
/-- Both ports in service in a closed ring, where r is the state of the ring. -/
def ring (r : Nat) : State := ((chained 0 3).set (F.CHN_PORT.PSTATE 1) 3).set F.CHN_STAT.RSTATE r

theorem witness_ChainPorts : (chained 0 0).wf = true ∧ (chained 0 0).chainUp = true ∧ (chained 0 0).portTested 0 = false ∧
    (chained 0 0).get (F.CHN_PORT.PSTATE 0) = 0 ∧ (chained 0 2).get (F.CHN_PORT.PSTATE 0) = 2 ∧ r0.is F.GLB_PINS.READY = false ∧
    (chained 0 2).is F.GLB_PINS.READY = true ∧ (chained 0 2).get (F.CHN_PORT.PSTATE 1) < 3 ∧
    ((chained 0 2).set (F.CHN_PORT.PSTATE 1) 3).get (F.CHN_PORT.PSTATE 1) = 3 ∧ (ring 3).get F.CHN_STAT.RSTATE = 3 ∧
    r0.chainUp = false ∧ (ring 2).get (F.CHN_PORT.PSTATE 0) = 3 ∧ (ring 2).get (F.CHN_PORT.PSTATE 1) = 3 := by decide

theorem witness_LocksAndEpochs : (ring 2).chainUp = true ∧ (ring 2).is F.CHN_STAT.MASTER = false ∧ (ring 2).get F.CHN_STAT.RSTATE = 2 ∧
    (chained 0 0).get (F.CHN_PORT.PSTATE 1) = 0 ∧ (chained 0 0).get F.CHN_STAT.RSTATE ≠ 4 ∧ (chained 0 0).get F.CHN_STAT.RSTATE ≠ 5 ∧
    (ring 4).leads = true ∧ (ring 2).leads = false ∧ (ring 4).get F.CHN_STAT.RSTATE = 4 ∧
    ((ring 2).set F.CHN_STAT.MASTER 1).is F.CHN_STAT.MASTER = true ∧ (ring 2).chain.relock = false ∧ (ring 2).tb.chainAcq = false ∧
    (ring 2).wf = true := by decide

theorem witness_StepRecords : (ring 2).chain.recs = [] ∧ (0 : Nat) + 100000 * (ring 2).chain.lat < 2 ^ 64 ∧
    ({ ring 2 with chain := { recs := [{ stamp := 0, jump := false }] } } : State).chain.recs = { stamp := 0, jump := false } :: [] ∧
    (ring 2).get F.TB_CTRL.SRC ≠ 4 ∧ ((ring 2).set F.TB_CTRL.SRC 4).get F.TB_CTRL.SRC = 4 ∧ (ring 2).tb.held = false ∧
    0 + 100000 * (ring 2).chain.lat ≤ (ring 2).ctime := by decide

theorem witness_SlackAndHoldover : (∀ c : Fin 24, (ring 3).is (F.MS_SWP_CTRL.RUN c) = false) ∧ (ring 3).get F.CHN_STAT.RSTATE = 3 ∧
    (ring 4).get F.CHN_STAT.RSTATE = 4 ∧ r0.chain.slew = 0 ∧ ({ ring 4 with chain := { slew := -1 } } : State).chain.slew ≠ 0 ∧
    ((ring 2).set F.CHN_STAT.MASTER 1).is F.CHN_STAT.MASTER = true ∧ (ring 1).get F.CHN_STAT.RSTATE ≠ 2 := by decide

theorem witness_FramesAndPeers : ((0 : BitVec 16).toNat + 65536 - r0.lastSeq 15 3) % 65536 = 0 ∧
    ((32767 : BitVec 16).toNat + 65536 - r0.lastSeq 15 0) % 65536 = 32767 ∧ 32767 < ((32768 : BitVec 16).toNat + 65536 - r0.lastSeq 15 0) % 65536 ∧
    (ring 2).chainUp = true ∧ r0.chainUp = false := by decide

/-! ### Host ports, HDP, device time and the two-wire interfaces -/

/-- Host port 0 is enabled and its link up. -/
def hosted : State := ((r0.set (F.HST_STAT.LINK 0) 1).set (F.HST_CFG.EN 0) 1).set (domStat 94) 1
/-- An HDP datagram at port 0 for the session w. -/
def dg (w : Word) : HdpDgram := { port := 0, peer := 7, frag := none, udp := r0.get F.HST_HDP.UDP_PORT, sound := true, session := w, seq := 5, ack := 0, payload := [] }
/-- A session open in slot 3. -/
def sessOne : Session := { id := 0x13, udp := r0.get F.HST_HDP.UDP_PORT, peers := [some 7, none], port := 0, openBy := 7, openSeq := 4, openAt := 0
                           first := 0, rx := 5, tx := 0 }
def opened : State := hosted.setSess 3 (some sessOne)

theorem witness_HostLinks : hosted.wf = true ∧ hosted.linkOf 0 = true ∧ hosted.linkOf 1 = false ∧
    (hosted.wr (R.HST_IP4 0) 1).is (F.HST_IP4.ADDR 0) = true ∧ hosted.is (F.HST_IP4.ADDR 0) = false := by decide

theorem witness_StrayDatagrams : hosted.hears 0 7 = true ∧ (7 : Nat) % 2 = 1 ∧ (dg 0).frag = none ∧ r0.linkOf (dg 0).port = false ∧ hosted.linkOf (dg 0).port = true ∧ (dg 0).udp = hosted.get F.HST_HDP.UDP_PORT ∧
    { dg 0 with udp := 1 }.udp ≠ hosted.get F.HST_HDP.UDP_PORT ∧ hosted.sessions[(3 : Fin 16)] = none ∧ hosted.sess? 0x13 = none ∧
    hosted.closedFor 0x13 = none ∧ State.closedFor { hosted with closed := [(0x13, 2)] } 0x13 = some 2 ∧ (dg 1).session ≠ 0 := by decide

/-- A fragment at offset o, with more to come where m. -/
def frag (o : Nat) (m : Bool) : IpFrag := { id := 9, off := o, more := m, bytes := List.replicate 8 0 }

theorem witness_FragmentsJoin : { dg 0 with frag := some (frag 0 true) }.frag = some (frag 0 true) ∧ hosted.linkOf (dg 0).port = true ∧
    (∀ r ∈ hosted.reasm, ¬ (r.port = (dg 0).port.val ∧ r.peer = 7 ∧ r.id = 9)) ∧ hosted.reasm.length < 64 ∧
    (frag 0 true).off + (frag 0 true).bytes.length ≤ 9216 ∧ (frag 0 false).more = false ∧ (frag 0 true).bytes.length % 8 = 0 ∧
    9216 < (frag 9216 true).off + (frag 9216 true).bytes.length ∧ r0.linkOf (dg 0).port = false := by decide

theorem witness_SessionsOpen : opened.hears 0 7 = true ∧ opened.wf = true ∧ (dg 0).session = 0 ∧ 0 < opened.get F.HST_HDP_TMR.WIN ∧ sessOne.openSeq ≠ (dg 0).seq ∧
    opened.sessions[(4 : Fin 16)] = none ∧
    (∀ i : Fin 16, ({ opened with sessions := Vector.replicate 16 (some sessOne) } : State).sessions[i] ≠ none) := by decide

theorem witness_SessionTraffic : opened.sess? 0x13 = some sessOne ∧ sessOne.waits = [] ∧ sessOne.held = [] ∧ opened.mssDown = false ∧
    opened.linkOf 0 = true ∧ opened.wf = true ∧ 2 ^ 31 ≤ ((4 : Word) - 5).toNat ∧
    opened.get F.HST_HDP_TMR.WIN ≤ ((0x1000 : Word) - 5).toNat ∧ ((0x1000 : Word) - 5).toNat < 2 ^ 31 := by decide

theorem witness_SessionTimers : r0.sessions[(15 : Fin 16)] = none ∧ opened.sessions[(3 : Fin 16)] = some sessOne ∧ sessOne.unacked = [] ∧
    { sessOne with unacked := [{ kind := 5, seq := 0, body := .none }] }.unacked ≠ [] ∧ opened.rings = [] ∧
    (opened.set F.HST_HDP_TMR.WIN 1).get F.HST_HDP_TMR.WIN ≤
      { sessOne with unacked := [{ kind := 5, seq := 0, body := .none }] }.unacked.length := by decide

/-- Ring 2 with three records that session 3 has not been sent. -/
def streaming : State := { opened with rings := [{ num := 2, base := 0x10E00000, size := 16, slots := 8, tail := 3, sub := some (.session 3, 1) }] }

theorem witness_StreamingSends : streaming.sessions[(3 : Fin 16)] = some sessOne ∧
    (streaming.rings.find? fun g => (g.sub.map (·.1) == some (Requester.session 3)) && g.sent != g.tail) =
      some { num := 2, base := 0x10E00000, size := 16, slots := 8, tail := 3, sub := some (.session 3, 1) } ∧
    sessOne.unacked.length < streaming.get F.HST_HDP_TMR.WIN := by decide

/-- The 1588 clock is enabled on port 0, in state st. -/
def ptp (st : Nat) : State := (hosted.set F.PTP_CFG.EN 1).set F.PTP_STAT.STATE st

theorem witness_DeviceTimeFollows : r0.ptpUp = false ∧ (ptp 1).ptpUp = true ∧ (ptp 3).get F.PTP_STAT.STATE = 3 ∧ (ptp 2).wf = true ∧
    (ptp 1).get F.PTP_CFG.STEP_THR * 10000 < ((-1000000000 : Int)).natAbs ∧ ((0 : Int)).natAbs ≤ (ptp 1).get F.PTP_CFG.STEP_THR * 10000 ∧
    ((ptp 1).set F.PTP_CFG.SLAVE_ONLY 1).is F.PTP_CFG.SLAVE_ONLY = true ∧ ((ptp 1).set F.PTP_CFG.SLAVE_ONLY 0).is F.PTP_CFG.SLAVE_ONLY = false ∧
    (r0.set F.PTP_CFG.EN 0).is F.PTP_CFG.EN = false := by decide

/-- The mailbox is in state m, with an alert pending. -/
def mbx (m : Nat) : State :=
  (((r0.set F.TW_STAT.MBX m).set F.TW_STAT.ALERT_PEND 1).set F.TW_ALERT.EN 1).set F.TW_STAT.ALERT_LEFT 2

theorem witness_MailboxTarget : r0.boot.por = false := by decide

theorem witness_MailboxCommands : (mbx 1).wf = true ∧ (mbx 1).get F.TW_STAT.MBX ≠ 0 ∧ (mbx 0).get F.TW_STAT.MBX = 0 ∧
    (mbx 2).get F.TW_STAT.MBX = 2 ∧ (mbx 2).twm.notices = [] ∧
    ((mbx 2).modTwm fun t => { t with notices := [{ rq := .twm, code := 0, tag := 0, flags := 0, body := [] }] }).twm.notices ≠ [] := by decide

theorem witness_Alerts : (mbx 0).is F.TW_STAT.ALERT_PEND = true ∧ (mbx 0).is F.TW_ALERT.EN = true ∧ (mbx 0).twm.stuck = false ∧
    (mbx 0).twm.tries = 0 ∧ ((mbx 0).modTwm fun t => { t with tries := 1 }).twm.tries ≠ 0 ∧
    (mbx 0).get F.TW_STAT.ALERT_LEFT - 1 ≠ 0 ∧ ((mbx 0).set F.TW_STAT.ALERT_LEFT 1).get F.TW_STAT.ALERT_LEFT - 1 = 0 ∧
    r0.is F.TW_STAT.ALERT_PEND = false := by decide

theorem witness_TwoWireControllers : canWrite .twm R.TW_CTRL = true ∧ canWrite .twm (R.TWN_CTRL 2) = true ∧ bitsOf (0x60000000 : Word) 30 29 = 3 ∧
    32 < bitsOf (0x00002100 : Word) 13 8 ∧ 32 < bitsOf (0x00000021 : Word) 5 0 ∧ bitOf (0x80000000 : Word) 31 = true ∧
    (r0.set (F.TWN_STAT.BUSY 2) 1).is (F.TWN_STAT.BUSY 2) = true ∧ r0.is (F.TWN_STAT.BUSY 2) = false ∧
    r0.is F.TW_STAT.ALERT_PEND = false ∧ r0.twm.stuck = false ∧ (r0.modTwm fun t => { t with stuck := true }).twm.stuck = true ∧
    bitsOf (0x80002020 : Word) 13 8 = 32 ∧ bitsOf (0x80002020 : Word) 5 0 = 32 := by decide

/-! ### Faults -/

/-- A report of src waits, on its way where hub is false. -/
def reported (src : Nat) (hub : Bool) : State := { r0 with reports := [{ src := src, cond := 1, atHub := hub }] }

theorem witness_ReportsReachTheHub : srcLink 376 = none ∧ srcLink 0 = some 0 ∧ r0.linkDown 0 = false ∧
    (r0.setLink 0 0 []).linkDown 0 = true ∧ (r0.setLink 6 0 []).linkDown (6 : Fin 7) = true := by decide

theorem witness_CollectorTakesReports : (∀ x ∈ (reported 0 false).reports, x.atHub = false) ∧
    (reported 0 true).reports.find? (fun x => x.atHub) = some { src := 0, cond := 1, atHub := true } ∧ (reported 0 true).collDead = false ∧
    State.collDead { r0 with collDead := true } = true ∧ r0.reacting (fenceDomain 0) = false ∧
    (reported 0 true).stale { src := 0, cond := 1 } = false := by decide

theorem witness_AcceptedReports : (condOf 10 1 0).2.2 = 0 ∧ r0.wf = true ∧ r0.suspects.contains 10 = false ∧ (10 < 384) ∧ (condOf 10 1 0).1 < 4 := by
  decide

theorem witness_ReactionsComplete :
    let s : State := { r0 with reacts := [{ domain := 159, code := 1, rep := { src := 0, cond := 1 } }] }
    s.reacts.find? (fun y => y.domain == (159 : Fin 160).val) = some { domain := 159, code := 1, rep := { src := 0, cond := 1 } } ∧
    (∀ y ∈ r0.reacts, y.domain ≠ 0) ∧ (∀ y ∈ s.reacts, y.domain ≠ 0) ∧ (∀ a ∈ r0.asserts, a.recorded = true) := by decide

theorem witness_SuspectsAndHalves : State.suspects { r0 with suspects := [383] } = [383] ∧ r0.suspects = [] ∧
    r0.get F.FLT_STAT.HALF_0 = 0 ∧ r0.get F.FLT_STAT.HALF_1 = 0 ∧ (r0.set F.FLT_STAT.HALF_1 1).get F.FLT_STAT.HALF_1 ≠ 0 := by decide

theorem witness_SummariesAndTrips : canWrite .twm (R.FLT_SUM 11) = true ∧ canWrite .dbg R.FLT_CHCLR = true ∧
    ((chS fun h => { h with trip := 2, latchRd := true }).ch 0).trip ≠ 0 ∧ ((chS fun h => { h with trip := 2, latchRd := true }).ch 0).latchRd = true ∧
    (i64 (r0.rd64 (R.MS_I_LO 0) (R.MS_I_HI 0))).natAbs < 1000000000000 ∧ (r0.ch 23).trip = 0 ∧
    ((chS fun h => { h with trip := 2 }).ch 0).latchRd = false := by decide

theorem witness_ForcedFaults : canForce .dbg = true ∧ (condOf 0 1 0).2.1 = false ∧ (condOf 338 3 0).2.1 = true ∧
    r0.get ⟨R.FLT_HELD (383 / 32), 383 % 32, 383 % 32⟩ = 0 ∧
    (r0.set ⟨R.FLT_HELD (383 / 32), 383 % 32, 383 % 32⟩ 1).get ⟨R.FLT_HELD (383 / 32), 383 % 32, 383 % 32⟩ = 1 ∧ r0.wf = true := by decide

theorem witness_ClocksFail : (7, 0) ∉ r0.pllBad ∧ (7, 0) ∈ ({ r0 with pllBad := [(7, 0), (7, 1)] } : State).pllBad ∧ 1 ∉ r0.refBad ∧
    1 ∈ ({ r0 with refBad := [1] } : State).refBad := by decide

/-! ### Management, temperature, watchdog, log -/

theorem witness_CoresAndSupervisors : r0.core = 0 ∧ r0.get F.MSS_STAT.CORE0 ≠ 2 ∧ r0.get F.MSS_STAT.CORE1 ≠ 2 ∧
    (r0.set F.MSS_STAT.CORE1 2).get F.MSS_STAT.CORE1 = 2 ∧ (r0.set (F.SUP_STAT.STATE 0) 4).get (F.SUP_STAT.STATE 0) = 4 ∧
    (r0.set (F.SUP_STAT.STATE 0) 0).get (F.SUP_STAT.STATE 0) ≠ 4 ∧
    (r0.set (F.SUP_STAT.STATE 0) 1).get (F.SUP_STAT.STATE 0) = 1 ∧ r0.upd.resets = [] ∧ r0.linkDown 5 = false := by decide

theorem witness_HousekeepingRounds : (5 : Fin 7).val < 6 ∧ r0.domOn (96 + 5) = false ∧ allOn.domOn (96 + 5) = true ∧
    (allOn.set (F.SUP_STAT.STATE 5) 0).get (F.SUP_STAT.STATE 5) < 2 ∧
    2 ≤ (allOn.set (F.SUP_STAT.STATE 5) 3).get (F.SUP_STAT.STATE 5) ∧ 0 < sensorCount 6 ∧ ([-32768] : List Int)[0]? = some (-32768) ∧
    allOn.wf = true := by decide

/-- Sector 0 has substituted sensor 23, which has agreed n times. -/
def subst (n : Nat) : State :=
  { r0 with sectors := r0.sectors.set 0 { subs := [23], good := List.replicate 23 0 ++ [n] } }

theorem witness_SensorsCrossChecked : ((r0.sectors[(6 : Fin 7)]).subs = []) ∧ (subst 999).sectors[(0 : Fin 7)].good.getD 23 0 < 1000 ∧
    1000 ≤ (subst 1000).sectors[(0 : Fin 7)].good.getD 23 0 ∧ 23 ∈ (subst 1000).sectors[(0 : Fin 7)].subs := by decide

theorem witness_ThermalLevels : (150 : Rat) ≤ 150 ∧ (140 : Rat) ≤ 140 ∧ (140 : Rat) < 150 ∧ (125 : Rat) ≤ 125 ∧ (125 : Rat) < 140 ∧
    (115 : Rat) ≤ 115 ∧ (115 : Rat) < 125 ∧ (114 : Rat) < 115 ∧ (1 : Rat) / 10 ≤ 1 / 10 ∧ (0 : Rat) < 1 / 10 := by decide +kernel

/-- Sector q at level n. -/
def heat (q : Fin 7) (n : Nat) : State := r0.set (F.THM_STAT.LEVEL q) n

theorem witness_ThermalSteps : (heat 6 2).wf = true ∧ (heat 6 2).get (F.THM_STAT.LEVEL 6) = 2 ∧ (heat 6 2).get (F.THM_STAT.LEVEL 6) ≠ 3 ∧
    r0.get (F.THM_STAT.LEVEL 0) = 0 := by decide

theorem witness_ThermalReleases : (heat 0 3).get (F.THM_STAT.LEVEL 0) = 3 ∧ ((heat 0 3).sectors[(0 : Fin 7)]).cRes < 10000 ∧
    (let s : State := { heat 0 1 with sectors := r0.sectors.set 0 { cRes := 10000, c120 := 1000, c110 := 1000 } }
     s.levelLeft 0 < s.get (F.THM_STAT.LEVEL 0) ∧ s.get (F.THM_STAT.LEVEL 0) < 3 ∧ s.is (F.THM_STAT.RATE 0) = false ∧
     1000 ≤ s.sectors[(0 : Fin 7)].c110) ∧ r0.get (F.THM_STAT.LEVEL 0) ≤ r0.levelLeft 0 ∧
    (heat 0 2).sectors[(0 : Fin 7)].c120 < 1000 := by decide

theorem witness_ThrottlePauses : r0.issueOwed = false ∧ (rdy.modThr 0 fun h => { h with owed := true }).issueOwed = true ∧ (heat 6 1).get (F.THM_STAT.LEVEL 6) < 2 ∧ 2 ≤ (heat 6 2).get (F.THM_STAT.LEVEL 6) ∧ (heat 6 2).pausedIn 6 = false ∧
    State.pausedIn { r0 with paused := [(6, 1)] } 6 = true ∧ (r0.setThrState 0 1 0).thrState 0 = 1 ∧ r0.thrState 63 ≠ 1 := by decide

theorem witness_Watchdog : canWrite .twm R.WDT_CTRL = true ∧ (r0.set F.WDT_CTRL.RUN 1).is F.WDT_CTRL.RUN = true ∧ r0.is F.WDT_CTRL.RUN = false ∧
    bitsOf (0xFFFF5AC3 : Word) 15 0 = 0x5AC3 ∧ bitsOf (0 : Word) 15 0 ≠ 0x5AC3 ∧ (∀ k, Requester.twm ≠ .mss k) ∧
    (r0.set F.WDT_CTRL.MODE 1).is F.WDT_CTRL.MODE = true ∧ r0.is F.WDT_STAT.SUSP = false ∧ (r0.set F.WDT_STAT.SUSP 1).is F.WDT_STAT.SUSP = true ∧
    r0.core < 2 ∧ (r0.set F.WDT_CTRL.MODE 0).is F.WDT_CTRL.MODE = false := by decide

theorem witness_LogPages :
    let l : List LogRec := [{ seq := 3072, kind := 2, data := [] }, { seq := 3073, kind := 2, data := [] }, { seq := 3074, kind := 2, data := [] },
      { seq := 3075, kind := 2, data := [] }]
    let s : State := { r0 with logBuf := l }
    r0.nor.wait = false ∧ ({ r0 with nor := { wait := true } } : State).nor.wait = true ∧
    r0.logBuf.length < 4 ∧ 4 ≤ s.logBuf.length ∧ s.mssDown = false ∧ (∀ r ∈ ({ s with logBuf := l.drop 1 ++ l.drop 3 } : State).logBuf.take 4, r.seq % 4096 ≠ 3072) ∧
    (3072 : Nat) % 4096 = 3072 ∧ 3 ≤ (l.drop 1).length ∧ s.nor.erase = none ∧ s.is F.WDT_CTRL.RUN = false ∧
    ({ r0 with nor := { erase := some 63 } } : State).nor.erase = some 63 ∧ (r0.set F.LOG_CFG.TELEM 1).is F.LOG_CFG.TELEM = true ∧
    (r0.set F.LOG_CFG.TELEM 0).is F.LOG_CFG.TELEM = false := by decide

/-! ### Power-up, boot, resets, link tests -/

theorem witness_PowerOnAndResetPin : 20000 ≤ max 0 (max 20000 0) ∧ max 19999 (max 0 0) < 20000 ∧ r0.boot.por = false ∧
    ({ r0 with boot := { r0.boot with por := true } } : State).boot.por = true ∧
    (let s := (r0.set (F.CG_V_PRE.VALUE 24) 100).set (F.CG_V_CV.VALUE 24) 5000
     (s.get (F.CG_V_PRE.VALUE 24) : Int) < s.get (F.CG_V_CV.VALUE 24) ∧ ((1 : Nat) * 100 : Int) ≤ s.get (F.CG_V_PRE.VALUE 24) ∧
     (s.get (F.CG_V_CV.VALUE 24) : Int) ≤ ((50 : Nat) * 100 : Int) ∧ s.wf = true) := by decide

/-- Boot is in step n. -/
def booting (n : Nat) : State := r0.set F.BOOT_STAT.STEP n

theorem witness_ResetIsReleased : r0.wf = true ∧ r0.bootStep = 0 ∧ (booting 8).bootStep ≠ 0 ∧ r0.boot.wdtSw = false := by decide

theorem witness_BootSteps : r0.bootStep = 0 ∧ (booting 8).bootStep = 8 ∧ (booting 6).bootStep = 6 ∧ (booting 6).bootBusy = true ∧
    State.bootBusy { booting 6 with boot := { r0.boot with drain := false } } = false ∧ (booting 7).mgtSet = true ∧
    ({ ok := true, banks := [2] } : BootFind).banks = [2] ∧ r0.nor.marked = [] ∧ (∀ b < 8, r0.domFenced (82 + b) = false) ∧
    r0.house.started = false ∧ (chained 1 1).get (F.CHN_PORT.PSTATE 1) = 1 ∧ (chained 1 0).get (F.CHN_PORT.PSTATE 1) ≠ 1 ∧
    (booting 7).wf = true := by decide

theorem witness_ResetRequests : canWrite .twm R.RST_CTRL = true ∧ canWrite (.thread 0) R.RST_CTRL = false ∧ r0.boot.pendDev = none ∧
    ({ r0 with boot := { r0.boot with pendDev := some 4 } } : State).boot.pendDev = some 4 ∧ r0.stopped = true ∧
    ((chS fun h => { h with disch := true }).stopped = false) ∧ r0.wf = true := by decide

theorem witness_LinkTestControl : canWrite .twm (R.LT_CTRL 3 130) = true ∧ ltCount 3 ≤ 131 ∧ ltAdmits 3 1 = false ∧ ltAdmits 0 5 = false ∧
    ltAdmits 3 4 = true ∧ 5 < bitsOf (0x00600000 : Word) 23 20 ∧ r0.ltRuns 3 119 = false ∧
    (r0.set (F.LT_STAT.RUN 0 1) 1).ltRuns 0 1 = true ∧ (ring 3).ltPermit 0 0 false = false ∧ (ring 2).ltPermit 0 0 false = true ∧
    r0.ltPermit 3 119 true = true ∧ bitOf (0x80000000 : Word) 28 = false ∧ bitsOf (0x80000000 : Word) 31 29 = 4 ∧ 119 % 20 = 19 ∧
    115 % 20 < 16 ∧ r0.ltPermit 3 115 true = true ∧ r0.ltRuns 3 115 = false := by decide

theorem witness_CheckersAndTap : ltCount 1 ≤ 2 ∧ 1 < ltCount 1 ∧ (r0.set (F.LT_STAT.LOCK 1 1) 1).is (F.LT_STAT.LOCK 1 1) = true ∧
    (r0.set (F.LT_CTRL.MODE 1 1) 3).get (F.LT_CTRL.MODE 1 1) = 3 ∧ r0.is (F.LT_STAT.LOCK 1 1) = false ∧ r0.get (F.LT_CTRL.PAT 1 1) ≠ 5 ∧
    (r0.set (F.LT_STAT.RUN 1 1) 1).ltRuns 1 1 = true ∧ r0.boot.prov = false ∧ ({ r0 with boot := { r0.boot with prov := true } } : State).boot.prov = true ∧
    5 < (6 : BitVec 8).toNat := by decide

/-- R509: IDCODE reads version 3, part 0x2460 and manufacturer code 0x269. -/
theorem test_idcode : idCode.toNat = 3 * 2 ^ 28 + 0x2460 * 2 ^ 12 + 0x269 * 2 + 1 := by decide

/-! ### Register access -/

theorem witness_ReservedWords : mapped 0x8FFFC = true ∧ regDef? 0x8FFFC = none ∧ canWrite .twm 0x8FFFC = true ∧ r0.unitBusy m0 0x8FFFC = false ∧
    (gw r0 2 0x8FFFC).runs m0 = true ∧ ((gw r0 2 0x8FFFC).g m0 2 + (0 : BitVec 16).signExtend 32).toNat = 0x8FFFC := by decide

theorem witness_UnmappedAccess : mapped 0x90000 = false ∧ mapped 0x400000 = false ∧ 0x90000 % 4 = 0 ∧ r0.mayAccess .twm = true ∧ r0.wf = true := by decide

theorem witness_PlainRegisterWrites : r0.ops = [] ∧ ¬ (0x200000 ≤ R.HST_IP4 0 ∧ R.HST_IP4 0 < 0x300000) ∧
    (0x200000 ≤ R.CG_V_CV 0 ∧ R.CG_V_CV 0 < 0x300000) ∧ (r0.opsFirst (regKey (R.CG_V_CV 0)).2).wf = true ∧ (regDef? R.TB_CTRL).isSome = true ∧ r0.mayAccess .twm = true ∧
    (∃ a ∈ [R.HST_IP4 0, R.CG_V_CV 0], mapped a = true ∧ a % 4 = 0 ∧ a < 0x400000 ∧ (regDef? a).isSome = true ∧
      (regDef? a).all (fun d => (r0.act? .twm a d 1).isNone) = true ∧ wholeRefusal (regKey a).1 1 = none ∧
      (∀ r ∈ fldRules (regKey a).1, r.ok 1 = true)) ∧ (∀ t, Requester.twm ≠ .thread t) := by decide

theorem witness_RefusedRegisterWrites : r0.mayAccess .dbg = false ∧ mapped 0 = true ∧ canWrite (.thread 63) 0 = false ∧ (2 : Nat) % 4 ≠ 0 ∧
    wholeRefusal (regKey 0x20408).1 0xFFFFFFFF = some .rej ∧ wholeRefusal (regKey (R.TWN_CTRL 0)).1 0 = none := by decide

theorem witness_SnapshotPairs : isLo 0x18 = true ∧ r0.mayAccess .twm = true ∧ (r0.req .twm).rsh = none ∧
    ((r0.modReq .twm fun q => { q with rsh := some (0x18, 5) }).req .twm).rsh = some (0x18, 5) := by decide

theorem witness_SnapshotGuardsAndClears : r0.mayAccess .dbg = false ∧ isLo 0 = false ∧ canWrite (.thread 0) (R.MS_ACC_CTRL 23) = true := by decide

theorem witness_ProvisioningLock : canWrite .twm R.GLB_PROV_CTRL = true ∧ r0.mayAccess .twm = true ∧ bitsOf (0x50520001 : Word) 31 16 = 0x5052 ∧
    bitOf (0x50520001 : Word) 0 = true ∧ bitsOf (0 : Word) 31 16 ≠ 0x5052 ∧ r0.boot.prov = false ∧ r0.boot.pulses = 0 ∧
    (3 < 4) ∧ (∀ t, Requester.twm ≠ .thread t) := by decide

/-! ### Ulielvi command set -/

/-- The frame of a NOP of tag 1, as the rows of Table 11-3 lay it out. -/
def nopFrame : List Byte := frameBytes { rq := .twm, code := 0, tag := 1, flags := 0, body := [] }
/-- A TBL_ALLOC of tag 2 that waits, or has started. -/
def waiting (on : Bool) : State :=
  { r0 with cmds := [{ rq := .twm, tag := 2, code := 0x0200, flags := 0, body := [64, 16], started := on }] }
/-- A command of a host session. -/
def cm : Cmd := { rq := .twm, tag := 2 }

set_option maxRecDepth 8192 in
theorem witness_FramesReceived_checks : frameFail .twm nopFrame (rxFrame nopFrame) = 0 ∧
    frameFail .twm (nopFrame.drop 1) (rxFrame (nopFrame.drop 1)) ≠ 0 ∧ codeAssigned (rxFrame nopFrame).code = true ∧
    codeAssigned 0xFFFF = false ∧ (rxFrame nopFrame).flags.testBit 3 = false := by decide

theorem witness_FramesReceived_order : r0.mssDown = false ∧ r0.tagOut .twm 1 = false ∧ (waiting false).tagOut .twm 2 = true ∧ r0.ready = false ∧
    (r0.set F.GLB_PINS.READY 1).ready = true ∧ r0.outstandingOf .twm < 32 ∧ r0.outstanding < 128 ∧
    32 ≤ State.outstandingOf { r0 with cmds := List.replicate 32 { rq := .twm, tag := 2, code := 0, flags := 0, body := [] } } .twm := by decide

theorem witness_FrameChecks : (1 : Nat) ≤ 6 := by decide

theorem witness_CommandsStartInOrder : (waiting false).cmds = [] ++ { rq := .twm, tag := 2, code := 0x0200, flags := 0, body := [64, 16] } :: [] ∧
    State.slow ({ waiting false with regs := [] } |>.wr R.UCS_SVC 0) = true ∧ (∀ d ∈ (waiting false).cmds, d.started = false) ∧ (∃ d ∈ (waiting true).cmds, d.started = true) ∧
    (waiting false).wf = true := by decide

theorem witness_CommandsOnServiceThreads :
    let s := ((allOn.wr R.UCS_SVC (1 <<< 31)).setThrState 0 1 0)
    s.slow = false ∧ s.svcFree = [0] ∧ (s.setThrState 0 1 0).mssDown = false := by decide

theorem witness_Takeovers : State.mssDown { r0 with mssDown := true } = true ∧ r0.cmds = [] ∧ r0.heldIn = [] ∧ r0.journal = [] ∧ r0.mssDown = false := by decide

theorem witness_CommandsAreAnswered : (∀ c ∈ (waiting true).cmds, c.names cm = true → c.orphan = false) ∧ 64 < (65 : Nat) ∧
    (waiting true).mssDown = false := by decide

theorem witness_ServiceThreads : canWrite .twm R.UCS_SVC = true ∧ (rdy.isSvc 0 = false) ∧ rdy.thrState 0 ≠ 0 ∧ rdy.thrState 0 ≠ 3 := by decide

/-- No command that has started runs under cm, though one that waits has its tag. -/
theorem witness_TagIdle : ∀ c ∈ (waiting false).cmds, c.names cm = true → c.orphan = false → c.started = false := by decide

theorem witness_SessionCommands : (127 : Word).toNat < 128 ∧ 128 ≤ (128 : Word).toNat ∧ 65536 ≤ (65536 : Word).toNat ∧
    (waiting false).cmds.find? (fun c => c.names cm && !c.orphan) = (waiting false).cmds.head? ∧ r0.cmds = [] := by decide

theorem witness_ChannelCommands : (9 : Word).toNat ≤ 9 ∧ 9 < (10 : Word).toNat ∧ (3 : Word).toNat ≤ 3 ∧ (127 : Word).toNat < 128 ∧
    (0xFFFFFF : Word).toNat < 0x1000000 ∧ (1 : Word) ≠ 0 ∧ 0x1000000 ≤ (0x1000000 : Word).toNat ∧ 24 ≤ (24 : Word).toNat ∧
    (r0.wr R.UCS_SVC 0).slow = true := by decide

/-- One extent of 128 bytes at the start of the tables. -/
def extent : State := { allOn with extents := [(0x10E00000, 128)] }

theorem witness_TableCommands : 12582912 < (12582913 : Word).toNat ∧ r0.lowestSpan 64 = some 0x10E00000 ∧ r0.lowestSpan 12582976 = none ∧
    extent.extents.find? (fun e => e.1 == 0x10E00000) = some (0x10E00000, 128) ∧ extent.extents.find? (fun e => e.1 == 0) = none ∧
    extent.extentUsed (0x10E00000, 128) = false ∧
    (extent.inExtent 0x10E0007C 4).isSome = true ∧ extent.inExtent 0x10E0007D 4 = none ∧
    readLen 4 = true ∧ readLen 4092 = true ∧ readLen 4096 = false ∧ extent.ueSpan 0x10E00000 4 = none ∧ bitOf (3 : Word) 0 = true ∧
    bitOf (3 : Word) 1 = true ∧ 0x7F < (0x80 : Word).toNat ∧ (40 : Word).toNat ≤ 40 ∧ 40 < (41 : Word).toNat ∧
    (presetOf 4).1.getD 4 0 * 100 * 1 ≤ 6000000 := by decide

theorem witness_ProfilesGenerated : 125000000 < (125000001 : Word).toNat ∧ (1 : Nat) % 16 ≠ 0 ∧ profParamsOk (r0.acBand 0) 9 [] = false ∧
    1000000 ≤ (1 : Word).toNat * 1000000 ∧ ((1 : Word).toNat + 2 * (1 : Word).toNat) * 1000000 ≤ 2147483647 * 1000000 ∧
    extent.inExtent 0x10E00000 0 = some (0x10E00000, 128) ∧ 0x10E00000 + 0x30 ≤ 0x10E00000 + 128 ∧ r0.inExtent 0x10E00000 0 = none := by decide

/-- Ring 5, with n records. -/
def ringed (n : Nat) : State := { allOn with rings := [{ num := 5, base := 0x12000000, size := 64, slots := 16, tail := n }] }

theorem witness_SinePoints : ({ dc := 10, pp := 20, f0 := 1000, f1 := 1000, log := false } : Sine).pp ≤ 2 * 10 ∧ 0 < 1000 := by decide

theorem witness_MeasurementCommands : measOk 0 = true ∧ measOk 0x7FF = false ∧ (3 : Word).toNat < 4 ∧ 4 ≤ (4 : Word).toNat ∧ capOk 0 = true ∧
    capOk 0xFFFFFFFF = false ∧ 3 < (4 : Word).toNat ∧ 1 < (2 : Word).toNat ∧ r0.sweepOk (0 / 16 * 16) = false ∧ ringGeom 64 16 = true ∧
    ringGeom 64 17 = false ∧ (4095 : Word).toNat < 4096 ∧ 4096 ≤ (4096 : Word).toNat ∧ r0.ring? 5 = none ∧ ((ringed 1).ring? 5).isSome = true ∧
    (ringed 1).ringNamed 5 = false ∧ ((ringed 1).set (F.MS_CAP_CTRL.RUN 0) 1).wf = true ∧ (ringed 1).bufFenced 0x12000000 (16 * 64) = false ∧
    State.sweepOk { allOn with mem := [(0x10E00004, 1), (0x10E0000C, 1), (0x10E00014, 4)] } (0x10E00000 / 16 * 16) = true ∧
    (allOn.set (domStat (82 + bankOf 0x12000000)) 3).bufFenced 0x12000000 (16 * 64) = true ∧
    (({ num := 5, base := 0, size := 64, slots := 16, tail := 1 } : Ring).fill ≠ 0) ∧ (({ num := 5, base := 0, size := 64, slots := 16 } : Ring).fill = 0) := by
  decide

theorem witness_TimebaseAndThreadCommands : (2 : Word).toNat < 3 ∧ 3 < (4 : Word).toNat ∧ (List.replicate 8 (0 : Word)).length = 8 ∧ ([] : List Word).length ≠ 8 ∧
    16 ≤ (16 : Word).toNat ∧ (0x7FFFFFFF : Word).toNat ≤ 0x7FFFFFFF ∧ 0x7FFFFFFF < (0x80000000 : Word).toNat ∧ bitsOf (20 : Word) 4 0 < 21 ∧
    bitOf (20 : Word) 31 = false ∧ 64 ≤ (64 : Word).toNat ∧ (allOn.wr R.UCS_SVC 0x80000000).isSvc 0 = true ∧ r0.isSvc 62 = false ∧
    allOn.noPair 0 = false ∧ allOn.clusterOff 0 = false ∧ allOn.thrLive 0 = false ∧ fetchable 0x10600100 = true ∧ allOn.opsOf 0 = [] ∧ allOn.slow = false ∧
    r0.svcBad 0 = false ∧ r0.svcBad 0x80000080 = true ∧ extent.imageOk 0x10E00000 32 [] = false ∧ (extent.inExtent 0x10E00000 32).isSome = true := by decide

theorem witness_HouseLinePdCommands : 1 < (2 : Word).toNat ∧ 600 < (601 : Word).toNat ∧ r0.free < (600 : Word).toNat - r0.get (F.LG_HELD.CONT 0) ∧
    (0 : Word).toNat - r0.get (F.LG_HELD.CONT 0) ≤ r0.free ∧ cfgOk (R.FD_CFG 0) [0] = false ∧ cfgOk (R.PD_CFG 0) [0] = true ∧
    16777215 < (16777216 : Word).toNat ∧ 3 < (4 : Word).toNat ∧ r0.attach 0 ≠ 2 ∧ (pt 2 .idle).attach 0 = 2 ∧ (pt 2 .idle).pdReqOut 0 = false ∧
    ((pt 2 .reqSent).modPort 0 fun h => { h with req := some cm }).wf = true ∧ r0.pdTerms 0 1 500000 0 = none ∧
    ((pt 2 .idle).modPort 0 fun h => { h with caps := [0x0001912C] }).pdTerms 0 1 0 0 = some { pos := 1, kind := 0, v := 500000, i := 0 } ∧
    8 ≤ (8 : Word).toNat := by decide

theorem witness_FaultAndLogCommands : 384 ≤ (384 : Word).toNat ∧ (383 : Word).toNat < 384 ∧ r0.fltRec? 383 = none ∧
    ({ r0 with fltRecs := [{ src := 383, words := List.replicate 16 0, count := 1 }] } : State).fltRec? 383 =
      some { src := 383, words := List.replicate 16 0, count := 1 } ∧ 12 < (11 : Word).toNat + [0, (0 : Word)].length ∧
    (11 : Word).toNat + [(0 : Word)].length ≤ 12 ∧ 2 < (3 : Word).toNat ∧ unitCount (bitsOf (0xFF000000 : Word) 31 24) ≤ 0 ∧ 63 < (64 : Word).toNat ∧
    (∀ o ∈ r0.ops, o.unit = .coll → o.word.isSome = true) ∧ (∀ r ∈ r0.logNor ++ r0.logBuf, r.seq < 1) ∧ (List.replicate 14 (0 : Word)).length = 14 ∧ r0.logBuf.length < 64 ∧
    100 ≤ (100 : Word).toNat ∧ (3600000 : Word).toNat ≤ 3600000 ∧ (99 : Word).toNat < 100 := by decide

/-- cm's sender holds an update of 64 bytes. -/
def updating : State := r0.modUpd fun u => { u with holder := some .twm, length := 64 }

theorem witness_UpdateCommands : 16777216 < (16777217 : Word).toNat ∧ (16777216 : Word).toNat ≤ 16777216 ∧ r0.upd.holder = none ∧
    updating.upd.holder = some cm.rq ∧ (r0.modUpd fun u => { u with holder := some .dbg }).upd.holder ≠ some cm.rq ∧
    updating.upd.length < (61 : Word).toNat + 4 ∧ (60 : Word).toNat + 4 ≤ updating.upd.length ∧ updating.upd.written = [] ∧
    (updating.modUpd fun u => { u with written := [63] }).upd.written = [63] ∧ updating.checkStatus ≠ 0 ∧ updating.upd.checked = none ∧
    (updating.modUpd fun u => { u with checked := some (1, 2, 3, 4) }).upd.checked = some (1, 2, 3, 4) ∧ bitOf (0 : Word) 0 = false ∧
    engineOf 0x0382 = some (3, 130) ∧ engineOf 0x0383 = none ∧ engineOf 0x10000 = none := by decide

theorem witness_RawCommands : 1023 < (1024 : Word).toNat ∧ (1023 : Word).toNat ≤ 1023 ∧ mapped 0x8FFFC = true ∧ mapped 0x90000 = false ∧
    0x400000 < (0x3FFFFC : Word).toNat + 8 ∧ (0x3FFFFC : Word).toNat + 4 ≤ 0x400000 ∧
    ({ r0 with boot := { r0.boot with prov := true } } : State).boot.prov = true ∧ r0.boot.prov = false ∧ readLen 0 = false ∧ readLen 4 = true ∧
    0x16000000 < (0x15FFFFFC : Word).toNat + 8 ∧ (0x15FFFFFC : Word).toNat + 4 ≤ 0x16000000 ∧ (0x10DFFFFC : Word).toNat < 0x10E00000 ∧
    0x10C00000 < (0x10BFFFFC : Word).toNat + 8 ∧ allOn.ueSpan 0x10000000 4 = none := by decide

/-! ### The block -/

theorem witness_StoresKeepMemory : Memory.wf extent.mem = true ∧ storable 0x10000000 = false ∧ storable 0x10E00000 = true ∧ allOn.bankOn 0x10E00000 = true := by
  decide

/-- Executor m0 waits until device time n. -/
def waits (n : Nat) : State := r0.modMss 0 fun m => { m with wait := .time n }

theorem witness_WaitsForTimeEnd : (waits 0).waitOf m0 = .time 0 ∧ 0 ≤ (waits 0).dtime ∧ (waits 9).dtime < 9 ∧ (waits 9).wf = true ∧
    (∀ k < 2, r0.waitOf m0 ≠ .time k) := by decide

theorem witness_NerogWordsRoundTrip : Nerog.execOf (.addi m0 5 3 0xFFFF) = some m0 ∧ Nerog.encode (.addi m0 5 3 0xFFFF) = some 0x10A3FFFF ∧
    Nerog.decode m0 0x10A3FFFF = some (.addi m0 5 3 0xFFFF) := by decide

theorem witness_StepsKeepCanonical : r0.wf = true ∧ r0.memIn = true ∧ (∃ t, step r0 = .next t) := ⟨by decide, by decide, _, rfl⟩

theorem witness_IdleSteps : r0.pending = [] ∧ r0.boot.pendDev = none ∧ r0.ptp.slew = 0 ∧ r0.paused = [] ∧ r0.bootStep < 6 ∧ 6 ≤ (booting 6).bootStep ∧
    (booting 6).boot.por = false ∧ (booting 6).boot.pin = false ∧ (booting 6).wf = true := by decide

theorem witness_IdleSteps_tests : ∀ g < 4, ∀ i < ltCount g, (booting 6).ltRuns g i = false := by decide

/-! ### Words of each format, from Tables 09-2 to 09-7 bit by bit -/

theorem test_decode_alu_mul : Nerog.decode t0 (0b000001#6 ++ 0b00111#5 ++ 0b00101#5 ++ 0b01000#5 ++ 0b00000001010#11) = some (.alu t0 7 5 8 10) := by
  decide

theorem test_decode_cmp : Nerog.decode t0 (0b000010#6 ++ 0b00000#5 ++ 0b00101#5 ++ 0b01000#5 ++ 0b00000000001#11) = some (.cmp t0 5 8 1) := by decide

theorem test_decode_srai : Nerog.decode t0 (0b001010#6 ++ 0b11111#5 ++ 0b10000#5 ++ 0b0000000000011111#16) = some (.srai t0 31 16 31) := by decide

theorem test_decode_sd : Nerog.decode t0 (0b011001#6 ++ 0b00010#5 ++ 0b00001#5 ++ 0b1111111111111000#16) = some (.sd t0 2 1 0xFFF8) := by decide

theorem test_decode_branch_back : Nerog.decode t0 (0b100000#6 ++ 0b0001#4 ++ 0b1111111111111111111110#22) = some (.b t0 1 0x3FFFFE) := by decide

theorem test_decode_jal : Nerog.decode t0 (0b100001#6 ++ 0b11110#5 ++ 0b100000000000000000000#21) = some (.jal t0 30 0x100000) := by decide

theorem test_decode_mtsr : Nerog.decode m0 (0b100101#6 ++ 0b00000#5 ++ 0b00110#5 ++ 0b00000#5 ++ 0b00000000011#11) = some (.mtsr m0 6 3) := by decide

theorem test_decode_chset : Nerog.decode t0 (0b110000#6 ++ 0b01010#5 ++ 0b01011#5 ++ 0b01100#5 ++ 0b00000001001#11) = some (.chset t0 10 11 12 9) := by
  decide

theorem test_decode_stat_stop : Nerog.decode t0 (0b110110#6 ++ 0b00011#5 ++ 0b00100#5 ++ 0b00101#5 ++ 0b00000000010#11) = some (.statStop t0 3 4 5) := by
  decide

/-- A reserved opcode is ILLEGAL, as a reserved fn of ALU is (R225); a posting one with a reserved fn posts BAD_ARG (R237). -/
theorem test_decode_reserved : Nerog.decode t0 0 = some (.alu t0 0 0 0 0x7FF) ∧
    Nerog.decode t0 (0b000011#6 ++ 0#26) = some (.alu t0 0 0 0 0x7FF) ∧
    Nerog.decode t0 (0b111111#6 ++ 0#15 ++ 0b00000000011#11) = some (.chset t0 0 0 0 0x7FF) := by decide

/-! ### Commands that the check refuses -/

theorem test_wf_sample : Instr.wf (.controlSample 0 { legs := [0, 0, 0] }) = false ∧ 
    Instr.wf (.controlSample 0 {}) = true := by decide

theorem test_wf_messages : Instr.wf (.pdMessageReceive 0 { sop := 5, mtype := 1, extended := false, objs := [] }) = false ∧
    Instr.wf (.chainLock { node := 3, nodes := 2, ring := true, joined := false, hops := [], lat := 0 }) = false ∧
    Instr.wf (.epochReceive { time := 2 ^ 64, ext := 0, down := false, lat := 0, path := 0 }) = false ∧
    Instr.wf (.hdpData { dg 0 with udp := 65536 }) = false ∧ Instr.wf (.hdpOpen { dg 0 with udp := 65536 }) = false ∧
    Instr.wf (.hdpClose { dg 0 with udp := 65536 }) = false ∧ Instr.wf (.hdpAck { dg 0 with udp := 65536 }) = false ∧
    Instr.wf (.hdpKeepalive { dg 0 with udp := 65536 }) = false := by decide

theorem test_wf_rounds : Instr.wf (.housekeepingRound 6 { temps := [], therms := [] }) = false ∧ Instr.wf (.housekeepingRound 0 { temps := [], therms := [] }) = false ∧
    Instr.wf (.thermalModelStep 6 []) = false ∧ Instr.wf (.twMWrite []) = false ∧ Instr.wf (.twMRead 0) = false ∧
    Instr.wf (.twTransferDone 0 { code := 0, count := 0, bytes := [0] }) = false := by decide

theorem test_wf_addresses : Instr.wf (.snapshotLoRead .twm 0x400000) = false ∧ Instr.wf (.snapshotHiRead .twm 2) = false ∧
    Instr.wf (.registerWrite .twm 1 0) = false ∧ Instr.wf (.sramScrub 0x16000000 0) = false ∧
    Instr.wf (.ltCtrlWrite .twm { group := 0, index := 4 } 0) = false ∧ Instr.wf (.errorInject { group := 1, index := 2 }) = false ∧
    Instr.wf (.checkerLock { group := 2, index := 119 }) = false ∧ Instr.wf (.checkerLockLoss { group := 0, index := 130 }) = false := by decide

/-! ### Single steps -/

theorem test_reset_wf : State.reset.wf = true := by decide

set_option maxRecDepth 8192 in
/-- The check value of CRC-32C (R300): the polynomial's standard answer for the digits 1 to 9. -/
theorem test_crc32c : crc32c [0x31, 0x32, 0x33, 0x34, 0x35, 0x36, 0x37, 0x38, 0x39] = 0xE3069283 := by decide

/-- What register g_r of core 0 holds after a command. -/
def gAfter (i : Instr) (s : State) (r : Fin 32) : Option Word :=
  match exec i s with
  | .next t => some (t.g m0 r)
  | _ => none

theorem test_addi_wraps : gAfter (.addi m0 4 4 0xFFFF) (gw r0 4 0) 4 = some 0xFFFFFFFF := by decide

theorem test_andi_zero_extends : gAfter (.andi m0 4 3 0x8000) (gw r0 3 0xFFFFFFFF) 4 = some 0x8000 := by decide

theorem test_srai_keeps_sign : gAfter (.srai m0 4 3 0x21) (gw r0 3 0x80000000) 4 = some 0xC0000000 := by decide

theorem test_g0_stays_zero : gAfter (.lui m0 0 0xFFFF) r0 0 = some 0 := by decide

theorem test_tw_pointer : (match exec (.twMWrite [0xFE, 0x34, 0x12]) r0 with | .next t => t.twm.win | _ => 0) = 0x1234 := by decide

theorem test_step_runs_the_front : (match step { r0 with pending := [.returnToPriority] } with | .next t => t.pending | _ => [.returnToPriority]) = [] := by decide

end Sys2Proof.Tests
end

section
/-!
The accumulators and the rounding of R195, with the saturation of R8: what `accStep` and `roundDiv` are in terms of the
library's truncated division, and the obligation about them.
-/
namespace Sys2Proof.Machine

/-! ### One sample into an accumulator (R8, R195) -/

/-- Saturation at 64 bits with its bounds written out as the limits of an i64. -/
theorem satS_64 (v : Int) : satS 64 v = max (-(2 ^ 63)) (min (2 ^ 63 - 1) v) := rfl

/-- The accumulator gains the whole quanta of the saturated sum; the residue is the remainder of that division. -/
theorem accStep_eq_tmod_tdiv (res acc d q : Int) :
    accStep res acc d q =
      ((satS 64 (res + satS 64 d)).tmod q, satS 64 (acc + (satS 64 (res + satS 64 d)).tdiv q)) := by
  simp only [accStep, tdiv, Int.tmod_def, Int.mul_comm q]

theorem natAbs_tmod_lt_natAbs (t : Int) {q : Int} (hq : 0 < q) : (t.tmod q).natAbs < q.natAbs := by
  rw [Int.natAbs_tmod]
  exact Nat.mod_lt _ (Int.natAbs_pos.mpr (Int.ne_of_gt hq))

theorem accStep_keeps_quanta (res acc d q : Int) (hq : 0 < q) :
    let t := satS 64 (res + satS 64 d)
    let r := accStep res acc d q
    r.2 = satS 64 (acc + t.tdiv q) ∧ t.tdiv q * q + r.1 = t ∧ r.1.natAbs < q.natAbs ∧
    (t = res + d → satS 64 (acc + t.tdiv q) = acc + t.tdiv q → r.2 * q + r.1 = acc * q + res + d) := by
  intro t r
  have hr : r = (t.tmod q, satS 64 (acc + t.tdiv q)) := accStep_eq_tmod_tdiv res acc d q
  have hsplit : t.tdiv q * q + t.tmod q = t := Int.tdiv_mul_add_tmod t q
  rw [hr]
  refine ⟨rfl, hsplit, natAbs_tmod_lt_natAbs t hq, fun ht hacc => ?_⟩
  calc satS 64 (acc + t.tdiv q) * q + t.tmod q
      = acc * q + (t.tdiv q * q + t.tmod q) := by rw [hacc, Int.add_mul, Int.add_assoc]
    _ = acc * q + res + d := by rw [hsplit, ht, Int.add_assoc]

/-! ### Rounding to the nearest (R195) -/

theorem roundDiv_of_nonneg {a : Int} (ha : 0 ≤ a) (b : Nat) : roundDiv a b = (a + (b / 2 : Nat)).tdiv b :=
  if_pos ha

theorem roundDiv_of_neg {a : Int} (ha : a < 0) (b : Nat) : roundDiv a b = (a - (b / 2 : Nat)).tdiv b :=
  if_neg (Int.not_le.mpr ha)

theorem roundDiv_natCast (a b : Nat) : roundDiv a b = ((a + b / 2) / b : Nat) := by
  rw [roundDiv_of_nonneg (Int.natCast_nonneg a), ← Int.natCast_add, ← Int.ofNat_tdiv]

/-- Half of a divisor never makes a whole quotient, so zero rounds to zero. -/
theorem roundDiv_zero (b : Nat) : roundDiv 0 b = 0 := by
  have hhalf : (0 + b / 2) / b = 0 := by
    cases b with
    | zero => rfl
    | succ k => exact Nat.div_eq_of_lt (by omega)
  exact (roundDiv_natCast 0 b).trans (congrArg Nat.cast hhalf)

theorem roundDiv_neg_of_pos {a : Int} (ha : 0 < a) (b : Nat) : roundDiv (-a) b = -roundDiv a b := by
  have hshift : -a - (b / 2 : Nat) = -(a + (b / 2 : Nat)) := by omega
  rw [roundDiv_of_neg (Int.neg_neg_of_pos ha), roundDiv_of_nonneg (Int.le_of_lt ha), hshift, Int.neg_tdiv]

theorem roundDiv_neg (a : Int) (b : Nat) : roundDiv (-a) b = -roundDiv a b := by
  rcases Int.lt_trichotomy a 0 with ha | rfl | ha
  · have hpos := roundDiv_neg_of_pos (Int.neg_pos_of_neg ha) b
    rw [Int.neg_neg] at hpos
    rw [hpos, Int.neg_neg]
  · rw [Int.neg_zero, roundDiv_zero, Int.neg_zero]
  · exact roundDiv_neg_of_pos ha b

/-- Rounding a count: the quotient's multiple is within half a divisor of it, and above it at a tie. -/
theorem roundDiv_natCast_nearest (a : Nat) {b : Nat} (hb : 0 < b) :
    2 * (roundDiv a b * b - a).natAbs ≤ b ∧
    (2 * (roundDiv a b * b - a).natAbs = b → a < (roundDiv a b * b).natAbs) := by
  have hsum : (a + b / 2) / b * b + (a + b / 2) % b = a + b / 2 := Nat.div_add_mod' _ _
  have hrem : (a + b / 2) % b < b := Nat.mod_lt _ hb
  rw [roundDiv_natCast, ← Int.natCast_mul]
  generalize (a + b / 2) / b * b = m at *
  generalize (a + b / 2) % b = r at *
  omega

theorem roundDiv_nearest (a : Int) {b : Nat} (hb : 0 < b) :
    2 * (roundDiv a b * b - a).natAbs ≤ b ∧
    (2 * (roundDiv a b * b - a).natAbs = b → a.natAbs < (roundDiv a b * b).natAbs) := by
  obtain ⟨n, rfl | rfl⟩ := Int.eq_nat_or_neg a
  · exact roundDiv_natCast_nearest n hb
  · have hdiff : -(roundDiv n b * b) - -(n : Int) = -(roundDiv n b * b - n) := by omega
    rw [roundDiv_neg, Int.neg_mul, hdiff, Int.natAbs_neg, Int.natAbs_neg, Int.natAbs_neg]
    exact roundDiv_natCast_nearest n hb

/-! ### The obligation -/

/-- Settles O35: the residue is the truncated remainder of the saturated sum and the accumulator gains its quotient;
rounding is odd, and on counts it is the floor of the half-shifted quotient. -/
theorem accumulatorsKeepEveryQuantum : Obligations.AccumulatorsKeepEveryQuantum := by
  refine ⟨fun res acc d q hq _ => ?_, fun a b hb => ?_⟩
  · simp only [← satS_64]
    obtain ⟨hacc, hsplit, hres, hkeep⟩ := accStep_keeps_quanta res acc d q hq
    exact ⟨hacc, hsplit, hres, fun _ => hkeep⟩
  · obtain ⟨hnear, htie⟩ := roundDiv_nearest a hb
    exact ⟨hnear, htie, roundDiv_neg a b⟩

end Sys2Proof.Machine
end

section
/-!
The queue and the idle step (R40): every command answers a next state, and what 8 ns with an empty queue do to device
time and to the extended time of the chain; the obligation about them.
-/
namespace Sys2Proof.Machine

/-! ### 64-bit values in two registers (R5) -/

/-- Two words that hold a count read back as its value modulo 2^64. -/
theorem pairNat_loWord_hiWord (n : Nat) : pairNat (loWord n) (hiWord n) = n % 2 ^ 64 := by
  simp only [pairNat, loWord, hiWord, BitVec.toNat_ofInt]
  omega

theorem State.rd64_wr64 (s : State) (lo hi : Nat) (v : Int) (h : s.rwf) (hne : lo ≠ hi) :
    (s.wr64 lo hi v).rd64 lo hi = pairNat (loWord v) (hiWord v) := by
  have hlo : (s.wr64 lo hi v).rd lo = loWord v := ((s.wr lo _).rd_wr_other hi lo _ hne).trans (s.rd_wr lo _ h)
  have hhi : (s.wr64 lo hi v).rd hi = hiWord v := (s.wr lo _).rd_wr hi _ (s.wr_rwf lo _ h)
  simp only [State.rd64, hlo, hhi]

theorem State.rd_wr64_other (s : State) (lo hi a : Nat) (v : Int) (hlo : a ≠ lo) (hhi : a ≠ hi) :
    (s.wr64 lo hi v).rd a = s.rd a :=
  ((s.wr lo _).rd_wr_other hi a _ hhi).trans (s.rd_wr_other lo a _ hlo)

/-! ### What leaves the clocks alone -/

/-- From s to t the registers up to those of the two times (R40, R397) keep their words, and reset and boot stand still. -/
structure ClocksKept (s t : State) : Prop where
  rd   : ∀ a, a ≤ R.CHN_CTIME_HI → t.rd a = s.rd a
  boot : t.boot = s.boot

theorem ClocksKept.refl (s : State) : ClocksKept s s := ⟨fun _ _ => rfl, rfl⟩

theorem ClocksKept.trans {s t u : State} (h : ClocksKept s t) (k : ClocksKept t u) : ClocksKept s u :=
  ⟨fun a ha => (k.rd a ha).trans (h.rd a ha), k.boot.trans h.boot⟩

theorem ClocksKept.dtime {s t : State} (h : ClocksKept s t) : t.dtime = s.dtime := by
  simp only [State.dtime, State.rd64, h.rd R.TB_DTIME_LO (by decide), h.rd R.TB_DTIME_HI (by decide)]

theorem ClocksKept.ctime {s t : State} (h : ClocksKept s t) : t.ctime = s.ctime := by
  simp only [State.ctime, State.rd64, h.rd R.CHN_CTIME_LO (by decide), h.rd R.CHN_CTIME_HI (by decide)]

theorem clocksKept_of_regs {s t : State} (hregs : t.regs = s.regs) (hboot : t.boot = s.boot) : ClocksKept s t :=
  ⟨fun a _ => by simp only [State.rd, hregs], hboot⟩

theorem clocksKept_foldl {α : Type} (g : State → α → State) (hg : ∀ s a, ClocksKept s (g s a)) (l : List α) :
    ∀ s, ClocksKept s (l.foldl g s) := by
  induction l with
  | nil => exact fun s => .refl s
  | cons a l ih => exact fun s => (hg s a).trans (ih _)

theorem clocksKept_wr (s : State) (b : Nat) (w : Word) (h : R.CHN_CTIME_HI < b) : ClocksKept s (s.wr b w) :=
  ⟨fun a ha => s.rd_wr_other b a w (Nat.ne_of_lt (Nat.lt_of_le_of_lt ha h)), rfl⟩

theorem clocksKept_set (s : State) (f : Fld) (v : Nat) (h : R.CHN_CTIME_HI < f.addr) : ClocksKept s (s.set f v) :=
  clocksKept_wr s _ _ h

theorem clocksKept_tickWdt (s : State) : ClocksKept s s.tickWdt := by
  simp only [State.tickWdt]
  split
  · exact clocksKept_of_regs rfl rfl
  · split
    · exact clocksKept_of_regs rfl rfl
    · refine .trans ?_ (clocksKept_set _ F.WDT_STAT.REMAIN _ (by decide))
      exact clocksKept_of_regs rfl rfl

theorem clocksKept_tickLt (s : State) (g i : Nat) : ClocksKept s (s.tickLt g i) := by
  simp only [State.tickLt]
  split
  · exact (clocksKept_wr s (R.LT_BITS_LO g i) _ (by simp only [R.CHN_CTIME_HI, R.LT_BITS_LO]; omega)).trans
      (clocksKept_wr _ (R.LT_BITS_HI g i) _ (by simp only [R.CHN_CTIME_HI, R.LT_BITS_HI]; omega))
  · exact .refl s

theorem clocksKept_modBook (s : State) (k : Nat) (g : Book → Book) : ClocksKept s (s.modBook k g) :=
  clocksKept_of_regs rfl rfl

theorem clocksKept_ite {p : Prop} [Decidable p] {s t u : State} (ht : ClocksKept s t) (hu : ClocksKept s u) :
    ClocksKept s (if p then t else u) := by
  split
  · exact ht
  · exact hu

theorem clocksKept_tickBooks (s : State) : ClocksKept s s.tickBooks :=
  clocksKept_foldl _ (fun t _ => clocksKept_ite (.refl t) (clocksKept_modBook t _ _)) s.books s

/-! ### What a tick does -/

theorem tickTime_eq_with_regs (s : State) : ∃ r, s.tickTime = { s with regs := r } := by
  simp only [State.tickTime]
  split <;> exact ⟨_, rfl⟩

theorem tickPtp_of_no_slew (s : State) (h : s.ptp.slew = 0) : s.tickPtp = s := if_pos h

theorem tickWdt_paused (s : State) : s.tickWdt.paused = s.paused := by
  simp only [State.tickWdt]
  split
  · rfl
  · split <;> rfl

theorem tickPauses_of_none (s : State) (h : s.paused = []) : s.tickPauses = { s with paused := [] } := by
  simp only [State.tickPauses, h, List.filter_nil, List.map_nil, List.foldl_nil]

theorem resetDue_of_none (s : State) (h : s.boot.pendDev = none) : s.resetDue = s := by
  simp only [State.resetDue, h]

/-- Before step 6 of boot the two times stand still (R492). -/
theorem tickTime_of_boot (s : State) (h : s.bootStep < 6) : s.tickTime = s := by
  simp [State.tickTime, h]

/-- From step 6 of boot on the two times run, outside resets (R40, R397). -/
theorem tickTime_runs (s : State) (hwf : s.rwf) (hstep : 6 ≤ s.bootStep) (hpor : s.boot.por = false)
    (hpin : s.boot.pin = false) :
    s.tickTime.dtime = (s.dtime + 8) % 2 ^ 64 ∧ s.tickTime.ctime = (s.ctime + 8000) % 2 ^ 64 := by
  have heq : s.tickTime = (s.wr64 R.TB_DTIME_LO R.TB_DTIME_HI ((s.dtime + tickNs : Nat) : Int)).wr64 R.CHN_CTIME_LO
      R.CHN_CTIME_HI ((s.ctime + 1000 * tickNs : Nat) : Int) := by
    simp [State.tickTime, hpor, hpin, Nat.not_lt.2 hstep]
  constructor
  · have hd := s.rd64_wr64 R.TB_DTIME_LO R.TB_DTIME_HI ((s.dtime + tickNs : Nat) : Int) hwf (by decide)
    rw [pairNat_loWord_hiWord] at hd
    rw [heq, State.dtime, State.rd64, State.rd_wr64_other _ _ _ R.TB_DTIME_LO _ (by decide) (by decide),
      State.rd_wr64_other _ _ _ R.TB_DTIME_HI _ (by decide) (by decide)]
    exact hd
  · rw [heq, State.ctime, State.rd64_wr64 _ _ _ _ (s.wr64_rwf _ _ _ hwf) (by decide), pairNat_loWord_hiWord]
    rfl

/-- With no slew, no pause and no reset due, an idle step moves the clocks as `tickTime` does. -/
theorem clocksKept_tickTime_idle (s : State) (hdev : s.boot.pendDev = none) (hslew : s.ptp.slew = 0)
    (hpaused : s.paused = []) : ClocksKept s.tickTime s.idle := by
  obtain ⟨r, hr⟩ := tickTime_eq_with_regs s
  have hptp : s.tickTime.tickPtp = s.tickTime := tickPtp_of_no_slew _ (by rw [hr]; exact hslew)
  have hnone : s.tickTime.tickWdt.paused = [] := by rw [tickWdt_paused, hr]; exact hpaused
  have hdue : s.tickTime.boot.pendDev = none := by rw [hr]; exact hdev
  simp only [State.idle, hptp, tickPauses_of_none _ hnone]
  have hwdt : ClocksKept s.tickTime { s.tickTime.tickWdt with paused := [] } :=
    ⟨(clocksKept_tickWdt s.tickTime).rd, (clocksKept_tickWdt s.tickTime).boot⟩
  generalize { s.tickTime.tickWdt with paused := [] } = a at hwdt
  have hlt := hwdt.trans (clocksKept_foldl (fun t (x : Nat × Nat) => t.tickLt x.1 x.2)
    (fun t x => clocksKept_tickLt t x.1 x.2) a.ltRunning a)
  generalize a.ltRunning.foldl (fun t (x : Nat × Nat) => t.tickLt x.1 x.2) a = b at hlt ⊢
  have hnor : ClocksKept b (if b.nor.erase.isSome then { b with nor := { b.nor with age := b.nor.age + tickNs } } else b) :=
    clocksKept_ite (clocksKept_of_regs rfl rfl) (.refl b)
  have hall := (hlt.trans hnor).trans (clocksKept_tickBooks _)
  rwa [resetDue_of_none _ (by rw [hall.boot]; exact hdue)]

theorem step_idle (s : State) (h : s.pending = []) : step s = .next s.idle := by
  simp only [step, h]

/-! ### The queue -/

/-- Each arm of `exec` is `.next` of its command's effect. -/
theorem exec_eq_next (c : Instr) (s : State) : ∃ t, exec c s = .next t := by
  cases c <;> exact ⟨_, rfl⟩

/-- Settles O1: `step` is `exec` of the front; each arm of `exec` is `.next` of an effect; no table word decodes; and of
an idle step only the tick of device time touches the clocks. -/
theorem stepRunsTheFront : Obligations.StepRunsTheFront := by
  refine ⟨fun _ _ _ => rfl, exec_eq_next, fun _ _ _ => ⟨rfl, rfl⟩, fun s hempty => ⟨s.idle, step_idle s hempty, ?_, ?_⟩⟩
  · intro _ hdev hslew hpaused hboot
    rw [(clocksKept_tickTime_idle s hdev hslew hpaused).dtime, tickTime_of_boot s hboot]
  · intro hwf hdev hslew hpaused hstep hpor hpin _
    obtain ⟨hd, hc⟩ := tickTime_runs s (State.wf_rwf hwf) hstep hpor hpin
    have hkept := clocksKept_tickTime_idle s hdev hslew hpaused
    exact ⟨hkept.dtime.trans hd, hkept.ctime.trans hc⟩

end Sys2Proof.Machine
end

section
/-!
Rules of the operations that the timebase shares (chapter 02): what a report or an assertion leaves, the qualification
of a source, the count and its epoch, TICK_OUT, the walker's front, and the alignment to the mains.
-/
namespace Sys2Proof.Machine

/-! ### Reports and assertions (R437) -/

theorem OnlyTold.tb {s t : State} (h : OnlyTold s t) : t.tb = s.tb := by
  have hrest := congrArg State.tb h.rest
  exact hrest

theorem OnlyTold.boot {s t : State} (h : OnlyTold s t) : t.boot = s.boot := by
  have hrest := congrArg State.boot h.rest
  exact hrest

/-- A field outside the two-wire block keeps its value. -/
theorem OnlyTold.get {s t : State} (h : OnlyTold s t) (f : Fld) (hf : f.addr < 0x50800 ∨ 0x50900 ≤ f.addr) :
    t.get f = s.get f :=
  get_congr f (h.regs _ hf)

theorem assertL_tb (s : State) (src cond d0 : Nat) (d1 : Word) : (s.assertL src cond d0 d1).tb = s.tb := by
  simp only [State.assertL]
  split
  · rfl
  · exact (told_report _ _).tb

@[simp] theorem deassertL_tb (s : State) (src cond : Nat) : (s.deassertL src cond).tb = s.tb := rfl

/-! ### Qualification of a source (R32 to R36) -/

theorem loseQual_selected_holds (s : State) (n : Nat) (h : s.get F.TB_CTRL.SRC = n) : (s.loseQual n).tb.held = true := by
  simp only [State.loseQual, if_pos h, assertL_tb]

theorem gainQual_selected_counts (s : State) (n : Nat) (h : s.get F.TB_CTRL.SRC = n) : (s.gainQual n).tb.held = false := by
  simp only [State.gainQual, if_pos h, deassertL_tb]

theorem loseQual_unselected (s : State) (n : Nat) (h : s.get F.TB_CTRL.SRC ≠ n) : s.loseQual n = s.set (qualFld n) 0 :=
  if_neg h

theorem gainQual_unselected (s : State) (n : Nat) (h : s.get F.TB_CTRL.SRC ≠ n) : s.gainQual n = s.set (qualFld n) 1 :=
  if_neg h

theorem contains_filter_ne (l : List Nat) (n : Nat) : (l.filter (· != n)).contains n = false := by
  simp

/-- The loss of a source with differential inputs (R34). -/
theorem sourceQualLost_differential (s : State) (src : Fin 6) (h : src = 1 ∨ src = 2 ∨ src = 5) :
    exec (.sourceQualLost src) s =
      .next (State.loseQual { s with tb := { s.tb with invalid := src :: s.tb.invalid.filter (· != src.val) } } src) := by
  rcases h with rfl | rfl | rfl <;> rfl

/-- Valid inputs outside an over-rate episode qualify the source (R32, R35). -/
theorem differentialInputValid_qualifies (s : State) (src : Fin 6) (h : src = 1 ∨ src = 2 ∨ src = 5)
    (hrate : s.tb.overrate = []) :
    exec (.differentialInputValid src) s =
      .next (State.gainQual { s with tb := { s.tb with invalid := s.tb.invalid.filter (· != src.val) } } src) := by
  show Host.Outcome.next _ = Host.Outcome.next _
  rw [if_pos h]
  simp [hrate]

/-- The end of an over-rate episode (R35). -/
theorem overrateClear_ends (s : State) (n : Fin 2) (h : s.tb.overrate.contains (n.val + 1) = true) :
    ∃ u, exec (.overrateClear n) s = .next u ∧ u.tb.overrate.contains (n.val + 1) = false ∧ u.tb.held = s.tb.held ∧
      (s.tb.invalid.contains (n.val + 1) = false → s.wf = true → u.get (qualFld (n.val + 1)) = 1) := by
  let v : State := { s with tb := { s.tb with overrate := s.tb.overrate.filter (· != n.val + 1) } }
  have hexec : exec (.overrateClear n) s =
      .next (if v.tb.invalid.contains (n.val + 1) then v else v.set (qualFld (n.val + 1)) 1) := by
    show execOverrateClear n s = _
    simp only [execOverrateClear, if_pos h]
    rfl
  have hout : v.tb.overrate.contains (n.val + 1) = false := contains_filter_ne s.tb.overrate (n.val + 1)
  refine ⟨_, hexec, ?_, ?_, fun hvalid hwf => ?_⟩
  · split <;> exact hout
  · split <;> rfl
  · have hv : v.tb.invalid.contains (n.val + 1) = false := hvalid
    have hlo : (qualFld (n.val + 1)).lo ≤ (qualFld (n.val + 1)).hi := Nat.le_refl _
    have hhi : (qualFld (n.val + 1)).hi < 32 := by simp only [qualFld]; omega
    rw [hv, if_neg Bool.false_ne_true, v.get_set _ 1 (State.wf_rwf hwf) hlo hhi]
    simp [Fld.width, qualFld]

/-! ### The count and its epoch (R31, R39) -/

theorem setCount_rd_lo (s : State) (o n : Word) (fwd : Bool) (h : s.rwf) : (s.setCount o n fwd).rd R.TB_EXT_LO = n :=
  ((s.wr R.TB_EXT_LO n).rd_wr_other R.TB_EXT_HI R.TB_EXT_LO _ (by decide)).trans (s.rd_wr R.TB_EXT_LO n h)

/-- The epoch counts the passages through zero in the direction of the move. -/
theorem setCount_rd_hi (s : State) (o n : Word) (fwd : Bool) (h : s.rwf) : (s.setCount o n fwd).rd R.TB_EXT_HI =
    if fwd = true ∧ n.toNat < o.toNat then s.rd R.TB_EXT_HI + 1
    else if fwd = false ∧ o.toNat < n.toNat then s.rd R.TB_EXT_HI - 1 else s.rd R.TB_EXT_HI := by
  rw [State.setCount, (s.wr R.TB_EXT_LO n).rd_wr R.TB_EXT_HI _ (s.wr_rwf _ _ h)]
  cases fwd <;> simp

theorem setCount_rd_other (s : State) (o n : Word) (fwd : Bool) (a : Nat) (hlo : a ≠ R.TB_EXT_LO) (hhi : a ≠ R.TB_EXT_HI) :
    (s.setCount o n fwd).rd a = s.rd a :=
  ((s.wr R.TB_EXT_LO n).rd_wr_other R.TB_EXT_HI a _ hhi).trans (s.rd_wr_other R.TB_EXT_LO a n hlo)

/-- When the TBC moves (R34, R492). -/
theorem stands_eq_false_iff (s : State) : s.stands = false ↔
    s.tb.held = false ∧ 6 ≤ s.get F.BOOT_STAT.STEP ∧ s.boot.por = false ∧ s.boot.pin = false := by
  simp only [State.stands, Bool.or_eq_false_iff, decide_eq_false_iff_not, Nat.not_lt, and_assoc]

theorem countBy_of_stands (s : State) (src : Nat) (down : Bool) (h : s.stands = true) : s.countBy src down = s := if_pos h

theorem countBy_line (s : State) (src : Nat) (down : Bool) (h : s.stands = false) (h3 : src ≠ 3) (h4 : src ≠ 4) :
    s.countBy src down = s.stepCount down := by
  simp only [State.countBy, h, Bool.false_eq_true, if_false, if_neg h3, if_neg h4]

theorem countBy_mains (s : State) (down : Bool) (h : s.stands = false) : s.countBy 3 down = s.mainsStep := by
  simp [State.countBy, h]

theorem countBy_chain (s : State) (down : Bool) (h : s.stands = false) :
    s.countBy 4 down = if s.leads then s.coast else s := by
  simp [State.countBy, h]

/-- Over-rate acts on QUAL and its fault alone: the TBC stands where it stood (R35). -/
theorem overrateAt_stands (s : State) (i : Nat) : (s.overrateAt i).stands = s.stands := by
  have hset : (s.set (qualFld (i + 1)) 0).stands = s.stands := by
    have hget := s.get_set_other (qualFld (i + 1)) F.BOOT_STAT.STEP 0 (by simp only [qualFld]; decide)
    simp only [State.stands, hget, State.set_tb, State.set_boot]
  simp only [State.overrateAt]
  split
  · exact hset
  · refine Eq.trans ?_ hset
    have htold : ∀ q : State, (q.raise (333 + i) 2).stands = q.stands := fun q => by
      have ht := told_report q { src := 333 + i, cond := 2, d0 := 0, d1 := 0 }
      simp only [State.stands, State.raise, ht.tb, ht.boot, ht.get F.BOOT_STAT.STEP (by decide)]
    exact htold _

/-- A transition of a source that is no encoder and feeds no chain (R31). -/
theorem countedStep_plain (s : State) (st : CountStep) (h1 : st.src ≠ 1) (h2 : st.src ≠ 2)
    (hchain : s.feedsChain st.src = false) :
    exec (.countedStep st) s = .next (if s.get F.TB_CTRL.SRC = st.src.val then s.countBy st.src.val false else s) := by
  have henc : (st.src.val == 1 || st.src.val == 2) = false := by
    simp only [Bool.or_eq_false_iff, beq_eq_false_iff_ne]
    exact ⟨fun h => h1 (Fin.ext h), fun h => h2 (Fin.ext h)⟩
  show execCountedStep st s = _
  simp only [execCountedStep, henc, hchain, Bool.false_and, Bool.false_eq_true, if_false]

/-- A transition of encoder n (R35): filtered, illegal, or accepted. -/
theorem countedStep_encoder (s : State) (st : CountStep) (n : Fin 2) (hsrc : st.src.val = n.val + 1) :
    exec (.countedStep st) s = .next (
      if st.stable < s.get (F.SRC_CFG.FILT n) then s
      else if st.illegal then (s.inc (F.SRC_CNT.QERR n)).raise (333 + n) 1
      else
        let q := if st.overrate then s.overrateAt n else s
        let down := st.down != s.is (F.SRC_CFG.INVERT n)
        let r := if s.feedsChain (n.val + 1) then q.chainRecord { stamp := s.ctime, jump := false, down := down } else q
        if s.get F.TB_CTRL.SRC = n.val + 1 then r.countBy (n.val + 1) down else r) := by
  have henc : (n.val + 1 == 1 || n.val + 1 == 2) = true := by
    simp only [Bool.or_eq_true, beq_iff_eq]; omega
  have hacc : (!s.accepted n st.stable) = decide (st.stable < s.get (F.SRC_CFG.FILT n)) := by
    have hne : (n.val == 2) = false := by simp only [beq_eq_false_iff_ne]; omega
    simp only [State.accepted, hne, Bool.false_or, ← decide_not, Nat.not_le]
  show execCountedStep st s = _
  simp only [execCountedStep, hsrc, henc, Nat.add_sub_cancel, hacc, Bool.true_and, decide_eq_true_eq]

/-! ### TICK_OUT (R542) -/

/-- TICK_OUT may pulse: dispatch is not frozen, step 5 of boot is reached, and no reset holds the part. -/
def TickLive (s : State) : Prop :=
  s.is F.TB_STAT.HOLD = false ∧ 5 ≤ s.get F.BOOT_STAT.STEP ∧ s.boot.por = false ∧ s.boot.pin = false

theorem tickOut_pulses (s : State) (n : Word) (hlive : TickLive s)
    (hn : s.get F.TB_CTRL.SRC ≠ 0 ∨ n.toNat % 4 = 0) :
    s.tickOut false n = { s with tb := { s.tb with ticks := s.tb.ticks + 1 } } := by
  obtain ⟨hhold, hstep, hpor, hpin⟩ := hlive
  refine if_neg ?_
  simp only [State.frozen, hhold, hpor, hpin, Bool.or_eq_true, Bool.and_eq_true, decide_eq_true_eq, bne_iff_ne,
    Bool.false_eq_true, or_false, false_or]
  omega

theorem tickOut_silent (s : State) (down : Bool) (n : Word)
    (h : down = true ∨ ¬ TickLive s ∨ (s.get F.TB_CTRL.SRC = 0 ∧ n.toNat % 4 ≠ 0)) : s.tickOut down n = s := by
  refine if_pos (Classical.byContradiction fun hno => ?_)
  simp only [State.frozen, Bool.or_eq_true, Bool.and_eq_true, decide_eq_true_eq, bne_iff_ne, not_or] at hno
  obtain ⟨⟨⟨⟨⟨hdown, hhold⟩, hstep⟩, hpor⟩, hpin⟩, hgrain⟩ := hno
  have hlive : TickLive s :=
    ⟨Bool.eq_false_iff.2 hhold, Nat.not_lt.1 hstep, Bool.eq_false_iff.2 hpor, Bool.eq_false_iff.2 hpin⟩
  rcases h with h | h | h
  · exact hdown h
  · exact h hlive
  · exact hgrain h

/-! ### The walker's front (R59) -/

/-- A new grain puts the front K buckets ahead. -/
theorem rebaseWalk_lead (s : State) : s.rebaseWalk.tb.lead = s.tb.walkK := rfl

/-! ### The mains (R36) -/

theorem mainsSlew_slew (s : State) (e : Int) : (s.mainsSlew e).tb.slew = e := rfl
theorem mainsSlew_regs (s : State) (e : Int) : (s.mainsSlew e).regs = s.regs := rfl
theorem mainsSlew_records (s : State) (e : Int) : (s.mainsSlew e).records = s.records := rfl

theorem trackPhase_within (s : State) (hslew : s.tb.slew = 0) (herr : s.phaseError.natAbs ≤ 64) : s.trackPhase = s := by
  simp only [State.trackPhase, hslew, ne_eq, not_true_eq_false, Nat.not_lt.2 herr, decide_false, Bool.or_self,
    Bool.false_eq_true, if_false]

theorem trackPhase_beyond (s : State) (herr : 64 < s.phaseError.natAbs) : s.trackPhase = s.mainsSlew s.phaseError := by
  simp only [State.trackPhase, herr, decide_true, Bool.or_true, if_true]

theorem reacquire_slews (s : State) (h : s.phaseError.natAbs ≤ s.get F.MAINS_CFG.STEP_THR * 1024) :
    s.reacquire = State.mainsSlew { s with tb := { s.tb with reacq := false } } s.phaseError :=
  if_pos h

theorem reacquire_jumps (s : State) (h : s.get F.MAINS_CFG.STEP_THR * 1024 < s.phaseError.natAbs) :
    s.reacquire = (State.mainsSlew { s with tb := { s.tb with reacq := false } } 0).jumpBy s.phaseError false :=
  if_neg (Nat.not_le.2 h)

/-- What follows at a crossing once FREQ, and at the end of a holdover LOCK and QUAL, are up to date. -/
def crossed (s : State) : State :=
  if s.get F.TB_CTRL.SRC ≠ 3 then s
  else if s.tb.reacq then s.reacquire
  else if s.is F.MAINS_STAT.LOCK then s.trackPhase
  else s

theorem mainsZeroCrossing_in_holdover (s : State) (freq : Nat) (h : s.is F.MAINS_STAT.HOLDOVER = true) :
    exec (.mainsZeroCrossing freq) s = .next (crossed
      (let q := (((s.set F.MAINS_STAT.FREQ freq).set F.MAINS_STAT.HOLDOVER 0).set F.MAINS_STAT.LOCK 1).gainQual 3
       { q with tb := { q.tb with reacq := true } })) := by
  show execMainsZeroCrossing freq s = _
  simp only [execMainsZeroCrossing, h, if_true, crossed]

theorem mainsZeroCrossing_of_no_holdover (s : State) (freq : Nat) (h : s.is F.MAINS_STAT.HOLDOVER = false) :
    exec (.mainsZeroCrossing freq) s = .next (crossed (s.set F.MAINS_STAT.FREQ freq)) := by
  show execMainsZeroCrossing freq s = _
  simp only [execMainsZeroCrossing, h, Bool.false_eq_true, if_false, crossed]

/-! ### Writes of TB_CTRL (R33, R53) -/

theorem tbCtrlWrite_allowed (s : State) (rq : Requester) (w : Word) (h : canWrite rq R.TB_CTRL = true) :
    exec (.tbCtrlWrite rq w) s = .next (s.writeTbCtrl w) := by
  show execTbCtrlWrite rq w s = _
  simp only [execTbCtrlWrite, h, if_true]

/-- A write that changes neither the grain nor the source sets K alone. -/
theorem writeTbCtrl_horizon (s : State) (w : Word) (hg : bitsOf w 13 10 = s.get F.TB_CTRL.G)
    (hsrc : bitsOf w 2 0 = s.get F.TB_CTRL.SRC) :
    s.writeTbCtrl w = s.set F.TB_CTRL.K_M1 (bitsOf w 23 14) := by
  simp only [State.writeTbCtrl, State.tbG, hg, hsrc, if_true]

theorem writeTbCtrl_grain (s : State) (w : Word) (hg : bitsOf w 13 10 ≠ s.get F.TB_CTRL.G)
    (hsrc : bitsOf w 2 0 = s.get F.TB_CTRL.SRC) :
    s.writeTbCtrl w = if bitsOf w 13 10 ≤ 14 ∧ s.calEmpty = true
      then ((s.set F.TB_CTRL.K_M1 (bitsOf w 23 14)).set F.TB_CTRL.G (bitsOf w 13 10)).rebaseWalk
      else (s.set F.TB_CTRL.K_M1 (bitsOf w 23 14)).set F.TB_STAT.CFG_REJ 1 := by
  simp only [State.writeTbCtrl, State.tbG, if_neg hg, hsrc, if_true, Bool.and_eq_true, decide_eq_true_eq]

/-- The state in which a new source counts: nothing is held, and the mains or the chain is aligned where it is the source. -/
def sourceTaken (s : State) (src : Nat) : State :=
  let t := s.set F.TB_CTRL.SRC src
  { t with tb := { t.tb with
      held := false, reacq := decide (src = 3), chainAcq := decide (src = 4), slew := 0, slewN := 0 } }

theorem writeTbCtrl_source (s : State) (w : Word) (hg : bitsOf w 13 10 = s.get F.TB_CTRL.G)
    (hsrc : bitsOf w 2 0 ≠ s.get F.TB_CTRL.SRC) :
    s.writeTbCtrl w = if bitsOf w 2 0 ≤ 5 ∧ s.get (qualFld (bitsOf w 2 0)) = 1
      then (((sourceTaken (s.set F.TB_CTRL.K_M1 (bitsOf w 23 14)) (bitsOf w 2 0)).deassertL 332 1).farCheck).updLag
      else (s.set F.TB_CTRL.K_M1 (bitsOf w 23 14)).set F.TB_STAT.CFG_REJ 1 := by
  simp only [State.writeTbCtrl, State.tbG, hg, if_true, if_neg hsrc, Bool.and_eq_true, decide_eq_true_eq, beq_iff_eq,
    sourceTaken]

/-! ### The clauses on the timebase -/

theorem countedSteps : Claims.CountedSteps := by
  refine fun s st => ⟨fun h1 h2 hchain => ?_, fun n hsrc => ?_, stands_eq_false_iff s, fun _ => rfl, fun o n fwd hwf => ?_⟩
  · rw [countedStep_plain s st h1 h2 hchain]
    refine ⟨fun hidle => ?_, fun hsel hgo => ?_⟩
    · split
      · next hsel => rw [countBy_of_stands s _ _ (hidle.resolve_left (not_not_intro hsel))]
      · rfl
    · rw [if_pos hsel]
      refine ⟨fun hline => ?_, fun h3 => ?_, fun h4 => ?_⟩
      · have hne : st.src.val ≠ 3 ∧ st.src.val ≠ 4 := by rcases hline with h | h <;> rw [h] <;> decide
        rw [countBy_line s _ _ hgo hne.1 hne.2]
      · rw [h3]; exact congrArg _ (countBy_mains s false hgo)
      · rw [h4]; exact congrArg _ (countBy_chain s false hgo)
  · rw [countedStep_encoder s st n hsrc]
    have hne3 : n.val + 1 ≠ 3 := by omega
    have hne4 : n.val + 1 ≠ 4 := by omega
    have hq : (if st.overrate then s.overrateAt n else s).stands = s.stands := by
      split
      · exact overrateAt_stands s n
      · rfl
    refine ⟨fun hshort => by rw [if_pos hshort], fun hlong => ?_⟩
    rw [if_neg (Nat.not_lt.2 hlong), hsrc]
    refine ⟨fun hill => by rw [if_pos hill], fun hok hchain => ?_, fun hok hchain hsel => ?_⟩
    · simp only [hok, hchain, Bool.false_eq_true, if_false]
      refine ⟨fun hsel hgo => ?_, fun hidle => ?_⟩
      · rw [if_pos hsel, countBy_line _ _ _ (hq.trans hgo) hne3 hne4]
      · split
        · next hsel => rw [countBy_of_stands _ _ _ (hq.trans (hidle.resolve_left (not_not_intro hsel)))]
        · rfl
    · simp only [hok, hchain, Bool.false_eq_true, if_false, if_true, if_neg hsel]
  · have hr := State.wf_rwf hwf
    exact ⟨setCount_rd_lo s o n fwd hr, setCount_rd_hi s o n fwd hr, fun a => setCount_rd_other s o n fwd a⟩

theorem tickOutPulses : Claims.TickOutPulses := by
  refine fun s down n => ⟨fun hdown hlive hn => ?_, tickOut_silent s down n⟩
  rw [hdown]
  exact tickOut_pulses s n hlive hn

theorem sourceQualification : Claims.SourceQualification := by
  refine fun s src n freq => ⟨rfl, rfl, rfl, fun hdiff => ⟨?_, fun hrate => ?_⟩, fun hsel => ?_, fun hun => ?_,
    overrateClear_ends s n, rfl, fun hlock => ?_, fun hhold => ?_⟩
  · exact ⟨_, sourceQualLost_differential s src hdiff, by simp, rfl⟩
  · exact ⟨_, differentialInputValid_qualifies s src hdiff hrate, contains_filter_ne _ _, rfl⟩
  · exact ⟨loseQual_selected_holds s _ hsel, gainQual_selected_counts s _ hsel⟩
  · exact ⟨loseQual_unselected s _ hun, gainQual_unselected s _ hun⟩
  · show execMainsHoldoverEntry s = _
    simp only [execMainsHoldoverEntry, hlock, if_true]
  · show execMainsHoldoverExpiry s = _
    simp only [execMainsHoldoverExpiry, hhold, if_true]

theorem mainsCrossings : Claims.MainsCrossings := by
  refine fun s freq => ⟨fun hhold => ?_, fun hno => ?_, fun hsmall => ?_, fun hbig => ?_, trackPhase_within s, fun herr => ?_⟩
  · rw [mainsZeroCrossing_in_holdover s freq hhold]
    simp only [crossed, if_true, ite_not]
  · rw [mainsZeroCrossing_of_no_holdover s freq hno]
    refine ⟨fun hsrc => ?_, fun hsrc hacq => ?_, fun hsrc hacq => ?_⟩
    · simp only [crossed, if_pos hsrc]
    · simp only [crossed, if_neg (not_not_intro hsrc), hacq, if_true]
    · simp only [crossed, if_neg (not_not_intro hsrc), hacq, Bool.false_eq_true, if_false]
  · rw [reacquire_slews s hsmall]
    exact ⟨mainsSlew_slew _ _, mainsSlew_regs _ _, mainsSlew_records _ _⟩
  · exact ⟨_, reacquire_jumps s hbig, mainsSlew_slew _ _, rfl⟩
  · rw [trackPhase_beyond s herr]
    exact ⟨mainsSlew_slew _ _, mainsSlew_regs _ _⟩

theorem timebaseControl : Claims.TimebaseControl := by
  refine fun rq w s hrq => ?_
  simp only [tbCtrlWrite_allowed s rq w hrq]
  refine ⟨fun hg hsrc => ?_, fun hg hsrc => ?_, fun hg hsrc hbad => ?_, fun hg hsrc hle hqual => ?_⟩
  · rw [writeTbCtrl_horizon s w hg hsrc]
  · rw [writeTbCtrl_grain s w hg hsrc]
    refine ⟨fun hle hcal => ⟨by rw [if_pos ⟨hle, hcal⟩], rebaseWalk_lead _⟩, fun hbad => ?_⟩
    rw [if_neg]
    rintro ⟨hle, hcal⟩
    exact hbad.elim (Nat.not_lt.2 hle) (by simp [hcal])
  · rw [writeTbCtrl_source s w hg hsrc, if_neg]
    rintro ⟨hle, hqual⟩
    exact hbad.elim (Nat.not_lt.2 hle) (not_not_intro hqual)
  · rw [writeTbCtrl_source s w hg hsrc, if_pos ⟨hle, hqual⟩]
    exact ⟨sourceTaken (s.set F.TB_CTRL.K_M1 (bitsOf w 23 14)) (bitsOf w 2 0), rfl, rfl, rfl, rfl, rfl⟩

/-- Settles O19: each command's effect from its branch conditions, with over-rate leaving the TBC where it stands, the epoch
following the count through zero, and TB_CTRL's write split by what changes, the grain or the source. -/
theorem timebaseCounts : Obligations.TimebaseCounts :=
  ⟨countedSteps, tickOutPulses, sourceQualification, mainsCrossings, timebaseControl⟩

end Sys2Proof.Machine
end

section
/-!
Index pulses and the freeze of dispatch (R47 to R49): when an index is honoured, its error, its outcomes, and the
release; the obligation about them.
-/
namespace Sys2Proof.Machine

/-! ### An index (R35, R47) -/

theorem indexPulse_ignored (s : State) (i : Fin 3) (a b : Bool) (z : IndexEdge)
    (h : s.accepted i z.stable = false ∨ s.honoured i a b z.down = false) :
    exec (.indexPulse i a b z) s = .next s := by
  show execIndexPulse i a b z s = _
  have hno : (s.accepted i z.stable && s.honoured i a b z.down) = false := Bool.and_eq_false_iff.2 h
  simp only [execIndexPulse, hno, Bool.false_eq_true, if_false]

theorem indexPulse_honoured (s : State) (i : Fin 3) (a b : Bool) (z : IndexEdge) (hacc : s.accepted i z.stable = true)
    (hhon : s.honoured i a b z.down = true) :
    exec (.indexPulse i a b z) s =
      let e := indexError (s.rd (R.IDX_VAL i)) s.idxCount (s.rd (R.IDX_PERIOD i))
      .next ((s.wr (R.IDX_ERR i) (BitVec.ofInt 32 e)).indexOutcome i s.idxCount e) := by
  show execIndexPulse i a b z s = _
  simp only [execIndexPulse, hacc, hhon, Bool.and_self, if_true, wordOf]

/-- TICK_IN has no filter; a level of an encoder's index is accepted once stable for FILT samples. -/
theorem accepted_iff (s : State) (i : Fin 3) (n : Nat) :
    s.accepted i n = true ↔ i = 2 ∨ s.get (F.SRC_CFG.FILT i) ≤ n := by
  simp only [State.accepted, Bool.or_eq_true, beq_iff_eq, decide_eq_true_eq, Fin.ext_iff, Fin.val_two]

/-! ### The outcome of an honoured index (R48, R49) -/

section
variable (s : State) (i : Nat) (c : Word) (e : Int)

theorem indexOutcome_frozen (h : s.is F.TB_STAT.HOLD = true) : s.indexOutcome i c e =
    if (s.get (F.IDX_TOL.TOL i) : Int) < (e.natAbs : Int) then s.inc (F.SRC_CNT.OUTSIDE i) else s := by
  simp only [State.indexOutcome, State.frozen, h, if_true, decide_eq_true_eq]

theorem indexOutcome_exact (h : s.is F.TB_STAT.HOLD = false) : s.indexOutcome i c 0 = s := by
  simp only [State.indexOutcome, State.frozen, h, Bool.false_eq_true, if_false, if_true]

theorem indexOutcome_within (h : s.is F.TB_STAT.HOLD = false) (he : e ≠ 0)
    (hin : ¬ (s.get (F.IDX_TOL.TOL i) : Int) < (e.natAbs : Int)) :
    s.indexOutcome i c e = (s.inc (F.SRC_CNT.SILENT i)).idxJump i e true := by
  simp only [State.indexOutcome, State.frozen, h, Bool.false_eq_true, if_false, if_neg he, hin, decide_false, Bool.not_false,
    if_true]

variable (h : s.is F.TB_STAT.HOLD = false) (he : e ≠ 0) (hout : (s.get (F.IDX_TOL.TOL i) : Int) < (e.natAbs : Int))
include h he hout

theorem indexOutcome_snap (hpol : s.get (F.SRC_CFG.POLICY i) = 0) :
    s.indexOutcome i c e = (s.inc (F.SRC_CNT.OUTSIDE i)).idxJump i e false := by
  simp only [State.indexOutcome, State.frozen, h, Bool.false_eq_true, if_false, if_neg he, hout, decide_true, Bool.not_true,
    hpol]

theorem indexOutcome_hold (hpol : s.get (F.SRC_CFG.POLICY i) = 1) :
    s.indexOutcome i c e = ((((s.inc (F.SRC_CNT.OUTSIDE i)).set F.TB_STAT.HOLD 1).set F.TB_STAT.HOLD_SRC
      (srcOfIdx i)).assertL 332 2 i) := by
  simp only [State.indexOutcome, State.frozen, h, Bool.false_eq_true, if_false, if_neg he, hout, decide_true, Bool.not_true,
    hpol]

theorem indexOutcome_trust (hpol : 1 < s.get (F.SRC_CFG.POLICY i)) :
    ∃ k, s.indexOutcome i c e =
      (s.inc (F.SRC_CNT.OUTSIDE i)).fresh.2.log k [BitVec.ofNat 32 i, c, BitVec.ofInt 32 e] := by
  obtain ⟨p, hp⟩ : ∃ p, s.get (F.SRC_CFG.POLICY i) = p + 2 := ⟨_, (Nat.sub_add_cancel hpol).symm⟩
  refine ⟨(s.inc (F.SRC_CNT.OUTSIDE i)).fresh.1 % 256, ?_⟩
  simp only [State.indexOutcome, State.frozen, h, Bool.false_eq_true, if_false, if_neg he, hout, decide_true, Bool.not_true,
    hp, wordOf]

end

theorem idxJump_selected (s : State) (i : Nat) (e : Int) (silent : Bool) (hsel : s.get F.TB_CTRL.SRC = srcOfIdx i)
    (hchain : s.feedsChain (srcOfIdx i) = false) : s.idxJump i e silent = s.jumpBy e silent := by
  simp only [State.idxJump, hchain, Bool.false_eq_true, if_false, if_pos hsel]

/-! ### The error of an index (R47) -/

/-- An i32 survives its word. -/
theorem sext_trunc_32 (v : Int) (hlo : -2 ^ 31 ≤ v) (hhi : v < 2 ^ 31) : sext 32 (trunc 32 v) = v := by
  have hword : (trunc 32 v : Int) = v % 2 ^ 32 := by
    simp only [trunc]
    omega
  simp only [sext]
  generalize trunc 32 v = u at hword ⊢
  split <;> omega

theorem indexError_no_period (v c : Word) : indexError v c 0 = (v - c).toInt := rfl

theorem indexError_period (v c p : Word) (h0 : p ≠ 0) (hp : p.toNat < 2 ^ 31) :
    indexError v c p =
      let r := (v - c).toInt % (p.toNat : Int)
      if (p.toNat : Int) / 2 < r then r - p.toNat else r := by
  have hpos : 0 < (p.toNat : Int) := by
    have : p.toNat ≠ 0 := fun h => h0 (BitVec.eq_of_toNat_eq h)
    omega
  have hr0 := Int.emod_nonneg (v - c).toInt (Int.ne_of_gt hpos)
  have hrp := Int.emod_lt_of_pos (v - c).toInt hpos
  simp only [indexError, if_neg h0]
  generalize (v - c).toInt % (p.toNat : Int) = r at *
  refine sext_trunc_32 _ ?_ ?_ <;> split <;> omega

/-! ### The release (R49) -/

theorem tbReleaseGo_allowed (s : State) (rq : Requester) (snap : Bool) (h : canWrite rq R.TB_RELEASE = true) :
    exec (.tbReleaseGo rq snap) s = .next (s.release snap) := by
  show execTbReleaseGo rq snap s = _
  simp only [execTbReleaseGo, h, if_true]

theorem release_of_no_freeze (s : State) (snap : Bool) (h : s.is F.TB_STAT.HOLD = false) : s.release snap = s :=
  if_pos (by simp only [State.frozen, h, Bool.not_false])

theorem releaseFires_of_no_records (s : State) (h : s.records = []) : s.releaseFires = s := by
  simp only [State.releaseFires, h, List.filter_nil, State.inOrder, List.foldr_nil, List.foldl_nil]

theorem heldSpans_of_no_records (s : State) (h : s.records = []) : s.heldSpans = s := by
  simp only [State.heldSpans, h, List.filter_nil, State.inOrder, List.foldr_nil, List.foldl_nil]

theorem waitcCheck_of_no_wait (s : State) (n : Word) (kind : Nat) (x : Exec) (h : s.waitOf x = .none) :
    s.waitcCheck n kind x = s := by
  simp only [State.waitcCheck, h]

theorem sweepCheck_of_no_run (s : State) (o n : Word) (kind : Nat) (c : Fin 24) (h : s.is (F.MS_SWP_CTRL.RUN c) = false) :
    s.sweepCheck o n kind c = s := by
  simp only [State.sweepCheck, h, Bool.not_false, Bool.true_or, if_true]

/-- A fold whose steps all leave the state as it is. -/
theorem foldl_fixed {α : Type} {g : State → α → State} {s : State} (hg : ∀ a, g s a = s) (l : List α) : l.foldl g s = s := by
  induction l with
  | nil => rfl
  | cons a l ih => rw [List.foldl_cons, hg a, ih]

/-- The state of a release before anything that waited for it goes on. -/
def unfrozen (s : State) : State := ((s.set F.TB_STAT.HOLD 0).set F.TB_STAT.HOLD_SRC 0).deassertL 332 2

theorem unfrozen_waitOf (s : State) (x : Exec) : (unfrozen s).waitOf x = s.waitOf x := by
  cases x <;> rfl

theorem release_of_freeze (s : State) (snap : Bool) (h : s.is F.TB_STAT.HOLD = true) :
    s.release snap =
      let e := match idxOfSrc (s.get F.TB_STAT.HOLD_SRC) with
        | some i => s.geti (F.IDX_ERR.ERR i)
        | none => 0
      allCh.foldl (fun s c => s.sweepCheck s.count s.count 1 c)
        (allExec.foldl (fun s x => s.waitcCheck s.count 1 x)
          (unfrozen (if snap then s.jumpBy e false else s)).releaseFires.heldSpans) :=
  if_neg (by simp only [State.frozen, h, Bool.not_true, Bool.false_eq_true, not_false_eq_true])

/-- With no record, no wait and no sweep nothing goes on at the release. -/
theorem release_of_nothing_waiting (s : State) (h : s.is F.TB_STAT.HOLD = true) (hrec : s.records = [])
    (hwait : ∀ x, s.waitOf x = .none) (hrun : ∀ c : Fin 24, (unfrozen s).is (F.MS_SWP_CTRL.RUN c) = false) :
    s.release false = unfrozen s := by
  have hrec' : (unfrozen s).records = [] := hrec
  rw [release_of_freeze s false h]
  simp only [Bool.false_eq_true, if_false, releaseFires_of_no_records _ hrec', heldSpans_of_no_records _ hrec']
  rw [foldl_fixed fun x => waitcCheck_of_no_wait _ _ _ x ((unfrozen_waitOf s x).trans (hwait x)),
    foldl_fixed fun c => sweepCheck_of_no_run _ _ _ _ c (hrun c)]

/-! ### The clauses on index pulses -/

theorem indexOutcomes : Claims.IndexOutcomes := by
  intro i a b down silent n s
  refine ⟨fun hi hshort => ?_, fun hno => indexPulse_ignored s i a b _ (.inr hno), fun hhon hacc => ?_,
    fun hsel hchain => idxJump_selected s i _ silent hsel hchain, fun he => if_neg he⟩
  · refine indexPulse_ignored s i a b _ (.inl (Bool.eq_false_iff.2 fun hacc => ?_))
    exact ((accepted_iff s i n).1 hacc).elim hi (Nat.not_le.2 hshort)
  · have hgo := indexPulse_honoured s i a b ⟨down, n⟩ ((accepted_iff s i n).2 hacc) hhon
    simp only at hgo
    simp only [hgo]
    refine ⟨fun hold => ?_, fun hfree => ⟨fun he => ?_, fun he hin => ?_, fun he hout hpol => ?_, fun he hout hpol => ?_,
      fun he hout hpol _ => ?_⟩⟩
    · rw [indexOutcome_frozen _ _ _ _ hold]
    · rw [he] at hfree ⊢
      rw [indexOutcome_exact _ _ _ hfree]
    · rw [indexOutcome_within _ _ _ _ hfree he hin]
    · rw [indexOutcome_snap _ _ _ _ hfree he hout hpol]
    · rw [indexOutcome_hold _ _ _ _ hfree he hout hpol]
    · obtain ⟨k, hk⟩ := indexOutcome_trust _ i s.idxCount _ hfree he hout hpol
      exact ⟨k, congrArg _ hk⟩

theorem indexError_nearest : Claims.IndexError :=
  fun v c p => ⟨indexError_no_period v c, indexError_period v c p⟩

theorem releaseOfTheFreeze : Claims.ReleaseOfTheFreeze := by
  intro rq snap s hrq
  simp only [tbReleaseGo_allowed s rq snap hrq]
  refine ⟨fun hno => ?_, fun hold => ?_, fun hold hsnap hrec hwait hrun => ?_⟩
  · rw [release_of_no_freeze s snap hno]
  · exact congrArg _ (release_of_freeze s snap hold)
  · subst hsnap
    exact congrArg _ (release_of_nothing_waiting s hold hrec hwait hrun)

/-- Settles O20: an index's command is `indexOutcome` at its error, which branches by the freeze, the tolerance and the
policy; a period of below 2^31 keeps the error an i32; a release goes on with what waited, in the spec's order. -/
theorem indexPulses : Obligations.IndexPulses := ⟨indexOutcomes, indexError_nearest, releaseOfTheFreeze⟩

end Sys2Proof.Machine
end

section
/-!
Events (R41, R46, R56 to R59, R65): the half-range rule, the walker and the overflow list, fire reports; the general
timers (R68, R69); the obligation about them.
-/
namespace Sys2Proof.Machine

/-! ### The half-range rule (R41) -/

theorem reached_up_iff (v n : Word) : reached true v n = true ↔ (n - v).toNat < 2 ^ 31 := decide_eq_true_iff

theorem reached_down_iff (v n : Word) : reached false v n = true ↔ (v - n).toNat < 2 ^ 31 := decide_eq_true_iff

theorem reached_self (up : Bool) (v : Word) : reached up v v = true := by
  cases up <;> simp [reached]

/-! ### The walker (R46, R58, R59) -/

theorem walk_of_freeze (s : State) (h : s.is F.TB_STAT.HOLD = true) : s.walk = s := if_pos h

theorem walk_of_turn (s : State) (h : s.is F.TB_STAT.HOLD = false) (hdir : s.dirDown ≠ s.tb.walkDown) :
    s.walk = (s.turnWalk.visit (s.turnWalk.bucketOf s.turnWalk.count)).updLag := by
  simp only [State.walk, State.frozen, h, Bool.false_eq_true, if_false, bne_iff_ne.2 hdir, if_true]

section
variable (s : State) (h : s.is F.TB_STAT.HOLD = false) (hdir : s.dirDown = s.tb.walkDown)
include h hdir

theorem walk_of_span (p : Span) (l : List Span) (hsp : s.settleWalk.tb.spans = p :: l) :
    s.walk = (s.settleWalk.walkSpan p l).updLag := by
  simp only [State.walk, State.frozen, h, Bool.false_eq_true, if_false, hdir, bne_self_eq_false, hsp]

theorem walk_of_front (hsp : s.settleWalk.tb.spans = []) (hlead : s.settleWalk.tb.lead < s.settleWalk.tb.walkK) :
    s.walk = ((s.settleWalk.setLead (s.settleWalk.tb.lead + 1)).visit
      ((s.settleWalk.setLead (s.settleWalk.tb.lead + 1)).get F.TB_WALK.FRONT)).updLag := by
  simp only [State.walk, State.frozen, h, Bool.false_eq_true, if_false, hdir, bne_self_eq_false, hsp, if_pos hlead]

theorem walk_of_rest (hsp : s.settleWalk.tb.spans = []) (hlead : (s.settleWalk.tb.walkK : Int) ≤ s.settleWalk.tb.lead) :
    s.walk = s.settleWalk.updLag := by
  simp only [State.walk, State.frozen, h, Bool.false_eq_true, if_false, hdir, bne_self_eq_false, hsp,
    if_neg (Int.not_lt.2 hlead)]

end

theorem promote_of_not_due (s : State) (r : Record) (h : s.calDue r = false) :
    s.promote r = if s.promotable r then s.armRec r (s.effUp r) else s := by
  simp only [State.promote, h, Bool.false_eq_true, if_false]

theorem promote_of_held (s : State) (r : Record) (h : s.calDue r = true) (hheld : r.held = true) :
    s.promote r = s.fireRec r true 3 := by
  simp only [State.promote, h, hheld, if_true]

/-! ### The overflow list (R65) and fire reports (R56) -/

/-- The records of the overflow list, in compare order (R560). -/
def overflowing (s : State) : List Record := s.inOrder s.count (s.records.filter fun r => r.place == .overflow)

theorem overflowArm_arms (s : State) (r : Record) (h : (overflowing s).find? (fun r => s.slotsFree r) = some r) :
    exec .overflowArm s = .next (s.armFromOverflow r) := by
  rw [overflowing] at h
  show execOverflowArm s = _
  simp only [execOverflowArm, h]

theorem overflowArm_of_none_free (s : State) (h : (overflowing s).find? (fun r => s.slotsFree r) = none) :
    exec .overflowArm s = .next s := by
  rw [overflowing] at h
  show execOverflowArm s = _
  simp only [execOverflowArm, h]

/-- A report that has reached the hub is gone, and the last one returns its record to the pool. -/
def reportTaken (s : State) (f : FireRep) (l : List FireRep) : State :=
  { s with
    fireReps := l
    records := if f.last then s.records.filter (fun r => !(r.idx == f.idx && r.place == .reporting)) else s.records }

/-- The payload of FIRE: the record's index, and LATE in bit 31. -/
def firePayload (f : FireRep) : Word := BitVec.ofNat 32 (f.idx + b2n f.late * 2 ^ 31)

section
variable (s : State) (f : FireRep) (l : List FireRep) (h : s.fireReps = f :: l)
include h

theorem fireReport_silent (hn : f.notify = false) : exec .fireReport s = .next (reportTaken s f l) := by
  show execFireReport s = _
  simp only [execFireReport, h, hn, Bool.false_eq_true, if_false, reportTaken]

theorem fireReport_to_owner (t : Fin 64) (hn : f.notify = true) (ho : f.owner = t.val) (hp : f.placer = none) :
    exec .fireReport s = .next ((reportTaken s f l).signalFire t (firePayload f)) := by
  have ht : thr? f.owner = some t := by simp [thr?, ho]
  show execFireReport s = _
  simp only [execFireReport, h, hn, if_true, ht, hp, reportTaken, firePayload]

theorem fireReport_to_placer (t : Fin 64) (rq : Requester) (hn : f.notify = true) (ho : f.owner = t.val)
    (hp : f.placer = some rq) (hslow : ((reportTaken s f l).signalFire t (firePayload f)).slow = false) :
    exec .fireReport s =
      .next (((reportTaken s f l).signalFire t (firePayload f)).noticeTo rq 1 0x0580 [firePayload f]) := by
  have ht : thr? f.owner = some t := by simp [thr?, ho]
  simp only [reportTaken, firePayload] at hslow
  show execFireReport s = _
  simp only [execFireReport, h, hn, if_true, ht, hp, hslow, Bool.false_eq_true, if_false, reportTaken, firePayload]

end

/-! ### Captures of a general timer (R68) -/

theorem rd_with_gts (s : State) (g : Vector GtState 16) (a : Nat) : ({ s with gts := g } : State).rd a = s.rd a := rfl

section
variable (s : State) (n : Fin 16)

/-- OVERRUN is set where the former capture has not been read. -/
def overrunMarked : State := if s.is (F.GT_STAT.VALID n) then s.set (F.GT_STAT.OVERRUN n) 1 else s

theorem overrunMarked_rwf (h : s.rwf) : (overrunMarked s n).rwf := by
  simp only [overrunMarked]
  split
  · exact s.set_rwf _ _ h
  · exact h

theorem overrunMarked_get (h : s.rwf) : (overrunMarked s n).get (F.GT_STAT.OVERRUN n) =
    if s.is (F.GT_STAT.VALID n) then 1 else s.get (F.GT_STAT.OVERRUN n) := by
  simp only [overrunMarked]
  split
  · exact s.get_set (F.GT_STAT.OVERRUN n) 1 h (by simp [F.GT_STAT.OVERRUN]) (by simp [F.GT_STAT.OVERRUN])
  · rfl

/-- The extended count in the capture registers. -/
def countCaptured : State :=
  ((overrunMarked s n).wr (R.GT_CAP_LO n) (s.rd R.TB_EXT_LO)).wr (R.GT_CAP_HI n) (s.rd R.TB_EXT_HI)

theorem countCaptured_rwf (h : s.rwf) : (countCaptured s n).rwf :=
  State.wr_rwf _ _ _ (State.wr_rwf _ _ _ (overrunMarked_rwf s n h))

theorem capture_eq : ∃ g, s.capture n = { (countCaptured s n).set (F.GT_STAT.VALID n) 1 with gts := g } := ⟨_, rfl⟩

theorem capture_rd (a : Nat) : (s.capture n).rd a = ((countCaptured s n).set (F.GT_STAT.VALID n) 1).rd a := by
  obtain ⟨g, hg⟩ := capture_eq s n
  rw [hg]
  exact rd_with_gts _ g a

theorem capture_get (f : Fld) : (s.capture n).get f = ((countCaptured s n).set (F.GT_STAT.VALID n) 1).get f :=
  get_congr f (capture_rd s n f.addr)

theorem gtCap_addrs : R.GT_CAP_LO n ≠ R.GT_CAP_HI n ∧ R.GT_CAP_LO n ≠ R.GT_STAT n ∧ R.GT_CAP_HI n ≠ R.GT_STAT n := by
  simp only [R.GT_CAP_LO, R.GT_CAP_HI, R.GT_STAT]
  omega

/-- What a capture sets: the extended count and its device time, VALID, and OVERRUN where VALID stood. -/
structure Captured (s : State) (n : Fin 16) (u : State) : Prop where
  lo      : u.rd (R.GT_CAP_LO n) = s.rd R.TB_EXT_LO
  hi      : u.rd (R.GT_CAP_HI n) = s.rd R.TB_EXT_HI
  valid   : u.get (F.GT_STAT.VALID n) = 1
  dtime   : u.gts[n].dtime = s.dtime
  overrun : u.get (F.GT_STAT.OVERRUN n) = if s.is (F.GT_STAT.VALID n) then 1 else s.get (F.GT_STAT.OVERRUN n)

theorem capture_captured (h : s.rwf) : Captured s n (s.capture n) := by
  obtain ⟨hlohi, hlost, hhist⟩ := gtCap_addrs n
  have hc := countCaptured_rwf s n h
  refine ⟨?_, ?_, ?_, ?_, ?_⟩
  · rw [capture_rd, State.set_rd_other _ _ _ _ hlost, countCaptured, State.rd_wr_other _ _ _ _ hlohi,
      State.rd_wr _ _ _ (overrunMarked_rwf s n h)]
  · rw [capture_rd, State.set_rd_other _ _ _ _ hhist, countCaptured,
      State.rd_wr _ _ _ (State.wr_rwf _ _ _ (overrunMarked_rwf s n h))]
  · rw [capture_get, State.get_set _ _ _ hc (Nat.le_refl _) (by simp [F.GT_STAT.VALID])]
    rfl
  · simp [State.capture]
  · have hset := State.get_set_apart (countCaptured s n) (F.GT_STAT.VALID n) (F.GT_STAT.OVERRUN n) 1 hc rfl
      (.inr (Nat.lt_succ_self 30)) (Nat.le_refl _) (Nat.le_refl _)
    rw [capture_get, hset, countCaptured, get_congr _ (State.rd_wr_other _ _ _ _ hhist.symm),
      get_congr _ (State.rd_wr_other _ _ _ _ hlost.symm), overrunMarked_get s n h]

theorem gtCapture_admitted (falling : Bool) (hsrc : s.get (F.GT_CFG.CAP_SRC n) < 20)
    (hedge : s.get (F.GT_CFG.EDGE n) = 2 ∨ s.get (F.GT_CFG.EDGE n) = b2n falling) :
    exec (.gtCapture n falling) s = .next (s.capture n) := by
  have he : (s.get (F.GT_CFG.EDGE n) == 2 || (s.get (F.GT_CFG.EDGE n) == 1) == falling) = true := by
    rcases hedge with he | he <;> rw [he]
    · rfl
    · cases falling <;> rfl
  show execGtCapture n falling s = _
  simp only [execGtCapture, hsrc, he, decide_true, Bool.and_self, if_true]

theorem gtCapture_no_source (falling : Bool) (hsrc : 20 ≤ s.get (F.GT_CFG.CAP_SRC n)) :
    exec (.gtCapture n falling) s = .next s := by
  show execGtCapture n falling s = _
  simp only [execGtCapture, Nat.not_lt.2 hsrc, decide_false, Bool.false_and, Bool.false_eq_true, if_false]

theorem gtSwcap_captures (rq : Requester) (hrq : canWrite rq (R.GT_STAT n) = true)
    (hsrc : s.get (F.GT_CFG.CAP_SRC n) = 20) : exec (.gtSwcap rq n) s = .next (s.capture n) := by
  show execGtSwcap rq n s = _
  simp only [execGtSwcap, hrq, hsrc, beq_self_eq_true, Bool.and_self, if_true]

/-! ### The read of a capture, and the compare (R42, R69) -/

theorem setReq_req (rq : Requester) (x : ReqState) : (s.setReq rq x).req rq = x := by
  simp [State.req, State.setReq]

theorem readCap_valid (rq : Requester) (h : s.rwf) : (s.readCap rq n).get (F.GT_STAT.VALID n) = 0 :=
  State.get_set (s.modReq rq _) (F.GT_STAT.VALID n) 0 h (Nat.le_refl _) (Nat.lt_succ_self 31)

theorem readCap_shadow (rq : Requester) :
    ((s.readCap rq n).req rq).rsh = some (R.GT_CAP_LO n, s.rd (R.GT_CAP_HI n)) := by
  have hreq : (s.readCap rq n).req rq = { s.req rq with rsh := some (R.GT_CAP_LO n, s.rd (R.GT_CAP_HI n)) } :=
    setReq_req s rq _
  rw [hreq]

/-- The compare of timer n is armed at v, upward, before its rule holds (R42). -/
def cmpArmed (v : Word) : State :=
  { ((s.wr (R.GT_CMP n) v).set (F.GT_STAT.ARMED n) 1) with gts := s.gts.set n { s.gts[n] with up := true, early := true } }

theorem cmpArmed_rd (v : Word) (a : Nat) :
    (cmpArmed s n v).rd a = ((s.wr (R.GT_CMP n) v).set (F.GT_STAT.ARMED n) 1).rd a :=
  rd_with_gts _ _ a

theorem cmpArmed_cmp (v : Word) (h : s.rwf) : (cmpArmed s n v).rd (R.GT_CMP n) = v := by
  have hne : R.GT_CMP n ≠ (F.GT_STAT.ARMED n).addr := by simp only [R.GT_CMP, F.GT_STAT.ARMED, R.GT_STAT]; omega
  rw [cmpArmed_rd, State.set_rd_other _ _ _ _ hne, State.rd_wr _ _ _ h]

theorem cmpArmed_armed (v : Word) (h : s.rwf) : (cmpArmed s n v).get (F.GT_STAT.ARMED n) = 1 :=
  (get_congr _ (cmpArmed_rd s n v _)).trans
    (State.get_set _ (F.GT_STAT.ARMED n) 1 (s.wr_rwf _ _ h) (Nat.le_refl _) (by simp [F.GT_STAT.ARMED]))

theorem cmpArmed_gts (v : Word) : (cmpArmed s n v).gts[n] = { s.gts[n] with up := true, early := true } := by
  simp [cmpArmed]

/-- A compare value that is not yet reached is armed. -/
theorem gtCmpWrite_armed (rq : Requester) (v : Word) (hrq : canWrite rq (R.GT_CMP n) = true)
    (hdir : s.get (F.GT_CFG.CMP_DIR n) = 0) (hnot : ¬ (s.rd R.TB_EXT_LO - v).toNat < 2 ^ 31) :
    exec (.gtCmpWrite rq n v) s = .next (cmpArmed s n v) := by
  have hhit : reached true v s.count = false := Bool.eq_false_iff.2 fun h => hnot ((reached_up_iff v s.count).1 h)
  show execGtCmpWrite rq n v s = _
  simp only [execGtCmpWrite, hrq, State.writeGtCmp, hdir, if_true, hhit, Bool.false_and, Bool.false_eq_true, if_false,
    Bool.not_false, cmpArmed]

end

/-! ### The clauses on events and timers -/

theorem reachedRule : Claims.ReachedRule :=
  fun v n => ⟨reached_up_iff v n, reached_down_iff v n, reached_self true v, reached_self false v⟩

theorem walkerSteps : Claims.WalkerSteps := by
  intro s
  have hwalk : exec .walkerBucketStep s = .next s.walk := rfl
  simp only [hwalk]
  refine ⟨fun hold => ?_, fun hfree hdir => ?_, fun hfree hdir => ⟨fun p l hsp => ?_, fun hsp hlead => ?_, fun hsp hlead => ?_⟩,
    fun r => ⟨promote_of_not_due s r, promote_of_held s r⟩, rfl, fun r hr => ?_, fun hr => ?_⟩
  · rw [walk_of_freeze s hold]
  · rw [walk_of_turn s hfree hdir]
  · rw [walk_of_span s hfree hdir p l hsp]
  · rw [walk_of_front s hfree hdir hsp hlead]
  · rw [walk_of_rest s hfree hdir hsp hlead]
  · exact overflowArm_arms s r hr
  · exact overflowArm_of_none_free s hr

theorem fireReports : Claims.FireReports :=
  fun f l s h => ⟨fireReport_silent s f l h, fireReport_to_owner s f l h, fun t rq hn ho hp =>
    fireReport_to_placer s f l h t rq hn ho hp⟩

theorem generalTimers : Claims.GeneralTimers := by
  intro rq n v s hwf cap
  have hr := State.wf_rwf hwf
  obtain ⟨hlo, hhi, hvalid, htime, hover⟩ := capture_captured s n hr
  have hcap : cap (s.capture n) :=
    ⟨hlo, hhi, hvalid, htime, fun hv => by rw [hover, if_pos hv], fun hv => by rw [hover, hv, if_neg Bool.false_ne_true]⟩
  refine ⟨fun falling hsrc hedge => ⟨_, gtCapture_admitted s n falling hsrc hedge, hcap⟩,
    fun falling hsrc => gtCapture_no_source s n falling hsrc,
    fun hrq hsrc => ⟨_, gtSwcap_captures s n rq hrq hsrc, hcap⟩,
    ⟨s.readCap rq n, rfl, readCap_valid s n rq hr, readCap_shadow s n rq, rfl⟩, fun hrq hdir hnot => ?_⟩
  exact ⟨_, gtCmpWrite_armed s n rq v hrq hdir hnot, cmpArmed_cmp s n v hr, cmpArmed_armed s n v hr, cmpArmed_gts s n v⟩

/-- Settles O21: the rule of `reached`, the walker by its branches (freeze, turn, span, front), a report by NOTIFY and its
placer, and the registers that a capture, its read and an armed compare leave. -/
theorem eventsAndTimers : Obligations.EventsAndTimers := ⟨reachedRule, walkerSteps, fireReports, generalTimers⟩

end Sys2Proof.Machine
end

section
/-!
Rules of the operations that a channel's power stage shares (chapters 03 and 13): the channel's own state, a field through
the writes of an operation, what stays within the channel's block, the legs, the line, and every switch opening.
-/
namespace Sys2Proof.Machine

/-! ### A command that one condition decides -/

theorem next_if_pos {p : Prop} [Decidable p] (s t : State) (h : p) :
    (Host.Outcome.next (if p then s else t) : Out) = .next s := congrArg _ (if_pos h)

theorem next_if_neg {p : Prop} [Decidable p] (s t : State) (h : ¬ p) :
    (Host.Outcome.next (if p then s else t) : Out) = .next t := congrArg _ (if_neg h)

/-! ### A channel's own state -/

@[simp] theorem State.set_ch (s : State) (f : Fld) (v : Nat) (e : Fin 24) : (s.set f v).ch e = s.ch e :=
  congrArg (fun l : Vector Chan 24 => l[e]) (s.set_chans f v)

@[simp] theorem State.wr_ch (s : State) (a : Nat) (w : Word) (e : Fin 24) : (s.wr a w).ch e = s.ch e :=
  congrArg (fun l : Vector Chan 24 => l[e]) (s.wr_chans a w)

@[simp] theorem State.modCh_ch (s : State) (c : Fin 24) (g : Chan → Chan) : (s.modCh c g).ch c = g (s.ch c) := by
  simp [State.ch]

theorem State.modCh_ch_other (s : State) (c e : Fin 24) (g : Chan → Chan) (h : e ≠ c) : (s.modCh c g).ch e = s.ch e := by
  have hne : ¬ c.val = e.val := fun he => h (Fin.ext he.symm)
  simp [State.ch, Vector.getElem_set_ne, hne]

/-! ### A field through a chain of writes -/

/-- Registers are in canonical form, and field g reads v. -/
structure Reads (g : Fld) (v : Nat) (s : State) : Prop where
  rwf : s.rwf
  get : s.get g = v

/-- The two fields lie in different bits, whatever their registers are. -/
def Fld.apart (f g : Fld) : Bool :=
  decide (f.lo ≤ f.hi) && decide (g.lo ≤ g.hi) && (decide (f.hi < g.lo) || decide (g.hi < f.lo))

theorem reads_set {s : State} (h : s.rwf) (f : Fld) (v : Nat) (hf : decide (f.lo ≤ f.hi ∧ f.hi < 32) = true)
    (hv : v % 2 ^ f.width = v) : Reads f v (s.set f v) := by
  obtain ⟨hlo, hhi⟩ := of_decide_eq_true hf
  exact ⟨s.set_rwf f v h, (s.get_set f v h hlo hhi).trans hv⟩

section
variable {g : Fld} {v : Nat} {s : State} (k : Reads g v s)
include k

theorem Reads.set_other (f : Fld) (w : Nat) (h : g.addr ≠ f.addr) : Reads g v (s.set f w) :=
  ⟨s.set_rwf f w k.rwf, (s.get_set_other f g w h).trans k.get⟩

theorem Reads.set_apart (f : Fld) (w : Nat) (h : f.apart g = true) : Reads g v (s.set f w) := by
  by_cases ha : g.addr = f.addr
  · simp only [Fld.apart, Bool.and_eq_true, Bool.or_eq_true, decide_eq_true_eq] at h
    obtain ⟨⟨hf, hg⟩, hfg⟩ := h
    exact ⟨s.set_rwf f w k.rwf, (s.get_set_apart f g w k.rwf ha hfg hf hg).trans k.get⟩
  · exact k.set_other f w ha

theorem Reads.of_regs {t : State} (h : t.regs = s.regs) : Reads g v t := by
  obtain ⟨hwf, hget⟩ := k
  simp only [State.get, State.rd] at hget
  refine ⟨?_, ?_⟩
  · rwa [State.rwf, h]
  · rwa [State.get, State.rd, h]

theorem Reads.modCh (c : Fin 24) (x : Chan → Chan) : Reads g v (s.modCh c x) := ⟨k.rwf, k.get⟩

end

/-! ### What stays within the block of a channel -/

/-- The registers of channel c. -/
def InBlock (c : Fin 24) (a : Nat) : Prop := 0x200000 + 0x1000 * c.val ≤ a ∧ a < 0x201000 + 0x1000 * c.val

theorem inBlock_inj {c e : Fin 24} {a : Nat} (hc : InBlock c a) (he : InBlock e a) : e = c := by
  simp only [InBlock] at hc he
  omega

/-- Registers outside the block of channel c, other channels and memory stay, and the canonical form is kept. -/
structure OnlyChannel (c : Fin 24) (s t : State) : Prop where
  regs  : ∀ a, ¬ InBlock c a → t.rd a = s.rd a
  chans : ∀ e, e ≠ c → t.ch e = s.ch e
  mem   : t.mem = s.mem
  wf    : s.wf = true → t.wf = true

theorem OnlyChannel.refl (c : Fin 24) (s : State) : OnlyChannel c s s := ⟨fun _ _ => rfl, fun _ _ => rfl, rfl, id⟩

section
variable {c : Fin 24} {s t : State} (k : OnlyChannel c s t)
include k

theorem OnlyChannel.set (f : Fld) (v : Nat) (h : InBlock c f.addr) : OnlyChannel c s (t.set f v) :=
  ⟨fun a ha => (t.set_rd_other f v a fun he => ha (he ▸ h)).trans (k.regs a ha), k.chans, k.mem,
    fun hw => t.set_wf f v (k.wf hw)⟩

theorem OnlyChannel.modCh (g : Chan → Chan) : OnlyChannel c s (t.modCh c g) :=
  ⟨k.regs, fun e he => (t.modCh_ch_other c e g he).trans (k.chans e he), k.mem, k.wf⟩

end

theorem inBlock_psStat (c : Fin 24) : InBlock c (R.PS_STAT c) := by simp only [InBlock, R.PS_STAT]; omega
theorem inBlock_rgStat (c : Fin 24) : InBlock c (R.RG_STAT c) := by simp only [InBlock, R.RG_STAT]; omega
theorem inBlock_msStage (c : Fin 24) : InBlock c (R.MS_STAGE c) := by simp only [InBlock, R.MS_STAGE]; omega
theorem inBlock_lnStat (c : Fin 24) : InBlock c (R.LN_STAT c) := by simp only [InBlock, R.LN_STAT]; omega
theorem inBlock_lnLatch (c : Fin 24) : InBlock c (R.LN_LATCH c) := by simp only [InBlock, R.LN_LATCH]; omega

theorem psStat_ne_line (c : Fin 24) : R.PS_STAT c ≠ R.LN_STAT c ∧ R.PS_STAT c ≠ R.LN_LATCH c := by
  simp only [R.PS_STAT, R.LN_STAT, R.LN_LATCH]
  omega

/-! ### The legs stop, a path is aborted, the line trips (R76, R84, R350, R353) -/

section
variable {s : State} {c : Fin 24}

theorem legsStop_reads_active (h : s.rwf) : Reads (F.PS_STAT.LEG_ACTIVE c) 0 (s.legsStop c) :=
  ((((reads_set h _ 0 rfl rfl).set_apart _ 0 rfl).set_apart _ 0 rfl).set_apart _ 0 rfl).modCh c _

theorem Reads.legsStop_trans {v : Nat} (k : Reads (F.PS_STAT.TRANS c) v s) :
    Reads (F.PS_STAT.TRANS c) v (s.legsStop c) :=
  ((((k.set_apart _ 0 rfl).set_apart _ 0 rfl).set_apart _ 0 rfl).set_apart _ 0 rfl).modCh c _

theorem abortPath_reads_trans (h : s.rwf) : Reads (F.PS_STAT.TRANS c) 0 (s.abortPath c) :=
  ((reads_set h _ 0 rfl rfl).set_apart _ 0 rfl).modCh c _

theorem lineChTrip_reads_state (h : s.rwf) : Reads (F.LN_STAT.STATE c) 0 (s.lineChTrip c) :=
  ((((reads_set h _ 0 rfl rfl).set_apart _ 0 rfl).set_apart _ 0 rfl).modCh c _).set_apart _ 1 rfl

theorem Reads.lineChTrip {g : Fld} {v : Nat} (k : Reads g v s) (hstat : g.addr ≠ R.LN_STAT c)
    (hlatch : g.addr ≠ R.LN_LATCH c) : Reads g v (s.lineChTrip c) :=
  ((((k.set_other _ 0 hstat).set_other _ 0 hstat).set_other _ 0 hstat).modCh c _).set_other _ 1 hlatch

theorem lineOpen_rwf (h : s.rwf) (st : Nat) : (s.lineOpen c st).rwf :=
  State.set_rwf _ _ _ (State.set_rwf _ _ _ (s.set_rwf _ _ h))

theorem lineChTrip_reads_chTrip (h : s.rwf) : Reads (F.LN_LATCH.CH_TRIP c) 1 (s.lineChTrip c) :=
  reads_set (lineOpen_rwf h _) _ 1 rfl rfl

end

/-! ### Every switch opens (R84, R92, R471) -/

section
variable {s : State} {c : Fin 24} (h : s.rwf)
include h

theorem openAll_reads_bsw : Reads (F.PS_STAT.BSW c) 0 (s.openAll c) :=
  ((reads_set (abortPath_reads_trans h).legsStop_trans.rwf _ 0 rfl rfl).set_apart _ 0 rfl).modCh c _

theorem openAll_reads_input : Reads (F.PS_STAT.INPUT c) 0 (s.openAll c) :=
  (reads_set (State.set_rwf _ _ _ (abortPath_reads_trans h).legsStop_trans.rwf) _ 0 rfl rfl).modCh c _

theorem openAll_reads_active : Reads (F.PS_STAT.LEG_ACTIVE c) 0 (s.openAll c) :=
  (((legsStop_reads_active (abortPath_reads_trans h).rwf).set_apart _ 0 rfl).set_apart _ 0 rfl).modCh c _

theorem openAll_reads_trans : Reads (F.PS_STAT.TRANS c) 0 (s.openAll c) :=
  (((abortPath_reads_trans h).legsStop_trans.set_apart _ 0 rfl).set_apart _ 0 rfl).modCh c _

end

section
variable {s t : State} {c : Fin 24} (k : OnlyChannel c s t)
include k

theorem OnlyChannel.legsStop : OnlyChannel c s (t.legsStop c) :=
  have kstat := ((k.set _ 0 (inBlock_psStat c)).set _ 0 (inBlock_psStat c)).set _ 0 (inBlock_psStat c)
  (kstat.set _ 0 (inBlock_rgStat c)).modCh _

theorem OnlyChannel.abortPath : OnlyChannel c s (t.abortPath c) :=
  ((k.set _ 0 (inBlock_psStat c)).set _ 0 (inBlock_msStage c)).modCh _

theorem OnlyChannel.openAll : OnlyChannel c s (t.openAll c) :=
  ((k.abortPath.legsStop.set _ 0 (inBlock_psStat c)).set _ 0 (inBlock_psStat c)).modCh _

theorem OnlyChannel.lineChTrip : OnlyChannel c s (t.lineChTrip c) :=
  have kstat := ((k.set _ 0 (inBlock_lnStat c)).set _ 0 (inBlock_lnStat c)).set _ 0 (inBlock_lnStat c)
  (kstat.modCh _).set _ 1 (inBlock_lnLatch c)

end

end Sys2Proof.Machine
end

section
/-!
What trips and fences a channel (R73, R80, R81, R92, R93), the state of its switches after it (Table 03-3), and the
obligation about them.
-/
namespace Sys2Proof.Machine

/-! ### What trips and fences a channel -/

section
variable (s : State) (c : Fin 24)

theorem fenceLeg_of_fenced (k : Fin 4) (h : s.legOk c k = false) : s.fenceLeg c k = s := by
  simp only [State.fenceLeg, h, Bool.not_false, Bool.or_true, if_true]

theorem fenceCh_of_fenced (h : (s.ch c).fenced = true) : s.fenceCh c = s := if_pos h

theorem fenceCh_opens (h : (s.ch c).fenced = false) : s.fenceCh c =
    (((((s.openAll c).lineChTrip c).modCh c fun h => { h with fenced := true }).assertL (12 * c + 3) 3).dropMember
      c).reresolve c :=
  if_neg (Bool.eq_false_iff.1 h)

/-- BATFED ends: the legs stop, the input opens and the channel reacts (R81). -/
def batfedEnded : State :=
  (((s.legsStop c).set (F.PS_STAT.INPUT c) 0).set (F.PS_LATCH.BATFED_UV c) 1).modCh c
    fun h => { h with disch := false, react := some (h.react == some true) }

theorem batfedUndervoltage_on_battery (h : s.get (F.PS_STAT.INPUT c) = 2) :
    exec (.batfedUndervoltage c) s = .next ((batfedEnded s c).reresolve c) := next_if_pos _ _ h

end

theorem tripsAndFences : Claims.TripsAndFences := by
  intro s c k o trip
  refine ⟨rfl, rfl, rfl, fenceLeg_of_fenced s c k, fenceCh_of_fenced s c, fenceCh_opens s c, fun h => next_if_pos _ _ h,
    fun h => next_if_neg _ _ h, fun h => ⟨next_if_neg _ _ h, fun hn => next_if_pos _ _ (by simp [h, hn])⟩, fun h => ?_⟩
  exact ⟨batfedEnded s c, batfedUndervoltage_on_battery s c h, rfl, by simp [batfedEnded], by simp [batfedEnded]⟩

/-! ### The switches after it -/

theorem openedSwitches : Claims.OpenedSwitches := by
  intro s c hwf u
  have h := State.wf_rwf hwf
  obtain ⟨hstat, hlatch⟩ := psStat_ne_line c
  have honly : OnlyChannel c s u := (OnlyChannel.refl c s).openAll.lineChTrip
  have hopen : (s.openAll c).rwf := (openAll_reads_bsw h).rwf
  refine ⟨((openAll_reads_bsw h).lineChTrip hstat hlatch).get, ((openAll_reads_input h).lineChTrip hstat hlatch).get,
    ((openAll_reads_active h).lineChTrip hstat hlatch).get, ((openAll_reads_trans h).lineChTrip hstat hlatch).get,
    (lineChTrip_reads_state hopen).get, (lineChTrip_reads_chTrip hopen).get, ?_, ?_,
    fun e he => ⟨honly.chans e he, honly.regs _ fun hc => he (inBlock_inj hc (inBlock_psStat e))⟩,
    honly.mem, honly.wf hwf⟩
  · simp [u, State.lineChTrip, State.lineOpen, State.openAll]
  · simp [u, State.lineChTrip, State.lineOpen, State.openAll, State.legsStop, State.abortPath]

/-- Settles O23: each command's effect from its branch condition; openness of the switches by the writes of `openAll`, of
which later ones touch other bits, and everything else by their staying within the block of the channel. -/
theorem tripsOpenTheSwitches : Obligations.TripsOpenTheSwitches := ⟨tripsAndFences, openedSwitches⟩

end Sys2Proof.Machine
end

section
/-!
Ratings by healthy legs (R74, Table 03-2), the events of the power stage (R72, R75, R77 to R79, R90, R91, R97, R128), path
transitions (R82 to R85, Table 03-4), and the obligation about them.
-/
namespace Sys2Proof.Machine

/-! ### Ratings -/

/-- The four fields fill PS_RATING, each from its own byte of Table 03-2. -/
theorem updRating_get (s : State) (c : Fin 24) (h : s.rwf) {i p w b : Nat}
    (hr : ratingOf (s.legsOk c).length = (i, p, w, b)) (hlt : i < 256 ∧ p < 256 ∧ w < 256 ∧ b < 256) :
    (s.updRating c).get (F.PS_RATING.I_CONT c) = i ∧ (s.updRating c).get (F.PS_RATING.I_PEAK c) = p ∧
    (s.updRating c).get (F.PS_RATING.P_CONT c) = w ∧ (s.updRating c).get (F.PS_RATING.P_BURST c) = b := by
  obtain ⟨hi, hp, hw, hb⟩ := hlt
  have hcont := reads_set h (F.PS_RATING.I_CONT c) i rfl (Nat.mod_eq_of_lt hi)
  have hpeak := reads_set hcont.rwf (F.PS_RATING.I_PEAK c) p rfl (Nat.mod_eq_of_lt hp)
  have hpow := reads_set hpeak.rwf (F.PS_RATING.P_CONT c) w rfl (Nat.mod_eq_of_lt hw)
  have hburst := reads_set hpow.rwf (F.PS_RATING.P_BURST c) b rfl (Nat.mod_eq_of_lt hb)
  simp only [State.updRating, hr]
  exact ⟨(((hcont.set_apart _ p rfl).set_apart _ w rfl).set_apart _ b rfl).get,
    ((hpeak.set_apart _ w rfl).set_apart _ b rfl).get, (hpow.set_apart _ b rfl).get, hburst.get⟩

theorem updRating_rd_other (s : State) (c : Fin 24) (a : Nat) (h : a ≠ R.PS_RATING c) : (s.updRating c).rd a = s.rd a := by
  simp only [State.updRating]
  rw [State.set_rd_other _ _ _ _ h, State.set_rd_other _ _ _ _ h, State.set_rd_other _ _ _ _ h, State.set_rd_other _ _ _ _ h]

theorem ratingsFollowTheLegs : Claims.RatingsFollowTheLegs := by
  intro s c hwf n u is
  have h := State.wf_rwf hwf
  refine ⟨fun hn => ?_, fun hn => ?_, fun hn => ?_, updRating_rd_other s c⟩
  · exact updRating_get s c h (congrArg ratingOf hn) (by decide)
  · exact updRating_get s c h (congrArg ratingOf hn) (by decide)
  · exact updRating_get s c h (congrArg ratingOf hn) (by decide)

/-! ### Events of the power stage -/

section
variable (s : State) (c : Fin 24)

theorem survivorEngineError_of_one (e : Nat) (h : s.enginesOk c = [e]) :
    exec (.survivorEngineError c) s = .next (s.fenceEngine c e false) := by
  show execSurvivorEngineError c s = _
  simp only [execSurvivorEngineError, h]

theorem survivorEngineError_of_no_survivor (h : (s.enginesOk c).length ≠ 1) :
    exec (.survivorEngineError c) s = .next s := by
  show execSurvivorEngineError c s = _
  simp only [execSurvivorEngineError]
  split
  · next e he => exact absurd (congrArg List.length he) h
  · rfl

/-- The active legs of channel c. -/
def legsActive : List Nat := (List.range 4).filter fun k => (s.get (F.PS_STAT.LEG_ACTIVE c)).testBit k

theorem legShed_sheds_last (hen : s.is (F.PS_PWM.SHED_EN c) = true) (hlen : 2 ≤ (legsActive s c).length)
    (hhold : 4 * s.get (F.PS_SHED.HOLD c) ≤ (s.ch c).shedN) :
    ∃ l, (legsActive s c).getLast? = some l ∧ exec (.legShed c) s = .next (s.shedLeg c l) := by
  obtain ⟨l, hl⟩ : ∃ l, (legsActive s c).getLast? = some l :=
    Option.isSome_iff_exists.1 (List.getLast?_isSome.2 (List.ne_nil_of_length_pos (by omega)))
  have hlast : (legsActive s c).getLastD 0 = l := by rw [List.getLastD_eq_getLast?, hl]; rfl
  rw [legsActive] at hlen hlast
  refine ⟨l, hl, (next_if_pos _ _ ?_).trans (by rw [hlast])⟩
  simp [hen, hlen, hhold]

theorem legShed_keeps (h : s.is (F.PS_PWM.SHED_EN c) = false ∨ (legsActive s c).length < 2 ∨
    (s.ch c).shedN < 4 * s.get (F.PS_SHED.HOLD c)) : exec (.legShed c) s = .next s := by
  rw [legsActive] at h
  refine next_if_neg _ _ fun hshed => ?_
  simp only [Bool.and_eq_true, decide_eq_true_eq] at hshed
  obtain ⟨⟨hen, hlen⟩, hhold⟩ := hshed
  rcases h with hoff | hfew | hshort
  · exact Bool.false_ne_true (hoff.symm.trans hen)
  · exact Nat.not_lt.2 hlen hfew
  · exact Nat.not_lt.2 hhold hshort

end

theorem powerStageEvents : Claims.PowerStageEvents := by
  intro s c k e seq run hit told left on
  exact ⟨survivorEngineError_of_one s c e, survivorEngineError_of_no_survivor s c, fun h => next_if_neg _ _ h,
    fun h => next_if_pos _ _ h, fun h => next_if_neg _ _ (by simp [h]), fun h => next_if_pos _ _ (by simp [h]),
    legShed_sheds_last s c, legShed_keeps s c⟩

/-! ### Bursts, the battery switch and a gang's share -/

theorem chan?_val (l : Fin 24) : chan? l.val = some l := dif_pos l.isLt

section
variable (s : State) (c : Fin 24)

theorem bswSupplement_idle (on : Bool) (h : (s.ch c).pathF ≠ 0 ∨ (s.curMode c).law ≠ 6) :
    exec (.bswSupplement c on) s = .next s := by
  refine next_if_neg _ _ ?_
  rcases h with h | h <;> simp [h]

section
variable (hpath : (s.ch c).pathF = 0) (htrans : s.is (F.PS_STAT.TRANS c) = false) (hrole : (s.curMode c).role ≠ 0)
  (hlaw : (s.curMode c).law = 6)
include hpath htrans hrole hlaw

/-- In PATH under CHARGE the supplement follows the switch's state and the legs' limit (R78). -/
theorem bswSupplement_in_path (on : Bool) : exec (.bswSupplement c on) s = .next (
    if on && s.get (F.PS_STAT.BSW c) = 1 && (s.get (F.RG_STAT.LIMIT c) == 3 || s.get (F.RG_STAT.LIMIT c) == 5 ||
      s.get (F.RG_STAT.LIMIT c) == 7) then (s.modCh c fun h => { h with supp := true }).bswTo c 2
    else if !on && s.get (F.PS_STAT.BSW c) = 2 then (s.modCh c fun h => { h with supp := false }).bswTo c 1
    else s) :=
  next_if_pos _ _ (by simp [hpath, htrans, hrole, hlaw])

theorem bswSupplement_starts (hbsw : s.get (F.PS_STAT.BSW c) = 1) (hlim : s.get (F.RG_STAT.LIMIT c) = 3 ∨
    s.get (F.RG_STAT.LIMIT c) = 5 ∨ s.get (F.RG_STAT.LIMIT c) = 7) :
    exec (.bswSupplement c true) s = .next ((s.modCh c fun h => { h with supp := true }).bswTo c 2) := by
  rw [bswSupplement_in_path s c hpath htrans hrole hlaw]
  refine next_if_pos _ _ ?_
  rcases hlim with hlim | hlim | hlim <;> simp [hbsw, hlim]

theorem bswSupplement_ends (hbsw : s.get (F.PS_STAT.BSW c) = 2) :
    exec (.bswSupplement c false) s = .next ((s.modCh c fun h => { h with supp := false }).bswTo c 1) := by
  rw [bswSupplement_in_path s c hpath htrans hrole hlaw]
  exact (next_if_neg _ _ (by simp)).trans (next_if_pos _ _ (by simp [hbsw]))

end

theorem gangShareSetpoint_of_follower (l : Fin 24) (hrole : s.get (F.PS_GANG.ROLE c) = 2) (hl : s.gangLeader c = l.val) :
    exec (.gangShareSetpoint c) s = .next (
      if s.linkDown (l / 4) || s.linkDown (c / 4) then s
      else ((s.modCh c fun h => { h with share := (s.ch l).share }).flit (l.val / 4) 1 0).flit (c.val / 4) 0 0) := by
  show execGangShareSetpoint c s = _
  simp only [execGangShareSetpoint, if_pos hrole, hl, chan?_val]

end

theorem burstsAndTheBatterySwitch : Claims.BurstsAndTheBatterySwitch := by
  intro s c lim on
  refine ⟨fun hb hn => next_if_pos _ _ (by simp [hb, hn]), fun h => next_if_neg _ _ ?_,
    fun hr hn => next_if_pos _ _ (by simp [hr, hn]), fun h => next_if_neg _ _ ?_, fun h => next_if_pos _ _ h,
    fun h => next_if_neg _ _ h,
    fun hp ht hr hl => ⟨bswSupplement_starts s c hp ht hr hl, bswSupplement_ends s c hp ht hr hl⟩,
    bswSupplement_idle s c on, fun h => next_if_pos _ _ h, fun h => next_if_neg _ _ h, gangShareSetpoint_of_follower s c,
    fun h => next_if_neg _ _ h⟩
  · rcases h with h | h <;> simp [h]
  · rcases h with h | h <;> simp [h]

/-! ### Path transitions -/

section
variable (s : State) (c : Fin 24)

/-- The state of channel c in a step: only `resume` changes more than the step's own marks. -/
theorem enterStep_ch (t : TStep) (h : t ≠ .resume) : (s.enterStep c t).ch c =
    { s.ch c with tstep := t, tn := 0, bswMax := if t = .join then 2000000 else 0 } := by
  cases t with
  | resume => exact absurd rfl h
  | _ => simp [State.enterStep, State.bswTo]

theorem enterStep_tstep (t : TStep) : ((s.enterStep c t).ch c).tstep = t := by
  by_cases h : t = .resume
  · subst h
    simp [State.enterStep, Chan.modEng]
  · rw [enterStep_ch s c t h]

theorem Reads.enterStep_trans {s : State} {c : Fin 24} {v : Nat} (k : Reads (F.PS_STAT.TRANS c) v s) (t : TStep) :
    Reads (F.PS_STAT.TRANS c) v (s.enterStep c t) := by
  cases t with
  | takeover | credit => exact ⟨k.rwf, k.get⟩
  | unload | seek | join | linear => exact (k.modCh c _).set_apart _ _ rfl
  | pause => exact ((k.modCh c _).set_apart _ _ rfl).set_apart _ _ rfl
  | resume => exact (k.set_apart (F.PS_STAT.INPUT c) (if decide ((s.ch c).dest = some 3) then 2 else 1) rfl).of_regs rfl

theorem firstStep_ne_resume (o p : Nat) : firstStep o p ≠ .resume := by
  simp only [firstStep]
  (repeat' split) <;> exact TStep.noConfusion

/-- A transition to p is noted: its legs will start from the measured value (R82, R112). -/
def pathNoted (p : Nat) : State :=
  (s.set (F.PS_STAT.TRANS c) 1).modCh c fun h =>
    { (h.modEng fun e => { e with restart := true }) with dest := some p, supp := false, disch := false }

theorem startPath_enters (p : Nat) (h : p ≠ (s.ch c).pathF) :
    s.startPath c p = (pathNoted s c p).enterStep c (firstStep (s.ch c).pathF p) := if_neg h

theorem startPath_ch (p : Nat) (h : p ≠ (s.ch c).pathF) : (s.startPath c p).ch c =
    { ((s.ch c).modEng fun e => { e with restart := true }) with
      dest := some p, supp := false, disch := false, tstep := firstStep (s.ch c).pathF p, tn := 0,
      bswMax := if firstStep (s.ch c).pathF p = .join then 2000000 else 0 } := by
  rw [startPath_enters s c p h, enterStep_ch _ _ _ (firstStep_ne_resume _ p), pathNoted, State.modCh_ch, State.set_ch]

theorem startPath_reads_trans (p : Nat) (h : p ≠ (s.ch c).pathF) (hr : s.rwf) :
    Reads (F.PS_STAT.TRANS c) 1 (s.startPath c p) := by
  rw [startPath_enters s c p h]
  exact ((reads_set hr _ 1 rfl rfl).modCh c _).enterStep_trans _

end

theorem firstStep_from_path_or_tied {o p : Nat} (ho : o ≤ 1) (hp : 2 ≤ p) : firstStep o p = .takeover := by
  have h3 : o ≠ 3 := by omega
  simp [firstStep, h3, ho, hp]

theorem firstStep_from_open : firstStep 2 1 = .seek ∧ firstStep 2 0 = .linear ∧ firstStep 2 3 = .pause :=
  ⟨rfl, rfl, rfl⟩

theorem firstStep_from_batfed (p : Nat) : firstStep 3 p = .credit := rfl

section
variable {s : State} {c : Fin 24} (h : s.rwf) (hlt : s.ltRuns 3 (bswLink c) = false)
include h

theorem bswTo_reads_off : Reads (F.PS_STAT.BSW c) 0 (s.bswTo c 0) := by
  rw [State.bswTo, ite_self]
  exact reads_set h _ 0 rfl rfl

theorem enterStep_pause_reads_bsw : Reads (F.PS_STAT.BSW c) 0 (s.enterStep c .pause) :=
  (bswTo_reads_off (s := s.modCh c _) h).set_apart _ 0 rfl

theorem enterStep_pause_reads_input : Reads (F.PS_STAT.INPUT c) 0 (s.enterStep c .pause) :=
  reads_set (bswTo_reads_off (s := s.modCh c _) h).rwf _ 0 rfl rfl

theorem enterStep_resume_reads_input :
    Reads (F.PS_STAT.INPUT c) (if decide ((s.ch c).dest = some 3) then 2 else 1) (s.enterStep c .resume) :=
  (reads_set h (F.PS_STAT.INPUT c) _ rfl (by split <;> rfl)).of_regs rfl

include hlt

theorem bswTo_reads_linear : Reads (F.PS_STAT.BSW c) 1 (s.bswTo c 1) := by
  rw [State.bswTo, hlt]
  exact reads_set h _ 1 rfl rfl

theorem enterStep_reads_linear (t : TStep) (ht : t = .unload ∨ t = .join ∨ t = .linear) :
    Reads (F.PS_STAT.BSW c) 1 (s.enterStep c t) := by
  rcases ht with rfl | rfl | rfl <;> exact bswTo_reads_linear (s := s.modCh c _) h hlt

end

section
variable {s : State} {c : Fin 24} {p : Nat} (hd : (s.ch c).dest = some p)
include hd

theorem transStep_of_takeover (h : (s.ch c).tstep = .takeover) :
    s.transStep c = (s.modCh c fun h => { h with tn := h.tn + 1 }).enterStep c .unload := by
  simp only [State.transStep, hd, h]

theorem transStep_of_pause (h : (s.ch c).tstep = .pause) :
    s.transStep c = (s.modCh c fun h => { h with tn := h.tn + 1 }).enterStep c .resume := by
  simp only [State.transStep, hd, h]

/-- The rows of Table 03-4 that complete a transition. -/
theorem pathTransitionDone_ends (h : (s.ch c).tstep = .join ∨ (s.ch c).tstep = .linear ∨
    (s.ch c).tstep = .unload ∧ p ≠ 3 ∨ (s.ch c).tstep = .resume ∧ 2 ≤ p) :
    exec (.pathTransitionDone c) s = .next (s.endPath c p) := by
  show execPathTransitionDone c s = _
  rcases h with h | h | ⟨h, hp⟩ | ⟨h, hp⟩ <;> simp only [execPathTransitionDone, hd, h]
  · rw [if_neg hp]
  · rw [if_pos hp]

theorem pathTransitionDone_pauses (h : (s.ch c).tstep = .unload) (hp : p = 3) :
    exec (.pathTransitionDone c) s = .next (s.enterStep c .pause) := by
  show execPathTransitionDone c s = _
  simp only [execPathTransitionDone, hd, h, if_pos hp]

theorem pathTransitionDone_keeps (h : (s.ch c).tstep = .takeover ∨ (s.ch c).tstep = .seek ∨ (s.ch c).tstep = .credit ∨
    (s.ch c).tstep = .pause ∨ (s.ch c).tstep = .resume ∧ p < 2) : exec (.pathTransitionDone c) s = .next s := by
  show execPathTransitionDone c s = _
  rcases h with h | h | h | h | ⟨h, hp⟩ <;> simp only [execPathTransitionDone, hd, h]
  rw [if_neg (Nat.not_le.2 hp)]

end

theorem pathTransitionDone_of_no_transition (s : State) (c : Fin 24) (hd : (s.ch c).dest = none) :
    exec (.pathTransitionDone c) s = .next s := by
  show execPathTransitionDone c s = _
  simp only [execPathTransitionDone, hd]

/-- Step 2 of a transition to TIED is abandoned: the path is OPEN from there (R82). -/
theorem pathTransitionAbandon_of_join (s : State) (c : Fin 24) (hd : (s.ch c).dest = some 1) (ht : (s.ch c).tstep = .join) :
    exec (.pathTransitionAbandon c) s =
      .next ((((s.set (F.PS_LATCH.BSW_SOA c) 1).modCh c fun h => { h with abandon := true }).reresolve c).endPath c 2) :=
  next_if_pos _ _ (by simp [hd, ht])

theorem pathTransitionAbandon_keeps (s : State) (c : Fin 24) (h : (s.ch c).dest ≠ some 1 ∨ (s.ch c).tstep ≠ .join) :
    exec (.pathTransitionAbandon c) s = .next s := by
  refine next_if_neg _ _ ?_
  rcases h with h | h <;> simp [h]

theorem startPath_begins (s : State) (c : Fin 24) (p : Nat) (h : p ≠ (s.ch c).pathF) (hwf : s.wf = true) :
    (s.startPath c p).get (F.PS_STAT.TRANS c) = 1 ∧ ((s.startPath c p).ch c).dest = some p ∧
    ((s.startPath c p).ch c).pathF = (s.ch c).pathF ∧ ((s.startPath c p).ch c).eng.restart = true ∧
    ((s.startPath c p).ch c).tstep = firstStep (s.ch c).pathF p := by
  rw [startPath_ch s c p h]
  exact ⟨(startPath_reads_trans s c p h (State.wf_rwf hwf)).get, rfl, rfl, rfl, rfl⟩

theorem pathTransitions : Claims.PathTransitions := by
  intro s c p h
  refine ⟨fun hp => if_pos hp, fun hp hwf => ?_, fun t hwf hlt => ?_, fun hd => ⟨transStep_of_takeover hd,
    transStep_of_pause hd, pathTransitionDone_ends hd, pathTransitionDone_pauses hd, pathTransitionDone_keeps hd⟩,
    pathTransitionDone_of_no_transition s c, rfl, pathTransitionAbandon_of_join s c,
    pathTransitionAbandon_keeps s c, fun hd => next_if_pos _ _ hd, fun hd => next_if_neg _ _ (Bool.eq_false_iff.1 hd)⟩
  · obtain ⟨htrans, hdest, hpath, hrestart, hstep⟩ := startPath_begins s c p hp hwf
    obtain ⟨hseek, hlinear, hpause⟩ := firstStep_from_open
    rw [hstep]
    refine ⟨htrans, hdest, hpath, hrestart, firstStep_from_path_or_tied, ?_, ?_, ?_, fun ho => ?_⟩
    · rintro ho rfl
      rwa [ho]
    · rintro ho rfl
      rwa [ho]
    · rintro ho rfl
      rwa [ho]
    · rw [ho, firstStep_from_batfed]
  · have hr := State.wf_rwf hwf
    refine ⟨enterStep_tstep s c t, ?_, ?_, fun ht => (enterStep_reads_linear hr hlt t ht).get, ?_⟩
    · rintro rfl
      exact ⟨(enterStep_pause_reads_bsw hr).get, (enterStep_pause_reads_input hr).get⟩
    · rintro rfl
      rw [enterStep_ch s c _ TStep.noConfusion, if_pos rfl]
    · rintro rfl hd
      rw [(enterStep_resume_reads_input hr).get, hd]
      simp only [Option.some.injEq, decide_eq_true_eq]

/-- Settles O24: ratings by the fields of PS_RATING; each event by the branch of its command; a transition by the step of
Table 03-4 it enters, with what `enterStep` leaves in the switches and in the channel's state. -/
theorem powerStageRules : Obligations.PowerStageRules :=
  ⟨ratingsFollowTheLegs, powerStageEvents, burstsAndTheBatterySwitch, pathTransitions⟩

end Sys2Proof.Machine
end

section
/-!
Mode requests and their views (R72, R80, R207, R208, R216), gangs (R96, R210, R211), and the obligation about them.
-/
namespace Sys2Proof.Machine

/-! ### Stores to a channel's block (R277) -/

theorem canWrite_of_channel (rq : Requester) (a : Nat) (h : 0x200000 ≤ a) : canWrite rq a = true := by
  cases rq <;> simp [canWrite, h]

theorem storeTo_allowed (s : State) (rq : Requester) (a k : Nat) (f : State → State) (h : canWrite rq a = true) :
    s.storeTo rq a k f = f (s.opsFirst k) := if_pos h

@[simp] theorem State.startDom_ch (s : State) (d : Nat) (e : Fin 24) : (s.startDom d).ch e = s.ch e := by
  simp only [State.startDom]
  split
  · exact s.set_ch _ _ e
  · rfl

@[simp] theorem State.startDom_mem (s : State) (d : Nat) : (s.startDom d).mem = s.mem := by
  simp only [State.startDom]
  split <;> rfl

@[simp] theorem State.wakeCh_ch (s : State) (c e : Fin 24) : (s.wakeCh c).ch e = s.ch e := by simp [State.wakeCh]

@[simp] theorem State.wakeCh_mem (s : State) (c : Fin 24) : (s.wakeCh c).mem = s.mem := by simp [State.wakeCh]

/-! ### What a mode request does (R207, R208) -/

theorem modeBad_all_iff (m : Mode) :
    modeBad 0x7F m = true ↔ m.law = 7 ∨ m.stage = 3 ∨ m.irange = 6 ∨ m.vrange = 2 := by
  simp [modeBad, Nat.testBit, or_assoc]

/-- The request names a law that runs an entry check, and the channel is not in it. -/
def EntersLaw (s : State) (c : Fin 24) (m : Mode) : Prop :=
  (m.law = 4 ∨ m.law = 5 ∨ m.law = 6) ∧ m.law ≠ (s.resMode c).law

/-- The entry check of a request that names every axis. -/
theorem entryFails_iff (s : State) (c : Fin 24) (m : Mode) :
    ((0x7F).testBit 1 && (m.law == 4 || m.law == 5 || m.law == 6) && m.law != (s.resMode c).law &&
      !s.lawOk c m.law) = true ↔ EntersLaw s c m ∧ s.lawOk c m.law = false := by
  simp [EntersLaw, Nat.testBit, or_assoc]

theorem resStatus_ne_badArg (s : State) (c : Fin 24) : s.resStatus c ≠ stBadArg := by
  simp only [State.resStatus]
  split <;> decide

section
variable (s : State) (c : Fin 24) (w : Word)

/-- A request with every axis has stored its fields, and the channel is free to follow it (R207, R211, R216). -/
def modeAsked : State :=
  ((((s.wakeCh c).wr (R.MD_REQ c) (modeWord (modeMerge 0x7F (s.reqMode c) (modeOf w)))).modCh c fun h =>
    { h with heldOff := h.heldOff && (List.range 4).any fun b => s.cause c b, react := none, gangLeft := false }).modCh c
    fun h => { h with abandon := false, batLow := (modeOf w).path == 3 && s.batUnder c })

theorem mdReqWrite_of_reserved (h : modeBad 0x7F (modeOf w) = true) :
    s.mdReqWrite c w = s.set (F.MD_STAT.CFG_REJ c) 1 := by
  simp only [State.mdReqWrite, State.modeReq, h, if_true]

theorem mdReqWrite_of_entry_failed (hbad : ¬ modeBad 0x7F (modeOf w) = true) (hentry : EntersLaw s c (modeOf w))
    (hlaw : s.lawOk c (modeOf w).law = false) :
    s.mdReqWrite c w = (s.lawErr c (modeOf w).law).set (F.MD_STAT.CFG_REJ c) 1 := by
  have hfail := (entryFails_iff s c (modeOf w)).2 ⟨hentry, hlaw⟩
  simp only [State.mdReqWrite, State.modeReq, if_neg hbad, hfail, if_true]

/-- The channel has followed the request; OFF in OFF ends the local sense (R72). -/
def modeFollowed : State :=
  if (modeOf w).role == 0 && (((modeAsked s c w).resolveCh false c).curMode c).role == 0
  then ((modeAsked s c w).resolveCh false c).senseEnd c else (modeAsked s c w).resolveCh false c

theorem modeReq_accepted (hbad : ¬ modeBad 0x7F (modeOf w) = true)
    (hlaw : EntersLaw s c (modeOf w) → s.lawOk c (modeOf w).law = true) :
    s.modeReq c 0x7F w = ((modeFollowed s c w).resStatus c, modeFollowed s c w) := by
  have hpass : ¬ _ := fun hfail => by
    obtain ⟨hentry, hfails⟩ := (entryFails_iff s c (modeOf w)).1 hfail
    exact Bool.false_ne_true (hfails.symm.trans (hlaw hentry))
  exact (if_neg hbad).trans (if_neg hpass)

theorem mdReqWrite_accepted (hbad : ¬ modeBad 0x7F (modeOf w) = true)
    (hlaw : EntersLaw s c (modeOf w) → s.lawOk c (modeOf w).law = true) : s.mdReqWrite c w = modeFollowed s c w := by
  simp only [State.mdReqWrite, modeReq_accepted s c w hbad hlaw, if_neg (resStatus_ne_badArg _ c)]

end

theorem modeRequests : Claims.ModeRequests := by
  intro rq c w s hrq m t entry reserved
  have hexec : exec (.mdReqWrite rq c w) s = .next (t.mdReqWrite c w) :=
    congrArg Host.Outcome.next (storeTo_allowed s rq _ c _ hrq)
  have hbad : modeBad 0x7F (modeOf w) = true ↔ reserved := modeBad_all_iff m
  rw [hexec]
  refine ⟨fun hres => ?_, fun hres hentry hlaw => ?_, fun hres hlaw =>
    ⟨modeAsked t c w, ?_, rfl, ?_, ?_, ?_, fun e he => ?_, ?_⟩⟩
  · rw [mdReqWrite_of_reserved t c w (hbad.2 hres)]
  · exact congrArg _ (mdReqWrite_of_entry_failed t c w (mt hbad.1 hres) hentry hlaw)
  · rw [mdReqWrite_accepted t c w (mt hbad.1 hres) hlaw, modeFollowed]
    simp only [Bool.and_eq_true, beq_iff_eq, m]
  · rw [modeAsked, State.modCh_ch, State.modCh_ch]
  · rw [modeAsked, State.modCh_ch, State.modCh_ch]
  · rw [modeAsked, State.modCh_ch]
  · rw [modeAsked, State.modCh_ch_other _ _ _ _ he, State.modCh_ch_other _ _ _ _ he, State.wr_ch, State.wakeCh_ch]
  · rw [modeAsked, State.modCh_mem, State.modCh_mem, State.wr_mem, State.wakeCh_mem]

/-! ### The views of the requested word (R80, R207) -/

theorem modeReq_of_no_axis (s : State) (c : Fin 24) (w : Word) : (s.modeReq c 0 w).2 = s := rfl

section
variable (s : State) (c : Fin 24) (w : Word)

/-- The word of MS_RANGE as fields of the requested word. -/
def rangeWord : Word := BitVec.ofNat 32 (bitsOf w 5 4 * 2 ^ 20 + bitsOf w 10 8 * 2 ^ 16)

theorem msRangeWrite_of_both (hi : bitsOf w 10 8 ≠ 6) (hv : bitsOf w 5 4 ≠ 2) :
    s.msRangeWrite c w = (s.modeReq c 0x30 (rangeWord w)).2 := by
  simp [State.msRangeWrite, hi, hv, rangeWord]

theorem msRangeWrite_of_vrange (hi : bitsOf w 10 8 = 6) (hv : bitsOf w 5 4 ≠ 2) :
    s.msRangeWrite c w = ((s.set (F.MS_STAT.CFG_REJ c) 1).modeReq c 0x20 (rangeWord w)).2 := by
  simp [State.msRangeWrite, hi, hv, rangeWord]

theorem msRangeWrite_of_irange (hi : bitsOf w 10 8 ≠ 6) (hv : bitsOf w 5 4 = 2) :
    s.msRangeWrite c w = ((s.set (F.MS_STAT.CFG_REJ c) 1).modeReq c 0x10 (rangeWord w)).2 := by
  simp [State.msRangeWrite, hi, hv, rangeWord]

theorem msRangeWrite_of_none (hi : bitsOf w 10 8 = 6) (hv : bitsOf w 5 4 = 2) :
    s.msRangeWrite c w = s.set (F.MS_STAT.CFG_REJ c) 1 := by
  simp [State.msRangeWrite, hi, hv, modeReq_of_no_axis]

theorem msStageWrite_of_stage (h : bitsOf w 1 0 ≠ 3) :
    s.msStageWrite c w = (s.modeReq c 0x08 (BitVec.ofNat 32 (bitsOf w 1 0 * 2 ^ 12))).2 := if_neg h

theorem msStageWrite_of_reserved (h : bitsOf w 1 0 = 3) : s.msStageWrite c w = s.set (F.MS_STAT.CFG_REJ c) 1 := if_pos h

end

theorem modeViews : Claims.ModeViews := by
  intro rq c w s hrq i v q word t
  have hwrite : canWrite rq (R.MS_STAGE c) = true := canWrite_of_channel rq _ (by simp only [R.MS_STAGE]; omega)
  have hrange : exec (.msRangeWrite rq c w) s = .next (t.msRangeWrite c w) :=
    congrArg Host.Outcome.next (storeTo_allowed s rq _ c _ hrq)
  have hstage : exec (.msStageWrite rq c w) s = .next (t.msStageWrite c w) :=
    congrArg Host.Outcome.next (storeTo_allowed s rq _ c _ hwrite)
  rw [hrange, hstage]
  exact ⟨fun hi hv => congrArg _ (msRangeWrite_of_both t c w hi hv),
    fun hi hv => congrArg _ (msRangeWrite_of_vrange t c w hi hv),
    fun hi hv => congrArg _ (msRangeWrite_of_irange t c w hi hv),
    fun hi hv => congrArg _ (msRangeWrite_of_none t c w hi hv),
    fun h => congrArg _ (msStageWrite_of_stage t c w h), fun h => congrArg _ (msStageWrite_of_reserved t c w h), rfl⟩

/-! ### Gangs (R96, R210, R211) -/

section
variable (s : State) (c : Fin 24)

/-- A gang request has arrived: the channel powers up, and what row 7 turned away before is replaced. -/
def gangAsked : State := (s.wakeCh c).modCh c fun h => { h with gangWant := 0 }

theorem gangReq_of_end_no_leader (hlead : (gangAsked s c).get (F.PS_GANG.ROLE c) ≠ 1) :
    (s.gangReq c 0).2 = (gangAsked s c).resolveCh false c := by
  rw [gangAsked] at hlead ⊢
  simp [State.gangReq, hlead]

theorem gangReq_of_end_leader (hlead : (gangAsked s c).get (F.PS_GANG.ROLE c) = 1) :
    (s.gangReq c 0).2 = ((gangAsked s c).dissolve c false).resolveCh false c := by
  rw [gangAsked] at hlead ⊢
  simp [State.gangReq, hlead]

section
variable (n : Nat) (hn : n ≠ 0)
include hn

theorem gangReq_of_same (h : (gangAsked s c).get (F.PS_GANG.ROLE c) = 1 ∧ (gangAsked s c).get (F.PS_GANG.SIZE c) = n) :
    (s.gangReq c n).2 = (gangAsked s c).resolveCh false c := by
  obtain ⟨hlead, hsize⟩ := h
  rw [gangAsked] at hlead hsize ⊢
  simp [State.gangReq, hn, hlead, hsize]

variable (hnew : ¬((gangAsked s c).get (F.PS_GANG.ROLE c) = 1 ∧ (gangAsked s c).get (F.PS_GANG.SIZE c) = n))
include hnew

theorem gangReq_turned_away (hok : (gangAsked s c).gangOk c n = false) :
    (s.gangReq c n).2 = ((gangAsked s c).modCh c fun h => { h with gangWant := n }).resolveCh false c := by
  rw [gangAsked] at hnew hok ⊢
  simp [State.gangReq, hn, hnew, hok]

theorem gangReq_forms (hok : (gangAsked s c).gangOk c n = true) : (s.gangReq c n).2 =
    ((((gangAsked s c).followers c).foldl State.reresolve
      ((((gangAsked s c).followers c).foldl State.leaveGang (gangAsked s c)).formGang c n)).resolveCh false c).regroup := by
  rw [gangAsked] at hnew hok ⊢
  simp [State.gangReq, hn, hnew, hok]

end

theorem gangBad_iff : s.gangBad c = true ↔ (s.ch c).gangWant ≠ 0 ∧ s.gangOk c (s.ch c).gangWant = false := by
  simp [State.gangBad]

theorem regroupCh_keeps (h : (s.ch c).gangWant = 0 ∨ s.gangOk c (s.ch c).gangWant = false) : s.regroupCh c = s := by
  refine if_neg ?_
  rcases h with h | h <;> simp [h]

theorem mem_gangGroup_iff (f : Fin 24) (n : Nat) : f ∈ gangGroup c n ↔ c.val ≤ f.val ∧ f.val < c.val + 2 ^ n := by
  simp [gangGroup, allCh]

/-- Table 03-6 and the row of R211, member by member. -/
theorem gangOk_iff (n : Nat) : s.gangOk c n = true ↔ c.val % 2 ^ n = 0 ∧ c.val + 2 ^ n ≤ 24 ∧ ∀ f ∈ gangGroup c n,
    (s.get (F.PS_GANG.ROLE f) = 0 ∨ s.gangLeader f = c.val ∧ s.get (F.PS_GANG.ROLE c) = 1) ∧
      (s.ch f).fenced = false ∧ s.domHeldOff (3 * f) = false := by
  simp [State.gangOk, and_assoc]

end

theorem gangRequests : Claims.GangRequests := by
  intro rq c w s hrq n g lead same out
  have hexec : exec (.mdGangWrite rq c w) s = .next ((s.opsFirst c).gangReq c n).2 :=
    congrArg Host.Outcome.next (storeTo_allowed s rq _ c _ hrq)
  rw [hexec]
  refine ⟨fun hn hl => ?_, fun hn hl => ?_, fun hn hs => ?_, fun hn hs hok => ?_, fun hn hs hok => ?_, gangBad_iff g,
    regroupCh_keeps g⟩
  · rw [hn]
    exact congrArg _ (gangReq_of_end_no_leader _ c hl)
  · rw [hn]
    exact congrArg _ (gangReq_of_end_leader _ c hl)
  · exact congrArg _ (gangReq_of_same _ c n hn hs)
  · exact congrArg _ (gangReq_turned_away _ c n hn hs hok)
  · exact congrArg _ (gangReq_forms _ c n hn hs hok)

theorem gangPlacement : Claims.GangPlacement := by
  intro s c f n hok
  obtain ⟨hmul, hend, hmem⟩ := (gangOk_iff s c n).1 hok
  refine ⟨hmul, hend, fun hlo hhi => ?_, mem_gangGroup_iff c f n⟩
  obtain ⟨hfree, hfenced, hheld⟩ := hmem f ((mem_gangGroup_iff c f n).2 ⟨hlo, hhi⟩)
  exact ⟨hfenced, hheld, hfree.imp_right And.left⟩

/-- Settles O26: a request of every axis is refused, fails its entry check or is followed; the views by the axes they
name; a gang request by the leader's part and `gangOk`, which says what Table 03-6 asks of each member. -/
theorem modeRequestsAndGangs : Obligations.ModeRequestsAndGangs := ⟨modeRequests, modeViews, gangRequests, gangPlacement⟩

end Sys2Proof.Machine
end

section
/-!
The PWM generator (R88), the role bound (R104) and the regions of a leg (R87), and the obligation about them.
-/
namespace Sys2Proof.Machine

/-! ### The PWM generator (R88) -/

section
variable (cmd carry period dead : Nat)

/-- What the pair is due leaves room for both pulses, or for one of them alone. -/
theorem pwmPair_of_room (stretch : Bool)
    (h : cmd + carry = 0 ∨ 48 ≤ cmd + carry ∧ cmd + carry + 48 ≤ period - 2 * dead ∨
      period - 2 * dead ≤ cmd + carry)
    (hspan : 96 ≤ period - 2 * dead) :
    pwmPair cmd carry period dead stretch =
      { t := min (cmd + carry) (period - 2 * dead), tc := period - 2 * dead - min (cmd + carry) (period - 2 * dead),
        carry := 0, skip := 0, str := 0, short := b2n (period - 2 * dead < cmd + carry) } := by
  have hlow : ¬ (0 < min (cmd + carry) (period - 2 * dead) ∧ min (cmd + carry) (period - 2 * dead) < 48) := by omega
  have hhigh : ¬ (0 < period - 2 * dead - min (cmd + carry) (period - 2 * dead) ∧
      period - 2 * dead - min (cmd + carry) (period - 2 * dead) < 48) := by omega
  have hshort : (min (cmd + carry) (period - 2 * dead) < cmd + carry) ↔ period - 2 * dead < cmd + carry := by omega
  simp only [pwmPair, decide_eq_false hlow, decide_eq_false hhigh, hshort, Bool.false_and, Bool.false_eq_true, if_false, b2n]

/-- A pulse of the high switch that is too short is skipped and stays due, or is stretched. -/
theorem pwmPair_of_low (stretch : Bool) (h0 : 0 < cmd + carry) (h48 : cmd + carry < 48) (hspan : 96 ≤ period - 2 * dead) :
    pwmPair cmd carry period dead stretch =
      if stretch then { t := 48, tc := period - 2 * dead - 48, carry := 0, skip := 0, str := 1, short := 0 }
      else { t := 0, tc := period - 2 * dead, carry := cmd + carry, skip := 1, str := 0, short := 0 } := by
  have hmin : min (cmd + carry) (period - 2 * dead) = cmd + carry := by omega
  have hfull : ¬ period - 2 * dead < 48 := by omega
  have hrest : ¬ period - 2 * dead - 48 < 48 := by omega
  cases stretch <;> simp [pwmPair, hmin, h0, h48, hfull, hrest, b2n]

/-- A pulse of the low switch that is too short is skipped, or is stretched. -/
theorem pwmPair_of_high (stretch : Bool) (hlo : period - 2 * dead < cmd + carry + 48)
    (hhi : cmd + carry < period - 2 * dead) (hspan : 96 ≤ period - 2 * dead) :
    pwmPair cmd carry period dead stretch =
      if stretch then { t := period - 2 * dead - 48, tc := 48, carry := 0, skip := 0, str := 1, short := 0 }
      else { t := period - 2 * dead, tc := 0, carry := 0, skip := 1, str := 0, short := 0 } := by
  have hmin : min (cmd + carry) (period - 2 * dead) = cmd + carry := by omega
  have hlong : ¬ cmd + carry < 48 := by omega
  have hrest : 0 < period - 2 * dead - (cmd + carry) := by omega
  have hshort : period - 2 * dead - (cmd + carry) < 48 := by omega
  cases stretch <;> simp [pwmPair, hmin, hlong, hrest, hshort, b2n]

end

theorem pwmPairs : Claims.PwmPairs := by
  intro cmd carry period dead stretch hp _ _ hd span o
  have hspan : 96 ≤ period - 2 * dead := by omega
  by_cases hlow : 0 < cmd + carry ∧ cmd + carry < 48
  · have ho : o = _ := pwmPair_of_low cmd carry period dead stretch hlow.1 hlow.2 hspan
    cases stretch <;> simp [ho, span] <;> omega
  · by_cases hhigh : period - 2 * dead < cmd + carry + 48 ∧ cmd + carry < period - 2 * dead
    · have ho : o = _ := pwmPair_of_high cmd carry period dead stretch hhigh.1 hhigh.2 hspan
      cases stretch <;> simp [ho, span] <;> omega
    · have ho : o = _ := pwmPair_of_room cmd carry period dead stretch (by omega) hspan
      simp [ho, span, b2n]
      omega

/-! ### The role bound (R104) -/

/-- A bound that changes the demand is named by code 8. -/
theorem roleBound_eq (role : Nat) (i b : Int) (code : Nat)
    (hb : (if role = 1 then max 0 i else if role = 2 then min 0 i else i) = b) :
    roleBound role (i, code) = (b, if b = i then code else 8) := by
  simp only [roleBound, hb]
  split
  · next h => rw [h]
  · rfl

theorem roleBounds : Claims.RoleBounds := by
  intro role i code b
  have hb : b = _ := roleBound_eq role i _ code rfl
  refine ⟨fun h1 => ?_, fun h2 => ?_, fun h1 h2 => ?_, fun h => ?_, fun h => ?_⟩
  · rw [hb, if_pos h1]
  · rw [hb, if_neg (by omega), if_pos h2]
  · rw [hb, if_neg h1, if_neg h2, if_pos rfl]
  · rw [hb] at h ⊢
    exact if_pos h
  · rw [hb] at h ⊢
    exact if_neg h

/-! ### The regions of a leg (R87) -/

section
variable (v vin : Int) (h : 0 < vin)
include h

theorem nextRegion_of_buck : nextRegion 1 v vin =
    if 100 * v < 90 * vin then 1 else if 112 * vin < 100 * v then 3 else 2 := if_neg (Int.not_le.2 h)

theorem nextRegion_of_fourSwitch : nextRegion 2 v vin =
    if 100 * v < 88 * vin then 1 else if 112 * vin < 100 * v then 3 else 2 := if_neg (Int.not_le.2 h)

theorem nextRegion_of_boost : nextRegion 3 v vin =
    if 110 * vin < 100 * v then 3 else if 100 * v < 88 * vin then 1 else 2 := if_neg (Int.not_le.2 h)

end

theorem legRegions : Claims.LegRegions := by
  intro v vin h
  rw [nextRegion_of_buck v vin h, nextRegion_of_fourSwitch v vin h, nextRegion_of_boost v vin h]
  refine ⟨fun hlo => if_pos hlo, fun hlo hhi => ?_, fun hhi => if_pos hhi, fun hlo hhi => ?_, fun hlo => if_pos hlo,
    fun hhi => ?_, fun hlo hhi => ?_⟩
  · rw [if_neg (Int.not_lt.2 hlo), if_neg (Int.not_lt.2 hhi)]
  · rw [if_neg (Int.not_lt.2 hhi), if_neg (Int.not_lt.2 hlo)]
  · rw [if_neg (by omega), if_pos hhi]
  · rw [if_neg (Int.not_lt.2 hlo), if_neg (Int.not_lt.2 hhi)]

/-- Settles O28: what a pair is due leaves room for both pulses or makes one of them short, which is then skipped or
stretched; a bound that changes the demand is named ROLE; each region by its own two thresholds. -/
theorem pwmAndRoleBounds : Obligations.PwmAndRoleBounds := ⟨pwmPairs, roleBounds, legRegions⟩

end Sys2Proof.Machine
end

section
/-!
Set-points and limits (R103), loop profiles (R115), RG_PROF_ADDR (R121), the ramp (R108), and the obligation about them.
-/
namespace Sys2Proof.Machine

/-! ### Set-points and limits (R103) -/

/-- A refusal that one parameter alone has. -/
theorem not_beq_and_decide_iff (n k : Nat) (p : Prop) [Decidable p] :
    (!(n == k && decide p)) = true ↔ (n = k → ¬ p) := by
  simp only [Bool.not_eq_true', Bool.and_eq_false_imp, beq_iff_eq, decide_eq_false_iff_not]

section
variable (s : State) (c : Fin 24) (fn : Nat) (w : Word)

/-- The check of R103 apart from Table 04-2: the range of the parameter, and the order of the two voltage limits. -/
theorem paramOk_iff (h : fn ≤ 9) : s.paramOk c fn w = true ↔
    ((paramRange fn).1 ≤ paramVal fn w ∧ paramVal fn w ≤ (paramRange fn).2) ∧
    (fn = 4 → s.param c 5 ≤ paramVal fn w) ∧ (fn = 5 → paramVal fn w ≤ s.param c 4) := by
  simp only [State.paramOk, decide_eq_true h, Bool.true_and, Bool.and_eq_true, decide_eq_true_eq,
    not_beq_and_decide_iff, Int.not_lt, and_assoc]

theorem param_vlimHi : s.param c 4 = (s.rd (R.RG_VLIM_HI c)).toNat := by
  have haddr : paramAddr c 4 = R.RG_VLIM_HI c := by
    simp only [paramAddr, R.RG_VSET, R.RG_VLIM_HI]
    omega
  simp [State.param, paramVal, haddr]

theorem param_vlimLo : s.param c 5 = (s.rd (R.RG_VLIM_LO c)).toNat := by
  have haddr : paramAddr c 5 = R.RG_VLIM_LO c := by
    simp only [paramAddr, R.RG_VSET, R.RG_VLIM_LO]
    omega
  simp [State.param, paramVal, haddr]

theorem setParam_refused (h : ¬ s.paramOk c fn w = true) :
    s.setParam c fn w = (false, s.set (F.RG_STAT.CFG_REJ c) 1) := if_neg h

theorem setParam_accepted (h : s.paramOk c fn w = true) : (s.setParam c fn w).1 = true := by
  rw [State.setParam, if_pos h]

/-- A parameter other than RG_VLIM_HI is stored, and ends a CHRAMP slew on it. -/
theorem setParam_stored (h : s.paramOk c fn w = true) (hfn : fn ≠ 4) : (s.setParam c fn w).2 =
    (s.wr (paramAddr c fn) w).modEng c fun e => { e with one := e.one.set fn none } := by
  rw [State.setParam, if_pos h]
  exact if_neg hfn

theorem setParam_accepted_iff : (s.setParam c fn w).1 = true ↔ s.paramOk c fn w = true := by
  refine ⟨fun h => Decidable.byContradiction fun hbad => ?_, setParam_accepted s c fn w⟩
  rw [setParam_refused s c fn w hbad] at h
  exact Bool.false_ne_true h

end

theorem setPointsAndLimits : Claims.SetPointsAndLimits := by
  intro s c fn w hfn ok
  have hok : s.paramOk c fn w = true ↔ ok := by
    rw [paramOk_iff s c fn w hfn, param_vlimHi, param_vlimLo]
    simp only [ok]
    have hrow : fn = 0 ∨ fn = 1 ∨ fn = 2 ∨ fn = 3 ∨ fn = 4 ∨ fn = 5 ∨ fn = 6 ∨ fn = 7 ∨ fn = 8 ∨ fn = 9 := by omega
    rcases hrow with rfl | rfl | rfl | rfl | rfl | rfl | rfl | rfl | rfl | rfl <;>
      simp only [paramRange, paramVal, i32, Nat.reduceEqDiff, or_self, or_false, or_true, if_true, if_false,
        false_implies, true_implies, and_true, true_and] <;> omega
  refine ⟨(setParam_accepted_iff s c fn w).trans hok, fun h => setParam_refused s c fn w (mt hok.1 h),
    fun h h4 hwf => ?_⟩
  rw [setParam_stored s c fn w (hok.2 h) h4]
  exact ⟨s.rd_wr _ w (State.wf_rwf hwf), fun a ha => s.rd_wr_other _ a w ha, rfl⟩

/-! ### RG_LOOP and RG_PROF_ADDR (R115, R121) -/

/-- Any requester may store to a channel's block; the operations that the channel took before act first (R101, R277). -/
theorem next_storeTo_block (s : State) (rq : Requester) (c : Nat) {a : Nat} (g : State → State) (h : 0x200000 ≤ a) :
    (.next (s.storeTo rq a c g) : Out) = .next (g (s.opsFirst c)) :=
  congrArg Host.Outcome.next (storeTo_allowed s rq a c g (canWrite_of_channel rq a h))

@[simp] theorem State.modEng_regs (s : State) (c : Fin 24) (g : Engine → Engine) : (s.modEng c g).regs = s.regs := rfl

@[simp] theorem State.modEng_eng (s : State) (c : Fin 24) (g : Engine → Engine) :
    ((s.modEng c g).ch c).eng = g (s.ch c).eng := congrArg Chan.eng (s.modCh_ch c _)

@[simp] theorem State.modEng_engB (s : State) (c : Fin 24) (g : Engine → Engine) :
    ((s.modEng c g).ch c).engB = g (s.ch c).engB := congrArg Chan.engB (s.modCh_ch c _)

section
variable (s : State) (c : Fin 24) (w : Word)

/-- The profile number of RG_LOOP is taken, or refused where it is reserved. -/
def profNamed : State :=
  if bitsOf w 2 0 < 5 then s.set (F.RG_LOOP.PROF c) (bitsOf w 2 0) else s.set (F.RG_STAT.CFG_REJ c) 1

theorem rgLoopWrite_eq : s.rgLoopWrite c w =
    if bitOf w 31 then (profNamed s c w).modEng c fun e => { e with apply := true } else profNamed s c w := by
  simp only [State.rgLoopWrite, profNamed, ← Nat.not_lt, ite_not]

theorem profAddrWrite_of_other_law (h : (s.resMode c).law ≠ 5) :
    (s.profAddrWrite c w).2 = s.set (F.RG_PROF_ADDR.ADDR c) (bitsOf w 31 4 * 16 / 16) := by
  rw [State.profAddrWrite, if_neg h]

section
variable (h : (s.resMode c).law = 5)
include h

theorem profAddrWrite_of_bad_table (hok : s.profOk (bitsOf w 31 4 * 16) = false) : (s.profAddrWrite c w).2 =
    (s.set (F.RG_STAT.CFG_REJ c) 1).set (F.RG_LATCH.PROF_ERR c) 1 := by
  simp [State.profAddrWrite, h, hok]

theorem profAddrWrite_of_good_table (hok : s.profOk (bitsOf w 31 4 * 16) = true) :
    (s.profAddrWrite c w).2.regs = (s.set (F.RG_PROF_ADDR.ADDR c) (bitsOf w 31 4 * 16 / 16)).regs ∧
    (((s.profAddrWrite c w).2).ch c).eng.prof = some (s.profHdr (bitsOf w 31 4 * 16)) ∧
    (((s.profAddrWrite c w).2).ch c).engB.prof = some (s.profHdr (bitsOf w 31 4 * 16)) ∧
    (((s.profAddrWrite c w).2).ch c).eng.profIdx = 0 := by
  simp [State.profAddrWrite, h, hok]

end

end

theorem loopAndProfileRegisters : Claims.LoopAndProfileRegisters := by
  intro rq c w s hrq p a t u
  have hloop : exec (.rgLoopWrite rq c w) s = .next (t.rgLoopWrite c w) :=
    congrArg Host.Outcome.next (storeTo_allowed s rq _ c _ hrq)
  have hprof : exec (.rgProfAddrWrite rq c w) s = .next (t.profAddrWrite c w).2 :=
    next_storeTo_block s rq c _ (by simp only [R.RG_PROF_ADDR]; omega)
  rw [hloop, hprof, rgLoopWrite_eq]
  exact ⟨fun h => next_if_neg _ _ (by simp [h]), fun h => next_if_pos _ _ h,
    fun h => congrArg _ (profAddrWrite_of_other_law t c w h),
    fun h hok => congrArg _ (profAddrWrite_of_bad_table t c w h hok),
    fun h hok => ⟨_, rfl, profAddrWrite_of_good_table t c w h hok⟩⟩

/-! ### An APPLY that waits (R115) -/

section
variable (s : State) (c : Fin 24)

/-- Coefficient n of RG_COEF. -/
def coefAsked (n : Nat) : Int := i32 (s.rd (R.RG_COEF c n))

/-- The filter of RG_COEF is stable. -/
def CoefStable : Prop :=
  (coefAsked s c 4).natAbs < 2 ^ 28 ∧ ((coefAsked s c 3).natAbs : Int) < 2 ^ 28 + coefAsked s c 4

theorem loadLoop_of_no_apply (h : (s.ch c).eng.apply = false) : s.loadLoop c = s := by
  simp [State.loadLoop, h]

section
variable (h : (s.ch c).eng.apply = true)
include h

theorem loadLoop_taken (hok : s.get (F.RG_LOOP.PROF c) ≠ 4 ∨ CoefStable s c) : s.loadLoop c =
    (s.modEng c fun e => { e with apply := false }).modEng c fun e =>
      { e with
        loaded := s.get (F.RG_LOOP.PROF c)
        coefs := if s.get (F.RG_LOOP.PROF c) = 4 then
          (List.range 7).map (coefAsked s c) ++ [(s.get (F.RG_COEF_7.SHIFT c) : Int)] else []
        bump := true } := by
  refine (if_neg (by simp [h])).trans (if_neg fun hrej => ?_)
  simp only [Bool.and_eq_true, decide_eq_true_eq, Bool.not_eq_true', decide_eq_false_iff_not] at hrej
  obtain ⟨hp, hbad⟩ := hrej
  exact hok.elim (· hp) hbad

theorem loadLoop_refused (hp : s.get (F.RG_LOOP.PROF c) = 4) (hbad : ¬ CoefStable s c) : s.loadLoop c =
    ((((s.modEng c fun e => { e with apply := false }).set (F.RG_STAT.CFG_REJ c) 1).set (F.RG_LATCH.COEF_REJ c) 1).set
      (F.RG_LOOP.PROF c) (s.ch c).eng.loaded) := by
  refine (if_neg (by simp [h])).trans (if_pos ?_)
  simp only [Bool.and_eq_true, decide_eq_true_eq, Bool.not_eq_true', decide_eq_false_iff_not]
  exact ⟨hp, hbad⟩

end

end

/-- Under CUSTOM the coefficients in force are those that were loaded. -/
theorem coef_of_custom (e : Engine) (k : Nat → Int) (x : Int) (h : e.loaded = 4)
    (hc : e.coefs = (List.range 7).map k ++ [x]) {n : Nat} (hn : n < 7) : e.coef n = k n := by
  rw [Engine.coef, if_pos h, hc]
  simp [List.getD_eq_getElem?_getD, List.getElem?_append, hn]

theorem loopApply : Claims.LoopApply := by
  intro s c hwf p k stable u
  refine ⟨loadLoop_of_no_apply s c, fun ha hok => ?_, fun ha hp hbad => ?_, fun e h err hb => ?_⟩
  · have hu : u = _ := loadLoop_taken s c ha hok
    rw [hu]
    refine ⟨rfl, ?_, ?_, ?_, fun hp n hn => coef_of_custom _ k (s.get (F.RG_COEF_7.SHIFT c)) ?_ ?_ hn⟩
    · simp [p]
    · simp
    · simp
    · simpa using hp
    · simp only [State.modEng_eng]
      exact if_pos hp
  · have hu : u = _ := loadLoop_refused s c ha hp hbad
    have hrej := reads_set (s := s.modEng c fun e => { e with apply := false }) (State.wf_rwf hwf)
      (F.RG_STAT.CFG_REJ c) 1 rfl rfl
    have hlatch := reads_set hrej.rwf (F.RG_LATCH.COEF_REJ c) 1 rfl rfl
    have hne : R.RG_LATCH c ≠ R.RG_LOOP c ∧ R.RG_STAT c ≠ R.RG_LATCH c ∧ R.RG_STAT c ≠ R.RG_LOOP c := by
      simp only [R.RG_LATCH, R.RG_LOOP, R.RG_STAT]
      omega
    obtain ⟨hll, hsl, hso⟩ := hne
    rw [hu]
    refine ⟨by simp, by simp, (hlatch.set_other (F.RG_LOOP.PROF c) _ hll).get,
      ((hrej.set_other (F.RG_LATCH.COEF_REJ c) 1 hsl).set_other (F.RG_LOOP.PROF c) _ hso).get, ?_⟩
    exact State.get_set _ (F.RG_LOOP.PROF c) _ hlatch.rwf (by decide : (0 : Nat) ≤ 2) (by decide : (2 : Nat) < 32)
  · rw [Engine.hv, if_pos hb]

/-! ### The ramp (R108) -/

section
variable (r tgt step m : Int)

theorem rampStep_free : rampStep r tgt step m false = r + max (-step) (min step (tgt - r)) := rfl

/-- Behind a limit the step ends within one slew of the measured value, or does not move. -/
theorem rampStep_limited : rampStep r tgt step m true =
    if 0 < clampI (-step) step (tgt - r) ∧ m + step < r + clampI (-step) step (tgt - r) then max r (m + step)
    else if clampI (-step) step (tgt - r) < 0 ∧ r + clampI (-step) step (tgt - r) < m - step then min r (m - step)
    else r + clampI (-step) step (tgt - r) := by
  simp only [rampStep, Bool.true_and, decide_eq_true_eq]

/-- Behind a limit, by the side of the target and the measured value. -/
theorem rampStep_limited_cases {d n : Int} (hd : clampI (-step) step (tgt - r) = d)
    (hn : rampStep r tgt step m true = n) :
    0 < d ∧ m + step < r + d ∧ n = max r (m + step) ∨ d < 0 ∧ r + d < m - step ∧ n = min r (m - step) ∨
    (d ≤ 0 ∨ r + d ≤ m + step) ∧ (0 ≤ d ∨ m - step ≤ r + d) ∧ n = r + d := by
  rw [rampStep_limited, hd] at hn
  split at hn
  · omega
  · split at hn <;> omega

end

theorem rampSteps : Claims.RampSteps := by
  intro r tgt step m limited hstep n
  cases limited with
  | false =>
    have hn : n = _ := rampStep_free r tgt step m
    exact ⟨by omega, by omega, by omega, fun _ => hn, nofun, nofun⟩
  | true =>
    have hd : clampI (-step) step (tgt - r) = max (-step) (min step (tgt - r)) := rfl
    have hn := rampStep_limited_cases r tgt step m hd (rfl : _ = n)
    exact ⟨by omega, by omega, by omega, nofun, fun _ => by omega, fun _ => by omega⟩

/-- Settles O27: a parameter is stored exactly where its range and the order of the voltage limits hold; each write of
RG_LOOP and RG_PROF_ADDR and each waiting APPLY by its branch; the ramp's step by the side of the target. -/
theorem regulationRegisters : Obligations.RegulationRegisters :=
  ⟨setPointsAndLimits, loopAndProfileRegisters, loopApply, rampSteps⟩

end Sys2Proof.Machine
end

section
/-!
The battery model (chapter 05): the state fields as 64-bit values, register writes (R134, R145, R146), the update's own
arithmetic (R136, R139), the tables that it accepts (R134), and the obligation about them.
-/
namespace Sys2Proof.Machine

/-! ### State fields (R8, R146) -/

/-- An i64 survives its two words. -/
theorem i64_pairNat_words {v : Int} (hlo : -(2 ^ 63) ≤ v) (hhi : v < 2 ^ 63) : i64 (pairNat (loWord v) (hiWord v)) = v := by
  have hpair : (pairNat (loWord v) (hiWord v) : Int) = v % 2 ^ 64 := by
    simp only [pairNat, loWord, hiWord, BitVec.toNat_ofInt]
    omega
  simp only [i64, sext]
  generalize pairNat (loWord v) (hiWord v) = u at hpair ⊢
  split <;> omega

theorem satS_64_of_fits {v : Int} (hlo : -(2 ^ 63) ≤ v) (hhi : v < 2 ^ 63) : satS 64 v = v := by
  rw [satS_64]
  omega

theorem bmLo_in_channels (c : Nat) (f : BmField) : 0x200000 ≤ bmLo c f := by
  cases f <;> simp only [bmLo, R.BM_Q_LO, R.BM_V1_LO, R.BM_V2_LO, R.BM_H_LO] <;> omega

theorem bmLo_apart (c : Nat) {f g : BmField} (h : g ≠ f) :
    bmLo c g ≠ bmLo c f ∧ bmLo c g ≠ bmLo c f + 4 ∧ bmLo c g + 4 ≠ bmLo c f := by
  cases f <;> cases g <;>
    simp only [bmLo, R.BM_Q_LO, R.BM_V1_LO, R.BM_V2_LO, R.BM_H_LO, ne_eq, not_true_eq_false] at h ⊢ <;> omega

section
variable (s : State) (c : Nat) (f : BmField) (v : Int)

theorem bmPut_rwf (h : s.rwf) : (s.bmPut c f v).rwf := s.wr64_rwf _ _ _ h

theorem bmGet_of_regs {s t : State} (h : t.regs = s.regs) : t.bmGet c f = s.bmGet c f := by
  simp only [State.bmGet, State.rd64, State.rd, h]

theorem bmGet_bmPut (h : s.rwf) (hlo : -(2 ^ 63) ≤ v) (hhi : v < 2 ^ 63) : (s.bmPut c f v).bmGet c f = v := by
  rw [State.bmGet, State.bmPut, satS_64_of_fits hlo hhi, s.rd64_wr64 _ _ _ h (by omega)]
  exact i64_pairNat_words hlo hhi

theorem bmGet_bmPut_other {g : BmField} (h : g ≠ f) : (s.bmPut c f v).bmGet c g = s.bmGet c g := by
  obtain ⟨hll, hlu, hul⟩ := bmLo_apart c h
  simp only [State.bmGet, State.rd64, State.bmPut]
  rw [s.rd_wr64_other _ _ _ _ hll hlu, s.rd_wr64_other _ _ _ _ hul (by omega)]

end

/-! ### Writes of the state (R145) -/

@[simp] theorem State.modBm_regs (s : State) (c : Fin 24) (g : Model → Model) : (s.modBm c g).regs = s.regs := rfl

@[simp] theorem State.modBm_bm (s : State) (c : Fin 24) (g : Model → Model) : ((s.modBm c g).ch c).bm = g (s.ch c).bm :=
  congrArg Chan.bm (s.modCh_ch c _)

@[simp] theorem State.modBm_bmGet (s : State) (c : Fin 24) (g : Model → Model) (f : BmField) :
    (s.modBm c g).bmGet c f = s.bmGet c f := bmGet_of_regs c f rfl

section
variable (s : State) (c : Fin 24)

theorem bmApply_rwf (w : BmWrite) (h : s.rwf) : (s.bmApply c w).rwf := by
  cases w with
  | field f v => cases f <;> exact bmPut_rwf s c _ v h
  | soc v => exact bmPut_rwf s c .q _ h
  | relax => exact bmPut_rwf _ c .v2 0 (bmPut_rwf s c .v1 0 h)
  | hyst => exact bmPut_rwf s c .h 0 h

theorem bmFlush_rwf (h : s.rwf) : (s.bmFlush c).rwf :=
  List.foldlRecOn (motive := State.rwf) (s.ch c).bm.writes (fun s w => s.bmApply c w) h fun t ht w _ => bmApply_rwf t c w ht

/-- A write of a field is its registers' write, whatever it clears. -/
theorem bmApply_field_regs (f : BmField) (v : Int) : (s.bmApply c (.field f v)).regs = (s.bmPut c f v).regs := by
  cases f <;> rfl

/-- A write of the charge clears the residue, one of a pair's voltage its remainder. -/
theorem bmApply_field_clears (f : BmField) (v : Int) :
    (f = .q → ((s.bmApply c (.field f v)).ch c).bm.res = 0) ∧
    (f = .v1 → ((s.bmApply c (.field f v)).ch c).bm.rem1 = 0) ∧
    (f = .v2 → ((s.bmApply c (.field f v)).ch c).bm.rem2 = 0) := by
  cases f <;> simp [State.bmApply]

theorem bmWrite_running (w : BmWrite) (h : s.is (F.BM_STAT.RUN c) = true) :
    s.bmWrite c w = s.modBm c fun m => { m with writes := m.writes ++ [w] } := if_pos h

theorem bmWrite_frozen (w : BmWrite) (h : s.is (F.BM_STAT.RUN c) = false) : s.bmWrite c w = s.bmApply c w :=
  if_neg (Bool.eq_false_iff.1 h)

end

theorem modelStateWrites : Claims.ModelStateWrites := by
  intro c f v s hwf hlo hhi
  have h := State.wf_rwf hwf
  refine ⟨fun hrun w => ?_, fun hrun => ?_⟩
  · rw [bmWrite_running s c w hrun]
    exact ⟨rfl, congrArg Model.writes (s.modBm_bm c _)⟩
  · rw [bmWrite_frozen s c _ hrun, bmWrite_frozen s c _ hrun, bmWrite_frozen s c _ hrun]
    obtain ⟨hq, hv1, hv2⟩ := bmApply_field_clears s c f v
    refine ⟨(bmGet_of_regs c f (bmApply_field_regs s c f v)).trans (bmGet_bmPut s c f v h hlo hhi),
      fun g hg => (bmGet_of_regs c g (bmApply_field_regs s c f v)).trans (bmGet_bmPut_other s c f v hg),
      hq, hv1, hv2, ?_, ?_, ?_, bmGet_bmPut s c .h 0 h (by decide) (by decide)⟩
    · rw [State.bmApply, State.modBm_bmGet, bmGet_bmPut_other _ c .v2 0 (by decide),
        bmGet_bmPut s c .v1 0 h (by decide) (by decide)]
    · rw [State.bmApply, State.modBm_bmGet, bmGet_bmPut _ c .v2 0 (bmPut_rwf s c .v1 0 h) (by decide) (by decide)]
    · rw [State.bmApply, State.modBm_bmGet, bmGet_bmPut_other _ c .v2 0 (by decide), bmGet_bmPut_other s c .v1 0 (by decide)]

/-! ### Writes of the registers (R134, R145, R146) -/

section
variable (s : State) (rq : Requester) (c : Fin 24) (f : BmField) (w : Word)

theorem bmAddrWrite_refused (hlaw : (s.resMode c).law = 4) (hok : s.bmTblOk (bitsOf w 31 6 * 64) = false) :
    s.bmAddrWrite c w = s.bmRefuse c := if_pos (by simp [hlaw, hok])

theorem bmAddrWrite_taken (h : (s.resMode c).law ≠ 4 ∨ s.bmTblOk (bitsOf w 31 6 * 64) = true) :
    s.bmAddrWrite c w = s.set (F.BM_TBL_ADDR.ADDR c) (bitsOf w 31 6) :=
  if_neg (by rcases h with h | h <;> simp [h])

theorem bmSocWrite_over (h : 1000000 < w.toNat) : s.bmSocWrite c w = s.set (F.BM_STAT.CFG_REJ c) 1 := if_pos h

theorem bmSocWrite_of_table (h : w.toNat ≤ 1000000) (hok : s.bmTblOk (s.bmAddr c) = true) :
    s.bmSocWrite c w = s.bmWrite c (.soc w.toNat) := (if_neg (Nat.not_lt.2 h)).trans (if_pos hok)

theorem bmSocWrite_of_bad_table (h : w.toNat ≤ 1000000) (hok : s.bmTblOk (s.bmAddr c) = false) :
    s.bmSocWrite c w = s.bmRefuse c := (if_neg (Nat.not_lt.2 h)).trans (if_neg (Bool.eq_false_iff.1 hok))

theorem bmHiWrite_of_pair {l : Word} (h : (s.req rq).wsh = some (bmLo c f, l)) : s.bmHiWrite rq c f w =
    (s.modReq rq fun x => { x with wsh := none }).bmWrite c (.field f (i64 (pairNat l w))) := by
  simp only [State.bmHiWrite, h, if_true]

theorem bmHiWrite_alone (h : ∀ l, (s.req rq).wsh ≠ some (bmLo c f, l)) : s.bmHiWrite rq c f w =
    s.bmWrite c (.field f (i64 (pairNat (s.rd (bmLo c f)) w))) := by
  simp only [State.bmHiWrite]
  split
  · next a l hsh =>
    refine if_neg fun ha => h l ?_
    rw [hsh, ha]
  · rfl

end

theorem modelRegisterWrites : Claims.ModelRegisterWrites := by
  intro rq c f w s hrq t lo refuse
  have haddr : exec (.bmTblAddrWrite rq c w) s = .next (t.bmAddrWrite c w) :=
    next_storeTo_block s rq c _ (by simp only [R.BM_TBL_ADDR]; omega)
  have hsoc : exec (.bmSocWrite rq c w) s = .next (t.bmSocWrite c w) :=
    next_storeTo_block s rq c _ (by simp only [R.BM_SOC]; omega)
  have hctrl : 0x200000 ≤ R.BM_CTRL c := by simp only [R.BM_CTRL]; omega
  have hhi : exec (.bmStateHiWrite rq c f w) s = .next (t.bmHiWrite rq c f w) :=
    next_storeTo_block s rq c _ (bmLo_in_channels c f)
  rw [haddr, hsoc, hhi]
  exact ⟨fun h => congrArg _ (bmAddrWrite_taken t c w h),
    fun hlaw hok => congrArg _ (bmAddrWrite_refused t c w hlaw hok), fun h => congrArg _ (bmSocWrite_over t c w h),
    fun h hok => congrArg _ (bmSocWrite_of_table t c w h hok),
    fun h hok => congrArg _ (bmSocWrite_of_bad_table t c w h hok), next_storeTo_block s rq c _ (bmLo_in_channels c f),
    fun l h => congrArg _ (bmHiWrite_of_pair t rq c f w h), fun h => congrArg _ (bmHiWrite_alone t rq c f w h),
    next_storeTo_block s rq c _ hctrl, next_storeTo_block s rq c _ hctrl⟩

/-! ### When the model updates (R138, R145, R147) -/

theorem Reads.is {g : Fld} {v : Nat} {s : State} (k : Reads g v s) : s.is g = (v != 0) := congrArg (· != 0) k.get

section
variable (s : State) (c : Fin 24)

/-- The resolved law is MODEL and the control domain is on. -/
def modelOn : Bool := (s.resMode c).law == 4 && s.domOn (3 * c + 1)

theorem bmFollow_eq : s.bmFollow c = if modelOn s c && !s.is (F.BM_STAT.RUN c) then s.bmEnter c
    else if !modelOn s c && s.is (F.BM_STAT.RUN c) then s.bmLeave c else s := rfl

theorem bmEnter_reads_run (h : s.rwf) : Reads (F.BM_STAT.RUN c) 1 (s.bmEnter c) := by
  simp only [State.bmEnter]
  split
  · exact (reads_set (s.set_rwf _ 1 h) (F.BM_STAT.RUN c) 1 rfl rfl).modCh c _
  · exact (reads_set h (F.BM_STAT.RUN c) 1 rfl rfl).modCh c _

theorem bmEnter_fresh : ((s.bmEnter c).ch c).bm.fresh = true := by
  simp only [State.bmEnter, State.modBm_bm]

theorem bmLeave_reads_run (h : s.rwf) : Reads (F.BM_STAT.RUN c) 0 (s.bmLeave c) :=
  reads_set (bmFlush_rwf s c h) _ 0 rfl rfl

theorem bmLeave_writes : ((s.bmLeave c).ch c).bm.writes = [] := by
  rw [State.bmLeave, State.set_ch]
  exact congrArg Model.writes (State.modBm_bm _ c _)

end

theorem modelUpdates : Claims.ModelUpdates := by
  intro c s on run
  have hon : modelOn s c = true ↔ on := by simp [modelOn, on]
  have hupd : (s.is (F.BM_STAT.RUN c) && (s.resMode c).law == 4) = true ↔ run ∧ (s.resMode c).law = 4 := by simp [run]
  rw [bmFollow_eq, ← hon]
  refine ⟨fun hr hl => next_if_pos _ _ (hupd.2 ⟨hr, hl⟩), fun h => next_if_neg _ _ ?_, fun ho hr => ?_, fun ho hr => ?_,
    fun h => ?_, fun hwf => ?_⟩
  · rw [hupd]
    rintro ⟨hr, hl⟩
    exact h.elim (· hr) (· hl)
  · rw [Bool.not_eq_true] at hr
    rw [ho, hr]
    rfl
  · rw [Bool.not_eq_true] at ho
    rw [ho, hr]
    rfl
  · rw [Bool.eq_iff_iff.2 h, Bool.and_not_self, Bool.not_and_self]
    rfl
  · have hrwf := State.wf_rwf hwf
    exact ⟨(bmEnter_reads_run s c hrwf).is, bmEnter_fresh s c, (bmLeave_reads_run s c hrwf).is, bmLeave_writes s c⟩

/-! ### The steps of an update (R8, R136, R139) -/

section
variable (i rp cp v rem : Int)

/-- The time constant of a pair in force. -/
def pairTau : Int := max (satS 64 (rp * cp)) 100000

/-- What the division of a pair's step divides. -/
def pairNum : Int := satS 64 (satS 64 (satS 64 ((satS 64 (i * rp)).tdiv 1000 - v) * 1000) + rem)

theorem relaxPair_of_none (h : rp = 0 ∨ cp = 0) : relaxPair i rp cp v rem = (0, 0, false) :=
  if_pos (by simpa using h)

theorem relaxPair_of_pair (hr : rp ≠ 0) (hc : cp ≠ 0) : relaxPair i rp cp v rem =
    (satS 64 (v + (pairNum i rp v rem).tdiv (pairTau rp cp)),
      pairNum i rp v rem - (pairNum i rp v rem).tdiv (pairTau rp cp) * pairTau rp cp, decide (rp * cp < 100000)) :=
  if_neg (by simp [hr, hc])

/-- The remainder that a pair keeps is below its time constant. -/
theorem pair_remainder_lt : (pairNum i rp v rem - (pairNum i rp v rem).tdiv (pairTau rp cp) * pairTau rp cp).natAbs <
    (pairTau rp cp).natAbs := by
  have htau : 0 < pairTau rp cp := by
    rw [pairTau]
    omega
  rw [Int.mul_comm, ← Int.tmod_def]
  exact natAbs_tmod_lt_natAbs _ htau

end

/-- A fraction of x that is at most 1 lies between 0 and x. -/
theorem muldiv_fraction (x : Int) {n q : Int} (hn : 0 ≤ n) (hq : n ≤ q) :
    (0 ≤ x → 0 ≤ muldiv x n q ∧ muldiv x n q ≤ x) ∧ (x ≤ 0 → x ≤ muldiv x n q ∧ muldiv x n q ≤ 0) := by
  have hq0 : 0 ≤ q := Int.le_trans hn hq
  have habs : (muldiv x n q).natAbs ≤ x.natAbs := by
    rw [muldiv, Int.natAbs_tdiv, Int.natAbs_mul]
    exact Nat.div_le_of_le_mul (by rw [Nat.mul_comm]; exact Nat.mul_le_mul_right _ (by omega))
  refine ⟨fun hx => ?_, fun hx => ?_⟩
  · have hpos : 0 ≤ muldiv x n q := Int.tdiv_nonneg (Int.mul_nonneg hx hn) hq0
    omega
  · have hneg : 0 ≤ -muldiv x n q := by
      rw [muldiv, ← Int.neg_tdiv, ← Int.neg_mul]
      exact Int.tdiv_nonneg (Int.mul_nonneg (by omega) hn) hq0
    omega

section
variable (i hmax hq h : Int)

theorem hystStep_of_none : hystStep i 0 hq h = 0 := rfl

/-- One step toward the direction of the current. -/
theorem hystStep_toward (hne : hmax ≠ 0) (dir : Int)
    (hdir : (if i < 0 then satS 64 (hmax * 10000000) else if 0 < i then -satS 64 (hmax * 10000000) else h) = dir) :
    hystStep i hmax hq h =
      satS 64 (h + satS 64 (muldiv (satS 64 (dir - h)) i.natAbs (satS 64 (hq * 1000000000000)))) := by
  subst hdir
  exact if_neg hne

/-- With no current the hysteresis stands. -/
theorem hystStep_of_no_current (hne : hmax ≠ 0) (hsat : satS 64 h = h) : hystStep 0 hmax hq h = h := by
  have hstill : ∀ x q : Int, muldiv x (Int.natAbs 0) q = 0 := fun x q =>
    (congrArg (Int.tdiv · q) (Int.mul_zero x)).trans (Int.zero_tdiv q)
  have hzero : satS 64 0 = 0 := rfl
  rw [hystStep_toward 0 hmax hq h hne h rfl, hstill, hzero, Int.add_zero, hsat]

end

/-- A saturated step by a fraction of the way to `dir` ends between h and `dir`. -/
theorem satS_step_between {h dir n q : Int} (hn : 0 ≤ n) (hq : n ≤ q) (hh : -(2 ^ 63) ≤ h ∧ h < 2 ^ 63)
    (hd : -(2 ^ 63) ≤ dir ∧ dir < 2 ^ 63) :
    min h dir ≤ satS 64 (h + satS 64 (muldiv (satS 64 (dir - h)) n q)) ∧
    satS 64 (h + satS 64 (muldiv (satS 64 (dir - h)) n q)) ≤ max h dir := by
  obtain ⟨hup, hdown⟩ := muldiv_fraction (satS 64 (dir - h)) hn hq
  generalize muldiv (satS 64 (dir - h)) n q = m at *
  simp only [satS_64] at *
  omega

theorem hystStep_bounded (i hmax hq h : Int) (hpos : 0 < hmax) (hhq : 0 < hq)
    (hh : h.natAbs ≤ (satS 64 (hmax * 10000000)).natAbs) (hi : i.natAbs ≤ (satS 64 (hq * 1000000000000)).natAbs) :
    (hystStep i hmax hq h).natAbs ≤ (satS 64 (hmax * 10000000)).natAbs := by
  have hmax_fits : 0 ≤ satS 64 (hmax * 10000000) ∧ satS 64 (hmax * 10000000) < 2 ^ 63 := by
    rw [satS_64]
    omega
  have hfrac : (i.natAbs : Int) ≤ satS 64 (hq * 1000000000000) := by
    rw [satS_64] at hi ⊢
    omega
  obtain ⟨dir, hdir⟩ : ∃ dir, (if i < 0 then satS 64 (hmax * 10000000)
    else if 0 < i then -satS 64 (hmax * 10000000) else h) = dir := ⟨_, rfl⟩
  rw [hystStep_toward i hmax hq h (by omega) dir hdir]
  generalize satS 64 (hmax * 10000000) = hm at *
  have hwithin : dir.natAbs ≤ hm.natAbs := by
    split at hdir
    · omega
    · split at hdir <;> omega
  obtain ⟨hlow, hhigh⟩ := satS_step_between (h := h) (dir := dir) (Int.natCast_nonneg i.natAbs) hfrac (by omega) (by omega)
  omega

theorem modelArithmetic : Claims.ModelArithmetic := by
  intro i rp cp v rem hmax hq h hrp hcp hhmax hhq sat tau num hm r
  refine ⟨relaxPair_of_none i rp cp v rem, fun hr hc => ?_, ?_, fun hh hi => ?_, ?_⟩
  · have hpair : r = _ := relaxPair_of_pair i rp cp v rem hr hc
    rw [hpair]
    exact ⟨rfl, rfl, pair_remainder_lt i rp cp v rem, decide_eq_true_iff⟩
  · rintro rfl
    exact hystStep_of_none i hq h
  · by_cases h0 : hmax = 0
    · subst h0
      rw [hystStep_of_none]
      exact Nat.zero_le _
    · exact hystStep_bounded i hmax hq h (by omega) hhq hh hi
  · rintro rfl hpos hsat
    exact hystStep_of_no_current hmax hq h (by omega) hsat

/-! ### Tables (R134, Table 05-1) -/

theorem modelTableChecks : Claims.ModelTableChecks := by
  intro s a hok
  simp only [State.bmTblOk, State.bmFormatOk, State.bmCapOk, State.bmHmaxOk, State.bmHqOk, State.bmTOk, tblPlaced,
    State.bmGridOk, Bool.and_eq_true, Bool.or_eq_true, List.all_eq_true, List.mem_range, decide_eq_true_eq, beq_iff_eq,
    bne_iff_ne] at hok
  obtain ⟨⟨⟨⟨⟨⟨hformat, hcap⟩, hhmax⟩, hhq⟩, ht⟩, halign, hlo, hhi⟩, hgrid⟩ := hok
  exact ⟨halign, hlo, hhi, hformat, hcap, hhmax, hhq, ht, fun p hp =>
    ⟨hgrid p hp 4 (by simp), hgrid p hp 8 (by simp), hgrid p hp 12 (by simp)⟩⟩

/-- Settles O30: a state field is its two registers, which hold every i64; each register write and each change of the law
by its branch; a pair's remainder is that of its division, and the hysteresis ends between h and ± HMAX. -/
theorem batteryModel : Obligations.BatteryModel :=
  ⟨modelRegisterWrites, modelStateWrites, modelUpdates, modelArithmetic, modelTableChecks⟩

end Sys2Proof.Machine
end

section
/-!
Windows (R192 to R194), captures (R197), sweeps (R199 to R202), the clears of the accumulators (R196), the results of a
window (R193), and the obligation about them.
-/
namespace Sys2Proof.Machine

/-! ### Starts, stops and ends -/

section
variable (s : State) (rq : Requester) (c : Fin 24)

theorem winCtl_owned (r : Option Bool) (h : s.is (F.MS_SWP_CTRL.RUN c) = true) :
    s.winCtl c r = s.set (F.MS_STAT.CFG_REJ c) 1 := if_pos h

theorem winCtl_free (r : Option Bool) (h : s.is (F.MS_SWP_CTRL.RUN c) = false) :
    s.winCtl c r = (s.wakeCh c).modFe c fun f => { f with winReq := f.winReq ++ [r] } := if_neg (Bool.eq_false_iff.1 h)

theorem winFull_of_open (h : (s.ch c).fe.win.full = false) : s.winFull c = s := by
  simp only [State.winFull, h]
  rfl

section
variable (h : (s.ch c).fe.win.full = true)
include h

theorem winFull_of_step (hstep : (s.ch c).fe.win.step ≠ 0xFFFFFFFF) : s.winFull c =
    if (s.ch c).fe.win.step + 1 = (s.ch c).fe.sweep.n ∧ s.is (F.MS_SWP_CTRL.RUN c) = true
    then (s.closeWin c false).sweepDone c else s.closeWin c false := by
  simp [State.winFull, h, hstep]

theorem winFull_of_window (hstep : (s.ch c).fe.win.step = 0xFFFFFFFF) : s.winFull c =
    if s.is (F.MS_WIN_CTRL.REPEAT c) = true ∧ s.is (F.MS_SWP_CTRL.RUN c) = false
    then (s.closeWin c false).openWin c ((s.closeWin c false).rd (R.MS_WIN_LEN c)).toNat false 0xFFFFFFFF
    else s.closeWin c false := by
  simp [State.winFull, h, hstep]

theorem winFull_ends (hstep : (s.ch c).fe.win.step = 0xFFFFFFFF)
    (hrep : s.is (F.MS_WIN_CTRL.REPEAT c) = false ∨ s.is (F.MS_SWP_CTRL.RUN c) = true) :
    s.winFull c = s.closeWin c false := by
  rw [winFull_of_window s c h hstep, if_neg]
  rcases hrep with hrep | hrun
  · simp [hrep]
  · simp [hrun]

theorem winFull_repeats (hstep : (s.ch c).fe.win.step = 0xFFFFFFFF) (hrep : s.is (F.MS_WIN_CTRL.REPEAT c) = true)
    (hrun : s.is (F.MS_SWP_CTRL.RUN c) = false) : s.winFull c =
    (s.closeWin c false).openWin c ((s.closeWin c false).rd (R.MS_WIN_LEN c)).toNat false 0xFFFFFFFF := by
  rw [winFull_of_window s c h hstep, if_pos ⟨hrep, hrun⟩]

end

/-- The sweep at address a has begun: its table is taken, and a window outside a sweep has ended (R200). -/
def sweepBegun (a : Nat) : State :=
  ((((if (s.ch c).fe.win.step = 0xFFFFFFFF then s else s.closeWin c true).set (F.MS_SWP_CTRL.RUN c) 1).setb
    (F.MS_SWP_STAT.PAUSED c) (s.is (F.MS_STAT.SLACK c) && (s.sweepHdr a).policy == 1)).set (F.MS_SWP_STAT.STEP c) 0).modFe c
      fun f => { f with sweep := s.sweepHdr a }

theorem sweepStart_refused (h : s.sweepOk (s.get (F.MS_SWP_ADDR.ADDR c) * 16) = false) :
    s.sweepStart c = (s.set (F.MS_LATCH.SWP_ERR c) 1).set (F.MS_STAT.CFG_REJ c) 1 := if_pos (by simp [h])

theorem sweepStart_begins (h : s.sweepOk (s.get (F.MS_SWP_ADDR.ADDR c) * 16) = true) : s.sweepStart c =
    ((sweepBegun s c (s.get (F.MS_SWP_ADDR.ADDR c) * 16)).sweepCheck
      (sweepBegun s c (s.get (F.MS_SWP_ADDR.ADDR c) * 16)).count
      (sweepBegun s c (s.get (F.MS_SWP_ADDR.ADDR c) * 16)).count 1 c).wakeCh c := if_neg (by simp [h])

theorem sweepAbort_idle (h : s.is (F.MS_SWP_CTRL.RUN c) = false) : s.sweepAbort c = s := if_neg (Bool.eq_false_iff.1 h)

theorem sweepAbort_running (h : s.is (F.MS_SWP_CTRL.RUN c) = true) : s.sweepAbort c =
    (if (s.ch c).fe.win.opened then s.closeWin c true else s).sweepDone c := if_pos h

theorem clrBit_marks (bit : Nat) :
    s.clrBit rq c bit = s.modFe c fun f => { f with clr := f.clr ||| 2 ^ bit } :=
  if_pos (canWrite_of_channel rq _ (by simp only [R.MS_ACC_CTRL]; omega))

end

theorem windowsCapturesAndSweeps : Claims.WindowsCapturesAndSweeps := by
  intro rq c s hrq t asks a begun w clears
  have hwin : 0x200000 ≤ R.MS_WIN_CTRL c := by simp only [R.MS_WIN_CTRL]; omega
  have hcap : 0x200000 ≤ R.MS_CAP_CTRL c := by simp only [R.MS_CAP_CTRL]; omega
  have hswp : 0x200000 ≤ R.MS_SWP_CTRL c := by simp only [R.MS_SWP_CTRL]; omega
  have hstart : exec (.windowStart rq c) s = .next (t.winCtl c (some false)) := next_storeTo_block s rq c _ hwin
  have hstop : exec (.windowStop rq c) s = .next (t.winCtl c none) := next_storeTo_block s rq c _ hwin
  have hend : exec (.windowEnd c) s = .next (s.winFull c) := rfl
  have hsweep : exec (.sweepStart rq c) s = .next (t.sweepStart c) := next_storeTo_block s rq c _ hswp
  have habort : exec (.sweepAbort rq c) s = .next (t.sweepAbort c) := next_storeTo_block s rq c _ hswp
  rw [hstart, hstop, hend, hsweep, habort]
  exact ⟨fun h => ⟨congrArg _ (winCtl_owned t c _ h), congrArg _ (winCtl_owned t c _ h)⟩,
    fun h => ⟨congrArg _ (winCtl_free t c _ h), congrArg _ (winCtl_free t c _ h)⟩,
    fun h => congrArg _ (winFull_of_open s c h),
    fun h hstep => ⟨fun hrep => congrArg _ (winFull_ends s c h hstep hrep),
      fun hrep hrun => congrArg _ (winFull_repeats s c h hstep hrep hrun)⟩,
    fun h hstep => congrArg _ (winFull_of_step s c h hstep),
    next_storeTo_block s rq c _ hcap, next_storeTo_block s rq c _ hcap,
    fun h => congrArg _ (sweepStart_refused t c h), fun h => congrArg _ (sweepStart_begins t c h),
    fun h => congrArg _ (sweepAbort_idle t c h), fun h => congrArg _ (sweepAbort_running t c h),
    congrArg _ (clrBit_marks s rq c 0), congrArg _ (clrBit_marks s rq c 1), congrArg _ (clrBit_marks s rq c 2),
    congrArg _ (clrBit_marks s rq c 3)⟩

/-! ### The results of a window (R193) -/

/-- The bisection keeps the root between r and r + 2^k. -/
theorem isqrtAux_between (n : Nat) : ∀ k r : Nat, r * r ≤ n → n < (r + 2 ^ k) * (r + 2 ^ k) →
    isqrtAux k n r * isqrtAux k n r ≤ n ∧ n < (isqrtAux k n r + 1) * (isqrtAux k n r + 1) := by
  intro k
  induction k with
  | zero => exact fun r hlo hhi => ⟨hlo, hhi⟩
  | succ k ih =>
    intro r hlo hhi
    have hhalf : r + 2 ^ (k + 1) = r + 2 ^ k + 2 ^ k := by omega
    rw [hhalf] at hhi
    simp only [isqrtAux]
    split
    · next hle => exact ih _ hle hhi
    · next hgt => exact ih _ hlo (Nat.not_le.1 hgt)

theorem isqrt_between {n : Nat} (h : n < 2 ^ 192) : isqrt n * isqrt n ≤ n ∧ n < (isqrt n + 1) * (isqrt n + 1) :=
  isqrtAux_between n 96 0 (Nat.zero_le n) (by omega)

/-- The first sample of a window sets the extremes and the first times; a later one moves the extremes alone. -/
theorem windowAdd_extremes (w : Window) (v i : Int) (fl d x : Nat) :
    (w.n = 0 → (w.add v i fl d x).vmin = v ∧ (w.add v i fl d x).vmax = v ∧ (w.add v i fl d x).imin = i ∧
      (w.add v i fl d x).imax = i ∧ (w.add v i fl d x).d0 = d ∧ (w.add v i fl d x).x0 = x) ∧
    (w.n ≠ 0 → (w.add v i fl d x).vmin = min w.vmin v ∧ (w.add v i fl d x).vmax = max w.vmax v ∧
      (w.add v i fl d x).d0 = w.d0 ∧ (w.add v i fl d x).x0 = w.x0) :=
  ⟨fun h => ⟨if_pos h, if_pos h, if_pos h, if_pos h, if_pos h, if_pos h⟩,
    fun h => ⟨if_neg h, if_neg h, if_neg h, if_neg h⟩⟩

theorem windowResults : Claims.WindowResults := by
  intro w v i fl d x u
  obtain ⟨hfirst, hlater⟩ := windowAdd_extremes w v i fl d x
  exact ⟨rfl, rfl, rfl, rfl, rfl, hfirst, hlater, rfl, rfl, rfl, rfl, rfl, fun _ => isqrt_between⟩

/-- Settles O34: each start, stop and end by its branch; the results by the fields of the window, and the integer root by
the bounds that each halving of the bisection keeps. -/
theorem windowsAndSweeps : Obligations.WindowsAndSweeps := ⟨windowsCapturesAndSweeps, windowResults⟩

end Sys2Proof.Machine
end

section
/-!
The control sample (R100, R101): its order, the results that it leaves (R173, R178), disputed engines (R126 to R128), and
the obligation about them.
-/
namespace Sys2Proof.Machine

/-! ### The order of a sample (R100, R101, R127, R494) -/

section
variable (s : State) (c : Fin 24) (x : Sample)

/-- The state after what every sample does first: the upset, the results, and VIN_c against 34 V. -/
def sampleMeasured : State :=
  let m := (s.upset c x.upset).measure c x
  if m.domOn (3 * c) then m.vinCheck c x.vin else m

/-- The inputs of a sample have acted: requests, operations, fires, and the line of the port. -/
def sampleInputs : State := (((sampleMeasured s c x).takeReqs c).takeInputs c).portSample c

/-- The mode of a sample has acted, and the battery model follows the law. -/
def sampleMode : State :=
  (if (sampleInputs s c x).domOn (3 * c) && !((sampleInputs s c x).ch c).drain then (sampleInputs s c x).applyMode c
    else sampleInputs s c x).bmFollow c

theorem controlSample_undisputed (h : (sampleMeasured s c x).disputed c = false) : exec (.controlSample c x) s =
    .next ((((if s.domOn (3 * c + 2) then (sampleMode s c x).accumulate c x.coarse ((sampleMode s c x).vTarget c)
      else sampleMode s c x).batCounts c).law c x).sampleEnd c) :=
  next_if_neg _ _ (Bool.eq_false_iff.1 h)

theorem controlSample_disputed (h : (sampleMeasured s c x).disputed c = true) : exec (.controlSample c x) s =
    .next ((((((if s.domOn (3 * c + 2) then
      (((sampleMeasured s c x).dispute c x.errA x.errB).winFull c).accumulate c x.coarse
        (((sampleMeasured s c x).dispute c x.errA x.errB).vTarget c)
      else (sampleMeasured s c x).dispute c x.errA x.errB).batCounts c).legsRepeat c x).supervise c false).sampleEnd c)) :=
  next_if_pos _ _ h

/-- Boot that discharges OUT, or a power stage that is off, holds the mode (R494). -/
theorem sampleMode_eq : sampleMode s c x =
    (if (sampleInputs s c x).domOn (3 * c) = true ∧ ((sampleInputs s c x).ch c).drain = false
      then (sampleInputs s c x).applyMode c else sampleInputs s c x).bmFollow c := by
  simp only [sampleMode, Bool.and_eq_true, Bool.not_eq_true']

end

theorem controlSampleOrder : Claims.ControlSampleOrder := by
  intro c x s fe s1 s2 s3 s4 d
  refine ⟨fun h => ?_, controlSample_disputed s c x⟩
  rw [controlSample_undisputed s c x h, sampleMode_eq]
  rfl

/-! ### The results of a sample (R72, R97, R173, R178) -/

@[simp] theorem State.modFe_mem (s : State) (c : Fin 24) (g : FrontEnd → FrontEnd) : (s.modFe c g).mem = s.mem := rfl

@[simp] theorem State.modFe_rd (s : State) (c : Fin 24) (g : FrontEnd → FrontEnd) (a : Nat) :
    (s.modFe c g).rd a = s.rd a := rfl

theorem wrPairs_rwf (l : List Int) : ∀ (s : State) (a : Nat), s.rwf → (s.wrPairs a l).rwf := by
  induction l with
  | nil => exact fun _ _ h => h
  | cons v l ih => exact fun s a h => ih _ _ (s.wr64_rwf _ _ v h)

theorem wrPairs_mem (l : List Int) : ∀ (s : State) (a : Nat), (s.wrPairs a l).mem = s.mem := by
  induction l with
  | nil => exact fun _ _ => rfl
  | cons v l ih => exact fun s a => ih _ _

/-- Registers below the first pair keep their words. -/
theorem rd_wrPairs_below (l : List Int) : ∀ (s : State) (a b : Nat), b < a → (s.wrPairs a l).rd b = s.rd b := by
  induction l with
  | nil => exact fun _ _ _ _ => rfl
  | cons v l ih =>
    exact fun s a b h => (ih _ _ b (by omega)).trans (s.rd_wr64_other _ _ _ _ (by omega) (by omega))

/-- The n-th pair holds the n-th value. -/
theorem rd64_wrPairs (l : List Int) : ∀ (s : State) (a n : Nat) (v : Int), s.rwf → l[n]? = some v →
    (s.wrPairs a l).rd64 (a + 8 * n) (a + 8 * n + 4) = pairNat (loWord v) (hiWord v) := by
  induction l with
  | nil => exact fun _ _ _ _ _ h => nomatch h
  | cons u l ih =>
    intro s a n v hwf h
    cases n with
    | zero =>
      obtain rfl : u = v := Option.some.inj h
      rw [State.rd64, State.wrPairs, rd_wrPairs_below l _ _ _ (by omega), rd_wrPairs_below l _ _ _ (by omega)]
      exact s.rd64_wr64 _ _ u hwf (by omega)
    | succ n =>
      have haddr : a + 8 * (n + 1) = a + 8 + 8 * n := by omega
      rw [haddr]
      exact ih _ _ n v (s.wr64_rwf _ _ u hwf) h

section
variable (s : State) (c : Fin 24) (x : Sample)

/-- V as the sample takes it: at OUT_c under local sense and on a follower (R72, R97). -/
def sensedV : Int := if s.is (F.PS_STAT.LOCAL c) || s.get (F.PS_GANG.ROLE c) == 2 then x.vloc else x.v

/-- The fine sense is beyond the full scale of its range (R178). -/
def overI : Bool := decide (rangeFs (s.get (F.MS_RANGE.IACT c)) < (x.i.natAbs : Int))

/-- V is beyond the full scale of its range. -/
def overV : Bool := decide (vrangeFs (s.get (F.MS_RANGE.VACT c)) < ((sensedV s c x).natAbs : Int))

/-- The current as the sample takes it: the coarse sense beyond the range of the fine one (R178). -/
def sensedI : Int := if overI s c x then x.coarse else x.i

theorem sensedI_within (h : (x.i.natAbs : Int) ≤ rangeFs (s.get (F.MS_RANGE.IACT c))) : sensedI s c x = x.i :=
  if_neg (by rw [overI, decide_eq_true_eq]; exact Int.not_lt.2 h)

theorem sensedI_beyond (h : rangeFs (s.get (F.MS_RANGE.IACT c)) < (x.i.natAbs : Int)) : sensedI s c x = x.coarse :=
  if_pos (decide_eq_true h)

/-- The seven results of a sample, in the order of their registers. -/
def resultList : List Int :=
  [sensedV s c x, x.vloc, sensedI s c x, roundDiv (sensedV s c x * sensedI s c x) 1000000000000000, x.vbat, x.ibat, x.vin]

/-- The results in their registers, and OVR. -/
def resultsMarked : State :=
  (s.wrPairs (R.MS_V_LO c) (resultList s c x)).setb (F.MS_STAT.OVR c) (overI s c x || overV s c x)

/-- With no range change and no calibration in place, a latch leaves the results, OVR, and perhaps its latch. -/
theorem latch_eq (hchg : (s.ch c).fe.chg = none) (hcal : (s.ch c).fe.calPlace = none) :
    ∃ (b : Bool) (g : FrontEnd → FrontEnd), s.latch c x =
      (if b then (resultsMarked s c x).set (F.MS_LATCH.OVR c) 1 else resultsMarked s c x).modFe c g := by
  simp only [State.latch, hchg, hcal, Option.isSome_none, Bool.or_false]
  exact ⟨_, _, rfl⟩

theorem resultsMarked_reads_ovr (h : s.rwf) :
    Reads (F.MS_STAT.OVR c) (b2n (overI s c x || overV s c x)) (resultsMarked s c x) :=
  reads_set (wrPairs_rwf _ s _ h) _ _ rfl (by cases overI s c x || overV s c x <;> rfl)

section
variable (hchg : (s.ch c).fe.chg = none) (hcal : (s.ch c).fe.calPlace = none)
include hchg hcal

theorem latch_mem : (s.latch c x).mem = s.mem := by
  obtain ⟨b, g, heq⟩ := latch_eq s c x hchg hcal
  have hmark : (resultsMarked s c x).mem = s.mem := by
    rw [resultsMarked, State.setb_mem, wrPairs_mem]
  rw [heq, State.modFe_mem]
  split
  · rw [State.set_mem, hmark]
  · exact hmark

/-- The registers from the first result on are those of the results. -/
theorem latch_rd {a : Nat} (h : R.MS_V_LO c ≤ a) :
    (s.latch c x).rd a = (s.wrPairs (R.MS_V_LO c) (resultList s c x)).rd a := by
  have hne : a ≠ R.MS_STAT c ∧ a ≠ R.MS_LATCH c := by
    simp only [R.MS_V_LO, R.MS_STAT, R.MS_LATCH] at h ⊢
    omega
  obtain ⟨hstat, hlatch⟩ := hne
  have hmark : (resultsMarked s c x).rd a = (s.wrPairs (R.MS_V_LO c) (resultList s c x)).rd a :=
    State.set_rd_other _ (F.MS_STAT.OVR c) _ a hstat
  obtain ⟨b, g, heq⟩ := latch_eq s c x hchg hcal
  rw [heq, State.modFe_rd]
  split
  · exact (State.set_rd_other _ (F.MS_LATCH.OVR c) 1 a hlatch).trans hmark
  · exact hmark

theorem latch_result (h : s.rwf) {n : Nat} {v : Int} (hn : n < 8) (hv : (resultList s c x)[n]? = some v)
    (hfits : -(2 ^ 63) ≤ v ∧ v < 2 ^ 63) : (s.latch c x).result c n = v := by
  obtain ⟨hlo, hhi⟩ := hfits
  simp only [State.result, if_pos hn, State.rd64]
  rw [latch_rd s c x hchg hcal (by omega), latch_rd s c x hchg hcal (by omega), ← State.rd64,
    rd64_wrPairs _ s _ n v h hv, i64_pairNat_words hlo hhi]

theorem latch_reads_ovr (h : s.rwf) :
    Reads (F.MS_STAT.OVR c) (b2n (overI s c x || overV s c x)) (s.latch c x) := by
  have hne : R.MS_STAT c ≠ R.MS_LATCH c := by
    simp only [R.MS_STAT, R.MS_LATCH]
    omega
  have hmark := resultsMarked_reads_ovr s c x h
  obtain ⟨b, g, heq⟩ := latch_eq s c x hchg hcal
  rw [heq]
  split
  · exact (hmark.set_other (F.MS_LATCH.OVR c) 1 hne).modCh c _
  · exact hmark.modCh c _

end

end

theorem sampleResults : Claims.SampleResults := by
  intro c x s hwf hchg hcal u loc v ovr fits
  have h := State.wf_rwf hwf
  have hv : v = sensedV s c x := by simp [v, loc, sensedV]
  have hovr : (overI s c x || overV s c x) = true ↔ ovr := by simp [overI, overV, ovr, hv]
  have hres : ∀ (n : Nat) (y : Int), n < 8 → (resultList s c x)[n]? = some y → fits y → u.result c n = y :=
    fun n y hn hy hf => latch_result s c x hchg hcal h hn hy hf
  refine ⟨fun hf => hres 0 v (by decide) (by rw [hv]; rfl) hf, hres 1 _ (by decide) rfl, hres 4 _ (by decide) rfl,
    hres 5 _ (by decide) rfl, hres 6 _ (by decide) rfl,
    fun hf hle => hres 2 _ (by decide) (congrArg some (sensedI_within s c x hle)) hf,
    fun hf hlt => hres 2 _ (by decide) (congrArg some (sensedI_beyond s c x hlt)) hf, ?_, latch_mem s c x hchg hcal⟩
  · rw [(latch_reads_ovr s c x hchg hcal h).get, ← hovr]
    cases overI s c x || overV s c x <;> simp [b2n]

/-! ### Disputed engines (R126 to R128) -/

section
variable (s : State) (c : Fin 24)

/-- The charger of channel c. -/
def ownCharger : Fin 25 := ⟨c.val, Nat.lt_succ_of_lt c.isLt⟩

theorem disputed_iff : s.disputed c = true ↔ (s.enginesOk c).length = 2 ∧ s.domOn (3 * c + 1) = true ∧
    ((s.ch c).eng ≠ (s.ch c).engB ∨ (s.ch c).bm ≠ (s.ch c).bmB ∨ s.chargers[ownCharger c] ≠ s.chargersB[ownCharger c]) := by
  simp [State.disputed, ownCharger, and_assoc, or_assoc]

/-- Engines whose states are one are not disputed. -/
theorem disputed_of_equal (he : (s.ch c).eng = (s.ch c).engB) (hb : (s.ch c).bm = (s.ch c).bmB)
    (hk : s.chargers[ownCharger c] = s.chargersB[ownCharger c]) : s.disputed c = false := by
  rw [Bool.eq_false_iff, ne_eq, disputed_iff]
  rintro ⟨-, -, h | h | h⟩
  · exact h he
  · exact h hb
  · exact h hk

theorem engineFrom_a_undisputed : (s.engineFrom c 0).disputed c = false :=
  disputed_of_equal _ c (by simp [State.engineFrom, State.ch]) (by simp [State.engineFrom, State.ch])
    (by simp [State.engineFrom, ownCharger])

theorem engineFrom_b_undisputed : (s.engineFrom c 1).disputed c = false :=
  disputed_of_equal _ c (by simp [State.engineFrom, State.ch]) (by simp [State.engineFrom, State.ch])
    (by simp [State.engineFrom, ownCharger])

theorem fenceEngine_a_fenced (b : Bool) (h : s.get (F.RG_ENG.ENG_A c) ≠ 0) : s.fenceEngine c 0 b = s := if_pos h

end

theorem disputedEngines : Claims.DisputedEngines := by
  intro s c k hk m
  obtain rfl : k = ownCharger c := Fin.ext hk
  exact ⟨disputed_iff s c, rfl, rfl, rfl, rfl, fenceEngine_a_fenced s c, engineFrom_a_undisputed s c,
    engineFrom_b_undisputed s c⟩

/-- Settles O36: the two orders of a sample are the branches of its command; the results are consecutive pairs of
registers that the marks written after them leave alone; engines are disputed exactly where a part of their state differs. -/
theorem controlSamples : Obligations.ControlSamples := ⟨controlSampleOrder, sampleResults, disputedEngines⟩

end Sys2Proof.Machine
end

section
/-!
Ranges (R179 to R182), converter units, their rotations, calibrations and fences (R183, R184), handovers (R188 to R191),
and the obligation about them.
-/
namespace Sys2Proof.Machine

@[simp] theorem State.modFe_regs (s : State) (c : Fin 24) (g : FrontEnd → FrontEnd) : (s.modFe c g).regs = s.regs := rfl

@[simp] theorem State.modFe_ch (s : State) (c : Fin 24) (g : FrontEnd → FrontEnd) :
    (s.modFe c g).ch c = { s.ch c with fe := g (s.ch c).fe } := s.modCh_ch c _

/-! ### What an assertion leaves (R437) -/

theorem flit_regs (s : State) (l dir cls : Nat) : (s.flit l dir cls).regs = s.regs := by
  simp only [State.flit]
  split
  · rfl
  · exact s.modBook_regs _ _

theorem report_regs (s : State) (r : Report) : (s.report r).regs = s.regs := by
  simp only [State.report]
  split
  · rfl
  · split
    · rfl
    · exact flit_regs _ _ _ _

@[simp] theorem assertL_regs (s : State) (src cond d0 : Nat) (d1 : Word) : (s.assertL src cond d0 d1).regs = s.regs := by
  simp only [State.assertL]
  split
  · rfl
  · exact report_regs _ _

theorem OnlyTold.chans {s t : State} (h : OnlyTold s t) : t.chans = s.chans := by
  have hrest := congrArg State.chans h.rest
  exact hrest

@[simp] theorem assertL_chans (s : State) (src cond d0 : Nat) (d1 : Word) :
    (s.assertL src cond d0 d1).chans = s.chans := by
  simp only [State.assertL]
  split
  · rfl
  · exact (told_report _ _).chans

@[simp] theorem assertL_ch (s : State) (src cond d0 : Nat) (d1 : Word) (c : Fin 24) :
    (s.assertL src cond d0 d1).ch c = s.ch c :=
  congrArg (fun l : Vector Chan 24 => l[c]) (assertL_chans s src cond d0 d1)

/-! ### MS_AUTO (R179) -/

section
variable (s : State) (rq : Requester) (c : Fin 24) (w : Word)

theorem msAutoWrite_refused (h : bitsOf w 31 16 = 0 ∨ 5 < bitsOf w 10 8 ∨ 5 < bitsOf w 2 0) :
    s.msAutoWrite rq c w = s.rej rq (R.MS_AUTO c) := if_pos (by simpa [or_assoc] using h)

section
variable (h : ¬ (bitsOf w 31 16 = 0 ∨ 5 < bitsOf w 10 8 ∨ 5 < bitsOf w 2 0))
include h

theorem msAutoWrite_in_range : s.msAutoWrite rq c w = if bitsOf w 2 0 < bitsOf w 10 8 then s.set (F.MS_STAT.CFG_REJ c) 1
    else ((s.set (F.MS_AUTO.DOWN_HOLD c) (bitsOf w 31 16)).set (F.MS_AUTO.ICEIL c) (bitsOf w 10 8)).set
      (F.MS_AUTO.IFLOOR c) (bitsOf w 2 0) := if_neg (by simpa [or_assoc] using h)

theorem msAutoWrite_crossed (hcross : bitsOf w 2 0 < bitsOf w 10 8) :
    s.msAutoWrite rq c w = s.set (F.MS_STAT.CFG_REJ c) 1 := (msAutoWrite_in_range s rq c w h).trans (if_pos hcross)

theorem msAutoWrite_stored (hord : bitsOf w 10 8 ≤ bitsOf w 2 0) : s.msAutoWrite rq c w =
    ((s.set (F.MS_AUTO.DOWN_HOLD c) (bitsOf w 31 16)).set (F.MS_AUTO.ICEIL c) (bitsOf w 10 8)).set
      (F.MS_AUTO.IFLOOR c) (bitsOf w 2 0) := (msAutoWrite_in_range s rq c w h).trans (if_neg (Nat.not_lt.2 hord))

end
end

/-! ### A range change completes (R182) -/

section
variable (s : State) (c : Fin 24)

/-- Channel c measures in range r, and its hold starts again; what was held is still to be applied. -/
def rangeTaken (r : Nat) : State :=
  ((s.set (F.MS_RANGE.IACT c) r).set (F.MS_STAT.RCHG c) 0).modFe c fun f => { f with chg := none, downI := 0 }

theorem rangeChangeDone_takes {r : Nat} (h : (s.ch c).fe.chg = some r) :
    exec (.rangeChangeDone c) s = .next ((rangeTaken s c r).heldRange c) := by
  show execRangeChangeDone c s = _
  simp only [execRangeChangeDone, h, rangeTaken]

theorem rangeChangeDone_idle (h : (s.ch c).fe.chg = none) : exec (.rangeChangeDone c) s = .next s := by
  show execRangeChangeDone c s = _
  simp only [execRangeChangeDone, h]

theorem rangeTaken_settled (r : Nat) :
    ((rangeTaken s c r).ch c).fe.chg = none ∧ ((rangeTaken s c r).ch c).fe.downI = 0 := by
  simp [rangeTaken]

/-! ### Calibrations (R183, R184) -/

theorem calibrationDone_readies (hcal : (s.ch c).fe.calib = true) (hunits : 3 ≤ (s.ch c).fe.units.length)
    (hsup : s.supRuns c = true) :
    exec (.calibrationDone c) s = .next (s.modFe c fun f => { f with calib := false, spareOk := true }) :=
  next_if_pos _ _ (by simp [hcal, hunits, hsup])

theorem calibrationDone_idle
    (h : (s.ch c).fe.calib = false ∨ (s.ch c).fe.units.length < 3 ∨ s.supRuns c = false) :
    exec (.calibrationDone c) s = .next s := by
  refine next_if_neg _ _ ?_
  rcases h with hcal | hunits | hsup
  · simp [hcal]
  · simp [Nat.not_le.2 hunits]
  · simp [hsup]

theorem inPlaceCalibration_starts (hunits : (s.ch c).fe.units.length = 2) (hplace : (s.ch c).fe.calPlace = none) :
    exec (.inPlaceCalibration c) s = .next (s.modFe c fun f => { f with calPlace := some (f.oldest % 2) }) :=
  next_if_pos _ _ (by simp [hunits, hplace])

theorem inPlaceCalibration_idle (h : (s.ch c).fe.units.length ≠ 2 ∨ (s.ch c).fe.calPlace ≠ none) :
    exec (.inPlaceCalibration c) s = .next s := by
  refine next_if_neg _ _ ?_
  rcases h with hunits | hplace
  · simp [hunits]
  · simp [hplace]

theorem inPlaceCalibrationEnd_idle (h : (s.ch c).fe.calPlace = none) :
    exec (.inPlaceCalibrationEnd c) s = .next s := by
  show execInPlaceCalibrationEnd c s = _
  simp only [execInPlaceCalibrationEnd, h]

theorem inPlaceCalibrationEnd_turns {a : Nat} (h : (s.ch c).fe.calPlace = some a) : exec (.inPlaceCalibrationEnd c) s =
    .next (s.modFe c fun f => { f with calPlace := none, oldest := 1 - a % 2 }) := by
  show execInPlaceCalibrationEnd c s = _
  simp only [execInPlaceCalibrationEnd, h]

/-! ### Fences of converter units (R184) -/

theorem convFence_fenced (u : Fin 3) (h : (s.ch c).convBad.contains u.val = true) : s.convFence c u = s := if_pos h

/-- The fenced unit leaves service and no spare is ready; with fewer than two units left the channel is fenced too. -/
theorem convFence_sound (u : Fin 3) (h : (s.ch c).convBad.contains u.val = false) :
    ∃ v : State, s.convFence c u = (if (s.ch c).fe.units.length < 3 then v.fenceCh c else v) ∧
      (v.ch c).convBad = (s.ch c).convBad ++ [u.val] ∧ (v.ch c).fe.spareOk = false ∧ v.regs = s.regs := by
  exact ⟨_, if_neg (Bool.eq_false_iff.1 h), by simp, by simp, by simp⟩

/-! ### Handovers (R188 to R191) -/

theorem stillQualified_starts (hcan : s.canHandover c = true) (hauto : (s.curMode c).stage = 2)
    (hact : s.get (F.MS_STAGE.ACT c) = 0) (hstill : 40000 ≤ (s.ch c).fe.still) :
    exec (.stillQualified c) s = .next (s.handoverIn c) :=
  next_if_pos _ _ (by simp [hcan, hauto, hact, hstill])

theorem stillQualified_waits (h : (s.ch c).fe.still < 40000) : exec (.stillQualified c) s = .next s :=
  next_if_neg _ _ (by simp [h])

/-- The stage and the counts after a handover of channel c: into STILL from ACT 2, out of it from ACT 3, where a
condition that was not met latches HO_LIMIT. -/
def handoverEnded (met : Bool) : State :=
  let act := s.get (F.MS_STAGE.ACT c)
  let s1 := (s.set (F.MS_STAGE.ACT c) (if act = 2 then 1 else 0)).inc (F.MS_STAGE.HCNT c)
  if act = 3 && !met then s1.set (F.MS_LATCH.HO_LIMIT c) 1 else s1

theorem handoverDone_idle (met : Bool) (h : s.get (F.MS_STAGE.ACT c) < 2) :
    exec (.handoverDone c met) s = .next s := next_if_pos _ _ h

/-- A handover in progress ends: it is signalled, the channel resolves again, and what was held is applied. -/
theorem handoverDone_ends (met : Bool) (h : ¬ s.get (F.MS_STAGE.ACT c) < 2) :
    ∃ v : State, exec (.handoverDone c met) s =
        .next ((((v.signal 0x07 c (v.stageWord c)).reresolve c).heldRange c).resumePath c) ∧
      v.regs = (handoverEnded s c met).regs :=
  ⟨(handoverEnded s c met).modFe c fun f => { f with downI := 0, still := 0, outHi := 0, outLo := 0 },
    next_if_neg _ _ h, rfl⟩

theorem handoverEnded_in (met : Bool) (h : s.get (F.MS_STAGE.ACT c) = 2) :
    handoverEnded s c met = (s.set (F.MS_STAGE.ACT c) 1).inc (F.MS_STAGE.HCNT c) := by
  simp [handoverEnded, h]

theorem handoverEnded_out (met : Bool) (h : s.get (F.MS_STAGE.ACT c) = 3) : handoverEnded s c met =
    if met = true then (s.set (F.MS_STAGE.ACT c) 0).inc (F.MS_STAGE.HCNT c)
    else ((s.set (F.MS_STAGE.ACT c) 0).inc (F.MS_STAGE.HCNT c)).set (F.MS_LATCH.HO_LIMIT c) 1 := by
  cases met with
  | true => simp [handoverEnded, h]
  | false => simp [handoverEnded, h]

end

theorem rangesStagesAndUnits : Claims.RangesStagesAndUnits := by
  intro rq c u w met r a s _ f t bad act
  have hwrite : exec (.msAutoWrite rq c w) s = .next (t.msAutoWrite rq c w) :=
    next_storeTo_block s rq c _ (by simp only [R.MS_AUTO]; omega)
  have hfence : exec (.converterFence c u) s = .next (s.convFence c u) := rfl
  rw [hwrite, hfence]
  refine ⟨fun h => congrArg _ (msAutoWrite_refused t rq c w h), fun h hx => congrArg _ (msAutoWrite_crossed t rq c w h hx),
    fun h hx => congrArg _ (msAutoWrite_stored t rq c w h hx),
    fun h => ⟨rangeTaken s c r, rangeChangeDone_takes s c h, rfl, rangeTaken_settled s c r⟩, rangeChangeDone_idle s c,
    calibrationDone_readies s c, calibrationDone_idle s c, fun h => next_if_pos _ _ h,
    fun h => next_if_neg _ _ (Bool.eq_false_iff.1 h), rfl, fun h => congrArg _ (convFence_fenced s c u h), fun h => ?_,
    inPlaceCalibration_starts s c, inPlaceCalibration_idle s c, inPlaceCalibrationEnd_idle s c,
    inPlaceCalibrationEnd_turns s c, stillQualified_starts s c, stillQualified_waits s c, fun h => ?_, fun h hmet => ?_,
    fun h hmet => ?_, handoverDone_idle s c met⟩
  · obtain ⟨v, hv, hleft⟩ := convFence_sound s c u h
    exact ⟨v, congrArg _ hv, hleft⟩
  · rw [← handoverEnded_in s c met h]
    exact handoverDone_ends s c met (by omega)
  · have hout := (handoverEnded_out s c met h).trans (if_pos hmet)
    rw [← hout]
    exact handoverDone_ends s c met (by omega)
  · have hout := (handoverEnded_out s c met h).trans (if_neg (Bool.eq_false_iff.1 hmet))
    rw [← hout]
    exact handoverDone_ends s c met (by omega)

/-! ### Rotations (R183, R318, R462) -/

/-- The front end after a rotation: the spare, at place 2, and the active unit that has run longest change places. -/
def rotatedFe (f : FrontEnd) (mark : Bool) (gen : Nat) : FrontEnd :=
  let a := f.oldest % 2
  let u := (f.units.set a (f.units.getD 2 0)).set 2 (f.units.getD a 0)
  { f with units := u, oldest := 1 - a, spareOk := false, calib := true, calMark := f.calMark || mark
           calOf := f.calOf.set (u.getD a 0) gen }

section
variable (s : State) (c : Fin 24) (mark : Bool)

theorem rotate_pauses (h : (s.ch c).fe.spareOk = false ∨ s.supRuns c = false) : s.rotate c mark = s := by
  refine if_neg ?_
  rcases h with hspare | hsup
  · simp [hspare]
  · simp [hsup]

theorem rotate_swaps (hspare : (s.ch c).fe.spareOk = true) (hunits : 3 ≤ (s.ch c).fe.units.length)
    (hsup : s.supRuns c = true) : s.rotate c mark = s.modFe c fun f => rotatedFe f mark s.upd.calGen :=
  if_pos (by simp [hspare, hunits, hsup])

end

/-- The spare enters service, with the calibration data in force, from whichever place the oldest unit held. -/
theorem rotatedFe_calOf {f : FrontEnd} {v i sp : Nat} (h : f.units = [v, i, sp]) (mark : Bool) (gen : Nat) :
    (rotatedFe f mark gen).calOf = f.calOf.set sp gen := by
  rcases Nat.mod_two_eq_zero_or_one f.oldest with hold | hold
  · simp [rotatedFe, h, hold]
  · simp [rotatedFe, h, hold]

theorem rotationsSwapTheSpare : Claims.RotationsSwapTheSpare := by
  intro s c mark v i sp f
  refine ⟨rotate_pauses s c mark, fun hspare hsup hunits => ?_⟩
  have hswap := rotate_swaps s c mark hspare (by simp [f, hunits]) hsup
  have hfe : ((s.rotate c mark).ch c).fe = rotatedFe f mark s.upd.calGen := by rw [hswap, State.modFe_ch]
  rw [hfe]
  refine ⟨fun hold => ?_, fun hold => ?_, rfl, rfl, by rw [hswap, State.modFe_regs], rotatedFe_calOf hunits mark _⟩
  · simp [rotatedFe, hunits, hold]
  · simp [rotatedFe, hunits, hold]

/-- Settles O33: each command's effect from its branch condition; a handover's end by the stage it leaves, a fence by what
an assertion keeps, and a rotation by the exchange of the spare with the oldest unit. -/
theorem rangesAndConverters : Obligations.RangesAndConverters := ⟨rangesStagesAndUnits, rotationsSwapTheSpare⟩

end Sys2Proof.Machine
end

section
/-!
What a mode resolution answers (R209, R210, Table 08-2): the rules of one row, what each step of the table keeps and
settles, and the clauses about safety and forbidden combinations.
-/
namespace Sys2Proof.Machine

/-! ### One row of Table 08-2 (R209) -/

@[simp] theorem modeStand_fst (p : Mode × Nat) (bit : Nat) (cond : Bool) : (modeStand p bit cond).1 = p.1 := by
  simp only [modeStand]
  split <;> rfl

theorem modeRow_fst (p : Mode × Nat) (bit : Nat) (cond : Bool) (f : Mode → Mode) :
    (modeRow p bit cond f).1 = if cond then f p.1 else p.1 := by
  cases cond with
  | false => rfl
  | true =>
    by_cases h : f p.1 = p.1
    · simp [modeRow, h]
    · simp [modeRow, h]

/-- One row of bits 0 to 3, as `safety` writes it. -/
def State.causeRow (s : State) (c : Fin 24) (bit : Nat) (f : Mode → Mode) (p : Mode × Nat) : Mode × Nat :=
  if s.cause c bit then modeStand (modeRow p bit true f) bit ((s.ch c).stand.testBit bit) else p

theorem safety_eq (s : State) (c : Fin 24) (m : Mode) : s.safety c m =
    s.causeRow c 3 mOff (s.causeRow c 2 mOffOpen (s.causeRow c 1 mOffOpen (s.causeRow c 0 mOffOpen (m, 0)))) := rfl

section
variable {P : Mode → Prop} {p : Mode × Nat} {bit : Nat} {cond : Bool} {f : Mode → Mode} {s : State} {c : Fin 24}

/-- A row keeps what its change keeps where its condition holds. -/
theorem modeRow_keeps (hf : cond = true → P p.1 → P (f p.1)) (h : P p.1) : P (modeRow p bit cond f).1 := by
  rw [modeRow_fst]
  split
  · next hc => exact hf hc h
  · exact h

/-- A row whose condition holds makes its change. -/
theorem modeRow_sets (hc : cond = true) (h : P (f p.1)) : P (modeRow p bit cond f).1 := by
  rwa [modeRow_fst, if_pos hc]

/-- A row settles a claim: its change where the condition holds, the condition's failure elsewhere. -/
theorem modeRow_settles (hf : P (f p.1)) (h : cond = false → P p.1) : P (modeRow p bit cond f).1 := by
  cases cond with
  | false => exact h rfl
  | true => exact modeRow_sets rfl hf

theorem causeRow_keeps (hf : P p.1 → P (f p.1)) (h : P p.1) : P (s.causeRow c bit f p).1 := by
  simp only [State.causeRow]
  split
  · rw [modeStand_fst]
    exact modeRow_keeps (fun _ => hf) h
  · exact h

theorem causeRow_sets (hc : s.cause c bit = true) (h : P (f p.1)) : P (s.causeRow c bit f p).1 := by
  rw [State.causeRow, if_pos hc, modeStand_fst]
  exact modeRow_sets rfl h

end

/-! ### The steps by name -/

/-- Does a cause of bits 0 to 3 stand? -/
def State.anyCause (s : State) (c : Fin 24) : Bool := (List.range 4).any fun b => s.cause c b

/-- The row of bit 4: a reaction resolved the role OFF, and the path OPEN after REACT OPEN. -/
def reactRow (r : Option Bool) (p : Mode × Nat) : Mode × Nat :=
  match r with
  | some opn => modeStand (modeRow p 4 true (if opn then mOffOpen else mOff)) 4 true
  | none => p

/-- The row of bit 6 applies: the OFF is held, and none of its causes stands any more. -/
def State.heldRow (s : State) (c : Fin 24) : Bool := (s.ch c).heldOff && !s.anyCause c

/-- Step 1 resolves the role OFF. -/
def State.safetyOff (s : State) (c : Fin 24) : Bool := s.heldRow c || (s.ch c).react.isSome || s.anyCause c

/-- The mode and the reasons after step 1. -/
def State.safetyStep (s : State) (c : Fin 24) : Mode × Nat :=
  let p := reactRow (s.ch c).react (s.safety c (s.reqMode c))
  let p := modeRow p 5 (s.is (F.PS_LATCH.BSW_TRIP c) && decide (p.1.path ≤ 1)) mOpen
  modeStand (modeRow p 6 (s.heldRow c) mOff) 6 (s.heldRow c)

theorem resolveOf_fst (s : State) (c : Fin 24) : (s.resolveOf c).1 =
    (s.rangeRows c (s.lawRows c (s.pdRows c (s.safetyOff c || (s.ch c).gangLeft)
      (s.gangRows c (s.safetyOff c) (s.safetyStep c))))).1 := by
  cases hr : (s.ch c).react with
  | none => simp only [State.resolveOf, State.safetyStep, State.safetyOff, State.heldRow, State.anyCause, reactRow, hr]
  | some opn =>
    simp only [State.resolveOf, State.safetyStep, State.safetyOff, State.heldRow, State.anyCause, reactRow, hr]

/-! ### Step 1: safety (R210) -/

section
variable {s : State} {c : Fin 24}

theorem anyCause_iff : s.anyCause c = true ↔
    (s.ch c).fenced = true ∨ (s.ch c).trip ≠ 0 ∨ s.domHeldOff (3 * c) = true ∨ s.thermStop c = true := by
  simp [State.anyCause, List.range, List.range.loop, State.cause]

theorem safetyOff_of_cause (h : s.anyCause c = true) : s.safetyOff c = true := by simp [State.safetyOff, h]

theorem safetyOff_of_react (h : (s.ch c).react.isSome = true) : s.safetyOff c = true := by simp [State.safetyOff, h]

/-- A held OFF stays OFF: under the causes that stand, and under HELD once none does. -/
theorem safetyOff_of_held (h : (s.ch c).heldOff = true) : s.safetyOff c = true := by
  cases hcause : s.anyCause c with
  | true => exact safetyOff_of_cause hcause
  | false => simp [State.safetyOff, State.heldRow, h, hcause]

/-- The role is OFF. -/
def Mode.Off (m : Mode) : Prop := m.role = 0

/-- The path is OPEN. -/
def Mode.Open (m : Mode) : Prop := m.path = 2

/-- The role is OFF and the path OPEN. -/
def Mode.OffOpen (m : Mode) : Prop := m.Off ∧ m.Open

/-- A fence, a trip or a held domain leaves the role OFF and the path OPEN; the rows after it keep both. -/
theorem safety_off_open (h : (s.ch c).fenced = true ∨ (s.ch c).trip ≠ 0 ∨ s.domHeldOff (3 * c) = true) (m : Mode) :
    (s.safety c m).1.OffOpen := by
  rw [safety_eq]
  refine causeRow_keeps (fun hp => ⟨rfl, hp.2⟩) ?_
  rcases h with hfence | htrip | hdom
  · exact causeRow_keeps (fun _ => ⟨rfl, rfl⟩) (causeRow_keeps (fun _ => ⟨rfl, rfl⟩) (causeRow_sets hfence ⟨rfl, rfl⟩))
  · exact causeRow_keeps (fun _ => ⟨rfl, rfl⟩) (causeRow_sets (bne_iff_ne.2 htrip) ⟨rfl, rfl⟩)
  · exact causeRow_sets hdom ⟨rfl, rfl⟩

theorem safety_off (h : s.anyCause c = true) (m : Mode) : (s.safety c m).1.Off := by
  rcases anyCause_iff.1 h with hfence | htrip | hdom | htherm
  · exact (safety_off_open (.inl hfence) m).1
  · exact (safety_off_open (.inr (.inl htrip)) m).1
  · exact (safety_off_open (.inr (.inr hdom)) m).1
  · exact causeRow_sets htherm rfl

theorem reactRow_off {r : Option Bool} {p : Mode × Nat} (h : r.isSome = true ∨ p.1.Off) : (reactRow r p).1.Off := by
  cases r with
  | none => exact h.resolve_left Bool.false_ne_true
  | some opn =>
    rw [reactRow, modeStand_fst]
    exact modeRow_sets rfl (by cases opn <;> rfl)

theorem reactRow_open {r : Option Bool} {p : Mode × Nat} (h : r = some true ∨ p.1.Open) : (reactRow r p).1.Open := by
  cases r with
  | none => exact h.resolve_left nofun
  | some opn =>
    rw [reactRow, modeStand_fst]
    cases opn with
    | false => exact modeRow_keeps (fun _ hp => hp) (h.resolve_left nofun)
    | true => exact modeRow_sets rfl rfl

theorem safetyStep_off (h : s.safetyOff c = true) : (s.safetyStep c).1.Off := by
  rw [State.safetyStep, modeStand_fst]
  simp only [State.safetyOff, Bool.or_eq_true] at h
  rcases h with (hheld | hreact) | hcause
  · exact modeRow_sets hheld rfl
  · exact modeRow_keeps (fun _ _ => rfl) (modeRow_keeps (fun _ hp => hp) (reactRow_off (.inl hreact)))
  · exact modeRow_keeps (fun _ _ => rfl) (modeRow_keeps (fun _ hp => hp) (reactRow_off (.inr (safety_off hcause _))))

theorem safetyStep_open (h : (s.ch c).react = some true ∨ (s.safety c (s.reqMode c)).1.Open) :
    (s.safetyStep c).1.Open := by
  rw [State.safetyStep, modeStand_fst]
  exact modeRow_keeps (fun _ hp => hp) (modeRow_keeps (fun _ _ => rfl) (reactRow_open h))

end

/-! ### Steps 2 and 3: gangs and PD roles -/

section
variable {s : State} {c : Fin 24} {off : Bool} {p : Mode × Nat}

theorem gangRows_keeps {P : Mode → Prop} (hfollow : ∀ m r, (off = true → r = 0) → P m →
      P { m with role := r, law := 1, path := 2, stage := 0, pd := 0 })
    (hirange : ∀ m r, P m → P { m with irange := r }) (hpd : ∀ m, P m → P { m with pd := 0 })
    (hstage : ∀ m, P m → P { m with stage := 0 }) (hopen : ∀ m, P m → P (mOpen m)) (hoff : ∀ m, P m → P (mOff m))
    (h : P p.1) : P (s.gangRows c off p).1 := by
  simp only [State.gangRows, modeStand_fst]
  refine modeRow_keeps (fun _ => hoff _) (modeRow_keeps (fun _ => hopen _) (modeRow_keeps (fun _ => hstage _) ?_))
  refine modeRow_keeps (fun _ => hpd _) (modeRow_keeps (fun _ => hirange _ _) (modeRow_keeps (fun _ => ?_) ?_))
  · exact hfollow _ _ fun hr => if_pos hr
  · rwa [modeStand_fst]

theorem gangRows_open (h : p.1.Open) : (s.gangRows c off p).1.Open :=
  gangRows_keeps (fun _ _ _ _ => rfl) (fun _ _ hp => hp) (fun _ hp => hp) (fun _ hp => hp) (fun _ _ => rfl)
    (fun _ hp => hp) h

/-- A follower takes its leader's role only where step 1 left it free. -/
theorem gangRows_off (hoff : off = true → p.1.Off) (h : off = true ∨ (s.ch c).gangLeft = true) :
    (s.gangRows c off p).1.Off := by
  rcases h with rfl | hleft
  · exact gangRows_keeps (fun _ _ hr _ => hr rfl) (fun _ _ hp => hp) (fun _ hp => hp) (fun _ hp => hp) (fun _ hp => hp)
      (fun _ _ => rfl) (hoff rfl)
  · simp only [State.gangRows, modeStand_fst]
    exact modeRow_sets hleft rfl

/-- The row of a port whose PHY is held OFF or fenced. -/
theorem phyRow_keeps {P : Mode → Prop} {b : Bool} (hpd : P p.1 → P { p.1 with pd := 0 }) (h : P p.1) :
    P (if b then ({ p.1 with pd := 0 }, p.2) else p).1 := by
  split
  · exact hpd h
  · exact h

theorem pdRows_keeps {P : Mode → Prop} (hpd : ∀ m, P m → P { m with pd := 0 }) (hdetach : ∀ m, P m → P (mOffOpen m))
    (hattach : ∀ m r l, (off = true → r = 0) → P m → P { m with role := r, path := 2, law := l }) (h : P p.1) :
    P (s.pdRows c off p).1 := by
  simp only [State.pdRows]
  refine modeRow_keeps (fun _ => hattach _ _ _ fun hr => if_pos hr) ?_
  refine modeRow_keeps (fun _ => hattach _ _ _ fun hr => if_pos hr) (modeRow_keeps (fun _ => hdetach _) ?_)
  exact phyRow_keeps (hpd _) (modeRow_keeps (fun _ => hpd _) h)

theorem pdRows_open (h : p.1.Open) : (s.pdRows c off p).1.Open :=
  pdRows_keeps (fun _ hp => hp) (fun _ _ => rfl) (fun _ _ _ _ _ => rfl) h

theorem pdRows_off (h : p.1.Off) : (s.pdRows c true p).1.Off :=
  pdRows_keeps (fun _ hp => hp) (fun _ _ => rfl) (fun _ _ _ hr _ => hr rfl) h

/-- The PD role is none. -/
def Mode.PdNone (m : Mode) : Prop := m.pd = 0

theorem pdRows_pd_none (hc : 8 ≤ c.val) : (s.pdRows c off p).1.PdNone := by
  simp only [State.pdRows]
  refine modeRow_keeps (fun _ hp => hp) (modeRow_keeps (fun _ hp => hp) (modeRow_keeps (fun _ hp => hp) ?_))
  refine phyRow_keeps (fun _ => rfl) (modeRow_settles rfl fun hcond => ?_)
  simpa [Mode.PdNone, hc] using hcond

end

/-! ### Steps 4 to 6: path, role, law -/

section
variable {s : State} {c : Fin 24} {p : Mode × Nat}

/-- The rows change the path to OPEN, the role of BATFED to SOURCE, and the law. -/
theorem lawRows_keeps {P : Mode → Prop} (hopen : ∀ m, P m → P (mOpen m))
    (hrole : ∀ m, m.path = 3 → 2 ≤ m.role → P m → P { m with role := 1 }) (hlaw : ∀ m l, P m → P { m with law := l })
    (h : P p.1) : P (s.lawRows c p).1 := by
  simp only [State.lawRows, modeStand_fst]
  refine modeRow_keeps (fun _ => hlaw _ _) (modeRow_keeps (fun _ => hlaw _ _) (modeRow_keeps (fun hcond => ?_) ?_))
  · simp only [Bool.and_eq_true, beq_iff_eq, decide_eq_true_eq] at hcond
    exact hrole _ hcond.1 hcond.2
  · exact modeRow_keeps (fun _ => hopen _) (modeRow_keeps (fun _ => hopen _) h)

theorem lawRows_open (h : p.1.Open) : (s.lawRows c p).1.Open :=
  lawRows_keeps (fun _ _ => rfl) (fun _ _ _ hp => hp) (fun _ _ hp => hp) h

theorem lawRows_off (h : p.1.Off) : (s.lawRows c p).1.Off :=
  lawRows_keeps (fun _ hp => hp) (fun _ _ hrole hp => absurd (hp ▸ hrole) (by decide)) (fun _ _ hp => hp) h

theorem lawRows_pd_none (h : p.1.PdNone) : (s.lawRows c p).1.PdNone :=
  lawRows_keeps (fun _ hp => hp) (fun _ _ _ hp => hp) (fun _ _ hp => hp) h

/-- BATFED feeds OUT_c and never loads it. -/
def Mode.PathFits (m : Mode) : Prop := m.path = 3 → m.role ≤ 1

/-- CHARGE needs a regulated path to the battery. -/
def Mode.ChargePath (m : Mode) : Prop := m.law = 6 → m.path ≤ 1

/-- CHARGE does not sink. -/
def Mode.ChargeRole (m : Mode) : Prop := m.law = 6 → m.role ≠ 2

theorem lawRows_pathFits : (s.lawRows c p).1.PathFits := by
  simp only [State.lawRows, modeStand_fst]
  refine modeRow_keeps (fun _ hp => hp) (modeRow_keeps (fun _ hp => hp) ?_)
  refine modeRow_settles (fun _ => Nat.le_refl 1) fun hcond hpath => ?_
  simp only [hpath, beq_self_eq_true, Bool.true_and, decide_eq_false_iff_not] at hcond
  omega

theorem lawPathRow_fits (q : Mode × Nat) : (modeRow q 18 (q.1.law == 6 && decide (2 ≤ q.1.path))
    fun m => { m with law := if m.role == 2 then 1 else 0 }).1.ChargePath := by
  refine modeRow_settles (fun h => ?_) fun hcond hlaw => ?_
  · split at h <;> cases h
  · simp only [hlaw, beq_self_eq_true, Bool.true_and, decide_eq_false_iff_not] at hcond
    omega

theorem lawRoleRow_fits (q : Mode × Nat) : (modeRow q 19 (q.1.law == 6 && q.1.role == 2)
    fun m => { m with law := 1 }).1.ChargeRole := by
  refine modeRow_settles (fun h => by cases h) fun hcond hlaw => ?_
  simpa [hlaw] using hcond

theorem lawRows_chargePath : (s.lawRows c p).1.ChargePath := by
  simp only [State.lawRows, modeStand_fst]
  exact modeRow_keeps (fun _ _ h => by cases h) (lawPathRow_fits _)

theorem lawRows_chargeRole : (s.lawRows c p).1.ChargeRole := by
  simp only [State.lawRows, modeStand_fst]
  exact lawRoleRow_fits _

end

/-! ### Steps 7 and 8: stage and ranges -/

/-- A stage other than SWITCH needs an OPEN path. -/
def Mode.StageFits (m : Mode) : Prop := m.stage ≠ 0 → m.path = 2

/-- A fixed range is one of the stage's set (Table 07-3). -/
def Mode.RangeFits (m : Mode) : Prop :=
  m.irange ≤ 2 ∨ (m.irange ≤ 5 ∧ m.role ≠ 0 ∧ m.stage ≠ 0) ∨ 5 < m.irange

/-- The range of 6 V needs an upper voltage limit within it. -/
def Mode.VrangeFits (lim : Nat) (m : Mode) : Prop := m.vrange = 1 → lim ≤ 600000

section
variable {s : State} {c : Fin 24} {p : Mode × Nat}

/-- The rows change the stage to SWITCH, and the ranges. -/
theorem rangeRows_keeps {P : Mode → Prop} (hstage : ∀ m, P m → P { m with stage := 0 })
    (hirange : ∀ m r, P m → P { m with irange := r }) (hvrange : ∀ m, P m → P { m with vrange := 0 }) (h : P p.1) :
    P (s.rangeRows c p).1 := by
  simp only [State.rangeRows]
  refine modeRow_keeps (fun _ => hvrange _) (modeRow_keeps (fun _ => hirange _ _) ?_)
  exact modeRow_keeps (fun _ => hstage _) (modeRow_keeps (fun _ => hstage _) h)

theorem rangeRows_stageFits : (s.rangeRows c p).1.StageFits := by
  simp only [State.rangeRows]
  refine modeRow_keeps (fun _ hp => hp) (modeRow_keeps (fun _ hp => hp) ?_)
  refine modeRow_keeps (fun _ _ h => absurd rfl h) (modeRow_settles (fun h => absurd rfl h) fun hcond hstage => ?_)
  simpa [hstage] using hcond

theorem rangeRow_fits (q : Mode × Nat) (still : Bool) (hstill : still = true → q.1.role ≠ 0 ∧ q.1.stage ≠ 0) :
    (modeRow q 23 (decide (q.1.irange ≤ 5)) fun m => { m with irange := nearestRange still m.irange }).1.RangeFits := by
  refine modeRow_settles ?_ fun hcond => .inr (.inr (by simpa using hcond))
  cases still with
  | false => exact .inl (Nat.min_le_left 2 _)
  | true => exact .inr (.inl ⟨Nat.max_le.2 ⟨by decide, Nat.min_le_left 5 _⟩, hstill rfl⟩)

theorem rangeRows_rangeFits : (s.rangeRows c p).1.RangeFits := by
  simp only [State.rangeRows]
  refine modeRow_keeps (fun _ hp => hp) (rangeRow_fits _ _ fun hstill => ?_)
  simp only [Bool.and_eq_true, Bool.or_eq_true, bne_iff_ne, beq_iff_eq] at hstill
  obtain ⟨hrole, hstage⟩ := hstill
  exact ⟨hrole, by omega⟩

theorem rangeRows_vrangeFits : (s.rangeRows c p).1.VrangeFits (s.get (F.RG_VLIM_HI.VALUE c)) := by
  simp only [State.rangeRows]
  refine modeRow_settles (fun h => by cases h) fun hcond hv => ?_
  simpa [hv] using hcond

end

/-! ### The clauses on a resolution's answer -/

section
variable {s : State} {c : Fin 24}

theorem resolveOf_open (h : (s.safetyStep c).1.Open) : (s.resolveOf c).1.path = 2 := by
  rw [resolveOf_fst]
  exact rangeRows_keeps (P := Mode.Open) (fun _ hp => hp) (fun _ _ hp => hp) (fun _ hp => hp)
    (lawRows_open (pdRows_open (gangRows_open h)))

theorem resolveOf_off (h : s.safetyOff c = true ∨ (s.ch c).gangLeft = true) : (s.resolveOf c).1.role = 0 := by
  have hoff : (s.safetyOff c || (s.ch c).gangLeft) = true := by simpa using h
  rw [resolveOf_fst, hoff]
  exact rangeRows_keeps (P := Mode.Off) (fun _ hp => hp) (fun _ _ hp => hp) (fun _ hp => hp)
    (lawRows_off (pdRows_off (gangRows_off safetyStep_off h)))

theorem resolveOf_of_rangeRows {P : Mode → Prop} (h : ∀ q, P (s.rangeRows c q).1) : P (s.resolveOf c).1 := by
  rw [resolveOf_fst]
  exact h _

/-- The last steps keep what the law rows leave in path, role, law and PD role. -/
theorem resolveOf_of_lawRows {P : Mode → Prop} (hstage : ∀ m, P m → P { m with stage := 0 })
    (hirange : ∀ m r, P m → P { m with irange := r }) (hvrange : ∀ m, P m → P { m with vrange := 0 })
    (h : ∀ q off, P (s.lawRows c (s.pdRows c off q)).1) : P (s.resolveOf c).1 := by
  rw [resolveOf_fst]
  exact rangeRows_keeps hstage hirange hvrange (h _ _)

theorem resolveOf_pathFits : (s.resolveOf c).1.PathFits :=
  resolveOf_of_lawRows (fun _ hp => hp) (fun _ _ hp => hp) (fun _ hp => hp) fun _ _ => lawRows_pathFits

theorem resolveOf_chargePath : (s.resolveOf c).1.ChargePath :=
  resolveOf_of_lawRows (fun _ hp => hp) (fun _ _ hp => hp) (fun _ hp => hp) fun _ _ => lawRows_chargePath

theorem resolveOf_chargeRole : (s.resolveOf c).1.ChargeRole :=
  resolveOf_of_lawRows (fun _ hp => hp) (fun _ _ hp => hp) (fun _ hp => hp) fun _ _ => lawRows_chargeRole

theorem resolveOf_pd_none (hc : 8 ≤ c.val) : (s.resolveOf c).1.PdNone :=
  resolveOf_of_lawRows (fun _ hp => hp) (fun _ _ hp => hp) (fun _ hp => hp)
    fun _ _ => lawRows_pd_none (pdRows_pd_none hc)

theorem resolveOf_stageFits : (s.resolveOf c).1.StageFits := resolveOf_of_rangeRows fun _ => rangeRows_stageFits

theorem resolveOf_rangeFits : (s.resolveOf c).1.RangeFits := resolveOf_of_rangeRows fun _ => rangeRows_rangeFits

theorem resolveOf_vrangeFits : (s.resolveOf c).1.VrangeFits (s.get (F.RG_VLIM_HI.VALUE c)) :=
  resolveOf_of_rangeRows fun _ => rangeRows_vrangeFits

theorem resolveOf_off_open (h : (s.ch c).fenced = true ∨ (s.ch c).trip ≠ 0 ∨ s.domHeldOff (3 * c) = true) :
    (s.resolveOf c).1.role = 0 ∧ (s.resolveOf c).1.path = 2 := by
  have hcause : s.anyCause c = true := anyCause_iff.2 (h.imp_right (·.imp_right .inl))
  exact ⟨resolveOf_off (.inl (safetyOff_of_cause hcause)),
    resolveOf_open (safetyStep_open (.inr (safety_off_open h _).2))⟩

end

theorem resolutionRules : Claims.ResolutionRules := by
  intro s c m h
  refine ⟨resolveOf_off_open, fun hoff => resolveOf_off ?_,
    fun hreact => resolveOf_open (safetyStep_open (.inl hreact)), resolveOf_pathFits,
    fun hlaw => ⟨resolveOf_chargePath hlaw, resolveOf_chargeRole hlaw⟩, resolveOf_stageFits, resolveOf_vrangeFits,
    resolveOf_pd_none, resolveOf_rangeFits⟩
  rcases hoff with htherm | hheld | hleft | hreact
  · exact .inl (safetyOff_of_cause (anyCause_iff.2 (.inr (.inr (.inr htherm)))))
  · exact .inl (safetyOff_of_held hheld)
  · exact .inr hleft
  · exact .inl (safetyOff_of_react hreact)

end Sys2Proof.Machine
end

section
/-!
What a mode resolution writes (R209, R214, R215): what wakes, notices and power-ups leave of the channels' registers, the
state that a resolution stores, and the obligation about mode resolutions.
-/
namespace Sys2Proof.Machine

/-! ### What leaves the registers of the channels alone -/

/-- Registers from the channels' blocks on, and queue memory, stay. -/
structure BlocksKept (s t : State) : Prop where
  regs : ∀ a, 0x200000 ≤ a → t.rd a = s.rd a
  mem  : t.mem = s.mem

theorem BlocksKept.refl (s : State) : BlocksKept s s := ⟨fun _ _ => rfl, rfl⟩

theorem BlocksKept.trans {s t u : State} (h : BlocksKept s t) (k : BlocksKept t u) : BlocksKept s u :=
  ⟨fun a ha => (k.regs a ha).trans (h.regs a ha), k.mem.trans h.mem⟩

theorem BlocksKept.get {s t : State} (h : BlocksKept s t) (f : Fld) (hf : 0x200000 ≤ f.addr) : t.get f = s.get f :=
  get_congr f (h.regs _ hf)

theorem blocksKept_of_regs {s t : State} (hregs : t.regs = s.regs) (hmem : t.mem = s.mem) : BlocksKept s t :=
  ⟨fun a _ => by rw [State.rd, State.rd, hregs], hmem⟩

theorem blocksKept_ite {p : Prop} [Decidable p] {s t u : State} (ht : BlocksKept s t) (hu : BlocksKept s u) :
    BlocksKept s (if p then t else u) := by
  split
  · exact ht
  · exact hu

theorem blocksKept_set (s : State) (f : Fld) (v : Nat) (h : f.addr < 0x200000) : BlocksKept s (s.set f v) :=
  ⟨fun a ha => s.set_rd_other f v a (by omega), rfl⟩

theorem blocksKept_startDom (s : State) (d : Nat) (h : d < 128) : BlocksKept s (s.startDom d) :=
  blocksKept_ite (blocksKept_set s (domStat d) 2 (by simp only [domStat, R.PDOM_STAT]; omega)) (.refl s)

theorem blocksKept_wakeCh (s : State) (c : Fin 24) : BlocksKept s (s.wakeCh c) :=
  ((blocksKept_startDom s _ (by omega)).trans (blocksKept_startDom _ _ (by omega))).trans
    (blocksKept_startDom _ _ (by omega))

theorem blocksKept_notice (s : State) (bit code : Nat) (body : List Word) : BlocksKept s (s.notice bit code body) := by
  have hsent := onlySent_notice s bit code body
  have hrest := congrArg State.mem hsent.rest
  exact ⟨fun a ha => hsent.regs a (by omega), hrest⟩

theorem blocksKept_setThrState (s : State) (t : Fin 64) (st wk : Nat) : BlocksKept s (s.setThrState t st wk) := by
  have hstat : R.SEQ_THR_STAT t < 0x200000 := by simp only [R.SEQ_THR_STAT]; omega
  exact (blocksKept_set s _ st hstat).trans (blocksKept_set _ _ wk hstat)

theorem blocksKept_modThr (s : State) (t : Fin 64) (g : Thread → Thread) : BlocksKept s (s.modThr t g) :=
  blocksKept_of_regs rfl rfl

theorem blocksKept_endWait (s : State) (x : Exec) : BlocksKept s (s.endWait x) := by
  cases x with
  | mss k => exact blocksKept_of_regs rfl rfl
  | thread t =>
    have hwait := blocksKept_modThr s t fun h => { h with wait := .none }
    exact blocksKept_ite (hwait.trans (blocksKept_modThr _ t _)) (hwait.trans (blocksKept_setThrState _ t thrReady 0))

theorem blocksKept_modCtx (s : State) (x : Exec) (f : Ctx → Ctx) : BlocksKept s (s.modCtx x f) := by
  cases x with
  | mss k => exact blocksKept_of_regs rfl rfl
  | thread t => exact blocksKept_modThr s t fun h => { h with ctx := f h.ctx }

theorem blocksKept_wakeThr (s : State) (x : Exec) : BlocksKept s (s.wakeThr x) := by
  simp only [State.wakeThr]
  split
  · exact blocksKept_ite (.refl s) ((blocksKept_modCtx s x _).trans (blocksKept_endWait _ x))
  · exact .refl s

theorem blocksKept_wakeAll (l : List Exec) : ∀ s : State, BlocksKept s (s.wakeAll l) := by
  induction l with
  | nil => exact .refl
  | cons x l ih => exact fun s => (blocksKept_wakeThr s x).trans (ih _)

theorem blocksKept_signal (s : State) (kind idx : Nat) (pay : Word) : BlocksKept s (s.signal kind idx pay) := by
  simp only [State.signal]
  refine .trans ?_ (blocksKept_wakeAll allExec _)
  exact blocksKept_of_regs rfl rfl

/-! ### What a resolution stores -/

theorem Reads.incWrap {g : Fld} {v : Nat} {s : State} (k : Reads g v s) (hg : decide (g.lo ≤ g.hi ∧ g.hi < 32) = true) :
    Reads g ((v + 1) % 2 ^ g.width) (s.incWrap g) := by
  rw [← k.get]
  exact reads_set k.rwf g _ hg (Nat.mod_mod _ _)

section
variable (s : State) (c : Fin 24) (rer : Bool)

/-- The resolution keeps which safety bits stand, and that the OFF is held (R210). -/
def resolveHeld : State :=
  s.modCh c fun h => { h with stand := (s.resolveOf c).2.2, heldOff := h.heldOff || (s.resolveOf c).2.2 != 0 }

/-- A resolution that changed the word or the reasons has stored them, and has counted itself (R214, R215). -/
def resolveCounted : State :=
  (((resolveHeld s c).wr (R.MD_RES c) (modeWord (s.resolveOf c).1)).set (F.MD_WHY.WHY c) (s.resolveOf c).2.1).incWrap
    (F.MD_STAT.SEQ c)

/-- The power stage and the regulation report path and law. -/
def resolveStored : State :=
  ((resolveCounted s c).set (F.PS_STAT.PATH c) (s.resolveOf c).1.path).set (F.RG_STAT.LAW c) (s.resolveOf c).1.law

/-- A re-resolution marks itself. -/
def resolveMarked : State := if rer then (resolveStored s c).set (F.MD_STAT.RERES c) 1 else resolveStored s c

/-- Neither the word nor the reasons change. -/
def ResolvedSame : Prop :=
  modeWord (s.resolveOf c).1 = s.rd (R.MD_RES c) ∧ (s.resolveOf c).2.1 = s.get (F.MD_WHY.WHY c)

theorem resolve1_same (h : ResolvedSame s c) : s.resolve1 rer c = resolveHeld s c := by
  rw [ResolvedSame] at h
  rcases hr : s.resolveOf c with ⟨m, why, stand⟩
  rw [hr] at h
  have hall : (modeWord m = s.rd (R.MD_RES c) && why = s.get (F.MD_WHY.WHY c)) = true := by simpa using h
  simp only [State.resolve1, resolveHeld, hr, if_pos hall]

/-- After its stores a resolution tells, powers up and wakes, and no register of the channels changes any more. -/
theorem resolve1_changed (h : ¬ ResolvedSame s c) : BlocksKept (resolveMarked s c rer) (s.resolve1 rer c) := by
  rw [ResolvedSame] at h
  rw [resolveMarked, resolveStored, resolveCounted, resolveHeld]
  rcases hr : s.resolveOf c with ⟨m, why, stand⟩
  rw [hr] at h
  have hne : ¬ (modeWord m = s.rd (R.MD_RES c) && why = s.get (F.MD_WHY.WHY c)) = true := by simpa using h
  have hdom : ∀ t : State, BlocksKept t (if c.val < 8 && m.pd != 0 then t.startDom (72 + c) else t) :=
    fun t => blocksKept_ite (blocksKept_startDom t _ (by omega)) (.refl t)
  have hwake : ∀ t : State, BlocksKept t (if m.role = 0 then t else t.wakeCh c) :=
    fun t => blocksKept_ite (.refl t) (blocksKept_wakeCh t c)
  simp only [State.resolve1, hr, if_neg hne]
  refine .trans ?_ (((hdom _).trans (hwake _)).trans (blocksKept_signal _ _ _ _))
  cases rer with
  | false => exact .refl _
  | true => exact blocksKept_notice _ _ _ _

/-- The registers that a resolution writes beside MD_RES are others than `a`. -/
def NotReported (c : Fin 24) (a : Nat) : Prop :=
  a ≠ R.MD_WHY c ∧ a ≠ R.MD_STAT c ∧ a ≠ R.PS_STAT c ∧ a ≠ R.RG_STAT c

theorem notReported_mdRes : NotReported c (R.MD_RES c) := by
  simp only [NotReported, R.MD_RES, R.MD_WHY, R.MD_STAT, R.PS_STAT, R.RG_STAT]
  omega

theorem notReported_mdReq : NotReported c (R.MD_REQ c) := by
  simp only [NotReported, R.MD_REQ, R.MD_WHY, R.MD_STAT, R.PS_STAT, R.RG_STAT]
  omega

theorem mdReq_ne_mdRes : R.MD_REQ c ≠ R.MD_RES c := by
  simp only [R.MD_REQ, R.MD_RES]
  omega

theorem modeRegs_in_blocks : 0x200000 ≤ R.MD_REQ c ∧ 0x200000 ≤ R.MD_RES c ∧ 0x200000 ≤ R.MD_WHY c ∧
    0x200000 ≤ R.MD_STAT c := by
  simp only [R.MD_REQ, R.MD_RES, R.MD_WHY, R.MD_STAT]
  omega

theorem mdWhy_apart : R.MD_WHY c ≠ R.PS_STAT c ∧ R.MD_WHY c ≠ R.RG_STAT c := by
  simp only [R.MD_WHY, R.PS_STAT, R.RG_STAT]
  omega

theorem mdStat_apart : R.MD_STAT c ≠ R.PS_STAT c ∧ R.MD_STAT c ≠ R.RG_STAT c ∧ R.MD_STAT c ≠ R.MD_RES c ∧
    R.MD_STAT c ≠ R.MD_WHY c := by
  simp only [R.MD_STAT, R.PS_STAT, R.RG_STAT, R.MD_RES, R.MD_WHY]
  omega

theorem resolveMarked_rd {a : Nat} (ha : NotReported c a) :
    (resolveMarked s c rer).rd a = (s.wr (R.MD_RES c) (modeWord (s.resolveOf c).1)).rd a := by
  obtain ⟨hwhy, hstat, hps, hrg⟩ := ha
  have hstored : (resolveStored s c).rd a = (s.wr (R.MD_RES c) (modeWord (s.resolveOf c).1)).rd a :=
    (State.set_rd_other _ _ _ _ hrg).trans <| (State.set_rd_other _ _ _ _ hps).trans <|
      (State.set_rd_other _ _ _ _ hstat).trans (State.set_rd_other _ _ _ _ hwhy)
  simp only [resolveMarked]
  split
  · exact (State.set_rd_other _ _ _ _ hstat).trans hstored
  · exact hstored

theorem resolveMarked_mem : (resolveMarked s c rer).mem = s.mem := by
  simp only [resolveMarked]
  split <;> rfl

theorem resolveMarked_reads {g : Fld} {v : Nat} (k : Reads g v (resolveCounted s c)) (hps : g.addr ≠ R.PS_STAT c)
    (hrg : g.addr ≠ R.RG_STAT c) (hreres : (F.MD_STAT.RERES c).apart g = true) : Reads g v (resolveMarked s c rer) := by
  have kstored : Reads g v (resolveStored s c) := (k.set_other _ _ hps).set_other _ _ hrg
  simp only [resolveMarked]
  split
  · exact kstored.set_apart _ 1 hreres
  · exact kstored

variable {s} (h : s.rwf)
include h

theorem resolveMarked_reads_why : Reads (F.MD_WHY.WHY c) ((s.resolveOf c).2.1 % 2 ^ 27) (resolveMarked s c rer) := by
  obtain ⟨hps, hrg⟩ := mdWhy_apart c
  obtain ⟨-, -, -, hwhy⟩ := mdStat_apart c
  have hwf := (resolveHeld s c).wr_rwf (R.MD_RES c) (modeWord (s.resolveOf c).1) h
  have kwhy : Reads (F.MD_WHY.WHY c) ((s.resolveOf c).2.1 % 2 ^ 27) _ :=
    ⟨State.set_rwf _ _ _ hwf, State.get_set _ (F.MD_WHY.WHY c) (s.resolveOf c).2.1 hwf (of_decide_eq_true rfl)
      (of_decide_eq_true rfl)⟩
  exact resolveMarked_reads s c rer (kwhy.set_other (F.MD_STAT.SEQ c) _ hwhy.symm) hps hrg rfl

theorem resolveMarked_reads_seq : Reads (F.MD_STAT.SEQ c) ((s.get (F.MD_STAT.SEQ c) + 1) % 65536)
    (resolveMarked s c rer) := by
  obtain ⟨hps, hrg, hres, hwhy⟩ := mdStat_apart c
  have kres : Reads (F.MD_STAT.SEQ c) (s.get (F.MD_STAT.SEQ c))
      ((resolveHeld s c).wr (R.MD_RES c) (modeWord (s.resolveOf c).1)) :=
    ⟨State.wr_rwf _ _ _ h, get_congr _ (State.rd_wr_other _ _ _ _ hres)⟩
  have kseq := (kres.set_other (F.MD_WHY.WHY c) (s.resolveOf c).2.1 hwhy).incWrap rfl
  exact resolveMarked_reads s c rer kseq hps hrg rfl

theorem resolveMarked_reads_reres : Reads (F.MD_STAT.RERES c) 1 (resolveMarked s c true) :=
  reads_set (resolveMarked_reads_seq c false h).rwf _ 1 rfl rfl

end

theorem resolutionWrites : Claims.ResolutionWrites := by
  intro s c rer hwf r same u
  refine ⟨fun hsame => ?_, fun hnew => ?_⟩
  · have hu : u = resolveHeld s c := resolve1_same s c rer hsame
    rw [hu]
    exact ⟨rfl, rfl, rfl⟩
  · have hrwf := State.wf_rwf hwf
    have hkept : BlocksKept (resolveMarked s c rer) u := resolve1_changed s c rer hnew
    obtain ⟨hreq, hres, hwhy, hstat⟩ := modeRegs_in_blocks c
    have hrd : ∀ {a : Nat}, 0x200000 ≤ a → NotReported c a → u.rd a = (s.wr (R.MD_RES c) (modeWord r.1)).rd a :=
      fun hin ha => (hkept.regs _ hin).trans (resolveMarked_rd s c rer ha)
    refine ⟨(hrd hres (notReported_mdRes c)).trans (s.rd_wr _ _ hrwf),
      (hkept.get _ hwhy).trans (resolveMarked_reads_why c rer hrwf).get,
      (hkept.get _ hstat).trans (resolveMarked_reads_seq c rer hrwf).get, fun hrer => ?_,
      (hrd hreq (notReported_mdReq c)).trans (s.rd_wr_other _ _ _ (mdReq_ne_mdRes c)),
      hkept.mem.trans (resolveMarked_mem s c rer)⟩
    subst hrer
    exact (hkept.get _ hstat).trans (resolveMarked_reads_reres c hrwf).get

/-- Settles O25: a row of Table 08-2 keeps a claim or settles it, so each claim is carried from the step that settles it
to the resolved word; the writes by what `resolve1` stores before notices, power-ups and wakes, which leave the channels'
registers alone. -/
theorem modeResolution : Obligations.ModeResolution := ⟨resolutionRules, resolutionWrites⟩

end Sys2Proof.Machine
end

section
/-!
Rules that the exceptions of executors share (chapter 10): what a report, a notice, a log record and a completed command
leave of memory, reports, threads and MSS cores, and the reports of sources on the hub.
-/
namespace Sys2Proof.Machine

/-! ### What telling the outside leaves -/

theorem OnlyTold.mem {s t : State} (h : OnlyTold s t) : t.mem = s.mem := by
  have hrest := congrArg State.mem h.rest
  exact hrest

theorem OnlyTold.threads {s t : State} (h : OnlyTold s t) : t.threads = s.threads := by
  have hrest := congrArg State.threads h.rest
  exact hrest

theorem OnlyTold.mss {s t : State} (h : OnlyTold s t) : t.mss = s.mss := by
  have hrest := congrArg State.mss h.rest
  exact hrest

theorem OnlySent.reports {s t : State} (h : OnlySent s t) : t.reports = s.reports := by
  have hrest := congrArg State.reports h.rest
  exact hrest

theorem ctx_congr {s t : State} (hthr : t.threads = s.threads) (hmss : t.mss = s.mss) (x : Exec) : t.ctx x = s.ctx x := by
  cases x with
  | thread k => simp only [State.ctx, hthr]
  | mss k => simp only [State.ctx, hmss]

theorem respond_reports (s : State) (m : Cmd) (code status : Nat) (body : List Word) :
    (s.respond m code status body).reports = s.reports := by
  simp only [State.respond]
  split
  · rfl
  · split
    · rfl
    · exact (onlySent_send _ _).reports

theorem failCmdOf_reports (s : State) (n status : Nat) : (s.failCmdOf n status).reports = s.reports := by
  simp only [State.failCmdOf]
  split
  · exact respond_reports _ _ _ _ _
  · rfl

theorem log_mss (s : State) (kind : Nat) (data : List Word) : (s.log kind data).mss = s.mss := by
  simp only [State.log, State.logRec]
  split <;> rfl

/-! ### Reports of sources on the hub (R439) -/

theorem srcLink_hub {src : Nat} (hlo : 288 ≤ src) (hhi : src < 312) : srcLink src = none := by
  simp only [srcLink, Bool.and_eq_true, decide_eq_true_eq]
  repeat rw [if_neg (by omega)]

theorem raise_hub (s : State) {src : Nat} (hlo : 288 ≤ src) (hhi : src < 312) (cond d0 : Nat) (d1 : Word) :
    s.raise src cond d0 d1 =
      { s with reports := s.reports ++ [{ src := src, cond := cond, d0 := d0, d1 := d1, atHub := true }] } := by
  simp only [State.raise, State.report, srcLink_hub hlo hhi]

end Sys2Proof.Machine
end

section
/-!
Exceptions of a sequencer thread (R284 to R287), the clear of its summary bit, MFSR and MTSR of an MSS core (R263), and
the obligation about them.
-/
namespace Sys2Proof.Machine

/-! ### The summary bits (R287) -/

/-- A summary bit is bit t mod 32 of the low or the high register. -/
theorem excSumBit_eq (t : Fin 64) :
    excSumBit t = ⟨if t.val < 32 then R.SEQ_EXC_SUM_LO else R.SEQ_EXC_SUM_HI, t.val % 32, t.val % 32⟩ := by
  have h64 := t.isLt
  by_cases h : t.val < 32
  · simp only [excSumBit, if_pos h, Nat.mod_eq_of_lt h]
  · have hmod : t.val % 32 = t.val - 32 := by omega
    simp only [excSumBit, if_neg h, hmod]

theorem excSumBit_addr_ge (t : Fin 64) : 0x70C00 ≤ (excSumBit t).addr := by
  rw [excSumBit_eq]
  simp only [R.SEQ_EXC_SUM_LO, R.SEQ_EXC_SUM_HI]
  split <;> omega

theorem excSumBit_in_word (t : Fin 64) : decide ((excSumBit t).lo ≤ (excSumBit t).hi ∧ (excSumBit t).hi < 32) = true := by
  simp only [excSumBit_eq, decide_eq_true_eq]
  omega

theorem excSumBit_width (t : Fin 64) : (excSumBit t).width = 1 := by
  simp only [excSumBit_eq, Fld.width]
  omega

/-- The registers of a thread's exception record lie below those of the summary. -/
theorem thrExc_ne_excSumBit (t k : Fin 64) : R.SEQ_THR_EXC k ≠ (excSumBit t).addr ∧ R.SEQ_THR_EPC k ≠ (excSumBit t).addr ∧
    R.SEQ_THR_EADDR k ≠ (excSumBit t).addr ∧ R.SEQ_THR_STAT k ≠ (excSumBit t).addr := by
  have h := excSumBit_addr_ge t
  simp only [R.SEQ_THR_EXC, R.SEQ_THR_EPC, R.SEQ_THR_EADDR, R.SEQ_THR_STAT]
  omega

theorem thrExc_inj {k t : Fin 64} (h : k ≠ t) : R.SEQ_THR_EXC t ≠ R.SEQ_THR_EXC k := by
  have hne : k.val ≠ t.val := fun e => h (Fin.ext e)
  simp only [R.SEQ_THR_EXC]
  omega

theorem reads_excSumBit {s : State} (h : s.rwf) (t : Fin 64) {v : Nat} (hv : v < 2) :
    Reads (excSumBit t) v (s.set (excSumBit t) v) :=
  reads_set h _ v (excSumBit_in_word t) (by rw [excSumBit_width]; omega)

/-- Another thread's summary bit lies in the other register or in another bit of the same one. -/
theorem Reads.set_excSumBit {s : State} {k t : Fin 64} {v : Nat} (r : Reads (excSumBit t) v s) (h : k ≠ t) (w : Nat) :
    Reads (excSumBit t) v (s.set (excSumBit k) w) := by
  have hne : k.val ≠ t.val := fun e => h (Fin.ext e)
  by_cases hreg : (excSumBit t).addr = (excSumBit k).addr
  · have hhalf : k.val < 32 ↔ t.val < 32 := by
      simp only [excSumBit_eq, R.SEQ_EXC_SUM_LO, R.SEQ_EXC_SUM_HI] at hreg
      split at hreg <;> split at hreg <;> omega
    have hbits : k.val % 32 < t.val % 32 ∨ t.val % 32 < k.val % 32 := by omega
    exact r.set_apart _ w (by simpa [excSumBit_eq, Fld.apart] using hbits)
  · exact r.set_other _ w hreg

/-! ### The record of an exception (R287) -/

theorem Reads.wr_other {g : Fld} {v : Nat} {s : State} (k : Reads g v s) (a : Nat) (w : Word) (h : g.addr ≠ a) :
    Reads g v (s.wr a w) :=
  ⟨s.wr_rwf a w k.rwf, (get_congr g (s.rd_wr_other _ _ w h)).trans k.get⟩

section
variable (s : State) (t : Fin 64) (cause sub : Nat) (epc eaddr : Word)

/-- The record register of thread t filled by a first exception. -/
def excFilled : State :=
  ((s.set (F.SEQ_THR_EXC.CAUSE t) cause).set (F.SEQ_THR_EXC.SUB t) sub).set (F.SEQ_THR_EXC.VALID t) 1

/-- What a first exception of thread t stores: its record, its addresses and its summary bit. -/
def excFirst : State :=
  (((excFilled s t cause sub).wr (R.SEQ_THR_EPC t) epc).wr (R.SEQ_THR_EADDR t) eaddr).set (excSumBit t) 1

/-- What a later one stores: MORE alone. -/
def excLater : State := s.set (F.SEQ_THR_EXC.MORE t) 1

theorem excFilled_rwf (h : s.rwf) : (excFilled s t cause sub).rwf :=
  State.set_rwf _ _ _ (State.set_rwf _ _ _ (s.set_rwf _ _ h))

variable {s t cause sub epc eaddr}

theorem excFirst_wf (h : s.wf = true) : (excFirst s t cause sub epc eaddr).wf = true :=
  State.set_wf _ _ _ (State.wr_wf _ _ _ (State.wr_wf _ _ _ (State.set_wf _ _ _ (State.set_wf _ _ _ (s.set_wf _ _ h)))))

theorem Reads.excFirst {g : Fld} {v : Nat} (k : Reads g v (excFilled s t cause sub)) (hg : g.addr = R.SEQ_THR_EXC t) :
    Reads g v (excFirst s t cause sub epc eaddr) := by
  obtain ⟨hsum, -, -, -⟩ := thrExc_ne_excSumBit t t
  rw [← hg] at hsum
  refine ((k.wr_other _ _ ?_).wr_other _ _ ?_).set_other _ _ hsum
  · rw [hg]; simp only [R.SEQ_THR_EXC, R.SEQ_THR_EPC]; omega
  · rw [hg]; simp only [R.SEQ_THR_EXC, R.SEQ_THR_EADDR]; omega

theorem excFirst_reads_valid (h : s.rwf) : Reads (F.SEQ_THR_EXC.VALID t) 1 (excFirst s t cause sub epc eaddr) :=
  Reads.excFirst (reads_set (State.set_rwf _ _ _ (s.set_rwf _ _ h)) _ 1 rfl rfl) rfl

theorem excFirst_reads_sub (h : s.rwf) (hsub : sub < 256) :
    Reads (F.SEQ_THR_EXC.SUB t) sub (excFirst s t cause sub epc eaddr) :=
  Reads.excFirst ((reads_set (s.set_rwf _ _ h) _ sub rfl (Nat.mod_eq_of_lt (b := 2 ^ 8) hsub)).set_apart _ 1 rfl) rfl

theorem excFirst_reads_cause (h : s.rwf) (hcause : cause < 256) :
    Reads (F.SEQ_THR_EXC.CAUSE t) cause (excFirst s t cause sub epc eaddr) :=
  Reads.excFirst (((reads_set h _ cause rfl (Nat.mod_eq_of_lt (b := 2 ^ 8) hcause)).set_apart _ sub rfl).set_apart _ 1 rfl) rfl

theorem excFirst_reads_sum (h : s.rwf) : Reads (excSumBit t) 1 (excFirst s t cause sub epc eaddr) :=
  reads_excSumBit (State.wr_rwf _ _ _ (State.wr_rwf _ _ _ (excFilled_rwf s t cause sub h))) t (by decide)

theorem excFirst_rd_eaddr (h : s.rwf) : (excFirst s t cause sub epc eaddr).rd (R.SEQ_THR_EADDR t) = eaddr := by
  obtain ⟨-, -, hsum, -⟩ := thrExc_ne_excSumBit t t
  exact (State.set_rd_other _ _ _ _ hsum).trans (State.rd_wr _ _ _ (State.wr_rwf _ _ _ (excFilled_rwf s t cause sub h)))

theorem excFirst_rd_epc (h : s.rwf) : (excFirst s t cause sub epc eaddr).rd (R.SEQ_THR_EPC t) = epc := by
  obtain ⟨-, hsum, -, -⟩ := thrExc_ne_excSumBit t t
  have hne : R.SEQ_THR_EPC t ≠ R.SEQ_THR_EADDR t := by simp only [R.SEQ_THR_EPC, R.SEQ_THR_EADDR]; omega
  exact ((State.set_rd_other _ _ _ _ hsum).trans (State.rd_wr_other _ _ _ _ hne)).trans
    (State.rd_wr _ _ _ (excFilled_rwf s t cause sub h))

theorem excLater_rd (a : Nat) (h : a ≠ R.SEQ_THR_EXC t) : (excLater s t).rd a = s.rd a := State.set_rd_other _ _ _ _ h

theorem recordExc_first (h : s.is (F.SEQ_THR_EXC.VALID t) = false) :
    s.recordExc t cause sub epc eaddr =
      (let u := (excFirst s t cause sub epc eaddr).raise (296 + t / 16) 1 t
       if s.isSvc t then u else u.notice 2 0x0680 [BitVec.ofNat 32 t, u.rd (R.SEQ_THR_EXC t)]) := by
  simp only [State.recordExc, h, Bool.false_eq_true, if_false]
  rfl

theorem recordExc_later (h : s.is (F.SEQ_THR_EXC.VALID t) = true) :
    s.recordExc t cause sub epc eaddr =
      (if s.isSvc t then excLater s t
       else (excLater s t).notice 2 0x0680 [BitVec.ofNat 32 t, (excLater s t).rd (R.SEQ_THR_EXC t)]) := by
  simp only [State.recordExc, h, if_true]
  rfl

theorem sent_notice_unless (u : State) (b : Bool) (bit code : Nat) (body : List Word) :
    OnlySent u (if b = true then u else u.notice bit code body) := by
  split
  · exact .refl u
  · exact onlySent_notice _ _ _ _

/-- What the record of an exception leaves behind: the stores of v, and the reports l. -/
structure Recorded (v : State) (l : List Report) (u : State) : Prop where
  told : OnlyTold v u
  reps : u.reports = l

theorem recordExc_first_recorded (h : s.is (F.SEQ_THR_EXC.VALID t) = false) :
    Recorded (excFirst s t cause sub epc eaddr)
      (s.reports ++ [{ src := 296 + t / 16, cond := 1, d0 := t, atHub := true }]) (s.recordExc t cause sub epc eaddr) := by
  rw [recordExc_first h]
  exact ⟨(told_report _ _).trans (sent_notice_unless _ _ _ _ _).told,
    (sent_notice_unless _ _ _ _ _).reports.trans (by rw [raise_hub _ (by omega) (by omega)]; rfl)⟩

theorem recordExc_later_recorded (h : s.is (F.SEQ_THR_EXC.VALID t) = true) :
    Recorded (excLater s t) s.reports (s.recordExc t cause sub epc eaddr) := by
  rw [recordExc_later h]
  exact ⟨(sent_notice_unless _ _ _ _ _).told, (sent_notice_unless _ _ _ _ _).reports⟩

end

/-! ### A thread stops with its exception (R285) -/

theorem stopThr_rd (s : State) (t : Fin 64) (st a : Nat) (h : a ≠ R.SEQ_THR_STAT t) : (s.stopThr t st).rd a = s.rd a :=
  (State.set_rd_other _ _ _ _ h).trans (State.set_rd_other _ _ _ _ h)

theorem stopThr_reads_state {s : State} (hwf : s.rwf) (t : Fin 64) {st : Nat} (h : st < 16) :
    Reads (F.SEQ_THR_STAT.STATE t) st (s.stopThr t st) := by
  have hmod : (s.modThr t fun x => { x.dropTags with wait := .none, stopReq := false }).rwf := hwf
  exact (reads_set hmod _ st rfl (Nat.mod_eq_of_lt (b := 2 ^ 4) h)).set_apart _ 0 rfl

theorem modThr_ctx (s : State) (t : Fin 64) (g : Thread → Thread) (h : (g s.threads[t]).ctx = s.threads[t].ctx) (x : Exec) :
    (s.modThr t g).ctx x = s.ctx x := by
  cases x with
  | mss k => rfl
  | thread k =>
    simp only [State.ctx, State.modThr_threads]
    by_cases e : t = k
    · subst e; simpa using h
    · have hne : ¬ t.val = k.val := fun e' => e (Fin.ext e')
      simp [Vector.getElem_set_ne, hne]

theorem stopThr_ctx (s : State) (t : Fin 64) (st : Nat) (x : Exec) : (s.stopThr t st).ctx x = s.ctx x :=
  (ctx_congr (s := s.modThr t fun h => { h.dropTags with wait := .none, stopReq := false }) rfl rfl x).trans
    (modThr_ctx s t _ rfl x)

section
variable {s v : State} {t : Fin 64} {cause sub : Nat} {epc eaddr : Word} {l : List Report}

theorem thrExcept_program (h : s.isSvc t = false) : s.thrExcept t cause sub epc eaddr =
    ((s.recordExc t cause sub epc eaddr).stopThr t thrExc).failCmdOf t stInternal := by
  simp only [State.thrExcept, h, Bool.false_eq_true, if_false]

/-- A thread has stopped with an exception that v records: it is in EXCEPTION, the reports are l, and memory, contexts and
the registers past the two-wire block, but the thread's status, are those of v. -/
structure Stopped (t : Fin 64) (v : State) (l : List Report) (u : State) : Prop where
  state : u.thrState t = 4
  reps  : u.reports = l
  regs  : ∀ a, 0x50900 ≤ a → a ≠ R.SEQ_THR_STAT t → u.rd a = v.rd a
  mem   : u.mem = v.mem
  ctx   : ∀ y, u.ctx y = v.ctx y

theorem Recorded.stopped (hsvc : s.isSvc t = false) (hwf : v.wf = true)
    (r : Recorded v l (s.recordExc t cause sub epc eaddr)) :
    Stopped t v l (s.except (.thread t) cause sub epc eaddr) := by
  obtain ⟨htold, hreps⟩ := r
  have hu : s.except (.thread t) cause sub epc eaddr = _ := thrExcept_program hsvc
  have hfail := told_failCmdOf ((s.recordExc t cause sub epc eaddr).stopThr t thrExc) t stInternal
  have hstat : 0x50900 ≤ R.SEQ_THR_STAT t := by simp only [R.SEQ_THR_STAT]; omega
  rw [hu]
  refine ⟨?_, (failCmdOf_reports _ _ _).trans hreps, fun a ha hne => ?_, hfail.mem.trans htold.mem, fun y => ?_⟩
  · exact (hfail.get _ (.inr hstat)).trans (stopThr_reads_state (State.wf_rwf (htold.wf hwf)) t (by decide)).get
  · exact ((hfail.regs a (.inr ha)).trans (stopThr_rd _ _ _ _ hne)).trans (htold.regs a (.inr ha))
  · exact ((ctx_congr hfail.threads hfail.mss y).trans (stopThr_ctx _ _ _ y)).trans (ctx_congr htold.threads htold.mss y)

theorem Stopped.get {u : State} (h : Stopped t v l u) (f : Fld) (hlo : 0x50900 ≤ f.addr) (hne : f.addr ≠ R.SEQ_THR_STAT t) :
    u.get f = v.get f := get_congr f (h.regs _ hlo hne)

end

theorem thrExc_past_two_wire (t : Fin 64) : 0x50900 ≤ R.SEQ_THR_EXC t ∧ 0x50900 ≤ R.SEQ_THR_EPC t ∧
    0x50900 ≤ R.SEQ_THR_EADDR t ∧ 0x50900 ≤ (excSumBit t).addr := by
  have h := excSumBit_addr_ge t
  simp only [R.SEQ_THR_EXC, R.SEQ_THR_EPC, R.SEQ_THR_EADDR]
  omega

theorem thrExc_ne_stat (t : Fin 64) : R.SEQ_THR_EXC t ≠ R.SEQ_THR_STAT t ∧ R.SEQ_THR_EPC t ≠ R.SEQ_THR_STAT t ∧
    R.SEQ_THR_EADDR t ≠ R.SEQ_THR_STAT t ∧ (excSumBit t).addr ≠ R.SEQ_THR_STAT t := by
  have h := excSumBit_addr_ge t
  simp only [R.SEQ_THR_EXC, R.SEQ_THR_EPC, R.SEQ_THR_EADDR, R.SEQ_THR_STAT]
  omega

theorem threadException : Claims.ThreadException := by
  intro t cause sub epc eaddr s hwf hsvc hcause hsub u
  have hrwf := State.wf_rwf hwf
  obtain ⟨hexc, hepc, headdr, hsum⟩ := thrExc_past_two_wire t
  obtain ⟨nexc, nepc, neaddr, nsum⟩ := thrExc_ne_stat t
  by_cases hvalid : s.get (F.SEQ_THR_EXC.VALID t) = 0
  · have hst : Stopped t _ _ u := (recordExc_first_recorded (by simp [State.is, hvalid])).stopped hsvc
      (excFirst_wf hwf)
    have hreport : ∃ r ∈ u.reports, r.src = 296 + t.val / 16 :=
      ⟨_, hst.reps ▸ List.mem_append_right _ (List.mem_singleton_self _), rfl⟩
    refine ⟨hst.state, fun _ => ⟨?_, hreport, ?_, ?_, ?_, ?_, ?_⟩, absurd hvalid, hst.mem, fun y => ?_⟩
    · exact (hst.get _ hsum nsum).trans (excFirst_reads_sum hrwf).get
    · exact (hst.get _ hexc nexc).trans (excFirst_reads_valid hrwf).get
    · exact (hst.get _ hexc nexc).trans (excFirst_reads_cause hrwf hcause).get
    · exact (hst.get _ hexc nexc).trans (excFirst_reads_sub hrwf hsub).get
    · exact (hst.regs _ hepc nepc).trans (excFirst_rd_epc hrwf)
    · exact (hst.regs _ headdr neaddr).trans (excFirst_rd_eaddr hrwf)
    · exact (hst.ctx y).trans (ctx_congr rfl rfl y)
  · have hst : Stopped t _ _ u := (recordExc_later_recorded (by simpa [State.is] using hvalid)).stopped hsvc
      (s.set_wf _ _ hwf)
    obtain ⟨nsumExc, -, -, -⟩ := thrExc_ne_excSumBit t t
    have hmore : Reads (F.SEQ_THR_EXC.MORE t) 1 (excLater s t) := reads_set hrwf _ 1 rfl rfl
    have hkept : Reads (F.SEQ_THR_EXC.CAUSE t) (s.get (F.SEQ_THR_EXC.CAUSE t)) (excLater s t) :=
      Reads.set_apart ⟨hrwf, rfl⟩ _ 1 rfl
    refine ⟨hst.state, fun h => absurd h hvalid, fun _ => ⟨?_, hst.reps, ?_, ?_, ?_, ?_⟩, hst.mem, fun y => ?_⟩
    · exact (hst.get _ hsum nsum).trans (get_congr _ (excLater_rd _ nsumExc.symm))
    · exact (hst.get _ hexc nexc).trans hmore.get
    · exact (hst.get _ hexc nexc).trans hkept.get
    · exact (hst.regs _ hepc nepc).trans (excLater_rd _ (by simp only [R.SEQ_THR_EXC, R.SEQ_THR_EPC]; omega))
    · exact (hst.regs _ headdr neaddr).trans (excLater_rd _ (by simp only [R.SEQ_THR_EXC, R.SEQ_THR_EADDR]; omega))
    · exact (hst.ctx y).trans (ctx_congr rfl rfl y)

/-! ### The clear of summary bits (R287) -/

/-- Does a write of w to the low or high summary register name thread t? -/
def excNamed (hi : Bool) (w : Word) (t : Fin 64) : Bool := (decide (32 ≤ t.val) == hi) && bitOf w (t.val % 32)

theorem clearExcs_cons (s : State) (hi : Bool) (w : Word) (t : Fin 64) (l : List (Fin 64)) :
    s.clearExcs hi w (t :: l) = (if excNamed hi w t then s.clearExc t else s).clearExcs hi w l := rfl

/-- Thread t's summary bit and its record register are as in s. -/
structure ExcKept (t : Fin 64) (s u : State) : Prop where
  sum    : Reads (excSumBit t) (s.get (excSumBit t)) u
  record : u.rd (R.SEQ_THR_EXC t) = s.rd (R.SEQ_THR_EXC t)

theorem ExcKept.trans {t : Fin 64} {s u v : State} (h : ExcKept t s u) (k : ExcKept t u v) : ExcKept t s v :=
  ⟨⟨k.sum.rwf, k.sum.get.trans h.sum.get⟩, k.record.trans h.record⟩

theorem excKept_clearExc {s : State} (h : s.rwf) {k t : Fin 64} (hne : k ≠ t) : ExcKept t s (s.clearExc k) := by
  obtain ⟨hrec, -, -, -⟩ := thrExc_ne_excSumBit k t
  obtain ⟨hsum, -, -, -⟩ := thrExc_ne_excSumBit t k
  have hsame : Reads (excSumBit t) (s.get (excSumBit t)) s := ⟨h, rfl⟩
  exact ⟨((hsame.set_excSumBit hne 0).set_other _ _ hsum.symm).set_other _ _ hsum.symm,
    ((State.set_rd_other _ _ _ _ (thrExc_inj hne)).trans (State.set_rd_other _ _ _ _ (thrExc_inj hne))).trans
      (State.set_rd_other _ _ _ _ hrec)⟩

theorem excKept_clearExcs {hi : Bool} {w : Word} {t : Fin 64} (hn : excNamed hi w t = false) (l : List (Fin 64)) :
    ∀ s : State, s.rwf → ExcKept t s (s.clearExcs hi w l) := by
  induction l with
  | nil => exact fun s h => ⟨⟨h, rfl⟩, rfl⟩
  | cons k l ih =>
    intro s h
    rw [clearExcs_cons]
    split
    case isTrue hk =>
      have hne : k ≠ t := fun e => by rw [e, hn] at hk; exact Bool.false_ne_true hk
      have hkept := excKept_clearExc h hne
      exact hkept.trans (ih _ hkept.sum.rwf)
    case isFalse => exact ih s h

/-- Thread t has no recorded exception. -/
structure ExcCleared (t : Fin 64) (s : State) : Prop where
  sum   : Reads (excSumBit t) 0 s
  valid : s.get (F.SEQ_THR_EXC.VALID t) = 0
  more  : s.get (F.SEQ_THR_EXC.MORE t) = 0

theorem excCleared_clearExc {s : State} (h : s.rwf) (t : Fin 64) : ExcCleared t (s.clearExc t) := by
  obtain ⟨hsum, -, -, -⟩ := thrExc_ne_excSumBit t t
  have hbit := State.set_rwf _ (excSumBit t) 0 h
  have hvalid := reads_set hbit (F.SEQ_THR_EXC.VALID t) 0 rfl rfl
  exact ⟨((reads_excSumBit h t (by decide)).set_other _ _ hsum.symm).set_other _ _ hsum.symm,
    (hvalid.set_apart _ 0 rfl).get, (reads_set hvalid.rwf _ 0 rfl rfl).get⟩

theorem ExcCleared.kept {t : Fin 64} {s u : State} (h : ExcCleared t s) (k : ExcKept t s u) : ExcCleared t u :=
  ⟨⟨k.sum.rwf, k.sum.get.trans h.sum.get⟩, (get_congr _ k.record).trans h.valid, (get_congr _ k.record).trans h.more⟩

theorem ExcCleared.clearExcs_stays {hi : Bool} {w : Word} {t : Fin 64} (l : List (Fin 64)) :
    ∀ s : State, ExcCleared t s → ExcCleared t (s.clearExcs hi w l) := by
  induction l with
  | nil => exact fun s h => h
  | cons k l ih =>
    intro s h
    rw [clearExcs_cons]
    split
    · by_cases e : k = t
      · exact ih _ (e ▸ excCleared_clearExc h.sum.rwf k)
      · exact ih _ (h.kept (excKept_clearExc h.sum.rwf e))
    · exact ih s h

theorem clearExcs_clears_named {hi : Bool} {w : Word} {t : Fin 64} (hn : excNamed hi w t = true) {l : List (Fin 64)}
    (ht : t ∈ l) : ∀ s : State, s.rwf → ExcCleared t (s.clearExcs hi w l) := by
  induction l with
  | nil => exact absurd ht List.not_mem_nil
  | cons k l ih =>
    intro s h
    rw [clearExcs_cons]
    by_cases e : k = t
    · subst e
      rw [if_pos hn]
      exact ExcCleared.clearExcs_stays l _ (excCleared_clearExc h k)
    · have hl : t ∈ l := (List.mem_cons.1 ht).resolve_left fun e' => e e'.symm
      split
      · exact ih hl _ (excKept_clearExc h e).sum.rwf
      · exact ih hl s h

theorem exceptionSummaryClear : Claims.ExceptionSummaryClear := by
  intro rq hi w s hwf hrq
  refine ⟨s.clearExcs hi w (List.finRange 64), congrArg Host.Outcome.next (if_pos hrq), fun t => ?_⟩
  refine ⟨fun hhalf hbit => ?_, fun hn => ?_⟩
  · have hnamed : excNamed hi w t = true := by simp [excNamed, hhalf, hbit]
    obtain ⟨hsum, hvalid, hmore⟩ := clearExcs_clears_named hnamed (List.mem_finRange t) s (State.wf_rwf hwf)
    exact ⟨hsum.get, hvalid, hmore⟩
  · have hnamed : excNamed hi w t = false := by
      rcases hn with hhalf | hbit
      · simp [excNamed, hhalf]
      · simp [excNamed, hbit]
    obtain ⟨hsum, hrec⟩ := excKept_clearExcs hnamed (List.finRange 64) s (State.wf_rwf hwf)
    exact ⟨hsum.get, hrec⟩

/-! ### MFSR and MTSR (R263) -/

theorem issueMss_runs (s : State) (k : Fin 2) (f : State → State) (h : s.runs (.mss k) = true) :
    s.issueMss (.mss k) f = f s := issue_runs s (.mss k) _ h

theorem special_reserved (m : MssCore) (k : Fin 2) {n : Nat} (h : 4 < n) : m.special k n = none := by
  match n, h with
  | _ + 5, _ => rfl

section
variable {s : State} {k : Fin 2} (hrun : s.runs (.mss k) = true) (r : Fin 32) {fn : BitVec 11}
include hrun

theorem mfsr_reads (hwf : s.wf = true) {w : Word} (h : s.mss[k].special k fn.toNat = some w) :
    ∃ t, exec (.mfsr (.mss k) r fn) s = .next t ∧
      Stepped (.mss k) (s.mss[k].ctx.setReg r w) (s.mss[k].pc + 4) s t := by
  refine ⟨(s.setG (.mss k) r w).advance (.mss k), congrArg Host.Outcome.next ?_,
    stepped_advance (.mss k) (fun c => c.setReg r w) s hwf⟩
  rw [issueMss_runs s k _ hrun]
  simp only [h]

theorem mfsr_reserved (h : 4 < fn.toNat) : exec (.mfsr (.mss k) r fn) s = .next (s.illegal (.mss k) 1) := by
  refine congrArg Host.Outcome.next ?_
  rw [issueMss_runs s k _ hrun]
  simp only [special_reserved _ k h]

theorem mtsr_writes (h : fn.toNat ≤ 4) {n : MssCore} (hn : s.mss[k].setSpecial fn.toNat (s.mss[k].ctx.reg r) = n)
    (hpc : n.pc = s.mss[k].pc) : ∃ t, exec (.mtsr (.mss k) r fn) s = .next t ∧
      t = { s with mss := s.mss.set k { n with pc := s.mss[k].pc + 4 } } := by
  refine ⟨_, congrArg Host.Outcome.next ?_, rfl⟩
  rw [issueMss_runs s k _ hrun]
  simp only [if_neg (Nat.not_lt.2 h), State.advance, State.setPc, State.pcOf, State.modMss, Fin.getElem_fin,
    Vector.getElem_set_self, Vector.set_set]
  simp only [Fin.getElem_fin] at hn hpc
  rw [hn, hpc]

theorem mtsr_reserved (h : 4 < fn.toNat) : exec (.mtsr (.mss k) r fn) s = .next (s.illegal (.mss k) 1) := by
  refine congrArg Host.Outcome.next ?_
  rw [issueMss_runs s k _ hrun]
  exact if_pos h

end

theorem mssSpecialRegisters : Claims.MssSpecialRegisters := by
  intro k rd ra fn s hwf hrun m gets puts a
  have hget : ∀ {fn : BitVec 11} {w : Word}, m.special k fn.toNat = some w → gets fn w := mfsr_reads hrun rd hwf
  have hput : ∀ {fn : BitVec 11} {n : MssCore}, fn.toNat ≤ 4 → m.setSpecial fn.toNat a = n → n.pc = m.pc → puts fn n :=
    fun h hn hpc => mtsr_writes hrun ra h hn hpc
  refine ⟨hget rfl, hget rfl, hget rfl, hget rfl, hget rfl, ?_, ?_, ?_, ?_, ?_,
    fun h => ⟨mfsr_reserved hrun rd h, mtsr_reserved hrun ra h⟩⟩ <;> exact hput (by decide) rfl rfl

/-- Settles O13: the first exception of a thread fills its record and a later one sets MORE, and stopping the thread leaves
both; a clear is an induction over the threads, of which only the named one touches its own bit; MFSR and MTSR by number. -/
theorem threadExceptionsAndSpecialRegisters : Obligations.ThreadExceptionsAndSpecialRegisters :=
  ⟨threadException, mssSpecialRegisters, exceptionSummaryClear⟩

end Sys2Proof.Machine
end

section
/-!
Exceptions of an MSS core and the return from them (R288, R298), and the obligation about them.
-/
namespace Sys2Proof.Machine

section
variable {s : State} {k : Fin 2} {cause sub : Nat} {epc eaddr : Word}

/-- What an exception makes of an MSS core: the handler begins at 0x1F00_0040 with the interrupt enable clear. -/
def MssCore.excepted (m : MssCore) (cause sub : Nat) (epc eaddr : Word) (recent : List Nat) : MssCore :=
  { m with
    epc := epc, ecause := BitVec.ofNat 32 (cause * 256 + sub), eaddr := eaddr, saved := m.status,
    status := m.status &&& 0xFFFFFFFE, pc := 0x1F000040, excs := recent, handler := true }

/-- The log record, the command's answer and EXC3 leave the cores as the exception set them. -/
theorem mssExcept_core : ∃ recent, (s.except (.mss k) cause sub epc eaddr).mss[k] =
    s.mss[k].excepted cause sub epc eaddr recent := by
  refine ⟨s.dtime :: (s.mss[k].excs.filter fun t => s.dtime < t + 1000000000), ?_⟩
  have hfail : ∀ u : State, (u.failCmdOf (64 + k) stInternal).mss = u.mss := fun u => (told_failCmdOf u _ _).mss
  have hraise : ∀ (u : State) (d1 : Word), (u.raise (338 + k) 2 0 d1).mss = u.mss := fun u _ => (told_report u _).mss
  simp only [State.except, State.mssExcept]
  split <;> simp [hfail, hraise, log_mss, MssCore.excepted]

theorem eret_runs (h : s.runs (.mss k) = true) : exec (.eret (.mss k)) s = .next (s.eretMss k) :=
  congrArg Host.Outcome.next (issueMss_runs s k _ h)

/-- What ERET makes of a core; the exception handler has set EPC to the dispatch entry. -/
def MssCore.returned (m : MssCore) : MssCore :=
  let e : Word := if m.handler then 0x1F000000 else m.epc
  { m with status := m.saved, epc := e, pc := e, handler := false }

theorem eretMss_core : (s.eretMss k).mss[k] = s.mss[k].returned := by
  simp [State.eretMss, MssCore.returned]

end

theorem mssExceptionAndReturn : Claims.MssExceptionAndReturn := by
  intro k cause sub epc eaddr s u
  obtain ⟨recent, hcore⟩ : ∃ recent, u.mss[k] = s.mss[k].excepted cause sub epc eaddr recent := mssExcept_core
  refine ⟨congrArg MssCore.epc hcore, congrArg MssCore.ecause hcore, congrArg MssCore.eaddr hcore,
    congrArg MssCore.status hcore, congrArg MssCore.pc hcore, (congrArg MssCore.ctx hcore).trans rfl,
    fun hrun => ?_, fun hrun => ?_⟩
  · exact ⟨_, eret_runs hrun, congrArg MssCore.pc eretMss_core, congrArg MssCore.status eretMss_core,
      (congrArg MssCore.ctx eretMss_core).trans rfl, rfl, rfl, rfl⟩
  · refine ⟨_, eret_runs hrun, ?_⟩
    rw [eretMss_core, hcore]
    exact ⟨rfl, rfl, rfl⟩

/-- Settles O12: an exception and ERET each change the core's own record, and what is told of an exception leaves the
cores alone. -/
theorem mssExceptionsSaveAndReturn : Obligations.MssExceptionsSaveAndReturn := mssExceptionAndReturn

end Sys2Proof.Machine
end

section
/-!
Completion of a posted operation (R273, R276, R286), the scrubber of queue memory (R485), and the obligation about them.
-/
namespace Sys2Proof.Machine

/-! ### A completion reaches its thread (R273, R276) -/

section
variable {s : State} {t slot : Fin 64} {o : Op} {w : Word}

/-- The collector takes nothing where no operation of its own still has to be executed. -/
theorem collGo_of_none_waiting (h : ∀ p ∈ s.ops, p.unit = .coll → p.word ≠ none) (n : Nat) : s.collGo n = s := by
  cases n with
  | zero => rfl
  | succ n =>
    have hnone : s.ops.find? (fun p => p.unit == .coll && p.word.isNone) = none := by
      rw [List.find?_eq_none]
      intro p hp hwait
      simp only [Bool.and_eq_true, beq_iff_eq, Option.isNone_iff_eq_none] at hwait
      exact h p hp hwait.1 hwait.2
    simp only [State.collGo, hnone]

theorem unitStep_of_word {who : Issuer} (hfind : s.ops.find? (fun o => o.who == who) = some o) (hw : o.word = some w) :
    s.unitStep who = s := by
  simp only [State.unitStep, hfind, hw]
  cases o.unit <;> rfl

theorem doneNow_of_word (hw : o.word = some w) (hk : ∀ n op, o.kind ≠ .force n op) : s.doneNow o = some (w, s) := by
  simp only [State.doneNow, hw, Option.isNone_some, Bool.false_and, Bool.false_eq_true, if_false]

/-- The operation leaves the table, and the collector goes on with what waited behind it. -/
def opTaken (s : State) (who : Issuer) : State :=
  State.collGo { s with ops := s.ops.filter fun p => p.who != who } s.ops.length

theorem operationCompletion_delivers (hfind : s.ops.find? (fun o => o.who == .thread t slot) = some o)
    (hw : o.word = some w) (hk : ∀ n op, o.kind ≠ .force n op) :
    exec (.operationCompletion (.thread t slot)) s =
      .next ((opTaken s (.thread t slot)).deliver (.thread t) slot o w) := by
  refine congrArg Host.Outcome.next ?_
  simp only [unitStep_of_word hfind hw, hfind, doneNow_of_word hw hk]
  rfl

theorem opTaken_of_none_waiting {who : Issuer} (h : ∀ p ∈ s.ops, p.unit = .coll → p.word ≠ none) :
    opTaken s who = { s with ops := s.ops.filter fun p => p.who != who } :=
  collGo_of_none_waiting (fun p hp => h p (List.mem_filter.1 hp).1) _

theorem completeTag_thread : s.completeTag (.thread t) slot w = s.modThr t fun h =>
    { h with tags := h.tags.setIfInBounds slot (h.tags[slot].complete w) } := by
  simp [State.completeTag, State.modThr]

theorem completeTag_tag : (s.completeTag (.thread t) slot w).threads[t].tags[slot] = s.threads[t].tags[slot].complete w := by
  simp [completeTag_thread]

theorem completeTag_tag_other {i : Fin 64} (h : i ≠ slot) :
    (s.completeTag (.thread t) slot w).threads[t].tags[i] = s.threads[t].tags[i] := by
  have hne : ¬ slot.val = i.val := fun e => h (Fin.ext e.symm)
  simp [completeTag_thread, hne]

theorem modThr_threads_other (g : Thread → Thread) {k : Fin 64} (h : k ≠ t) : (s.modThr t g).threads[k] = s.threads[k] := by
  have hne : ¬ t.val = k.val := fun e => h (Fin.ext e.symm)
  simp [Vector.getElem_set_ne, hne]

/-- A completion that nothing waits for and that raises no exception sets its tag alone. -/
theorem deliver_of_no_wait (hwait : s.threads[t].wait = .none) (hcause : complCause o w = none) :
    s.deliver (.thread t) slot o w = s.completeTag (.thread t) slot w := by
  have hw : (s.completeTag (.thread t) slot w).waitOf (.thread t) = .none := by
    simpa [State.waitOf, completeTag_thread] using hwait
  simp only [State.deliver, State.complExc, hcause, State.completeWait, hw]

end

theorem operationCompletion : Claims.OperationCompletion := by
  intro t slot o w s hfind hw hk v
  refine ⟨operationCompletion_delivers hfind hw hk, fun hwait hcause hcoll => ⟨_, operationCompletion_delivers hfind hw hk, ?_⟩⟩
  have htaken := opTaken_of_none_waiting (who := .thread t slot) hcoll
  rw [deliver_of_no_wait (by rw [htaken]; exact hwait) hcause, htaken]
  refine ⟨rfl, fun hout => ?_, fun hout => ?_, fun i hi => completeTag_tag_other hi, ?_, rfl, rfl, fun k hne => ?_⟩
  · exact completeTag_tag.trans (congrArg (Tag.complete w) hout)
  · exact completeTag_tag.trans (congrArg (Tag.complete w) hout)
  · rw [completeTag_thread]
    exact (modThr_ctx _ t _ rfl _).trans (ctx_congr rfl rfl _)
  · exact modThr_threads_other _ hne

/-! ### FENCED (R286) -/

theorem complCause_fenced (o : Op) {w : Word} (h : bitsOf w 7 0 = 0x30) : complCause o w = some excFenced := if_pos h

theorem fencedCompletion : Claims.FencedCompletion := by
  intro t o w s hw
  refine ⟨fun hrec => ?_, fun hstop hlive => ?_⟩
  · simp only [State.complExc, complCause_fenced o hw, hrec, Bool.false_and, Bool.false_eq_true, if_false]
    rfl
  · simp only [State.complExc, complCause_fenced o hw, hstop, hlive, Bool.and_self, if_true]
    rfl

/-! ### The scrubber (R485) -/

section
variable {s : State} {a : Nat}

theorem bankOf_lt (h : inQueue a = true) : bankOf a < 8 := by
  simp only [inQueue, Bool.and_eq_true, decide_eq_true_eq] at h
  simp only [bankOf]
  omega

/-- What a scrub finds: an uncorrectable word is known to later reads. -/
def scrubbed (s : State) (a : Nat) (kind : Fin 3) : State :=
  if kind = 2 then { s with freeCtr := s.freeCtr + 1, ue := a / 8 :: s.ue.filter (· != a / 8) }
  else { s with freeCtr := s.freeCtr + 1 }

theorem sramScrub_clean : exec (.sramScrub a 0) s = .next s := by
  refine congrArg Host.Outcome.next ?_
  simp

theorem sramScrub_found (hq : inQueue a = true) (hon : s.bankOn a = true) {kind : Fin 3} (hk : kind ≠ 0) :
    exec (.sramScrub a kind) s =
      .next ((scrubbed s a kind).raise (288 + bankOf a) kind.val (Config.freeValue s.freeCtr)) := by
  refine congrArg Host.Outcome.next ?_
  simp only [hq, hon, hk, Bool.not_true, Bool.or_self, decide_false, Bool.false_eq_true, if_false]
  rfl

/-- The bank's source lies on the hub, so its report is there at once. -/
theorem sramScrub_reports (hq : inQueue a = true) (hon : s.bankOn a = true) {kind : Fin 3} (hk : kind ≠ 0) :
    ∃ u, exec (.sramScrub a kind) s = .next u ∧ u.ue = (scrubbed s a kind).ue ∧ u.regs = (scrubbed s a kind).regs ∧
      u.mem = (scrubbed s a kind).mem ∧ ∃ r ∈ u.reports, r.src = 288 + bankOf a ∧ r.cond = kind.val := by
  have hbank := bankOf_lt hq
  refine ⟨_, sramScrub_found hq hon hk, ?_⟩
  rw [raise_hub _ (by omega) (by omega)]
  exact ⟨rfl, rfl, rfl, _, List.mem_append_right _ (List.mem_singleton_self _), rfl, rfl⟩

end

theorem scrubber : Claims.Scrubber := by
  intro a s hq hon
  refine ⟨sramScrub_clean, sramScrub_reports hq hon (kind := 1) (by decide), ?_⟩
  obtain ⟨u, hexec, hue, hrest⟩ := sramScrub_reports hq hon (kind := 2) (by decide)
  exact ⟨u, hexec, by rw [hue]; simp [scrubbed], hrest⟩

/-- Settles O17: a completion with its word leaves the table and sets its tag, where no wait, no exception and no force
operation follows; FENCED by OPX; the scrubber by what it finds, its source lying on the hub. -/
theorem operationsComplete : Obligations.OperationsComplete := ⟨operationCompletion, fencedCompletion, scrubber⟩

end Sys2Proof.Machine
end

section
/-!
UCS frames (R299 to R313, R320): what a frame meets when it arrives, which command starts, the takeover by the standby
core, the answer of a command, the writes of UCS_SVC, and the obligation about them.
-/
namespace Sys2Proof.Machine

/-! ### What a frame that is sent leaves on record -/

theorem hdpSend_out (s : State) (x : Session) (k : Nat) (q : Word) (b : HdpBody) (r : Bool) :
    (s.hdpSend x k q b r).out = s.out := by
  simp only [State.hdpSend]
  split <;> rfl

theorem hdpPut_out (s : State) (i : Fin 16) (k : Nat) (b : HdpBody) : (s.hdpPut i k b).out = s.out := by
  simp only [State.hdpPut]
  split
  · rfl
  · split
    · exact hdpSend_out _ _ _ _ _ _
    · rfl

theorem mbxNotice_out (s : State) (f : Frame) : (s.mbxNotice f).out = s.out := by
  simp only [State.mbxNotice]
  split
  · rfl
  · split
    · rfl
    · split <;> rfl

theorem send_out (s : State) (f : Frame) : (s.send f).out = s.out ++ [f] := by
  simp only [State.send]
  split
  · exact hdpPut_out _ _ _ _
  · split
    · exact mbxNotice_out _ _
    · rfl
  · rfl

theorem mem_send_out (s : State) (f : Frame) : f ∈ (s.send f).out :=
  send_out s f ▸ List.mem_append_right _ (List.mem_singleton_self f)

theorem OnlySent.cmds {s t : State} (h : OnlySent s t) : t.cmds = s.cmds := by
  have hrest := congrArg State.cmds h.rest
  exact hrest

theorem OnlySent.journal {s t : State} (h : OnlySent s t) : t.journal = s.journal := by
  have hrest := congrArg State.journal h.rest
  exact hrest

/-! ### The checks of a frame (Table 11-4, rows 1 to 6) -/

theorem frameChecks : Claims.FrameChecks := by
  intro rq l f n
  simp only [n, frameFail]
  split
  case isTrue => simp
  rename_i hlen
  have hl : l.length = 20 + f.len := Decidable.byContradiction fun hne =>
    hlen (by rw [decide_eq_true hne, Bool.true_or])
  split
  case isTrue hcrc => simp [hl, hcrc]
  split
  case isTrue hmagic => simpa [hl] using hmagic
  split
  case isTrue hver => simp [hl, hver]
  split
  case isTrue => simp [hl]
  split
  case isTrue => simp [hl]
  rename_i hcrc hmagic hver hflags hbody
  simp only [Decidable.not_not, Bool.or_eq_true, decide_eq_true_eq, not_or, Nat.not_lt] at hcrc hmagic hver hflags hbody
  obtain ⟨hlow, hhigh⟩ := hflags
  obtain ⟨hmax, hmod⟩ := hbody
  simp [hl, hcrc, hmagic, hver, hlow, hhigh, hmax, hmod]

/-! ### A frame that arrives (R301, R311) -/

section
variable {rq : Requester} {l : List Byte} {s : State}

theorem frameReceive_held (h : s.mssDown = true) :
    exec (.frameReceive rq l) s = .next { s with heldIn := s.heldIn ++ [(rq, l)] } := next_if_pos _ _ h

theorem frameReceive_checked (h : s.mssDown = false) : exec (.frameReceive rq l) s = .next (s.checkFrame rq l) :=
  next_if_neg _ _ (Bool.eq_false_iff.1 h)

theorem checkFrame_of_fail (h : frameFail rq l (rxFrame l) ≠ 0) : ∃ u, s.checkFrame rq l = u ∧ u.cmds = s.cmds ∧
    ∃ o ∈ u.out, o = { rq := rq, code := (rxFrame l).code, tag := (rxFrame l).tag,
                       flags := 1 + 8 * b2n ((rxFrame l).flags.testBit 3),
                       body := [BitVec.ofNat 32 stBadFrame, BitVec.ofNat 32 (frameFail rq l (rxFrame l))] } :=
  ⟨_, if_neg h, (onlySent_send _ _).cmds, _, mem_send_out _ _, rfl⟩

end

/-- Before READY the commands up to code 2 pass. -/
theorem not_held_back {s : State} {code : Nat} (h : s.ready = true ∨ code ≤ 2) :
    (!s.ready && decide (2 < code)) = false := by
  rcases h with h | h
  · rw [h]
    rfl
  · rw [decide_eq_false (Nat.not_lt.2 h), Bool.and_false]

section
variable {rq : Requester} {f : RxFrame} {s : State}

theorem accept_unassigned (h : codeAssigned f.code = false) : s.accept rq f = s.turnAway rq f stBadCode := by
  simp only [State.accept, h, Bool.not_false, if_true]

variable (hcode : codeAssigned f.code = true)
include hcode

theorem accept_tag_in_use (htag : s.tagOut rq f.tag = true) (hrep : f.flags.testBit 3 = false) :
    s.accept rq f = s.turnAway rq f stTagInUse := by
  simp only [State.accept, hcode, htag, hrep, Bool.not_true, Bool.false_eq_true, if_false, if_true]

variable (htag : s.tagOut rq f.tag = false)
include htag

theorem accept_not_ready (hready : s.ready = false) (hearly : 2 < f.code) :
    s.accept rq f = s.turnAway rq f stNotReady := by
  simp only [State.accept, hcode, htag, hready, hearly, decide_true, Bool.not_true, Bool.not_false, Bool.and_self,
    Bool.false_eq_true, if_false, if_true]

variable (hready : s.ready = true ∨ f.code ≤ 2)
include hready

theorem accept_replay {j : Journal} (hrep : f.flags.testBit 3 = true)
    (hj : s.journal.reverse.find? (fun j => j.rq == rq && j.tag == f.tag) = some j) :
    s.accept rq f = s.send (journalFrame j (9 + 16 * b2n j.trunc)) := by
  have hon := not_held_back hready
  simp only [State.accept, hcode, htag, hon, hrep, hj, Bool.not_true, Bool.false_eq_true, if_false, if_true]

theorem accept_busy (hrep : f.flags.testBit 3 = false) (hfull : 32 ≤ s.outstandingOf rq ∨ 128 ≤ s.outstanding) :
    s.accept rq f = s.turnAway rq f stBusy := by
  have hon := not_held_back hready
  have hbusy : (decide (32 ≤ s.outstandingOf rq) || decide (128 ≤ s.outstanding)) = true := by
    rwa [Bool.or_eq_true, decide_eq_true_eq, decide_eq_true_eq]
  simp only [State.accept, hcode, htag, hon, hrep, hbusy, Bool.not_true, Bool.false_eq_true, if_false, if_true]

theorem accept_outstanding (hrep : f.flags.testBit 3 = false) (hown : s.outstandingOf rq < 32)
    (hall : s.outstanding < 128) : s.accept rq f =
      { s with cmds := s.cmds ++
        [{ rq := rq, tag := f.tag, code := f.code, flags := f.flags, body := f.body, replay := false }] } := by
  have hon := not_held_back hready
  simp only [State.accept, hcode, htag, hon, hrep, Nat.not_le.2 hown, Nat.not_le.2 hall, decide_false, Bool.or_self,
    Bool.not_true, Bool.false_eq_true, if_false]

end

theorem framesReceived : Claims.FramesReceived := by
  intro rq l s _ f away replay
  refine ⟨frameReceive_held, fun hup => ?_⟩
  have hexec : exec (.frameReceive rq l) s = .next (s.checkFrame rq l) := frameReceive_checked hup
  refine ⟨fun hfail => ?_, fun hpass => ?_⟩
  · obtain ⟨u, hu, hcmds, o, hout, ho⟩ := checkFrame_of_fail (s := s) hfail
    subst ho
    exact ⟨u, hexec.trans (congrArg _ hu), hcmds, _, hout, rfl, rfl, rfl, rfl, rfl⟩
  · have hacc {t : State} (h : s.accept rq f = t) : exec (.frameReceive rq l) s = .next t :=
      hexec.trans (congrArg _ ((if_pos hpass).trans h))
    refine ⟨fun h => hacc (accept_unassigned h), fun hc ht hr => hacc (accept_tag_in_use hc ht hr), fun hc ht => ?_⟩
    exact ⟨fun hr hearly => hacc (accept_not_ready hc ht hr hearly), fun hready =>
      ⟨fun j hr hj => hacc (accept_replay hc ht hready hr hj), fun hr hfull => hacc (accept_busy hc ht hready hr hfull),
        fun hr hown hall => hacc (accept_outstanding hc ht hready hr hown hall)⟩⟩

/-! ### Which command starts (R307, R313) -/

theorem not_unanswered {m : Cmd} {l : List OutCmd} (h : ∀ d ∈ l, d.names m = true → d.orphan = true) :
    ∀ d ∈ l, (d.names m && !d.orphan) = false := by
  simpa using h

section
variable {rq : Requester} {tag : BitVec 16} {s : State}

/-- No unanswered command has the tag: nothing starts. -/
theorem commandDispatch_of_none (h : ∀ d ∈ s.cmds, d.names { rq := rq, tag := tag } = true → d.orphan = true) :
    exec (.commandDispatch rq tag) s = .next s := by
  have hnone : s.cmds.find? (fun c => c.names { rq := rq, tag := tag } && !c.orphan) = none := by
    simpa using not_unanswered h
  refine congrArg Host.Outcome.next ?_
  simp only [hnone, State.executorFor]

variable {c : OutCmd} {pre post : List OutCmd} (hcmds : s.cmds = pre ++ c :: post)
  (hname : c.names { rq := rq, tag := tag } = true) (horph : c.orphan = false)
  (hpre : ∀ d ∈ pre, d.names { rq := rq, tag := tag } = true → d.orphan = true)
include hcmds hname horph hpre

theorem find_first_unanswered :
    s.cmds.find? (fun c => c.names { rq := rq, tag := tag } && !c.orphan) = some c := by
  have hskip := not_unanswered hpre
  rw [hcmds, List.find?_append, List.find?_eq_none.2 fun d hd => by rw [hskip d hd]; exact Bool.false_ne_true]
  simp [hname, horph]

theorem takeWhile_before_unanswered :
    s.cmds.takeWhile (fun c => !(c.names { rq := rq, tag := tag } && !c.orphan)) = pre := by
  have hskip := not_unanswered hpre
  rw [hcmds, List.takeWhile_append_of_pos fun d hd => by rw [hskip d hd]; rfl]
  simp [hname, horph]

section
variable {m : Cmd} (hm : m = { rq := rq, tag := tag })
include hm

theorem executorFor_of_blocked (h : s.mssDown = true ∨ c.mayStart pre = false) : s.executorFor m = (none, s) := by
  subst hm
  simp only [State.executorFor, find_first_unanswered hcmds hname horph hpre,
    takeWhile_before_unanswered hcmds hname horph hpre]
  refine if_pos ?_
  rcases h with h | h <;> simp [h]

variable (hup : s.mssDown = false) (hmay : c.mayStart pre = true)
include hup hmay

/-- On the slow path a command runs alone, on the core that dispatches. -/
theorem executorFor_of_slow (hslow : s.slow = true) : s.executorFor m =
    if pre.all (·.orphan) && !s.cmds.any (·.started) then (some (64 + s.core), s) else (none, s) := by
  subst hm
  simp only [State.executorFor, find_first_unanswered hcmds hname horph hpre,
    takeWhile_before_unanswered hcmds hname horph hpre, hup, hmay, hslow, Bool.not_true, Bool.or_self, Bool.false_eq_true,
    if_false, if_true]

theorem executorFor_of_none_free (hfast : s.slow = false) (hfree : s.svcFree = []) : s.executorFor m = (none, s) := by
  subst hm
  simp only [State.executorFor, find_first_unanswered hcmds hname horph hpre,
    takeWhile_before_unanswered hcmds hname horph hpre, hup, hmay, hfast, hfree, Bool.not_true, Bool.or_self,
    Bool.false_eq_true, if_false]

theorem executorFor_of_one_free (hfast : s.slow = false) {t : Nat} (hfree : s.svcFree = [t]) :
    s.executorFor m = (some t, s) := by
  subst hm
  simp only [State.executorFor, find_first_unanswered hcmds hname horph hpre,
    takeWhile_before_unanswered hcmds hname horph hpre, hup, hmay, hfast, hfree, State.choose, Bool.not_true, Bool.or_self,
    Bool.false_eq_true, if_false]

end

theorem commandDispatch_waits (h : s.executorFor { rq := rq, tag := tag } = (none, s)) :
    exec (.commandDispatch rq tag) s = .next s := by
  refine congrArg Host.Outcome.next ?_
  simp only [find_first_unanswered hcmds hname horph hpre, h]

theorem commandDispatch_starts {n : Nat} (h : s.executorFor { rq := rq, tag := tag } = (some n, s)) :
    exec (.commandDispatch rq tag) s =
      .next ((s.startCmd { rq := rq, tag := tag } n).runCmd { rq := rq, tag := tag } c.code c.body) := by
  refine congrArg Host.Outcome.next ?_
  simp only [find_first_unanswered hcmds hname horph hpre, h]

end

theorem mayStart_eq_false {c : OutCmd} {pre : List OutCmd}
    (h : c.started = true ∨ ∃ d ∈ pre, d.rq = c.rq ∧ d.orphan = false ∧ (d.key = c.key ∨ c.flags.testBit 2 = true)) :
    c.mayStart pre = false := by
  rcases h with h | ⟨d, hd, hrq, ho, hk⟩
  · simp [OutCmd.mayStart, h]
  · have hany : (pre.any fun d => d.rq == c.rq && !d.orphan && (c.flags.testBit 2 || d.key == c.key)) = true :=
      List.any_eq_true.2 ⟨d, hd, by rcases hk with hk | hk <;> simp [hrq, ho, hk]⟩
    simp [OutCmd.mayStart, hany]

theorem mayStart_eq_true {c : OutCmd} {pre : List OutCmd} (hs : c.started = false) (ho : c.orphan = false)
    (h : ∀ d ∈ pre, d.rq = c.rq → d.orphan = false → d.key ≠ c.key ∧ c.flags.testBit 2 = false) :
    c.mayStart pre = true := by
  have hany : (pre.any fun d => d.rq == c.rq && !d.orphan && (c.flags.testBit 2 || d.key == c.key)) = false := by
    simp only [List.any_eq_false, Bool.and_eq_true, Bool.not_eq_true', beq_iff_eq, Bool.or_eq_true]
    rintro d hd ⟨⟨hrq, hd'⟩, hk⟩
    obtain ⟨hne, hord⟩ := h d hd hrq hd'
    simp [hord, hne] at hk
  simp [OutCmd.mayStart, hs, ho, hany]

theorem commandsStartInOrder : Claims.CommandsStartInOrder := by
  intro rq tag c pre post s _ m res
  refine ⟨commandDispatch_of_none, fun hcmds hname horph hpre => ?_⟩
  have hrq : c.rq = rq := by
    simp only [OutCmd.names, Bool.and_eq_true, beq_iff_eq] at hname
    exact hname.1
  have waits := commandDispatch_waits hcmds hname horph hpre
  have starts := @commandDispatch_starts _ _ _ _ _ _ hcmds hname horph hpre
  refine ⟨fun hblock => waits (executorFor_of_blocked hcmds hname horph hpre rfl ?_), fun hs hup hfree => ?_⟩
  · rcases hblock with hs | hdown | hearlier
    · exact .inr (mayStart_eq_false (.inl hs))
    · exact .inl hdown
    · exact .inr (mayStart_eq_false (.inr (hrq ▸ hearlier)))
  · have hmay := mayStart_eq_true hs horph (hrq ▸ hfree)
    have hslowpath := executorFor_of_slow hcmds hname horph hpre rfl hup hmay
    refine ⟨fun t hfast hone => starts (executorFor_of_one_free hcmds hname horph hpre rfl hup hmay hfast hone),
      fun hfast hnone => waits (executorFor_of_none_free hcmds hname horph hpre rfl hup hmay hfast hnone),
      fun hslow halone hidle => starts ((hslowpath hslow).trans (if_pos ?_)),
      fun hslow hbusy => waits ((hslowpath hslow).trans (if_neg ?_))⟩
    · simp only [Bool.and_eq_true, Bool.not_eq_true', List.all_eq_true, List.any_eq_false]
      exact ⟨halone, fun d hd => Bool.eq_false_iff.1 (hidle d hd)⟩
    · have hany : s.cmds.any (·.started) = true := List.any_eq_true.2 hbusy
      simp [hany]

/-! ### Takeover (R311) -/

theorem sendUnsent_of_none (s : State) (h : s.journal = []) : s.sendUnsent = s := by
  simp only [State.sendUnsent, h, List.filter_nil, List.foldl_nil, List.map_nil]
  rw [← h]

section
variable (s : State)

/-- The core that dispatches after a takeover: the lower-numbered unfenced one. -/
def standbyCore : Nat := if s.get F.MSS_STAT.CORE0 = 2 then 1 else 0

/-- A takeover counts where it moves the dispatch to the other core. -/
def takeoverCounted : State :=
  let s1 : State := { s with mssDown := false, heldIn := [] }
  if s.core ≠ standbyCore s then
    (s1.inc F.MSS_STAT.TAKEOVERS).modTwm fun w => { w with events := w.events ||| 2 }
  else s1

/-- The takeover of a device in which nothing waits. -/
def takenOver : State :=
  (if standbyCore s = 0 then (takeoverCounted s).set F.MSS_STAT.CORE0 0
    else (takeoverCounted s).set F.MSS_STAT.CORE1 0).set F.UCS_STAT.CORE (standbyCore s)

variable {s}

theorem takeoverCounted_keeps : (takeoverCounted s).cmds = s.cmds ∧ (takeoverCounted s).journal = s.journal ∧
    (takeoverCounted s).mssDown = false := by
  simp only [takeoverCounted]
  split <;> exact ⟨rfl, rfl, rfl⟩

theorem takenOver_keeps : (takenOver s).cmds = s.cmds ∧ (takenOver s).journal = s.journal ∧
    (takenOver s).mssDown = false := by
  simp only [takenOver]
  split <;> exact takeoverCounted_keeps

theorem standbyTakeover_of_nothing_waiting (hdown : s.mssDown = true) (hcmds : s.cmds = []) (hheld : s.heldIn = [])
    (hjour : s.journal = []) : exec .standbyTakeover s = .next (takenOver s) := by
  obtain ⟨hc, hj, -⟩ := takenOver_keeps (s := s)
  have hsent := sendUnsent_of_none _ (hj.trans hjour)
  refine congrArg Host.Outcome.next ?_
  rw [if_neg (by simp [hdown])]
  simp only [hheld, List.foldl_nil]
  change List.foldl State.redo (takenOver s).sendUnsent (List.filter _ (takenOver s).sendUnsent.cmds) = _
  rw [hsent, hc, hcmds]
  rfl

theorem standbyCore_lt : standbyCore s < 2 := by
  simp only [standbyCore]
  split <;> omega

variable (h : s.rwf)
include h

theorem takeoverCounted_reads : Reads F.MSS_STAT.TAKEOVERS (if s.core = standbyCore s then s.get F.MSS_STAT.TAKEOVERS
    else min (s.get F.MSS_STAT.TAKEOVERS + 1) 255) (takeoverCounted s) := by
  simp only [takeoverCounted]
  by_cases hc : s.core = standbyCore s
  · simp only [hc, ne_eq, not_true_eq_false, if_false, if_true]
    exact ⟨h, rfl⟩
  · simp only [hc, ne_eq, not_false_eq_true, if_false, if_true]
    have hset := reads_set h F.MSS_STAT.TAKEOVERS (min (s.get F.MSS_STAT.TAKEOVERS + 1) 255) rfl
      (Nat.mod_eq_of_lt (Nat.lt_of_le_of_lt (Nat.min_le_right _ _) (by decide)))
    exact hset.of_regs rfl

theorem takenOver_reads_core : Reads F.UCS_STAT.CORE (standbyCore s) (takenOver s) := by
  have hrwf := (takeoverCounted_reads h).rwf
  have hmod := Nat.mod_eq_of_lt (standbyCore_lt (s := s))
  refine reads_set ?_ _ _ rfl hmod
  split <;> exact State.set_rwf _ _ _ hrwf

theorem takenOver_reads_mss : Reads (if standbyCore s = 0 then F.MSS_STAT.CORE0 else F.MSS_STAT.CORE1) 0 (takenOver s) := by
  have hrwf := (takeoverCounted_reads h).rwf
  simp only [takenOver]
  split <;> exact (reads_set hrwf _ 0 rfl rfl).set_other _ _ (by decide)

theorem takenOver_reads_count : Reads F.MSS_STAT.TAKEOVERS (if s.core = standbyCore s then s.get F.MSS_STAT.TAKEOVERS
    else min (s.get F.MSS_STAT.TAKEOVERS + 1) 255) (takenOver s) := by
  have hserves : ∀ {n v : Nat} {t : State}, Reads F.MSS_STAT.TAKEOVERS v t →
      Reads F.MSS_STAT.TAKEOVERS v (if n = 0 then t.set F.MSS_STAT.CORE0 0 else t.set F.MSS_STAT.CORE1 0) := fun k => by
    split <;> exact k.set_apart _ 0 rfl
  exact (hserves (takeoverCounted_reads h)).set_other _ _ (by decide)

end

theorem takeovers : Claims.Takeovers := by
  intro s hwf c
  have h := State.wf_rwf hwf
  refine ⟨fun hup => next_if_pos _ _ (by simp [hup]), fun hdown hcmds hheld hjour => ?_⟩
  exact ⟨takenOver s, standbyTakeover_of_nothing_waiting hdown hcmds hheld hjour, takenOver_keeps.2.2,
    (takenOver_reads_core h).get, (takenOver_reads_mss h).get, (takenOver_reads_count h).get⟩

/-! ### The answer of a command (R302, R306, R308) -/

/-- Trimming the journal keeps the entry that was added last. -/
theorem mem_trimJournal_append (rq : Requester) (l : List Journal) (j : Journal) :
    j ∈ trimJournal rq (l ++ [j]) := by
  simp only [trimJournal]
  split
  · simp
  · rename_i hmany
    have hsome : l.filter (fun i => i.rq == rq) ≠ [] := by
      intro hnone
      rw [List.filter_append, hnone, List.nil_append] at hmany
      exact hmany (Nat.le_trans (List.length_filter_le _ _) (show 1 ≤ 64 by decide))
    obtain ⟨i, hmem⟩ := List.exists_mem_of_ne_nil _ hsome
    obtain ⟨hi, he⟩ := List.mem_filter.1 hmem
    rw [List.eraseP_append_left (p := fun j => j.rq == rq) he _ hi]
    simp

section
variable {s : State}

theorem tctlStop_eq (t : Fin 64) : ∃ r v, s.tctlStop t = { s with regs := r, threads := v } := by
  simp only [State.tctlStop]
  split
  · exact ⟨_, _, rfl⟩
  · split
    · exact ⟨_, _, rfl⟩
    · exact ⟨_, _, rfl⟩

theorem stopSvc_eq (t : Nat) : ∃ r v, s.stopSvc t = { s with regs := r, threads := v } := by
  simp only [State.stopSvc]
  split
  · split
    · exact tctlStop_eq _
    · exact ⟨_, _, rfl⟩
  · exact ⟨_, _, rfl⟩

variable (m : Cmd) (code status : Nat) (body : List Word)

theorem finish_eq : ∃ r v, s.finish m code status body = { s.respond m code status body with regs := r, threads := v } := by
  simp only [State.finish]
  split
  · exact stopSvc_eq _
  · exact ⟨_, _, rfl⟩

/-- The entry that an answer makes in the journal. -/
def answerEntry (s : State) : Journal :=
  { rq := m.rq, tag := m.tag, code := code, status := status, body := if decide (64 < body.length) then [] else body,
    trunc := decide (64 < body.length), sent := !s.mssDown, replay := (s.cmds.find? (·.names m)).any (·.replay) }

/-- The response frame of an answer. -/
def answerFrame (s : State) : Frame :=
  { rq := m.rq, code := code, tag := m.tag, flags := 1 + 8 * b2n ((s.cmds.find? (·.names m)).any (·.replay)),
    body := BitVec.ofNat 32 status :: body }

/-- The answer stands in the journal, and its command is no longer outstanding. -/
def answerKept (s : State) : State :=
  { s with cmds := s.cmds.eraseP (·.names m)
           journal := trimJournal m.rq (s.journal ++ [answerEntry m code status body s]) }

theorem respond_eq (h : ∀ c ∈ s.cmds, c.names m = true → c.orphan = false) : s.respond m code status body =
    if s.mssDown then answerKept m code status body s
    else (answerKept m code status body s).send (answerFrame m code status body s) := by
  have horphan : (s.cmds.find? (·.names m)).any (·.orphan) = false := by
    cases hfind : s.cmds.find? (·.names m) with
    | none => rfl
    | some c => exact h c (List.mem_of_find?_eq_some hfind) (List.find?_some (p := fun c => OutCmd.names c m) hfind)
  simp only [State.respond, horphan, Bool.false_eq_true, if_false]
  rfl

end

theorem countP_eraseP_self {α : Type} (p : α → Bool) (l : List α) : (l.eraseP p).countP p = l.countP p - 1 := by
  induction l with
  | nil => rfl
  | cons a l ih =>
    by_cases ha : p a = true
    · simp [ha]
    · simp [ha, ih]

theorem OnlySent.mem {s t : State} (h : OnlySent s t) : t.mem = s.mem := by
  have hrest := congrArg State.mem h.rest
  exact hrest

theorem commandsAreAnswered : Claims.CommandsAreAnswered := by
  intro m code status body s horphan u
  obtain ⟨r, v, hfin⟩ := finish_eq (s := s) m code status body
  have hu : u = { s.respond m code status body with regs := r, threads := v } := hfin
  have hresp := respond_eq m code status body horphan
  have hkept : u.journal = (answerKept m code status body s).journal ∧ u.cmds = (answerKept m code status body s).cmds ∧
      u.mem = s.mem := by
    rw [hu, hresp]
    split
    · exact ⟨rfl, rfl, rfl⟩
    · have hsent := onlySent_send (answerKept m code status body s) (answerFrame m code status body s)
      exact ⟨hsent.journal, hsent.cmds, hsent.mem⟩
  obtain ⟨hjour, hcmds, hmem⟩ := hkept
  refine ⟨⟨answerEntry m code status body s, ?_, rfl, rfl, rfl, rfl, rfl, rfl, ?_⟩, fun hup => ?_, fun hdown => ?_, ?_,
    hmem⟩
  · rw [hjour]
    exact mem_trimJournal_append _ _ _
  · simp [answerEntry]
  · refine ⟨answerFrame m code status body s, ?_, rfl, rfl, rfl, ?_, rfl⟩
    · rw [hu, hresp, if_neg (by simp [hup])]
      exact mem_send_out _ _
    · simp only [answerFrame]
      omega
  · rw [hu, hresp, if_pos hdown]
    rfl
  · rw [hcmds]
    exact countP_eraseP_self _ _

/-! ### Writes of UCS_SVC (R295, R320) -/

theorem svcWrite_of_bad {s : State} {w : Word} (h : s.svcBad w = true) : s.svcWrite w = s.set F.UCS_STAT.CFG_REJ 1 :=
  if_pos h

theorem svcBad_of_twice {s : State} {w : Word} (h : ¬ (((svcOfWord w).filter (·.1)).map (·.2)).Nodup) :
    s.svcBad w = true := by
  simp only [State.svcBad, h, decide_false, Bool.not_false, Bool.true_or]

theorem svcBad_of_other_use {s : State} {w : Word} {t : Fin 64} (ht : t.val ∈ ((svcOfWord w).filter (·.1)).map (·.2))
    (hsvc : s.isSvc t = false) (hidle : s.thrState t ≠ thrIdle) (hhalt : s.thrState t ≠ thrHalted) :
    s.svcBad w = true := by
  refine Bool.or_eq_true_iff.2 (.inr (List.any_eq_true.2 ⟨t.val, ht, ?_⟩))
  have hthr : thr? t.val = some t := dif_pos t.isLt
  simp [hthr, hsvc, hidle, hhalt]

theorem serviceThreads : Claims.ServiceThreads := by
  intro rq w s hcan on
  exact ⟨next_if_pos _ _ hcan, fun h => svcWrite_of_bad (svcBad_of_twice h),
    fun t ht hsvc hidle hhalt => svcWrite_of_bad (svcBad_of_other_use ht hsvc hidle hhalt)⟩

/-- Settles O57: a frame by the rows of Table 11-4 in their order; dispatch by the choice of an executor for the first
unanswered command of the tag; a takeover by the writes of MSS_STAT and UCS_STAT; an answer by `respond`, which a service
thread's stop leaves as it is; UCS_SVC by its refusals. -/
theorem commandFramesAndOrder : Obligations.CommandFramesAndOrder :=
  ⟨framesReceived, frameChecks, commandsStartInOrder, takeovers, commandsAreAnswered, serviceThreads⟩

end Sys2Proof.Machine
end

section
/-!
A command of the catalogue in execution (R301, R314): it runs from the state in which it is outstanding and has started,
which differs from the one before in the list of outstanding commands alone; the units that its words name.
-/
namespace Sys2Proof.Machine

/-! ### What the start of a command leaves -/

/-- The outstanding commands once m has started. -/
def begunCmds (s : State) (m : Cmd) (code : Nat) : List OutCmd := (s.ucsBegin m code).cmds

theorem ucsBegin_eq (s : State) (m : Cmd) (code : Nat) : s.ucsBegin m code = { s with cmds := begunCmds s m code } := by
  simp only [begunCmds, State.ucsBegin]
  split <;> rfl

section
variable (s : State) (m : Cmd) (code : Nat)

/-- What a function of the state shows, where it does not look at the outstanding commands. -/
theorem ucsBegin_shows {α : Type} (f : State → α) (hf : ∀ l, f { s with cmds := l } = f s) :
    f (s.ucsBegin m code) = f s := ucsBegin_eq s m code ▸ hf _

@[simp] theorem ucsBegin_regs : (s.ucsBegin m code).regs = s.regs := ucsBegin_shows s m code State.regs fun _ => rfl
@[simp] theorem ucsBegin_upd : (s.ucsBegin m code).upd = s.upd := ucsBegin_shows s m code State.upd fun _ => rfl
@[simp] theorem ucsBegin_extents : (s.ucsBegin m code).extents = s.extents :=
  ucsBegin_shows s m code State.extents fun _ => rfl

@[simp] theorem ucsBegin_fresh : (s.ucsBegin m code).fresh.1 = s.fresh.1 :=
  ucsBegin_shows s m code (·.fresh.1) fun _ => rfl

@[simp] theorem ucsBegin_get (f : Fld) : (s.ucsBegin m code).get f = s.get f :=
  ucsBegin_shows s m code (·.get f) fun _ => rfl
@[simp] theorem ucsBegin_ready : (s.ucsBegin m code).ready = s.ready :=
  ucsBegin_shows s m code State.ready fun _ => rfl
@[simp] theorem ucsBegin_slow : (s.ucsBegin m code).slow = s.slow := ucsBegin_shows s m code State.slow fun _ => rfl
@[simp] theorem ucsBegin_core : (s.ucsBegin m code).core = s.core := ucsBegin_shows s m code State.core fun _ => rfl
@[simp] theorem ucsBegin_isSvc (t : Nat) : (s.ucsBegin m code).isSvc t = s.isSvc t :=
  ucsBegin_shows s m code (·.isSvc t) fun _ => rfl
@[simp] theorem ucsBegin_svcBad (w : Word) : (s.ucsBegin m code).svcBad w = s.svcBad w :=
  ucsBegin_shows s m code (·.svcBad w) fun _ => rfl
@[simp] theorem ucsBegin_clusterOff (n : Nat) : (s.ucsBegin m code).clusterOff n = s.clusterOff n :=
  ucsBegin_shows s m code (·.clusterOff n) fun _ => rfl
@[simp] theorem ucsBegin_noPair (t : Fin 64) : (s.ucsBegin m code).noPair t = s.noPair t :=
  ucsBegin_shows s m code (·.noPair t) fun _ => rfl
@[simp] theorem ucsBegin_thrLive (t : Fin 64) : (s.ucsBegin m code).thrLive t = s.thrLive t :=
  ucsBegin_shows s m code (·.thrLive t) fun _ => rfl
@[simp] theorem ucsBegin_opsOf (t : Fin 64) : (s.ucsBegin m code).opsOf t = s.opsOf t :=
  ucsBegin_shows s m code (·.opsOf t) fun _ => rfl
@[simp] theorem ucsBegin_free : (s.ucsBegin m code).free = s.free := ucsBegin_shows s m code State.free fun _ => rfl
@[simp] theorem ucsBegin_attach (p : Fin 8) : (s.ucsBegin m code).attach p = s.attach p :=
  ucsBegin_shows s m code (·.attach p) fun _ => rfl
@[simp] theorem ucsBegin_pdReqOut (p : Fin 8) : (s.ucsBegin m code).pdReqOut p = s.pdReqOut p :=
  ucsBegin_shows s m code (·.pdReqOut p) fun _ => rfl
@[simp] theorem ucsBegin_pdTerms (p : Fin 8) (n v i : Nat) : (s.ucsBegin m code).pdTerms p n v i = s.pdTerms p n v i :=
  ucsBegin_shows s m code (·.pdTerms p n v i) fun _ => rfl
@[simp] theorem ucsBegin_acBand (c : Fin 24) : (s.ucsBegin m code).acBand c = s.acBand c :=
  ucsBegin_shows s m code (·.acBand c) fun _ => rfl

@[simp] theorem ucsBegin_inExtent (a n : Nat) : (s.ucsBegin m code).inExtent a n = s.inExtent a n :=
  ucsBegin_shows s m code (·.inExtent a n) fun _ => rfl
@[simp] theorem ucsBegin_lowestSpan (n : Nat) : (s.ucsBegin m code).lowestSpan n = s.lowestSpan n :=
  ucsBegin_shows s m code (·.lowestSpan n) fun _ => rfl
@[simp] theorem ucsBegin_extentUsed (e : Nat × Nat) : (s.ucsBegin m code).extentUsed e = s.extentUsed e :=
  ucsBegin_shows s m code (·.extentUsed e) fun _ => rfl
@[simp] theorem ucsBegin_ueSpan (a n : Nat) : (s.ucsBegin m code).ueSpan a n = s.ueSpan a n :=
  ucsBegin_shows s m code (·.ueSpan a n) fun _ => rfl
@[simp] theorem ucsBegin_ldWord (a : Nat) : (s.ucsBegin m code).ldWord a = s.ldWord a :=
  ucsBegin_shows s m code (·.ldWord a) fun _ => rfl
@[simp] theorem ucsBegin_imageOk (a n : Nat) (l : List SegDesc) :
    (s.ucsBegin m code).imageOk a n l = s.imageOk a n l :=
  ucsBegin_shows s m code (·.imageOk a n l) fun _ => rfl
@[simp] theorem ucsBegin_sweepOk (a : Nat) : (s.ucsBegin m code).sweepOk a = s.sweepOk a :=
  ucsBegin_shows s m code (·.sweepOk a) fun _ => rfl
@[simp] theorem ucsBegin_ring? (n : Nat) : (s.ucsBegin m code).ring? n = s.ring? n :=
  ucsBegin_shows s m code (·.ring? n) fun _ => rfl
@[simp] theorem ucsBegin_ringNamed (n : Nat) : (s.ucsBegin m code).ringNamed n = s.ringNamed n :=
  ucsBegin_shows s m code (·.ringNamed n) fun _ => rfl
@[simp] theorem ucsBegin_bufFenced (a n : Nat) : (s.ucsBegin m code).bufFenced a n = s.bufFenced a n :=
  ucsBegin_shows s m code (·.bufFenced a n) fun _ => rfl

end

/-! ### A row of the catalogue -/

theorem tagIdle_any {m : Cmd} {s : State} (h : Claims.TagIdle m s) :
    s.cmds.any (fun c => c.names m && !c.orphan && c.started) = false := by
  simp only [List.any_eq_false, Bool.and_eq_true, Bool.not_eq_true']
  rintro c hc ⟨⟨hname, horphan⟩, hstarted⟩
  exact Bool.false_ne_true ((h c hc hname horphan).symm.trans hstarted)

/-- A command whose tag is idle runs from the state in which it has started. -/
theorem exec_row {m : Cmd} {s t : State} {i : Instr} {code : Nat} {g : State → State} (h : Claims.TagIdle m s)
    (hi : exec i s = .next (s.ucs m code g)) (hg : g (s.ucsBegin m code) = t) : exec i s = .next t := by
  rw [hi, ← hg]
  exact congrArg _ (if_neg (Bool.eq_false_iff.1 (tagIdle_any h)))

/-! ### The units that a command's words name -/

theorem toNat_ofNat_of_lt {k : Nat} (hk : k < 2 ^ 32) : (BitVec.ofNat 32 k).toNat = k := Nat.mod_eq_of_lt hk

theorem chan?_ofNat (c : Fin 24) : chan? (BitVec.ofNat 32 c).toNat = some c := by
  rw [toNat_ofNat_of_lt (by omega)]
  exact dif_pos c.isLt

theorem port?_ofNat (p : Fin 8) : port? (BitVec.ofNat 32 p).toNat = some p := by
  rw [toNat_ofNat_of_lt (by omega)]
  exact dif_pos p.isLt

theorem thr?_ofNat (t : Fin 64) : thr? (BitVec.ofNat 32 t).toNat = some t := by
  rw [toNat_ofNat_of_lt (by omega)]
  exact dif_pos t.isLt

section
variable {b : State} {m : Cmd} {code : Nat} {a : Word}

theorem ucsCh_of_channel (c : Fin 24) {f : Fin 24 → State} : b.ucsCh m code (BitVec.ofNat 32 c) f = f c := by
  simp only [State.ucsCh, chan?_ofNat]

theorem ucsCh_of_none (h : 24 ≤ a.toNat) {f : Fin 24 → State} : b.ucsCh m code a f = b.ucsBad m code := by
  simp only [State.ucsCh, chan?, Nat.not_lt.2 h, dite_false]

theorem ucsChOp_posts (c : Fin 24) {ok : Bool} {k : OpKind} (h : ok = true) :
    b.ucsChOp m code (BitVec.ofNat 32 c) ok k = b.ucsPost m (.chan c) k := (ucsCh_of_channel c).trans (if_pos h)

theorem ucsChOp_refused (c : Fin 24) {ok : Bool} {k : OpKind} (h : ok = false) :
    b.ucsChOp m code (BitVec.ofNat 32 c) ok k = b.ucsBad m code :=
  (ucsCh_of_channel c).trans (if_neg (Bool.eq_false_iff.1 h))

theorem ucsPort_of_port (p : Fin 8) {f : Fin 8 → State} : b.ucsPort m code (BitVec.ofNat 32 p) f = f p := by
  simp only [State.ucsPort, port?_ofNat]

theorem ucsPort_of_none (h : 8 ≤ a.toNat) {f : Fin 8 → State} : b.ucsPort m code a f = b.ucsBad m code := by
  simp only [State.ucsPort, port?, Nat.not_lt.2 h, dite_false]

theorem ucsThr_of_none (h : 64 ≤ a.toNat) {f : Fin 64 → State} : b.ucsThr m code a f = b.ucsBad m code := by
  simp only [State.ucsThr, thr?, Nat.not_lt.2 h, dite_false]

theorem ucsThr_of_service (t : Fin 64) (h : b.isSvc t = true) {f : Fin 64 → State} :
    b.ucsThr m code (BitVec.ofNat 32 t) f = b.finish m code stDenied [] := by
  simp only [State.ucsThr, thr?_ofNat, h, if_true]

theorem ucsThr_of_thread (t : Fin 64) (h : b.isSvc t = false) {f : Fin 64 → State} :
    b.ucsThr m code (BitVec.ofNat 32 t) f = f t := by
  simp only [State.ucsThr, thr?_ofNat, h, Bool.false_eq_true, if_false]

theorem ucsRing_of_none (h : b.ring? a.toNat = none) {f : Ring → State} : b.ucsRing m code a f = b.ucsBad m code := by
  simp only [State.ucsRing, h]

theorem ucsRing_of_ring {r : Ring} (h : b.ring? a.toNat = some r) {f : Ring → State} : b.ucsRing m code a f = f r := by
  simp only [State.ucsRing, h]

/-! ### Commands that several rows share -/

/-- The words of a command that writes configuration registers are refused. -/
theorem ucsCfg_refused {addr k : Nat} {l : List Word} (h : l = [] ∨ k < l.length ∨ cfgOk addr l = false) :
    b.ucsCfg m code addr k l = b.ucsBad m code := by
  refine if_pos ?_
  simpa [or_assoc] using h

theorem ucsCfg_writes {addr k : Nat} {l : List Word} (hne : l ≠ []) (hlen : l.length ≤ k) (hok : cfgOk addr l = true) :
    b.ucsCfg m code addr k l = (b.writeRegs m.rq addr l).finish m code stOk [] := by
  refine if_neg ?_
  simp [hne, hok, hlen]

variable {k : Fin 25} {n v w : Word}

theorem uPreset_refused (h : 4 < n.toNat ∨ v = 0 ∨ 40 < v.toNat ∨ w = 0 ∨ 1000000 < w.toNat) :
    b.uPreset m code k n v w = b.ucsBad m code := by
  refine if_pos ?_
  simp only [Bool.or_eq_true, decide_eq_true_eq]
  rcases h with h | h | h | h | h <;> simp [h]

theorem uPreset_loads (hn : n.toNat ≤ 4) (hv : v ≠ 0) (hv' : v.toNat ≤ 40) (hw : w ≠ 0) (hw' : w.toNat ≤ 1000000)
    (hover : (presetOf n.toNat).1.getD 4 0 * 100 * v.toNat ≤ 6000000) :
    b.uPreset m code k n v w = ((((b.set (F.CG_CFG.CHEM k) n.toNat).set (F.CG_CFG.NCELL k) v.toNat).set (F.CG_CAP.CAP k)
      w.toNat).loadPreset k).ucsRead m code [R.CG_STAT k] := by
  have hv0 : v.toNat ≠ 0 := fun h => hv (BitVec.eq_of_toNat_eq h)
  refine if_neg ?_
  simp only [Bool.or_eq_true, decide_eq_true_eq, not_or, Nat.not_lt]
  exact ⟨⟨⟨⟨⟨hn, hv0⟩, hv'⟩, hw⟩, hw'⟩, hover⟩

end

end Sys2Proof.Machine
end

section
/-!
Commands of session and identity, and of channels (Tables 11-9 and 11-10).
-/
namespace Sys2Proof.Machine
open Claims

/-! ### Session and identity (Table 11-9, R304, R310) -/

section
variable {b : State} {m : Cmd} {w : Word}

theorem uAbort_of_none (h : ∀ c ∈ b.cmds,
    c.names { rq := m.rq, tag := BitVec.ofNat 16 w.toNat } = true → c.orphan = true) :
    b.uAbort m w = b.ucsBad m 0x0005 := by
  have hnone : b.cmds.find? (fun c => c.names { rq := m.rq, tag := BitVec.ofNat 16 w.toNat } && !c.orphan) = none := by
    simpa using h
  simp only [State.uAbort, hnone, ite_self]

theorem uAbort_of_wide_tag (h : 65536 ≤ w.toNat) : b.uAbort m w = b.ucsBad m 0x0005 := by
  simp only [State.uAbort, Nat.not_lt.2 h, if_false]

/-- The command that the tag names is refused the abort once it has started, and answered ABORTED before. -/
theorem uAbort_of_command {c : OutCmd} (hw : w.toNat < 65536)
    (h : b.cmds.find? (fun c => c.names { rq := m.rq, tag := BitVec.ofNat 16 w.toNat } && !c.orphan) = some c) :
    b.uAbort m w = if c.started then b.finish m 0x0005 stDenied []
      else (b.respondSt { rq := m.rq, tag := BitVec.ofNat 16 w.toNat } c.code stAborted).finish m 0x0005 stOk [] := by
  simp only [State.uAbort, hw, if_true, h]

end

/-- The word of STATE on the service threads: bit i where the thread of field i serves and is available. -/
def svcAvailable (b : State) : Word :=
  nw ((List.range 4).foldl (fun n i =>
    n + b2n ((b.svcFields.getD i (false, 0)).1 && b.svcUp (b.svcFields.getD i (false, 0)).2) * 2 ^ i) 0)

theorem uState_eq (b : State) (m : Cmd) : b.uState m = b.finish m 0x0002 stOk
    [nw (b2n b.ready), nw (b2n b.slow), nw b.core, svcAvailable b, nw (b.outstandingOf m.rq)] := rfl

theorem sessionCommands : SessionCommands := by
  intro m w s _ h b t
  refine ⟨exec_row h rfl rfl, exec_row h rfl rfl, ?state, fun hw => exec_row h rfl (if_pos hw),
    fun hw => exec_row h rfl (if_neg (Nat.not_lt.2 hw)), fun hw => exec_row h rfl (uAbort_of_wide_tag hw),
    fun hn => exec_row h rfl (uAbort_of_none hn), fun hw c hc => ?abort⟩
  case state =>
    refine ⟨svcAvailable (b 0x0002), exec_row h rfl ?_⟩
    simp only [uState_eq, b, ucsBegin_ready, ucsBegin_slow, ucsBegin_core]
    rfl
  case abort =>
    have habort := uAbort_of_command hw hc
    exact ⟨fun hs => exec_row h rfl (habort.trans (if_pos hs)),
      fun hs => exec_row h rfl (habort.trans (if_neg (Bool.eq_false_iff.1 hs)))⟩

/-! ### Channels (Table 11-10, R240 to R243, R313, R448) -/

theorem uChOff_refused {b : State} {m : Cmd} {a : Word} (h : a = 0 ∨ 0x1000000 ≤ a.toNat) :
    b.uChOff m a = b.ucsBad m 0x0106 := by
  refine if_pos ?_
  simpa using h

theorem uChOff_slow {b : State} {m : Cmd} {a : Word} (hne : a ≠ 0) (hlt : a.toNat < 0x1000000) (hslow : b.slow = true) :
    b.uChOff m a = (b.offEach a).finish m 0x0106 stOk [] := by
  refine (if_neg ?_).trans (if_pos hslow)
  simpa [hlt] using hne

theorem channelCommands : ChannelCommands := by
  intro m c p a v w s _ h ch clr
  refine ⟨fun hp => exec_row h rfl (ucsChOp_posts c (decide_eq_true hp)),
    fun hp => exec_row h rfl (ucsChOp_refused c (decide_eq_false (Nat.not_le.2 hp))),
    fun hp => exec_row h rfl (ucsChOp_posts c (decide_eq_true hp)),
    fun hp => exec_row h rfl (ucsChOp_refused c (decide_eq_false (Nat.not_le.2 hp))),
    fun ha => exec_row h rfl (ucsChOp_posts c (decide_eq_true ha)),
    fun ha => exec_row h rfl (ucsChOp_refused c (decide_eq_false (Nat.not_lt.2 ha))),
    fun ha => exec_row h rfl (ucsChOp_posts c (decide_eq_true ha)),
    fun ha => exec_row h rfl (ucsChOp_refused c (decide_eq_false (Nat.not_lt.2 ha))),
    exec_row h rfl (ucsCh_of_channel c), exec_row h rfl (ucsCh_of_channel c), fun ha => exec_row h rfl (uChOff_refused ha),
    fun hne hlt hslow => exec_row h rfl (uChOff_slow hne hlt (by rwa [ucsBegin_slow])), exec_row h rfl (ucsCh_of_channel c),
    fun ha => ⟨exec_row h rfl (ucsCh_of_none ha), exec_row h rfl (ucsCh_of_none ha), exec_row h rfl (ucsCh_of_none ha),
      exec_row h rfl (ucsCh_of_none ha), exec_row h rfl (ucsCh_of_none ha), exec_row h rfl (ucsCh_of_none ha),
      exec_row h rfl (ucsCh_of_none ha)⟩⟩

/-! ### Tables and the library (Tables 11-11 and 11-12) -/

section
variable {b : State} {m : Cmd} {a n w : Word}

/-- The bytes of an extent for n bytes: the next multiple of 64. -/
def extentSize (n : Word) : Nat := (n.toNat + 63) / 64 * 64

theorem uTblAlloc_refused (h : n = 0 ∨ 12582912 < n.toNat ∨ (w ≠ 16 ∧ w ≠ 64)) :
    b.uTblAlloc m n w = b.ucsBad m 0x0200 := by
  refine if_pos ?_
  simpa [or_assoc] using h

section
variable (hne : n ≠ 0) (hmax : n.toNat ≤ 12582912) (hw : w = 16 ∨ w = 64)
include hne hmax hw

theorem tblAlloc_words_stand : (n = 0 || 12582912 < n.toNat || (w ≠ 16 && w ≠ 64) : Bool) = false := by
  have hn : ¬ n = 0#32 := hne
  rcases hw with rfl | rfl <;> simp [hmax, hn]

theorem uTblAlloc_full (hspan : b.lowestSpan (extentSize n) = none) :
    b.uTblAlloc m n w = b.finish m 0x0200 stNoRes [] := by
  rw [extentSize] at hspan
  refine (if_neg (Bool.eq_false_iff.1 (tblAlloc_words_stand hne hmax hw))).trans ?_
  simp only [hspan]

theorem uTblAlloc_allocates {x : Nat} (hspan : b.lowestSpan (extentSize n) = some x) : b.uTblAlloc m n w =
    State.finish { b with extents := b.extents ++ [(x, extentSize n)] } m 0x0200 stOk [nw x] := by
  rw [extentSize] at hspan
  refine (if_neg (Bool.eq_false_iff.1 (tblAlloc_words_stand hne hmax hw))).trans ?_
  simp only [hspan, extentSize]

end

theorem uTblFree_of_none (h : (b.extents.find? fun e => e.1 == a.toNat) = none) :
    b.uTblFree m a = b.ucsBad m 0x0201 := by
  simp only [State.uTblFree, h]

theorem uTblFree_of_extent {e : Nat × Nat} (h : (b.extents.find? fun e => e.1 == a.toNat) = some e) :
    b.uTblFree m a = if b.extentUsed e then b.finish m 0x0201 stDenied []
      else State.finish { b with extents := b.extents.filter fun x => x.1 != e.1 } m 0x0201 stOk [] := by
  simp only [State.uTblFree, h]

variable {data : List Word}

theorem uTblWrite_outside (h : b.inExtent a.toNat (4 * data.length) = none) :
    b.uTblWrite m a data = b.ucsBad m 0x0202 := by
  simp only [State.uTblWrite, h]

theorem uTblWrite_stores (h : (b.inExtent a.toNat (4 * data.length)).isSome = true) :
    b.uTblWrite m a data = (b.stWords a.toNat data).finish m 0x0202 stOk [] := by
  obtain ⟨e, he⟩ := Option.isSome_iff_exists.1 h
  simp only [State.uTblWrite, he]

theorem ucsBytes_of_no_error {code x len : Nat} (h : b.ueSpan x len = none) :
    b.ucsBytes m code x len = b.finish m code stOk (bytesWords (len / 4) (b.loadBytes x len)) := by
  simp only [State.ucsBytes, h]

theorem uTblRead_refused (h : readLen n.toNat = false ∨ b.inExtent a.toNat n.toNat = none) :
    b.uTblRead m a n = b.ucsBad m 0x0203 := by
  refine if_neg ?_
  rcases h with h | h <;> simp [h]

theorem uTblRead_reads (hlen : readLen n.toNat = true) (hin : (b.inExtent a.toNat n.toNat).isSome = true)
    (hue : b.ueSpan a.toNat n.toNat = none) : b.uTblRead m a n =
      b.finish m 0x0203 stOk (bytesWords (n.toNat / 4) (b.loadBytes a.toNat n.toNat)) :=
  (if_pos (by rw [hlen, hin]; rfl)).trans (ucsBytes_of_no_error hue)

theorem uLibLoad_refused (h : (Config.libDir b.upd.lib).find? (fun e => e.1 == n.toNat) = none ∨
    b.inExtent a.toNat 0 = none) : b.uLibLoad m n a = b.ucsBad m 0x0300 := by
  simp only [State.uLibLoad]
  split
  · rename_i hdir hext
    rcases h with h | h
    · simp [h] at hdir
    · simp [h] at hext
  · rfl

theorem uLibLoad_loads {d : Nat × Nat × Nat × Nat} {x : Nat × Nat}
    (hdir : (Config.libDir b.upd.lib).find? (fun e => e.1 == n.toNat) = some d) (hext : b.inExtent a.toNat 0 = some x)
    (hfits : a.toNat + d.2.2.2 ≤ x.1 + x.2) : b.uLibLoad m n a =
      (b.stBytes a.toNat ((b.upd.lib.drop d.2.2.1).take d.2.2.2)).finish m 0x0300 stOk [nw d.2.2.2] := by
  simp only [State.uLibLoad, hdir, hext, Nat.not_lt.2 hfits, if_false]

/-! ### Battery model (Table 11-12, R134) -/

variable {q v1 v2 h : BitVec 64} (c : Fin 24)

theorem uBmSet_refused (hbad : 0x7F < n.toNat ∨ (bitOf n 0 = true ∧ (bitOf n 1 = true ∨ 1000000 < w.toNat))) :
    b.uBmSet m (BitVec.ofNat 32 c) n w q v1 v2 h = b.ucsBad m 0x0303 := by
  refine (ucsCh_of_channel c).trans (if_pos ?_)
  simp only [Bool.or_eq_true, Bool.and_eq_true, decide_eq_true_eq]
  exact hbad.imp_right fun ⟨hsoc, hwhy⟩ => ⟨hsoc, .inl hwhy⟩

/-- The mask of the four 64-bit state fields. -/
theorem uBmSet_fields : b.uBmSet m (BitVec.ofNat 32 c) 0x1E w q v1 v2 h =
    ([BmWrite.field .q q.toInt, .field .v1 v1.toInt, .field .v2 v2.toInt, .field .h h.toInt].foldl
      (fun s w => s.bmWrite c w) b).finish m 0x0303 stOk [] :=
  ucsCh_of_channel c

end

theorem tableCommands : TableCommands := by
  intro m c a n v w x q v1 v2 k data s _ h ch size ext
  refine ⟨fun hbad => exec_row h rfl (uTblAlloc_refused hbad), fun hne hmax hw =>
      ⟨fun hspan => ?full, fun b hspan => ?alloc⟩,
    fun hext => exec_row h rfl (uTblFree_of_none (by rwa [ucsBegin_extents])), fun e hext => ?free,
    fun hin => exec_row h rfl (uTblWrite_outside (by rwa [ucsBegin_inExtent])),
    fun hin => exec_row h rfl (uTblWrite_stores (by rwa [ucsBegin_inExtent])),
    fun hbad => exec_row h rfl (uTblRead_refused (by rwa [ucsBegin_inExtent])),
    fun hlen hin hue => exec_row h rfl (uTblRead_reads hlen (by rwa [ucsBegin_inExtent]) (by rwa [ucsBegin_ueSpan])),
    ⟨fun hbad => exec_row h rfl (uLibLoad_refused (by rwa [ucsBegin_upd, ucsBegin_inExtent])),
      fun d x hdir hext hfits => ?load⟩,
    ?list, exec_row h rfl (ucsCh_of_channel c), fun hbad => exec_row h rfl (uBmSet_refused c hbad),
    exec_row h rfl (uBmSet_fields c),
    fun hbad => exec_row h rfl ((ucsCh_of_channel c).trans (uPreset_refused hbad)),
    fun hn hv hv' hw hw' hover => exec_row h rfl ((ucsCh_of_channel c).trans (uPreset_loads hn hv hv' hw hw' hover)),
    exec_row h rfl (ucsCh_of_channel c), exec_row h rfl (ucsCh_of_channel c),
    fun hx => ⟨exec_row h rfl (ucsCh_of_none hx), exec_row h rfl (ucsCh_of_none hx), exec_row h rfl (ucsCh_of_none hx),
      exec_row h rfl (ucsCh_of_none hx), exec_row h rfl (ucsCh_of_none hx)⟩⟩
  case full => exact exec_row h rfl (uTblAlloc_full hne hmax hw (by rwa [ucsBegin_lowestSpan]))
  case alloc => exact exec_row h rfl (uTblAlloc_allocates hne hmax hw (by rwa [ucsBegin_lowestSpan]))
  case free =>
    have hfree := uTblFree_of_extent (b := s.ucsBegin m 0x0201) (m := m) (a := a) (by rwa [ucsBegin_extents])
    rw [ucsBegin_extentUsed] at hfree
    exact ⟨fun hu => exec_row h rfl (hfree.trans (if_pos hu)),
      fun hu => exec_row h rfl (hfree.trans (if_neg (Bool.eq_false_iff.1 hu)))⟩
  case load =>
    exact exec_row h rfl (uLibLoad_loads (by rwa [ucsBegin_upd]) (by rwa [ucsBegin_inExtent]) hfits)
  case list =>
    refine exec_row h rfl ?_
    simp only [State.uLibList, ucsBegin_upd]
    rfl

end Sys2Proof.Machine
end

section
/-!
Generated profiles (R122, R315), and the obligation about the commands of session, channels, tables, the battery model
and the chargers.
-/
namespace Sys2Proof.Machine
open Claims

/-! ### The points of a sine (R122) -/

section
variable (w : Sine) (rate n k r : Nat)

theorem sine_value_bounds (h : w.pp ≤ 2 * w.dc) :
    w.dc - w.pp / 2 ≤ w.value rate n k r ∧ w.value rate n k r ≤ w.dc + w.pp / 2 := by
  simp only [Sine.value]
  split
  · omega
  · have hmod := Nat.mod_lt r (show 0 < 2 * (w.pp / 2) + 1 by omega)
    omega

theorem sineGapMax_of_frequency {f : Nat} (hf : 0 < f) : sineGapMax rate f n = max 1 (rate * 1000 / (f * 16)) :=
  if_neg (by omega)

theorem one_le_sine_gap : 1 ≤ w.gap rate n k r := by
  simp only [Sine.gap]
  split <;> omega

/-- At one frequency both bounds of a gap are the same. -/
theorem sine_gap_of_one_frequency (h : w.f0 = w.f1) : w.gap rate n k r = 1 + r % sineGapMax rate w.f0 n := by
  simp only [Sine.gap, ← h, Nat.min_self, Nat.max_self, ite_self]

theorem sine_gap_within_sixteenth (h : w.f0 = w.f1) (hf : 0 < w.f0) :
    w.gap rate n k r = 1 ∨ 16 * w.f0 * w.gap rate n k r ≤ 1000 * rate := by
  rw [sine_gap_of_one_frequency w rate n k r h, sineGapMax_of_frequency rate n hf]
  by_cases hone : rate * 1000 / (w.f0 * 16) ≤ 1
  · exact .inl (by rw [Nat.max_eq_left hone, Nat.mod_one])
  · right
    have hmax : max 1 (rate * 1000 / (w.f0 * 16)) = rate * 1000 / (w.f0 * 16) := Nat.max_eq_right (by omega)
    have hgap : 1 + r % (rate * 1000 / (w.f0 * 16)) ≤ rate * 1000 / (w.f0 * 16) := by
      have hmod := Nat.mod_lt r (show 0 < rate * 1000 / (w.f0 * 16) by omega)
      omega
    rw [hmax]
    calc 16 * w.f0 * (1 + r % (rate * 1000 / (w.f0 * 16)))
        ≤ 16 * w.f0 * (rate * 1000 / (w.f0 * 16)) := Nat.mul_le_mul_left _ hgap
      _ = w.f0 * 16 * (rate * 1000 / (w.f0 * 16)) := by rw [Nat.mul_comm 16]
      _ ≤ rate * 1000 := Nat.mul_div_le _ _
      _ = 1000 * rate := Nat.mul_comm _ _

end

theorem sinePoints : SinePoints := by
  intro w rate n k r h
  obtain ⟨hlo, hhi⟩ := sine_value_bounds w rate n k r h
  exact ⟨hlo, hhi, one_le_sine_gap w rate n k r, sine_gap_within_sixteenth w rate n k r⟩

/-! ### Generated profiles (R122, R315) -/

/-- The segments of kind 1: down, the dip, up again. -/
def dipSegs (vn vd td te : Nat) : List Seg := [⟨te, vd, none⟩, ⟨td, vd, none⟩, ⟨te, vn, none⟩]

section
variable {vn vd td te r : Nat}

theorem dipSegs_not_short (htd : 1000000 ≤ td * r) (hte : 1000000 ≤ te * r) :
    (dipSegs vn vd td te).any (fun g => decide (g.dur * (r : Rat) < 1000000)) = false := by
  have htd' : (1000000 : Rat) ≤ td * r := by exact_mod_cast htd
  have hte' : (1000000 : Rat) ≤ te * r := by exact_mod_cast hte
  simp only [dipSegs, List.any_cons, List.any_nil, Rat.not_lt.2 htd', Rat.not_lt.2 hte', decide_false, Bool.or_self]

theorem dipSegs_not_long (h : (td + 2 * te) * r ≤ 2147483647 * 1000000) :
    ¬ (2147483647 * 1000000 : Rat) < (dipSegs vn vd td te).foldl (fun t g => t + g.dur) 0 * (r : Rat) := by
  have hsum : 0 + te + td + te = td + 2 * te := by omega
  rw [← hsum] at h
  have h' : ((0 : Rat) + te + td + te) * r ≤ 2147483647 * 1000000 := by exact_mod_cast h
  simp only [dipSegs, List.foldl_cons, List.foldl_nil]
  exact Rat.not_lt.2 h'

end

section
variable {b : State} {m : Cmd} {a kind rate start : Word} (c : Fin 24)

theorem uProfGen_refused {params : List Word} (h : rate.toNat = 0 ∨ 125000000 < rate.toNat ∨ a.toNat % 16 ≠ 0 ∨
    profParamsOk (b.acBand c) kind.toNat (params.map (·.toNat)) = false) :
    b.uProfGen m a (BitVec.ofNat 32 c) kind rate start 0 params = b.ucsBad m 0x0204 := by
  refine (ucsCh_of_channel c).trans (if_pos ?_)
  simp only [Bool.or_eq_true, decide_eq_true_eq, Bool.not_eq_true']
  rcases h with h | h | h | h <;> simp [h]

variable {vn vd td te : Word}

/-- The points of a dip. -/
def dipPoints (rate vn vd td te : Word) : List (Nat × Nat) :=
  (0, vn.toNat) :: segPts [rate, 1, vn, vd, td, te] rate.toNat 0 0 (dipSegs vn.toNat vd.toNat td.toNat te.toNat)

theorem dipPoints_length : (dipPoints rate vn vd td te).length = 4 := rfl

/-- The profile of a dip goes into its extent, where that has room for it. -/
def dipStored (b : State) (m : Cmd) (a rate start vn vd td te : Word) : State :=
  match b.inExtent a.toNat 0 with
  | none => b.ucsBad m 0x0204
  | some e =>
    if e.1 + e.2 < a.toNat + 0x30 then b.finish m 0x0204 stNoRes [0x30]
    else (b.stWords a.toNat ([0, 4, start, 0] ++ (dipPoints rate vn vd td te).flatMap fun x => [nw x.1, nw x.2])).finish
      m 0x0204 stOk [4, 0x30]

theorem dipStored_outside (h : b.inExtent a.toNat 0 = none) :
    dipStored b m a rate start vn vd td te = b.ucsBad m 0x0204 := by
  simp only [dipStored, h]

theorem dipStored_within {e : Nat × Nat} (h : b.inExtent a.toNat 0 = some e) (hfits : a.toNat + 0x30 ≤ e.1 + e.2) :
    dipStored b m a rate start vn vd td te =
      (b.stWords a.toNat ([0, 4, start, 0] ++ (dipPoints rate vn vd td te).flatMap fun x => [nw x.1, nw x.2])).finish
        m 0x0204 stOk [4, 0x30] := by
  simp only [dipStored, h, Nat.not_lt.2 hfits, if_false]

section
variable (hr : 0 < rate.toNat) (hr' : rate.toNat ≤ 125000000) (ha : a.toNat % 16 = 0)
  (hvn : vn.toNat ≤ 6000000) (hvd : vd.toNat ≤ 6000000) (htd : 1000000 ≤ td.toNat * rate.toNat)
  (hte : 1000000 ≤ te.toNat * rate.toNat) (hlong : (td.toNat + 2 * te.toNat) * rate.toNat ≤ 2147483647 * 1000000)
include hr hr' ha hvn hvd htd hte hlong

theorem uProfGen_dip : b.uProfGen m a (BitVec.ofNat 32 c) 1 rate start 0 [vn, vd, td, te] =
    dipStored b m a rate start vn vd td te := by
  have hparams : profParamsOk (b.acBand c) 1 [vn.toNat, vd.toNat, td.toNat, te.toNat] = true := by
    simp [profParamsOk, hvn, hvd]
  have hshort := dipSegs_not_short (vn := vn.toNat) (vd := vd.toNat) htd hte
  have hlong' := dipSegs_not_long (vn := vn.toNat) (vd := vd.toNat) hlong
  have hlow : bitsOf (0 : Word) 1 0 = 0 := by decide
  have hhigh : bitsOf (0 : Word) 3 2 = 0 := by decide
  have hfew : ¬ 65536 < (dipPoints rate vn vd td te).length := by
    rw [dipPoints_length]
    decide
  refine (ucsCh_of_channel c).trans ((if_neg ?words).trans ((if_neg ?kind).trans ((if_neg ?times).trans
    ((if_neg hfew).trans rfl))))
  case words =>
    change ¬ (_ || !profParamsOk (b.acBand c) 1 [vn.toNat, vd.toNat, td.toNat, te.toNat]) = true
    simp only [hparams, hlow, hhigh, ha, Nat.ne_of_gt hr, Nat.not_lt.2 hr', decide_false]
    decide
  case kind => simp
  case times =>
    change ¬ ((dipSegs vn.toNat vd.toNat td.toNat te.toNat).any _ || _) = true
    rw [hshort]
    simp only [Bool.false_or, decide_eq_true_eq]
    exact hlong'

end

end

theorem profilesGenerated : ProfilesGenerated := by
  intro m c a kind rate start vn vd td te params s _ h ch r gen pts
  refine ⟨fun hbad => exec_row h rfl (uProfGen_refused c (by rwa [ucsBegin_acBand])), ?_⟩
  intro hkind hr hr' ha hvn hvd htd hte hlong
  subst hkind
  have hdip : ∀ b : State, b.uProfGen m a ch 1 rate start 0 [vn, vd, td, te] = dipStored b m a rate start vn vd td te :=
    fun b => uProfGen_dip c hr hr' ha hvn hvd htd hte hlong
  refine ⟨dipPoints_length, fun hext => exec_row h rfl ((hdip _).trans (dipStored_outside (by rwa [ucsBegin_inExtent]))),
    fun e hext hfits => exec_row h rfl ((hdip _).trans (dipStored_within (by rwa [ucsBegin_inExtent]) hfits))⟩

/-- Settles O58: each row of the catalogue runs from the state in which its command has started, so a clause is the branch
of the row's function that its condition takes; a generated dip by its four points, a sine by its clamp and its gap. -/
theorem commandsOnChannelsAndTables : Obligations.CommandsOnChannelsAndTables :=
  ⟨sessionCommands, channelCommands, tableCommands, profilesGenerated, sinePoints⟩

end Sys2Proof.Machine
end

section
/-!
Commands of measurement, sweeps and rings (Table 11-13).
-/
namespace Sys2Proof.Machine
open Claims

/-! ### Rings (R316, R420) -/

section
variable {b : State} {m : Cmd} {a n v : Word}

theorem uRingAlloc_refused (h : ringGeom n.toNat v.toNat = false ∨ (a ≠ 0xFFFFFFFF ∧ 4096 ≤ a.toNat)) :
    b.uRingAlloc m a n v = b.ucsBad m 0x0410 := by
  refine if_pos ?_
  simpa using h

theorem ring_number_named (ha : a.toNat < 4096) : (a == 0xFFFFFFFF) = false := by
  rw [beq_eq_false_iff_ne]
  rintro rfl
  exact absurd ha (by decide)

section
variable (hgeom : ringGeom n.toNat v.toNat = true) (ha : a.toNat < 4096)
include hgeom ha

theorem uRingAlloc_denied (hring : (b.ring? a.toNat).isSome = true) :
    b.uRingAlloc m a n v = b.finish m 0x0410 stDenied [] := by
  simp only [State.uRingAlloc, ring_number_named ha, hgeom, hring, Nat.not_le.2 ha, decide_false, Bool.not_true,
    Bool.not_false, Bool.and_false, Bool.or_self, Bool.and_self, Bool.false_eq_true, if_false, if_true]

theorem uRingAlloc_allocates (hring : b.ring? a.toNat = none) {x : Nat}
    (hbase : b.fresh.2.ringBase (n.toNat * v.toNat) b.fresh.1 16384 = some x) :
    b.uRingAlloc m a n v = State.finish { b.fresh.2 with rings := b.rings ++
      [{ num := a.toNat, base := x, size := n.toNat, slots := v.toNat }] } m 0x0410 stOk [nw a.toNat, nw x] := by
  have hbase' : State.ringBase { b with freeCtr := b.freeCtr + 1 } (n.toNat * v.toNat) (Config.freeValue b.freeCtr) 16384 =
      some x := hbase
  simp only [State.uRingAlloc, ring_number_named ha, hgeom, hring, Nat.not_le.2 ha, State.fresh, hbase',
    Option.isSome_none, decide_false, Bool.not_true, Bool.not_false, Bool.and_false, Bool.or_self, Bool.false_eq_true,
    if_false]

end

section
variable {r : Ring} (hr : b.ring? a.toNat = some r)
include hr

theorem uRingFree_frees (hsub : r.sub = none) (hnamed : b.ringNamed r.num = false) : b.uRingFree m a =
    State.finish { b with rings := b.rings.filter fun x => x.num != r.num } m 0x0411 stOk [] :=
  (ucsRing_of_ring hr).trans (if_neg (by simp [hsub, hnamed]))

theorem uRingFree_denied (h : r.sub.isSome = true ∨ b.ringNamed r.num = true) :
    b.uRingFree m a = b.finish m 0x0411 stDenied [] :=
  (ucsRing_of_ring hr).trans (if_pos (by rwa [Bool.or_eq_true]))

theorem uRingRead_fenced (hbuf : b.bufFenced r.base (r.slots * r.size) = true) :
    b.uRingRead m a n = b.finish m 0x0412 stFenced [] := (ucsRing_of_ring hr).trans (if_pos hbuf)

section
variable (hbuf : b.bufFenced r.base (r.slots * r.size) = false)
include hbuf

theorem uRingRead_subscribed (hsub : r.sub.isSome = true) : b.uRingRead m a n = b.finish m 0x0412 stDenied [] :=
  (ucsRing_of_ring hr).trans ((if_neg (Bool.eq_false_iff.1 hbuf)).trans (if_pos hsub))

variable (hsub : r.sub = none)
include hsub

theorem uRingRead_empty (hfill : r.fill = 0) : b.uRingRead m a n = b.finish m 0x0412 stNotReady [] :=
  (ucsRing_of_ring hr).trans
    ((if_neg (Bool.eq_false_iff.1 hbuf)).trans ((if_neg (by simp [hsub])).trans (if_pos hfill)))

/-- The slots that a read takes: what is asked for, what an answer holds, what the ring holds. -/
def slotsRead (r : Ring) (n : Word) : Nat := min (min n.toNat (4088 / r.size)) r.fill

theorem uRingRead_reads (hfill : r.fill ≠ 0) : b.uRingRead m a n =
    (b.modRing r.num fun r' => { r' with head := (r'.head + slotsRead r n) % 2 ^ 32 }).finish m 0x0412 stOk
      (nw (slotsRead r n) ::
        (List.range (slotsRead r n)).flatMap fun i => b.ldWords (r.slot (r.head + i)) (r.size / 4)) :=
  (ucsRing_of_ring hr).trans
    ((if_neg (Bool.eq_false_iff.1 hbuf)).trans ((if_neg (by simp [hsub])).trans (if_neg hfill)))

end

theorem uRingSub_not_session (hrq : ¬ ∃ i, m.rq = .session i) (hn : n.toNat < 65536) :
    b.uRingSub m a n = b.finish m 0x0414 stDenied [] := by
  refine (ucsRing_of_ring hr).trans ((if_neg (Nat.not_le.2 hn)).trans (if_pos ?_))
  cases hm : m.rq <;> simp_all

theorem uRingSub_subscribes (hrq : ∃ i, m.rq = .session i) (hsub : r.sub = none) (hne : n ≠ 0) (hn : n.toNat < 65536) :
    b.uRingSub m a n = (b.modRing r.num fun r =>
      { r with sub := some (m.rq, n.toNat), sent := if r.sub.isSome then r.sent else r.head }).finish m 0x0414 stOk [] := by
  obtain ⟨i, hi⟩ := hrq
  refine (ucsRing_of_ring hr).trans ((if_neg (Nat.not_le.2 hn)).trans ((if_neg ?_).trans (if_neg hne)))
  simp [hsub, hi]

end

end

/-! ### The rows of Table 11-13 -/

section
variable {b : State} {m : Cmd} {a n v w : Word} (c : Fin 24)

theorem uWin_other_op (h : 3 < a.toNat) : b.uWin m (BitVec.ofNat 32 c) a n w = b.ucsBad m 0x0401 := by
  obtain ⟨k, hk⟩ := Nat.exists_eq_add_of_lt h
  have hop : a.toNat = k + 4 := by omega
  simp only [State.uWin, ucsCh_of_channel, hop]

theorem uCap_other_op (h : 1 < a.toNat) : b.uCap m (BitVec.ofNat 32 c) a v n w = b.ucsBad m 0x0402 := by
  obtain ⟨k, hk⟩ := Nat.exists_eq_add_of_lt h
  have hop : a.toNat = k + 2 := by omega
  simp only [State.uCap, ucsCh_of_channel, hop]

end

theorem measurementCommands : MeasurementCommands := by
  intro m c a n v w s _ h ch posts sess
  refine ⟨fun hq => exec_row h rfl (ucsChOp_posts c hq), fun hq => exec_row h rfl (ucsChOp_refused c hq),
    exec_row h rfl (ucsCh_of_channel c), exec_row h rfl (ucsCh_of_channel c), exec_row h rfl (ucsCh_of_channel c),
    fun hn => exec_row h rfl ((ucsCh_of_channel c).trans (if_pos hn)),
    fun hn => exec_row h rfl ((ucsCh_of_channel c).trans (if_neg (Nat.not_lt.2 hn))),
    fun ha => exec_row h rfl (uWin_other_op c ha), fun hv => exec_row h rfl ((ucsCh_of_channel c).trans (if_pos hv)),
    exec_row h rfl (ucsCh_of_channel c),
    fun hv => exec_row h rfl ((ucsCh_of_channel c).trans (if_neg (Bool.eq_false_iff.1 hv))),
    fun ha => exec_row h rfl (uCap_other_op c ha),
    fun hs => exec_row h rfl ((ucsCh_of_channel c).trans (if_neg (by rwa [ucsBegin_sweepOk, Bool.not_eq_true]))),
    fun hs => exec_row h rfl ((ucsCh_of_channel c).trans (if_pos (by rwa [ucsBegin_sweepOk]))),
    exec_row h rfl (ucsCh_of_channel c), exec_row h rfl (ucsCh_of_channel c),
    fun hbad => exec_row h rfl (uRingAlloc_refused hbad), fun hgeom ha =>
      ⟨fun hring => ?denied, fun hring x hbase => ?allocates⟩,
    fun hnone => ?none, fun r hring => ?ring⟩
  case denied => exact exec_row h rfl (uRingAlloc_denied hgeom ha (by rwa [ucsBegin_ring?]))
  case allocates =>
    exact exec_row h rfl (uRingAlloc_allocates hgeom ha (by rwa [ucsBegin_ring?]) (by rwa [ucsBegin_fresh]))
  case none =>
    have hnone' : ∀ code, (s.ucsBegin m code).ring? a.toNat = none := fun code => by rwa [ucsBegin_ring?]
    exact ⟨exec_row h rfl (ucsRing_of_none (hnone' _)), exec_row h rfl (ucsRing_of_none (hnone' _)),
      exec_row h rfl (ucsRing_of_none (hnone' _)), exec_row h rfl (ucsRing_of_none (hnone' _))⟩
  case ring =>
    have hr : ∀ code, (s.ucsBegin m code).ring? a.toNat = some r := fun code => by rwa [ucsBegin_ring?]
    refine ⟨fun hsub hnamed => exec_row h rfl (uRingFree_frees (hr _) hsub (by rwa [ucsBegin_ringNamed])),
      fun hused => exec_row h rfl (uRingFree_denied (hr _) (by rwa [ucsBegin_ringNamed])),
      exec_row h rfl (ucsRing_of_ring (hr _)),
      fun hbuf => exec_row h rfl (uRingRead_fenced (hr _) (by rwa [ucsBegin_bufFenced])),
      fun hbuf hsub => exec_row h rfl (uRingRead_subscribed (hr _) (by rwa [ucsBegin_bufFenced]) hsub),
      fun hbuf hsub hfill => exec_row h rfl (uRingRead_empty (hr _) (by rwa [ucsBegin_bufFenced]) hsub hfill),
      fun hbuf hsub hfill => exec_row h rfl (uRingRead_reads (hr _) (by rwa [ucsBegin_bufFenced]) hsub hfill),
      fun hrq hn => exec_row h rfl (uRingSub_not_session (hr _) hrq hn),
      fun hrq hsub hne hn => exec_row h rfl (uRingSub_subscribes (hr _) hrq hsub hne hn)⟩

end Sys2Proof.Machine
end

section
/-!
Commands of the timebase, of scheduling, programs and threads (Tables 11-14 and 11-15).
-/
namespace Sys2Proof.Machine
open Claims

/-! ### Scheduling and timers (Table 11-14) -/

section
variable {b : State} {m : Cmd} {a n v w : Word}

theorem uTbSrc_index_source (ha : a.toNat < 3) (x : Word) : b.uTbSrc m a n v w x =
    ((((b.writeReg m.rq (R.SRC_CFG a.toNat) n).writeReg m.rq (R.IDX_VAL a.toNat) v).writeReg m.rq (R.IDX_PERIOD a.toNat)
      w).writeReg m.rq (R.IDX_TOL a.toNat) x).ucsRead m 0x0502 [R.IDX_ERR a.toNat, R.SRC_CNT a.toNat] :=
  (if_neg (by omega)).trans (if_neg (by omega))

variable (k : Fin 16)

theorem timer_toNat : (BitVec.ofNat 32 k).toNat = k := toNat_ofNat_of_lt (by omega)

theorem uGtSet_of_none (h : 16 ≤ a.toNat) : b.uGtSet m a n v w = b.ucsBad m 0x0507 := dif_neg (Nat.not_lt.2 h)

theorem uGtSet_long_period (hw : 0x7FFFFFFF < w.toNat) : b.uGtSet m (BitVec.ofNat 32 k) n v w = b.ucsBad m 0x0507 := by
  refine (dif_pos ((timer_toNat k).symm ▸ k.isLt)).trans (if_pos ?_)
  simp [hw]

theorem uGtSet_no_compare (hw : w.toNat ≤ 0x7FFFFFFF) (hsrc : bitsOf n 4 0 < 21) (hcmp : bitOf n 31 = false) :
    b.uGtSet m (BitVec.ofNat 32 k) n v w =
      ((b.writeReg m.rq (R.GT_CFG k) n).writeReg m.rq (R.GT_PERIOD k) w).ucsRead m 0x0507 [R.GT_STAT k] := by
  have hlt : (BitVec.ofNat 32 k).toNat < 16 := (timer_toNat k).symm ▸ k.isLt
  have hk : (⟨(BitVec.ofNat 32 k).toNat, hlt⟩ : Fin 16) = k := Fin.ext (timer_toNat k)
  refine (dif_pos hlt).trans ?_
  rw [hk, if_neg (by simp only [Nat.not_lt.2 hw, Nat.not_le.2 hsrc, decide_false, Bool.false_and, Bool.or_self,
    Bool.false_eq_true, not_false_eq_true]), hcmp]
  rfl

theorem uGtGet_of_timer : b.uGtGet m (BitVec.ofNat 32 k) =
    b.ucsRead m 0x0508 [R.GT_CAP_LO k, R.GT_CAP_HI k, R.GT_STAT k] := by
  simp only [State.uGtGet, timer_toNat, k.isLt, if_true]

end

/-! ### Load images (R264, R265) -/

theorem stBytes_regs (l : List Byte) : ∀ (s : State) (a : Nat), (s.stBytes a l).regs = s.regs := by
  induction l with
  | nil => exact fun _ _ => rfl
  | cons x l ih =>
    refine fun s a => (ih _ _).trans ?_
    simp only [State.stByte]
    split <;> rfl

theorem loadSegs_regs (a : Nat) (l : List SegDesc) : ∀ s : State, (l.foldl (fun s d => s.loadSeg a d) s).regs = s.regs := by
  induction l with
  | nil => exact fun _ => rfl
  | cons d l ih => exact fun s => (ih _).trans (stBytes_regs _ _ _)

section
variable {b : State} {m : Cmd} {a n : Word}

theorem uImgLoad_outside (h : b.inExtent a.toNat n.toNat = none) : b.uImgLoad m a n = b.ucsBad m 0x0600 :=
  if_pos (by simp [h])

/-- The segments of the image at a, as its header counts them. -/
def imageSegs (b : State) (a : Word) : List SegDesc :=
  (List.range (min (b.ldWord (a.toNat + 0x10)).toNat 256)).map (b.segDesc a.toNat)

theorem ucsBegin_imageSegs (s : State) (m : Cmd) (code : Nat) (a : Word) :
    imageSegs (s.ucsBegin m code) a = imageSegs s a := ucsBegin_shows s m code (imageSegs · a) fun _ => rfl

theorem ucsBegin_imageSegsOk (s : State) (m : Cmd) (code : Nat) (a n : Word) :
    (s.ucsBegin m code).imageOk a.toNat n.toNat (imageSegs (s.ucsBegin m code) a) =
      s.imageOk a.toNat n.toNat (imageSegs s a) := by
  rw [ucsBegin_imageSegs, ucsBegin_imageOk]

/-- The image is written, segment by segment, and replaces those that it hits. -/
def imageLoaded (b : State) (a : Word) : State :=
  let s := (imageSegs b a).foldl (fun s d => s.loadSeg a.toNat d) b
  { s with images := (s.images.filter fun i => !i.hit (imageSegs b a)) ++
      [{ segs := (imageSegs b a).map fun d => (d.addr, d.size) }] }

theorem imageLoaded_regs (b : State) (a : Word) : (imageLoaded b a).regs = b.regs := by
  simp only [imageLoaded, loadSegs_regs]

theorem mem_imageLoaded_images (b : State) (a : Word) :
    { segs := (imageSegs b a).map fun d => (d.addr, d.size) } ∈ (imageLoaded b a).images := by
  simp only [imageLoaded, List.mem_append, List.mem_singleton, or_true]

section
variable (hin : (b.inExtent a.toNat n.toNat).isSome = true) (hue : b.ueSpan a.toNat n.toNat = none)
include hin hue

theorem uImgLoad_refused (hok : b.imageOk a.toNat n.toNat (imageSegs b a) = false) :
    b.uImgLoad m a n = b.ucsBad m 0x0600 := by
  rw [imageSegs] at hok
  refine (if_neg (by simpa [Option.isSome_iff_ne_none] using hin)).trans ?_
  simp only [hue, hok, Bool.false_eq_true, if_false]

theorem uImgLoad_loads (hok : b.imageOk a.toNat n.toNat (imageSegs b a) = true) : b.uImgLoad m a n =
    (imageLoaded b a).finish m 0x0600 stOk
      [b.ldWord (a.toNat + 0x0C), nw (min (b.ldWord (a.toNat + 0x10)).toNat 256)] := by
  rw [imageSegs] at hok
  refine (if_neg (by simpa [Option.isSome_iff_ne_none] using hin)).trans ?_
  simp only [hue, hok, if_true]
  rfl

end

/-! ### Threads (Table 11-15, R295) -/

end

section
variable {b : State} {v : Word} (t : Fin 64)

theorem wr_arg_get (f : Fld) (hf : f.addr ≠ R.SEQ_THR_ARG t) : (b.wr (R.SEQ_THR_ARG t) v).get f = b.get f :=
  get_congr f (State.rd_wr_other _ _ _ _ hf)

theorem wr_arg_clusterOff : (b.wr (R.SEQ_THR_ARG t) v).clusterOff (t / 16) = b.clusterOff (t / 16) := by
  have hne : R.PDOM_STAT ((90 + t / 16) / 16) ≠ R.SEQ_THR_ARG t := by
    simp only [R.PDOM_STAT, R.SEQ_THR_ARG]
    omega
  simp only [State.clusterOff, State.domOn, wr_arg_get t (domStat _) hne]

theorem wr_arg_noPair : (b.wr (R.SEQ_THR_ARG t) v).noPair t = b.noPair t := by
  have hne : R.SEQ_CL_STAT (t / 16) ≠ R.SEQ_THR_ARG t := by
    simp only [R.SEQ_CL_STAT, R.SEQ_THR_ARG]
    omega
  simp only [State.noPair, wr_arg_get t (slotFld _ _) hne]

theorem wr_arg_thrLive : (b.wr (R.SEQ_THR_ARG t) v).thrLive t = b.thrLive t := by
  have hne : R.SEQ_THR_STAT t ≠ R.SEQ_THR_ARG t := by
    simp only [R.SEQ_THR_STAT, R.SEQ_THR_ARG]
    omega
  have hstate : (b.wr (R.SEQ_THR_ARG t) v).thrState t = b.thrState t := wr_arg_get t _ hne
  rw [State.thrLive, hstate]
  rfl

/-- A thread that may start starts with the argument that its register holds (R269). -/
theorem tctlStart_starts {pc : Word} (hpc : fetchable pc.toNat = true) (hoff : b.clusterOff (t / 16) = false)
    (hpair : b.noPair t = false) (hlive : b.thrLive t = false) (hops : b.opsOf t = []) :
    b.tctlStart t pc = (stOk, b.startThr t pc (b.rd (R.SEQ_THR_ARG t))) := by
  have hthr : thr? t = some t := dif_pos t.isLt
  simp only [State.tctlStart, hthr, hpc, hoff, hpair, hlive, hops, List.isEmpty_nil, Bool.not_true, Bool.or_self,
    Bool.false_eq_true, if_false]

variable {m : Cmd} {pc : Word} (hsvc : b.isSvc t = false)
include hsvc

theorem uThrStart_slow (hslow : b.slow = true) :
    b.uThrStart m (BitVec.ofNat 32 t) pc v = b.finish m 0x0601 stNoRes [] :=
  (ucsThr_of_thread t hsvc).trans (if_pos hslow)

theorem uThrStart_starts (hwf : b.rwf) (hslow : b.slow = false) (hpc : fetchable pc.toNat = true)
    (hoff : b.clusterOff (t / 16) = false) (hpair : b.noPair t = false) (hlive : b.thrLive t = false)
    (hops : b.opsOf t = []) : b.uThrStart m (BitVec.ofNat 32 t) pc v =
      ((b.wr (R.SEQ_THR_ARG t) v).startThr t pc v).finish m 0x0601 stOk [] := by
  have hstart := tctlStart_starts (b := b.wr (R.SEQ_THR_ARG t) v) t hpc ((wr_arg_clusterOff t).trans hoff)
    ((wr_arg_noPair t).trans hpair) ((wr_arg_thrLive t).trans hlive) hops
  rw [State.rd_wr _ _ _ hwf] at hstart
  refine (ucsThr_of_thread t hsvc).trans
    ((if_neg (Bool.eq_false_iff.1 hslow)).trans ((if_neg (by simp [hpc])).trans ?_))
  rw [hstart]

end

section
variable {b : State} {m : Cmd} {a w : Word}

theorem uThrGet_of_none (h : 64 ≤ a.toNat) : b.uThrGet m a = b.ucsBad m 0x0603 := if_neg (Nat.not_lt.2 h)

theorem uThrGet_of_thread (t : Fin 64) : b.uThrGet m (BitVec.ofNat 32 t) = b.ucsRead m 0x0603
    [R.SEQ_THR_STAT t, R.SEQ_THR_PC t, R.SEQ_THR_EXC t, R.SEQ_THR_EPC t, R.SEQ_THR_EADDR t] := by
  have ht : (BitVec.ofNat 32 t).toNat = t := toNat_ofNat_of_lt (by omega)
  simp only [State.uThrGet, ht, t.isLt, if_true]

theorem uSvcSet_refused (h : b.svcBad w = true) : b.uSvcSet m w = (b.set F.UCS_STAT.CFG_REJ 1).ucsBad m 0x0606 :=
  (if_pos h).trans (by rw [svcWrite_of_bad h])

end

theorem timebaseAndThreadCommands : TimebaseAndThreadCommands := by
  intro m t k a n v w x l s hwf h th g rq
  have hsvc : ∀ {y : Bool} (code : Nat), s.isSvc t = y → (s.ucsBegin m code).isSvc t = y :=
    fun code hy => (ucsBegin_isSvc s m code t).trans hy
  refine ⟨exec_row h rfl rfl, exec_row h rfl rfl, fun ha => exec_row h rfl (if_pos ha),
    fun ha => exec_row h rfl (uTbSrc_index_source ha x), exec_row h rfl rfl,
    fun hl => ⟨exec_row h rfl (if_pos hl), exec_row h rfl (if_pos hl)⟩, fun hl hslow => ?slow, fun hl hfast => ?fast,
    exec_row h rfl rfl, fun ha => ⟨exec_row h rfl (uGtSet_of_none ha), exec_row h rfl (if_neg (Nat.not_lt.2 ha))⟩,
    fun hw => exec_row h rfl (uGtSet_long_period k hw),
    fun hw hsrc hcmp => exec_row h rfl (uGtSet_no_compare k hw hsrc hcmp), exec_row h rfl (uGtGet_of_timer k),
    fun hin => exec_row h rfl (uImgLoad_outside (by rwa [ucsBegin_inExtent])), fun hin hue => ?image,
    fun ha => ⟨exec_row h rfl (ucsThr_of_none ha), exec_row h rfl (ucsThr_of_none ha), exec_row h rfl (uThrGet_of_none ha),
      exec_row h rfl (ucsThr_of_none ha)⟩,
    fun hs => ⟨exec_row h rfl (ucsThr_of_service t (hsvc _ hs)), exec_row h rfl (ucsThr_of_service t (hsvc _ hs)),
      exec_row h rfl (ucsThr_of_service t (hsvc _ hs))⟩,
    fun hs => ⟨fun hslow => exec_row h rfl (uThrStart_slow t (hsvc _ hs) (by rwa [ucsBegin_slow])), ?start,
      exec_row h rfl (ucsThr_of_thread t (hsvc _ hs)), exec_row h rfl (ucsThr_of_thread t (hsvc _ hs))⟩,
    exec_row h rfl (uThrGet_of_thread t), ?excClr, fun hgood => ?svcSet,
    fun hbad => exec_row h rfl (uSvcSet_refused (by rwa [ucsBegin_svcBad]))⟩
  case slow =>
    have hb : ∀ code, (s.ucsBegin m code).slow = true := fun code => by rwa [ucsBegin_slow]
    exact ⟨exec_row h rfl ((if_neg (Decidable.not_not.2 hl)).trans (if_pos (hb _))),
      exec_row h rfl ((if_neg (Decidable.not_not.2 hl)).trans (if_pos (hb _)))⟩
  case fast =>
    have hb : ∀ code, ¬ (s.ucsBegin m code).slow = true := fun code => by rw [ucsBegin_slow, hfast]; exact Bool.false_ne_true
    exact ⟨exec_row h rfl ((if_neg (Decidable.not_not.2 hl)).trans (if_neg (hb _))),
      exec_row h rfl ((if_neg (Decidable.not_not.2 hl)).trans (if_neg (hb _)))⟩
  case image =>
    have hin' : ((s.ucsBegin m 0x0600).inExtent a.toNat n.toNat).isSome = true := by rwa [ucsBegin_inExtent]
    have hue' : (s.ucsBegin m 0x0600).ueSpan a.toNat n.toNat = none := by rwa [ucsBegin_ueSpan]
    have hchecks := ucsBegin_imageSegsOk s m 0x0600 a n
    refine ⟨fun hok => exec_row h rfl (uImgLoad_refused hin' hue' (hchecks.trans hok)), fun hok =>
      ⟨imageLoaded (s.ucsBegin m 0x0600) a, exec_row h rfl ?_, ?_, _, mem_imageLoaded_images _ a, ?_⟩⟩
    · refine (uImgLoad_loads hin' hue' (hchecks.trans hok)).trans ?_
      rw [ucsBegin_ldWord, ucsBegin_ldWord]
      rfl
    · rw [imageLoaded_regs, ucsBegin_regs]
    · simp only [ucsBegin_imageSegs]
      simp only [imageSegs]
  case start =>
    intro hslow hpc hoff hpair hlive hops
    exact exec_row h rfl (uThrStart_starts t (hsvc _ hs) (by rw [State.rwf, ucsBegin_regs]; exact State.wf_rwf hwf)
      (by rwa [ucsBegin_slow]) hpc (by rwa [ucsBegin_clusterOff]) (by rwa [ucsBegin_noPair]) (by rwa [ucsBegin_thrLive])
      (by rwa [ucsBegin_opsOf]))
  case excClr =>
    refine exec_row h rfl ?_
    simp only [State.uExcClr, ucsBegin_isSvc]
    rfl
  case svcSet => exact exec_row h rfl (if_neg (by rw [ucsBegin_svcBad, hgood]; exact Bool.false_ne_true))

end Sys2Proof.Machine
end

section
/-!
Commands of house power, lines and PD (Tables 11-16 to 11-18), and the obligation about the commands of measurement and
power.
-/
namespace Sys2Proof.Machine
open Claims

/-! ### House power and lines (R348, R354, R356, R360) -/

section
variable {b : State} {m : Cmd} {a n w : Word}

section
variable (c : Fin 24)

theorem uLedgerRsv_no_credit (hn : n.toNat ≤ 600) (hfree : b.free < n.toNat - b.get (F.LG_HELD.CONT c)) :
    b.uLedgerRsv m (BitVec.ofNat 32 c) n = b.finish m 0x0705 stNoRes [] :=
  (ucsCh_of_channel c).trans ((if_neg (Nat.not_lt.2 hn)).trans (if_pos hfree))

theorem uLedgerRsv_reserves (hn : n.toNat ≤ 600) (hfree : n.toNat - b.get (F.LG_HELD.CONT c) ≤ b.free) :
    b.uLedgerRsv m (BitVec.ofNat 32 c) n = (b.set (F.LG_RSV.RSV c) n.toNat).finish m 0x0705 stOk [n] :=
  (ucsCh_of_channel c).trans ((if_neg (Nat.not_lt.2 hn)).trans (if_neg (Nat.not_lt.2 hfree)))

end

theorem uEvtSet_refused (h : 0x10000 ≤ a.toNat ∨ 3 < n.toNat ∨ (n = 0 ∧ (w = 0 ∨ 16777215 < w.toNat))) :
    b.uEvtSet m a n w = b.ucsBad m 0x0803 := by
  refine if_pos ?_
  simp only [Bool.or_eq_true, Bool.and_eq_true, decide_eq_true_eq]
  rcases h with h | h | ⟨hn, hw | hw⟩
  · exact .inl (.inl h)
  · exact .inl (.inr h)
  · exact .inr ⟨hn, .inl (congrArg BitVec.toNat hw)⟩
  · exact .inr ⟨hn, .inr hw⟩

theorem uEvtSet_sets (ha : a.toNat < 0x10000) (hn : n.toNat ≤ 3) (hpulse : n ≠ 0 ∨ (w ≠ 0 ∧ w.toNat ≤ 16777215)) :
    b.uEvtSet m a n w =
      (b.evtMask (0x20 + n.toNat) w.toNat a.toNat (List.range 16)).finish m 0x0803 stOk [] := by
  refine if_neg ?_
  simp only [Bool.or_eq_true, Bool.and_eq_true, decide_eq_true_eq, not_or, not_and, Nat.not_le, Nat.not_lt]
  refine ⟨⟨ha, hn⟩, fun hzero => ?_⟩
  obtain ⟨hne, hmax⟩ := hpulse.resolve_left (Decidable.not_not.2 hzero)
  exact ⟨fun hw => hne (BitVec.eq_of_toNat_eq hw), hmax⟩

/-! ### PD (R256, R257, R373, R385) -/

variable (p : Fin 8) {l : List Word} {v : Word}

theorem uPdSend_refused (h : l.length ≠ 16) : b.uPdSend m (BitVec.ofNat 32 p) l = b.ucsBad m 0x0902 :=
  (ucsPort_of_port p).trans (if_pos h)

theorem uPdSend_posts (h : l.length = 16) :
    b.uPdSend m (BitVec.ofNat 32 p) l = b.ucsPortOp m p (.pdSend 0 (l.take 8)) :=
  (ucsPort_of_port p).trans (if_neg (Decidable.not_not.2 h))

theorem uPdVdm_refused (h : l.length ≠ 8) : b.uPdVdm m (BitVec.ofNat 32 p) n l = b.ucsBad m 0x0904 :=
  (ucsPort_of_port p).trans (if_pos h)

theorem uPdVdm_posts (h : l.length = 8) :
    b.uPdVdm m (BitVec.ofNat 32 p) 0 l = b.ucsPortOp m p (.vdmReq 0 l) ∧
    b.uPdVdm m (BitVec.ofNat 32 p) 1 l = b.ucsPortOp m p (.vdmSend 0 l) ∧
    b.uPdVdm m (BitVec.ofNat 32 p) 2 l = b.ucsPortOp m p (.vdmRecv 0) :=
  ⟨(ucsPort_of_port p).trans (if_neg (Decidable.not_not.2 h)), (ucsPort_of_port p).trans (if_neg (Decidable.not_not.2 h)),
    (ucsPort_of_port p).trans (if_neg (Decidable.not_not.2 h))⟩

theorem uPdRequest_no_sink (h : b.attach p ≠ 2) :
    b.uPdRequest m (BitVec.ofNat 32 p) n v w = b.finish m 0x0905 stNotReady [] :=
  (ucsPort_of_port p).trans (if_pos h)

section
variable (hsink : b.attach p = 2)
include hsink

theorem uPdRequest_busy (hout : b.pdReqOut p = true) :
    b.uPdRequest m (BitVec.ofNat 32 p) n v w = b.finish m 0x0905 stBusy [] :=
  (ucsPort_of_port p).trans ((if_neg (Decidable.not_not.2 hsink)).trans (if_pos hout))

variable (hout : b.pdReqOut p = false)
include hout

theorem uPdRequest_no_terms (hterms : b.pdTerms p n.toNat v.toNat w.toNat = none) :
    b.uPdRequest m (BitVec.ofNat 32 p) n v w = b.ucsBad m 0x0905 := by
  refine (ucsPort_of_port p).trans
    ((if_neg (Decidable.not_not.2 hsink)).trans ((if_neg (Bool.eq_false_iff.1 hout)).trans ?_))
  simp only [hterms]

theorem uPdRequest_posts {t : PdTerms} (hterms : b.pdTerms p n.toNat v.toNat w.toNat = some t) :
    b.uPdRequest m (BitVec.ofNat 32 p) n v w = b.ucsPortOp m p (.pdReq t.pos t.kind t.v t.i) := by
  refine (ucsPort_of_port p).trans
    ((if_neg (Decidable.not_not.2 hsink)).trans ((if_neg (Bool.eq_false_iff.1 hout)).trans ?_))
  simp only [hterms]

end

end

theorem houseLinePdCommands : HouseLinePdCommands := by
  intro m c p a n v w l s _ h ch po rq cfg port
  have hvdm {b : State} (hl : l.length = 8) := uPdVdm_posts (b := b) (m := m) p hl
  refine ⟨exec_row h rfl rfl, fun ha => exec_row h rfl (if_pos ha), fun ha => ?feedCfg,
    fun hbad => exec_row h rfl (uPreset_refused hbad),
    fun hn hv hv' hw hw' hover => exec_row h rfl (uPreset_loads hn hv hv' hw hw' hover), exec_row h rfl rfl,
    exec_row h rfl rfl, fun hn => exec_row h rfl ((ucsCh_of_channel c).trans (if_pos hn)),
    fun hn hfree => exec_row h rfl (uLedgerRsv_no_credit c hn (by rwa [ucsBegin_free, ucsBegin_get])),
    fun hn hfree => exec_row h rfl (uLedgerRsv_reserves c hn (by rwa [ucsBegin_free, ucsBegin_get])),
    exec_row h rfl (ucsCh_of_channel c), ?lineCfg, exec_row h rfl (ucsCh_of_channel c),
    fun hbad => exec_row h rfl (uEvtSet_refused hbad), fun ha hn hw => exec_row h rfl (uEvtSet_sets ha hn hw), ?pdCfg,
    exec_row h rfl (ucsPort_of_port p), fun hl => exec_row h rfl (uPdSend_refused p hl),
    fun hl => exec_row h rfl (uPdSend_posts p hl), exec_row h rfl (ucsPort_of_port p),
    fun hl => exec_row h rfl (uPdVdm_refused p hl),
    fun hl => ⟨exec_row h rfl (hvdm hl).1, exec_row h rfl (hvdm hl).2.1, exec_row h rfl (hvdm hl).2.2⟩,
    fun hnot => exec_row h rfl (uPdRequest_no_sink p (by rwa [ucsBegin_attach])), fun hsink hout => ?busy,
    fun hsink hout => ⟨fun hterms => ?noTerms, fun t hterms => ?posts⟩,
    fun ha => ⟨exec_row h rfl (ucsCh_of_none ha), exec_row h rfl (ucsCh_of_none ha), exec_row h rfl (ucsCh_of_none ha),
      exec_row h rfl (ucsCh_of_none ha)⟩,
    fun ha => ⟨exec_row h rfl (ucsPort_of_none ha), exec_row h rfl (ucsPort_of_none ha), exec_row h rfl (ucsPort_of_none ha),
      exec_row h rfl (ucsPort_of_none ha), exec_row h rfl (ucsPort_of_none ha), exec_row h rfl (ucsPort_of_none ha)⟩⟩
  case feedCfg =>
    exact ⟨fun hbad => exec_row h rfl ((if_neg (Nat.not_lt.2 ha)).trans (ucsCfg_refused hbad)),
      fun hne hlen hok => exec_row h rfl ((if_neg (Nat.not_lt.2 ha)).trans (ucsCfg_writes hne hlen hok))⟩
  case lineCfg =>
    exact ⟨fun hbad => exec_row h rfl ((ucsCh_of_channel c).trans (ucsCfg_refused hbad)),
      fun hne hlen hok => exec_row h rfl ((ucsCh_of_channel c).trans (ucsCfg_writes hne hlen hok))⟩
  case pdCfg =>
    exact ⟨fun hbad => exec_row h rfl ((ucsPort_of_port p).trans (ucsCfg_refused hbad)),
      fun hne hlen hok => exec_row h rfl ((ucsPort_of_port p).trans (ucsCfg_writes hne hlen hok))⟩
  case busy => exact exec_row h rfl (uPdRequest_busy p (by rwa [ucsBegin_attach]) (by rwa [ucsBegin_pdReqOut]))
  case noTerms =>
    exact exec_row h rfl (uPdRequest_no_terms p (by rwa [ucsBegin_attach]) (by rwa [ucsBegin_pdReqOut])
      (by rwa [ucsBegin_pdTerms]))
  case posts =>
    exact exec_row h rfl (uPdRequest_posts p (by rwa [ucsBegin_attach]) (by rwa [ucsBegin_pdReqOut])
      (by rwa [ucsBegin_pdTerms]))

/-- Settles O59: each row runs from the state in which its command has started, and each clause is the branch of the row's
function that its condition takes: the ring, the image, the thread, the channel or the port that its words name. -/
theorem commandsOnMeasurementAndPower : Obligations.CommandsOnMeasurementAndPower :=
  ⟨measurementCommands, timebaseAndThreadCommands, houseLinePdCommands⟩

end Sys2Proof.Machine
end

section
/-!
The accounts of the power ledger (R338): what each write of an account register does to all nine of them, what leaves them
alone, and when they balance.
-/
namespace Sys2Proof.Machine

/-! ### Sums over the channels -/

theorem foldl_allCh_eq_sum (g : Fin 24 → Nat) : (allCh.map g).foldl (· + ·) 0 = ∑ c, g c := by
  rw [← List.sum_eq_foldl, allCh, ← List.ofFn_eq_map, List.sum_ofFn]

theorem State.sumCont_eq_sum (s : State) : s.sumCont = ∑ c : Fin 24, s.get (F.LG_HELD.CONT c) := foldl_allCh_eq_sum _

theorem State.sumBurst_eq_sum (s : State) : s.sumBurst = ∑ c : Fin 24, s.get (F.LG_HELD.BURST c) := foldl_allCh_eq_sum _

/-- Where one term of a sum takes another value, the sum moves by the difference. -/
theorem sum_replace {g h : Fin 24 → Nat} (c : Fin 24) (hne : ∀ e, e ≠ c → h e = g e) :
    ∑ e, h e + g c = ∑ e, g e + h c := by
  rw [← Finset.add_sum_erase _ h (Finset.mem_univ c), ← Finset.add_sum_erase _ g (Finset.mem_univ c),
    Finset.sum_congr rfl fun e he => hne e (Finset.ne_of_mem_erase he)]
  exact Nat.add_comm _ _ |>.trans (by rw [Nat.add_comm (h c), Nat.add_assoc])

/-! ### The nine accounts -/

/-- The accounts of the ledger: the pools, what is free of them, LENT, the house account, and what the channels hold. -/
structure Accounts where
  pool  : Nat
  free  : Nat
  burst : Nat
  bfree : Nat
  lent  : Nat
  tap   : Nat
  chg   : Nat
  cont  : Nat
  brst  : Nat

/-- Both identities of R338, and the pools within Table 12-6. -/
structure Accounts.Balanced (a : Accounts) : Prop where
  cont : a.pool + a.lent = a.cont + (a.tap + a.chg) + a.free
  brst : a.burst = a.brst + a.lent + a.bfree
  caps : a.pool ≤ 6000 ∧ a.burst ≤ 9000

def State.accounts (s : State) : Accounts :=
  ⟨s.pool, s.free, s.burstPool, s.bfree, s.lent, s.get F.LG_HOUSE.TAP, s.get F.LG_HOUSE.CHG, s.sumCont, s.sumBurst⟩


/-- Is this the address of a register that holds an account? -/
abbrev InAccounts (a : Nat) : Prop := R.LG_POOL ≤ a ∧ a ≤ R.LG_HOUSE ∨ R.LG_HELD 0 ≤ a ∧ a < R.LG_RSV 0

theorem inAccounts_held {c : Nat} (h : c < 24) : InAccounts (R.LG_HELD c) := by
  simp only [InAccounts, R.LG_HELD, R.LG_RSV]; omega

theorem accounts_congr {s t : State} (h : ∀ a, InAccounts a → t.rd a = s.rd a) : t.accounts = s.accounts := by
  have hfld : ∀ f : Fld, InAccounts f.addr → t.get f = s.get f := fun f hf => get_congr f (h _ hf)
  have hcont : t.sumCont = s.sumCont := by
    simp only [State.sumCont_eq_sum]
    exact Finset.sum_congr rfl fun c _ => hfld _ (inAccounts_held c.isLt)
  have hbrst : t.sumBurst = s.sumBurst := by
    simp only [State.sumBurst_eq_sum]
    exact Finset.sum_congr rfl fun c _ => hfld _ (inAccounts_held c.isLt)
  have hone : ∀ f : Fld, (R.LG_POOL ≤ f.addr ∧ f.addr ≤ R.LG_HOUSE) → t.get f = s.get f := fun f hf => hfld f (.inl hf)
  simp only [State.accounts, State.pool, State.free, State.burstPool, State.bfree, State.lent, hcont, hbrst,
    hone F.LG_POOL.CREDITS (by decide), hone F.LG_FREE.CREDITS (by decide), hone F.LG_BURST.CREDITS (by decide),
    hone F.LG_BFREE.CREDITS (by decide), hone F.LG_LENT.CREDITS (by decide), hone F.LG_HOUSE.TAP (by decide),
    hone F.LG_HOUSE.CHG (by decide)]

theorem accounts_of_regs {s t : State} (h : t.regs = s.regs) : t.accounts = s.accounts :=
  accounts_congr fun a _ => by rw [State.rd, State.rd, h]

/-! ### What a write of an account sets -/

theorem held_ne {c e : Nat} (h : e ≠ c) : R.LG_HELD e ≠ R.LG_HELD c := by
  simp only [R.LG_HELD]; omega

theorem held_gt (c a : Nat) (h : a ≤ R.LG_HOUSE) : R.LG_HELD c ≠ a := by
  simp only [R.LG_HELD]; simp only [R.LG_HOUSE] at h; omega

section
variable (s : State) (f : Fld) (v : Nat) (h : f.addr ≤ R.LG_HOUSE)
include h

theorem sumCont_set_low : (s.set f v).sumCont = s.sumCont := by
  simp only [State.sumCont_eq_sum]
  exact Finset.sum_congr rfl fun c _ => s.get_set_other f _ v (held_gt c _ h)

theorem sumBurst_set_low : (s.set f v).sumBurst = s.sumBurst := by
  simp only [State.sumBurst_eq_sum]
  exact Finset.sum_congr rfl fun c _ => s.get_set_other f _ v (held_gt c _ h)

end

section
variable {s : State} (h : s.rwf) (v : Nat)
include h

/-- A field of 16 bits reads the value written, up to its width. -/
theorem get_set_16 {f : Fld} (hf : decide (f.hi = f.lo + 15 ∧ f.lo ≤ 16) = true) : (s.set f v).get f = v % 65536 := by
  obtain ⟨hhi, hlo⟩ := of_decide_eq_true hf
  rw [s.get_set f v h (by omega) (by omega), Fld.width, hhi, Nat.add_sub_cancel_left]
  rfl

theorem accounts_set_pool : (s.set F.LG_POOL.CREDITS v).accounts = { s.accounts with pool := v % 65536 } := by
  simp (disch := decide) only [State.accounts, State.pool, State.free, State.burstPool, State.bfree, State.lent,
    sumCont_set_low, sumBurst_set_low, get_set_16 h v (f := F.LG_POOL.CREDITS) rfl, State.get_set_other]

theorem accounts_set_free : (s.set F.LG_FREE.CREDITS v).accounts = { s.accounts with free := v % 65536 } := by
  simp (disch := decide) only [State.accounts, State.pool, State.free, State.burstPool, State.bfree, State.lent,
    sumCont_set_low, sumBurst_set_low, get_set_16 h v (f := F.LG_FREE.CREDITS) rfl, State.get_set_other]

theorem accounts_set_burst : (s.set F.LG_BURST.CREDITS v).accounts = { s.accounts with burst := v % 65536 } := by
  simp (disch := decide) only [State.accounts, State.pool, State.free, State.burstPool, State.bfree, State.lent,
    sumCont_set_low, sumBurst_set_low, get_set_16 h v (f := F.LG_BURST.CREDITS) rfl, State.get_set_other]

theorem accounts_set_bfree : (s.set F.LG_BFREE.CREDITS v).accounts = { s.accounts with bfree := v % 65536 } := by
  simp (disch := decide) only [State.accounts, State.pool, State.free, State.burstPool, State.bfree, State.lent,
    sumCont_set_low, sumBurst_set_low, get_set_16 h v (f := F.LG_BFREE.CREDITS) rfl, State.get_set_other]

theorem accounts_set_lent : (s.set F.LG_LENT.CREDITS v).accounts = { s.accounts with lent := v % 65536 } := by
  simp (disch := decide) only [State.accounts, State.pool, State.free, State.burstPool, State.bfree, State.lent,
    sumCont_set_low, sumBurst_set_low, get_set_16 h v (f := F.LG_LENT.CREDITS) rfl, State.get_set_other]

theorem accounts_set_tap : (s.set F.LG_HOUSE.TAP v).accounts = { s.accounts with tap := v % 65536 } := by
  have hchg := s.get_set_apart F.LG_HOUSE.TAP F.LG_HOUSE.CHG v h rfl (by decide) (by decide) (by decide)
  simp (disch := decide) only [State.accounts, State.pool, State.free, State.burstPool, State.bfree, State.lent,
    sumCont_set_low, sumBurst_set_low, get_set_16 h v (f := F.LG_HOUSE.TAP) rfl, State.get_set_other, hchg]

theorem accounts_set_chg : (s.set F.LG_HOUSE.CHG v).accounts = { s.accounts with chg := v % 65536 } := by
  have htap := s.get_set_apart F.LG_HOUSE.CHG F.LG_HOUSE.TAP v h rfl (by decide) (by decide) (by decide)
  simp (disch := decide) only [State.accounts, State.pool, State.free, State.burstPool, State.bfree, State.lent,
    sumCont_set_low, sumBurst_set_low, get_set_16 h v (f := F.LG_HOUSE.CHG) rfl, State.get_set_other, htap]

omit h in
/-- The holdings of channel c lie apart from every account above them. -/
theorem get_set_held_low {f g : Fld} {c : Nat} (hf : f.addr = R.LG_HELD c) (hg : g.addr ≤ R.LG_HOUSE) :
    (s.set f v).get g = s.get g :=
  s.get_set_other f g v (by rw [hf]; exact (held_gt c _ hg).symm)

theorem sumCont_set_cont (c : Fin 24) :
    (s.set (F.LG_HELD.CONT c) v).sumCont + s.get (F.LG_HELD.CONT c) = s.sumCont + v % 65536 := by
  simp only [State.sumCont_eq_sum]
  rw [sum_replace (g := fun e : Fin 24 => s.get (F.LG_HELD.CONT e)) c fun e he =>
    s.get_set_other (F.LG_HELD.CONT c) (F.LG_HELD.CONT e) v (held_ne fun h => he (Fin.ext h)),
    get_set_16 h v (f := F.LG_HELD.CONT c) rfl]

theorem sumBurst_set_burst (c : Fin 24) :
    (s.set (F.LG_HELD.BURST c) v).sumBurst + s.get (F.LG_HELD.BURST c) = s.sumBurst + v % 65536 := by
  simp only [State.sumBurst_eq_sum]
  rw [sum_replace (g := fun e : Fin 24 => s.get (F.LG_HELD.BURST e)) c fun e he =>
    s.get_set_other (F.LG_HELD.BURST c) (F.LG_HELD.BURST e) v (held_ne fun h => he (Fin.ext h)),
    get_set_16 h v (f := F.LG_HELD.BURST c) rfl]

/-- A field in other bits keeps its value. -/
theorem get_set_apart_bits {f g : Fld} (hfg : f.apart g = true) : (s.set f v).get g = s.get g :=
  ((Reads.mk h rfl : Reads g (s.get g) s).set_apart f v hfg).get

theorem sumBurst_set_cont (c : Nat) : (s.set (F.LG_HELD.CONT c) v).sumBurst = s.sumBurst := by
  simp only [State.sumBurst_eq_sum]
  exact Finset.sum_congr rfl fun e _ => get_set_apart_bits h v rfl

theorem sumCont_set_burst (c : Nat) : (s.set (F.LG_HELD.BURST c) v).sumCont = s.sumCont := by
  simp only [State.sumCont_eq_sum]
  exact Finset.sum_congr rfl fun e _ => get_set_apart_bits h v rfl

theorem accounts_set_cont (c : Fin 24) : (s.set (F.LG_HELD.CONT c) v).accounts =
    { s.accounts with cont := s.sumCont + v % 65536 - s.get (F.LG_HELD.CONT c) } := by
  have hcont := Nat.eq_sub_of_add_eq (sumCont_set_cont h v c)
  simp (disch := decide) only [State.accounts, State.pool, State.free, State.burstPool, State.bfree, State.lent, hcont,
    sumBurst_set_cont h, get_set_held_low v (f := F.LG_HELD.CONT c) rfl]

theorem accounts_set_brst (c : Fin 24) : (s.set (F.LG_HELD.BURST c) v).accounts =
    { s.accounts with brst := s.sumBurst + v % 65536 - s.get (F.LG_HELD.BURST c) } := by
  have hbrst := Nat.eq_sub_of_add_eq (sumBurst_set_burst h v c)
  simp (disch := decide) only [State.accounts, State.pool, State.free, State.burstPool, State.bfree, State.lent, hbrst,
    sumCont_set_burst h, get_set_held_low v (f := F.LG_HELD.BURST c) rfl]

end

theorem cont_le_sumCont (s : State) (c : Fin 24) : s.get (F.LG_HELD.CONT c) ≤ s.sumCont :=
  s.sumCont_eq_sum ▸ Finset.single_le_sum (f := fun c : Fin 24 => s.get (F.LG_HELD.CONT c)) (fun _ _ => Nat.zero_le _)
    (Finset.mem_univ c)

theorem burst_le_sumBurst (s : State) (c : Fin 24) : s.get (F.LG_HELD.BURST c) ≤ s.sumBurst :=
  s.sumBurst_eq_sum ▸ Finset.single_le_sum (f := fun c : Fin 24 => s.get (F.LG_HELD.BURST c)) (fun _ _ => Nat.zero_le _)
    (Finset.mem_univ c)

theorem get_lt_16 (s : State) {f : Fld} (hf : decide (f.hi = f.lo + 15) = true) : s.get f < 65536 := by
  have hhi : f.hi = f.lo + 15 := of_decide_eq_true hf
  rw [State.get, bitsOf, hhi, Nat.add_sub_cancel_left]
  exact Nat.mod_lt _ (by decide)

end Sys2Proof.Machine
end

section
/-!
The books of the power ledger (R338 to R347): what serving requests, a fall of LENT, a reclaim and a rebase do to the
accounts, what the selector leaves of them, and the obligation that every command of both keeps them.
-/
namespace Sys2Proof.Machine

/-! ### The books -/

/-- Messages, requests and grants name tiles that exist, and the charger asks for no burst credits (R341, R342). -/
structure Tidy (l : Ledger) : Prop where
  asks   : ∀ a ∈ l.asks, a.who ≤ 24 ∧ (a.who = 24 → a.burst = 0)
  queue  : ∀ q ∈ l.queue, q.1 ≤ 24
  bqueue : ∀ q ∈ l.bqueue, q.1 < 24
  backs  : ∀ b ∈ l.backs, b.who ≤ 24
  recent : ∀ c ∈ l.recent, c < 24

theorem books_iff (s : State) : Claims.Books s ↔ s.accounts.Balanced ∧ Tidy s.ledger ∧ s.wf = true := by
  constructor
  · rintro ⟨hcont, hbrst, hcaps, ⟨hasks, hqueue, hbqueue, hbacks, hrecent⟩, hwf⟩
    exact ⟨⟨hcont, hbrst, hcaps⟩, ⟨hasks, hqueue, hbqueue, hbacks, hrecent⟩, hwf⟩
  · rintro ⟨⟨hcont, hbrst, hcaps⟩, ⟨hasks, hqueue, hbqueue, hbacks, hrecent⟩, hwf⟩
    exact ⟨hcont, hbrst, hcaps, ⟨hasks, hqueue, hbqueue, hbacks, hrecent⟩, hwf⟩

theorem books_balanced {s : State} (k : Claims.Books s) : s.accounts.Balanced := ((books_iff s).1 k).1
theorem books_tidy {s : State} (k : Claims.Books s) : Tidy s.ledger := ((books_iff s).1 k).2.1

/-- The accounts, the ledger and the canonical form stay. -/
structure LedgerKept (s t : State) : Prop where
  rd     : ∀ a, InAccounts a → t.rd a = s.rd a
  ledger : t.ledger = s.ledger
  wf     : s.wf = true → t.wf = true

theorem LedgerKept.refl (s : State) : LedgerKept s s := ⟨fun _ _ => rfl, rfl, id⟩

theorem LedgerKept.trans {s t u : State} (h : LedgerKept s t) (k : LedgerKept t u) : LedgerKept s u :=
  ⟨fun a ha => (k.rd a ha).trans (h.rd a ha), k.ledger.trans h.ledger, fun w => k.wf (h.wf w)⟩

theorem LedgerKept.books {s t : State} (h : LedgerKept s t) (k : Claims.Books s) : Claims.Books t :=
  (books_iff t).2 ⟨accounts_congr h.rd ▸ books_balanced k, h.ledger ▸ books_tidy k, h.wf k.wf⟩

theorem ledgerKept_set (s : State) (f : Fld) (v : Nat) (h : ¬ InAccounts f.addr) : LedgerKept s (s.set f v) :=
  ⟨fun _ ha => s.set_rd_other f v _ fun he => h (he ▸ ha), rfl, s.set_wf f v⟩

theorem ledgerKept_inc (s : State) (f : Fld) (n : Nat) (h : ¬ InAccounts f.addr) : LedgerKept s (s.inc f n) :=
  ledgerKept_set s f _ h

theorem ledgerKept_of_regs {s t : State} (hregs : t.regs = s.regs) (hmem : t.mem = s.mem) (hled : t.ledger = s.ledger) :
    LedgerKept s t :=
  ⟨fun a _ => by rw [State.rd, State.rd, hregs], hled, fun w => by rwa [State.wf, hregs, hmem]⟩

theorem OnlyTold.ledgerKept {s t : State} (h : OnlyTold s t) : LedgerKept s t := by
  refine ⟨fun a ha => h.regs a ?_, ?_, h.wf⟩
  · simp only [InAccounts, R.LG_POOL, R.LG_HOUSE, R.LG_HELD, R.LG_RSV] at ha
    omega
  · have hrest := congrArg State.ledger h.rest
    exact hrest

theorem ledgerKept_assertL (s : State) (src cond d0 : Nat) (d1 : Word) : LedgerKept s (s.assertL src cond d0 d1) := by
  simp only [State.assertL]
  split
  · exact .refl s
  · refine .trans (ledgerKept_of_regs ?_ ?_ ?_) (told_report _ _).ledgerKept <;> rfl

theorem ledgerKept_foldl {α : Type} (g : State → α → State) (hg : ∀ s a, LedgerKept s (g s a)) (l : List α) :
    ∀ s, LedgerKept s (l.foldl g s) := by
  induction l with
  | nil => exact fun s => .refl s
  | cons a l ih => exact fun s => (hg s a).trans (ih _)

theorem ledgerKept_houseEvt (s : State) (code detail : Nat) : LedgerKept s (s.houseEvt code detail) :=
  ((ledgerKept_set s F.HSE_EVT.CODE code (by decide)).trans (ledgerKept_set _ F.HSE_EVT.DETAIL detail (by decide))).trans
    (onlySent_notice _ _ _ _).told.ledgerKept

/-! ### Writes of accounts -/

/-- The accounts read a, the ledger beyond them is l, and the canonical form holds. -/
structure Holds (l : Ledger) (a : Accounts) (s : State) : Prop where
  accounts : s.accounts = a
  ledger   : s.ledger = l
  wf       : s.wf = true

section
variable {s : State} {l : Ledger} {a : Accounts}

theorem holds_self (hwf : s.wf = true) : Holds s.ledger s.accounts s := ⟨rfl, rfl, hwf⟩

theorem Holds.books (k : Holds l a s) (hb : a.Balanced) (hl : Tidy l) : Claims.Books s :=
  (books_iff s).2 ⟨k.accounts ▸ hb, k.ledger ▸ hl, k.wf⟩

variable (k : Holds l a s)
include k

theorem Holds.pool : s.pool = a.pool := congrArg Accounts.pool k.accounts
theorem Holds.burst : s.burstPool = a.burst := congrArg Accounts.burst k.accounts
theorem Holds.lent : s.lent = a.lent := congrArg Accounts.lent k.accounts
theorem Holds.tap : s.get F.LG_HOUSE.TAP = a.tap := congrArg Accounts.tap k.accounts
theorem Holds.chg : s.get F.LG_HOUSE.CHG = a.chg := congrArg Accounts.chg k.accounts
theorem Holds.cont : s.sumCont = a.cont := congrArg Accounts.cont k.accounts
theorem Holds.brst : s.sumBurst = a.brst := congrArg Accounts.brst k.accounts

theorem Holds.kept {t : State} (h : LedgerKept s t) : Holds l a t :=
  ⟨(accounts_congr h.rd).trans k.accounts, h.ledger.trans k.ledger, h.wf k.wf⟩

theorem Holds.modLedger (g : Ledger → Ledger) : Holds (g l) a (s.modLedger g) :=
  ⟨(accounts_of_regs rfl).trans k.accounts, congrArg g k.ledger, k.wf⟩

variable {v : Nat} (hv : v < 65536)
include hv

theorem Holds.set_pool : Holds l { a with pool := v } (s.set F.LG_POOL.CREDITS v) :=
  ⟨by rw [accounts_set_pool (State.wf_rwf k.wf), k.accounts, Nat.mod_eq_of_lt hv], k.ledger, s.set_wf _ _ k.wf⟩

theorem Holds.set_free : Holds l { a with free := v } (s.set F.LG_FREE.CREDITS v) :=
  ⟨by rw [accounts_set_free (State.wf_rwf k.wf), k.accounts, Nat.mod_eq_of_lt hv], k.ledger, s.set_wf _ _ k.wf⟩

theorem Holds.set_burst : Holds l { a with burst := v } (s.set F.LG_BURST.CREDITS v) :=
  ⟨by rw [accounts_set_burst (State.wf_rwf k.wf), k.accounts, Nat.mod_eq_of_lt hv], k.ledger, s.set_wf _ _ k.wf⟩

theorem Holds.set_bfree : Holds l { a with bfree := v } (s.set F.LG_BFREE.CREDITS v) :=
  ⟨by rw [accounts_set_bfree (State.wf_rwf k.wf), k.accounts, Nat.mod_eq_of_lt hv], k.ledger, s.set_wf _ _ k.wf⟩

theorem Holds.set_lent : Holds l { a with lent := v } (s.set F.LG_LENT.CREDITS v) :=
  ⟨by rw [accounts_set_lent (State.wf_rwf k.wf), k.accounts, Nat.mod_eq_of_lt hv], k.ledger, s.set_wf _ _ k.wf⟩

theorem Holds.set_tap : Holds l { a with tap := v } (s.set F.LG_HOUSE.TAP v) :=
  ⟨by rw [accounts_set_tap (State.wf_rwf k.wf), k.accounts, Nat.mod_eq_of_lt hv], k.ledger, s.set_wf _ _ k.wf⟩

theorem Holds.set_chg : Holds l { a with chg := v } (s.set F.LG_HOUSE.CHG v) :=
  ⟨by rw [accounts_set_chg (State.wf_rwf k.wf), k.accounts, Nat.mod_eq_of_lt hv], k.ledger, s.set_wf _ _ k.wf⟩

theorem Holds.set_cont (c : Fin 24) :
    Holds l { a with cont := a.cont + v - s.get (F.LG_HELD.CONT c) } (s.set (F.LG_HELD.CONT c) v) :=
  ⟨by rw [accounts_set_cont (State.wf_rwf k.wf), Nat.mod_eq_of_lt hv, ← k.accounts]; rfl, k.ledger, s.set_wf _ _ k.wf⟩

theorem Holds.set_brst (c : Fin 24) :
    Holds l { a with brst := a.brst + v - s.get (F.LG_HELD.BURST c) } (s.set (F.LG_HELD.BURST c) v) :=
  ⟨by rw [accounts_set_brst (State.wf_rwf k.wf), Nat.mod_eq_of_lt hv, ← k.accounts]; rfl, k.ledger, s.set_wf _ _ k.wf⟩

end

/-- The books in numbers: both identities, and that no account exceeds its register. -/
theorem books_numbers {s : State} (k : Claims.Books s) :
    s.pool + s.lent = s.sumCont + (s.get F.LG_HOUSE.TAP + s.get F.LG_HOUSE.CHG) + s.free ∧
    s.burstPool = s.sumBurst + s.lent + s.bfree ∧ s.pool ≤ 6000 ∧ s.burstPool ≤ 9000 :=
  ⟨k.cont, k.brst, k.caps⟩

theorem tapAdjust_keeps_books {s : State} (k : Claims.Books s) : Claims.Books s.tapAdjust := by
  obtain ⟨hcont, hbrst, hcaps⟩ := books_numbers k
  have hacc : Holds s.ledger _ s.tapAdjust := ((holds_self k.wf).set_tap (by omega)).set_free (by omega)
  refine hacc.books ⟨?_, ?_, ?_⟩ (books_tidy k) <;> simp only [State.accounts] <;> omega

/-! ### Serving requests (R342, R343) -/

theorem Holds.flit {s : State} {l : Ledger} {a : Accounts} (k : Holds l a s) (n dir cls : Nat) :
    Holds l a (s.flit n dir cls) := k.kept (told_flit s n dir cls).ledgerKept

/-- A tile's own record, grants and calls of the charger are no part of the books. -/
theorem modLedger_keeps_books {s : State} (k : Claims.Books s) (g : Ledger → Ledger) (hg : Tidy (g s.ledger)) :
    Claims.Books (s.modLedger g) :=
  ((holds_self k.wf).modLedger g).books (books_balanced k) hg

theorem tidy_grant {l : Ledger} (h : Tidy l) (c : Fin 24) (g : List Credit) :
    Tidy { l with grants := g, recent := c.val :: l.recent.filter (· != c.val) } :=
  ⟨h.asks, h.queue, h.bqueue, h.backs, fun e he => by
    rcases List.mem_cons.1 he with rfl | he
    · exact c.isLt
    · exact h.recent e (List.mem_of_mem_filter he)⟩

theorem grantTo_charger (s : State) (cont : Nat) (hne : cont ≠ 0) (hup : s.linkDown 6 = false) : s.grantTo 24 cont 0 =
    ((s.set F.LG_HOUSE.CHG (s.get F.LG_HOUSE.CHG + cont)).set F.LG_FREE.CREDITS (s.free - cont)).flit 6 0 0 := by
  simp only [State.grantTo, hup, Bool.and_false, Bool.or_false, Nat.add_zero, decide_eq_true_eq, if_neg hne, if_true]

theorem grantTo_channel (s : State) (c : Fin 24) (cont burst : Nat) (hne : cont + burst ≠ 0) : s.grantTo c cont burst =
    State.flit (((((s.set (F.LG_HELD.CONT c) (s.get (F.LG_HELD.CONT c) + cont)).set (F.LG_HELD.BURST c)
      (s.get (F.LG_HELD.BURST c) + burst)).set F.LG_FREE.CREDITS (s.free - cont)).set F.LG_BFREE.CREDITS
      (s.bfree - burst)).modLedger fun l =>
        { l with grants := l.grants ++ [⟨c, cont, burst⟩], recent := c.val :: l.recent.filter (· != c.val) }) (c / 4) 0 0 := by
  have hc : c.val ≠ 24 := Nat.ne_of_lt c.isLt
  simp only [State.grantTo, beq_eq_false_iff_ne.2 hc, Bool.false_and, Bool.or_false, decide_eq_true_eq, if_neg hne, if_neg hc]

theorem grantTo_nothing (s : State) (c : Nat) : s.grantTo c 0 0 = s := by
  simp [State.grantTo]

theorem grantTo_charger_down (s : State) (cont : Nat) (hdown : s.linkDown 6 = true) : s.grantTo 24 cont 0 = s := by
  simp [State.grantTo, hdown]

theorem grantTo_charger_keeps_books {s : State} (k : Claims.Books s) {cont : Nat} (hcont : cont ≤ s.free) :
    Claims.Books (s.grantTo 24 cont 0) := by
  by_cases hne : cont = 0
  · rwa [hne, grantTo_nothing]
  · cases hup : s.linkDown 6
    · obtain ⟨hc, hb, hp⟩ := books_numbers k
      rw [grantTo_charger s cont hne hup]
      refine ((((holds_self k.wf).set_chg (by omega)).set_free (by omega)).flit _ _ _).books ⟨?_, ?_, ?_⟩ (books_tidy k) <;>
        simp only [State.accounts] <;> omega
    · rwa [grantTo_charger_down s cont hup]

theorem grantTo_channel_keeps_books {s : State} (k : Claims.Books s) (c : Fin 24) {cont burst : Nat} (hcont : cont ≤ s.free)
    (hburst : burst ≤ s.bfree) : Claims.Books (s.grantTo c cont burst) := by
  by_cases hne : cont + burst = 0
  · obtain ⟨rfl, rfl⟩ : cont = 0 ∧ burst = 0 := by omega
    rwa [grantTo_nothing]
  · obtain ⟨hc, hb, hp⟩ := books_numbers k
    have h1 := cont_le_sumCont s c
    have h2 := burst_le_sumBurst s c
    have hheld : (s.set (F.LG_HELD.CONT c) (s.get (F.LG_HELD.CONT c) + cont)).get (F.LG_HELD.BURST c) =
      s.get (F.LG_HELD.BURST c) := get_set_apart_bits (State.wf_rwf k.wf) _ rfl
    rw [grantTo_channel s c cont burst hne]
    refine (((((((holds_self k.wf).set_cont (by omega) c).set_brst (by omega) c).set_free (by omega)).set_bfree
      (by omega)).modLedger _).flit _ _ _).books ⟨?_, ?_, ?_⟩ (tidy_grant (books_tidy k) c _) <;>
      simp only [State.accounts, hheld] <;> omega

theorem grantTo_keeps_books {s : State} (k : Claims.Books s) {c cont burst : Nat} (hc : c ≤ 24) (h24 : c = 24 → burst = 0)
    (hcont : cont ≤ s.free) (hburst : burst ≤ s.bfree) : Claims.Books (s.grantTo c cont burst) := by
  rcases Nat.eq_or_lt_of_le hc with rfl | hlt
  · rw [h24 rfl]
    exact grantTo_charger_keeps_books k hcont
  · exact grantTo_channel_keeps_books k ⟨c, hlt⟩ hcont hburst

theorem Tidy.with_queue {l : Ledger} (h : Tidy l) {q : List (Nat × Nat)} (hq : ∀ x ∈ q, x.1 ≤ 24) :
    Tidy { l with queue := q } :=
  ⟨h.asks, hq, h.bqueue, h.backs, h.recent⟩

theorem Tidy.with_bqueue {l : Ledger} (h : Tidy l) {q : List (Nat × Nat)} (hq : ∀ x ∈ q, x.1 < 24) :
    Tidy { l with bqueue := q } :=
  ⟨h.asks, h.queue, hq, h.backs, h.recent⟩

theorem serveCont_keeps_books (n : Nat) : ∀ {s : State}, Claims.Books s → Claims.Books (s.serveCont n) := by
  induction n with
  | zero => exact fun k => k
  | succ n ih =>
    intro s k
    have hq := (books_tidy k).queue
    have hgrant : ∀ q ∈ s.ledger.queue, ∀ m ≤ s.free, Claims.Books (s.grantTo q.1 m 0) := fun q hmem m hm =>
      grantTo_keeps_books k (hq q hmem) (fun _ => rfl) hm (Nat.zero_le _)
    simp only [State.serveCont]
    split
    · next q hfind =>
      have hmem := List.mem_of_find?_eq_some hfind
      split
      · next hle =>
        have hk := hgrant q hmem q.2 hle
        exact ih (modLedger_keeps_books hk _ ((books_tidy hk).with_queue fun x hx =>
          (books_tidy hk).queue x (List.mem_of_mem_filter hx)))
      · split
        · exact k
        · split
          · exact modLedger_keeps_books k _ ⟨(books_tidy k).asks, hq, (books_tidy k).bqueue, (books_tidy k).backs,
              (books_tidy k).recent⟩
          · have hk := hgrant q hmem s.free (Nat.le_refl _)
            refine modLedger_keeps_books hk _ ((books_tidy hk).with_queue fun x hx => ?_)
            obtain ⟨y, hy, rfl⟩ := List.mem_map.1 hx
            split
            · exact hq q hmem
            · exact (books_tidy hk).queue y hy
    · split
      · exact k
      · next q rest hcons =>
        have hmem : q ∈ s.ledger.queue := by rw [hcons]; exact List.mem_cons_self
        have hk := hgrant q hmem (if s.linkDown 6 then 0 else min q.2 s.free) (by split <;> omega)
        refine modLedger_keeps_books hk _ ((books_tidy hk).with_queue fun x hx => ?_)
        have hrest : ∀ y ∈ rest, y.1 ≤ 24 := fun y hy => hq y (by rw [hcons]; exact List.mem_cons_of_mem _ hy)
        by_cases hall : (if s.linkDown 6 then 0 else min q.2 s.free) = q.2
        · exact hrest x (by simpa only [if_pos hall] using hx)
        · rcases List.mem_cons.1 (by simpa only [if_neg hall] using hx) with rfl | hx
          · exact hq q hmem
          · exact hrest x hx

theorem ledgerKept_bwin (s : State) (v : Nat) : LedgerKept s (s.set F.LG_STAT.BWIN v) :=
  ledgerKept_set s F.LG_STAT.BWIN v (by decide)

theorem serveBurst_keeps_books (l : List (Nat × Nat)) : ∀ {s : State}, Claims.Books s → (∀ q ∈ l, q.1 < 24) →
    Claims.Books (s.serveBurst l) := by
  induction l with
  | nil => exact fun k _ => k
  | cons q rest ih =>
    intro s k hl
    have hq := hl q List.mem_cons_self
    have hrest : ∀ x ∈ rest, x.1 < 24 := fun x hx => hl x (List.mem_cons_of_mem _ hx)
    simp only [State.serveBurst]
    split
    · exact ih k hrest
    · have hk : Claims.Books ((s.grantTo q.1 0 (min q.2 s.bfree)).set F.LG_STAT.BWIN 1) :=
        (ledgerKept_bwin _ 1).books (grantTo_keeps_books k (Nat.le_of_lt hq) (fun h => absurd h (Nat.ne_of_lt hq))
          (Nat.zero_le _) (Nat.min_le_right _ _))
      refine ih (modLedger_keeps_books hk _ ((books_tidy hk).with_bqueue fun x hx => ?_)) hrest
      obtain ⟨y, hy, hxy⟩ := List.mem_filterMap.1 hx
      split at hxy
      · cases hxy
        exact (books_tidy hk).bqueue x hy
      · split at hxy
        · cases hxy
        · cases hxy
          exact hq

theorem serve_keeps_books {s : State} (k : Claims.Books s) : Claims.Books s.serve := by
  simp only [State.serve]
  split
  · exact k
  · have hk := serveCont_keeps_books 26 k
    exact serveBurst_keeps_books _ hk (books_tidy hk).bqueue

/-! ### LENT falls (R344) -/

/-- From s to t, m credits have moved from the continuous holdings to the burst holdings. -/
structure HeldMoved (s t : State) (m : Nat) : Prop where
  accounts : t.accounts = { s.accounts with cont := s.sumCont - m, brst := s.sumBurst + m }
  le       : m ≤ s.sumCont
  ledger   : ∃ x, t.ledger = { s.ledger with tiles := x }
  wf       : t.wf = true
  falls    : ∀ c : Fin 24, t.get (F.LG_HELD.CONT c) ≤ s.get (F.LG_HELD.CONT c)

theorem HeldMoved.trans {s t u : State} {m n : Nat} (h : HeldMoved s t m) (k : HeldMoved t u n) : HeldMoved s u (m + n) := by
  have hc : t.sumCont = s.sumCont - m := congrArg Accounts.cont h.accounts
  have hb : t.sumBurst = s.sumBurst + m := congrArg Accounts.brst h.accounts
  have hm := h.le
  have hn := k.le
  obtain ⟨x, hx⟩ := h.ledger
  obtain ⟨y, hy⟩ := k.ledger
  refine ⟨?_, by omega, ⟨y, by rw [hy, hx]⟩, k.wf, fun c => Nat.le_trans (k.falls c) (h.falls c)⟩
  rw [k.accounts, h.accounts, hc, hb, Nat.sub_sub, Nat.add_assoc]

/-- One channel gives up to d credits to its burst holding. -/
def heldStep (s : State) (d : Nat) (c : Fin 24) : State :=
  ((s.set (F.LG_HELD.CONT c) (s.get (F.LG_HELD.CONT c) - min d (s.get (F.LG_HELD.CONT c)))).set (F.LG_HELD.BURST c)
    (s.get (F.LG_HELD.BURST c) + min d (s.get (F.LG_HELD.CONT c)))).modLedger fun g =>
      { g with tiles := g.tiles.modify c fun t =>
        (t.1 - min d (s.get (F.LG_HELD.CONT c)), t.2 + min (min d (s.get (F.LG_HELD.CONT c))) t.1) }

theorem moveHeld_cons (s : State) (d : Nat) (c : Fin 24) (l : List Nat) : s.moveHeld d (c.val :: l) =
    (heldStep s d c).moveHeld (d - min d (s.get (F.LG_HELD.CONT c))) l := rfl

@[simp] theorem modLedger_get (s : State) (g : Ledger → Ledger) (f : Fld) : (s.modLedger g).get f = s.get f := rfl

theorem heldStep_get_cont {s : State} (h : s.rwf) (d : Nat) (c : Fin 24) :
    (heldStep s d c).get (F.LG_HELD.CONT c) = s.get (F.LG_HELD.CONT c) - min d (s.get (F.LG_HELD.CONT c)) := by
  have hlt := get_lt_16 s (f := F.LG_HELD.CONT c) rfl
  rw [heldStep, modLedger_get, get_set_apart_bits (s.set_rwf _ _ h) _ (f := F.LG_HELD.BURST c) rfl,
    get_set_16 h _ (f := F.LG_HELD.CONT c) rfl, Nat.mod_eq_of_lt (Nat.lt_of_le_of_lt (Nat.sub_le _ _) hlt)]

theorem heldStep_moves {s : State} (hwf : s.wf = true) (d : Nat) (c : Fin 24) (hd : s.sumBurst + d < 65536) :
    HeldMoved s (heldStep s d c) (min d (s.get (F.LG_HELD.CONT c))) := by
  have hr := State.wf_rwf hwf
  have h1 := cont_le_sumCont s c
  have h2 := burst_le_sumBurst s c
  have h3 := get_lt_16 s (f := F.LG_HELD.CONT c) rfl
  have hheld : (s.set (F.LG_HELD.CONT c) (s.get (F.LG_HELD.CONT c) - min d (s.get (F.LG_HELD.CONT c)))).get
    (F.LG_HELD.BURST c) = s.get (F.LG_HELD.BURST c) := get_set_apart_bits hr _ rfl
  have hold : Holds _ _ (heldStep s d c) := (((holds_self hwf).set_cont (by omega) c).set_brst (by omega) c).modLedger _
  refine ⟨?_, by omega, ⟨_, rfl⟩, hold.wf, fun e => ?_⟩
  · rw [hold.accounts, hheld]
    simp only [State.accounts, Accounts.mk.injEq, true_and]
    omega
  · by_cases he : e = c
    · rw [he, heldStep_get_cont hr]
      omega
    · have hne : (F.LG_HELD.CONT e).addr ≠ R.LG_HELD c := held_ne fun h => he (Fin.ext h)
      rw [heldStep, modLedger_get, State.get_set_other _ _ _ _ hne, State.get_set_other _ _ _ _ hne]

theorem moveHeld_moves (l : List Nat) : ∀ {s : State} {d : Nat}, s.wf = true → (∀ c ∈ l, c < 24) → s.sumBurst + d < 65536 →
    ∃ m, m ≤ d ∧ HeldMoved s (s.moveHeld d l) m ∧ (m = d ∨ ∀ c ∈ l, (s.moveHeld d l).get (F.LG_HELD.CONT c) = 0) := by
  induction l with
  | nil =>
    intro s d hwf _ _
    exact ⟨0, Nat.zero_le _, ⟨rfl, Nat.zero_le _, ⟨_, rfl⟩, hwf, fun _ => Nat.le_refl _⟩, .inr (by simp)⟩
  | cons c l ih =>
    intro s d hwf hl hd
    obtain ⟨c, rfl⟩ : ∃ e : Fin 24, e.val = c := ⟨⟨c, hl c List.mem_cons_self⟩, rfl⟩
    have hstep := heldStep_moves hwf d c hd
    have hget := heldStep_get_cont (State.wf_rwf hwf) d c
    have hb : (heldStep s d c).sumBurst = _ := congrArg Accounts.brst hstep.accounts
    obtain ⟨m, hm, hmoved, hall⟩ := ih (d := d - min d (s.get (F.LG_HELD.CONT c))) hstep.wf
      (fun e he => hl e (List.mem_cons_of_mem _ he)) (by simp only [hb]; omega)
    rw [moveHeld_cons]
    refine ⟨_, ?_, hstep.trans hmoved, ?_⟩
    · omega
    · rcases hall with hall | hall
      · exact .inl (by omega)
      · by_cases hfull : min d (s.get (F.LG_HELD.CONT c)) = d
        · exact .inl (by omega)
        · refine .inr fun e he => ?_
          rcases List.mem_cons.1 he with rfl | he
          · have := hmoved.falls c
            omega
          · exact hall e he

/-- Only holdings and the tiles' records may have changed: LENT, queues and messages stay, and the canonical form. -/
structure LentKept (s t : State) : Prop where
  lent   : t.lent = s.lent
  ledger : ∃ x, t.ledger = { s.ledger with tiles := x }
  wf     : s.wf = true → t.wf = true

theorem LentKept.refl (s : State) : LentKept s s := ⟨rfl, ⟨_, rfl⟩, id⟩

theorem LentKept.trans {s t u : State} (h : LentKept s t) (k : LentKept t u) : LentKept s u := by
  obtain ⟨x, hx⟩ := h.ledger
  obtain ⟨y, hy⟩ := k.ledger
  exact ⟨k.lent.trans h.lent, ⟨y, by rw [hy, hx]⟩, fun w => k.wf (h.wf w)⟩

theorem lentKept_set (s : State) (f : Fld) (v : Nat) (h : F.LG_LENT.CREDITS.addr ≠ f.addr) : LentKept s (s.set f v) :=
  ⟨s.get_set_other f _ v h, ⟨_, rfl⟩, s.set_wf f v⟩

theorem lentKept_held (s : State) (c : Nat) {f : Fld} (hf : f.addr = R.LG_HELD c) (v : Nat) : LentKept s (s.set f v) :=
  lentKept_set s f v (by rw [hf]; exact (held_gt c _ (by decide)).symm)

theorem lentKept_tiles (s : State) (g : List (Nat × Nat) → List (Nat × Nat)) :
    LentKept s (s.modLedger fun l => { l with tiles := g l.tiles }) := ⟨rfl, ⟨_, rfl⟩, id⟩

theorem lentKept_moveHeld (l : List Nat) : ∀ (s : State) (d : Nat), LentKept s (s.moveHeld d l) := by
  induction l with
  | nil => exact fun s _ => .refl s
  | cons c l ih =>
    intro s d
    exact (((lentKept_held s c (f := F.LG_HELD.CONT c) rfl _).trans (lentKept_held _ c (f := F.LG_HELD.BURST c) rfl _)).trans
      (lentKept_tiles _ _)).trans (ih _ _)

theorem lentKept_houseFall (s : State) (n : Nat) : LentKept s (s.houseFall n) :=
  (lentKept_set s F.LG_HOUSE.CHG _ (by decide)).trans (lentKept_set _ F.LG_HOUSE.TAP _ (by decide))

/-- The channels in the order in which a fall of LENT takes from them: the most recent grants first. -/
def fallOrder (s : State) : List Nat := s.ledger.recent ++ (List.range 24).filter fun c => !s.ledger.recent.contains c

theorem mem_fallOrder (s : State) (c : Fin 24) : c.val ∈ fallOrder s := by
  simp only [fallOrder, List.mem_append, List.mem_filter, List.mem_range, c.isLt, true_and, Bool.not_eq_true',
    List.contains_eq_mem, decide_eq_false_iff_not]
  exact Classical.em _

theorem fallOrder_lt {s : State} (h : Tidy s.ledger) : ∀ c ∈ fallOrder s, c < 24 := by
  intro c hc
  rcases List.mem_append.1 hc with hc | hc
  · exact h.recent c hc
  · exact List.mem_range.1 (List.mem_of_mem_filter hc)

/-- What of a fall of LENT FREE does not cover, and what of that the channels' holdings do. -/
def fallShort (s : State) (d : Nat) : Nat := d - s.free
def fallMoved (s : State) (d : Nat) : Nat := min (fallShort s d) s.sumCont

/-- The state in which the holdings fall. -/
def fallBegun (s : State) (d : Nat) : State :=
  ((s.set F.LG_LENT.CREDITS (s.lent - d)).set F.LG_FREE.CREDITS (s.free - d)).set F.LG_BFREE.CREDITS
    (s.bfree + (d - fallMoved s d))

def fallDone (s : State) (d : Nat) : State :=
  ((fallBegun s d).moveHeld (fallMoved s d) (fallOrder s)).houseFall (fallShort s d - fallMoved s d)

theorem lentFall_eq (s : State) (d : Nat) : s.lentFall d =
    if fallMoved s d = 0 || (fallDone s d).ledger.recover then fallDone s d else (fallDone s d).set F.LG_STAT.BWIN 1 := rfl

theorem lentFall_kept (s : State) (d : Nat) : LedgerKept (fallDone s d) (s.lentFall d) := by
  rw [lentFall_eq]
  split
  · exact .refl _
  · exact ledgerKept_bwin _ 1

theorem lentFall_keeps_lent {s : State} (hwf : s.wf = true) (d : Nat) :
    (s.lentFall d).lent = s.lent - d ∧ (∃ x, (s.lentFall d).ledger = { s.ledger with tiles := x }) ∧
    (s.lentFall d).wf = true := by
  have hset : (s.set F.LG_LENT.CREDITS (s.lent - d)).lent = s.lent - d := by
    have hlt : s.lent < 65536 := get_lt_16 s (f := F.LG_LENT.CREDITS) rfl
    exact (get_set_16 (State.wf_rwf hwf) _ (f := F.LG_LENT.CREDITS) rfl).trans (Nat.mod_eq_of_lt (by omega))
  have hkept : LentKept (s.set F.LG_LENT.CREDITS (s.lent - d)) (fallDone s d) :=
    (((lentKept_set _ F.LG_FREE.CREDITS _ (by decide)).trans (lentKept_set _ F.LG_BFREE.CREDITS _ (by decide))).trans
      (lentKept_moveHeld _ _ _)).trans (lentKept_houseFall _ _)
  have hfall := lentFall_kept s d
  refine ⟨(congrArg Accounts.lent (accounts_congr hfall.rd)).trans (hkept.lent.trans hset), ?_,
    hfall.wf (hkept.wf (s.set_wf _ _ hwf))⟩
  rw [hfall.ledger]
  exact hkept.ledger

theorem lentFall_keeps_books {s : State} (k : Claims.Books s) {d : Nat} (hd : d ≤ s.lent) : Claims.Books (s.lentFall d) := by
  obtain ⟨hcont, hbrst, hcaps⟩ := books_numbers k
  refine (lentFall_kept s d).books ?_
  have hmoved : fallMoved s d = min (d - s.free) s.sumCont := rfl
  have hbegun : Holds s.ledger _ (fallBegun s d) :=
    (((holds_self k.wf).set_lent (by omega)).set_free (by omega)).set_bfree (by omega)
  have hb : (fallBegun s d).sumBurst = s.sumBurst := congrArg Accounts.brst hbegun.accounts
  have hc : (fallBegun s d).sumCont = s.sumCont := congrArg Accounts.cont hbegun.accounts
  obtain ⟨m, hm, hmv, hall⟩ := moveHeld_moves (fallOrder s) (s := fallBegun s d) (d := fallMoved s d) hbegun.wf
    (fallOrder_lt (books_tidy k)) (by omega)
  have hfull : m = fallMoved s d := by
    rcases hall with hall | hall
    · exact hall
    · have hzero : ((fallBegun s d).moveHeld (fallMoved s d) (fallOrder s)).sumCont = 0 := by
        rw [State.sumCont_eq_sum]
        exact Finset.sum_eq_zero fun c _ => hall c (mem_fallOrder s c)
      have hleft : ((fallBegun s d).moveHeld (fallMoved s d) (fallOrder s)).sumCont = (fallBegun s d).sumCont - m :=
        congrArg Accounts.cont hmv.accounts
      omega
  subst hfull
  obtain ⟨x, hx⟩ := hmv.ledger
  have hacc := hmv.accounts.trans (by rw [hbegun.accounts, hb, hc])
  have hheld : Holds _ _ ((fallBegun s d).moveHeld (fallMoved s d) (fallOrder s)) := ⟨hacc, hx, hmv.wf⟩
  have hchg : ((fallBegun s d).moveHeld (fallMoved s d) (fallOrder s)).get F.LG_HOUSE.CHG = s.get F.LG_HOUSE.CHG :=
    congrArg Accounts.chg hacc
  have htap : ((fallBegun s d).moveHeld (fallMoved s d) (fallOrder s)).get F.LG_HOUSE.TAP = s.get F.LG_HOUSE.TAP :=
    congrArg Accounts.tap hacc
  have hdone : Holds _ _ (fallDone s d) := (hheld.set_chg (by omega)).set_tap (by omega)
  have htidy := books_tidy k
  have hshort : fallShort s d = d - s.free := rfl
  refine hdone.books ⟨?_, ?_, ?_⟩ ⟨htidy.asks, htidy.queue, htidy.bqueue, htidy.backs, htidy.recent⟩
  all_goals
    simp only [State.accounts, htap, hchg]
    omega

/-! ### Reclaim and rebase (R340, R346) -/

theorem mem_allCh (c : Fin 24) : c ∈ allCh := List.mem_finRange c

/-- Of the accounts only the continuous holdings differ. -/
structure ContOnly (s t : State) : Prop where
  accounts : ∃ n, t.accounts = { s.accounts with cont := n }
  ledger   : t.ledger = s.ledger
  wf       : t.wf = true

theorem ContOnly.refl {s : State} (hwf : s.wf = true) : ContOnly s s := ⟨⟨_, rfl⟩, rfl, hwf⟩

theorem ContOnly.trans {s t u : State} (h : ContOnly s t) (k : ContOnly t u) : ContOnly s u := by
  obtain ⟨m, hm⟩ := h.accounts
  obtain ⟨n, hn⟩ := k.accounts
  exact ⟨⟨n, by rw [hn, hm]⟩, k.ledger.trans h.ledger, k.wf⟩

theorem contOnly_set {s : State} (hwf : s.wf = true) (c : Fin 24) {v : Nat} (hv : v < 65536) :
    ContOnly s (s.set (F.LG_HELD.CONT c) v) := by
  have h := (holds_self hwf).set_cont hv c
  exact ⟨⟨_, h.accounts⟩, h.ledger, h.wf⟩

theorem contOnly_takeAbove (excess total : Nat) (l : List (Fin 24)) : ∀ {s : State}, s.wf = true →
    ContOnly s (s.takeAbove excess total l) := by
  induction l with
  | nil => exact fun h => .refl h
  | cons c l ih =>
    intro s hwf
    have hlt := get_lt_16 s (f := F.LG_HELD.CONT c) rfl
    have hset := contOnly_set hwf c (v := s.get (F.LG_HELD.CONT c) - min (s.get (F.LG_HELD.CONT c) - s.get (F.LG_RSV.RSV c))
      ((excess * (s.get (F.LG_HELD.CONT c) - s.get (F.LG_RSV.RSV c)) + total - 1) / max 1 total))
      (Nat.lt_of_le_of_lt (Nat.sub_le _ _) hlt)
    exact hset.trans (ih hset.wf)

/-- A holding scaled down by num / den, where num does not exceed den. -/
theorem scaled_le (x : Nat) {num den : Nat} (h : num ≤ den) : x * num / max 1 den ≤ x := by
  refine Nat.div_le_of_le_mul ?_
  rw [Nat.mul_comm]
  exact Nat.mul_le_mul_right x (by omega)

theorem scaleHeld_scales {num den : Nat} (h : num ≤ den) (l : List (Fin 24)) : ∀ {s : State}, s.wf = true → l.Nodup →
    ContOnly s (s.scaleHeld num den l) ∧ ∀ e : Fin 24, (s.scaleHeld num den l).get (F.LG_HELD.CONT e) =
      if e ∈ l then s.get (F.LG_HELD.CONT e) * num / max 1 den else s.get (F.LG_HELD.CONT e) := by
  induction l with
  | nil => exact fun hwf _ => ⟨.refl hwf, by simp [State.scaleHeld]⟩
  | cons c l ih =>
    intro s hwf hnd
    obtain ⟨hc, hnd⟩ := List.nodup_cons.1 hnd
    have hlt : s.get (F.LG_HELD.CONT c) * num / max 1 den < 65536 :=
      Nat.lt_of_le_of_lt (scaled_le _ h) (get_lt_16 s (f := F.LG_HELD.CONT c) rfl)
    have hset := contOnly_set hwf c hlt
    obtain ⟨honly, hget⟩ := ih hset.wf hnd
    refine ⟨hset.trans honly, fun e => ?_⟩
    show ((s.set (F.LG_HELD.CONT c) (s.get (F.LG_HELD.CONT c) * num / max 1 den)).scaleHeld num den l).get _ = _
    rw [hget]
    by_cases he : e = c
    · subst he
      rw [if_neg hc, if_pos List.mem_cons_self, get_set_16 (State.wf_rwf hwf) _ (f := F.LG_HELD.CONT e) rfl,
        Nat.mod_eq_of_lt hlt]
    · have hother : (s.set (F.LG_HELD.CONT c) (s.get (F.LG_HELD.CONT c) * num / max 1 den)).get (F.LG_HELD.CONT e) =
          s.get (F.LG_HELD.CONT e) := s.get_set_other _ _ _ (held_ne fun h => he (Fin.ext h))
      simp only [hother, List.mem_cons, he, false_or]

theorem scaleHeld_sum {s : State} {num den : Nat} (hwf : s.wf = true) (h : num ≤ den) :
    (s.scaleHeld num den allCh).sumCont * max 1 den ≤ s.sumCont * num := by
  have hget := (scaleHeld_scales h allCh hwf (List.nodup_finRange 24)).2
  rw [State.sumCont_eq_sum, State.sumCont_eq_sum, Finset.sum_mul, Finset.sum_mul]
  refine Finset.sum_le_sum fun c _ => ?_
  rw [hget, if_pos (mem_allCh c)]
  exact Nat.div_mul_le_self _ _

theorem dropBurst_drops (l : List (Fin 24)) : ∀ {s : State}, s.wf = true →
    (∃ n, Holds s.ledger { s.accounts with brst := n } (s.dropBurst l)) ∧
    ∀ e : Fin 24, (s.dropBurst l).get (F.LG_HELD.BURST e) = if e ∈ l then 0 else s.get (F.LG_HELD.BURST e) := by
  induction l with
  | nil => exact fun hwf => ⟨⟨_, holds_self hwf⟩, by simp [State.dropBurst]⟩
  | cons c l ih =>
    intro s hwf
    have hset := (holds_self hwf).set_brst (v := 0) (by decide) c
    obtain ⟨⟨n, hhold⟩, hget⟩ := ih hset.wf
    rw [hset.accounts, hset.ledger] at hhold
    refine ⟨⟨n, hhold⟩, fun e => ?_⟩
    show ((s.set (F.LG_HELD.BURST c) 0).dropBurst l).get _ = _
    rw [hget]
    by_cases he : e = c
    · subst he
      rw [if_pos List.mem_cons_self, get_set_16 (State.wf_rwf hwf) _ (f := F.LG_HELD.BURST e) rfl]
      exact ite_self _
    · have hother : (s.set (F.LG_HELD.BURST c) 0).get (F.LG_HELD.BURST e) = s.get (F.LG_HELD.BURST e) :=
        s.get_set_other _ _ _ (held_ne fun h => he (Fin.ext h))
      simp only [hother, List.mem_cons, he, false_or]

/-- Every burst holding is given up. -/
theorem dropBurst_holds {s : State} {l : Ledger} {a : Accounts} (k : Holds l a s) :
    Holds l { a with brst := 0 } (s.dropBurst allCh) := by
  obtain ⟨⟨n, hhold⟩, hget⟩ := dropBurst_drops allCh k.wf
  rw [k.accounts, k.ledger] at hhold
  have hzero : (s.dropBurst allCh).sumBurst = 0 := by
    rw [State.sumBurst_eq_sum]
    exact Finset.sum_eq_zero fun c _ => by rw [hget, if_pos (mem_allCh c)]
  have hn : n = 0 := (congrArg Accounts.brst hhold.accounts).symm.trans hzero
  rwa [hn] at hhold

/-- The holdings and HOUSE after a reclaim fit the pool (Table 12-7). -/
def reclaimCut (s : State) : State :=
  let used := s.sumCont + s.get F.LG_HOUSE.TAP
  if used ≤ s.pool then s
  else
    let excess := used - s.pool
    let above := (allCh.map fun (c : Fin 24) => s.get (F.LG_HELD.CONT c) - s.get (F.LG_RSV.RSV c)).foldl (· + ·) 0
    let a := s.takeAbove excess above allCh
    let left := a.sumCont + a.get F.LG_HOUSE.TAP
    if left ≤ s.pool then a
    else ((a.scaleHeld s.pool left allCh).set F.LG_HOUSE.TAP (a.get F.LG_HOUSE.TAP * s.pool / max 1 left)).set
      F.LG_STAT.RSV_CUT 1

theorem reclaimCut_fits {s : State} (hwf : s.wf = true) : ∃ n t, n + t ≤ s.pool ∧
    Holds s.ledger { s.accounts with cont := n, tap := t } (reclaimCut s) := by
  simp only [reclaimCut]
  split
  · next hfit => exact ⟨_, _, hfit, holds_self hwf⟩
  · have htake := contOnly_takeAbove (s.sumCont + s.get F.LG_HOUSE.TAP - s.pool)
      ((allCh.map fun (c : Fin 24) => s.get (F.LG_HELD.CONT c) - s.get (F.LG_RSV.RSV c)).foldl (· + ·) 0) allCh hwf
    generalize s.takeAbove _ _ allCh = a at htake ⊢
    obtain ⟨n, hn⟩ := htake.accounts
    have htap : a.get F.LG_HOUSE.TAP = s.get F.LG_HOUSE.TAP := congrArg Accounts.tap hn
    have hcont : a.sumCont = n := congrArg Accounts.cont hn
    split
    · next hfit => exact ⟨n, s.get F.LG_HOUSE.TAP, by rwa [hcont, htap] at hfit, hn, htake.ledger, htake.wf⟩
    · next hover =>
      have hle : s.pool ≤ a.sumCont + a.get F.LG_HOUSE.TAP := Nat.le_of_not_le hover
      have hscale := (scaleHeld_scales hle allCh htake.wf (List.nodup_finRange 24)).1
      have hsum := scaleHeld_sum htake.wf hle
      generalize a.scaleHeld s.pool (a.sumCont + a.get F.LG_HOUSE.TAP) allCh = b at hscale hsum ⊢
      obtain ⟨m, hm⟩ := hscale.accounts
      have hb : Holds s.ledger { s.accounts with cont := m } b :=
        ⟨by rw [hm, hn], hscale.ledger.trans htake.ledger, hscale.wf⟩
      have hlt : a.get F.LG_HOUSE.TAP * s.pool / max 1 (a.sumCont + a.get F.LG_HOUSE.TAP) < 65536 :=
        Nat.lt_of_le_of_lt (scaled_le _ hle) (get_lt_16 a (f := F.LG_HOUSE.TAP) rfl)
      refine ⟨m, _, ?_, (hb.set_tap hlt).kept (ledgerKept_set _ F.LG_STAT.RSV_CUT 1 (by decide))⟩
      have hbm : b.sumCont = m := congrArg Accounts.cont hm
      refine Nat.le_of_mul_le_mul_right (c := max 1 (a.sumCont + a.get F.LG_HOUSE.TAP)) ?_
        (Nat.lt_of_lt_of_le Nat.one_pos (Nat.le_max_left _ _))
      calc (m + a.get F.LG_HOUSE.TAP * s.pool / max 1 (a.sumCont + a.get F.LG_HOUSE.TAP)) *
            max 1 (a.sumCont + a.get F.LG_HOUSE.TAP)
          ≤ a.sumCont * s.pool + a.get F.LG_HOUSE.TAP * s.pool := by
            rw [Nat.add_mul]
            exact Nat.add_le_add (hbm ▸ hsum) (Nat.div_mul_le_self _ _)
        _ = s.pool * (a.sumCont + a.get F.LG_HOUSE.TAP) := by rw [← Nat.add_mul, Nat.mul_comm]
        _ ≤ s.pool * max 1 (a.sumCont + a.get F.LG_HOUSE.TAP) := Nat.mul_le_mul_left _ (Nat.le_max_right _ _)

/-- The reclaim sets both free accounts to what the pools leave, and its marks. -/
theorem reclaim_eq (s : State) :
    let c := reclaimCut ((s.set F.LG_HOUSE.CHG 0).dropBurst allCh)
    s.reclaim = State.updSwitching (State.modLedger (((((c.set F.LG_FREE.CREDITS
      (c.pool - c.sumCont - c.get F.LG_HOUSE.TAP)).set F.LG_BFREE.CREDITS c.burstPool).set F.LG_STAT.RECLAIM 1).inc
      F.LG_STAT.RECLAIMS).set F.LG_STAT.BWIN (if s.is F.LG_STAT.BWIN then 0 else s.get F.LG_STAT.BWIN))
      fun l => { l with grants := [], backs := [], chgCall := false, recover := l.recover || s.is F.LG_STAT.BWIN }) := rfl

theorem ledgerKept_updSwitching (s : State) : LedgerKept s s.updSwitching :=
  ledgerKept_set s F.HSE_SEL_STAT.SWITCHING _ (by decide)

theorem tidy_reclaimed {l : Ledger} (h : Tidy l) (r : Bool) :
    Tidy { l with grants := [], backs := [], chgCall := false, recover := r } :=
  ⟨h.asks, h.queue, h.bqueue, by simp, h.recent⟩

theorem reclaim_balances {s : State} (hwf : s.wf = true) (htidy : Tidy s.ledger) (hlent : s.lent = 0)
    (hcaps : s.pool ≤ 6000 ∧ s.burstPool ≤ 9000) : Claims.Books s.reclaim := by
  obtain ⟨hpool, hburst⟩ := hcaps
  have hdrop := dropBurst_holds ((holds_self hwf).set_chg (v := 0) (by decide))
  obtain ⟨n, t, hfit, hcut⟩ := reclaimCut_fits hdrop.wf
  rw [hdrop.accounts, hdrop.ledger] at hcut
  have hp : ((s.set F.LG_HOUSE.CHG 0).dropBurst allCh).pool = s.pool := hdrop.pool
  rw [reclaim_eq]
  generalize reclaimCut ((s.set F.LG_HOUSE.CHG 0).dropBurst allCh) = c at hcut ⊢
  have hcp : c.pool = s.pool := hcut.pool
  have hcb : c.burstPool = s.burstPool := hcut.burst
  have hcc : c.sumCont = n := hcut.cont
  have hct : c.get F.LG_HOUSE.TAP = t := hcut.tap
  have hfree := (hcut.set_free (v := c.pool - c.sumCont - c.get F.LG_HOUSE.TAP) (by omega)).set_bfree
    (v := c.burstPool) (by omega)
  have hmarks := ((ledgerKept_set ((c.set F.LG_FREE.CREDITS (c.pool - c.sumCont - c.get F.LG_HOUSE.TAP)).set
    F.LG_BFREE.CREDITS c.burstPool) F.LG_STAT.RECLAIM 1 (by decide)).trans
    (ledgerKept_inc _ F.LG_STAT.RECLAIMS 1 (by decide))).trans (ledgerKept_bwin _
    (if s.is F.LG_STAT.BWIN then 0 else s.get F.LG_STAT.BWIN))
  have hacc := ((hfree.kept hmarks).modLedger fun l =>
      { l with grants := [], backs := [], chgCall := false, recover := l.recover || s.is F.LG_STAT.BWIN }).kept
    (ledgerKept_updSwitching _)
  refine hacc.books ⟨?_, ?_, ?_⟩ (tidy_reclaimed htidy _) <;> simp only [State.accounts] <;> omega

/-- Both pools of Table 12-6 lie within its limits. -/
theorem poolsAt_le (s : State) (v : Nat) : (s.poolsAt v).1 ≤ 6000 ∧ (s.poolsAt v).2 ≤ 9000 := by
  simp only [State.poolsAt]
  split
  · constructor <;> omega
  · split
    · constructor <;> omega
    · decide

/-- A rebase puts the books in order whatever the accounts were. -/
theorem rebase_balances {s : State} (hwf : s.wf = true) (htidy : Tidy s.ledger) (v : Nat) : Claims.Books (s.rebase v) := by
  obtain ⟨hlent, ⟨x, hled⟩, hfall⟩ := lentFall_keeps_lent hwf s.lent
  rw [Nat.sub_self] at hlent
  obtain ⟨hp, hb⟩ := poolsAt_le (s.lentFall s.lent) v
  have htidy' : Tidy (s.lentFall s.lent).ledger := by
    rw [hled]
    exact ⟨htidy.asks, htidy.queue, htidy.bqueue, htidy.backs, htidy.recent⟩
  simp only [State.rebase]
  generalize s.lentFall s.lent = u at hlent hfall hp hb htidy' ⊢
  generalize u.poolsAt v = pb at hp hb ⊢
  obtain ⟨p, b⟩ := pb
  have hset := (((holds_self hfall).set_pool (v := p) (by omega)).set_burst (v := b) (by omega)).modLedger
    fun l => { l with vBase := v }
  dsimp only
  generalize State.modLedger ((u.set F.LG_POOL.CREDITS p).set F.LG_BURST.CREDITS b) _ = w at hset ⊢
  have hwp : w.pool = p := congrArg Accounts.pool hset.accounts
  have hwb : w.burstPool = b := congrArg Accounts.burst hset.accounts
  have hwl : w.lent = 0 := (congrArg Accounts.lent hset.accounts).trans hlent
  have hwt : Tidy w.ledger := by
    rw [hset.ledger]
    exact ⟨htidy'.asks, htidy'.queue, htidy'.bqueue, htidy'.backs, htidy'.recent⟩
  have hh : w.houseAcct = w.get F.LG_HOUSE.TAP + w.get F.LG_HOUSE.CHG := rfl
  split
  · exact reclaim_balances hset.wf hwt hwl (by simp only at hp hb; omega)
  · next hfits =>
    simp only [Bool.or_eq_true, decide_eq_true_eq, not_or, Nat.not_lt] at hfits
    simp only at hp hb
    have hfree := ((holds_self hset.wf).set_free (v := p - w.sumCont - w.houseAcct) (by omega)).set_bfree
      (v := b - w.sumBurst) (by omega)
    refine serve_keeps_books (tapAdjust_keeps_books (hfree.books ⟨?_, ?_, ?_⟩ hwt)) <;> simp only [State.accounts] <;> omega

/-! ### What the selector leaves of the books (R323, R325, R333) -/

section
variable {s t : State} (h : LedgerKept s t)
include h

theorem LedgerKept.set (f : Fld) (v : Nat) (hf : ¬ InAccounts f.addr) : LedgerKept s (t.set f v) :=
  h.trans (ledgerKept_set t f v hf)

theorem LedgerKept.modHouse (g : House → House) : LedgerKept s (t.modHouse g) := h.trans (ledgerKept_of_regs rfl rfl rfl)

theorem LedgerKept.modCg (k : Fin 25) (g : Charger → Charger) : LedgerKept s (t.modCg k g) :=
  h.trans (ledgerKept_of_regs rfl rfl rfl)

theorem LedgerKept.houseEvt (code detail : Nat) : LedgerKept s (t.houseEvt code detail) :=
  h.trans (ledgerKept_houseEvt t code detail)

theorem LedgerKept.updSwitching : LedgerKept s t.updSwitching := h.trans (ledgerKept_updSwitching t)

end

theorem ledgerKept_ite {p : Prop} [Decidable p] {s t u : State} (ht : LedgerKept s t) (hu : LedgerKept s u) :
    LedgerKept s (if p then t else u) := by
  split
  · exact ht
  · exact hu

theorem ledgerKept_raise (s : State) (src cond d0 : Nat) (d1 : Word) : LedgerKept s (s.raise src cond d0 d1) :=
  (told_report _ _).ledgerKept

/-- The registers of PACK's charger. -/
theorem packCharger_addrs : ¬ InAccounts (R.CG_STAT 24) ∧ ¬ InAccounts (R.CG_LATCH 24) ∧ ¬ InAccounts (R.CG_TIME 24) ∧
    ¬ InAccounts (R.CG_IEFF 24) := by decide

theorem ledgerKept_cgTime (s : State) : LedgerKept s (s.cgTime 24) :=
  ((LedgerKept.refl s).set (F.CG_TIME.PHASE_T 24) _ packCharger_addrs.2.2.1).set (F.CG_TIME.TOTAL 24) _ packCharger_addrs.2.2.1

theorem ledgerKept_phaseEvent (s : State) : LedgerKept s (s.phaseEvent 24) := ledgerKept_houseEvt s _ _

theorem ledgerKept_enterPhase (s : State) (p : Nat) : LedgerKept s (s.enterPhase 24 p) := by
  obtain ⟨hstat, hlatch, -⟩ := packCharger_addrs
  simp only [State.enterPhase]
  refine .trans (.trans ?_ (ledgerKept_cgTime _)) (ledgerKept_phaseEvent _)
  generalize hs3 : (if p = phDone then _ else _ : State) = s3
  have h3 : LedgerKept s s3 := by
    rw [← hs3]
    have hphase := ((((LedgerKept.refl s).set (F.CG_STAT.PHASE 24) p hstat).set (F.CG_STAT.PREV 24) p hstat).set
      (F.CG_STAT.RREASON 24) 0 hstat).modCg 24
    exact ledgerKept_ite ((hphase _).set (F.CG_LATCH.DONE 24) 1 hlatch) (hphase _)
  exact ledgerKept_ite (h3.set F.PK_SOC.SOC _ (by decide)) h3

/-- PACK's charger is in FAULT with a code. -/
def packFaulted (s : State) (code : Nat) : State :=
  (((s.set (F.CG_STAT.FCODE 24) code).set (F.CG_LATCH.FAULT 24) 1).seti (F.CG_IEFF.I_CHG 24) 0).enterPhase 24 phFault

theorem cgFault_pack (s : State) (code : Nat) :
    s.cgFault 24 code = (packFaulted s code).raise 329 2 0 ((packFaulted s code).rd (R.CG_STAT 24)) := rfl

theorem ledgerKept_cgFault (s : State) (code : Nat) : LedgerKept s (s.cgFault 24 code) := by
  obtain ⟨hstat, hlatch, -, hieff⟩ := packCharger_addrs
  rw [cgFault_pack]
  refine .trans (.trans ?_ (ledgerKept_enterPhase _ phFault)) (ledgerKept_raise _ _ _ _ _)
  exact (((LedgerKept.refl s).set _ _ hstat).set _ _ hlatch).set _ _ hieff

/-- PACK's charger has begun a cycle (R152). -/
def packStarted (s : State) (i0 : Int) : State :=
  ((((s.modCg 24 fun g => { running := true, r := i0, throttle := g.throttle }).zoneParams 24).set (F.CG_STAT.FCODE 24) 0).set
    (F.CG_STAT.ZONE 24) 5).enterPhase 24 phQualify

theorem cgStart_pack (s : State) (i0 : Int) : s.cgStart 24 i0 =
    if (packStarted s i0).cgOrderOk 24 then packStarted s i0 else (packStarted s i0).cgFault 24 0x0A := rfl

theorem ledgerKept_cgStart (s : State) (i0 : Int) : LedgerKept s (s.cgStart 24 i0) := by
  obtain ⟨hstat, -⟩ := packCharger_addrs
  have hstart : LedgerKept s (packStarted s i0) :=
    (((((LedgerKept.refl s).modCg 24 _).modCg 24 _).set _ _ hstat).set _ _ hstat).trans (ledgerKept_enterPhase _ _)
  rw [cgStart_pack]
  exact ledgerKept_ite hstart (hstart.trans (ledgerKept_cgFault _ _))

theorem ledgerKept_packFollow (s : State) (restart : Bool) (new : Nat) : LedgerKept s (s.packFollow restart new) :=
  ledgerKept_ite (ledgerKept_ite (ledgerKept_cgStart s _) (.refl s))
    (ledgerKept_set s (F.CG_IEFF.I_CHG 24) _ packCharger_addrs.2.2.2)

/-- SRC names its new source, and PACK's charger follows. -/
def srcTaken (s : State) (new : Nat) : State :=
  ((s.set F.HSE_SEL_STAT.SRC new).modHouse fun h =>
    { h with before := if new = srcDead then s.src else h.before,
             packRan := new == srcPack || (h.packRan && new != 1 && new != 2) }).packFollow s.house.packRan new

theorem setSrc_eq (s : State) (new : Nat) : s.setSrc new =
    if new = srcDead then srcTaken s new
    else (if new = srcNone then srcTaken s new else (srcTaken s new).incWrap F.HSE_SEL_STAT.SWCNT).houseEvt 0x01
      (new + 16 * if s.src = srcDead then s.house.before else s.src) := rfl

theorem ledgerKept_srcTaken (s : State) (new : Nat) : LedgerKept s (srcTaken s new) :=
  (((LedgerKept.refl s).set F.HSE_SEL_STAT.SRC new (by decide)).modHouse _).trans (ledgerKept_packFollow _ _ _)

theorem ledgerKept_setSrc (s : State) (new : Nat) : LedgerKept s (s.setSrc new) := by
  have hsrc := ledgerKept_srcTaken s new
  rw [setSrc_eq]
  exact ledgerKept_ite hsrc ((ledgerKept_ite hsrc (hsrc.set F.HSE_SEL_STAT.SWCNT _ (by decide))).houseEvt _ _)

theorem feedStat_addr {f : Nat} (hf : f ≤ 1) : ¬ InAccounts (R.FD_STAT f) ∧ ¬ InAccounts (R.FD_LATCH f) := by
  simp only [InAccounts, R.FD_STAT, R.FD_LATCH, R.LG_POOL, R.LG_HOUSE, R.LG_HELD, R.LG_RSV]
  omega

theorem priority_le (s : State) : s.get F.HSE_SEL_CFG.PRI ≤ 1 := Nat.le_of_lt_succ (Nat.mod_lt _ (by decide))

theorem mem_pickFeeds_le {s : State} {tested : Bool} {f : Nat} (h : f ∈ s.pickFeeds tested) : f ≤ 1 := by
  have hp := priority_le s
  have hmem := List.mem_of_mem_filter h
  simp only [List.mem_cons, List.not_mem_nil, or_false] at hmem
  omega

theorem ledgerKept_selTry (s : State) : LedgerKept s s.selTry := by
  refine ledgerKept_ite ?_ (.refl s)
  split
  · next f hpick =>
    exact ((LedgerKept.refl s).set (F.FD_STAT.STATE f) fdConnecting
      (feedStat_addr (mem_pickFeeds_le (List.mem_of_head? hpick))).1).updSwitching
  · exact .refl s

theorem ltReg_addr (g i : Nat) : ¬ InAccounts (R.LT_CTRL g i) ∧ ¬ InAccounts (R.LT_STAT g i) := by
  simp only [InAccounts, R.LT_CTRL, R.LT_STAT, R.LG_POOL, R.LG_HOUSE, R.LG_HELD, R.LG_RSV]
  omega

theorem ledgerKept_ltCloseAt (s : State) (g code : Nat) (l : List Nat) : LedgerKept s (s.ltCloseAt g code l) := by
  refine ledgerKept_foldl _ (fun s i => ledgerKept_ite ?_ (.refl s)) l s
  obtain ⟨hctrl, hstat⟩ := ltReg_addr g i
  exact ((((LedgerKept.refl s).set (F.LT_CTRL.MODE g i) 0 hctrl).set (F.LT_STAT.RUN g i) 0 hstat).set (F.LT_STAT.LOCK g i) 0
    hstat).set (F.LT_STAT.END g i) code hstat

theorem ledgerKept_planned (s : State) (f : Nat) : LedgerKept s (s.planned f) := by
  have haddr := (feedStat_addr (f := 1 - f) (by omega)).1
  have hsrc := (((LedgerKept.refl s).set (F.FD_STAT.STATE (1 - f)) fdQualified haddr).set (F.FD_STAT.REV (1 - f)) 0
    haddr).trans (ledgerKept_setSrc _ srcDead)
  exact hsrc.modHouse fun h => { h with target := some f, failed := none, opened := [] }

/-- A feed leaves for state st: its latches, HSE_FEED_f and the house event. -/
def feedLeft (s : State) (f st : Nat) (bit : Fld) : State :=
  let s1 := ((s.set (F.FD_STAT.STATE f) st).set bit 1).set (F.FD_LATCH.FAILOVER f) 1
  let s2 := ((s1.set (F.FD_STAT.REV f) 0).modHouse fun h =>
    { h with opened := h.opened.filter (· != f), failed := if s.src = f + 1 then some f else h.failed }).updSwitching
  let s3 := s2.assertL (326 + f) 1 0 (s2.rd (R.FD_LATCH f))
  s3.houseEvt 0x02 (f + 256 * (s3.rd (R.FD_LATCH f)).toNat)

theorem feedFail_eq (s : State) (f st : Nat) (bit : Fld) : s.feedFail f st bit =
    if s.feed f = fdConnecting || s.feed f = fdConnected then
      if (feedLeft s f st bit).src = f + 1 then
        ((feedLeft s f st bit).setSrc srcDead).modHouse fun h => { h with target := none }
      else (feedLeft s f st bit).selTry
    else s := rfl

theorem ledgerKept_feedLeft (s : State) (f : Fin 2) (st : Nat) {bit : Fld} (hbit : bit.addr = R.FD_LATCH f) :
    LedgerKept s (feedLeft s f st bit) := by
  obtain ⟨hstat, hlatch⟩ := feedStat_addr (Nat.le_of_lt_succ f.isLt)
  have hlatched := ((((LedgerKept.refl s).set (F.FD_STAT.STATE f) st hstat).set bit 1 (hbit ▸ hlatch)).set
    (F.FD_LATCH.FAILOVER f) 1 hlatch).set (F.FD_STAT.REV f) 0 hstat
  exact (((hlatched.modHouse _).updSwitching).trans (ledgerKept_assertL _ _ _ _ _)).houseEvt _ _

theorem ledgerKept_feedFail (s : State) (f : Fin 2) (st : Nat) {bit : Fld} (hbit : bit.addr = R.FD_LATCH f) :
    LedgerKept s (s.feedFail f st bit) := by
  have hleft := ledgerKept_feedLeft s f st hbit
  rw [feedFail_eq]
  exact ledgerKept_ite (ledgerKept_ite ((hleft.trans (ledgerKept_setSrc _ _)).modHouse _)
    (hleft.trans (ledgerKept_selTry _))) (.refl s)

/-! ### The commands of the ledger -/

theorem packStop_keeps_books {s : State} (k : Claims.Books s) : Claims.Books s.packStop := by
  have hsrc := ledgerKept_setSrc s srcNone
  simp only [State.packStop]
  split
  · exact (ledgerKept_selTry _).books (rebase_balances (hsrc.wf k.wf) (hsrc.ledger ▸ books_tidy k) 0)
  · exact k

theorem books_of_next {t u : State} (h : (Host.Outcome.next u : Out) = .next t) (k : Claims.Books u) : Claims.Books t := by
  cases h
  exact k

theorem books_ite {p : Prop} [Decidable p] {t u : State} (ht : Claims.Books t) (hu : Claims.Books u) :
    Claims.Books (if p then t else u) := by
  split
  · exact ht
  · exact hu

/-- A rebase after a feed took up its state: the books are in order whatever the feed's number was. -/
theorem connect_balances {s : State} (hwf : s.wf = true) (htidy : Tidy s.ledger) (f st new v : Nat) :
    Claims.Books ((((s.set (F.FD_STAT.STATE f) st).updSwitching).setSrc new).rebase v) := by
  have hsrc := (ledgerKept_updSwitching (s.set (F.FD_STAT.STATE f) st)).trans (ledgerKept_setSrc _ new)
  exact rebase_balances (hsrc.wf (s.set_wf _ _ hwf)) (hsrc.ledger ▸ htidy) v

theorem setSrc_rebase_balances {s : State} (k : Claims.Books s) (new v : Nat) : Claims.Books ((s.setSrc new).rebase v) := by
  have hsrc := ledgerKept_setSrc s new
  exact rebase_balances (hsrc.wf k.wf) (hsrc.ledger ▸ books_tidy k) v

/-- A switchover ends in a rebase, whatever its target names. -/
theorem switchoverConnect_keeps_books {s t : State} (k : Claims.Books s) (level : Bool) (v : Nat)
    (h : exec (.switchoverConnect level v) s = .next t) : Claims.Books t := by
  refine books_of_next h (books_ite k ?_)
  have hfree : ∀ l, Claims.Books ((s.modHouse fun h => { h with target := none, failed := none }).ltCloseAt 3 2 l) := fun l =>
    (((LedgerKept.refl s).modHouse _).trans (ledgerKept_ltCloseAt _ 3 2 l)).books k
  dsimp only
  split
  · next f _ => exact connect_balances (hfree _).wf (books_tidy (hfree _)) f _ _ v
  · exact (ledgerKept_selTry _).books (books_ite (setSrc_rebase_balances (hfree _) _ _) (setSrc_rebase_balances (hfree _) _ _))

theorem Tidy.with_tiles {l : Ledger} (h : Tidy l) (x : List (Nat × Nat)) : Tidy { l with tiles := x } :=
  ⟨h.asks, h.queue, h.bqueue, h.backs, h.recent⟩

theorem reclaimComplete_keeps_books {s t : State} (k : Claims.Books s) (h : exec .reclaimComplete s = .next t) :
    Claims.Books t := by
  refine books_of_next h (books_ite ?_ k)
  have hends := (ledgerKept_set s F.LG_STAT.RECLAIM 0 (by decide)).books k
  have htiles := modLedger_keeps_books hends (fun l => { l with
    tiles := allCh.map (fun (c : Fin 24) => (s.get (F.LG_HELD.CONT c), s.get (F.LG_HELD.BURST c))) })
    ((books_tidy hends).with_tiles _)
  refine (ledgerKept_selTry _).books (serve_keeps_books (tapAdjust_keeps_books (LedgerKept.books ?_ htiles)))
  exact ((((ledgerKept_updSwitching _).set (F.CG_IEFF.I_CHG 24) _ packCharger_addrs.2.2.2).set (F.CG_STAT.BIND_CREDIT 24) _
    packCharger_addrs.1).houseEvt _ _)

theorem flit_keeps_books {s : State} (k : Claims.Books s) (l dir cls : Nat) : Claims.Books (s.flit l dir cls) :=
  (told_flit s l dir cls).ledgerKept.books k

theorem giveBack_keeps_books {s : State} (k : Claims.Books s) (c : Fin 24) (n : Nat) : Claims.Books (s.giveBack c n) := by
  have htidy := books_tidy k
  refine books_ite k (flit_keeps_books (modLedger_keeps_books k _
    ⟨htidy.asks, htidy.queue, htidy.bqueue, ?_, htidy.recent⟩) _ _ _)
  intro b hb
  rcases List.mem_append.1 hb with hb | hb
  · exact htidy.backs b hb
  · rw [List.mem_singleton.1 hb]
    exact Nat.le_of_lt c.isLt

theorem askFor_keeps_books {s : State} (k : Claims.Books s) (c : Fin 24) (cont burst : Nat) :
    Claims.Books (s.askFor c cont burst) := by
  have htidy := books_tidy k
  refine flit_keeps_books (modLedger_keeps_books k (fun l =>
    { l with asks := l.asks.filter (fun a => a.who != c.val) ++ [⟨c, cont, burst⟩], surplus := l.surplus.set c 0 })
    ⟨?_, htidy.queue, htidy.bqueue, htidy.backs, htidy.recent⟩) _ _ _
  intro a ha
  rcases List.mem_append.1 ha with ha | ha
  · exact htidy.asks a (List.mem_of_mem_filter ha)
  · rw [List.mem_singleton.1 ha]
    exact ⟨Nat.le_of_lt c.isLt, fun h => absurd h (Nat.ne_of_lt c.isLt)⟩

theorem surplus_keeps_books {s : State} (k : Claims.Books s) (g : List Nat → List Nat) :
    Claims.Books (s.modLedger fun l => { l with surplus := g l.surplus }) :=
  have htidy := books_tidy k
  modLedger_keeps_books k _ ⟨htidy.asks, htidy.queue, htidy.bqueue, htidy.backs, htidy.recent⟩

theorem creditEvaluation_keeps_books {s t : State} (k : Claims.Books s) (c : Fin 24) (draw : Int)
    (h : exec (.creditEvaluation c draw) s = .next t) : Claims.Books t :=
  books_of_next h (books_ite k (books_ite (giveBack_keeps_books k c _) (books_ite (askFor_keeps_books k c _ _)
    (books_ite (askFor_keeps_books k c _ _) (books_ite
      (books_ite (giveBack_keeps_books k c _) (surplus_keeps_books k fun l => l.set c _))
      (surplus_keeps_books k fun l => l.set c _))))))

theorem mem_enqueue {who n : Nat} {q : List (Nat × Nat)} {x : Nat × Nat} (h : x ∈ enqueue who n q) :
    x ∈ q ∨ (x = (who, n) ∧ n ≠ 0) := by
  simp only [enqueue] at h
  split at h
  · exact .inl (List.mem_of_mem_filter h)
  · next hn =>
    split at h
    · obtain ⟨y, hy, rfl⟩ := List.mem_map.1 h
      split
      · exact .inr ⟨rfl, hn⟩
      · exact .inl hy
    · rcases List.mem_append.1 h with h | h
      · exact .inl h
      · exact .inr ⟨List.mem_singleton.1 h, hn⟩

theorem tidy_arrived {l : Ledger} (h : Tidy l) {a : Credit} {rest : List Credit} (hasks : l.asks = a :: rest) :
    Tidy { l with asks := rest, queue := enqueue a.who a.cont l.queue, bqueue := enqueue a.who a.burst l.bqueue } := by
  obtain ⟨hwho, h24⟩ := h.asks a (by rw [hasks]; exact List.mem_cons_self)
  refine ⟨fun b hb => h.asks b (by rw [hasks]; exact List.mem_cons_of_mem _ hb), fun q hq => ?_, fun q hq => ?_,
    h.backs, h.recent⟩
  · rcases mem_enqueue hq with hq | ⟨rfl, -⟩
    · exact h.queue q hq
    · exact hwho
  · rcases mem_enqueue hq with hq | ⟨rfl, hne⟩
    · exact h.bqueue q hq
    · exact Nat.lt_of_le_of_ne hwho fun he => hne (h24 he)

theorem creditRequest_keeps_books {s t : State} (k : Claims.Books s) (h : exec .creditRequest s = .next t) :
    Claims.Books t := by
  refine books_of_next h ?_
  split
  · exact serve_keeps_books k
  · next hasks => exact serve_keeps_books (modLedger_keeps_books k _ (tidy_arrived (books_tidy k) hasks))

theorem creditGrant_keeps_books {s t : State} (k : Claims.Books s) (h : exec .creditGrant s = .next t) : Claims.Books t := by
  have htidy := books_tidy k
  refine books_of_next h ?_
  split
  · exact k
  · exact modLedger_keeps_books k _ ⟨htidy.asks, htidy.queue, htidy.bqueue, htidy.backs, htidy.recent⟩

/-- The charger's credits come back, as far as the house account still holds them. -/
theorem chargerReturn_keeps_books {s : State} (k : Claims.Books s) (n : Nat) : Claims.Books
    ((s.set F.LG_HOUSE.CHG (s.get F.LG_HOUSE.CHG - min n (s.get F.LG_HOUSE.CHG))).set F.LG_FREE.CREDITS
      (s.free + min n (s.get F.LG_HOUSE.CHG))) := by
  obtain ⟨hcont, hbrst, hcaps⟩ := books_numbers k
  refine (((holds_self k.wf).set_chg (by omega)).set_free (by omega)).books ⟨?_, ?_, ?_⟩ (books_tidy k) <;>
    simp only [State.accounts] <;> omega

/-- A channel's credits come back, each kind as far as its holding covers it. -/
theorem channelReturn_keeps_books {s : State} (k : Claims.Books s) (c : Fin 24) {a d : Nat}
    (ha : a ≤ s.get (F.LG_HELD.CONT c)) (hd : d ≤ s.get (F.LG_HELD.BURST c)) : Claims.Books
    ((((s.set (F.LG_HELD.CONT c) (s.get (F.LG_HELD.CONT c) - a)).set (F.LG_HELD.BURST c)
      (s.get (F.LG_HELD.BURST c) - d)).set F.LG_FREE.CREDITS (s.free + a)).set F.LG_BFREE.CREDITS (s.bfree + d)) := by
  obtain ⟨hcont, hbrst, hcaps⟩ := books_numbers k
  have h1 := cont_le_sumCont s c
  have h2 := burst_le_sumBurst s c
  have hheld : (s.set (F.LG_HELD.CONT c) (s.get (F.LG_HELD.CONT c) - a)).get (F.LG_HELD.BURST c) =
    s.get (F.LG_HELD.BURST c) := get_set_apart_bits (State.wf_rwf k.wf) _ rfl
  refine (((((holds_self k.wf).set_cont (by omega) c).set_brst (by omega) c).set_free (by omega)).set_bfree
    (by omega)).books ⟨?_, ?_, ?_⟩ (books_tidy k) <;> simp only [State.accounts, hheld] <;> omega

theorem creditReturn_keeps_books {s t : State} (k : Claims.Books s) (h : exec .creditReturn s = .next t) : Claims.Books t := by
  have htidy := books_tidy k
  refine books_of_next h ?_
  split
  · exact k
  · next b rest hbacks =>
    have hrest : ∀ x ∈ rest, x.who ≤ 24 := fun x hx => htidy.backs x (by rw [hbacks]; exact List.mem_cons_of_mem _ hx)
    have hb : b.who ≤ 24 := htidy.backs b (by rw [hbacks]; exact List.mem_cons_self)
    have htaken := modLedger_keeps_books k (fun l => { l with backs := rest })
      ⟨htidy.asks, htidy.queue, htidy.bqueue, hrest, htidy.recent⟩
    refine serve_keeps_books (tapAdjust_keeps_books ?_)
    split
    · exact chargerReturn_keeps_books htaken b.cont
    · next hne =>
      exact channelReturn_keeps_books htaken ⟨b.who, by omega⟩ (Nat.min_le_right _ _) (Nat.min_le_right _ _)

theorem chargerReclaimAck_keeps_books {s t : State} (k : Claims.Books s) (h : exec .chargerReclaimAck s = .next t) :
    Claims.Books t := by
  obtain ⟨hcont, hbrst, hcaps⟩ := books_numbers k
  have htidy := books_tidy k
  refine books_of_next h (books_ite (serve_keeps_books ?_) k)
  have hfreed : Claims.Books (((s.set F.LG_HOUSE.CHG 0).set F.LG_FREE.CREDITS (s.free + s.get F.LG_HOUSE.CHG)).modLedger
      fun l => { l with chgCall := false }) := by
    refine ((((holds_self k.wf).set_chg (by omega)).set_free (by omega)).modLedger _).books ⟨?_, ?_, ?_⟩
      ⟨htidy.asks, htidy.queue, htidy.bqueue, htidy.backs, htidy.recent⟩ <;> simp only [State.accounts] <;> omega
  exact (((LedgerKept.refl _).set (F.CG_STAT.BIND_CREDIT 24) _ packCharger_addrs.1).set (F.CG_IEFF.I_CHG 24) _
    packCharger_addrs.2.2.2).books hfreed

theorem burstWindowClose_keeps_books {s t : State} (k : Claims.Books s) (h : exec .burstWindowClose s = .next t) :
    Claims.Books t := by
  obtain ⟨hcont, hbrst, hcaps⟩ := books_numbers k
  have htidy := books_tidy k
  refine books_of_next h (books_ite ?_ k)
  have hdrop := dropBurst_holds ((holds_self k.wf).set_bfree (v := s.bfree + s.sumBurst) (by omega))
  refine ((hdrop.kept (ledgerKept_bwin _ 0)).modLedger _).books ⟨?_, ?_, ?_⟩
    ⟨htidy.asks, htidy.queue, htidy.bqueue, fun b hb => ?_, htidy.recent⟩
  · simp only [State.accounts]
    omega
  · simp only [State.accounts]
    omega
  · exact hcaps
  · obtain ⟨x, hx, rfl⟩ := List.mem_map.1 hb
    exact htidy.backs x hx

theorem lentUpdate_keeps_books {s t : State} (k : Claims.Books s) (regen : Nat) (h : exec (.lentUpdate regen) s = .next t) :
    Claims.Books t := by
  obtain ⟨hcont, hbrst, hcaps⟩ := books_numbers k
  refine books_of_next h (books_ite k ?_)
  dsimp only
  generalize hnew : (if s.srcFeed then min (96 * regen / 100000) (s.lent + s.bfree) else 0) = new
  have hle : new ≤ s.lent + s.bfree := by
    rw [← hnew]
    split <;> omega
  split
  · refine serve_keeps_books (tapAdjust_keeps_books ?_)
    refine ((((holds_self k.wf).set_lent (by omega)).set_free (by omega)).set_bfree (by omega)).books ⟨?_, ?_, ?_⟩
      (books_tidy k) <;> simp only [State.accounts] <;> omega
  · exact lentFall_keeps_books k (Nat.sub_le _ _)

theorem burstWindowRecover_keeps_books {s t : State} (k : Claims.Books s) (h : exec .burstWindowRecover s = .next t) :
    Claims.Books t := by
  have htidy := books_tidy k
  exact books_of_next h (books_ite (serve_keeps_books (modLedger_keeps_books k _
    ⟨htidy.asks, htidy.queue, htidy.bqueue, htidy.backs, htidy.recent⟩)) k)

/-! ### The commands of the selector -/

theorem selGoto_keeps_books {s : State} (k : Claims.Books s) (w : Word) : Claims.Books (s.selGoto w) :=
  books_ite k (books_ite ((ledgerKept_set s F.HSE_SEL_STAT.CFG_REJ 1 (by decide)).books k) ((ledgerKept_planned s _).books k))

theorem packCutoff_keeps_books {s t : State} (k : Claims.Books s) (h : exec .packCutoff s = .next t) : Claims.Books t :=
  books_of_next h (books_ite ((ledgerKept_houseEvt _ _ _).books (packStop_keeps_books
    ((ledgerKept_set s F.PK_LATCH.CUTOFF 1 (by decide)).books k))) k)

theorem packSwitchTrip_keeps_books {s t : State} (k : Claims.Books s) (h : exec .packSwitchTrip s = .next t) :
    Claims.Books t := by
  have htrip : LedgerKept s ((s.set F.PK_LATCH.SW_TRIP 1).modHouse fun h => { h with packOff := true }) :=
    ((LedgerKept.refl s).set _ _ (by decide)).modHouse _
  exact books_of_next h (packStop_keeps_books ((htrip.trans (ledgerKept_raise _ _ _ _ _)).books k))

theorem feedQualified_keeps_books {s t : State} (k : Claims.Books s) (f : Fin 2) (h : exec (.feedQualified f) s = .next t) :
    Claims.Books t := by
  have hstat := (feedStat_addr (Nat.le_of_lt_succ f.isLt)).1
  exact books_of_next h (books_ite (((((LedgerKept.refl s).set (F.FD_STAT.STATE f) fdQualified hstat).houseEvt _ _).trans
    (ledgerKept_selTry _)).books k) k)

theorem feedFailure_keeps_books {s t : State} (k : Claims.Books s) (f : Fin 2) (high : Bool)
    (h : exec (.feedFailure f high) s = .next t) : Claims.Books t := by
  refine books_of_next h ((ledgerKept_feedFail s f _ ?_).books k)
  cases high <;> rfl

/-- Settles O39: each write of an account moves the nine accounts in a known way, so each update is linear arithmetic on
them; a rebase puts the books in order from any accounts, and the selector's other steps touch none of them. -/
theorem ledgerKeepsItsBooks : Obligations.LedgerKeepsItsBooks := by
  intro i s t hi k h
  unfold Claims.ofLedger at hi
  split at hi
  case h_1 v => exact books_of_next h (books_ite (rebase_balances k.wf (books_tidy k) v) k)
  case h_2 => exact reclaimComplete_keeps_books k h
  case h_3 c draw => exact creditEvaluation_keeps_books k c draw h
  case h_4 => exact creditRequest_keeps_books k h
  case h_5 => exact creditGrant_keeps_books k h
  case h_6 => exact creditReturn_keeps_books k h
  case h_7 => exact chargerReclaimAck_keeps_books k h
  case h_8 => exact burstWindowClose_keeps_books k h
  case h_9 => exact burstWindowRecover_keeps_books k h
  case h_10 regen => exact lentUpdate_keeps_books k regen h
  case h_11 level v => exact switchoverConnect_keeps_books k level v h
  case h_12 => exact books_of_next h (books_ite ((ledgerKept_planned s _).books k) k)
  case h_13 rq w => exact books_of_next h (books_ite (selGoto_keeps_books k w) k)
  case h_14 => exact packCutoff_keeps_books k h
  case h_15 => exact packSwitchTrip_keeps_books k h
  case h_16 f high => exact feedFailure_keeps_books k f high h
  case h_17 f => exact feedQualified_keeps_books k f h
  case h_18 => cases hi

end Sys2Proof.Machine
end

section
/-!
House feeds and the selector (R321 to R328, R331, R334): what a field keeps through events and assertions, a feed that
fails, an inrush that completes, and the obligation about them.
-/
namespace Sys2Proof.Machine

/-! ### A field through reports and house events -/

theorem OnlyTold.house {s t : State} (h : OnlyTold s t) : t.house = s.house := by
  have hrest := congrArg State.house h.rest
  exact hrest

@[simp] theorem assertL_house (s : State) (src cond d0 : Nat) (d1 : Word) : (s.assertL src cond d0 d1).house = s.house := by
  simp only [State.assertL]
  split
  · rfl
  · exact (told_report _ _).house

@[simp] theorem houseEvt_house (s : State) (code detail : Nat) : (s.houseEvt code detail).house = s.house :=
  (onlySent_notice _ _ _ _).told.house

theorem houseEvt_get (s : State) (code detail : Nat) {g : Fld} (h : g.addr < 0x50800) (he : g.addr ≠ R.HSE_EVT) :
    (s.houseEvt code detail).get g = s.get g :=
  ((onlySent_notice _ _ _ _).told.get g (.inl h)).trans
    (((s.set F.HSE_EVT.CODE code).get_set_other F.HSE_EVT.DETAIL g detail he).trans (s.get_set_other F.HSE_EVT.CODE g code he))

/-! ### Feeds that fail (R324, R330) -/

/-- A feed that drives BUS or begins to. -/
def FeedLive (s : State) (f : Nat) : Prop := s.feed f = 3 ∨ s.feed f = 4

theorem feedLive_iff (s : State) (f : Nat) :
    (s.feed f = fdConnecting || s.feed f = fdConnected : Bool) = true ↔ FeedLive s f := by
  rw [Bool.or_eq_true, decide_eq_true_eq, decide_eq_true_eq]
  exact Iff.rfl

theorem feedFail_idle (s : State) (f n : Nat) (b : Fld) (h : ¬ FeedLive s f) : s.feedFail f n b = s :=
  if_neg (mt (feedLive_iff s f).1 h)

theorem feedFail_live (s : State) (f n : Nat) (b : Fld) (h : FeedLive s f) : s.feedFail f n b =
    if (feedLeft s f n b).src = f + 1 then ((feedLeft s f n b).setSrc srcDead).modHouse fun h => { h with target := none }
    else (feedLeft s f n b).selTry := by
  rw [feedFail_eq, if_pos ((feedLive_iff s f).2 h)]

/-- Another register, or other bits of it. -/
def Fld.clearOf (g f : Fld) : Bool := decide (g.addr ≠ f.addr) || f.apart g

theorem Reads.set_clear {g : Fld} {v : Nat} {s : State} (k : Reads g v s) (f : Fld) (w : Nat) (h : g.clearOf f = true) :
    Reads g v (s.set f w) := by
  rcases Bool.or_eq_true_iff.1 h with h | h
  · exact k.set_other f w (of_decide_eq_true h)
  · exact k.set_apart f w h

theorem Reads.modHouse {g : Fld} {v : Nat} {s : State} (k : Reads g v s) (f : House → House) : Reads g v (s.modHouse f) :=
  ⟨k.rwf, k.get⟩

theorem Reads.updSwitching {g : Fld} {v : Nat} {s : State} (k : Reads g v s) (h : g.clearOf F.HSE_SEL_STAT.SWITCHING = true) :
    Reads g v s.updSwitching := k.set_clear F.HSE_SEL_STAT.SWITCHING _ h

theorem Reads.assertL {g : Fld} {v : Nat} {s : State} (k : Reads g v s) (src cond d0 : Nat) (d1 : Word) :
    Reads g v (s.assertL src cond d0 d1) := k.of_regs (assertL_regs s src cond d0 d1)

/-- A field that neither the reports nor the selector's own updates write. -/
def Fld.quiet (g : Fld) : Bool :=
  decide (g.addr < 0x50800) && decide (g.addr ≠ R.HSE_EVT) && decide (g.addr ≠ R.CG_IEFF 24) &&
    g.clearOf F.HSE_SEL_STAT.SWITCHING

theorem Fld.quiet_iff (g : Fld) : g.quiet = true ↔ g.addr < 0x50800 ∧ g.addr ≠ R.HSE_EVT ∧ g.addr ≠ R.CG_IEFF 24 ∧
    g.clearOf F.HSE_SEL_STAT.SWITCHING = true := by
  simp [Fld.quiet, and_assoc]

/-- The fields of feed f as a failure writes them. -/
def feedLatched (s : State) (f n : Nat) (b : Fld) : State :=
  (((s.set (F.FD_STAT.STATE f) n).set b 1).set (F.FD_LATCH.FAILOVER f) 1).set (F.FD_STAT.REV f) 0

theorem feedLeft_get {s : State} {f n : Nat} {b g : Fld} {v : Nat} (hq : g.quiet = true)
    (k : Reads g v (feedLatched s f n b)) : (feedLeft s f n b).get g = v := by
  obtain ⟨hlow, hevt, -, hsw⟩ := g.quiet_iff.1 hq
  exact (houseEvt_get _ _ _ hlow hevt).trans (((k.modHouse _).updSwitching hsw).assertL _ _ _ _).get

theorem feedLeft_failed (s : State) (f n : Nat) (b : Fld) :
    (feedLeft s f n b).house.failed = if s.src = f + 1 then some f else s.house.failed := by
  simp only [feedLeft, houseEvt_house, assertL_house]
  rfl

/-- BUS is DEAD and no planned switchover is left. -/
def busDead (s : State) : State := (s.setSrc srcDead).modHouse fun h => { h with target := none }

theorem Reads.busDead {s : State} {g : Fld} {v : Nat} (k : Reads g v s) (hq : g.quiet = true)
    (hsrc : g.clearOf F.HSE_SEL_STAT.SRC = true) : Reads g v (busDead s) := by
  obtain ⟨-, -, hcg, -⟩ := g.quiet_iff.1 hq
  exact (((k.set_clear F.HSE_SEL_STAT.SRC srcDead hsrc).modHouse _).set_other (F.CG_IEFF.I_CHG 24) _ hcg).modHouse _

theorem busDead_src {s : State} (h : s.rwf) : (busDead s).src = 4 :=
  (((reads_set h F.HSE_SEL_STAT.SRC srcDead rfl rfl).modHouse _).set_other (F.CG_IEFF.I_CHG 24) _ (by decide)).get

/-- The fields that a voltage failure and the fast trip latch. -/
def feedBits (f : Nat) : List Fld := [F.FD_LATCH.UV f, F.FD_LATCH.FAST f]

theorem feedBits_addr : ∀ f : Fin 2, ∀ b ∈ feedBits f, b.addr = R.FD_LATCH f := by decide

theorem feed_stat_fields : ∀ f : Fin 2, (F.FD_STAT.STATE f).quiet = true ∧ (F.FD_LATCH.FAILOVER f).quiet = true ∧
    (F.FD_STAT.STATE f).clearOf F.HSE_SEL_STAT.SRC = true ∧ (F.FD_LATCH.FAILOVER f).clearOf F.HSE_SEL_STAT.SRC = true ∧
    (F.FD_STAT.STATE f).clearOf (F.FD_LATCH.FAILOVER f) = true ∧ (F.FD_STAT.STATE f).clearOf (F.FD_STAT.REV f) = true ∧
    (F.FD_LATCH.FAILOVER f).clearOf (F.FD_STAT.REV f) = true := by decide

theorem feed_bit_fields : ∀ f : Fin 2, ∀ b ∈ feedBits f, decide (b.lo ≤ b.hi ∧ b.hi < 32) = true ∧ b.width = 1 ∧
    b.quiet = true ∧ b.clearOf F.HSE_SEL_STAT.SRC = true ∧ (F.FD_STAT.STATE f).clearOf b = true ∧
    b.clearOf (F.FD_LATCH.FAILOVER f) = true ∧ b.clearOf (F.FD_STAT.REV f) = true := by decide

theorem src_clear_of_feed : ∀ f : Fin 2, ∀ b ∈ feedBits f, F.HSE_SEL_STAT.SRC.clearOf (F.FD_STAT.STATE f) = true ∧
    F.HSE_SEL_STAT.SRC.clearOf b = true ∧ F.HSE_SEL_STAT.SRC.clearOf (F.FD_LATCH.FAILOVER f) = true ∧
    F.HSE_SEL_STAT.SRC.clearOf (F.FD_STAT.REV f) = true := by decide

section
variable {s : State} {f : Fin 2} {n : Nat} {b : Fld} (h : s.rwf) (hb : b ∈ feedBits f)
include h

theorem feedLatched_state (hn : n < 8) (hb : b ∈ feedBits f) : Reads (F.FD_STAT.STATE f) n (feedLatched s f n b) := by
  obtain ⟨-, -, -, -, hfail, hrev, -⟩ := feed_stat_fields f
  obtain ⟨-, -, -, -, hbit, -⟩ := feed_bit_fields f b hb
  exact (((reads_set h (F.FD_STAT.STATE f) n rfl (Nat.mod_eq_of_lt hn)).set_clear b 1 hbit).set_clear _ 1 hfail).set_clear _ 0
      hrev

theorem feedLatched_bit (hb : b ∈ feedBits f) : Reads b 1 (feedLatched s f n b) := by
  obtain ⟨hrange, hwidth, -, -, -, hfail, hrev⟩ := feed_bit_fields f b hb
  have hone : 1 % 2 ^ b.width = 1 := by rw [hwidth]; rfl
  exact ((reads_set (s.set_rwf _ n h) b 1 hrange hone).set_clear _ 1 hfail).set_clear _ 0 hrev

theorem feedLatched_failover : Reads (F.FD_LATCH.FAILOVER f) 1 (feedLatched s f n b) := by
  obtain ⟨-, -, -, -, -, -, hrev⟩ := feed_stat_fields f
  exact (reads_set ((s.set _ n).set_rwf b 1 (s.set_rwf _ n h)) (F.FD_LATCH.FAILOVER f) 1 rfl rfl).set_clear _ 0 hrev

theorem feedLatched_src (hb : b ∈ feedBits f) : Reads F.HSE_SEL_STAT.SRC s.src (feedLatched s f n b) := by
  obtain ⟨hstat, hbit, hfail, hrev⟩ := src_clear_of_feed f b hb
  have k : Reads F.HSE_SEL_STAT.SRC s.src s := ⟨h, rfl⟩
  exact (((k.set_clear _ n hstat).set_clear b 1 hbit).set_clear _ 1 hfail).set_clear _ 0 hrev

end

/-- A live feed that drives BUS fails: where it goes, what it latches, and that BUS is DEAD. -/
theorem feedFail_of_source {s : State} {f : Fin 2} {n : Nat} {b : Fld} (hwf : s.wf = true) (hlive : FeedLive s f)
    (hn : n < 8) (hb : b ∈ feedBits f) (hsrc : s.src = f.val + 1) :
    let u := s.feedFail f n b
    u.feed f = n ∧ u.get b = 1 ∧ u.get (F.FD_LATCH.FAILOVER f) = 1 ∧ u.src = 4 ∧ u.house.failed = some f.val := by
  have h := State.wf_rwf hwf
  have hleft : (feedLeft s f n b).rwf := State.wf_rwf ((ledgerKept_feedLeft s f n (feedBits_addr f b hb)).wf hwf)
  have hdead : (feedLeft s f n b).src = f + 1 := (feedLeft_get (by decide) (feedLatched_src h hb)).trans hsrc
  have hfail : s.feedFail f n b = busDead (feedLeft s f n b) := (feedFail_live s f n b hlive).trans (if_pos hdead)
  obtain ⟨hqs, hqf, hss, hsf, -⟩ := feed_stat_fields f
  obtain ⟨-, -, hqb, hsb, -⟩ := feed_bit_fields f b hb
  rw [hfail]
  refine ⟨((Reads.mk hleft (feedLeft_get hqs (feedLatched_state h hn hb))).busDead hqs hss).get,
    ((Reads.mk hleft (feedLeft_get hqb (feedLatched_bit h hb))).busDead hqb hsb).get,
    ((Reads.mk hleft (feedLeft_get hqf (feedLatched_failover h))).busDead hqf hsf).get, busDead_src hleft, ?_⟩
  exact (feedLeft_failed s f n b).trans (if_pos hsrc)

/-! ### The read of FD_LATCH (R322) -/

theorem feedLatch_rcl : ∀ f : Fin 2, ∃ d, regDef? (R.FD_LATCH f) = some d ∧ d.rcl = 0x7F := by decide

theorem rclClear_feedLatch (s : State) (f : Fin 2) :
    s.rclClear (R.FD_LATCH f) = s.wr (R.FD_LATCH f) (s.rd (R.FD_LATCH f) &&& 0xFFFFFF80) := by
  obtain ⟨d, hd, hrcl⟩ := feedLatch_rcl f
  simp only [State.rclClear, hd, hrcl]
  rfl

/-- FD_LATCH_f cleared and the condition of source 326 + f ended. -/
def feedUnlatched (s : State) (f : Nat) : State := (s.rclClear (R.FD_LATCH f)).deassertL (326 + f) 1

theorem feed_addrs_apart : ∀ f : Fin 2, R.FD_LATCH f ≠ R.FD_STAT f := by decide

theorem feedUnlatched_rd {s : State} (h : s.rwf) (f : Fin 2) :
    (feedUnlatched s f).rd (R.FD_LATCH f) = s.rd (R.FD_LATCH f) &&& 0xFFFFFF80 := by
  rw [feedUnlatched, rclClear_feedLatch]
  exact s.rd_wr (R.FD_LATCH f) _ h

theorem feedUnlatched_reads {s : State} (h : s.rwf) (f : Fin 2) : Reads (F.FD_STAT.STATE f) (s.feed f) (feedUnlatched s f) :=
    by
  rw [feedUnlatched, rclClear_feedLatch]
  exact (Reads.mk h rfl : Reads (F.FD_STAT.STATE f) (s.feed f) s).wr_other _ _ (feed_addrs_apart f).symm |>.of_regs rfl

/-- What a read of FD_LATCH_f leaves of the latch and of the feed's state. -/
theorem readFdLatch_outcome {s : State} (hwf : s.wf = true) (f : Fin 2) :
    (s.readFdLatch f).rd (R.FD_LATCH f) = s.rd (R.FD_LATCH f) &&& 0xFFFFFF80 ∧
    (s.feed f ≠ 5 → (s.readFdLatch f).feed f = s.feed f) ∧ (s.feed f = 5 → (s.readFdLatch f).feed f ≤ 1) := by
  have h := State.wf_rwf hwf
  have hstate := feedUnlatched_reads h f
  by_cases htrip : s.feed f = fdTripped
  · have heq : s.readFdLatch f = (feedUnlatched s f).set (F.FD_STAT.STATE f)
        (if i64 ((feedUnlatched s f).rd64 (R.HSE_M_LO (4 * f)) (R.HSE_M_HI (4 * f))) < 20000000000 then fdDown
          else fdQualifying) := if_pos (hstate.get.trans htrip)
    have hle : ∀ (p : Prop) [Decidable p], (if p then fdDown else fdQualifying) ≤ 1 := fun p _ => by
      split <;> decide
    rw [heq]
    refine ⟨(State.set_rd_other _ _ _ _ (feed_addrs_apart f)).trans (feedUnlatched_rd h f), fun hne => absurd htrip hne, fun _
        => ?_⟩
    exact ((reads_set hstate.rwf (F.FD_STAT.STATE f) _ rfl (Nat.mod_eq_of_lt (Nat.lt_of_le_of_lt (hle _) (by decide : 1 <
        8)))).get).trans_le
      (hle _)
  · have heq : s.readFdLatch f = feedUnlatched s f := if_neg (fun he => htrip (hstate.get.symm.trans he))
    rw [heq]
    exact ⟨feedUnlatched_rd h f, fun _ => hstate.get, fun he => absurd he htrip⟩

theorem feedsQualifyAndFail : Claims.FeedsQualifyAndFail := by
  intro rq f s st live bit
  have hlive : live ↔ FeedLive s f := Iff.rfl
  refine ⟨fun h => next_if_pos _ _ h, fun h => next_if_neg _ _ (Nat.not_le.2 h),
    fun h => ⟨next_if_pos _ _ h, next_if_pos _ _ h⟩, fun h _ => next_if_neg _ _ (Nat.not_le.2 h),
    rfl, rfl, rfl, rfl, rfl, fun h => next_if_pos _ _ h, fun h n b => feedFail_idle s f n b h, ?_, ?_, ?_, ?_, rfl, ?_⟩
  · intro hl n b hn hb hwf hsrc
    refine feedFail_of_source hwf hl hn ?_ hsrc
    simpa [feedBits] using hb
  · intro hl hrev
    exact (next_if_pos _ _ ((feedLive_iff s f).2 hl)).trans (next_if_pos _ _ hrev)
  · intro hl hrev
    exact (next_if_pos _ _ ((feedLive_iff s f).2 hl)).trans (next_if_neg _ _ (Bool.eq_false_iff.1 hrev))
  · intro hl
    exact next_if_neg _ _ (mt (feedLive_iff s f).1 hl)
  · intro hwf
    exact ⟨_, rfl, readFdLatch_outcome hwf f⟩

/-! ### The selector (R323, R325, R327, R331) -/

section
variable {s : State} {level : Bool} {v : Nat}

theorem switchoverConnect_to_feed {f : Nat} (hsrc : s.src = 4) (htarget : s.house.target = none)
    (hpick : s.pickFeed = some f) : exec (.switchoverConnect level v) s = .next ((((((s.modHouse fun h =>
      { h with target := none, failed := none }).ltCloseAt 3 2 (feedLinks f)).set (F.FD_STAT.STATE f)
        (if level then 4 else 3)).updSwitching).setSrc (f + 1)).rebase v) := by
  refine (next_if_neg _ _ (not_not.2 hsrc)).trans ?_
  simp only [htarget, hpick, Option.some_or]
  rfl

theorem switchoverConnect_without_feed (hsrc : s.src = 4) (htarget : s.house.target = none) (hnone : s.pickFeed = none)
    (htested : s.pickFeeds true = []) : exec (.switchoverConnect level v) s = .next (State.selTry
      (if s.is F.PK_DIS.HOLDUP_EN && s.packLive && s.get (F.THM_STAT.LEVEL 6) != 4 then
        (((s.modHouse fun h => { h with target := none, failed := none }).ltCloseAt 3 2 [packLink]).setSrc 3).rebase v
      else (((s.modHouse fun h => { h with target := none, failed := none }).ltCloseAt 3 2 [packLink]).setSrc 0).rebase 0)) :=
          by
  refine (next_if_neg _ _ (not_not.2 hsrc)).trans ?_
  simp only [htarget, hnone, htested]
  rfl

end

theorem packLive_iff (s : State) :
    s.packLive = true ↔ s.domOn 80 = true ∧ s.domOn 81 = true ∧ s.house.packOff = false := by
  simp [State.packLive, and_assoc]

/-- The feed is connected, and the domains that draw from BUS are free. -/
def inrushDone (s : State) (f : Nat) : State :=
  ((s.set (F.FD_STAT.STATE f) 4).updSwitching).modHouse fun h => { h with started := true, failed := none }

theorem inrushDone_src {s : State} (h : s.rwf) (f : Fin 2) : (inrushDone s f).src = s.src := by
  obtain ⟨hstat, -⟩ := src_clear_of_feed f (F.FD_LATCH.UV f) (.head _)
  have k : Reads F.HSE_SEL_STAT.SRC s.src s := ⟨h, rfl⟩
  exact (((k.set_clear _ 4 hstat).updSwitching (by decide)).modHouse _).get

theorem inrushComplete_eq {s : State} {f : Fin 2} {v : Nat} (hst : s.feed f = 3) (hdrain : s.boot.drain = false) :
    exec (.inrushComplete f v) s = .next (if (inrushDone s f).src = srcNone || (inrushDone s f).src = srcPack then
      ((inrushDone s f).setSrc (f + 1)).rebase v else inrushDone s f) := by
  have hd : ((s.set (F.FD_STAT.STATE f) fdConnected).updSwitching).boot.drain = false := hdrain
  refine (next_if_neg _ _ (not_not.2 hst)).trans ?_
  simp only [hd, Bool.false_and, Bool.false_eq_true, if_false]
  rfl

/-- A GOTO that the selector takes. -/
def GotoTaken (s : State) (g : Nat) : Prop :=
  s.feed g = 2 ∧ s.feedTested g = false ∧ s.srcFeed = true ∧ s.is F.HSE_SEL_STAT.SWITCHING = false

theorem goto_refused_iff (s : State) (g : Nat) :
    (s.feed g ≠ fdQualified || s.feedTested g || !s.srcFeed || s.is F.HSE_SEL_STAT.SWITCHING : Bool) = true ↔ ¬ GotoTaken s g
        := by
  simp only [GotoTaken, Bool.or_eq_true, decide_eq_true_eq, Bool.not_eq_true', not_and_or, Bool.not_eq_false, Bool.not_eq_true,
    or_assoc]
  exact Iff.rfl

theorem theSelector : Claims.TheSelector := by
  intro rq f v w why level s hrq p g free go
  have hgo : exec (.goto rq w) s = .next (s.selGoto w) := next_if_pos _ _ hrq
  have hsel : bitOf w 1 = true → s.selGoto w = if (s.feed g ≠ fdQualified || s.feedTested g || !s.srcFeed ||
      s.is F.HSE_SEL_STAT.SWITCHING : Bool) then s.set F.HSE_SEL_STAT.CFG_REJ 1 else s.planned g := fun h =>
    if_neg (by simp [h])
  refine ⟨fun h => next_if_pos _ _ h, switchoverConnect_to_feed, ?_, packLive_iff s, fun h => next_if_pos _ _ h, ?_, ?_, ?_,
      ?_,
    ?_, ?_, ?_, ?_, ?_, ?_, ?_⟩
  · intro hsrc htarget htested hnone
    have hbreak := switchoverConnect_without_feed (level := level) (v := v) hsrc htarget hnone htested
    refine ⟨fun hen hlive hlevel => hbreak.trans ?_, fun h => hbreak.trans ?_⟩
    · rw [if_pos (by simp [hen, hlive, hlevel])]
    · rw [if_neg]
      rcases h with h | h <;> simp [h]
  · intro hwf hst hdrain hsrc
    refine (inrushComplete_eq hst hdrain).trans (next_if_pos _ _ ?_)
    rw [inrushDone_src (State.wf_rwf hwf)]
    exact Bool.or_eq_true_iff.2 (hsrc.imp decide_eq_true decide_eq_true)
  · intro hwf hst hdrain hnone hpack
    refine (inrushComplete_eq hst hdrain).trans (next_if_neg _ _ ?_)
    rw [inrushDone_src (State.wf_rwf hwf)]
    simpa using ⟨hnone, hpack⟩
  · intro hret hsrc hfeed htest hsw
    exact next_if_pos _ _ (by simp [hret, hsrc, hfeed, htest, hsw, p, fdQualified])
  · intro hret
    exact next_if_neg _ _ (by simp [hret])
  · intro h
    exact hgo.trans (next_if_pos _ _ (by simp [h]))
  · intro h htaken
    rw [hgo, hsel h]
    exact next_if_neg _ _ (mt (goto_refused_iff s g).1 (not_not.2 htaken))
  · intro h hnot
    rw [hgo, hsel h]
    exact next_if_pos _ _ ((goto_refused_iff s g).2 hnot)
  · intro hoff hwhy
    exact next_if_pos _ _ (by simp [hoff, hwhy])
  · intro hon
    exact next_if_neg _ _ (by simp [hon])
  · intro h
    exact next_if_neg _ _ (by simp [h])
  · intro h
    exact next_if_pos _ _ h

/-- Settles O37: the feeds' own transitions, and the selector's cases one by one. -/
theorem houseFeedsAndSelector : Obligations.HouseFeedsAndSelector := ⟨feedsQualifyAndFail, theSelector⟩

end Sys2Proof.Machine
end

section
/-!
The house stage, BUS above its limits, and the commands and pools of the power ledger (R332 to R346).
-/
namespace Sys2Proof.Machine

/-! ### PACK, HOUSE and BUS (R332, R334, R336, R344) -/

/-- HOUSE tripped, with its latch. -/
def houseTripped (s : State) : State := (s.modHouse fun h => { h with tripped := true }).set F.HSE_LATCH.HOUSE_TRIP 1

theorem houseTrip_on {s : State} (fast : Bool) (h : s.houseOn = true) : ∃ u : State, exec (.houseTrip fast) s =
    .next (u.houseEvt 0x06 (u.get F.HSE_HOUSE.RETRY - s.house.retries)) ∧ u.house.tripped = true ∧
    u.regs = (s.set F.HSE_LATCH.HOUSE_TRIP 1).regs := by
  let u := (houseTripped s).raise 330 1 0 ((houseTripped s).rd R.HSE_LATCH)
  have hregs : u.regs = (houseTripped s).regs := report_regs _ _
  have hhouse : u.house = (houseTripped s).house := (told_report _ _).house
  have hretry : u.get F.HSE_HOUSE.RETRY = (houseTripped s).get F.HSE_HOUSE.RETRY := get_congr _ (by rw [State.rd, hregs]; rfl)
  refine ⟨u, (next_if_pos _ _ h).trans ?_, ?_, hregs⟩
  · rw [hretry]
    rfl
  · rw [hhouse]
    rfl

theorem busHigh_falls {s : State} {v : Nat} (h : 1000 * s.get F.HSE_SEL_CFG.BUS_HI < v) : exec (.busHigh v) s = .next (
    let u := (s.modHouse fun h => { h with sink := h.sink * 9 / 10 }).set F.HSE_LATCH.BUS_HIGH 1
    if s.house.sink = 1000000 then u.houseEvt 0x08 (v / 100) else u) := next_if_pos _ _ h

theorem busHigh_below {s : State} {v : Nat} (h : v ≤ 1000 * s.get F.HSE_SEL_CFG.BUS_HI) : exec (.busHigh v) s =
    .next (if v + 1000 < 1000 * s.get F.HSE_SEL_CFG.BUS_HI then s.modHouse fun h => { h with sink := min 1000000 (h.sink +
        10000) }
      else s) := next_if_neg _ _ (Nat.not_lt.2 h)

theorem houseStageAndTap : Claims.HouseStageAndTap := by
  intro k fast v s pk
  refine ⟨fun h => congrArg _ (if_pos h), fun h => ⟨_, congrArg _ (if_neg (Bool.eq_false_iff.1 h)), rfl, rfl⟩, rfl,
    fun h => ⟨next_if_neg _ _ h, if_neg h⟩, fun h => ⟨if_pos h, next_if_pos _ _ h⟩, houseTrip_on fast,
    fun h => next_if_neg _ _ (Bool.eq_false_iff.1 h), ?_, ?_, fun h => next_if_neg _ _ (Bool.eq_false_iff.1 h),
    busHigh_falls, fun h hnear => (busHigh_below h).trans (next_if_neg _ _ (Nat.not_lt.2 hnear)),
    fun h => (busHigh_below (by omega)).trans (next_if_pos _ _ h), ⟨_, rfl, rfl, rfl⟩, rfl⟩
  · intro htrip hen hretry
    exact next_if_pos _ _ (by simp [htrip, hen, hretry])
  · intro hretry
    exact next_if_neg _ _ (by simp [Nat.not_lt.2 hretry])

/-! ### The ledger's commands (R340 to R346) -/

theorem ledgerRebase_far {s : State} {v : Nat} (hsrc : s.srcFeed = true)
    (h : s.ledger.vBase + 2000 < v ∨ v + 2000 < s.ledger.vBase) : exec (.ledgerRebase v) s = .next (s.rebase v) :=
  next_if_pos _ _ (by simpa [hsrc] using h)

theorem ledgerRebase_near {s : State} {v : Nat} (hhi : s.ledger.vBase ≤ v + 2000) (hlo : v ≤ s.ledger.vBase + 2000) :
    exec (.ledgerRebase v) s = .next s :=
  next_if_neg _ _ (by simp [Nat.not_lt.2 hhi, Nat.not_lt.2 hlo])

theorem reclaimComplete_ends {s : State} (h : s.is F.LG_STAT.RECLAIM = true) : ∃ u : State, exec .reclaimComplete s =
      .next (((u.houseEvt 0x07 u.pool).tapAdjust.serve).selTry) ∧
    u.ledger.tiles = allCh.map (fun (c : Fin 24) => (s.get (F.LG_HELD.CONT c), s.get (F.LG_HELD.BURST c))) :=
  ⟨_, next_if_pos _ _ h, rfl⟩

section
variable {s : State} {c : Fin 24} {draw : Int}

/-- The channel leaves BATFED and gathers its credits (R81). -/
def LeavesBatfed (s : State) (c : Fin 24) : Prop :=
  (s.ch c).pathF = 3 ∧ (s.ch c).dest.any (· != 3) = true ∧ s.domOn (3 * c) = true

theorem leavesBatfed_iff : ((s.ch c).pathF == 3 && (s.ch c).dest.any (· != 3) && s.domOn (3 * c)) = true ↔ LeavesBatfed s c :=
    by
  simp [LeavesBatfed, and_assoc]

theorem creditEvaluation_leaving (h : LeavesBatfed s c) : exec (.creditEvaluation c draw) s = .next s :=
  next_if_pos _ _ (leavesBatfed_iff.2 h)

theorem creditEvaluation_off (h : ¬ LeavesBatfed s c) (hoff : s.domOn (3 * c) = false ∨ (s.ch c).pathF = 3) :
    exec (.creditEvaluation c draw) s =
      .next (s.giveBack c ((s.ledger.tiles.getD c (0, 0)).1 + (s.ledger.tiles.getD c (0, 0)).2)) :=
  (next_if_neg _ _ (mt leavesBatfed_iff.1 h)).trans (next_if_pos _ _ (by simpa using hoff))

theorem creditEvaluation_on (hdom : s.domOn (3 * c) = true) (hpath : (s.ch c).pathF ≠ 3) :
    exec (.creditEvaluation c draw) s = .next (
      let t := s.ledger.tiles.getD c (0, 0)
      let held := t.1 + t.2
      let need := (draw.toNat + 999) / 1000 + s.get F.LG_CFG.HEADROOM
      let step := s.get F.LG_CFG.STEP
      let rsv := s.get (F.LG_RSV.RSV c)
      let cap := s.contCap c
      if held < need then s.askFor c (min (need - held + step) (cap - t.1))
        (if cap < need then need - held + step - min (need - held + step) (cap - t.1) else 0)
      else if held < rsv then s.askFor c (rsv - held) 0
      else if max rsv (need + 2 * step) < held then
        if 100 * s.get F.LG_CFG.RET_HOLD ≤ s.ledger.surplus.getD c 0 + 1 then s.giveBack c (held - max rsv (need + step))
        else s.modLedger fun l => { l with surplus := l.surplus.set c (s.ledger.surplus.getD c 0 + 1) }
      else s.modLedger fun l => { l with surplus := l.surplus.set c 0 }) :=
  (next_if_neg _ _ (by simp [hpath])).trans (next_if_neg _ _ (by simp [hdom, hpath]))

end

theorem seti_zero_geti {s : State} (h : s.rwf) (f : Fld) (hf : decide (f.lo ≤ f.hi ∧ f.hi < 32) = true) :
    (s.seti f 0).geti f = 0 := by
  have hzero : trunc f.width 0 = 0 := by simp [trunc]
  rw [State.geti, State.seti, hzero, (reads_set h f 0 hf (Nat.zero_mod _)).get]
  simp [sext]

/-- The charger's credits are free, and what its current was is in BIND_CREDIT. -/
def chargerFreed (s : State) : State :=
  let s1 := ((s.set F.LG_HOUSE.CHG 0).set F.LG_FREE.CREDITS (s.free + s.get F.LG_HOUSE.CHG)).modLedger fun l =>
    { l with chgCall := false }
  s1.setb (F.CG_STAT.BIND_CREDIT 24) (s1.is (F.CG_STAT.BIND_CREDIT 24) || s1.is (F.CG_IEFF.I_CHG 24))

theorem chargerReclaimAck_called {s : State} (h : s.ledger.chgCall = true) :
    exec .chargerReclaimAck s = .next ((chargerFreed s).seti (F.CG_IEFF.I_CHG 24) 0).serve := next_if_pos _ _ h

theorem Reads.modLedger {g : Fld} {v : Nat} {s : State} (k : Reads g v s) (f : Ledger → Ledger) : Reads g v (s.modLedger f) :=
  ⟨k.rwf, k.get⟩

theorem chargerFreed_chg {s : State} (h : s.rwf) : Reads F.LG_HOUSE.CHG 0 (chargerFreed s) :=
  (((reads_set h F.LG_HOUSE.CHG 0 rfl rfl).set_other F.LG_FREE.CREDITS _ (by decide)).modLedger _).set_other
    (F.CG_STAT.BIND_CREDIT 24) _ (by decide)

/-- The burst window is shut, and the messages in flight carry no burst credits. -/
def windowShut (u : State) : State :=
  (u.set F.LG_STAT.BWIN 0).modLedger fun l =>
    { l with recover := true, tiles := l.tiles.map (fun t => (t.1, 0)),
             grants := l.grants.map (fun g => { g with burst := 0 }),
             backs := l.backs.map (fun g => { g with burst := 0 }) }

section
variable (u : State)

theorem windowShut_sumBurst : (windowShut u).sumBurst = u.sumBurst := by
  simp only [State.sumBurst_eq_sum]
  refine Finset.sum_congr rfl fun c _ => ?_
  refine u.get_set_other F.LG_STAT.BWIN (F.LG_HELD.BURST c) 0 ?_
  simp only [F.LG_HELD.BURST, F.LG_STAT.BWIN, R.LG_HELD, R.LG_STAT]
  omega

theorem windowShut_bwin (h : u.rwf) : (windowShut u).get F.LG_STAT.BWIN = 0 := (reads_set h F.LG_STAT.BWIN 0 rfl rfl).get

theorem windowShut_recover : (windowShut u).ledger.recover = true := rfl

theorem windowShut_tiles : ∀ x ∈ (windowShut u).ledger.tiles, x.2 = 0 := by
  intro x hx
  obtain ⟨t, -, rfl⟩ := List.mem_map.1 hx
  rfl

end

theorem dropBurst_sumBurst {s : State} (hwf : s.wf = true) : (s.dropBurst allCh).sumBurst = 0 := by
  rw [State.sumBurst_eq_sum]
  refine Finset.sum_eq_zero fun c _ => ?_
  exact ((dropBurst_drops allCh hwf).2 c).trans (if_pos (mem_allCh c))

theorem dropBurst_wf {s : State} (hwf : s.wf = true) (l : List (Fin 24)) : (s.dropBurst l).wf = true := by
  obtain ⟨⟨n, hhold⟩, -⟩ := dropBurst_drops l hwf
  exact hhold.wf

theorem burstWindowClose_open {s : State} (h : s.is F.LG_STAT.BWIN = true) (hwf : s.wf = true) :
    ∃ u, exec .burstWindowClose s = .next u ∧ u.sumBurst = 0 ∧ u.get F.LG_STAT.BWIN = 0 ∧ u.ledger.recover = true ∧
      ∀ x ∈ u.ledger.tiles, x.2 = 0 := by
  have hfree : (s.set F.LG_BFREE.CREDITS (s.bfree + s.sumBurst)).wf = true := State.set_wf _ _ _ hwf
  refine ⟨windowShut ((s.set F.LG_BFREE.CREDITS (s.bfree + s.sumBurst)).dropBurst allCh), next_if_pos _ _ h,
    (windowShut_sumBurst _).trans (dropBurst_sumBurst hfree), windowShut_bwin _ (State.wf_rwf (dropBurst_wf hfree allCh)),
    windowShut_recover _, windowShut_tiles _⟩

/-- The ledger takes what a return brings. -/
def returnTaken (s : State) (b : Credit) : State :=
  if b.who = 24 then
    let a := min b.cont (s.get F.LG_HOUSE.CHG)
    (s.set F.LG_HOUSE.CHG (s.get F.LG_HOUSE.CHG - a)).set F.LG_FREE.CREDITS (s.free + a)
  else
    let a := min b.cont (s.get (F.LG_HELD.CONT b.who))
    let d := min (b.burst + (b.cont - a)) (s.get (F.LG_HELD.BURST b.who))
    let x := (s.set (F.LG_HELD.CONT b.who) (s.get (F.LG_HELD.CONT b.who) - a)).set
      (F.LG_HELD.BURST b.who) (s.get (F.LG_HELD.BURST b.who) - d)
    (x.set F.LG_FREE.CREDITS (s.free + a)).set F.LG_BFREE.CREDITS (s.bfree + d)

theorem returnTaken_ledger (s : State) (b : Credit) : (returnTaken s b).ledger = s.ledger := by
  simp only [returnTaken]
  split <;> rfl

theorem creditReturn_takes {s : State} {a : Credit} {rest : List Credit} (h : s.ledger.backs = a :: rest) :
    ∃ u : State, exec .creditReturn s = .next u.tapAdjust.serve ∧ u.ledger.backs = rest := by
  refine ⟨returnTaken (s.modLedger fun l => { l with backs := rest }) a, ?_, ?_⟩
  · show execCreditReturn s = _
    simp only [execCreditReturn, h]
    rfl
  · rw [returnTaken_ledger]
    rfl

theorem ledgerCommands : Claims.LedgerCommands := by
  intro c v regen draw a rest s t leaves need step rsv cap cont new
  have hlevel : s.is F.LG_STAT.RECLAIM = false → exec (.lentUpdate regen) s = .next (if s.lent ≤ new then
      ((((s.set F.LG_LENT.CREDITS new).set F.LG_FREE.CREDITS (s.free + (new - s.lent))).set F.LG_BFREE.CREDITS
        (s.bfree - (new - s.lent))).tapAdjust.serve) else s.lentFall (s.lent - new)) :=
    fun h => next_if_neg _ _ (Bool.eq_false_iff.1 h)
  refine ⟨ledgerRebase_far, ledgerRebase_near, fun h => next_if_neg _ _ (Bool.eq_false_iff.1 h), reclaimComplete_ends,
    creditEvaluation_leaving, creditEvaluation_off, ?_, ?_, ?_, ?_, ?_, ?_, ?_, fun h => next_if_neg _ _ (Bool.eq_false_iff.1
        h),
    burstWindowClose_open, fun h => next_if_neg _ _ (Bool.eq_false_iff.1 h),
    ?_, fun h => next_if_pos _ _ h, ?_, fun h hlt => (hlevel h).trans (next_if_neg _ _ (Nat.not_le.2 hlt)),
    fun h hle => (hlevel h).trans (next_if_pos _ _ hle)⟩
  · intro hdom hpath
    have hon := creditEvaluation_on (draw := draw) hdom hpath
    refine ⟨fun hneed => hon.trans (next_if_pos _ _ hneed), fun hneed hrsv => ?_, fun hsurplus hhold => ?_⟩
    · exact hon.trans ((next_if_neg _ _ (Nat.not_lt.2 hneed)).trans (next_if_pos _ _ hrsv))
    · have hrsv : ¬ t.1 + t.2 < rsv := by omega
      have hneed : ¬ t.1 + t.2 < need := by omega
      exact hon.trans ((next_if_neg _ _ hneed).trans ((next_if_neg _ _ hrsv).trans
        ((next_if_pos _ _ hsurplus).trans (next_if_pos _ _ hhold))))
  · intro hasks
    show execCreditRequest s = _
    simp only [execCreditRequest, hasks]
  · intro hasks
    show execCreditRequest s = _
    simp only [execCreditRequest, hasks]
  · intro hgrants
    show execCreditGrant s = _
    simp only [execCreditGrant, hgrants]
  · intro hgrants
    show execCreditGrant s = _
    simp only [execCreditGrant, hgrants]
  · exact creditReturn_takes
  · intro hcall
    refine ⟨_, chargerReclaimAck_called hcall, rfl, fun hwf => ?_⟩
    have hchg := chargerFreed_chg (State.wf_rwf hwf)
    exact ⟨(hchg.set_other (F.CG_IEFF.I_CHG 24) _ (by decide)).get, seti_zero_geti hchg.rwf _ rfl⟩
  · intro hrec hwin
    exact next_if_pos _ _ (by simp [hrec, hwin])
  · intro h
    exact next_if_neg _ _ (by rcases h with h | h <;> simp [h])

/-! ### The pools (R339) -/

theorem ledgerPools : Claims.LedgerPools := by
  intro s v i
  refine ⟨?_, ?_, ?_, ?_, ?_⟩
  · rintro (h | h) <;> simp [State.poolsAt, State.srcFeed, h, i]
  · intro hsrc hn
    simp [State.poolsAt, State.srcFeed, hsrc, srcPack, State.houseLim, hn]
  · rintro (h | h) <;> simp [State.poolsAt, State.srcFeed, h, srcPack]
  · intro hsrc hlim
    simp [State.poolsAt, State.srcFeed, hsrc, hlim]
  · intro hsrc hlegs hlim
    simp [State.poolsAt, State.srcFeed, hsrc, srcPack, State.houseLim, hlegs, hlim]

/-- Settles O38: PACK, HOUSE and BUS, the ledger's commands, and its pools. -/
theorem houseStageAndLedgerCommands : Obligations.HouseStageAndLedgerCommands :=
  ⟨houseStageAndTap, ledgerCommands, ledgerPools⟩

end Sys2Proof.Machine
end

section
/-!
The switched lines and the EVT outputs (R350 to R357): requests at their action points, trips, what opening and closing
leave, the read of LN_LATCH, and the level of an EVT line.
-/
namespace Sys2Proof.Machine

/-! ### One bit of a word, and what a read clears (R6) -/

theorem bitsOf_bit (w : Word) (n : Nat) : bitsOf w n n = b2n (w.getLsbD n) := by
  rw [bitsOf, Nat.sub_self, BitVec.getLsbD, Nat.shiftRight_eq_div_pow, Nat.testBit_eq_decide_div_mod_eq]
  rcases Nat.mod_two_eq_zero_or_one (w.toNat / 2 ^ n) with h | h <;> simp [h, b2n]

theorem bitsOf_and_not_of_bit (w : Word) {m : Word} {n : Nat} (h : m.getLsbD n = true) : bitsOf (w &&& ~~~m) n n = 0 := by
  simp [bitsOf_bit, h, b2n]

theorem rclClear_of_def (s : State) {a : Nat} {d : RegDef} (hd : regDef? a = some d) (hrcl : d.rcl ≠ 0) :
    s.rclClear a = s.wr a (s.rd a &&& ~~~(BitVec.ofNat 32 d.rcl)) := by
  simp only [State.rclClear, hd, if_neg hrcl]

theorem lnLatch_rcl : ∀ c : Fin 24, ∃ d, regDef? (R.LN_LATCH c) = some d ∧ d.rcl = 0x7F := by decide

theorem rclClear_lnLatch (s : State) (c : Fin 24) :
    s.rclClear (R.LN_LATCH c) = s.wr (R.LN_LATCH c) (s.rd (R.LN_LATCH c) &&& ~~~0x7F) := by
  obtain ⟨d, hd, hrcl⟩ := lnLatch_rcl c
  rw [rclClear_of_def s hd (by rw [hrcl]; decide), hrcl]
  rfl

/-! ### What opening and closing leave (R350) -/

section
variable {s : State} {c : Fin 24}

theorem lineClosed_iff : s.lineClosed c = true ↔ s.get (F.LN_STAT.STATE c) = 1 ∨ s.get (F.LN_STAT.STATE c) = 2 := by
  rw [State.lineClosed, Bool.or_eq_true, beq_iff_eq, beq_iff_eq]
  exact Iff.rfl

theorem lineOpen_state (h : s.rwf) {st : Nat} (hst : st < 4) : Reads (F.LN_STAT.STATE c) st (s.lineOpen c st) :=
  (((reads_set h (F.LN_STAT.STATE c) st rfl (Nat.mod_eq_of_lt hst)).set_apart (F.LN_STAT.PULSE c) 0 rfl).set_apart
    (F.LN_STAT.LIMIT c) 0 rfl).modCh c _

theorem lineOpen_pulse (h : s.rwf) (st : Nat) : Reads (F.LN_STAT.PULSE c) 0 (s.lineOpen c st) :=
  ((reads_set (s.set_rwf _ st h) (F.LN_STAT.PULSE c) 0 rfl rfl).set_apart (F.LN_STAT.LIMIT c) 0 rfl).modCh c _

theorem State.modCh_rd (s : State) (c : Fin 24) (g : Chan → Chan) (a : Nat) : (s.modCh c g).rd a = s.rd a := rfl

theorem lineOpen_rd (st : Nat) {a : Nat} (ha : a ≠ R.LN_STAT c) : (s.lineOpen c st).rd a = s.rd a := by
  rw [State.lineOpen, State.modCh_rd, State.set_rd_other _ (F.LN_STAT.LIMIT c) 0 a ha,
    State.set_rd_other _ (F.LN_STAT.PULSE c) 0 a ha, State.set_rd_other _ (F.LN_STAT.STATE c) st a ha]

/-- LINE_c begins to rise: its state and the count of turn-ons. -/
def lineClosing (s : State) (c : Fin 24) : State :=
  (s.set (F.LN_STAT.STATE c) (if s.riseSamples c = 0 then 2 else 1)).incWrap (F.LN_STAT.ONCNT c)

theorem lineClose_of_open (h : s.lineClosed c = false) :
    s.lineClose c = (lineClosing s c).modCh c fun h => { h with lineRise := s.riseSamples c } :=
  if_neg (Bool.eq_false_iff.1 h)

theorem lineClosing_state (h : s.rwf) :
    Reads (F.LN_STAT.STATE c) (if s.riseSamples c = 0 then 2 else 1) (lineClosing s c) := by
  have hlt : (if s.riseSamples c = 0 then 2 else 1) < 4 := by split <;> decide
  exact (reads_set h (F.LN_STAT.STATE c) _ rfl (Nat.mod_eq_of_lt hlt)).set_apart (F.LN_STAT.ONCNT c) _ rfl

theorem lineClosing_count (h : s.rwf) : Reads (F.LN_STAT.ONCNT c)
    ((s.get (F.LN_STAT.ONCNT c) + 1) % 2 ^ (F.LN_STAT.ONCNT c).width) (lineClosing s c) :=
  ((Reads.mk h rfl : Reads (F.LN_STAT.ONCNT c) (s.get (F.LN_STAT.ONCNT c)) s).set_apart (F.LN_STAT.STATE c) _ rfl).incWrap rfl

end

theorem lineStates : Claims.LineStates := by
  intro c st s hwf hst
  have h := State.wf_rwf hwf
  refine ⟨(lineOpen_state h hst).get, (lineOpen_pulse h st).get, fun a ha => lineOpen_rd st ha, fun hc => if_pos hc, fun hc =>
      ?_⟩
  rw [lineClose_of_open hc]
  refine ⟨((lineClosing_state h).modCh c _).get, ?_, ((lineClosing_count h).modCh c _).get⟩
  rw [State.modCh_ch]

/-! ### Requests, trips and the read of LN_LATCH (R351 to R355) -/

section
variable {s : State} {c : Fin 24}

theorem next_snd {p : Nat × State} {n : Nat} {t : State} (h : p = (n, t)) : (Host.Outcome.next p.2 : Out) = .next t := by
  rw [h]

/-- A request that waits for the power stage. -/
def lineWaits (s : State) (c : Fin 24) (op w : Nat) : State :=
  (s.wakeCh c).modCh c fun h => { h with delayed := h.delayed ++
    [{ acode := 8, arg0 := op, arg1 := BitVec.ofNat 32 w, arg2 := 0, late := true }] }

/-- OFF, ON, or PULSE with a width. -/
def LineOp (op w : Nat) : Prop := op < 2 ∨ (op = 2 ∧ 0 < w)

theorem lineOp_accepted {op w : Nat} (h : LineOp op w) : (2 < op || (op = 2 && w = 0) : Bool) = false := by
  rcases h with h | ⟨rfl, h⟩
  · have hne : op ≠ 2 := Nat.ne_of_lt h
    simp [hne]
    omega
  · simp [Nat.ne_of_gt h]

theorem lineReq_asleep {op w : Nat} (hop : LineOp op w) (h : ¬ s.domOn (3 * c) = true) :
    s.lineReq c op w = (stOk, lineWaits s c op w) :=
  (if_neg (Bool.eq_false_iff.1 (lineOp_accepted hop))).trans (if_pos (by simpa using h))

theorem lineReq_awake {op w : Nat} (hop : LineOp op w) (h : s.domOn (3 * c) = true) :
    s.lineReq c op w = if op = 0 then s.lineOff c else if op = 1 then s.lineOn c else s.linePulse c w :=
  (if_neg (Bool.eq_false_iff.1 (lineOp_accepted hop))).trans (if_neg (by simp [h]))

theorem linePulse_in_fault {w : Nat} (hw : 0 < w) (h : s.get (F.LN_STAT.STATE c) = 3) : s.linePulse c w = s.lineDenied c :=
  (if_neg (Nat.ne_of_gt hw)).trans (if_pos h)

theorem linePulse_taken {w : Nat} (hw : 0 < w) (h : s.get (F.LN_STAT.STATE c) ≠ 3) : s.linePulse c w =
    (stOk, ((if w < 2000 then s.set (F.LN_LATCH.STRETCH c) 1 else s).lineClose c).set (F.LN_STAT.PULSE c) 1) :=
  (if_neg (Nat.ne_of_gt hw)).trans (if_neg h)

theorem lineTrip_shut (h : s.get (F.LN_STAT.STATE c) = 1 ∨ s.get (F.LN_STAT.STATE c) = 2) (b : Fld) : s.lineTrip c b =
    ((s.lineOpen c 3).set b 1).assertL (12 * c + 8) 1 0 (((s.lineOpen c 3).set b 1).rd (R.LN_LATCH c)) :=
  if_pos (lineClosed_iff.2 h)

theorem lineTrip_open (h : ¬ (s.get (F.LN_STAT.STATE c) = 1 ∨ s.get (F.LN_STAT.STATE c) = 2)) (b : Fld) : s.lineTrip c b = s :=
  if_neg (mt lineClosed_iff.1 h)

/-- LN_LATCH cleared, and the condition of the line ended. -/
def lineUnlatched (s : State) (c : Fin 24) : State := (s.rclClear (R.LN_LATCH c)).deassertL (12 * c + 8) 1

theorem lnLatch_ne_stat : R.LN_LATCH c ≠ R.LN_STAT c := by simp only [R.LN_LATCH, R.LN_STAT]; omega

theorem lineUnlatched_state (h : s.rwf) :
    Reads (F.LN_STAT.STATE c) (s.get (F.LN_STAT.STATE c)) (lineUnlatched s c) := by
  rw [lineUnlatched, rclClear_lnLatch]
  exact (Reads.mk h rfl : Reads (F.LN_STAT.STATE c) (s.get (F.LN_STAT.STATE c)) s).wr_other _ _ lnLatch_ne_stat.symm
      |>.of_regs rfl

theorem lineUnlatched_rd (h : s.rwf) : (lineUnlatched s c).rd (R.LN_LATCH c) = s.rd (R.LN_LATCH c) &&& ~~~0x7F := by
  rw [lineUnlatched, rclClear_lnLatch]
  exact s.rd_wr (R.LN_LATCH c) _ h

theorem lineUnlatched_mem : (lineUnlatched s c).mem = s.mem := by
  rw [lineUnlatched, rclClear_lnLatch]
  rfl

theorem readLnLatch_eq (h : s.rwf) : s.readLnLatch c =
    if s.get (F.LN_STAT.STATE c) = 3 then (lineUnlatched s c).lineOpen c 0 else lineUnlatched s c := by
  rw [← (lineUnlatched_state h).get]
  rfl

theorem readLnLatch_rd (h : s.rwf) : (s.readLnLatch c).rd (R.LN_LATCH c) = s.rd (R.LN_LATCH c) &&& ~~~0x7F := by
  rw [readLnLatch_eq h]
  split
  · exact (lineOpen_rd 0 lnLatch_ne_stat).trans (lineUnlatched_rd h)
  · exact lineUnlatched_rd h

theorem readLnLatch_bit (h : s.rwf) {n : Nat} (hn : (0x7F : Word).getLsbD n = true) :
    (s.readLnLatch c).get ⟨R.LN_LATCH c, n, n⟩ = 0 := by
  rw [State.get, readLnLatch_rd h]
  exact bitsOf_and_not_of_bit _ hn

theorem readLnLatch_state (h : s.rwf) : (s.readLnLatch c).get (F.LN_STAT.STATE c) =
    if s.get (F.LN_STAT.STATE c) = 3 then 0 else s.get (F.LN_STAT.STATE c) := by
  rw [readLnLatch_eq h]
  split
  · exact (lineOpen_state (lineUnlatched_state (c := c) h).rwf (by decide)).get
  · exact (lineUnlatched_state h).get

theorem readLnLatch_mem (h : s.rwf) : (s.readLnLatch c).mem = s.mem := by
  rw [readLnLatch_eq h]
  split <;> exact lineUnlatched_mem

end

theorem linesOpenAndClose : Claims.LinesOpenAndClose := by
  intro rq c width s st shut on trip wait
  have hoff : LineOp 0 0 := .inl (by decide)
  have hon : LineOp 1 0 := .inl (by decide)
  refine ⟨fun h => ?_, fun h => ?_, fun h hst => ?_, fun h hst => ?_, fun h => next_if_pos _ _ h,
    fun h => next_if_neg _ _ (Bool.eq_false_iff.1 h), fun h => ?_, fun h => next_if_neg _ _ (Nat.not_lt.2 h), fun h => ?_, fun
        hwf => ?_⟩
  · exact ⟨next_snd (lineReq_asleep hoff h), next_snd (lineReq_asleep hon h),
      fun hw => next_snd (lineReq_asleep (.inr ⟨rfl, hw⟩) h)⟩
  · subst h
    rfl
  · refine ⟨next_snd ((lineReq_awake hoff h).trans (if_neg hst)),
      next_snd ((lineReq_awake hon h).trans (if_neg hst)), fun hw => ?_, fun hw hshort => ?_⟩
    · have hpos : 0 < width := by omega
      refine next_snd (n := stOk) ((lineReq_awake (.inr ⟨rfl, hpos⟩) h).trans ((linePulse_taken hpos hst).trans ?_))
      rw [if_neg (Nat.not_lt.2 hw)]
    · refine next_snd (n := stOk) ((lineReq_awake (.inr ⟨rfl, hw⟩) h).trans ((linePulse_taken hw hst).trans ?_))
      rw [if_pos hshort]
  · exact ⟨next_snd ((lineReq_awake hoff h).trans (if_pos hst)),
      next_snd ((lineReq_awake hon h).trans (if_pos hst)),
      fun hw => next_snd ((lineReq_awake (.inr ⟨rfl, hw⟩) h).trans (linePulse_in_fault hw hst))⟩
  · exact ⟨congrArg _ (lineTrip_shut h _), congrArg _ (lineTrip_shut h _), congrArg _ (lineTrip_shut h _),
      fun hlim => (next_if_pos _ _ hlim).trans (congrArg _ (lineTrip_shut h _))⟩
  · exact ⟨congrArg _ (lineTrip_open h _), congrArg _ (lineTrip_open h _), congrArg _ (lineTrip_open h _)⟩
  · have h := State.wf_rwf hwf
    exact ⟨_, rfl, readLnLatch_state h, readLnLatch_bit h rfl, readLnLatch_bit h rfl, readLnLatch_bit h rfl,
      readLnLatch_bit h rfl, readLnLatch_mem h⟩

/-! ### EVT lines (R356, R357) -/

theorem evtLvl_ne_latch : R.EVT_LVL ≠ R.EVT_LATCH := by decide

/-- A line's levels and latch bits lie apart. -/
theorem evt_fields_apart : ∀ n : Fin 16, (⟨R.EVT_LVL, 16 + n, 16 + n⟩ : Fld).apart ⟨R.EVT_LVL, n, n⟩ = true ∧
    (⟨R.EVT_LVL, n, n⟩ : Fld).apart ⟨R.EVT_LVL, 16 + n, 16 + n⟩ = true ∧ n.val < 32 ∧ 16 + n.val < 32 := by decide

section
variable {s : State} {n : Fin 16} (h : s.rwf)
include h

theorem reads_bit {a k v : Nat} (hk : k < 32) (hv : v < 2) : Reads ⟨a, k, k⟩ v (s.set ⟨a, k, k⟩ v) :=
  reads_set h ⟨a, k, k⟩ v (decide_eq_true ⟨Nat.le_refl k, hk⟩) (by simpa [Fld.width] using Nat.mod_eq_of_lt hv)

theorem evtLevel_level (hi : Bool) : Reads ⟨R.EVT_LVL, n, n⟩ (b2n hi) (s.evtLevel n hi) := by
  obtain ⟨hhigh, -, hn, -⟩ := evt_fields_apart n
  have k : Reads ⟨R.EVT_LVL, n, n⟩ (b2n hi) (s.set ⟨R.EVT_LVL, n, n⟩ (b2n hi)) := reads_bit h hn (by cases hi <;> decide)
  simp only [State.evtLevel]
  split
  · exact k.set_apart _ _ hhigh
  · exact k.set_other _ _ evtLvl_ne_latch

theorem evtLevel_driven (hi : Bool) (hoe : s.get ⟨R.EVT_CFG, n, n⟩ = 1) :
    Reads ⟨R.EVT_LVL, 16 + n, 16 + n⟩ (b2n hi) (s.evtLevel n hi) := by
  obtain ⟨-, -, -, hn⟩ := evt_fields_apart n
  simp only [State.evtLevel, if_pos hoe]
  exact reads_bit (s.set_rwf _ _ h) hn (by cases hi <;> decide)

theorem evtLevel_undriven (hi : Bool) (hoe : s.get ⟨R.EVT_CFG, n, n⟩ = 0) :
    Reads ⟨R.EVT_LATCH, 16 + n, 16 + n⟩ 1 (s.evtLevel n hi) ∧
    Reads ⟨R.EVT_LVL, 16 + n, 16 + n⟩ (s.get ⟨R.EVT_LVL, 16 + n, 16 + n⟩) (s.evtLevel n hi) := by
  obtain ⟨-, hlow, -, hn⟩ := evt_fields_apart n
  simp only [State.evtLevel, if_neg (hoe ▸ Nat.zero_ne_one)]
  exact ⟨reads_bit (s.set_rwf _ _ h) hn (by decide),
    ((Reads.mk h rfl : Reads ⟨R.EVT_LVL, 16 + n, 16 + n⟩ _ s).set_apart _ _ hlow).set_other _ _ evtLvl_ne_latch⟩

end

theorem evtLevel_evtPulse (s : State) (n : Nat) (hi : Bool) : (s.evtLevel n hi).evtPulse = s.evtPulse := by
  simp only [State.evtLevel]
  split <;> rfl

theorem evtLines : Claims.EvtLines := by
  intro n w hi s hwf
  have h := State.wf_rwf hwf
  let quiet : State := { s with evtPulse := s.evtPulse.filter (· != n.val) }
  let pulsing : State := { s with evtPulse := n.val :: s.evtPulse.filter (· != n.val) }
  have hquiet : quiet.rwf := h
  have hpulsing : pulsing.rwf := h
  have hlevel := evtLevel_level (n := n) hpulsing true
  obtain ⟨-, -, hn, -⟩ := evt_fields_apart n
  refine ⟨(evtLevel_level hquiet hi).get, evtLevel_evtPulse quiet n hi, fun hoe => (evtLevel_driven hquiet hi hoe).get, fun
      hoe => ?_,
    ?_, fun hw => ?_, fun hin => ?_, fun hout => ?_⟩
  · obtain ⟨hlatch, hdriven⟩ := evtLevel_undriven (n := n) hquiet hi hoe
    exact ⟨hlatch.get, hdriven.get⟩
  · simp only [State.evtPulseOn]
    split
    · exact ⟨(hlevel.set_other _ _ evtLvl_ne_latch).get, (evtLevel_evtPulse pulsing n true).symm ▸ List.mem_cons_self⟩
    · exact ⟨hlevel.get, (evtLevel_evtPulse pulsing n true).symm ▸ List.mem_cons_self⟩
  · simp only [State.evtPulseOn, if_pos hw]
    exact (reads_bit hlevel.rwf hn (by decide)).get
  · exact next_if_pos _ _ (by simpa using hin)
  · exact next_if_neg _ _ (by simpa using hout)

/-- Settles O29: the requests and trips of a line, what its switch leaves, and the EVT lines. -/
theorem linesAndEvtOutputs : Obligations.LinesAndEvtOutputs := ⟨linesOpenAndClose, lineStates, evtLines⟩

end Sys2Proof.Machine
end

section
/-!
What events leave: signals to programs and cores, notices, reports, completions of operations and answers of commands.
-/
namespace Sys2Proof.Machine

/-- A register outside the two-wire block and the programs' block. -/
def Outside (a : Nat) : Prop := (a < 0x50800 ∨ 0x50900 ≤ a) ∧ (a < 0x70000 ∨ 0x80000 ≤ a)

theorem outside_of_le {a : Nat} (h : 0x80000 ≤ a) : Outside a := ⟨.inr (by omega), .inr h⟩

/-- What events leave: registers outside the two-wire block and the programs' block, the canonical form, and everything
but transports, waits, operations, commands, reports and conditions. -/
structure OnlyEvents (s t : State) : Prop where
  regs : ∀ a, Outside a → t.rd a = s.rd a
  wf   : s.wf = true → t.wf = true
  rest : { t with regs := s.regs, out := s.out, wire := s.wire, sessions := s.sessions, twm := s.twm, reports := s.reports,
                  cmds := s.cmds, journal := s.journal, books := s.books, wakes := s.wakes, threads := s.threads,
                  mss := s.mss, ops := s.ops, asserts := s.asserts } = s

theorem OnlyEvents.refl (s : State) : OnlyEvents s s := ⟨fun _ _ => rfl, id, rfl⟩

theorem OnlyEvents.trans {s t u : State} (h : OnlyEvents s t) (k : OnlyEvents t u) : OnlyEvents s u := by
  refine ⟨fun a ha => (k.regs a ha).trans (h.regs a ha), fun w => k.wf (h.wf w), ?_⟩
  have hst := h.rest
  have htu := k.rest
  rw [← htu] at hst
  exact hst

section
variable {s t : State}

theorem OnlyTold.events (h : OnlyTold s t) : OnlyEvents s t :=
  ⟨fun a ha => h.regs a ha.1, h.wf, by have hrest := h.rest; rw [← hrest]⟩

theorem OnlyEvents.get (h : OnlyEvents s t) (f : Fld) (hf : Outside f.addr) : t.get f = s.get f := get_congr f (h.regs _ hf)

theorem OnlyEvents.ports (h : OnlyEvents s t) : t.ports = s.ports := by
  have hrest := congrArg State.ports h.rest
  exact hrest

theorem OnlyEvents.chans (h : OnlyEvents s t) : t.chans = s.chans := by
  have hrest := congrArg State.chans h.rest
  exact hrest

theorem OnlyEvents.mem (h : OnlyEvents s t) : t.mem = s.mem := by
  have hrest := congrArg State.mem h.rest
  exact hrest

theorem OnlyEvents.ledger (h : OnlyEvents s t) : t.ledger = s.ledger := by
  have hrest := congrArg State.ledger h.rest
  exact hrest

/-- A change of waits, operations, commands and conditions. -/
theorem onlyEvents_of_rest (hregs : t.regs = s.regs)
    (hrest : { t with regs := s.regs, out := s.out, wire := s.wire, sessions := s.sessions, twm := s.twm,
                      reports := s.reports, cmds := s.cmds, journal := s.journal, books := s.books, wakes := s.wakes,
                      threads := s.threads, mss := s.mss, ops := s.ops, asserts := s.asserts } = s) : OnlyEvents s t := by
  have hmem := congrArg State.mem hrest
  refine ⟨fun a _ => by rw [State.rd, State.rd, hregs], fun h => ?_, hrest⟩
  simpa only [State.wf, State.rwf, State.mwf, hregs, show t.mem = s.mem from hmem] using h

end

theorem onlyEvents_set (s : State) (f : Fld) (v : Nat) (h : ¬ Outside f.addr) : OnlyEvents s (s.set f v) :=
  ⟨fun a ha => s.set_rd_other f v a fun he => h (he ▸ ha), s.set_wf f v, rfl⟩

theorem onlyEvents_ite {p : Prop} [Decidable p] {s t u : State} (ht : OnlyEvents s t) (hu : OnlyEvents s u) :
    OnlyEvents s (if p then t else u) := by
  split
  · exact ht
  · exact hu

theorem onlyEvents_foldl {α : Type} (g : State → α → State) (hg : ∀ s a, OnlyEvents s (g s a)) (l : List α) :
    ∀ s, OnlyEvents s (l.foldl g s) := by
  induction l with
  | nil => exact .refl
  | cons a l ih => exact fun s => (hg s a).trans (ih _)

/-! ### Threads and cores that wake or halt -/

theorem thrStat_not_outside (t : Fin 64) : ¬ Outside (R.SEQ_THR_STAT t) := by
  simp only [Outside, R.SEQ_THR_STAT]
  omega

theorem onlyEvents_modThr (s : State) (t : Fin 64) (g : Thread → Thread) : OnlyEvents s (s.modThr t g) :=
  onlyEvents_of_rest rfl rfl

theorem onlyEvents_modMss (s : State) (k : Fin 2) (g : MssCore → MssCore) : OnlyEvents s (s.modMss k g) :=
  onlyEvents_of_rest rfl rfl

theorem onlyEvents_setThrState (s : State) (t : Fin 64) (st wk : Nat) : OnlyEvents s (s.setThrState t st wk) :=
  (onlyEvents_set s _ st (thrStat_not_outside t)).trans (onlyEvents_set _ _ wk (thrStat_not_outside t))

theorem onlyEvents_endWait (s : State) (x : Exec) : OnlyEvents s (s.endWait x) := by
  cases x with
  | mss k => exact onlyEvents_modMss s k fun m => { m with wait := .none }
  | thread t =>
    have hwait := onlyEvents_modThr s t fun h => { h with wait := .none }
    exact onlyEvents_ite (hwait.trans (onlyEvents_modThr _ t _)) (hwait.trans (onlyEvents_setThrState _ t thrReady 0))

theorem onlyEvents_modCtx (s : State) (x : Exec) (f : Ctx → Ctx) : OnlyEvents s (s.modCtx x f) := by
  cases x with
  | mss k => exact onlyEvents_modMss s k fun m => { m with ctx := f m.ctx }
  | thread t => exact onlyEvents_modThr s t fun h => { h with ctx := f h.ctx }

theorem onlyEvents_wakeThr (s : State) (x : Exec) : OnlyEvents s (s.wakeThr x) := by
  simp only [State.wakeThr]
  split
  · exact onlyEvents_ite (.refl s) ((onlyEvents_modCtx s x _).trans (onlyEvents_endWait _ x))
  · exact .refl s

theorem onlyEvents_wakeAll (l : List Exec) : ∀ s : State, OnlyEvents s (s.wakeAll l) := by
  induction l with
  | nil => exact .refl
  | cons x l ih => exact fun s => (onlyEvents_wakeThr s x).trans (ih _)

theorem onlyEvents_signal (s : State) (kind idx : Nat) (pay : Word) : OnlyEvents s (s.signal kind idx pay) := by
  simp only [State.signal]
  refine .trans ?_ (onlyEvents_wakeAll allExec _)
  exact onlyEvents_of_rest rfl rfl

theorem onlyEvents_tctlStop (s : State) (t : Fin 64) : OnlyEvents s (s.tctlStop t) :=
  onlyEvents_ite ((onlyEvents_modThr s t _).trans (onlyEvents_setThrState _ t thrHalted 0))
    (onlyEvents_ite (onlyEvents_modThr s t _) (.refl s))

theorem onlyEvents_stopSvc (s : State) (t : Nat) : OnlyEvents s (s.stopSvc t) := by
  simp only [State.stopSvc]
  split
  · exact onlyEvents_ite (onlyEvents_tctlStop s _) (.refl s)
  · exact .refl s

/-! ### Answers, completions and notices -/

theorem onlyEvents_finish (s : State) (m : Cmd) (code status : Nat) (body : List Word) :
    OnlyEvents s (s.finish m code status body) := by
  simp only [State.finish]
  split
  · exact (told_respond s m code status body).events.trans (onlyEvents_stopSvc _ _)
  · exact (told_respond s m code status body).events

theorem onlyEvents_done (s : State) (m : Cmd) (code status : Nat) (body : List Word) :
    OnlyEvents s (s.done m code status body) := onlyEvents_finish s m code status _

theorem onlyEvents_opFlit (s : State) (u : Unit') (dir : Nat) : OnlyEvents s (s.opFlit u dir) := by
  simp only [State.opFlit]
  split
  · exact (told_flit s _ dir 1).events
  · exact .refl s

theorem onlyEvents_setWord (s : State) (who : Issuer) (w : Word) (body : List Word) :
    OnlyEvents s (s.setWord who w body) := by
  simp only [State.setWord]
  split
  · exact (onlyEvents_opFlit s _ 1).trans (onlyEvents_of_rest rfl rfl)
  · exact onlyEvents_of_rest rfl rfl

theorem onlyEvents_notice (s : State) (bit code : Nat) (body : List Word) : OnlyEvents s (s.notice bit code body) :=
  (onlySent_notice s bit code body).told.events

theorem onlyEvents_raise (s : State) (src cond d0 : Nat) (d1 : Word) : OnlyEvents s (s.raise src cond d0 d1) :=
  (told_report s _).events

theorem onlyEvents_assertL (s : State) (src cond d0 : Nat) (d1 : Word) : OnlyEvents s (s.assertL src cond d0 d1) := by
  simp only [State.assertL]
  split
  · exact .refl s
  · refine .trans ?_ (told_report _ _).events
    exact onlyEvents_of_rest rfl rfl

theorem onlyEvents_pdEvent (s : State) (p : Fin 8) (code : Nat) : OnlyEvents s (s.pdEvent p code) :=
  (onlyEvents_signal s 0x40 p _).trans (onlyEvents_notice _ 4 0x0980 _)

end Sys2Proof.Machine
end

section
/-!
Type-C ports (chapter 14): the port's own state through the engine's writes, attach and detach, and the capabilities that a
source sends.
-/
namespace Sys2Proof.Machine

/-! ### A port's own state -/

@[simp] theorem State.modPort_port (s : State) (p : Fin 8) (f : Port → Port) : (s.modPort p f).port p = f (s.port p) := by
  simp [State.port, State.modPort]

@[simp] theorem State.modPort_rd (s : State) (p : Fin 8) (f : Port → Port) (a : Nat) : (s.modPort p f).rd a = s.rd a := rfl

@[simp] theorem State.modPort_get (s : State) (p : Fin 8) (f : Port → Port) (g : Fld) : (s.modPort p f).get g = s.get g := rfl

@[simp] theorem State.modPort_wf (s : State) (p : Fin 8) (f : Port → Port) : (s.modPort p f).wf = s.wf := rfl

theorem Reads.modPort {g : Fld} {v : Nat} {s : State} (k : Reads g v s) (p : Fin 8) (f : Port → Port) :
    Reads g v (s.modPort p f) := ⟨k.rwf, k.get⟩

theorem OnlyEvents.port {s t : State} (h : OnlyEvents s t) (p : Fin 8) : t.port p = s.port p := by
  simp only [State.port, h.ports]

/-! ### The end of a port's operations and of its contract (R365, R373) -/

theorem onlyEvents_dropOp (s : State) (who : Issuer) :
    OnlyEvents s { s with ops := s.ops.filter fun x => x.who != who } := onlyEvents_of_rest rfl rfl

theorem onlyEvents_pdOpFail (s : State) (o : Op) (status : Nat) : OnlyEvents s (s.pdOpFail o status) := by
  simp only [State.pdOpFail]
  split
  · exact (onlyEvents_dropOp s o.who).trans (onlyEvents_done _ _ 0x0905 status [])
  · exact onlyEvents_setWord s o.who (cword status) []

/-- What a port's engine leaves: registers outside the two-wire block and the programs' block, and the port but for the
requests and operations in progress. -/
structure OpsEnd (p : Fin 8) (s t : State) : Prop where
  regs  : ∀ a, Outside a → t.rd a = s.rd a
  wf    : s.wf = true → t.wf = true
  port  : { t.port p with req := (s.port p).req, cur := (s.port p).cur } = s.port p

theorem OpsEnd.trans {p : Fin 8} {s t u : State} (h : OpsEnd p s t) (k : OpsEnd p t u) : OpsEnd p s u := by
  refine ⟨fun a ha => (k.regs a ha).trans (h.regs a ha), fun w => k.wf (h.wf w), ?_⟩
  have hst := h.port
  have htu := k.port
  rw [← htu] at hst
  exact hst

theorem OnlyEvents.opsEnd {s t : State} (h : OnlyEvents s t) (p : Fin 8) : OpsEnd p s t :=
  ⟨h.regs, h.wf, by rw [h.port p]⟩

theorem OpsEnd.get {p : Fin 8} {s t : State} (h : OpsEnd p s t) (f : Fld) (hf : Outside f.addr) : t.get f = s.get f :=
  get_congr f (h.regs _ hf)

theorem opsEnd_cur (p : Fin 8) (s : State) (c : Option Issuer) : OpsEnd p s (s.modPort p fun h => { h with cur := c }) :=
  ⟨fun _ _ => rfl, id, by rw [State.modPort_port]⟩

theorem opsEnd_req (p : Fin 8) (s : State) (m : Option Cmd) : OpsEnd p s (s.modPort p fun h => { h with req := m }) :=
  ⟨fun _ _ => rfl, id, by rw [State.modPort_port]⟩

theorem opsEnd_pdReqDone (p : Fin 8) (s : State) (status : Nat) : OpsEnd p s (s.pdReqDone p status) := by
  simp only [State.pdReqDone]
  split
  · exact (opsEnd_req p s none).trans ((onlyEvents_done _ _ 0x0905 status _).opsEnd p)
  · exact (OnlyEvents.refl s).opsEnd p

theorem opsEnd_pdDropOps (p : Fin 8) (s : State) : OpsEnd p s (s.pdDropOps p) :=
  (((onlyEvents_foldl (fun s o => s.pdOpFail o stNotReady) (fun s o => onlyEvents_pdOpFail s o _) (s.pdOps p) s).opsEnd
      p).trans
    (opsEnd_cur p _ none)).trans (opsEnd_pdReqDone p _ stNotReady)

/-- The contract's registers and the port's record of it, cleared. -/
def conCleared (s : State) (p : Fin 8) : State :=
  let s1 := ((s.set (F.PD_STAT.CONTRACT p) 0).set (F.PD_STAT.KIND p) 0).set (F.PD_STAT.POS p) 0
  let s2 := ((s1.wr (R.PD_CON_V p) 0).wr (R.PD_CON_I p) 0).set (F.PD_STAT.WAITING p) 0
  s2.modPort p fun h => { h with pend := none, epr := false, tries := 0 }

theorem pdClearCon_events (s : State) (p : Fin 8) : OnlyEvents (conCleared s p) (s.pdClearCon p) :=
  onlyEvents_ite (onlyEvents_pdEvent _ p 0x0E) (.refl _)

theorem conCleared_port (s : State) (p : Fin 8) :
    (conCleared s p).port p = { s.port p with pend := none, epr := false, tries := 0 } := State.modPort_port _ p _

theorem pd_addrs (p : Nat) : R.PD_STAT p ≠ R.PD_CON_V p ∧ R.PD_STAT p ≠ R.PD_CON_I p ∧ R.PD_CON_V p ≠ R.PD_CON_I p ∧
    R.PD_LATCH p ≠ R.PD_STAT p ∧ R.PD_LATCH p ≠ R.PD_CON_V p ∧ R.PD_LATCH p ≠ R.PD_CON_I p := by
  simp only [R.PD_STAT, R.PD_CON_V, R.PD_CON_I, R.PD_LATCH]
  omega

section
variable {s : State} {p : Fin 8}

theorem conCleared_wf (h : s.wf = true) : (conCleared s p).wf = true := by
  rw [conCleared, State.modPort_wf]
  exact State.set_wf _ _ _ (State.wr_wf _ _ _ (State.wr_wf _ _ _ (State.set_wf _ _ _ (State.set_wf _ _ _ (State.set_wf _ _ _
      h)))))

theorem conCleared_contract (h : s.rwf) : Reads (F.PD_STAT.CONTRACT p) 0 (conCleared s p) := by
  obtain ⟨hv, hi, -⟩ := pd_addrs p
  have k := (((((reads_set h (F.PD_STAT.CONTRACT p) 0 rfl rfl).set_apart (F.PD_STAT.KIND p) 0 rfl).set_apart (F.PD_STAT.POS p)
      0 rfl).wr_other
    (R.PD_CON_V p) 0 hv).wr_other (R.PD_CON_I p) 0 hi).set_apart (F.PD_STAT.WAITING p) 0 rfl
  exact k.modPort p fun h => { h with pend := none, epr := false, tries := 0 }

/-- Outside PD_STAT and the contract's values nothing changes. -/
theorem conCleared_rd {a : Nat} (hstat : a ≠ R.PD_STAT p) (hv : a ≠ R.PD_CON_V p) (hi : a ≠ R.PD_CON_I p) :
    (conCleared s p).rd a = s.rd a := by
  rw [conCleared, State.modPort_rd, State.set_rd_other _ _ _ _ hstat, State.rd_wr_other _ _ _ _ hi,
    State.rd_wr_other _ _ _ _ hv, State.set_rd_other _ _ _ _ hstat, State.set_rd_other _ _ _ _ hstat,
    State.set_rd_other _ _ _ _ hstat]

end

theorem conCleared_values {s : State} (h : s.wf = true) (p : Fin 8) :
    (conCleared s p).rd (R.PD_CON_V p) = 0 ∧ (conCleared s p).rd (R.PD_CON_I p) = 0 := by
  obtain ⟨hv, hi, hvi, -⟩ := pd_addrs p
  rw [conCleared, State.modPort_rd, State.modPort_rd, State.set_rd_other _ _ _ _ hv.symm, State.set_rd_other _ _ _ _ hi.symm,
    State.rd_wr_other _ _ _ _ hvi]
  have hwf := State.set_wf _ (F.PD_STAT.POS p) 0 (State.set_wf _ (F.PD_STAT.KIND p) 0 (s.set_wf (F.PD_STAT.CONTRACT p) 0 h))
  exact ⟨State.rd_wr _ _ _ (State.wf_rwf hwf), State.rd_wr _ _ _ (State.wf_rwf (State.wr_wf _ _ _ hwf))⟩

/-! ### A detach (R364, R365, R366, R373) -/

/-- PD_STAT of an unattached port. -/
def statDetached (u : State) (p : Fin 8) : State :=
  (((u.set (F.PD_STAT.ATTACH p) 0).set (F.PD_STAT.VCONN_ON p) 0).set (F.PD_STAT.PARTNER_RP p) 0).set (F.PD_STAT.OVR p) 0

/-- The port unattached, before its re-resolution. -/
def detached (u : State) (p : Fin 8) : State :=
  (statDetached u p).modPort p fun h =>
    { h with ex := .idle, caps := [], adv := [], advE := [], resend := false, rev2 := false, answers := [],
             wrote := [none, none, none], ra := false, vcSwap := false, bist := false }

section
variable {u : State} {p : Fin 8}

theorem detached_port : (detached u p).port p =
    { u.port p with ex := .idle, caps := [], adv := [], advE := [], resend := false, rev2 := false, answers := [],
                    wrote := [none, none, none], ra := false, vcSwap := false, bist := false } := by
  rw [detached, State.modPort_port]
  rfl

theorem detached_get (g : Fld) : (detached u p).get g = (statDetached u p).get g := State.modPort_get _ p _ g

theorem detached_rd {a : Nat} (ha : a ≠ R.PD_STAT p) : (detached u p).rd a = u.rd a := by
  rw [detached, State.modPort_rd, statDetached, State.set_rd_other _ _ _ _ ha, State.set_rd_other _ _ _ _ ha,
    State.set_rd_other _ _ _ _ ha, State.set_rd_other _ _ _ _ ha]

theorem statDetached_attach (h : u.rwf) : Reads (F.PD_STAT.ATTACH p) 0 (statDetached u p) :=
  (((reads_set h (F.PD_STAT.ATTACH p) 0 rfl rfl).set_apart (F.PD_STAT.VCONN_ON p) 0 rfl).set_apart
    (F.PD_STAT.PARTNER_RP p) 0 rfl).set_apart (F.PD_STAT.OVR p) 0 rfl

theorem statDetached_vconn (h : u.rwf) : Reads (F.PD_STAT.VCONN_ON p) 0 (statDetached u p) :=
  ((reads_set (u.set_rwf _ 0 h) (F.PD_STAT.VCONN_ON p) 0 rfl rfl).set_apart (F.PD_STAT.PARTNER_RP p) 0 rfl).set_apart
    (F.PD_STAT.OVR p) 0 rfl

theorem statDetached_ovr (h : u.rwf) : Reads (F.PD_STAT.OVR p) 0 (statDetached u p) :=
  reads_set (State.set_rwf _ _ 0 (State.set_rwf _ _ 0 (u.set_rwf _ 0 h))) (F.PD_STAT.OVR p) 0 rfl rfl

theorem statDetached_contract {v : Nat} (k : Reads (F.PD_STAT.CONTRACT p) v u) :
    Reads (F.PD_STAT.CONTRACT p) v (statDetached u p) :=
  (((k.set_apart (F.PD_STAT.ATTACH p) 0 rfl).set_apart (F.PD_STAT.VCONN_ON p) 0 rfl).set_apart
    (F.PD_STAT.PARTNER_RP p) 0 rfl).set_apart (F.PD_STAT.OVR p) 0 rfl

end

theorem pdDetach_eq (s : State) (p : Fin 8) :
    s.pdDetach p = ((detached ((s.pdDropOps p).pdClearCon p) p).pdEvent p 0x03).reresolve (portCh p) := rfl

/-- What the end of operations and of the contract leaves. -/
structure ConEnded (p : Fin 8) (s u : State) : Prop where
  wf       : u.wf = true
  contract : u.get (F.PD_STAT.CONTRACT p) = 0
  values   : u.rd (R.PD_CON_V p) = 0 ∧ u.rd (R.PD_CON_I p) = 0
  epr      : (u.port p).epr = false
  regs     : ∀ a, Outside a → a ≠ R.PD_STAT p → a ≠ R.PD_CON_V p → a ≠ R.PD_CON_I p → u.rd a = s.rd a

theorem pd_outside (p : Nat) : Outside (R.PD_STAT p) ∧ Outside (R.PD_CON_V p) ∧ Outside (R.PD_CON_I p) ∧ Outside (R.PD_LATCH
    p) := by
  refine ⟨outside_of_le ?_, outside_of_le ?_, outside_of_le ?_, outside_of_le ?_⟩ <;>
    simp only [R.PD_STAT, R.PD_CON_V, R.PD_CON_I, R.PD_LATCH] <;> omega

theorem conEnded {s : State} (hwf : s.wf = true) (p : Fin 8) : ConEnded p s ((s.pdDropOps p).pdClearCon p) := by
  obtain ⟨hstat, hv, hi, -⟩ := pd_outside p
  have hops := opsEnd_pdDropOps p s
  have hclear := pdClearCon_events (s.pdDropOps p) p
  have hdropped := hops.wf hwf
  have hvalues := conCleared_values hdropped p
  refine ⟨hclear.wf (conCleared_wf hdropped), (hclear.get _ hstat).trans (conCleared_contract (State.wf_rwf hdropped)).get,
    ⟨(hclear.regs _ hv).trans hvalues.1, (hclear.regs _ hi).trans hvalues.2⟩, ?_, fun a ha hs hav hai => ?_⟩
  · rw [hclear.port, conCleared_port]
  · exact (hclear.regs a ha).trans ((conCleared_rd hs hav hai).trans (hops.regs a ha))

theorem param_addrs (p : Fin 8) {fn : Nat} (h : fn < 10) : Outside (paramAddr p fn) ∧ paramAddr p fn ≠ R.PD_STAT p ∧
    paramAddr p fn ≠ R.PD_CON_V p ∧ paramAddr p fn ≠ R.PD_CON_I p := by
  simp only [Outside, paramAddr, R.RG_VSET, R.PD_STAT, R.PD_CON_V, R.PD_CON_I]
  omega

theorem detachClears : Claims.DetachClears := by
  intro p s hwf
  have hend := conEnded hwf p
  have hrwf := State.wf_rwf hend.wf
  obtain ⟨hstat, hov, hoi, -⟩ := pd_outside p
  obtain ⟨hv, hi, -⟩ := pd_addrs p
  have hevent := onlyEvents_pdEvent (detached ((s.pdDropOps p).pdClearCon p) p) p 0x03
  have hget : ∀ {g : Fld} {v : Nat}, g.addr = R.PD_STAT p → Reads g v (statDetached ((s.pdDropOps p).pdClearCon p) p) →
      ((detached ((s.pdDropOps p).pdClearCon p) p).pdEvent p 0x03).get g = v := fun hg k =>
    (hevent.get _ (hg ▸ hstat)).trans ((detached_get _).trans k.get)
  refine ⟨_, pdDetach_eq s p, hget rfl (statDetached_attach hrwf), hget rfl (statDetached_contract ⟨hrwf, hend.contract⟩),
    hget rfl (statDetached_vconn hrwf), hget rfl (statDetached_ovr hrwf),
    (hevent.regs _ hov).trans ((detached_rd hv.symm).trans hend.values.1),
    (hevent.regs _ hoi).trans ((detached_rd hi.symm).trans hend.values.2), ?_, ?_, ?_, fun fn hfn => ?_⟩
  · rw [hevent.port, detached_port]
  · rw [hevent.port, detached_port]
  · rw [hevent.port, detached_port]
    exact hend.epr
  · obtain ⟨hout, hstat, hv, hi⟩ := param_addrs p hfn
    exact (hevent.regs _ hout).trans ((detached_rd hstat).trans (hend.regs _ hout hstat hv hi))

/-! ### Attach, DRP toggling and error recovery (R363 to R365) -/

section
variable {s : State} {p : Fin 8}

/-- The partner's place and orientation enter PD_STAT. -/
def attachPlaced (s : State) (p : Fin 8) (a : AttachInfo) : State :=
  (s.setb (F.PD_STAT.DATA_ROLE p) a.asSource).setb (F.PD_STAT.CC_POL p) a.flipped

theorem attachPlaced_cfg (a : AttachInfo) :
    (attachPlaced s p a).is (F.PD_CFG.VCONN_EN p) = s.is (F.PD_CFG.VCONN_EN p) := by
  have hne : R.PD_CFG p ≠ R.PD_STAT p := by simp only [R.PD_CFG, R.PD_STAT]; omega
  rw [State.is, attachPlaced, State.setb, State.setb, State.get_set_other _ (F.PD_STAT.CC_POL p) (F.PD_CFG.VCONN_EN p) _ hne,
    State.get_set_other _ (F.PD_STAT.DATA_ROLE p) (F.PD_CFG.VCONN_EN p) _ hne]
  rfl

/-- Does the port's role allow the attach? -/
def attachFits (s : State) (p : Fin 8) (a : AttachInfo) : Bool :=
  if s.pdRole p = 3 then a.asSource == (s.port p).rpOn else s.pdRole p == (if a.asSource then 1 else 2)

theorem tcAttach_taken (a : AttachInfo) (hat : s.attach p = 0) (hrole : s.pdRole p ≠ 0) (herr : (s.port p).errRec = false)
    (hfit : attachFits s p a = true) : exec (.tcAttach p a) s = .next
      ((((((attachPlaced s p a).setb (F.PD_STAT.VCONN_ON p)
        (a.asSource && (attachPlaced s p a).is (F.PD_CFG.VCONN_EN p) && a.ra)).set (F.PD_STAT.PARTNER_RP p)
          (if a.asSource then 0 else a.rp + 1)).pdAttach p a.asSource).pdEvent p (if a.asSource then 0x01 else 0x02)).modPort p
          fun h => { h with ra := a.ra }) := by
  refine next_if_pos _ _ ?_
  have hcond : (s.attach p = atNone && s.pdRole p ≠ 0 && !(s.port p).errRec && attachFits s p a : Bool) = true := by
    simp [hat, hrole, herr, hfit, atNone]
  exact hcond

theorem tcAttach_ignored (a : AttachInfo) (h : s.attach p ≠ 0 ∨ s.pdRole p = 0 ∨ (s.port p).errRec = true) :
    exec (.tcAttach p a) s = .next s := by
  refine next_if_neg _ _ ?_
  rcases h with h | h | h <;> simp [h, atNone]

theorem errorRecovery_taken (hrole : s.pdRole p ≠ 0) (herr : (s.port p).errRec = false) : exec (.errorRecovery p) s = .next
    (let t := (s.set (F.PD_LATCH.ERR_RECOVERY p) 1).pdDetach p
     (t.raise (312 + p) 1 0 (t.rd (R.PD_LATCH p))).modPort p fun h => { h with errRec := true }) :=
  next_if_neg _ _ (by simp [hrole, herr])

end

theorem attachAndDetach : Claims.AttachAndDetach := by
  intro p a s _ fits
  refine ⟨fun hat hrole herr hfit _ => ?_, tcAttach_ignored a, fun h => next_if_pos _ _ h, fun h => next_if_neg _ _ h,
    fun hrole hat herr => next_if_pos _ _ (by simp [hrole, hat, herr, atNone]), fun h => next_if_neg _ _ (by simp [h]),
    errorRecovery_taken, rfl⟩
  have hfits : attachFits s p a = true := by
    by_cases hdrp : s.pdRole p = 3
    · simp only [fits, if_pos hdrp] at hfit
      rw [attachFits, if_pos hdrp]
      exact beq_iff_eq.2 hfit
    · simp only [fits, if_neg hdrp] at hfit
      rw [attachFits, if_neg hdrp]
      exact beq_iff_eq.2 hfit
  refine (tcAttach_taken a hat hrole herr hfits).trans ?_
  rw [attachPlaced_cfg]
  rfl

/-! ### Capabilities (R366, R368, R369) -/

section
variable {s : State} {p : Fin 8}

/-- The message in which a source sends its capabilities. -/
def capsMsg (s : State) (p : Fin 8) : PdMsg :=
  if (s.port p).epr then extMsg extEprSourceCap ((s.advSpr p ++ List.replicate 7 0).take 7 ++ s.advEpr p)
  else datMsg datSourceCap (s.advSpr p)

theorem sendCaps_port (must : Bool) : (s.sendCaps p must).port p =
    { s.port p with adv := s.advSpr p, advE := s.advEpr p, resend := false, ex := .caps must,
                    tx := (s.port p).tx ++ [capsMsg s p] } := by
  simp only [State.sendCaps, State.pdTx, State.modPort_port]
  rfl

theorem sendCaps_regs (must : Bool) : (s.sendCaps p must).regs = s.regs := rfl

theorem firstSourceCap_sends (hat : s.attach p = 1) (hen : s.is (F.PD_CFG.PD_EN p) = true) (hex : (s.port p).ex = .idle)
    (hcon : s.is (F.PD_STAT.CONTRACT p) = false) (hadv : s.advSpr p ≠ []) :
    exec (.firstSourceCap p) s = .next (s.sendCaps p false) :=
  next_if_pos _ _ (by simp [hat, hen, hex, hcon, hadv, atSrc])

/-- The contract bit after the partner's new Rp is that of before. -/
theorem partnerRp_contract (h : s.rwf) (rp : Nat) :
    (s.set (F.PD_STAT.PARTNER_RP p) rp).is (F.PD_STAT.CONTRACT p) = s.is (F.PD_STAT.CONTRACT p) := by
  have k : Reads (F.PD_STAT.CONTRACT p) (s.get (F.PD_STAT.CONTRACT p)) s := ⟨h, rfl⟩
  rw [State.is, (k.set_apart (F.PD_STAT.PARTNER_RP p) rp rfl).get]
  rfl

theorem partnerRpChange_sink (h : s.rwf) (hat : s.attach p = 2) (rp : Fin 3) : exec (.partnerRpChange p rp) s = .next
    ((if s.is (F.PD_STAT.CONTRACT p) then s.set (F.PD_STAT.PARTNER_RP p) (rp + 1)
      else (s.set (F.PD_STAT.PARTNER_RP p) (rp + 1)).pdAttachWrites p false).pdGo p) := by
  rw [← partnerRp_contract h (rp + 1)]
  exact next_if_pos _ _ hat

end

theorem capabilitiesGoOut : Claims.CapabilitiesGoOut := by
  intro p rp s hwf u
  have h := State.wf_rwf hwf
  refine ⟨fun hat hcon => ?_, fun hat hcon => ?_, fun hat => next_if_neg _ _ hat, fun hat hen hex => ⟨fun hcon hadv => ?_, fun
      hre => ?_⟩,
    fun hoff => ⟨next_if_neg _ _ ?_, next_if_neg _ _ ?_⟩, fun hadv => next_if_neg _ _ ?_, fun must => ?_⟩
  · refine (partnerRpChange_sink h hat rp).trans ?_
    rw [if_neg (by simp [State.is, hcon])]
  · refine (partnerRpChange_sink h hat rp).trans ?_
    rw [if_pos hcon]
  · exact firstSourceCap_sends hat hen hex hcon hadv
  · exact next_if_pos _ _ (by simp [hat, hen, hex, hre, atSrc])
  · rcases hoff with hoff | hoff <;> simp [hoff, atSrc]
  · rcases hoff with hoff | hoff <;> simp [hoff, atSrc]
  · simp [hadv]
  · refine ⟨capsMsg s p, ?_, ?_, sendCaps_regs must, fun hepr => by simp [capsMsg, hepr]⟩
    · rw [sendCaps_port]
    · rw [sendCaps_port]

/-- Settles O40: attach and detach, what a detach clears, and the capabilities that a source sends. -/
theorem typeCAttachAndCapabilities : Obligations.TypeCAttachAndCapabilities :=
  ⟨attachAndDetach, detachClears, capabilitiesGoOut⟩

end Sys2Proof.Machine
end

section
/-!
Contracts of the Type-C ports (R366, R369 to R371, R374, R375, R379): the transition of a source, the evaluation of a
Request, timeouts and Hard Resets.
-/
namespace Sys2Proof.Machine

/-! ### The transition of a source (R371) -/

section
variable {s : State} {p : Fin 8} {t : PdTerms}

/-- The contract in force as the port's registers show it. -/
def conShown (s : State) (p : Fin 8) (t : PdTerms) : State :=
  (((((s.set (F.PD_STAT.CONTRACT p) (if (s.port p).epr then 2 else 1)).set (F.PD_STAT.KIND p) t.kind).set (F.PD_STAT.POS p)
      t.pos).wr
    (R.PD_CON_V p) (BitVec.ofNat 32 t.v)).wr (R.PD_CON_I p) (BitVec.ofNat 32 t.i))

theorem pdContract_eq (h : (s.port p).pend = some t) : s.pdContract p =
    ((conShown s p t).modPort p fun h => { h with tries := 0 }).pdEvent p 0x04 := by
  simp only [State.pdContract, h]
  rfl

theorem pdContract_events (h : (s.port p).pend = some t) :
    OnlyEvents ((conShown s p t).modPort p fun h => { h with tries := 0 }) (s.pdContract p) := by
  rw [pdContract_eq h]
  exact onlyEvents_pdEvent _ p 0x04

theorem pdContract_rd (h : (s.port p).pend = some t) {a : Nat} (ha : Outside a) :
    (s.pdContract p).rd a = (conShown s p t).rd a :=
  ((pdContract_events h).regs a ha).trans (State.modPort_rd _ p _ a)

theorem pdContract_get (h : (s.port p).pend = some t) {g : Fld} (hg : g.addr = R.PD_STAT p) :
    (s.pdContract p).get g = (conShown s p t).get g :=
  get_congr g (pdContract_rd h (hg ▸ (pd_outside p).1))

theorem conShown_values (h : s.rwf) : (conShown s p t).rd (R.PD_CON_V p) = BitVec.ofNat 32 t.v ∧
    (conShown s p t).rd (R.PD_CON_I p) = BitVec.ofNat 32 t.i := by
  obtain ⟨-, -, hvi, -⟩ := pd_addrs p
  have hstat := State.set_rwf _ (F.PD_STAT.POS p) t.pos (State.set_rwf _ (F.PD_STAT.KIND p) t.kind
    (s.set_rwf (F.PD_STAT.CONTRACT p) (if (s.port p).epr then 2 else 1) h))
  rw [conShown, State.rd_wr_other _ _ _ _ hvi]
  exact ⟨State.rd_wr _ _ _ hstat, State.rd_wr _ _ _ (State.wr_rwf _ _ _ hstat)⟩

/-- A field of PD_STAT passes the writes of the contract's values. -/
theorem Reads.conValues {g : Fld} {v : Nat} {u : State} (k : Reads g v u) (hg : g.addr = R.PD_STAT p) (x y : Word) :
    Reads g v ((u.wr (R.PD_CON_V p) x).wr (R.PD_CON_I p) y) :=
  (k.wr_other _ x (hg ▸ (pd_addrs p).1)).wr_other _ y (hg ▸ (pd_addrs p).2.1)

theorem conShown_contract (h : s.rwf) : Reads (F.PD_STAT.CONTRACT p) (if (s.port p).epr then 2 else 1) (conShown s p t) := by
  have hlt : (if (s.port p).epr then 2 else 1) < 4 := by split <;> decide
  exact (((reads_set h (F.PD_STAT.CONTRACT p) _ rfl (Nat.mod_eq_of_lt hlt)).set_apart (F.PD_STAT.KIND p) _ rfl).set_apart
    (F.PD_STAT.POS p) _ rfl).conValues rfl _ _

theorem conShown_kind (h : s.rwf) (hk : t.kind < 8) : Reads (F.PD_STAT.KIND p) t.kind (conShown s p t) :=
  ((reads_set (s.set_rwf _ _ h) (F.PD_STAT.KIND p) t.kind rfl (Nat.mod_eq_of_lt hk)).set_apart (F.PD_STAT.POS p) _
      rfl).conValues
    rfl _ _

theorem conShown_pos (h : s.rwf) (hpos : t.pos < 16) : Reads (F.PD_STAT.POS p) t.pos (conShown s p t) :=
  (reads_set (State.set_rwf _ _ _ (s.set_rwf _ _ h)) (F.PD_STAT.POS p) t.pos rfl (Nat.mod_eq_of_lt hpos)).conValues rfl _ _

end

theorem sourceTransitions : Claims.SourceTransitions := by
  intro p t s hwf hpend slew
  have h := State.wf_rwf hwf
  refine ⟨fun hex => ?_, fun hex hband => ?_, fun hex hband => ?_, fun hex => next_if_pos _ _ hex, fun hex => next_if_neg _ _
      hex,
    fun hpos hkind => ?_⟩
  · show execSourceTransitionStart p s = _
    simp only [execSourceTransitionStart, hex, hpend, slew]
  · show execPsRdySend p s = _
    simp only [execPsRdySend, hex, hpend, hband, if_true]
  · show execPsRdySend p s = _
    simp only [execPsRdySend, hex, hpend, hband, Bool.false_eq_true, if_false]
  · obtain ⟨-, hv, hi, -⟩ := pd_outside p
    exact ⟨(pdContract_get hpend rfl).trans (conShown_contract h).get, (pdContract_get hpend rfl).trans (conShown_pos h
        hpos).get,
      (pdContract_get hpend rfl).trans (conShown_kind h hkind).get, (pdContract_rd hpend hv).trans (conShown_values h).1,
      (pdContract_rd hpend hi).trans (conShown_values h).2⟩

/-! ### What the engine keeps while it goes on: what it has sent, and the latch of a refused contract -/

/-- What the engine's progress keeps: the messages already sent, and CONTRACT_REJ. -/
structure PdRuns (p : Fin 8) (s t : State) : Prop where
  wf  : s.wf = true → t.wf = true
  tx  : ∃ l, (t.port p).tx = (s.port p).tx ++ l
  rej : s.wf = true → s.get (F.PD_LATCH.CONTRACT_REJ p) = 1 → t.get (F.PD_LATCH.CONTRACT_REJ p) = 1

theorem PdRuns.refl (p : Fin 8) (s : State) : PdRuns p s s := ⟨id, ⟨[], (List.append_nil _).symm⟩, fun _ => id⟩

section
variable {p : Fin 8} {s t u : State}

theorem PdRuns.trans (h : PdRuns p s t) (k : PdRuns p t u) : PdRuns p s u := by
  refine ⟨fun w => k.wf (h.wf w), ?_, fun w hrej => k.rej (h.wf w) (h.rej w hrej)⟩
  obtain ⟨l, hl⟩ := h.tx
  obtain ⟨m, hm⟩ := k.tx
  exact ⟨l ++ m, by rw [hm, hl, List.append_assoc]⟩

theorem pdRuns_ite {c : Prop} [Decidable c] (ht : PdRuns p s t) (hu : PdRuns p s u) : PdRuns p s (if c then t else u) := by
  split
  · exact ht
  · exact hu

theorem OpsEnd.runs (h : OpsEnd p s t) : PdRuns p s t := by
  have htx := congrArg Port.tx h.port
  exact ⟨h.wf, ⟨[], by rw [List.append_nil]; exact htx⟩, fun _ hrej => (h.get _ (pd_outside p).2.2.2).trans hrej⟩

theorem OnlyEvents.runs (h : OnlyEvents s t) : PdRuns p s t := (h.opsEnd p).runs

end

section
variable (p : Fin 8) (s : State)

/-- A change of the port that at most adds to what it has sent. -/
theorem pdRuns_modPort (f : Port → Port) (l : List PdMsg) (h : (f (s.port p)).tx = (s.port p).tx ++ l) :
    PdRuns p s (s.modPort p f) :=
  ⟨fun hwf => (State.modPort_wf s p f).trans hwf, ⟨l, by rw [State.modPort_port, h]⟩, fun _ hrej => (State.modPort_get s p f
      _).trans hrej⟩

theorem pdRuns_pdTx (m : PdMsg) : PdRuns p s (s.pdTx p m) := pdRuns_modPort p s _ [m] rfl

theorem pdRuns_pdEx (e : PdEx) : PdRuns p s (s.pdEx p e) := pdRuns_modPort p s _ [] (List.append_nil _).symm

theorem pdRuns_wr (a : Nat) (w : Word) (h : R.PD_LATCH p ≠ a) : PdRuns p s (s.wr a w) :=
  ⟨s.wr_wf a w, ⟨[], (List.append_nil _).symm⟩, fun _ hrej => (get_congr _ (s.rd_wr_other a _ w h)).trans hrej⟩

theorem pdRuns_set_other (f : Fld) (v : Nat) (h : R.PD_LATCH p ≠ f.addr) : PdRuns p s (s.set f v) := pdRuns_wr p s _ _ h

theorem pdRuns_set_apart (f : Fld) (v : Nat) (h : f.apart (F.PD_LATCH.CONTRACT_REJ p) = true) : PdRuns p s (s.set f v) :=
  ⟨s.set_wf f v, ⟨[], (List.append_nil _).symm⟩, fun hwf hrej =>
    ((Reads.mk (State.wf_rwf hwf) hrej : Reads (F.PD_LATCH.CONTRACT_REJ p) 1 s).set_apart f v h).get⟩

/-- A change of what stands beyond registers, memory and ports. -/
theorem pdRuns_of_regs {t : State} (hregs : t.regs = s.regs) (hmem : t.mem = s.mem) (hports : t.ports = s.ports) : PdRuns p s
    t := by
  refine ⟨fun hwf => ?_, ⟨[], ?_⟩, fun _ hrej => (get_congr _ (by rw [State.rd, State.rd, hregs])).trans hrej⟩
  · simpa only [State.wf, State.rwf, State.mwf, hregs, hmem] using hwf
  · rw [State.port, State.port, hports, List.append_nil]

end

/-! ### The engine's writes -/

section
variable (p : Fin 8) (s : State)

theorem latch_ne_channel (c : Fin 24) {fn : Nat} (h : fn < 10) : R.PD_LATCH p ≠ paramAddr c fn ∧ R.PD_LATCH p ≠ R.RG_STAT c :=
    by
  simp only [R.PD_LATCH, paramAddr, R.RG_VSET, R.RG_STAT]
  omega

theorem pdRuns_modEng (c : Fin 24) (g : Engine → Engine) : PdRuns p s (s.modEng c g) := pdRuns_of_regs p s rfl rfl rfl

theorem pdRuns_setParam (c : Fin 24) {fn : Nat} (w : Word) (hfn : fn < 10) (h4 : fn ≠ 4) : PdRuns p s (s.setParam c fn w).2 :=
    by
  obtain ⟨haddr, hstat⟩ := latch_ne_channel p c hfn
  by_cases hok : s.paramOk c fn w = true
  · rw [setParam_stored s c fn w hok h4]
    exact (pdRuns_wr p s _ w haddr).trans (pdRuns_modEng p _ c _)
  · rw [setParam_refused s c fn w hok]
    exact pdRuns_set_other p s (F.RG_STAT.CFG_REJ c) 1 hstat

theorem pdRuns_setRamp (c : Fin 24) {fn : Nat} (w slew : Word) (hfn : fn < 10) (h4 : fn ≠ 4) :
    PdRuns p s (s.setRamp c fn w slew).2 := by
  have hparam := pdRuns_setParam p s c w hfn h4
  simp only [State.setRamp]
  split
  · exact .refl p s
  · exact pdRuns_ite (hparam.trans (pdRuns_modEng p _ c _)) hparam

theorem pdRuns_pdOvr : PdRuns p s (s.pdOvr p) := by
  have hne : R.PD_LATCH p ≠ R.PD_STAT p := (pd_addrs p).2.2.2.1
  exact (pdRuns_ite (pdRuns_set_apart p s (F.PD_LATCH.OVR p) 1 rfl) (.refl p s)).trans
    (pdRuns_set_other p _ (F.PD_STAT.OVR p) _ hne)

theorem pdParams_param (k : Nat) : pdParams.getD k 0 < 10 ∧ pdParams.getD k 0 ≠ 4 := by
  rcases k with _ | _ | _ | k <;> simp [pdParams]

theorem pdRuns_pdWrite (k v : Nat) (slew : Option Nat) : PdRuns p s (s.pdWrite p k v slew) := by
  obtain ⟨hfn, h4⟩ := pdParams_param k
  refine .trans (.trans ?_ (pdRuns_modPort p _ _ [] (List.append_nil _).symm)) (pdRuns_pdOvr p _)
  cases slew with
  | none => exact pdRuns_setParam p s (portCh p) _ hfn h4
  | some x => exact pdRuns_setRamp p s (portCh p) _ _ hfn h4

theorem pdRuns_pdAttachWrites (src : Bool) : PdRuns p s (s.pdAttachWrites p src) := by
  cases src with
  | true => exact (pdRuns_pdWrite p s 0 _ none).trans (pdRuns_pdWrite p _ 1 _ none)
  | false => exact pdRuns_pdWrite p s 2 _ none

end

/-! ### Starting what waits (R379), and a Hard Reset (R366) -/

section
variable (p : Fin 8) (s : State)

theorem pdRuns_pdRequest (t : PdTerms) : PdRuns p s (s.pdRequest p t) := by
  simp only [State.pdRequest]
  split
  · exact .refl p s
  · exact (pdRuns_modPort p s _ [] (List.append_nil _).symm).trans (pdRuns_pdTx p _ _)

theorem pdRuns_pdOpFail (o : Op) (status : Nat) : PdRuns p s (s.pdOpFail o status) := (onlyEvents_pdOpFail s o status).runs

theorem pdRuns_pdStartOp (o : Op) : PdRuns p s (s.pdStartOp p o) := by
  have hfail := fun st => pdRuns_pdOpFail p s o st
  have hsend : ∀ (f : Port → Port) (m : PdMsg), (∀ h, (f h).tx = h.tx) → PdRuns p s ((s.modPort p f).pdTx p m) := fun f m hf =>
    (pdRuns_modPort p s f [] ((hf _).trans (List.append_nil _).symm)).trans (pdRuns_pdTx p _ m)
  simp only [State.pdStartOp]
  refine pdRuns_ite (hfail _) ?_
  split
  · refine pdRuns_ite (hfail _) ?_
    split
    · refine (OnlyEvents.runs (onlyEvents_dropOp s o.who)).trans (.trans ?_ (pdRuns_pdRequest p _ _))
      exact pdRuns_modPort p _ _ [] (List.append_nil _).symm
    · exact hfail _
  · split
    · exact hfail _
    · exact pdRuns_ite (hfail _) (pdRuns_ite (hfail _) (hsend _ _ fun _ => rfl))
  · split
    · exact hfail _
    · exact pdRuns_ite (hfail _) (pdRuns_ite (hfail _) (hsend _ _ fun _ => rfl))
  · split
    · exact hfail _
    · exact pdRuns_ite (hfail _) (pdRuns_ite (hfail _) (hsend _ _ fun _ => rfl))
  · exact .refl p s

theorem pdRuns_pdNext (n : Nat) : ∀ s : State, PdRuns p s (s.pdNext p n) := by
  induction n with
  | zero => exact .refl p
  | succ n ih =>
    intro s
    simp only [State.pdNext]
    refine pdRuns_ite (.refl p s) ?_
    split
    · exact .refl p s
    · exact (pdRuns_pdStartOp p s _).trans (ih _)

theorem pdRuns_pdIdle : PdRuns p s (s.pdIdle p) := (pdRuns_pdEx p s .idle).trans (pdRuns_pdNext p _ _)

theorem pdRuns_pdEvent (code : Nat) : PdRuns p s (s.pdEvent p code) := (onlyEvents_pdEvent s p code).runs

theorem pdRuns_conCleared : PdRuns p s (conCleared s p) := by
  obtain ⟨-, -, -, hstat, hv, hi⟩ := pd_addrs p
  rw [conCleared]
  refine .trans ?_ (pdRuns_modPort p _ _ [] (List.append_nil _).symm)
  exact (((((pdRuns_set_other p s (F.PD_STAT.CONTRACT p) 0 hstat).trans (pdRuns_set_other p _ (F.PD_STAT.KIND p) 0
      hstat)).trans
    (pdRuns_set_other p _ (F.PD_STAT.POS p) 0 hstat)).trans (pdRuns_wr p _ _ 0 hv)).trans (pdRuns_wr p _ _ 0 hi)).trans
    (pdRuns_set_other p _ (F.PD_STAT.WAITING p) 0 hstat)

theorem pdRuns_pdClearCon : PdRuns p s (s.pdClearCon p) := (pdRuns_conCleared p s).trans (pdClearCon_events s p).runs

/-- A Hard Reset up to the role's own part of it. -/
def hardReset (s : State) (p : Fin 8) (sent : Bool) : State :=
  (((((if sent then s.pdTx p hardResetMark else s).set (F.PD_LATCH.HARD_RESET p) 1).pdDropOps p).pdClearCon p).modPort p
    fun h => { h with bist := false }).pdEvent p 0x09

theorem pdHard_eq (sent : Bool) (h : s.attached p = true) : s.pdHard p sent =
    if (hardReset s p sent).attach p = atSrc then (hardReset s p sent).pdEx p .hard
    else ((hardReset s p sent).pdAttachWrites p false).pdEx p .idle := if_pos h

theorem pdRuns_hardReset (sent : Bool) : PdRuns p s (hardReset s p sent) := by
  have hmark := (pdRuns_ite (pdRuns_pdTx p s hardResetMark) (.refl p s)).trans
    (pdRuns_set_apart p (if sent then s.pdTx p hardResetMark else s) (F.PD_LATCH.HARD_RESET p) 1 rfl)
  refine .trans ?_ (pdRuns_pdEvent p _ 0x09)
  refine .trans ?_ (pdRuns_modPort p _ _ [] (List.append_nil _).symm)
  exact (hmark.trans (opsEnd_pdDropOps p _).runs).trans (pdRuns_pdClearCon p _)

theorem pdRuns_pdHard (sent : Bool) : PdRuns p s (s.pdHard p sent) := by
  by_cases h : s.attached p = true
  · rw [pdHard_eq p s sent h]
    exact pdRuns_ite ((pdRuns_hardReset p s sent).trans (pdRuns_pdEx p _ .hard))
      (((pdRuns_hardReset p s sent).trans (pdRuns_pdAttachWrites p _ false)).trans (pdRuns_pdEx p _ .idle))
  · rw [State.pdHard, if_neg h]
    exact .refl p s

end

/-! ### The evaluation of a Request (R370) -/

section
variable {s : State} {p : Fin 8}

/-- What the port sends next stands behind what it had sent. -/
theorem PdRuns.sent {m : PdMsg} {t : State} (h : PdRuns p (s.pdTx p m) t) : (t.port p).tx[(s.port p).tx.length]? = some m := by
  obtain ⟨l, hl⟩ := h.tx
  have htx : ((s.pdTx p m).port p).tx = (s.port p).tx ++ [m] := by rw [State.pdTx, State.modPort_port]
  rw [hl, htx, List.append_assoc, List.getElem?_append_right (Nat.le_refl _), Nat.sub_self]
  rfl

/-- A refused Request as the port sends and latches it. -/
def refusal (s : State) (p : Fin 8) (wait : Bool) : State :=
  (s.pdTx p (ctlMsg (if wait then ctlWait else ctlReject))).set (F.PD_LATCH.CONTRACT_REJ p) 1

theorem pdRefuse_runs (wait : Bool) : PdRuns p (refusal s p wait) (s.pdRefuse p wait) :=
  (pdRuns_pdEvent p _ 0x05).trans (pdRuns_ite (pdRuns_pdHard p _ true) (pdRuns_ite (.refl p _) (pdRuns_pdIdle p _)))

theorem refusal_sends (wait : Bool) : ((refusal s p wait).port p).tx =
    ((s.pdTx p (ctlMsg (if wait then ctlWait else ctlReject))).port p).tx := rfl

/-- A refusal sends Wait or Reject and latches CONTRACT_REJ. -/
theorem pdRefuse_outcome (hwf : s.wf = true) (wait : Bool) :
    ((s.pdRefuse p wait).port p).tx[(s.port p).tx.length]? = some (ctlMsg (if wait then ctlWait else ctlReject)) ∧
    (s.pdRefuse p wait).get (F.PD_LATCH.CONTRACT_REJ p) = 1 := by
  have hsent : (s.pdTx p (ctlMsg (if wait then ctlWait else ctlReject))).wf = true := (State.modPort_wf s p _).trans hwf
  have hlatch := reads_set (State.wf_rwf hsent) (F.PD_LATCH.CONTRACT_REJ p) 1 rfl rfl
  have hruns := pdRefuse_runs (s := s) (p := p) wait
  refine ⟨?_, hruns.rej (State.set_wf _ _ _ hsent) hlatch.get⟩
  obtain ⟨l, hl⟩ := hruns.tx
  rw [hl, refusal_sends, State.pdTx, State.modPort_port, List.append_assoc, List.getElem?_append_right (Nat.le_refl _),
    Nat.sub_self]
  rfl

theorem srcLimit_keeps (o : Pdo) (v i : Nat) : (s.srcLimit p o v i).2.regs = s.regs ∧ (s.srcLimit p o v i).2.port p = s.port p
    := by
  simp only [State.srcLimit]
  split <;> exact ⟨rfl, rfl⟩

/-- The Accept of a Request with its terms. -/
def accepted (s : State) (p : Fin 8) (o : Pdo) (pos v i : Nat) : State :=
  ((s.srcLimit p o v i).2.modPort p fun h => { h with
    ex := .srcWait, pend := some { pos := pos, kind := o.kind, v := v * 100, i := i * 1000, lim := (s.srcLimit p o v i).1 }
        }).pdTx p
    (ctlMsg ctlAccept)

theorem accepted_port (o : Pdo) (pos v i : Nat) : ((accepted s p o pos v i).port p).tx = (s.port p).tx ++ [ctlMsg ctlAccept] ∧
    ((accepted s p o pos v i).port p).ex = .srcWait := by
  rw [accepted, State.pdTx, State.modPort_port, State.modPort_port, (srcLimit_keeps o v i).2]
  exact ⟨rfl, rfl⟩

theorem accepted_regs (o : Pdo) (pos v i : Nat) : (accepted s p o pos v i).regs = s.regs := (srcLimit_keeps o v i).1

/-- The evaluation of a Request whose object is advertised. -/
theorem pdEvaluate_advertised {rdo : Word} {o : Pdo} (ho : (s.advAt p (bitsOf rdo 31 28)).bind pdoOf = some o) :
    s.pdEvaluate p rdo =
      let v := (requestOf o rdo).1
      let i := (requestOf o rdo).2.1
      if !(requestOf o rdo).2.2 || !(decide ((v * i : Nat) ≤ s.contP (portCh p) * 1000) &&
          decide ((i : Int) * 1000 ≤ s.contI (portCh p))) then s.pdRefuse p false
      else if ((s.ledger.tiles.getD p (0, 0)).1 + (s.ledger.tiles.getD p (0, 0)).2 + s.free) * 1000000 < v * i then
        s.pdRefuse p (s.is (F.PD_CFG.WAIT_EN p))
      else accepted s p o (bitsOf rdo 31 28) v i := by
  simp only [State.pdEvaluate, ho]
  rfl

end

theorem requestEvaluation : Claims.RequestEvaluation := by
  intro p rdo s hwf o sent
  have hrefuse := pdRefuse_outcome (p := p) hwf
  refine ⟨fun ho => ?_, fun d ho => ?_⟩
  · have hnone : s.pdEvaluate p rdo = s.pdRefuse p false := by
      simp only [State.pdEvaluate]
      rw [show (s.advAt p (bitsOf rdo 31 28)).bind pdoOf = none from ho]
    rw [hnone]
    exact hrefuse false
  · intro v i fits tl covered
    have hfits : (!(requestOf d rdo).2.2 || !(decide ((v * i : Nat) ≤ s.contP (portCh p) * 1000) &&
        decide ((i : Int) * 1000 ≤ s.contI (portCh p))) : Bool) = true ↔ ¬ fits := by
      simp only [fits, Bool.or_eq_true, Bool.not_eq_true', Bool.and_eq_false_iff, decide_eq_false_iff_not, not_and_or,
        Bool.not_eq_true, Nat.cast_mul]
    have heval := pdEvaluate_advertised ho
    refine ⟨fun hno => ?_, fun hyes hnot => ?_, fun hyes hcov => ?_⟩
    · have hres : s.pdEvaluate p rdo = s.pdRefuse p false := heval.trans (if_pos (hfits.2 hno))
      rw [hres]
      exact hrefuse false
    · have hres : s.pdEvaluate p rdo = s.pdRefuse p (s.is (F.PD_CFG.WAIT_EN p)) :=
        heval.trans ((if_neg (mt hfits.1 (not_not.2 hyes))).trans (if_pos (Nat.lt_of_not_le hnot)))
      rw [hres]
      exact hrefuse _
    · have hres : s.pdEvaluate p rdo = accepted s p d (bitsOf rdo 31 28) v i :=
        heval.trans ((if_neg (mt hfits.1 (not_not.2 hyes))).trans (if_neg (Nat.not_lt.2 hcov)))
      obtain ⟨htx, hex⟩ := accepted_port (s := s) (p := p) d (bitsOf rdo 31 28) v i
      rw [hres]
      refine ⟨?_, hex, accepted_regs d _ v i⟩
      simp only [sent]
      rw [htx, List.getElem?_append_right (Nat.le_refl _), Nat.sub_self]
      rfl

/-! ### Timeouts and Hard Resets (R366, R369, R374, R375, R379) -/

/-- The attach state passes the end of the contract. -/
theorem conCleared_attach {u : State} {p : Fin 8} (h : u.rwf) {v : Nat} (hu : u.get (F.PD_STAT.ATTACH p) = v) :
    (conCleared u p).get (F.PD_STAT.ATTACH p) = v := by
  have k : Reads (F.PD_STAT.ATTACH p) v u := ⟨h, hu⟩
  rw [conCleared, State.modPort_get]
  exact (((((k.set_apart (F.PD_STAT.CONTRACT p) 0 rfl).set_apart (F.PD_STAT.KIND p) 0 rfl).set_apart (F.PD_STAT.POS p) 0
    rfl).conValues rfl 0 0).set_apart (F.PD_STAT.WAITING p) 0 rfl).get

section
variable {s : State} {p : Fin 8} (hwf : s.wf = true) (sent : Bool)

/-- The mark of a Hard Reset, sent. -/
def hardMarked (s : State) (p : Fin 8) (sent : Bool) : State := if sent then s.pdTx p hardResetMark else s

theorem hardMarked_wf : (hardMarked s p sent).wf = s.wf := by cases sent <;> rfl

/-- The mark of a Hard Reset sent, and its latch. -/
def hardLatched (s : State) (p : Fin 8) (sent : Bool) : State := (hardMarked s p sent).set (F.PD_LATCH.HARD_RESET p) 1

/-- A Hard Reset leaves the registers that the end of the contract leaves, and a port that is not under test. -/
theorem hardReset_rd {a : Nat} (ha : Outside a) :
    (hardReset s p sent).rd a = (((hardLatched s p sent).pdDropOps p).pdClearCon p).rd a :=
  ((onlyEvents_pdEvent _ p 0x09).regs a ha).trans (State.modPort_rd _ p _ a)

theorem hardLatched_rd {a : Nat} (ha : a ≠ R.PD_LATCH p) : (hardLatched s p sent).rd a = s.rd a := by
  rw [hardLatched, State.set_rd_other _ _ _ _ ha]
  cases sent <;> rfl

include hwf

theorem hardLatched_wf : (hardLatched s p sent).wf = true := State.set_wf _ _ _ ((hardMarked_wf sent).trans hwf)

theorem hardReset_contract : (hardReset s p sent).get (F.PD_STAT.CONTRACT p) = 0 :=
  (get_congr _ (hardReset_rd sent (pd_outside p).1)).trans (conEnded (hardLatched_wf hwf sent) p).contract

theorem hardReset_latch : (hardReset s p sent).get (F.PD_LATCH.HARD_RESET p) = 1 := by
  obtain ⟨-, -, -, hlatch⟩ := pd_outside p
  obtain ⟨-, -, -, hstat, hv, hi⟩ := pd_addrs p
  have hset := reads_set (State.wf_rwf ((hardMarked_wf (p := p) sent).trans hwf)) (F.PD_LATCH.HARD_RESET p) 1 rfl rfl
  rw [get_congr _ (hardReset_rd sent hlatch), get_congr _ ((conEnded (hardLatched_wf hwf sent) p).regs _ hlatch hstat hv hi)]
  exact hset.get

theorem hardReset_attach : (hardReset s p sent).get (F.PD_STAT.ATTACH p) = s.get (F.PD_STAT.ATTACH p) := by
  obtain ⟨hstat, -⟩ := pd_outside p
  obtain ⟨-, -, -, hne, -⟩ := pd_addrs p
  have hops := opsEnd_pdDropOps p (hardLatched s p sent)
  have hlatched := hardLatched_wf (p := p) hwf sent
  rw [get_congr _ (hardReset_rd sent hstat), (pdClearCon_events _ p).get _ hstat]
  exact conCleared_attach (State.wf_rwf (hops.wf hlatched)) ((hops.get _ hstat).trans (get_congr _ (hardLatched_rd sent
      hne.symm)))

end

theorem pdTimeouts : Claims.PdTimeouts := by
  intro p s hwf ex hard
  have hex : (s.port p).ex = ex := rfl
  have hrwf := State.wf_rwf hwf
  have hresponse : exec (.senderResponseTimeout p) s = execSenderResponseTimeout p s := rfl
  have hswap : exec (.swapTimeout p) s = execSwapTimeout p s := rfl
  have hattached : ∀ {n : Nat}, n = 1 ∨ n = 2 → s.attach p = n → s.attached p = true := fun hn hat => by
    rcases hn with rfl | rfl <;> simp [State.attached, hat, atSrc, atSnk]
  refine ⟨fun h => ?_, fun h => ?_, fun h => ⟨?_, ?_⟩, fun hat hcon hkind => ?_, fun hat hepr => ?_, fun hat => ⟨?_, ?_⟩,
    fun _ => rfl, fun h _ => if_neg (Bool.eq_false_iff.1 h), fun h => ?_, fun hat h => ?_, fun h => ?_, fun hat h => ?_, fun
        hat => ?_,
    fun hat sent => ?_, fun hat sent => ?_⟩
  · rcases h with h | h | h <;> simp only [hard, hresponse, execSenderResponseTimeout, hex, h]
  · rcases h with h | h | h | h | h | h <;> simp only [hresponse, execSenderResponseTimeout, hex, h]
  · simp only [hresponse, execSenderResponseTimeout, hex, h]
  · simp only [hswap, execSwapTimeout, hex, h]
  · exact next_if_pos _ _ (by simp [hat, hcon, hkind, atSrc])
  · exact next_if_pos _ _ (by simp [hat, hepr, atSrc])
  · exact next_if_neg _ _ (by simp [hat, atSrc])
  · exact next_if_neg _ _ (by simp [hat, atSrc])
  · rcases h with h | h <;> simp only [hswap, execSwapTimeout, hex, h]
  · exact next_if_pos _ _ (by simp [hat, hex, h, atSrc])
  · exact next_if_neg _ _ (by simp [hex, h])
  · exact next_if_pos _ _ (by simp [hat, h, atHard])
  · exact next_if_neg _ _ (by simp [hat, atHard])
  · have hsrc : (hardReset s p sent).attach p = atSrc := (hardReset_attach hwf sent).trans hat
    have hres : s.pdHard p sent = (hardReset s p sent).pdEx p .hard :=
      (pdHard_eq p s sent (hattached (.inl rfl) hat)).trans (if_pos hsrc)
    rw [hres]
    exact ⟨by rw [State.pdEx, State.modPort_port], (State.modPort_get _ p _ _).trans (hardReset_latch hwf sent),
      (State.modPort_get _ p _ _).trans (hardReset_contract hwf sent), (State.modPort_get _ p _ _).trans hsrc⟩
  · have hsnk : (hardReset s p sent).attach p = 2 := (hardReset_attach hwf sent).trans hat
    exact ⟨hardReset s p sent, (pdHard_eq p s sent (hattached (.inr rfl) hat)).trans (if_neg (by rw [hsnk]; decide)),
      hardReset_latch hwf sent, hardReset_contract hwf sent, hsnk⟩

/-- Settles O41: the transition of a source, the evaluation of a Request, and what timeouts and Hard Resets do. -/
theorem pdContracts : Obligations.PdContracts := ⟨sourceTransitions, requestEvaluation, pdTimeouts⟩

end Sys2Proof.Machine
end

section
/-!
Sinks, swaps, VCONN, received messages and reports of the Type-C ports (R370, R374 to R383).
-/
namespace Sys2Proof.Machine

/-! ### A sink keeps its contract (R374, R379, R380) -/

section
variable {s : State} {p : Fin 8}

theorem conTerms_pps (h : s.get (F.PD_STAT.KIND p) = 1) : s.conTerms p =
    { pos := s.get (F.PD_STAT.POS p), kind := 1, v := s.get (F.PD_CON_V.VALUE p), i := s.get (F.PD_CON_I.VALUE p) } := by
  rw [State.conTerms, h]

/-- One more try. -/
def retried (s : State) (p : Fin 8) : State := s.modPort p fun h => { h with tries := h.tries + 1 }

theorem retried_port : (retried s p).port p = { s.port p with tries := (s.port p).tries + 1 } := State.modPort_port s p _

theorem retried_pdCurMsg : (retried s p).pdCurMsg p = s.pdCurMsg p := by
  simp only [State.pdCurMsg, retried_port]
  rfl

theorem pdRetry_of_left (hw : s.is (F.PD_STAT.WAITING p) = true) (hleft : (s.port p).tries < s.get (F.PD_RETRY.COUNT p)) :
    exec (.pdRetry p) s = .next (match (s.port p).ex, (s.port p).pend with
      | .waiting, some t => (retried s p).pdRequest p t
      | .vdm, _ => match (retried s p).pdCurMsg p with
        | some m => (retried s p).pdTx p m
        | none => retried s p
      | _, _ => retried s p) :=
  (next_if_neg _ _ (by simp [hw])).trans (next_if_pos _ _ hleft)

theorem pdRetry_vdm {m : PdMsg} (hw : s.is (F.PD_STAT.WAITING p) = true)
    (hleft : (s.port p).tries < s.get (F.PD_RETRY.COUNT p)) (hex : (s.port p).ex = .vdm) (hm : s.pdCurMsg p = some m) :
    exec (.pdRetry p) s = .next ((retried s p).pdTx p m) := by
  rw [pdRetry_of_left hw hleft, hex, retried_pdCurMsg, hm]

theorem pdOpDone_of_none (h : (s.port p).cur = none) (w : Word) (body : List Word) : s.pdOpDone p w body = s := by
  simp only [State.pdOpDone, h]

theorem goodcrcRetryExhausted_engine (hat : s.attached p = true) (hcur : (s.port p).cur = none) (hex : (s.port p).ex ≠
    .reqSent) :
    exec (.goodcrcRetryExhausted p) s = .next (((s.pdTx p (ctlMsg ctlSoftReset)).pdEvent p 0x0A).pdEx p .soft) := by
  refine (next_if_pos _ _ hat).trans ?_
  simp only [pdOpDone_of_none hcur, if_neg hex]

end

theorem sinkKeepsItsContract : Claims.SinkKeepsItsContract := by
  intro p t s _ h left waiting v i
  refine ⟨fun hat hcon hkind hex => ?_, fun hat => ⟨next_if_neg _ _ ?_, next_if_neg _ _ ?_⟩, fun hat hepr => next_if_pos _ _
      ?_,
    fun hw => next_if_pos _ _ ?_, fun hw hleft hex hpend => ?_, fun hw hleft hex m hm => ?_, fun hw hleft => ?_,
    fun hat => next_if_neg _ _ ?_, goodcrcRetryExhausted_engine⟩
  · refine (next_if_pos _ _ ?_).trans (congrArg _ (congrArg _ (conTerms_pps hkind)))
    simp [hat, hcon, hkind, show (s.port p).ex = .idle from hex, atSnk]
  · simp [hat, atSnk]
  · simp [hat, atSnk]
  · simp [hat, show (s.port p).epr = true from hepr, atSnk]
  · simp [show s.is (F.PD_STAT.WAITING p) = false from hw]
  · rw [pdRetry_of_left hw hleft, show (s.port p).ex = .waiting from hex, show (s.port p).pend = some t from hpend]
    rfl
  · refine ⟨_, pdRetry_vdm hw hleft hex hm, ?_, ?_, rfl⟩
    · rw [State.pdTx, State.modPort_port, retried_port]
    · rw [State.pdTx, State.modPort_port, retried_port]
  · exact (next_if_neg _ _ (by simp [show s.is (F.PD_STAT.WAITING p) = true from hw])).trans (next_if_neg _ _ hleft)
  · simp [hat]

/-! ### Swaps and VCONN (R375, R376) -/

theorem swapsAndVconn : Claims.SwapsAndVconn := by
  intro p s _
  refine ⟨fun h => next_if_pos _ _ h, fun h => next_if_neg _ _ h, fun h => next_if_neg _ _ (Bool.eq_false_iff.1 h),
    fun h => next_if_pos _ _ h, fun hex => ?_, fun hex hdis => ?_⟩
  · show execSourceTransitionStart p s = _
    simp only [execSourceTransitionStart, hex]
  · show execPsRdySend p s = _
    simp only [execPsRdySend, hex, hdis, Bool.false_eq_true, if_false]

/-! ### Received messages (R370, R375, R378, Table 14-7) -/

section
variable {s : State} {p : Fin 8} {m : PdMsg}

theorem pdMessageReceive_untaken
    (h : s.is (F.PD_CFG.PD_EN p) = false ∨ (s.attached p = false ∧ s.attach p ≠ 3) ∨ (s.port p).bist = true) :
    exec (.pdMessageReceive p m) s = .next s := by
  refine next_if_neg _ _ ?_
  rcases h with h | ⟨hat, hsw⟩ | h
  · simp [h]
  · simp [hat, hsw, atSwap]
  · simp [h]

/-- The port has seen its partner at Revision 2.0. -/
def rev2Seen (s : State) (p : Fin 8) : State :=
  (s.set (F.PD_LATCH.REV2 p) 1).modPort p fun h => { h with rev2 := true }

variable (hen : s.is (F.PD_CFG.PD_EN p) = true) (hat : s.attached p = true) (hbist : (s.port p).bist = false)
  (hsop : m.sop = 0) (hext : m.extended = false)
include hen hat hbist hsop hext

theorem pdMessageReceive_taken (hrev : m.rev2 = false) :
    exec (.pdMessageReceive p m) s = .next (if m.objs.isEmpty then s.rxControl p m else s.rxData p m) := by
  refine (next_if_pos _ _ (by simp [hen, hat, hbist])).trans ?_
  simp only [hrev, hsop, hext, Bool.false_and, Bool.false_eq_true, if_false, ne_eq, not_true_eq_false]

theorem pdMessageReceive_rev2 (hrev : m.rev2 = true) (hknown : (s.port p).rev2 = false) : exec (.pdMessageReceive p m) s =
    .next (if m.objs.isEmpty then (rev2Seen s p).rxControl p m else (rev2Seen s p).rxData p m) := by
  refine (next_if_pos _ _ (by simp [hen, hat, hbist])).trans ?_
  simp only [hrev, hknown, hsop, hext, Bool.not_false, Bool.and_self, Bool.false_eq_true, if_true, if_false, ne_eq,
    not_true_eq_false]
  rfl

end

section
variable (s : State) (p : Fin 8) {m : PdMsg}

theorem rxControl_silent (h : m.mtype = ctlGoodCrc ∨ m.mtype = ctlPing) : s.rxControl p m = s := by
  rcases h with h | h <;> (simp only [State.rxControl, h]; rfl)

theorem rxControl_drSwap (h : m.mtype = ctlDrSwap) :
    s.rxControl p m = s.rxSwap p (s.is (F.PD_CFG.DRS_EN p)) fun s => s.pdDrSwap p := by
  simp only [State.rxControl, h]
  rfl

theorem rxControl_vconnSwap (h : m.mtype = ctlVconnSwap) :
    s.rxControl p m = s.rxSwap p (s.is (F.PD_CFG.VCS_EN p)) fun s => s.pdVconnGo p := by
  simp only [State.rxControl, h]
  rfl

theorem rxControl_prSwap (h : m.mtype = ctlPrSwap) : s.rxControl p m =
    s.rxSwap p (s.is (F.PD_CFG.PRS_EN p) && bitsOf (s.rd (R.MD_REQ p)) 31 30 == 3) fun s => s.pdSwapGo p := by
  simp only [State.rxControl, h]
  rfl

theorem rxControl_softReset (h : m.mtype = ctlSoftReset) : s.rxControl p m =
    (((s.pdDropOps p).pdTx p (ctlMsg ctlAccept)).pdEvent p 0x0A).pdIdle p := by
  simp only [State.rxControl, h]
  rw [if_neg (by decide), if_neg (by decide), if_neg (by decide), if_neg (by decide), if_neg (by decide), if_neg (by decide),
    if_pos trivial]

theorem rxControl_getSinkCap (h : m.mtype = ctlGetSinkCap) : s.rxControl p m =
    s.pdTx p (datMsg datSinkCap (((List.range 7).map fun n => s.rd (R.PD_SNK_PDO p n)).takeWhile (· != 0))) := by
  simp only [State.rxControl, h]
  rfl

theorem rxControl_unknown (h : m.mtype = 19 ∨ m.mtype = 0) : s.rxControl p m = s.pdTx p (ctlMsg ctlNotSupported) := by
  rcases h with h | h <;> (simp only [State.rxControl, h]; rfl)

theorem rxData_request (h : m.mtype = datRequest) (hat : s.attach p = 1) (hex : (s.port p).ex ≠ .hard) :
    s.rxData p m = s.pdEvaluate p (m.objs.headD 0) := by
  have hcond : (s.attach p = atSrc && (s.port p).ex != .hard : Bool) = true := by simp [hat, hex, atSrc]
  have hreq : s.rxData p m =
      if s.attach p = atSrc && (s.port p).ex != .hard then s.pdEvaluate p (m.objs.headD 0) else s := by
    simp only [State.rxData, h]
    rfl
  exact hreq.trans (if_pos hcond)

theorem rxData_bist (h : m.mtype = datBist) : s.rxData p m = s.rxBist p (m.objs.headD 0) := by
  simp only [State.rxData, h]
  rfl

theorem rxData_passed (h : m.mtype = datAlert ∨ m.mtype = datBattery) : s.rxData p m = s.pdPass p m := by
  rcases h with h | h <;> (simp only [State.rxData, h]; rfl)

end

theorem receivedMessages : Claims.ReceivedMessages := by
  intro p m s hwf gets swaps
  refine ⟨pdMessageReceive_untaken, fun hen hat hbist hrev hsop hext => ⟨fun hobjs => ?_, fun hobjs => ?_⟩,
    fun hen hat hbist hrev hknown hsop hext hobjs hping => ?_⟩
  · have hcontrol : gets (s.rxControl p m) :=
      (pdMessageReceive_taken hen hat hbist hsop hext hrev).trans (next_if_pos _ _ (by simp [hobjs]))
    refine ⟨fun h => ?_, fun h => ?_, fun h => ?_, fun h => ?_, fun h => ?_, fun h => ?_, fun h => ?_⟩
    · exact rxControl_silent s p h ▸ hcontrol
    · exact hcontrol.trans (congrArg _ (rxControl_drSwap s p h))
    · exact hcontrol.trans (congrArg _ (rxControl_vconnSwap s p h))
    · exact hcontrol.trans (congrArg _ (rxControl_prSwap s p h))
    · exact hcontrol.trans (congrArg _ (rxControl_softReset s p h))
    · exact hcontrol.trans (congrArg _ (rxControl_getSinkCap s p h))
    · exact hcontrol.trans (congrArg _ (rxControl_unknown s p h))
  · have hdata : gets (s.rxData p m) :=
      (pdMessageReceive_taken hen hat hbist hsop hext hrev).trans (next_if_neg _ _ (by simp [hobjs]))
    refine ⟨fun h hsrc hex => ?_, fun h hmode => ?_, fun h hmode => ?_, fun h hroom => ?_, fun h hfull => ?_⟩
    · exact hdata.trans (congrArg _ (rxData_request s p h hsrc hex))
    · exact hdata.trans (congrArg _ ((rxData_bist s p h).trans (if_neg hmode)))
    · exact hdata.trans (congrArg _ ((rxData_bist s p h).trans (if_pos hmode)))
    · exact hdata.trans (congrArg _ ((rxData_passed s p h).trans (if_neg (Nat.not_le.2 hroom))))
    · exact hdata.trans (congrArg _ ((rxData_passed s p (.inl h)).trans (if_pos hfull)))
  · refine ⟨rev2Seen s p, ?_, ?_, ?_⟩
    · refine (pdMessageReceive_rev2 hen hat hbist hsop hext hrev hknown).trans ((next_if_pos _ _ (by simp [hobjs])).trans ?_)
      rw [rxControl_silent _ p (.inr hping)]
    · exact (State.modPort_get _ p _ _).trans (reads_set (State.wf_rwf hwf) (F.PD_LATCH.REV2 p) 1 rfl rfl).get
    · rw [rev2Seen, State.modPort_port]

/-! ### Not_Supported, VDMs and BC 1.2 (R378, R381, R383) -/

theorem pdReports : Claims.PdReports := by
  intro p r s hwf
  have hvdm : exec (.vdmResponseTimeout p) s = execVdmResponseTimeout p s := rfl
  have hreply : exec (.notSupportedReply p) s = execNotSupportedReply p s := rfl
  refine ⟨fun h => ?_, fun a l h => ?_, fun h => ?_, fun h => ?_, fun h => ?_, fun hdom hmode hlo hhi => ?_, fun hmode => ?_⟩
  · simp only [hreply, execNotSupportedReply, h]
  · refine ⟨(s.pdNotSup p).modPort p fun h => { h with answers := l }, ?_, ?_, ?_, rfl⟩
    · simp only [hreply, execNotSupportedReply, h]
    · rw [State.modPort_port]
    · rw [State.modPort_port, State.pdNotSup, State.pdTx, State.modPort_port]
  · simp only [hvdm, execVdmResponseTimeout, h]
  · simp only [hvdm, execVdmResponseTimeout, h]
    rfl
  · simp only [hvdm, execVdmResponseTimeout, h]
  · have hout : Outside (R.PD_BC p) := outside_of_le (by simp only [R.PD_BC]; omega)
    have hevent := onlyEvents_pdEvent (s.set (F.PD_BC.RESULT p) r) p 0x11
    refine ⟨_, next_if_pos _ _ (by simp [hdom, hmode, hlo, hhi]), ?_, hevent.mem⟩
    exact (hevent.get _ hout).trans
      (reads_set (State.wf_rwf hwf) (F.PD_BC.RESULT p) r rfl (Nat.mod_eq_of_lt r.isLt)).get
  · exact next_if_neg _ _ (by simp [hmode])

/-- Settles O42: sinks, swaps and VCONN, received messages, and the reports. -/
theorem pdSinksAndMessages : Obligations.PdSinksAndMessages :=
  ⟨sinkKeepsItsContract, swapsAndVconn, receivedMessages, pdReports⟩

end Sys2Proof.Machine
end

section
/-!
The links of the fabric (chapter 15): retries, lanes that fail and move, a link that trains again, and the credits of a
class.
-/
namespace Sys2Proof.Machine

/-! ### The lanes of a link -/

theorem testBit_foldl_or (l : List Nat) (k : Nat) : ∀ m : Nat,
    (l.foldl (fun m k => m ||| 2 ^ k) m).testBit k = (m.testBit k || l.contains k) := by
  induction l with
  | nil => simp
  | cons a l ih =>
    intro m
    have hbit : decide (a = k) = (k == a) := by
      rw [Bool.eq_iff_iff, beq_iff_eq, decide_eq_true_eq]
      exact eq_comm
    rw [List.foldl_cons, ih, Nat.testBit_or, Nat.testBit_two_pow, List.contains_cons, Bool.or_assoc, hbit]

theorem testBit_legMask (l : List Nat) (k : Nat) : (legMask l).testBit k = l.contains k := by
  rw [legMask, testBit_foldl_or, Nat.zero_testBit, Bool.false_or]

section
variable {s : State} (h : s.rwf) (l st : Nat) (lanes : List Nat)
include h

theorem setLink_reads_state (hst : st < 8) : Reads (F.FAB_LINK_STAT.STATE l) st (s.setLink l st lanes) := by
  let s0 : State := { s with linkCnt := (if st = 0 then [(l, s.count)] else []) ++ s.linkCnt.filter fun x => x.1 != l }
  have h0 : s0.rwf := h
  exact ((reads_set h0 (F.FAB_LINK_STAT.STATE l) st rfl (Nat.mod_eq_of_lt hst)).set_apart (F.FAB_LINK_STAT.ACTIVE l) _
      rfl).set_apart
    (F.FAB_LINK_STAT.SPARE_USED l) _ rfl

theorem setLink_reads_active : Reads (F.FAB_LINK_STAT.ACTIVE l) (legMask lanes % 2 ^ 17) (s.setLink l st lanes) := by
  let s0 : State := { s with linkCnt := (if st = 0 then [(l, s.count)] else []) ++ s.linkCnt.filter fun x => x.1 != l }
  have h1 : (s0.set (F.FAB_LINK_STAT.STATE l) st).rwf := s0.set_rwf _ _ h
  have hset := State.get_set _ (F.FAB_LINK_STAT.ACTIVE l) (legMask lanes) h1 (Nat.zero_le _) (show 16 < 32 by decide)
  exact (Reads.mk (State.set_rwf _ _ _ h1) hset).set_apart (F.FAB_LINK_STAT.SPARE_USED l) _ rfl

theorem setLink_reads_spare : Reads (F.FAB_LINK_STAT.SPARE_USED l) (b2n (lanes.contains 16)) (s.setLink l st lanes) := by
  let s0 : State := { s with linkCnt := (if st = 0 then [(l, s.count)] else []) ++ s.linkCnt.filter fun x => x.1 != l }
  have h2 := State.set_rwf _ (F.FAB_LINK_STAT.ACTIVE l) (legMask lanes) (s0.set_rwf (F.FAB_LINK_STAT.STATE l) st h)
  exact reads_set h2 (F.FAB_LINK_STAT.SPARE_USED l) _ rfl (by cases lanes.contains 16 <;> rfl)

end

theorem mem_activeLanes {s : State} {l k : Nat} : k ∈ s.activeLanes l ↔ k < 17 ∧ (s.get (F.FAB_LINK_STAT.ACTIVE l)).testBit k
    = true := by
  rw [State.activeLanes, List.mem_filter, List.mem_range]

theorem mem_activeLanes_of_mask {s : State} {l : Nat} {lanes : List Nat}
    (h : s.get (F.FAB_LINK_STAT.ACTIVE l) = legMask lanes % 2 ^ 17) (k : Nat) : k ∈ s.activeLanes l ↔ k < 17 ∧ k ∈ lanes := by
  rw [mem_activeLanes, h, Nat.testBit_mod_two_pow, testBit_legMask]
  simp

/-- With lanes that exist and none named twice, as many are active as are named. -/
theorem length_activeLanes {s : State} {l : Nat} {lanes : List Nat} (h : s.get (F.FAB_LINK_STAT.ACTIVE l) = legMask lanes % 2
    ^ 17)
    (hnd : lanes.Nodup) (hlt : ∀ k ∈ lanes, k < 17) : (s.activeLanes l).length = lanes.length := by
  have hactive : (s.activeLanes l).Nodup := List.Nodup.filter _ List.nodup_range
  refine ((List.perm_ext_iff_of_nodup hactive hnd).2 fun k => ?_).length_eq
  rw [mem_activeLanes_of_mask h]
  exact ⟨fun hk => hk.2, fun hk => ⟨hlt k hk, hk⟩⟩

/-! ### A lane that fails (R386, R388, R391) -/

section
variable {s : State} {l : Fin 7} {i : Fin 17}

theorem ltFault_of_no_test (h : ∀ k < 17, s.ltRuns 2 (17 * l + k) = false) (i : Nat) : s.ltFault l i = s := by
  have hstep : ∀ k ∈ List.range 17,
      (if k != i && s.ltRuns 2 (17 * l + k) then (s.ltReturn l k).ltClose 2 (17 * l + k) 3 else s) = s := fun k hk =>
    if_neg (by simp [h k (List.mem_range.1 hk)])
  have hfold : ∀ ks : List Nat, (∀ k ∈ ks, k ∈ List.range 17) → ks.foldl (fun s k =>
      if k != i && s.ltRuns 2 (17 * l + k) then (s.ltReturn l k).ltClose 2 (17 * l + k) 3 else s) s = s := by
    intro ks
    induction ks with
    | nil => exact fun _ => rfl
    | cons k ks ih =>
      intro hks
      rw [List.foldl_cons, hstep k (hks k List.mem_cons_self)]
      exact ih fun j hj => hks j (List.mem_cons_of_mem k hj)
  exact hfold _ fun _ => id

/-- Lane i of link l has failed. -/
def laneMarked (s : State) (l : Fin 7) (i : Fin 17) : State := { s with laneBad := (l.val, i.val) :: s.laneBad }

theorem laneFailure_marks (hgood : s.laneGood l i = true) (hrun : ∀ k < 17, s.ltRuns 2 (17 * l + k) = false) :
    exec (.laneFailure l i) s = .next (if s.linkDown l then laneMarked s l i
      else if ((laneMarked s l i).activeLanes l).contains i.val then (laneMarked s l i).laneMove l i
      else (laneMarked s l i).assertL (304 + l) 1 i) := by
  refine (next_if_neg _ _ (by simp [hgood])).trans ?_
  simp only [ltFault_of_no_test hrun]
  rfl

/-- The lanes that go on once the spare takes the place of lane i. -/
def spared (s : State) (l i : Nat) : List Nat := (s.activeLanes l).filter (· != i) ++ [16]

theorem laneMove_spare (hst : s.get (F.FAB_LINK_STAT.STATE l) = 2) (hspare : s.get (F.FAB_LINK_STAT.SPARE_USED l) = 0)
    (hgood : s.laneGood l 16 = true) (i : Nat) :
    s.laneMove l i = ((s.setLink l 2 (spared s l i)).inc (F.FAB_LINK_ERR.SWAPS l)).assertL (304 + l) 1 i :=
  if_pos (by simp [hst, State.is, hspare, hgood])

theorem mem_spared {k : Nat} : k ∈ spared s l i ↔ (k ∈ s.activeLanes l ∧ k ≠ i.val) ∨ k = 16 := by
  simp [spared]

/-- A field of FAB_LINK_STAT after a swap to the spare. -/
theorem spareTaken_get {u : State} {g : Fld} {v : Nat} (k : Reads g v u) (hg : g.addr = R.FAB_LINK_STAT l) (d0 : Nat) :
    ((u.inc (F.FAB_LINK_ERR.SWAPS l)).assertL (304 + l) 1 d0).get g = v := by
  have hne : R.FAB_LINK_STAT l ≠ R.FAB_LINK_ERR l := by simp only [R.FAB_LINK_STAT, R.FAB_LINK_ERR]; omega
  exact ((k.set_other (F.FAB_LINK_ERR.SWAPS l) _ (hg ▸ hne)).assertL _ _ _ _).get

end

theorem assertL_laneBad (s : State) (src cond d0 : Nat) (d1 : Word) : (s.assertL src cond d0 d1).laneBad = s.laneBad := by
  have hrest := congrArg State.laneBad (onlyEvents_assertL s src cond d0 d1).rest
  exact hrest

theorem fabricLanes : Claims.FabricLanes := by
  intro l i s hwf bad run
  have h := State.wf_rwf hwf
  refine ⟨fun hdown b => next_if_pos _ _ hdown, fun hup => ⟨next_if_neg _ _ (by simp [hup]), next_if_neg _ _ (by simp [hup])⟩,
    fun hbad => next_if_pos _ _ (by simp [hbad]), fun hgood hrun hdown => ?_, fun hgood hrun hup hout => ?_,
    fun hgood hrun hst hlt hin hspare hgood16 => ?_⟩
  · exact (laneFailure_marks hgood hrun).trans (next_if_pos _ _ hdown)
  · refine (laneFailure_marks hgood hrun).trans ((next_if_neg _ _ (by simp [hup])).trans (next_if_neg _ _ ?_))
    exact fun hc => hout (List.contains_iff_mem.1 hc)
  · have hup : s.linkDown l = false := by simp [State.linkDown, hst]
    have hmarked : (laneMarked s l i).laneGood l 16 = true := by
      have hne : (16 : Nat) ≠ i := Nat.ne_of_gt hlt
      simpa [State.laneGood, laneMarked, hne] using hgood16
    have hmove := laneMove_spare (s := laneMarked s l i) (l := l) hst hspare hmarked i
    have hexec : exec (.laneFailure l i) s = .next ((laneMarked s l i).laneMove l i) :=
      (laneFailure_marks hgood hrun).trans ((next_if_neg _ _ (by simp [hup])).trans
        (next_if_pos _ _ (List.contains_iff_mem.2 hin)))
    have hrwf : (laneMarked s l i).rwf := h
    have hlanes := spareTaken_get (l := l) (setLink_reads_active hrwf l 2 (spared (laneMarked s l i) l i)) rfl i
    refine ⟨_, hexec.trans (congrArg _ hmove), ?_, ?_, fun k hk => ?_, ?_⟩
    · exact spareTaken_get (setLink_reads_state hrwf l 2 _ (by decide)) rfl i
    · refine (spareTaken_get (setLink_reads_spare hrwf l 2 _) rfl i).trans ?_
      simp [spared, b2n]
    · rw [mem_activeLanes_of_mask hlanes, mem_spared]
      exact and_iff_right hk
    · rw [State.laneGood, assertL_laneBad]
      simp [State.inc, State.setLink, State.setb, State.set, State.wr, laneMarked]

/-! ### A link that trains again (R389) -/

section
variable {s : State} {l : Fin 7}

theorem lanesFrom_nodup (s : State) (l : Nat) : (s.lanesFrom l 0).Nodup := by
  refine List.Nodup.filter _ (List.Nodup.map_on ?_ List.nodup_range)
  intro a ha b hb hab
  rw [List.mem_range] at ha hb
  omega

theorem lanesFrom_lt (s : State) (l : Nat) : ∀ k ∈ s.lanesFrom l 0, k < 17 := by
  intro k hk
  obtain ⟨hk, -⟩ := List.mem_filter.1 hk
  obtain ⟨i, -, rfl⟩ := List.mem_map.1 hk
  exact Nat.mod_lt _ (by decide)

/-- The link in service again with n lanes. -/
def linkTrained (s : State) (l : Fin 7) (n : Nat) : State :=
  (s.setLink l (if n = 16 then 2 else 3) ((s.lanesFrom l 0).take n)).deassertL (304 + l) 3

theorem linkTrained_state (h : s.rwf) (n : Nat) :
    (linkTrained s l n).get (F.FAB_LINK_STAT.STATE l) = if n = 16 then 2 else 3 := by
  have hlt : (if n = 16 then 2 else 3) < 8 := by split <;> decide
  have hlink := setLink_reads_state h l (if n = 16 then 2 else 3) ((s.lanesFrom l 0).take n) hlt
  exact (hlink.of_regs (t := linkTrained s l n) rfl).get

theorem linkTrained_lanes (h : s.rwf) {n : Nat} (hn : n ≤ (s.lanesFrom l 0).length) :
    ((linkTrained s l n).activeLanes l).length = n := by
  have hlink := setLink_reads_active h l (if n = 16 then 2 else 3) ((s.lanesFrom l 0).take n)
  have hactive := hlink.of_regs (t := linkTrained s l n) rfl
  rw [length_activeLanes hactive.get ((lanesFrom_nodup s l).sublist (List.take_sublist n _))
    fun k hk => lanesFrom_lt s l k (List.mem_of_mem_take hk)]
  exact List.length_take_of_le hn

/-- Sixteen lanes, or eight. -/
def trainedWidth (n : Fin 17) : Nat := if 16 ≤ n.val then 16 else 8

theorem linkRetrain_down (n : Fin 17) (hdown : s.linkDown l = true) (hn : 8 ≤ n.val) : exec (.linkRetrain l n) s = .next (
    if (s.lanesFrom l 0).length < trainedWidth n then s
    else if l.val < 6 then ((allCh.filter fun c => c.val / 4 == l.val).foldl (fun s c => s.sweepCheck s.count s.count 1 c)
      (State.rereport ((linkTrained s l (trainedWidth n)).fullBooks (linkKey l 0 0)) l
        (linkTrained s l (trainedWidth n)).asserts).linkFires).supForward l true
    else (State.rereport ((linkTrained s l (trainedWidth n)).fullBooks (linkKey l 0 0)) l
      (linkTrained s l (trainedWidth n)).asserts).linkFires) :=
  next_if_neg _ _ (by simp [hdown, Nat.not_lt.2 hn])

end

theorem linkRetrains : Claims.LinkRetrains := by
  intro l n s hwf w good
  have h := State.wf_rwf hwf
  refine ⟨fun hno => ?_, fun hdown hn hgood => ?_⟩
  · by_cases hup : s.linkDown l = false ∨ n.val < 8
    · exact next_if_pos _ _ (by rcases hup with hup | hup <;> simp [hup])
    · obtain ⟨hdown, hn⟩ := not_or.1 hup
      have hfew : (s.lanesFrom l 0).length < trainedWidth n := (hno.resolve_left hdown).resolve_left hn
      exact (linkRetrain_down n (Bool.not_eq_false _ ▸ hdown) (Nat.not_lt.1 hn)).trans (next_if_pos _ _ hfew)
  · intro t u
    exact ⟨(linkRetrain_down n hdown hn).trans (next_if_neg _ _ (Nat.not_lt.2 hgood)), linkTrained_state h w,
      linkTrained_lanes h hgood⟩

/-! ### Credits (R392) -/

section
variable (b : Book) (k : Nat)

/-- The books of a class never hold more than the receiver's depth. -/
def Book.Fits (b : Book) (k : Nat) : Prop := b.flight + b.occ + b.back ≤ bookDepth k

theorem send_without_credit (h : b.credits k = 0) : b.send k = { b with wait := b.wait + 1 } := if_pos h

theorem send_with_credit (h : b.credits k ≠ 0) : b.send k = { b with flight := b.flight + 1 } := if_neg h

theorem credits_send (h : b.credits k ≠ 0) : (b.send k).credits k + 1 = b.credits k := by
  rw [send_with_credit b k h]
  simp only [Book.credits] at h ⊢
  omega

theorem send_fits (h : b.Fits k) : (b.send k).Fits k := by
  by_cases hc : b.credits k = 0
  · rw [send_without_credit b k hc]
    exact h
  · rw [send_with_credit b k hc]
    simp only [Book.Fits, Book.credits] at h hc ⊢
    omega

theorem move_fits (h : b.Fits k) : (b.move k).Fits k := by
  simp only [Book.Fits, Book.move] at h ⊢
  omega

/-- What is not in use at the receiver is either the sender's or has just left. -/
theorem credits_move (h : b.Fits k) : (b.move k).credits k + (b.move k).flight = bookDepth k - b.flight - b.occ := by
  simp only [Book.Fits, Book.move, Book.credits] at h ⊢
  omega

theorem move_sends_or_keeps : (b.move k).flight + (b.move k).wait = b.wait := by
  simp only [Book.move]
  omega

theorem credits_move_idle (hw : b.wait = 0) (hf : b.flight = 0) (ho : b.occ = 0) : (b.move k).credits k = bookDepth k := by
  simp only [Book.move, Book.credits, hw, hf, ho]
  omega

end

theorem bookDepth_link (l : Fin 7) : bookDepth (linkKey l 0 0) = 32 ∧ bookDepth (linkKey l 0 1) = 64 ∧
    bookDepth (linkKey l 0 2) = 128 ∧ bookDepth (linkKey l 0 3) = 64 := by
  revert l
  decide

theorem creditsKeepTheirBooks : Claims.CreditsKeepTheirBooks := by
  intro b k l dir cls s fits
  obtain ⟨h0, h1, h2, h3⟩ := bookDepth_link l
  exact ⟨fun hfit => ⟨send_fits b k hfit, move_fits b k hfit, credits_move b k hfit, rfl, rfl, move_sends_or_keeps b k⟩,
    send_without_credit b k, fun h => ⟨send_with_credit b k h, credits_send b k h⟩, credits_move_idle b k,
    fun h => if_pos h, fun h => if_neg (Bool.eq_false_iff.1 h), h0, h1, h2, h3, by decide, by decide⟩

/-- Settles O43: the lanes of a link, its training, and the books of its credits. -/
theorem fabricLinks : Obligations.FabricLinks := ⟨fabricLanes, linkRetrains, creditsKeepTheirBooks⟩

end Sys2Proof.Machine
end

section
/-!
Host ports and HDP (chapter 16): the link of a port, datagrams that reach no session, fragments, and how a session opens.
-/
namespace Sys2Proof.Machine

/-! ### The link of a port (R409) -/

theorem report_sessions (s : State) (r : Report) : (s.report r).sessions = s.sessions := by
  simp only [State.report, State.flit]
  repeat' split
  all_goals rfl

theorem assertL_sessions (s : State) (src cond d0 : Nat) (d1 : Word) : (s.assertL src cond d0 d1).sessions = s.sessions := by
  simp only [State.assertL]
  split
  · rfl
  · exact report_sessions _ _

section
variable (s : State) (p : Fin 2) (up : Bool)

theorem hostLink_regs : (s.hostLink p up).regs = (s.setb (F.HST_STAT.LINK p) up).regs := by
  cases up
  · exact assertL_regs _ _ _ _ _
  · rfl

theorem hostLink_sessions : (s.hostLink p up).sessions = s.sessions := by
  cases up
  · exact assertL_sessions _ _ _ _ _
  · rfl

theorem hostLink_mem : (s.hostLink p up).mem = s.mem := by
  cases up
  · exact (onlyEvents_assertL _ _ _ _ _).mem
  · rfl

theorem hostLink_linkOf (h : s.rwf) : (s.hostLink p up).linkOf p = up := by
  have k := (reads_set h (F.HST_STAT.LINK p) (b2n up) rfl (by cases up <;> rfl)).of_regs (hostLink_regs s p up)
  rw [State.linkOf, k.is]
  cases up <;> rfl

theorem hostLink_linkOf_other : (s.hostLink p up).linkOf (1 - p.val) = s.linkOf (1 - p.val) := by
  have hne : R.HST_STAT (1 - p.val) ≠ R.HST_STAT p := by simp only [R.HST_STAT]; omega
  have hrd : (s.hostLink p up).rd (R.HST_STAT (1 - p.val)) = s.rd (R.HST_STAT (1 - p.val)) := by
    rw [State.rd, hostLink_regs]
    exact s.set_rd_other (F.HST_STAT.LINK p) (b2n up) _ hne
  rw [State.linkOf, State.linkOf, State.is, State.is, get_congr (F.HST_STAT.LINK (1 - p.val)) hrd]

end

theorem hostLinks : Claims.HostLinks := by
  intro p up s hwf on
  refine ⟨⟨_, rfl, hostLink_linkOf s p on (State.wf_rwf hwf), hostLink_linkOf_other s p on, hostLink_mem s p on,
    hostLink_sessions s p on⟩, fun k hdown => next_if_neg _ _ (by simp [hdown]), fun k hlink hk => next_if_pos _ _ ?_,
    fun h4 => ⟨next_if_neg _ _ (by simp [h4]), next_if_neg _ _ (by simp [h4])⟩⟩
  rcases hk with hk | rfl | rfl
  · simp [hlink, hk]
  · simp [hlink]
  · simp [hlink]

/-! ### Datagrams that reach no session (R409, R410, R412, R416) -/

section
variable {s : State} {d : HdpDgram}

theorem hears_iff (p : Fin 2) (peer : Nat) :
    s.hears p peer = true ↔ s.linkOf p = true ∧ (peer % 2 = 1 ∨ s.is (F.HST_IP4.ADDR p) = true) := by
  simp [State.hears]

/-- Does HDP serve the datagram's UDP port? -/
def State.serves (s : State) (d : HdpDgram) : Bool :=
  d.udp == s.get F.HST_HDP.UDP_PORT || s.sessions.toList.any fun x => x.any fun y => y.udp == d.udp

theorem serves_iff : s.serves d = true ↔
    d.udp = s.get F.HST_HDP.UDP_PORT ∨ ∃ i : Fin 16, ∃ x, s.sessions[i] = some x ∧ x.udp = d.udp := by
  rw [State.serves, Bool.or_eq_true, beq_iff_eq, List.any_eq_true]
  refine or_congr_right ⟨fun ⟨o, ho, hudp⟩ => ?_, fun ⟨i, x, hx, hudp⟩ => ⟨some x, ?_, by simpa using hudp⟩⟩
  · cases o with
    | none => exact absurd hudp Bool.false_ne_true
    | some x =>
      obtain ⟨i, hi, hget⟩ := Vector.mem_iff_getElem.1 (Vector.mem_toList_iff.1 ho)
      exact ⟨⟨i, hi⟩, x, hget, beq_iff_eq.1 hudp⟩
  · exact Vector.mem_toList_iff.2 (Vector.mem_iff_getElem.2 ⟨i, i.isLt, hx⟩)

theorem badPort_eq : s.badPort d = if d.udp = 319 ∨ d.udp = 320 then s else s.inc (F.HST_DROP.BADPORT d.port) := by
  simp [State.badPort]

variable (f : State → Fin 16 → State)

theorem hdpIn_unheard (h : s.hears d.port d.peer = false) : s.hdpIn d f = s := if_pos (by simp [h])

theorem hdpIn_unserved (h : s.hears d.port d.peer = true) (hno : s.serves d = false) : s.hdpIn d f = s.badPort d :=
  (if_neg (by simp [h])).trans (if_pos (by simpa [State.serves] using hno))

theorem hdpIn_unsound (h : s.hears d.port d.peer = true) (hyes : s.serves d = true) (hs : d.sound = false) :
    s.hdpIn d f = s.inc (F.HST_DROP.BADHDP d.port) :=
  (if_neg (by simp [h])).trans ((if_neg (show ¬ (!s.serves d) = true by simp [hyes])).trans (if_pos (by simp [hs])))

section
variable (h : s.hears d.port d.peer = true) (hyes : s.serves d = true) (hs : d.sound = true)
include h hyes hs

/-- Past the checks, the datagram's session decides. -/
theorem hdpIn_valid {x : Session} (hx : s.sess? d.session = some x) :
    s.hdpIn d f = f (s.hdpValid (slotOf d.session) x d) (slotOf d.session) := by
  refine (if_neg (by simp [h])).trans ((if_neg (show ¬ (!s.serves d) = true by simp [hyes])).trans ((if_neg (by simp
      [hs])).trans ?_))
  simp only [hx]

theorem hdpIn_unknown (hx : s.sess? d.session = none) (hc : s.closedFor d.session = none) :
    s.hdpIn d f = s.inc (F.HST_DROP.BADHDP d.port) := by
  refine (if_neg (by simp [h])).trans ((if_neg (show ¬ (!s.serves d) = true by simp [hyes])).trans ((if_neg (by simp
      [hs])).trans ?_))
  simp only [hx, hc]

theorem hdpIn_closed {r : Nat} (hx : s.sess? d.session = none) (hc : s.closedFor d.session = some r) :
    s.hdpIn d f = (s.inc (F.HST_DROP.BADHDP d.port)).hdpClose d r := by
  refine (if_neg (by simp [h])).trans ((if_neg (show ¬ (!s.serves d) = true by simp [hyes])).trans ((if_neg (by simp
      [hs])).trans ?_))
  simp only [hx, hc]

end

/-- What an open session does with a datagram of a TYPE. -/
def sessionTakes (type : Nat) (d : HdpDgram) (s : State) (i : Fin 16) : State :=
  if type = 3 then s.hdpSeq i d.seq none else if type = 4 then s.hdpSeq i d.seq (some d.payload) else s

theorem hdpArrive_whole (hfrag : d.frag = none) {type : Nat} (h : type ≠ 1) :
    s.hdpArrive type d = s.hdpIn d (sessionTakes type d) := by
  simp only [State.hdpArrive, hfrag, State.hdpTake, if_neg h]
  rfl

theorem hdpArrive_open (hfrag : d.frag = none) : s.hdpArrive 1 d = s.hdpOpenIn d := by
  simp only [State.hdpArrive, hfrag, State.hdpTake, if_true]

/-- The four datagrams of a session, where each of them does the same. -/
theorem sessionDatagrams (hfrag : d.frag = none) {t : State} (h : ∀ type, s.hdpIn d (sessionTakes type d) = t) :
    exec (.hdpClose d) s = .next t ∧ exec (.hdpData d) s = .next t ∧ exec (.hdpAck d) s = .next t ∧
    exec (.hdpKeepalive d) s = .next t :=
  ⟨congrArg _ ((hdpArrive_whole hfrag (by decide)).trans (h 3)), congrArg _ ((hdpArrive_whole hfrag (by decide)).trans (h 4)),
    congrArg _ ((hdpArrive_whole hfrag (by decide)).trans (h 5)), congrArg _ ((hdpArrive_whole hfrag (by decide)).trans (h 7))⟩

end

theorem strayDatagrams : Claims.StrayDatagrams := by
  intro d s _ hfrag heard served bad stray all
  have hopen : exec (.hdpOpen d) s = .next (s.hdpOpenIn d) := congrArg _ (hdpArrive_open hfrag)
  refine ⟨fun hno => ?_, fun hyes => ?_⟩
  · have hdeaf : s.hears d.port d.peer = false := Bool.eq_false_iff.2 (mt (hears_iff d.port d.peer).1 hno)
    exact ⟨sessionDatagrams hfrag fun type => hdpIn_unheard _ hdeaf, hopen.trans (congrArg _ (if_pos (by simp [hdeaf])))⟩
  · have hhears : s.hears d.port d.peer = true := (hears_iff d.port d.peer).2 hyes
    have hopened : exec (.hdpOpen d) s = .next (if d.udp ≠ s.get F.HST_HDP.UDP_PORT then s.badPort d
        else if !d.sound || d.session ≠ 0 then bad else s.hdpOpen d) :=
      hopen.trans (congrArg _ (if_neg (by simp [hhears])))
    refine ⟨fun hno => sessionDatagrams hfrag fun type => ?_, fun hs hsound => sessionDatagrams hfrag fun type => ?_,
      fun hs hsound hsess hclosed => sessionDatagrams hfrag fun type => ?_,
      fun r hs hsound hsess hclosed => sessionDatagrams hfrag fun type => ?_, fun hudp => ?_, fun hudp hbad => ?_⟩
    · exact (hdpIn_unserved _ hhears (Bool.eq_false_iff.2 (mt serves_iff.1 hno))).trans badPort_eq
    · exact hdpIn_unsound _ hhears (serves_iff.2 hs) hsound
    · exact hdpIn_unknown _ hhears (serves_iff.2 hs) hsound hsess hclosed
    · exact hdpIn_closed _ hhears (serves_iff.2 hs) hsound hsess hclosed
    · exact hopened.trans ((next_if_pos _ _ hudp).trans (congrArg _ badPort_eq))
    · refine hopened.trans ((next_if_neg _ _ (not_not.2 hudp)).trans (next_if_pos _ _ ?_))
      rcases hbad with hbad | hbad
      · simp [hbad]
      · exact Bool.or_eq_true_iff.2 (.inr (decide_eq_true hbad))

/-! ### Fragments (R411) -/

section
variable {s : State} {d : HdpDgram} {f : IpFrag}

/-- Is the reassembly that of the fragment's datagram? -/
def sameDatagram (d : HdpDgram) (f : IpFrag) (r : Reasm) : Bool := r.port == d.port.val && r.peer == d.peer && r.id == f.id

theorem sameDatagram_iff (r : Reasm) : sameDatagram d f r = true ↔ r.port = d.port.val ∧ r.peer = d.peer ∧ r.id = f.id := by
  simp [sameDatagram, and_assoc]

theorem fragIn_ignored (h : s.hears d.port d.peer = false ∨
    ((s.reasm.find? (sameDatagram d f)).isNone = true ∧ 64 ≤ s.reasm.length)) : s.fragIn d f = s := by
  refine if_pos ?_
  rcases h with h | ⟨hnone, hlen⟩
  · simp [h]
  · exact Bool.or_eq_true_iff.2 (.inr (Bool.and_eq_true_iff.2 ⟨hnone, decide_eq_true hlen⟩))

/-- A fragment that the port takes: too long or out of step it ends its reassembly, else it joins it. -/
theorem fragIn_heard (h : s.hears d.port d.peer = true) (hlen : s.reasm.length < 64) : s.fragIn d f =
    let rest := s.reasm.filter fun r => !sameDatagram d f r
    let r := (s.reasm.find? (sameDatagram d f)).getD { port := d.port, peer := d.peer, id := f.id, since := s.dtime }
    let last := f.off + f.bytes.length
    if 9216 < last || (f.more && f.bytes.length % 8 != 0) then { s with reasm := rest }
    else
      let r1 := { r with parts := r.parts ++ [(f.off, f.bytes)], total := if f.more then r.total else some last }
      let l := joinFrags r1.parts r1.parts.length 0
      if r1.total = some l.length then State.hdpTake { s with reasm := rest } (dgramOf d l).1 (dgramOf d l).2
      else { s with reasm := rest ++ [r1] } := if_neg (by simp [h, Nat.not_le.2 hlen])

section
variable (hnew : ∀ r ∈ s.reasm, sameDatagram d f r = false) (h : s.hears d.port d.peer = true) (hlen : s.reasm.length < 64)
  (hlast : f.off + f.bytes.length ≤ 9216)
include hnew h hlen hlast

/-- The first fragment of a datagram begins its reassembly. -/
theorem fragIn_new (hstep : f.more = true → f.bytes.length % 8 = 0) : s.fragIn d f =
    let r1 : Reasm := { port := d.port, peer := d.peer, id := f.id, since := s.dtime, parts := [(f.off, f.bytes)],
                        total := if f.more then none else some (f.off + f.bytes.length) }
    let l := joinFrags r1.parts 1 0
    if r1.total = some l.length then s.hdpTake (dgramOf d l).1 (dgramOf d l).2 else { s with reasm := s.reasm ++ [r1] } := by
  have hfind : s.reasm.find? (sameDatagram d f) = none := List.find?_eq_none.2 fun r hr => by simp [hnew r hr]
  have hrest : (s.reasm.filter fun r => !sameDatagram d f r) = s.reasm := List.filter_eq_self.2 fun r hr => by simp [hnew r hr]
  rw [fragIn_heard h hlen, hfind, hrest]
  refine if_neg ?_
  rw [Bool.or_eq_true, decide_eq_true_eq, Bool.and_eq_true, bne_iff_ne]
  exact fun hc => hc.elim (Nat.not_lt.2 hlast) fun ⟨hmore, hne⟩ => hne (hstep hmore)

theorem fragIn_whole (hoff : f.off = 0) (hmore : f.more = false) :
    s.fragIn d f = s.hdpTake (dgramOf d f.bytes).1 (dgramOf d f.bytes).2 := by
  rw [fragIn_new hnew h hlen hlast (by simp [hmore])]
  simp [joinFrags, hoff, hmore]

theorem fragIn_waits (hstep : f.bytes.length % 8 = 0) (hmore : f.more = true) : s.fragIn d f = { s with reasm := s.reasm ++
    [{ port := d.port, peer := d.peer, id := f.id, parts := [(f.off, f.bytes)], total := none, since := s.dtime }] } := by
  rw [fragIn_new hnew h hlen hlast fun _ => hstep]
  simp [hmore]

end

end

theorem fragmentsJoin : Claims.FragmentsJoin := by
  intro d f p s hfrag same new heard x
  have harrive : ∀ type, s.hdpArrive type d = s.fragIn d f := fun type => by simp only [State.hdpArrive, hfrag]
  have hhears : heard → s.hears d.port d.peer = true := (hears_iff d.port d.peer).2
  have hsame : ∀ r, same r ↔ sameDatagram d f r = true := fun r => (sameDatagram_iff r).symm
  have hnew : new → ∀ r ∈ s.reasm, sameDatagram d f r = false := fun h r hr => Bool.eq_false_iff.2 (mt (hsame r).2 (h r hr))
  refine ⟨congrArg _ (harrive 1), congrArg _ (harrive 3), congrArg _ (harrive 4), congrArg _ (harrive 5), congrArg _ (harrive
      7),
    fun h => fragIn_ignored ?_, fun hh hn hlen hlast => ⟨fun hoff hmore => ?_, fun hstep _ hmore => ?_⟩, fun hh hlast hlen =>
        ?_, rfl⟩
  · refine h.imp (fun h => Bool.eq_false_iff.2 (mt (hears_iff d.port d.peer).1 h)) fun ⟨hn, hlen⟩ => ⟨?_, hlen⟩
    rw [Option.isNone_iff_eq_none, List.find?_eq_none]
    exact fun r hr => by simp [hnew hn r hr]
  · exact fragIn_whole (hnew hn) (hhears hh) hlen hlast hoff hmore
  · exact fragIn_waits (hnew hn) (hhears hh) hlen hlast hstep hmore
  · refine ⟨s.reasm.filter fun r => !sameDatagram d f r, ?_, fun r hr => ?_⟩
    · rw [fragIn_heard (hhears hh) hlen]
      exact if_pos (by simp [hlast])
    · obtain ⟨hmem, hnot⟩ := List.mem_filter.1 hr
      exact ⟨hmem, fun hs => by simp [(hsame r).1 hs] at hnot⟩

/-! ### A session opens (R413) -/

/-- A choice draws at most a number, and names a member of the list. -/
theorem choose_mem (s : State) {l : List Nat} (d : Nat) (h : l ≠ []) : (s.choose l d).1 ∈ l := by
  match l, h with
  | [x], _ => exact List.mem_singleton_self x
  | x :: y :: l, _ =>
    have hlt : s.fresh.1 % (x :: y :: l).length < (x :: y :: l).length := Nat.mod_lt _ (Nat.succ_pos _)
    show (x :: y :: l).getD (s.fresh.1 % (x :: y :: l).length) d ∈ _
    rw [List.getD_eq_getElem _ _ hlt]
    exact List.getElem_mem hlt

theorem choose_state (s : State) (l : List Nat) (d : Nat) : ∃ n, (s.choose l d).2 = { s with freeCtr := n } := by
  match l with
  | [] => exact ⟨_, rfl⟩
  | [_] => exact ⟨_, rfl⟩
  | _ :: _ :: _ => exact ⟨_, rfl⟩

section
variable (s : State) (i : Fin 16)

@[simp] theorem setSess_get (x : Option Session) : (s.setSess i x).sessions[i] = x := by simp [State.setSess]

theorem setSess_get_other (x : Option Session) {k : Fin 16} (h : k ≠ i) : (s.setSess i x).sessions[k] = s.sessions[k] := by
  have hne : ¬ i.val = k.val := fun he => h (Fin.ext he.symm)
  simp [State.setSess, Vector.getElem_set_ne, hne]

theorem hdpSend_sessions (x : Session) (kind : Nat) (q : Word) (b : HdpBody) (r : Bool) :
    (s.hdpSend x kind q b r).sessions = s.sessions := by
  simp only [State.hdpSend]
  split <;> rfl

/-- The session that keeps a datagram until its acknowledgement. -/
def keptIn (x : Session) (kind : Nat) (b : HdpBody) : Session :=
  { x with tx := x.tx + 1, unacked := x.unacked ++ [{ kind := kind, seq := x.tx, body := b }] }

theorem hdpPut_sends {x : Session} (kind : Nat) (b : HdpBody) (hx : s.sessions[i] = some x)
    (hwin : x.unacked.length < s.get F.HST_HDP_TMR.WIN) :
    s.hdpPut i kind b = (s.setSess i (some (keptIn x kind b))).hdpSend (keptIn x kind b) kind x.tx b false := by
  simp only [State.hdpPut, hx, if_pos hwin]
  rfl

/-- What goes out by the session's own port, where its link is up and the peer there is known. -/
theorem hdpSend_mem {x : Session} {peer : Nat} (kind : Nat) (q : Word) (b : HdpBody)
    (hlink : s.is (F.HST_STAT.LINK x.port) = true) (hpeer : x.peers.getD x.port none = some peer) :
    ∃ w ∈ (s.hdpSend x kind q b false).wire, w.kind = kind ∧ w.session = x.id ∧ w.port = x.port := by
  have hroute : s.hdpRoute x false = some (x.port, peer) := by
    simp only [State.hdpRoute, hlink, hpeer, Bool.false_eq_true, if_true, if_false, Option.map_some, Option.some_or]
  simp only [State.hdpSend, hroute]
  exact ⟨_, List.mem_append_right _ (List.mem_singleton_self _), rfl, rfl, rfl⟩

end

section
variable {s : State} {d : HdpDgram}

/-- The slots without a session. -/
def freeSlots (s : State) : List (Fin 16) := (List.finRange 16).filter fun i => s.sessions[i] == none

theorem mem_freeSlots {i : Fin 16} : i ∈ freeSlots s ↔ s.sessions[i] = none := by
  simp [freeSlots, List.mem_filter]

/-- The slots to choose from: those whose former commands have ended, where there are any. -/
def openSlots (s : State) : List (Fin 16) :=
  let clean := (freeSlots s).filter fun i => !s.cmds.any fun c => c.rq == .session i
  if clean.isEmpty then freeSlots s else clean

theorem openSlots_ne_nil (h : freeSlots s ≠ []) : openSlots s ≠ [] := by
  simp only [openSlots]
  split
  · exact h
  · rename_i hclean
    exact fun he => hclean (by rw [he]; rfl)

theorem openSlots_free {i : Fin 16} (h : i ∈ openSlots s) : s.sessions[i] = none := by
  simp only [openSlots] at h
  split at h
  · exact mem_freeSlots.1 h
  · exact mem_freeSlots.1 (List.mem_filter.1 h).1

/-- The new session. -/
def newSession (d : HdpDgram) (id q : Word) (now : Nat) : Session :=
  { id := id, udp := d.udp, openBy := d.peer, openSeq := d.seq, openAt := now, first := q,
    peers := [none, none].set d.port.val (some d.peer), port := d.port, rx := d.seq + 1, tx := q }

/-- The session in its slot, before ACCEPT goes out. -/
def sessionPlaced (s : State) (i : Fin 16) (x : Session) (n : Nat) : State :=
  ((({ s with freeCtr := n } : State).setSess i (some x)).set F.HST_SESS.OPEN (s.get F.HST_SESS.OPEN + 1)).setReq (.session i)
      {}

/-- The slot that an OPEN takes. -/
def slotTaken (s : State) : Fin 16 := slotOf (BitVec.ofNat 32 (s.choose ((openSlots s).map (·.val)) 0).1)

/-- The identifier, and the number that its choice leaves next. -/
def idTaken (s : State) : Word × State := (s.choose ((openSlots s).map (·.val)) 0).2.newId (slotTaken s)

/-- An OPEN that answers none before it. -/
theorem hdpOpen_new (h : ∀ i : Fin 16, ∀ x, s.sessions[i] = some x → x.openSeq ≠ d.seq) : s.hdpOpen d =
    if freeSlots s = [] then s.hdpClose { d with session := 0 } 3
    else (((((idTaken s).2.fresh.2.setSess (slotTaken s) (some (newSession d (idTaken s).1
      (BitVec.ofNat 32 (idTaken s).2.fresh.1) s.dtime))).set F.HST_SESS.OPEN (s.get F.HST_SESS.OPEN + 1)).setReq
        (.session (slotTaken s)) {}).hdpPut (slotTaken s) 2 .none) := by
  simp only [State.hdpOpen]
  split
  · rename_i y hy
    obtain ⟨o, ho, hsome⟩ := List.exists_of_findSome?_eq_some hy
    obtain ⟨i, hi, hget⟩ := Vector.mem_iff_getElem.1 (Vector.mem_toList_iff.1 ho)
    cases o with
    | none => cases hsome
    | some x =>
      have hseq := h ⟨i, hi⟩ x hget
      simp [hseq] at hsome
  · split
    · rename_i hfull
      exact (if_pos hfull).symm
    · rename_i hfree
      exact (if_neg hfree).symm

theorem slotOf_val (i : Fin 16) : slotOf (BitVec.ofNat 32 i.val) = i := by
  revert i
  decide

theorem slotTaken_free (h : freeSlots s ≠ []) : s.sessions[slotTaken s] = none := by
  have hne : (openSlots s).map (·.val) ≠ [] := fun he => openSlots_ne_nil h (List.map_eq_nil_iff.1 he)
  obtain ⟨i, hi, heq⟩ := List.mem_map.1 (choose_mem s 0 hne)
  have hslot : slotTaken s ∈ openSlots s := by
    rw [slotTaken, ← heq, slotOf_val]
    exact hi
  exact openSlots_free hslot

theorem idTaken_state (s : State) : ∃ n, (idTaken s).2.fresh.2 = { s with freeCtr := n } := by
  obtain ⟨n, hn⟩ := choose_state s ((openSlots s).map (·.val)) 0
  exact ⟨n + 1 + 1, by simp only [idTaken, State.newId, State.fresh, hn]⟩

/-- With a slot free, the session is placed and ACCEPT goes out. -/
theorem hdpOpen_places (h : ∀ i : Fin 16, ∀ x, s.sessions[i] = some x → x.openSeq ≠ d.seq) (hfree : freeSlots s ≠ []) :
    ∃ id q n, s.hdpOpen d =
      (sessionPlaced s (slotTaken s) (newSession d id q s.dtime) n).hdpPut (slotTaken s) 2 .none := by
  obtain ⟨n, hn⟩ := idTaken_state s
  refine ⟨(idTaken s).1, BitVec.ofNat 32 (idTaken s).2.fresh.1, n, (hdpOpen_new h).trans ((if_neg hfree).trans ?_)⟩
  rw [hn]
  rfl

end

section
variable (s : State) (i : Fin 16) (x : Session) (n : Nat)

theorem sessionPlaced_get : (sessionPlaced s i x n).sessions[i] = some x := setSess_get _ i _

theorem sessionPlaced_get_other {k : Fin 16} (h : k ≠ i) : (sessionPlaced s i x n).sessions[k] = s.sessions[k] :=
  setSess_get_other _ i _ h

theorem sessionPlaced_field {g : Fld} (h : g.addr ≠ R.HST_SESS) : (sessionPlaced s i x n).get g = s.get g :=
  State.get_set_other _ F.HST_SESS.OPEN g _ h

end

theorem sessionsOpen : Claims.SessionsOpen := by
  intro d s _ hfrag hhears hudp hsound hid hwin hnew
  have hexec : exec (.hdpOpen d) s = .next (s.hdpOpen d) := by
    refine congrArg _ ((hdpArrive_open hfrag).trans ((if_neg (by simp [hhears])).trans ((if_neg (not_not.2 hudp)).trans
      (if_neg (by simp [hsound, hid])))))
  refine ⟨fun hfull => ?_, fun ⟨i, hi⟩ => ?_⟩
  · have hnone : freeSlots s = [] := List.filter_eq_nil_iff.2 fun i _ => by simpa using hfull i
    exact hexec.trans (congrArg _ ((hdpOpen_new hnew).trans (if_pos hnone)))
  · have hfree : freeSlots s ≠ [] := List.ne_nil_of_mem (mem_freeSlots.2 hi)
    obtain ⟨id, q, n, hplace⟩ := hdpOpen_places hnew hfree
    obtain ⟨hlink, -⟩ := (hears_iff d.port d.peer).1 hhears
    let u := sessionPlaced s (slotTaken s) (newSession d id q s.dtime) n
    have hroom : (newSession d id q s.dtime).unacked.length < u.get F.HST_HDP_TMR.WIN := by
      rw [sessionPlaced_field s _ _ n (by decide)]
      exact hwin
    have hput := hdpPut_sends u (slotTaken s) 2 .none (sessionPlaced_get s _ _ n) hroom
    let y : Session := keptIn (newSession d id q s.dtime) 2 .none
    have hsess := hdpSend_sessions (u.setSess (slotTaken s) (some y)) y 2 q .none false
    have hlinked : (u.setSess (slotTaken s) (some y)).is (F.HST_STAT.LINK y.port) = true := by
      have hne : R.HST_STAT d.port ≠ R.HST_SESS := by simp only [R.HST_STAT, R.HST_SESS]; omega
      have hget : u.get (F.HST_STAT.LINK d.port) = s.get (F.HST_STAT.LINK d.port) := sessionPlaced_field s _ _ n hne
      show (u.get (F.HST_STAT.LINK d.port) != 0) = true
      rw [hget]
      exact hlink
    have hpeers : y.peers[d.port]? = some (some d.peer) := by
      have hlt : d.port.val < 2 := d.port.isLt
      show ([none, none].set d.port.val (some d.peer))[d.port.val]? = _
      exact List.getElem?_set_self hlt
    refine ⟨(u.setSess (slotTaken s) (some y)).hdpSend y 2 q .none false, slotTaken s, y, hexec.trans (congrArg _
        (hplace.trans hput)), slotTaken_free hfree, ?_, rfl, rfl, hpeers,
      fun k hk => ?_, ?_⟩
    · rw [hsess]
      exact setSess_get u _ _
    · rw [hsess]
      exact (setSess_get_other u _ _ hk).trans (sessionPlaced_get_other s _ _ n hk)
    · refine hdpSend_mem (u.setSess (slotTaken s) (some y)) 2 q .none hlinked (peer := d.peer) ?_
      show y.peers.getD d.port.val none = some d.peer
      rw [List.getD_eq_getElem?_getD]
      exact congrArg (·.getD none) hpeers

/-- Settles O45: the link of a host port, stray datagrams, fragments, and how a session opens. -/
theorem hostLinksAndSessions : Obligations.HostLinksAndSessions := ⟨hostLinks, strayDatagrams, fragmentsJoin, sessionsOpen⟩

end Sys2Proof.Machine
end

section
/-!
Sessions of HDP (R414 to R421): what a valid datagram does, the timers of a session, its end, and streaming.
-/
namespace Sys2Proof.Machine

/-! ### A valid datagram of an open session (R414, R417) -/

section
variable {s : State} {d : HdpDgram} {x : Session}

theorem ackOne_sessions (s : State) (i : Fin 16) (u : HdpTx) : (s.ackOne i u).sessions = s.sessions := by
  simp only [State.ackOne]
  split <;> rfl

theorem foldl_ackOne_sessions (i : Fin 16) (l : List HdpTx) : ∀ s : State,
    (l.foldl (fun s u => s.ackOne i u) s).sessions = s.sessions := by
  induction l with
  | nil => exact fun _ => rfl
  | cons u l ih => exact fun s => (ih _).trans (ackOne_sessions s i u)

/-- The session once a datagram has been heard: its peer, its port, and what is not yet acknowledged. -/
def heardBy (x : Session) (d : HdpDgram) : Session :=
  { x with peers := x.peers.set d.port.val (some d.peer), port := d.port.val,
           unacked := x.unacked.filter fun u => !seqBefore u.seq d.ack }

theorem hdpValid_session (i : Fin 16) (hwaits : x.waits = []) : (s.hdpValid i x d).sessions[i] = some (heardBy x d) := by
  have hstate : s.hdpValid i x d = ((x.unacked.filter fun u => seqBefore u.seq d.ack).foldl (fun s u => s.ackOne i u)
      (s.setSess i (some (heardBy x d)))).drainWaits i x.waits.length := rfl
  rw [hstate, hwaits, List.length_nil, State.drainWaits, foldl_ackOne_sessions]
  exact setSess_get s i _

theorem winLimit (s : State) : s.get F.HST_HDP_TMR.WIN < 2 ^ 31 :=
  Nat.lt_of_lt_of_le (Nat.mod_lt _ (by decide)) (by decide : 2 ^ 12 ≤ 2 ^ 31)

/-- A number behind the window is acknowledged again. -/
theorem hdpSeq_behind {i : Fin 16} {y : Session} (hy : s.sessions[i] = some y) (q : Word) (b : Option (List Byte))
    (h : 2 ^ 31 ≤ (q - y.rx).toNat) : s.hdpSeq i q b = s.hdpAck i := by
  have hwin : ¬ (q - y.rx).toNat < s.get F.HST_HDP_TMR.WIN := by
    have := winLimit s
    omega
  simp only [State.hdpSeq, hy, if_neg hwin, if_pos h]

/-- A number beyond the window is discarded. -/
theorem hdpSeq_beyond {i : Fin 16} {y : Session} (hy : s.sessions[i] = some y) (q : Word) (b : Option (List Byte))
    (hwin : s.get F.HST_HDP_TMR.WIN ≤ (q - y.rx).toNat) (h : (q - y.rx).toNat < 2 ^ 31) : s.hdpSeq i q b = s := by
  simp only [State.hdpSeq, hy, if_neg (Nat.not_lt.2 hwin), if_neg (Nat.not_le.2 h)]

end

theorem sessionTraffic : Claims.SessionTraffic := by
  intro d x s _ hfrag hhears hsound hudp hsess i v
  have hserves : s.serves d = true := serves_iff.2 (.inl hudp)
  have hact : ∀ type, type ≠ 1 → s.hdpArrive type d = sessionTakes type d v i := fun type h =>
    (hdpArrive_whole hfrag h).trans (hdpIn_valid _ hhears hserves hsound hsess)
  refine ⟨congrArg _ (hact 5 (by decide)), congrArg _ (hact 7 (by decide)), congrArg _ (hact 4 (by decide)),
    congrArg _ (hact 3 (by decide)), fun hwaits => ⟨heardBy x d, hdpValid_session i hwaits, rfl, rfl, rfl, rfl⟩,
    fun y b hy _ _ => ⟨hdpSeq_behind hy d.seq (some b), hdpSeq_beyond hy d.seq (some b)⟩⟩

/-! ### The timers and the end of a session (R415, R416) -/

section
variable {s : State} {i : Fin 16} {x : Session}

/-- The rings of a session that ends are free again. -/
def ringFreed (rq : Requester) (r : Ring) : Ring :=
  match r.sub with
  | some (q, _) => if q == rq then { r with sub := none, sent := r.head } else r
  | none => r

theorem ringFreed_sub {rq : Requester} {r : Ring} {q : Requester × Nat} (h : (ringFreed rq r).sub = some q) : q.1 ≠ rq := by
  simp only [ringFreed] at h
  split at h
  · rename_i q' k hsub
    split at h
    · cases h
    · rename_i hne
      rw [hsub] at h
      cases h
      exact fun he => hne (beq_iff_eq.2 he)
  · rename_i hsub
    rw [hsub] at h
    cases h

section
variable (hx : s.sessions[i] = some x) (n : Nat)
include hx

theorem closeSess_sessions : (s.closeSess i n).sessions = (s.setSess i none).sessions := by
  simp only [State.closeSess, hx]
  rfl

theorem closeSess_closed : (s.closeSess i n).closed = s.closed ++ [(x.id, n)] := by
  simp only [State.closeSess, hx]

theorem closeSess_rings : (s.closeSess i n).rings = s.rings.map (ringFreed (.session i)) := by
  simp only [State.closeSess, hx]
  rfl

theorem closeSess_journal : (s.closeSess i n).journal = s.journal.filter fun j => j.rq != .session i := by
  simp only [State.closeSess, hx]

theorem closeSess_mem : (s.closeSess i n).mem = s.mem := by
  simp only [State.closeSess, hx]
  rfl

end

end

/-- The ring that a session's streaming serves: subscribed to, with records not yet sent. -/
def streams (i : Fin 16) (r : Ring) : Bool :=
  match r.sub with
  | some (q, _) => q == .session i && r.sent != r.tail
  | none => false

theorem streams_eq (i : Fin 16) (r : Ring) :
    streams i r = ((r.sub.map (·.1) == some (Requester.session i)) && r.sent != r.tail) := by
  simp only [streams]
  split
  · rename_i q k hsub
    simp [hsub]
  · rename_i hsub
    simp [hsub]

/-- The records of ring r that go out next: as many whole slots as a STREAM datagram holds. -/
def streamed (s : State) (i : Fin 16) (r : Ring) : State :=
  let n := min (min ((r.tail + 2 ^ 32 - r.sent) % 2 ^ 32) 255) (8192 / r.size)
  (s.modRing r.num fun g => { g with sent := (g.sent + n) % 2 ^ 32 }).hdpPut i 6
    (.stream ((r.sub.map (·.2)).getD 0) r.num r.sent n ((List.range n).flatMap fun k => s.ldBytes (r.slot (r.sent + k))
        r.size))

section
variable {s : State} {i : Fin 16} {x : Session}

theorem streamSend_eq : exec (.streamSend i) s = .next (match s.sessions[i], s.rings.find? (streams i) with
    | some x, some r => if x.unacked.length < s.get F.HST_HDP_TMR.WIN then streamed s i r else s
    | _, _ => s) := rfl

theorem streamSend_sends {r : Ring} (hx : s.sessions[i] = some x) (hr : s.rings.find? (streams i) = some r)
    (h : x.unacked.length < s.get F.HST_HDP_TMR.WIN) : exec (.streamSend i) s = .next (streamed s i r) := by
  rw [streamSend_eq, hx, hr]
  exact next_if_pos _ _ h

theorem streamSend_full (hx : s.sessions[i] = some x) (h : s.get F.HST_HDP_TMR.WIN ≤ x.unacked.length) :
    exec (.streamSend i) s = .next s := by
  rw [streamSend_eq, hx]
  cases s.rings.find? (streams i) with
  | none => rfl
  | some r => exact next_if_neg _ _ (Nat.not_lt.2 h)

theorem streamSend_without_ring (h : s.rings.find? (streams i) = none) : exec (.streamSend i) s = .next s := by
  rw [streamSend_eq, h]
  cases s.sessions[i] <;> rfl

/-- Without a subscription no ring streams. -/
theorem find_streams_none (h : ∀ r ∈ s.rings, ∀ q, r.sub = some q → q.1 ≠ .session i) : s.rings.find? (streams i) = none := by
  refine List.find?_eq_none.2 fun r hr hs => ?_
  rw [streams_eq, Bool.and_eq_true, beq_iff_eq] at hs
  obtain ⟨q, hq, hrq⟩ := Option.map_eq_some_iff.1 hs.1
  exact h r hr q hq hrq

end

theorem sessionTimers : Claims.SessionTimers := by
  intro i x s _ none'
  have hretransmit : exec (.hdpRetransmit i) s = execHdpRetransmit i s := rfl
  have htimeout : exec (.sessionTimeout i) s = execSessionTimeout i s := rfl
  have hkeep : exec (.keepaliveSend i) s = execKeepaliveSend i s := rfl
  refine ⟨fun hx => ⟨?_, ?_, ?_, ?_⟩, fun hx => ⟨?_, ?_, fun hun => ?_, fun u l hun => ?_, streamSend_full hx,
    fun hsub => streamSend_without_ring (find_streams_none hsub), fun n r hr => ?_⟩⟩
  · simp only [none', hretransmit, execHdpRetransmit, hx]
  · simp only [none', htimeout, execSessionTimeout, hx]
  · simp only [none', hkeep, execKeepaliveSend, hx]
  · simp only [none']
    rw [streamSend_eq, hx]
  · simp only [hkeep, execKeepaliveSend, hx]
  · simp only [htimeout, execSessionTimeout, hx]
  · simp only [none', hretransmit, execHdpRetransmit, hx, hun]
  · simp only [hretransmit, execHdpRetransmit, hx, hun]
  · subst hr
    refine ⟨?_, fun k hk => ?_, closeSess_closed hx n, fun g hg q hq => ?_, fun j hj => ?_, closeSess_mem hx n⟩
    · rw [closeSess_sessions hx]
      exact setSess_get s i _
    · rw [closeSess_sessions hx]
      exact setSess_get_other s i _ hk
    · rw [closeSess_rings hx] at hg
      obtain ⟨g', -, rfl⟩ := List.mem_map.1 hg
      exact ringFreed_sub hq
    · rw [closeSess_journal hx] at hj
      exact bne_iff_ne.1 (List.mem_filter.1 hj).2

/-! ### Streaming (R420) -/

theorem streamingSends : Claims.StreamingSends := by
  intro i x r k s mine n hx hr hsub hwin
  have hmine : streams i = mine := funext fun g => streams_eq i g
  refine (streamSend_sends hx (hmine ▸ hr) hwin).trans ?_
  simp only [streamed, hsub]
  rfl

/-- Settles O46: what a valid datagram does, the timers and the end of a session, and streaming. -/
theorem sessionsCarryTraffic : Obligations.SessionsCarryTraffic := ⟨sessionTraffic, sessionTimers, streamingSends⟩

end Sys2Proof.Machine
end

section
/-!
Device time (R422, R423), the TW_M mailbox with its alerts (R425 to R430), bus clears (R433), and the controllers TW_0 to
TW_2 (R434).
-/
namespace Sys2Proof.Machine

/-! ### Device time (R422, R423) -/

/-- Two words that hold an integer read back as its value modulo 2^64. -/
theorem pairNat_words (v : Int) : (pairNat (loWord v) (hiWord v) : Int) = v % 2 ^ 64 := by
  simp only [pairNat, loWord, hiWord, BitVec.toNat_ofInt]
  omega

section
variable {s : State}

theorem ptpHears_of_down (h : s.ptpUp = false) (port : Fin 2) (domain : BitVec 8) : s.ptpHears port domain = false := by
  simp [State.ptpHears, h]

/-- The clock after a sync: it is SLAVE, with the delay and the offset of the message. -/
def ptpSynced (m : PtpSync) (s : State) : State :=
  ((s.set F.PTP_STAT.STATE 2).set F.PTP_STAT.DELAY (satU 16 m.delay)).seti F.PTP_OFS.OFS (satS 32 m.offset)

/-- The sync of a large offset steps device time. -/
def ptpStepped (m : PtpSync) (s : State) : State :=
  ((ptpSynced m s).wr64 R.TB_DTIME_LO R.TB_DTIME_HI ((s.dtime : Int) - m.offset)).set F.PTP_STAT.STEPPED 1

theorem ptpSynced_state (h : s.rwf) (m : PtpSync) : Reads F.PTP_STAT.STATE 2 (ptpSynced m s) :=
  ((reads_set h _ 2 rfl rfl).set_apart _ _ rfl).set_other _ _ (by decide)

theorem ptpSynced_rd (m : PtpSync) {a : Nat} (hstat : a ≠ R.PTP_STAT) (hofs : a ≠ R.PTP_OFS) :
    (ptpSynced m s).rd a = s.rd a :=
  ((State.set_rd_other _ _ _ a hofs).trans (State.set_rd_other _ _ _ a hstat)).trans (State.set_rd_other _ _ _ a hstat)

theorem ptpSynced_dtime (m : PtpSync) : (ptpSynced m s).dtime = s.dtime := by
  simp only [State.dtime, State.rd64, ptpSynced_rd m (a := R.TB_DTIME_LO) (by decide) (by decide),
    ptpSynced_rd m (a := R.TB_DTIME_HI) (by decide) (by decide)]

theorem ptpStepped_dtime (h : s.rwf) (m : PtpSync) :
    ((ptpStepped m s).dtime : Int) = ((s.dtime : Int) - m.offset) % 2 ^ 64 := by
  have hpair := (ptpSynced m s).rd64_wr64 R.TB_DTIME_LO R.TB_DTIME_HI ((s.dtime : Int) - m.offset)
    (ptpSynced_state h m).rwf (by decide)
  rw [← pairNat_words, ← hpair, State.dtime, State.rd64, State.rd64, ptpStepped,
    State.set_rd_other _ _ _ _ (by decide), State.set_rd_other _ _ _ _ (by decide)]

theorem ptpStepped_stepped (h : s.rwf) (m : PtpSync) : (ptpStepped m s).get F.PTP_STAT.STEPPED = 1 :=
  (reads_set (State.wr64_rwf _ _ _ _ (ptpSynced_state h m).rwf) F.PTP_STAT.STEPPED 1 rfl rfl).get

theorem deassertL_get (s : State) (src cond : Nat) (f : Fld) : (s.deassertL src cond).get f = s.get f := rfl

theorem setPtp_dtime (s : State) (p : Ptp) : State.dtime { s with ptp := p } = s.dtime := rfl

theorem setPtp_get (s : State) (p : Ptp) (f : Fld) : State.get { s with ptp := p } f = s.get f := rfl

theorem execPtpSync_taken {m : PtpSync} (hhears : s.ptpHears m.port m.domain = true)
    (hst : s.get F.PTP_STAT.STATE = 1 ∨ s.get F.PTP_STAT.STATE = 2) : exec (.ptpSync m) s =
      .next (if s.get F.PTP_CFG.STEP_THR * 10000 < m.offset.natAbs then { ptpStepped m s with ptp := {} }
        else { ptpSynced m s with ptp := { slew := -m.offset, acc := 0 } }) := by
  refine next_if_neg _ _ ?_
  rcases hst with h | h <;> simp [hhears, h]

theorem execPtpAnnounce_master {a : PtpAnnounce} (hhears : s.ptpHears a.port a.domain = true) (htakes : s.ptpTakes a = true) :
    exec (.ptpAnnounce a) s =
      .next ((if s.get F.PTP_STAT.STATE = 2 then s else s.set F.PTP_STAT.STATE 1).deassertL 374 1) :=
  (next_if_neg _ _ (by simp [hhears])).trans (next_if_pos _ _ htakes)

/-- A clock that may be master itself does not take a sender of a higher priority1, nor one of its own that lost. -/
theorem ptpTakes_of_worse {a : PtpAnnounce} (hown : s.is F.PTP_CFG.SLAVE_ONLY = false)
    (h : s.get F.PTP_CFG.PRIO1 < a.prio1.toNat ∨ (s.get F.PTP_CFG.PRIO1 = a.prio1.toNat ∧ a.selected = false)) :
    s.ptpTakes a = false ∧ ¬ a.prio1.toNat < s.get F.PTP_CFG.PRIO1 := by
  rcases h with h | ⟨h, hsel⟩
  · exact ⟨by simp [State.ptpTakes, hown, h], by omega⟩
  · exact ⟨by simp [State.ptpTakes, hsel], by omega⟩

end

theorem deviceTimeFollows : Claims.DeviceTimeFollows := by
  intro m a s hs st
  have hwf := State.wf_rwf hs
  refine ⟨fun hdown => ⟨next_if_pos _ _ (by simp [ptpHears_of_down hdown]), next_if_pos _ _ (by simp [ptpHears_of_down
      hdown])⟩,
    fun h1 h2 => next_if_pos _ _ ?_, fun hhears hst => ⟨fun hfar => ?_, fun hnear => ?_⟩, fun hhears htakes => ?_,
    fun hno hown => ?_, fun hhears hown hworse => ?_, fun hen => next_if_pos _ _ (by simp [hen]),
    fun hen => next_if_neg _ _ (by simp [hen])⟩
  · simp only [Bool.or_eq_true, Bool.and_eq_true, decide_eq_true_eq]
    exact .inr ⟨h1, h2⟩
  · exact ⟨_, (execPtpSync_taken hhears hst).trans (next_if_pos _ _ hfar), 
      (congrArg Nat.cast (setPtp_dtime _ _)).trans (ptpStepped_dtime hwf m),
      (setPtp_get _ _ _).trans (ptpStepped_stepped hwf m), rfl⟩
  · exact ⟨_, (execPtpSync_taken hhears hst).trans (next_if_neg _ _ (Nat.not_lt.2 hnear)), 
      (setPtp_dtime _ _).trans (ptpSynced_dtime m), rfl, (setPtp_get _ _ _).trans (ptpSynced_state hwf m).get⟩
  · refine ⟨_, execPtpAnnounce_master hhears htakes, ?_, fun x hx hsrc hcond => ?_⟩
    · refine (deassertL_get _ _ _ _).trans ?_
      by_cases h2 : s.get F.PTP_STAT.STATE = 2
      · exact (congrArg (State.get · _) (if_pos h2)).trans (h2.trans (if_pos h2).symm)
      · refine (congrArg (State.get · _) (if_neg h2)).trans (.trans ?_ (if_neg h2).symm)
        exact (reads_set hwf F.PTP_STAT.STATE 1 rfl rfl).get
    · have hkept := (List.mem_filter.1 hx).2
      simpa [hsrc, hcond] using hkept
  · by_cases hhears : s.ptpHears a.port a.domain = true
    · exact (next_if_neg _ _ (by simp [hhears])).trans ((next_if_neg _ _ (by simp [hno])).trans (next_if_pos _ _ (by simp
        [hown])))
    · exact next_if_pos _ _ (by simpa using hhears)
  · obtain ⟨hno, hprio⟩ := ptpTakes_of_worse hown hworse
    exact (next_if_neg _ _ (by simp [hhears])).trans ((next_if_neg _ _ (by simp [hno])).trans
      (next_if_neg _ _ (by simp [hown, hprio])))

/-! ### The TW_M target (R425 to R428) -/

section
variable {s : State}

/-- The pointer of the target, as its first written byte sets it. -/
def pointedAt (p : Byte) (s : State) : State := s.modTwm fun t => { t with ptr := p.toNat }

theorem execTwMWrite_cons (hpor : s.boot.por = false) (p : Byte) (l : List Byte) :
    exec (.twMWrite (p :: l)) s = .next (l.foldl State.twWrite (pointedAt p s)) := next_if_neg _ _ (by simp [hpor])

theorem endAlert_mem (s : State) : s.endAlert.mem = s.mem := by
  simp only [State.endAlert]
  split <;> rfl

theorem endAlert_twm (s : State) : s.endAlert.twm = s.twm := by
  simp only [State.endAlert]
  split <;> rfl

/-- Each byte that is read goes to the output, and the pointer goes on by one; memory stays (R425). -/
theorem twReads_step (first : Bool) (latch : Option (Nat × List Byte)) (n : Nat) :
    ∃ t l, s.twReads first latch (n + 1) = State.twReads t false l n ∧ t.twm.out.length = s.twm.out.length + 1 ∧
      t.twm.ptr = (s.twm.ptr + 1) % 256 ∧ t.mem = s.mem := by
  refine ⟨_, _, rfl, ?_, rfl, ?_⟩
  · simp only [State.modTwm, List.length_append, List.length_cons, List.length_nil, apply_ite State.twm, endAlert_twm,
      State.set_twm, ite_self, apply_ite TwM.out]
  · simp only [State.modTwm, apply_ite State.mem, endAlert_mem, State.set_mem, ite_self]

theorem twReads_result (n : Nat) : ∀ (s : State) (first : Bool) (latch : Option (Nat × List Byte)),
    (s.twReads first latch n).twm.out.length = s.twm.out.length + n ∧
    (s.twReads first latch n).twm.ptr = (if n = 0 then s.twm.ptr else (s.twm.ptr + n) % 256) ∧
    (s.twReads first latch n).mem = s.mem := by
  induction n with
  | zero => exact fun s first latch => ⟨rfl, rfl, rfl⟩
  | succ n ih =>
    intro s first latch
    obtain ⟨t, l, heq, hout, hptr, hmem⟩ := twReads_step (s := s) first latch n
    obtain ⟨iout, iptr, imem⟩ := ih t false l
    rw [heq]
    refine ⟨iout.trans (by omega), iptr.trans ?_, imem.trans hmem⟩
    rw [hptr, if_neg (Nat.succ_ne_zero n)]
    split <;> omega

/-- A write at the pointer 0xFC submits, releases, or does nothing (R427). -/
theorem twWrite_command (hptr : s.twm.ptr = 0xFC) (b : Byte) : s.twWrite b =
    (if b = 1 then s.mbxSubmit else if b = 2 then s.mbxRelease else s).modTwm fun t => { t with ptr := 0xFD } := by
  simp only [State.twWrite, hptr]
  rfl

/-- The window's low byte waits for its high byte. -/
theorem twWrite_low (hptr : s.twm.ptr = 0xFE) (b : Byte) :
    s.twWrite b = s.modTwm fun t => { t with wlow := some b.toNat, ptr := 0xFF } := by
  simp only [State.twWrite, hptr]
  rfl

theorem twWrite_high (hptr : s.twm.ptr = 0xFF) (b : Byte) : s.twWrite b =
    s.modTwm fun t => { t with win := b.toNat * 256 + t.wlow.getD (s.twm.win % 256), wlow := none, ptr := 0 } := by
  simp only [State.twWrite, hptr]
  rfl

/-- The window as two bytes at 0xFE set it. -/
theorem twWrite_window (p b : Byte) : [p, b].foldl State.twWrite (pointedAt 0xFE s) =
    s.modTwm fun t => { t with win := b.toNat * 256 + p.toNat, wlow := none, ptr := 0 } := by
  rw [List.foldl_cons, twWrite_low rfl, List.foldl_cons, twWrite_high rfl, List.foldl_nil]
  rfl

end

theorem mailboxTarget : Claims.MailboxTarget := by
  intro p b l n s hpor at'
  refine ⟨rfl, execTwMWrite_cons hpor p [], execTwMWrite_cons hpor p l, ?_, ?_, ?_, ?_⟩
  · exact (execTwMWrite_cons hpor _ _).trans (congrArg _ (twWrite_command rfl 1))
  · exact (execTwMWrite_cons hpor _ _).trans (congrArg _ (twWrite_command rfl 2))
  · exact ⟨_, (execTwMWrite_cons hpor _ _).trans (congrArg _ (twWrite_window p b)), rfl, rfl, rfl⟩
  · obtain ⟨hout, hptr, hmem⟩ := twReads_result n (s.modTwm fun t => { t with out := [] }) true none
    exact ⟨_, next_if_neg _ _ (by simp [hpor]), hout.trans (Nat.zero_add n), hptr, hmem⟩

theorem mailboxCommands : Claims.MailboxCommands := by
  intro s hs
  refine ⟨fun h => next_if_pos _ _ h, fun h => next_if_neg _ _ (not_not.2 h), fun h => next_if_pos _ _ h, fun h hnil => ?_,
    fun h f q hcons => ?_⟩
  · refine ⟨(s.modTwm fun w => { w with resp := [] }).set F.TW_STAT.MBX 0, (next_if_neg _ _ (not_not.2 h)).trans ?_,
      (reads_set (s := s.modTwm _) (State.wf_rwf hs) _ 0 rfl rfl).get, rfl⟩
    rw [hnil]
  · refine (next_if_neg _ _ (not_not.2 h)).trans ?_
    rw [hcons]

/-! ### Alerts (R429, R430) -/

section
variable {s : State} {retry : Bool}

/-- An attempt of this kind is due. -/
def State.alertDue (s : State) (retry : Bool) : Bool :=
  s.is F.TW_STAT.ALERT_PEND && s.is F.TW_ALERT.EN && !s.twm.stuck && (s.twm.tries != 0) == retry

theorem alertDue_iff : s.alertDue retry = true ↔ s.is F.TW_STAT.ALERT_PEND = true ∧ s.is F.TW_ALERT.EN = true ∧
    s.twm.stuck = false ∧ (s.twm.tries ≠ 0 ↔ retry = true) := by
  cases retry <;> simp [State.alertDue, and_assoc]

theorem exec_alertTry (lost ack : Bool) :
    (if retry then exec (.alertRetry lost ack) s else exec (.alertSend lost ack) s) = .next (s.alertTry retry lost ack) := by
  cases retry <;> rfl

theorem alertTry_not_due (h : ¬ s.alertDue retry = true) (lost ack : Bool) : s.alertTry retry lost ack = s :=
  if_pos (show (!s.alertDue retry) = true by simp [h])

section
variable (h : s.alertDue retry = true)
include h

theorem alertTry_due (lost ack : Bool) : s.alertTry retry lost ack =
    if lost then s.set F.TW_LATCH.ARB_LOST 1
    else if ack then (s.modTwm fun t => { t with sent := t.sent ++ [s.alertMsg] }).endAlert
    else
      let left := s.get F.TW_STAT.ALERT_LEFT - b2n retry
      let s1 := (s.modTwm fun t => { t with tries := t.tries + 1 }).set F.TW_STAT.ALERT_LEFT left
      if left = 0 then s1.endAlert.set F.TW_LATCH.ALERT_FAIL 1 else s1 :=
  if_neg (show ¬ (!s.alertDue retry) = true by simp [h])

theorem alertDue_pending : s.get F.TW_STAT.ALERT_PEND = 1 := by
  have hpend : s.get F.TW_STAT.ALERT_PEND ≠ 0 := by simpa [State.is] using (alertDue_iff.1 h).1
  have hlt : s.get F.TW_STAT.ALERT_PEND < 2 := Nat.mod_lt _ (by decide)
  omega

end

/-- After an attempt that was not acknowledged. -/
def unanswered (s : State) (left : Nat) : State :=
  (s.modTwm fun t => { t with tries := t.tries + 1 }).set F.TW_STAT.ALERT_LEFT left

/-- A pending alert ends. -/
theorem endAlert_ends (hs : s.rwf) (h : s.get F.TW_STAT.ALERT_PEND = 1) :
    Reads F.TW_STAT.ALERT_PEND 0 s.endAlert ∧ Reads F.TW_STAT.ALERT_LEFT 0 s.endAlert := by
  have hend : s.endAlert = (s.set F.TW_STAT.ALERT_PEND 0).set F.TW_STAT.ALERT_LEFT 0 := if_pos (by simp [State.is, h])
  rw [hend]
  exact ⟨(reads_set hs _ 0 rfl rfl).set_apart _ _ rfl, reads_set (State.set_rwf _ _ _ hs) _ 0 rfl rfl⟩

end

theorem alerts : Claims.Alerts := by
  intro retry s hs try' due left
  have hwf := State.wf_rwf hs
  have htry : ∀ lost ack, try' lost ack = .next (s.alertTry retry lost ack) := exec_alertTry
  refine ⟨fun h lost ack => (htry lost ack).trans (congrArg _ (alertTry_not_due (fun hd => h (alertDue_iff.1 hd)) lost ack)),
    fun h => ?_⟩
  have hdue := alertDue_iff.2 h
  have hpend := alertDue_pending hdue
  have hleft : s.get F.TW_STAT.ALERT_LEFT - b2n retry = left := by cases retry <;> rfl
  refine ⟨fun ack => (htry true ack).trans (congrArg _ (alertTry_due hdue true ack)), ?_, ?_⟩
  · obtain ⟨hended, hzero⟩ := endAlert_ends (s := s.modTwm fun t => { t with sent := t.sent ++ [s.alertMsg] }) hwf hpend
    exact ⟨_, (htry false true).trans (congrArg _ (alertTry_due hdue false true)), hended.get, hzero.get, endAlert_twm _⟩
  · have hs1 : Reads F.TW_STAT.ALERT_PEND 1 (unanswered s left) :=
      Reads.set_apart (s := s.modTwm _) ⟨hwf, hpend⟩ F.TW_STAT.ALERT_LEFT left rfl
    have heq : s.alertTry retry false false =
        if left = 0 then (unanswered s left).endAlert.set F.TW_LATCH.ALERT_FAIL 1 else unanswered s left := by
      rw [alertTry_due hdue, hleft]
      rfl
    refine ⟨_, (htry false false).trans (congrArg _ heq), ?_, fun hne => ?_, fun hz => ?_⟩
    · split
      · exact endAlert_twm _
      · rfl
    · have hlt : s.get F.TW_STAT.ALERT_LEFT < 2 ^ 4 := Nat.mod_lt _ (by decide)
      have hfits : left % 2 ^ F.TW_STAT.ALERT_LEFT.width = left := Nat.mod_eq_of_lt (Nat.lt_of_le_of_lt (Nat.sub_le _ _) hlt)
      rw [if_neg hne]
      exact ⟨(reads_set (s := s.modTwm _) hwf F.TW_STAT.ALERT_LEFT left rfl hfits).get, hs1.get⟩
    · obtain ⟨hended, hzero⟩ := endAlert_ends hs1.rwf hs1.get
      rw [if_pos hz]
      exact ⟨(hended.set_other _ _ (by decide)).get, (reads_set hended.rwf _ 1 rfl rfl).get⟩

/-! ### Bus clears and the controllers TW_0 to TW_2 (R433, R434) -/

section
variable {s : State}

theorem twData_rwf (n : Nat) (l : List Byte) : ∀ (k : Nat) (s : State), s.rwf → (s.twData n k l).rwf := by
  induction l with
  | nil => exact fun _ _ h => h
  | cons b l ih => exact fun k s h => ih _ _ (State.set_rwf _ _ _ h)

/-- The word holds a value that a controller does not take. -/
def twBad (w : Word) : Prop := bitsOf w 30 29 = 3 ∨ 32 < bitsOf w 13 8 ∨ 32 < bitsOf w 5 0

theorem twCtrl_refused {n : Nat} {w : Word} (h : twBad w ∨ (bitOf w 31 = true ∧ s.is (F.TWN_STAT.BUSY n) = true)) :
    s.twCtrl n w = s.set (F.TWN_STAT.CFG_REJ n) 1 := by
  simp only [State.twCtrl]
  rcases h with h | ⟨hgo, hbusy⟩
  · rw [if_pos (by simpa [twBad, or_assoc] using h)]
  · rw [hgo, hbusy]
    split <;> rfl

theorem twCtrl_taken {n : Nat} {w : Word} (hbad : ¬ twBad w) (h : (bitOf w 31 && s.is (F.TWN_STAT.BUSY n)) = false) :
    s.twCtrl n w = if bitOf w 31 then (s.wr (R.TWN_CTRL n) (w &&& 0x607F3F3F)).set (F.TWN_STAT.BUSY n) 1
      else s.wr (R.TWN_CTRL n) (w &&& 0x607F3F3F) := by
  refine (if_neg ?_).trans (if_neg (by simp [h]))
  simpa [twBad, or_assoc] using hbad

end

theorem twoWireControllers : Claims.TwoWireControllers := by
  intro rq freed n w r s hs bad rej
  have hwf := State.wf_rwf hs
  refine ⟨fun h => ⟨next_if_pos _ _ h, next_if_pos _ _ h⟩, fun h => next_if_pos _ _ (by simpa using h),
    fun hp hstuck => next_if_neg _ _ (by simp [hp, hstuck]), ⟨_, rfl, (reads_set (s := s.modTwm _) hwf _ 1 rfl rfl).get, rfl⟩,
    fun h => ⟨fun hrej => ?_, fun hok hgo hidle => ?_, fun hok hgo => ?_⟩, fun h => next_if_pos _ _ (by simp [h]),
    fun h => ⟨_, next_if_neg _ _ (by simp [h]), ?_⟩⟩
  · exact (next_if_pos _ _ h).trans (congrArg _ (twCtrl_refused hrej))
  · refine ⟨_, (next_if_pos _ _ h).trans (congrArg _ ((twCtrl_taken hok (by simp [hidle])).trans (if_pos hgo))),
      (reads_set (s.wr_rwf _ _ hwf) _ 1 rfl rfl).get, ?_⟩
    exact (State.set_rd_other _ _ _ _ (by simp only [R.TWN_CTRL, F.TWN_STAT.BUSY, R.TWN_STAT]; omega)).trans (s.rd_wr _ _ hwf)
  · exact (next_if_pos _ _ h).trans (congrArg _ ((twCtrl_taken hok (by simp [hgo])).trans (if_neg (by simp [hgo]))))
  · have hdata := twData_rwf n (r.bytes.take (s.get (F.TWN_CTRL.RLEN n))) 0 s hwf
    have hbusy := reads_set hdata (F.TWN_STAT.BUSY n) 0 rfl rfl
    have hdone := reads_set hbusy.rwf (F.TWN_STAT.DONE n) 1 rfl rfl
    have hfits : (r.code : Nat) % 2 ^ 8 = r.code := Nat.mod_eq_of_lt (Nat.lt_trans r.code.2 (by decide))
    have hcode := reads_set hdone.rwf (F.TWN_STAT.RESULT n) r.code rfl hfits
    exact ⟨(((hbusy.set_apart _ _ rfl).set_apart _ _ rfl).set_apart _ _ rfl).get,
      ((hdone.set_apart _ _ rfl).set_apart _ _ rfl).get, (hcode.set_apart _ _ rfl).get,
      (reads_set hcode.rwf (F.TWN_STAT.COUNT n) r.count rfl (Nat.mod_eq_of_lt r.count.2)).get⟩

/-- Settles O47: a sync steps or slews device time; the bytes of a transfer go one by one to the pointer; an alert is sent
again while retries are left; and a controller takes GO only where it is idle. -/
theorem deviceTimeAndTwoWire : Obligations.DeviceTimeAndTwoWire :=
  ⟨deviceTimeFollows, mailboxTarget, mailboxCommands, alerts, twoWireControllers⟩

end Sys2Proof.Machine
end

section
/-!
The fault collector (R437 to R446): how reports reach the hub, which the collector takes, what the record of a report
leaves, and the end of a reaction.
-/
namespace Sys2Proof.Machine

/-! ### Reports reach the hub (R439) -/

section
variable {s : State} {src : Fin 384}

theorem faultPairMessage_of_hub (h : srcLink src = none) : exec (.faultPairMessage src) s = .next s := by
  have hexec : exec (.faultPairMessage src) s = execFaultPairMessage src s := rfl
  rw [hexec, execFaultPairMessage, h]

theorem faultPairMessage_of_die {l : Nat} (h : srcLink src = some l) : exec (.faultPairMessage src) s =
    .next (if s.linkDown l then s
      else { s with reports := s.reports.map fun r => if r.src == src.val then { r with atHub := true } else r }) := by
  have hexec : exec (.faultPairMessage src) s = execFaultPairMessage src s := rfl
  rw [hexec, execFaultPairMessage, h]

end

theorem reportsReachTheHub : Claims.ReportsReachTheHub := by
  intro src die s
  refine ⟨faultPairMessage_of_hub, fun l hl hdown => (faultPairMessage_of_die hl).trans (next_if_pos _ _ hdown),
    fun l hl hup => ⟨_, (faultPairMessage_of_die hl).trans (next_if_neg _ _ (by simp [hup])), rfl, List.length_map _,
      fun r hr hsrc => ?_, fun r hr hsrc => ?_⟩,
    fun hdown => next_if_pos _ _ hdown, fun hup => ⟨_, next_if_neg _ _ (by simp [hup]), rfl, fun r hr =>
      ⟨fun hlink hcond => ?_, fun hlink => ?_⟩⟩⟩
  · obtain ⟨x, -, rfl⟩ := List.mem_map.1 hr
    by_cases hx : x.src = src.val <;> simp_all
  · exact List.mem_map.2 ⟨r, hr, if_neg (by simpa using hsrc)⟩
  · exact List.mem_map.2 ⟨r, hr, if_pos (by simp [hlink, hcond])⟩
  · exact List.mem_map.2 ⟨r, hr, if_neg (by simp [hlink])⟩

/-! ### The collector takes a report (R442, R443) -/

theorem collectorReport_idle {s : State} (h : s.reports.find? (·.atHub) = none) : exec .collectorReport s = .next s := by
  have hexec : exec .collectorReport s = execCollectorReport s := rfl
  rw [hexec, execCollectorReport, h]

theorem collectorReport_takes {s : State} {r : Report} (h : s.reports.find? (·.atHub) = some r) : exec .collectorReport s =
    .next (if s.collDead || s.stale r || s.reacting (fenceDomain r.src) then { s with reports := s.reports.erase r }
      else State.acceptRep { s with reports := s.reports.erase r } r) := by
  have hexec : exec .collectorReport s = execCollectorReport s := rfl
  rw [hexec, execCollectorReport, h]

theorem collectorTakesReports : Claims.CollectorTakesReports := by
  intro r s rest
  refine ⟨fun h => collectorReport_idle (List.find?_eq_none.2 fun x hx => by simp [h x hx]), fun h => ⟨fun hno => ?_,
    fun hrec hreact hstale => (collectorReport_takes h).trans (next_if_neg _ _ (by simp [hrec, hreact, hstale]))⟩⟩
  refine (collectorReport_takes h).trans (next_if_pos _ _ ?_)
  rcases hno with h | h | h <;> simp [h]

/-! ### What an accepted report leaves (R442, R445, R446, Table 17-4) -/

section
variable {s : State} (r : Report)

/-- The reports counted of the source, this one included. -/
def reportCount (s : State) (r : Report) : Nat :=
  satU 32 (1 + match s.fltRecs.find? (fun x => x.src == r.src) with
    | some x => x.count
    | none => 0)

/-- The record of a report that asks for no reaction. -/
def newRecord (s : State) (r : Report) : FltRec :=
  { src := r.src, words := (s.incWrap F.FLT_SEQ.SEQ).recordWords r 0 0 (reportCount s r), count := reportCount s r }

/-- The state once the record is the source's latest. -/
def recorded (s : State) (r : Report) : State :=
  { s.incWrap F.FLT_SEQ.SEQ with fltRecs := newRecord s r :: s.fltRecs.filter fun x => x.src != r.src }

/-- The summary bit of a source. -/
def sumBit (src : Nat) : Fld := ⟨R.FLT_SUM (src / 32), src % 32, src % 32⟩

/-- The state once the record is in the log. -/
def logged (s : State) (r : Report) : State := (recorded s r).logRec 0x01 0 ((newRecord s r).words.take 14)

/-- The state once the summary bit is set. -/
def summed (s : State) (r : Report) : State := (logged s r).set (sumBit r.src) 1

theorem onlyEvents_record : OnlyEvents (summed s r) (s.record r 0 0) :=
  (onlyEvents_signal _ _ _ _).trans (onlyEvents_notice _ _ _ _)

/-- A reaction that orders nothing. -/
def plainReaction (r : Report) : Reaction := { domain := fenceDomain r.src, code := 0, rep := r }

/-- The state once a reaction that orders nothing is in progress in the report's domain. -/
def reactsTo (s : State) (r : Report) : State :=
  let l := s.reacts ++ [plainReaction r]
  State.set { s with reacts := l } F.FLT_STAT.REACTING l.length

theorem acceptRep_plain (h0 : r.src ≠ 340) (h1 : r.src ≠ 341) (h5 : r.src ≠ 365) (hforced : r.forced = false)
    (hreact : (condOf r.src r.cond r.d1).2.2 = 0) (hsus : s.suspects.contains r.src = false) :
    s.acceptRep r = reactsTo ((s.record r 0 0).markRec r) r := by
  have horder : ∀ t : State, t.order r 0 = t := fun t => by simp [State.order, h0, h1, h5, hforced]
  simp only [State.acceptRep, hsus, hreact, horder, reactsTo, plainReaction, ne_eq, not_true_eq_false, decide_false,
      Bool.false_and,
    Bool.false_eq_true, if_false, ite_self]

/-! #### The log (R482) -/

theorem logRec_rd (s : State) (kind flags : Nat) (data : List Word) {a : Nat} (hstat : a ≠ R.LOG_STAT) (hdrop : a ≠
    R.LOG_DROP) :
    (s.logRec kind flags data).rd a = s.rd a := by
  simp only [State.logRec]
  split
  · exact s.set_rd_other _ _ _ hdrop
  · exact s.set_rd_other _ _ _ hstat

theorem logRec_wf (s : State) (kind flags : Nat) (data : List Word) (h : s.wf = true) : (s.logRec kind flags data).wf = true
    := by
  simp only [State.logRec]
  split
  · exact s.set_wf _ _ h
  · exact s.set_wf _ _ h

theorem logRec_reacts (s : State) (kind flags : Nat) (data : List Word) : (s.logRec kind flags data).reacts = s.reacts := by
  simp only [State.logRec]
  split <;> rfl

theorem logRec_fltRecs (s : State) (kind flags : Nat) (data : List Word) : (s.logRec kind flags data).fltRecs = s.fltRecs := by
  simp only [State.logRec]
  split <;> rfl

theorem OnlyEvents.reacts {s t : State} (h : OnlyEvents s t) : t.reacts = s.reacts := by
  have hrest := congrArg State.reacts h.rest
  exact hrest

theorem OnlyEvents.fltRecs {s t : State} (h : OnlyEvents s t) : t.fltRecs = s.fltRecs := by
  have hrest := congrArg State.fltRecs h.rest
  exact hrest

/-! #### The parts of an accepted report -/

theorem logged_wf (h : s.wf = true) : (logged s r).wf = true := logRec_wf _ _ _ _ (s.set_wf _ _ h)

theorem record_wf (h : s.wf = true) : (s.record r 0 0).wf = true :=
  (onlyEvents_record r).wf (State.set_wf _ _ _ (logged_wf r h))

theorem record_reacts : (s.record r 0 0).reacts = s.reacts :=
  (onlyEvents_record r).reacts.trans (logRec_reacts (recorded s r) _ _ _)

theorem record_fltRecs : (s.record r 0 0).fltRecs = newRecord s r :: s.fltRecs.filter fun x => x.src != r.src :=
  (onlyEvents_record r).fltRecs.trans (logRec_fltRecs (recorded s r) _ _ _)

section
variable {r} (hsrc : r.src < 384)
include hsrc

theorem sumBit_outside : Outside (sumBit r.src).addr := by
  simp only [Outside, sumBit, R.FLT_SUM]
  omega

theorem record_sumBit (h : s.wf = true) : (s.record r 0 0).get (sumBit r.src) = 1 := by
  have hset : Reads (sumBit r.src) 1 (summed s r) :=
    reads_bit (s := logged s r) (State.wf_rwf (logged_wf r h)) (Nat.mod_lt _ (by decide)) (by decide)
  exact ((onlyEvents_record r).get _ (sumBit_outside hsrc)).trans hset.get

theorem record_seq (h : s.wf = true) : (s.record r 0 0).get F.FLT_SEQ.SEQ = (s.get F.FLT_SEQ.SEQ + 1) % 2 ^ 32 := by
  have hseq : Reads F.FLT_SEQ.SEQ ((s.get F.FLT_SEQ.SEQ + 1) % 2 ^ 32) (s.incWrap F.FLT_SEQ.SEQ) :=
    Reads.incWrap ⟨State.wf_rwf h, rfl⟩ rfl
  have hlog : (logged s r).get F.FLT_SEQ.SEQ = (recorded s r).get F.FLT_SEQ.SEQ :=
    get_congr _ (logRec_rd _ _ _ _ (by decide) (by decide))
  have hset : (summed s r).get F.FLT_SEQ.SEQ = (logged s r).get F.FLT_SEQ.SEQ := by
    refine State.get_set_other _ _ _ _ ?_
    simp only [F.FLT_SEQ.SEQ, sumBit, R.FLT_SEQ, R.FLT_SUM]
    omega
  exact ((onlyEvents_record r).get _ ⟨.inl (by decide), .inl (by decide)⟩).trans (hset.trans (hlog.trans hseq.get))

end

/-- The first word of a record holds the source, the class, the kind and the condition (Table 17-4). -/
theorem newRecord_head (hsrc : r.src < 384) (hcond : r.cond < 256) (hcls : (condOf r.src r.cond r.d1).1 < 4)
    (hforced : r.forced = false) :
    let w := (newRecord s r).words.getD 0 0
    bitsOf w 15 0 = r.src ∧ bitsOf w 19 18 = (condOf r.src r.cond r.d1).1 ∧ bitsOf w 31 24 = r.cond ∧ bitOf w 17 = false := by
  have hedge : b2n (condOf r.src r.cond r.d1).2.1 < 2 := by cases (condOf r.src r.cond r.d1).2.1 <;> decide
  intro w
  have hw : w = BitVec.ofNat 32 (r.cond * 2 ^ 24 + (condOf r.src r.cond r.d1).1 * 2 ^ 18 + b2n r.forced * 2 ^ 17 +
    b2n (condOf r.src r.cond r.d1).2.1 * 2 ^ 16 + r.src) := rfl
  have hbit : bitsOf w 17 17 = 0 ↔ bitOf w 17 = false := by
    rw [bitsOf_bit, bitOf]
    cases w.getLsbD 17 <;> decide
  rw [← hbit]
  simp only [hw, hforced, b2n, bitsOf, BitVec.toNat_ofNat, Nat.shiftRight_eq_div_pow, Bool.false_eq_true, if_false] at hedge ⊢
  omega

/-! #### The reaction in progress -/

theorem reactsTo_get (t : State) {f : Fld} (h : f.addr ≠ R.FLT_STAT) : (reactsTo t r).get f = t.get f :=
  State.get_set_other _ F.FLT_STAT.REACTING f _ h

theorem reactsTo_reacting {t : State} (h : t.rwf) :
    (reactsTo t r).get F.FLT_STAT.REACTING = (t.reacts.length + 1) % 2 ^ F.FLT_STAT.REACTING.width := by
  have hset := State.get_set { t with reacts := t.reacts ++ [plainReaction r] } F.FLT_STAT.REACTING
    (t.reacts ++ [plainReaction r]).length h (by decide) (by decide)
  exact hset.trans (congrArg (· % _) List.length_append)

theorem reactsTo_reacts (t : State) : (reactsTo t r).reacts = t.reacts ++ [plainReaction r] := rfl

theorem reactsTo_fltRecs (t : State) : (reactsTo t r).fltRecs = t.fltRecs := rfl

theorem markRec_rwf {t : State} (h : t.rwf) : (t.markRec r).rwf := h

theorem markRec_get (t : State) (f : Fld) : (t.markRec r).get f = t.get f := rfl

theorem markRec_reacts (t : State) : (t.markRec r).reacts = t.reacts := rfl

theorem markRec_fltRecs (t : State) : (t.markRec r).fltRecs = t.fltRecs := rfl

end

theorem acceptedReports : Claims.AcceptedReports := by
  intro r s hs hsrc h0 h1 h5 hforced hreact hsus u k
  have hu : u = reactsTo ((s.record r 0 0).markRec r) r := acceptRep_plain r h0 h1 h5 hforced hreact hsus
  have hsum : R.FLT_SUM (r.src / 32) ≠ R.FLT_STAT := by
    simp only [R.FLT_SUM, R.FLT_STAT]
    omega
  have hrecs : u.fltRecs = newRecord s r :: s.fltRecs.filter fun x => x.src != r.src := by
    rw [hu, reactsTo_fltRecs, markRec_fltRecs, record_fltRecs]
  have hnew : newRecord s r ∈ u.fltRecs := by
    rw [hrecs]
    exact List.mem_cons_self
  refine ⟨?_, ?_, ?_, ?_, ⟨newRecord s r, hnew, rfl, rfl, fun hc hk => newRecord_head r hsrc hc hk hforced⟩, fun x hx => ?_⟩
  · rw [hu, reactsTo_get r _ hsum, markRec_get]
    exact record_sumBit hsrc hs
  · rw [hu, reactsTo_get r _ (by decide), markRec_get]
    exact record_seq hsrc hs
  · rw [hu, reactsTo_reacts, markRec_reacts, record_reacts]
    rfl
  · rw [hu, reactsTo_reacting r (markRec_rwf r (State.wf_rwf (record_wf r hs))), markRec_reacts,
      record_reacts]
  · rw [hrecs] at hx
    rcases List.mem_cons.1 hx with rfl | hx
    · exact .inl rfl
    · exact .inr (List.mem_filter.1 hx).1

/-! ### A reaction completes (R442, R444) -/

theorem reactionComplete_idle {s : State} {d : Fin 160} (h : s.reacts.find? (fun y => y.domain == d.val) = none) :
    exec (.reactionComplete d) s = .next s := by
  have hexec : exec (.reactionComplete d) s = execReactionComplete d s := rfl
  rw [hexec, execReactionComplete, h]

theorem reactionComplete_ends {s : State} {d : Fin 160} {x : Reaction}
    (h : s.reacts.find? (fun y => y.domain == d.val) = some x) : exec (.reactionComplete d) s =
      let l := s.reacts.erase x
      let t := State.set { s with reacts := l } F.FLT_STAT.REACTING l.length
      .next (((if x.code = 1 ∨ x.code = 2 then t.fenceDone x else t).stopCheck).reexamine d) := by
  have hexec : exec (.reactionComplete d) s = execReactionComplete d s := rfl
  rw [hexec, execReactionComplete, h]

/-- A domain in which every condition is recorded or suspect accepts nothing. -/
theorem reexamine_none {s : State} {d : Nat}
    (h : ∀ a ∈ s.asserts, a.recorded = true ∨ fenceDomain a.src ≠ d ∨ a.src ∈ s.suspects) : s.reexamine d = s := by
  have hnil : (s.asserts.filter fun a => !a.recorded && fenceDomain a.src == d && !s.suspects.contains a.src) = [] := by
    refine List.filter_eq_nil_iff.2 fun a ha => ?_
    rcases h a ha with h | h | h <;> simp [h]
  rw [State.reexamine, hnil]
  rfl

theorem reactionsComplete : Claims.ReactionsComplete := by
  intro d x s
  refine ⟨fun h => reactionComplete_idle (List.find?_eq_none.2 fun y hy => by simpa using h y hy), fun h => ?_,
    fun h => reexamine_none h⟩
  intro l t
  refine ⟨fun h1 h2 => (reactionComplete_ends h).trans ?_, fun hfence => (reactionComplete_ends h).trans ?_⟩
  · exact congrArg (fun u : State => (Host.Outcome.next (u.stopCheck.reexamine d) : Out)) (if_neg (not_or.2 ⟨h1, h2⟩))
  · exact congrArg (fun u : State => (Host.Outcome.next (u.stopCheck.reexamine d) : Out)) (if_pos hfence)

/-- Settles O48: what is at the hub is taken unless its domain reacts; an accepted report leaves its record, its summary bit
and a reaction, whose end leaves the domain. -/
theorem faultReportsAndReactions : Obligations.FaultReportsAndReactions :=
  ⟨reportsReachTheHub, collectorTakesReports, acceptedReports, reactionsComplete⟩

end Sys2Proof.Machine
end

section
/-!
Suspect pairs and the halves of the collector (R440, R441), summary bits and trips (R447, R448), forced faults (R449), PLLs
and references (R451).
-/
namespace Sys2Proof.Machine

/-! ### Conditions that begin and end -/

theorem report_asserts (s : State) (r : Report) : (s.report r).asserts = s.asserts := by
  have hrest := congrArg State.asserts (told_report s r).rest
  exact hrest

/-- After assertL the condition holds. -/
theorem assertL_holds (s : State) (src cond d0 : Nat) (d1 : Word) :
    ∃ a ∈ (s.assertL src cond d0 d1).asserts, a.src = src ∧ a.cond = cond ∧ a.d0 = d0 := by
  simp only [State.assertL]
  split
  · rename_i h
    obtain ⟨a, ha, hmatch⟩ := List.any_eq_true.1 h
    simp only [Bool.and_eq_true, beq_iff_eq] at hmatch
    obtain ⟨⟨⟨hsrc, hcond⟩, hd0⟩, -⟩ := hmatch
    exact ⟨a, ha, hsrc, hcond, hd0⟩
  · rw [report_asserts]
    exact ⟨_, List.mem_append_right _ List.mem_cons_self, rfl, rfl, rfl⟩

/-- After deassertL only forced holds of the condition are left. -/
theorem deassertL_forced {s : State} {src cond : Nat} {a : Assert} (ha : a ∈ (s.deassertL src cond).asserts)
    (hsrc : a.src = src) (hcond : a.cond = cond) : a.forced = true := by
  simpa [hsrc, hcond] using (List.mem_filter.1 ha).2

/-- A fold whose steps keep a part of the state keeps it. -/
theorem foldl_keeps {α β : Type} (p : State → β) {g : State → α → State} (hg : ∀ s a, p (g s a) = p s) (l : List α) :
    ∀ s, p (l.foldl g s) = p s := by
  induction l with
  | nil => exact fun _ => rfl
  | cons a l ih => exact fun s => (ih _).trans (hg s a)

/-! ### Suspect pairs and the collector's halves (R440, R441) -/

section
variable {s : State} (src : Fin 384)

/-- What a disagreement of a pair leaves in FLT_RAIL. -/
def railMarked (s : State) (src : Fin 384) : State :=
  ((s.set F.FLT_RAIL.VALID 1).inc F.FLT_RAIL.COUNT).set F.FLT_RAIL.SOURCE src

theorem railMarked_reads (h : s.rwf) :
    Reads F.FLT_RAIL.VALID 1 (railMarked s src) ∧ Reads F.FLT_RAIL.SOURCE src (railMarked s src) := by
  have hvalid := reads_set h F.FLT_RAIL.VALID 1 rfl rfl
  have hcount := hvalid.set_apart F.FLT_RAIL.COUNT (satU F.FLT_RAIL.COUNT.width ((s.set F.FLT_RAIL.VALID 1).get
      F.FLT_RAIL.COUNT + 1)) rfl
  exact ⟨hcount.set_apart _ _ rfl,
    reads_set hcount.rwf _ _ rfl (Nat.mod_eq_of_lt (Nat.lt_trans src.2 (show 384 < 2 ^ 9 by decide)))⟩

/-- The pair is suspect. -/
def suspected (s : State) (src : Fin 384) : State := { railMarked s src with suspects := s.suspects ++ [src.val] }

theorem suspected_reads (h : s.rwf) :
    Reads F.FLT_RAIL.VALID 1 (suspected s src) ∧ Reads F.FLT_RAIL.SOURCE src (suspected s src) :=
  ⟨(railMarked_reads src h).1.of_regs rfl, (railMarked_reads src h).2.of_regs rfl⟩

theorem railDisagreement_new (h : src.val ∉ s.suspects) : exec (.railDisagreement src) s =
    .next ((suspected s src).assertL 354 1 src) := next_if_neg _ _ (by simpa using h)

theorem suspected_assertL (src' cond d0 : Nat) (d1 : Word) :
    ((suspected s src).assertL src' cond d0 d1).suspects = s.suspects ++ [src.val] := by
  have hrest := congrArg State.suspects (onlyEvents_assertL (suspected s src) src' cond d0 d1).rest
  exact hrest

theorem onlyEvents_resend (n : Nat) : OnlyEvents s (s.resend n) :=
  onlyEvents_foldl _ (fun _ _ => onlyEvents_ite (.refl _) (told_report _ _).events) _ _

theorem resend_regs (n : Nat) : (s.resend n).regs = s.regs :=
  foldl_keeps State.regs (fun s a => by split; exacts [rfl, report_regs _ _]) _ _

/-- The state of a collector half. -/
def halfFld (h : Nat) : Fld := if h = 0 then F.FLT_STAT.HALF_0 else F.FLT_STAT.HALF_1

theorem halfFld_inWord (h : Nat) : decide ((halfFld h).lo ≤ (halfFld h).hi ∧ (halfFld h).hi < 32) = true := by
  simp only [halfFld]
  split <;> rfl

theorem one_mod_halfFld (h : Nat) : 1 % 2 ^ (halfFld h).width = 1 := by
  simp only [halfFld]
  split <;> rfl

theorem collFence_first {h : Nat} (self : Bool) (hh : s.get (halfFld h) = 0) (hother : s.get (halfFld (1 - h)) = 0) :
    s.collFence h self = (s.set (halfFld h) 1).assertL (352 + h) (if self then 2 else 1) :=
  (if_neg (not_not.2 hh)).trans (if_neg (not_not.2 hother))

theorem collFence_last {h : Nat} (self : Bool) (hh : s.get (halfFld h) = 0) (hother : s.get (halfFld (1 - h)) ≠ 0) :
    s.collFence h self = { s with collDead := true } := (if_neg (not_not.2 hh)).trans (if_pos hother)

theorem collectorMismatch_self (h : Fin 2) : exec (.collectorMismatch (some h)) s = .next (s.collFence h true) := rfl

theorem OnlyEvents.collDead {s t : State} (h : OnlyEvents s t) : t.collDead = s.collDead := by
  have hrest := congrArg State.collDead h.rest
  exact hrest

end

theorem suspectsAndHalves : Claims.SuspectsAndHalves := by
  intro src h s hs half
  have hwf := State.wf_rwf hs
  refine ⟨fun hin => next_if_pos _ _ (by simpa using hin), fun hout => ?_, fun hout => next_if_pos _ _ (by simpa using hout),
    fun hin => ?_, fun hh hother => ?_, fun hh hother => (collectorMismatch_self h).trans (congrArg _ (collFence_last true hh
        hother)), fun hone => ?_⟩
  · obtain ⟨hvalid, hsource⟩ := suspected_reads src hwf
    exact ⟨_, railDisagreement_new src hout, suspected_assertL src 354 1 src 0, (hvalid.assertL 354 1 src 0).get,
      (hsource.assertL 354 1 src 0).get, assertL_holds _ _ _ _ _⟩
  · let t : State := State.deassertD { s with suspects := s.suspects.filter (· != src.val) } 354 1 src
    have hsus : (t.resend src).suspects = s.suspects.filter (· != src.val) := congrArg State.suspects (onlyEvents_resend
        src.val).rest
    refine ⟨t.resend src, next_if_neg _ _ (by simpa using hin), ?_, fun n hn => ?_, resend_regs src.val, (onlyEvents_resend
        src.val).mem⟩
    · rw [hsus]
      simp
    · rw [hsus]
      simp [hn]
  · exact ⟨_, (collectorMismatch_self h).trans (congrArg _ (collFence_first true hh hother)),
      ((reads_set hwf (halfFld h) 1 (halfFld_inWord h) (one_mod_halfFld h)).assertL (352 + h) 2 0 0).get,
      (onlyEvents_assertL (s.set (halfFld h) 1) (352 + h) 2 0 0).collDead⟩
  · exact next_if_pos _ _ (by simpa [State.is, half] using hone)

/-! ### Summary bits and trips (R447, R448) -/

section
variable {s : State} (k : Fin 12) (w : Word)

/-- A write of a 1 to the summary bit clears it: its source does not assert, and no link that is DOWN hides it. -/
def sumClears (s : State) (k : Fin 12) (w : Word) (i : Nat) : Bool :=
  bitOf w i && !s.asserts.any (fun a => a.src == 32 * k + i) && !(srcLink (32 * k + i)).any s.linkDown

theorem sumClears_iff (i : Nat) : sumClears s k w i = true ↔ bitOf w i = true ∧ (∀ a ∈ s.asserts, a.src ≠ 32 * k.val + i) ∧
    (∀ l, srcLink (32 * k.val + i) = some l → s.linkDown l = false) := by
  cases h : srcLink (32 * k.val + i) <;> simp [sumClears, h, and_assoc]

/-- The write's effect on one bit. -/
def sumStep (k : Fin 12) (w : Word) (s : State) (i : Nat) : State :=
  if sumClears s k w i then s.set ⟨R.FLT_SUM k, i, i⟩ 0 else s

theorem sumStep_rwf (h : s.rwf) (i : Nat) : (sumStep k w s i).rwf := by
  rw [sumStep]
  split
  · exact s.set_rwf _ _ h
  · exact h

theorem sumStep_asserts (i : Nat) : (sumStep k w s i).asserts = s.asserts := by
  rw [sumStep]
  split <;> rfl

theorem sumStep_mem (s : State) (i : Nat) : (sumStep k w s i).mem = s.mem := by
  rw [sumStep]
  split <;> rfl

theorem sumStep_rd (i : Nat) {a : Nat} (ha : a ≠ R.FLT_SUM k) : (sumStep k w s i).rd a = s.rd a := by
  rw [sumStep]
  split
  · exact s.set_rd_other _ _ _ ha
  · rfl

theorem sumStep_sumClears (i j : Nat) : sumClears (sumStep k w s i) k w j = sumClears s k w j := by
  have hlink : (sumStep k w s i).linkDown = s.linkDown := by
    funext l
    refine congrArg (· == 0) (get_congr _ (sumStep_rd k w i ?_))
    simp only [F.FAB_LINK_STAT.STATE, R.FAB_LINK_STAT, R.FLT_SUM]
    omega
  rw [sumClears, sumClears, hlink, sumStep_asserts]

theorem sumStep_bit (h : s.rwf) {i j : Nat} (hi : i < 32) : (sumStep k w s j).get ⟨R.FLT_SUM k, i, i⟩ =
    if j = i ∧ sumClears s k w i = true then 0 else s.get ⟨R.FLT_SUM k, i, i⟩ := by
  rw [sumStep]
  by_cases hji : j = i
  · subst hji
    by_cases hc : sumClears s k w j = true
    · rw [if_pos hc, if_pos ⟨rfl, hc⟩]
      exact (reads_bit h hi (by decide)).get
    · rw [if_neg hc, if_neg (not_and_of_not_right _ hc)]
  · rw [if_neg (not_and_of_not_left _ hji)]
    split
    · exact State.get_set_apart s ⟨R.FLT_SUM k, j, j⟩ ⟨R.FLT_SUM k, i, i⟩ 0 h rfl (Nat.lt_or_gt_of_ne hji) (Nat.le_refl j)
        (Nat.le_refl i)
    · rfl

theorem foldl_sumStep_bit {i : Nat} (hi : i < 32) (l : List Nat) : ∀ s : State, s.rwf →
    (l.foldl (sumStep k w) s).get ⟨R.FLT_SUM k, i, i⟩ =
      if i ∈ l ∧ sumClears s k w i = true then 0 else s.get ⟨R.FLT_SUM k, i, i⟩ := by
  induction l with
  | nil => exact fun s _ => (if_neg (fun h => List.not_mem_nil h.1)).symm
  | cons j l ih =>
    intro s hs
    rw [List.foldl_cons, ih _ (sumStep_rwf k w hs j), sumStep_sumClears, sumStep_bit k w hs hi]
    by_cases hc : sumClears s k w i = true
    · by_cases hil : i ∈ l
      · simp [hc, hil]
      · by_cases hji : j = i
        · simp [hc, hji]
        · simp [hc, hil, hji, Ne.symm hji]
    · simp [hc]

/-- A fold in which one element only acts. -/
theorem foldl_only {α : Type} {g : State → α → State} {c : α} (hg : ∀ s a, a ≠ c → g s a = s) (s : State) :
    ∀ l : List α, l.Nodup → c ∈ l → l.foldl g s = g s c := by
  have hskip : ∀ (l : List α) (t : State), c ∉ l → l.foldl g t = t := by
    intro l
    induction l with
    | nil => exact fun _ _ => rfl
    | cons a l ih =>
      intro t hc
      rw [List.foldl_cons, hg t a (fun h => hc (h ▸ List.mem_cons_self))]
      exact ih t (fun h => hc (List.mem_cons_of_mem _ h))
  intro l
  induction l with
  | nil => exact fun _ hc => absurd hc List.not_mem_nil
  | cons a l ih =>
    intro hnodup hc
    obtain ⟨ha, hnodup⟩ := List.nodup_cons.1 hnodup
    by_cases hac : a = c
    · rw [List.foldl_cons, hac]
      exact hskip l _ (hac ▸ ha)
    · rw [List.foldl_cons, hg s a hac]
      exact ih hnodup ((List.mem_cons.1 hc).resolve_left (Ne.symm hac))

theorem bitOf_two_pow (c e : Fin 24) : bitOf (BitVec.ofNat 32 (2 ^ c.val)) e = decide (c = e) := by
  revert c e
  decide

theorem chClrWrite_one (c : Fin 24) : s.chClrWrite (BitVec.ofNat 32 (2 ^ c.val)) = (s.chClear c).2 := by
  refine (foldl_only (c := c) (fun t e he => ?_) s allCh (List.nodup_finRange 24) (mem_allCh c)).trans ?_
  · exact if_neg (ne_true_of_eq_false ((bitOf_two_pow c e).trans (decide_eq_false he.symm)))
  · exact if_pos ((bitOf_two_pow c c).trans (decide_eq_true rfl))

theorem chClear_idle {c : Fin 24} (h : (s.ch c).trip = 0) : s.chClear c = (true, s) := if_pos h

theorem chClear_tripped {c : Fin 24} (h : (s.ch c).trip ≠ 0) : s.chClear c =
    if (s.ch c).latchRd && decide ((i64 (s.rd64 (R.MS_I_LO c) (R.MS_I_HI c))).natAbs < 1000000000000) then
      (true, (((s.modCh c fun h => { h with trip := 0 }).deassertL (12 * c) 1).deassertL (12 * c) 2).reresolve c)
    else (false, s) := if_neg h

end

theorem summariesAndTrips : Claims.SummariesAndTrips := by
  intro rq k w c s hs h low
  refine ⟨fun hw => ⟨_, next_if_pos _ _ hw, foldl_keeps State.mem (sumStep_mem k w) _ s, fun i hi => ?_,
      fun a ha => foldl_keeps (State.rd · a) (fun t i => sumStep_rd k w i ha) _ s⟩,
    fun hw => ⟨(next_if_pos _ _ hw).trans (congrArg _ (foldl_fixed (fun e => if_neg (by simp [bitOf])) _)),
      (next_if_pos _ _ hw).trans (congrArg _ (chClrWrite_one c))⟩,
    fun htrip hread hlow => (chClear_tripped htrip).trans (if_pos ?_),
    fun htrip hno => (chClear_tripped htrip).trans (if_neg ?_), chClear_idle⟩
  · refine (foldl_sumStep_bit k w hi _ s (State.wf_rwf hs)).trans ?_
    simp only [List.mem_range, hi, true_and, sumClears_iff]
  · exact Bool.and_eq_true_iff.2 ⟨hread, decide_eq_true hlow⟩
  · intro hboth
    obtain ⟨hread, hlow⟩ := Bool.and_eq_true_iff.1 hboth
    rcases hno with hno | hno
    · exact Bool.false_ne_true (hno.symm.trans hread)
    · exact hno (of_decide_eq_true hlow)

/-! ### Forced faults (R449) -/

section
variable {s : State} (rq : Requester) (src : Fin 384)

/-- The force bit of a source. -/
def heldFld (src : Nat) : Fld := ⟨R.FLT_HELD (src / 32), src % 32, src % 32⟩

theorem forced_report (src : Nat) :
    (s.forced src).1.src = src ∧ (s.forced src).1.cond = 1 ∧ (s.forced src).1.forced = true := ⟨rfl, rfl, rfl⟩

theorem forced_regs (src : Nat) : (s.forced src).2.regs = s.regs := by
  simp only [State.forced]
  split <;> rfl

theorem forced_asserts (src : Nat) : (s.forced src).2.asserts = s.asserts := by
  simp only [State.forced]
  split <;> rfl

theorem src_not_beyond : ¬ 384 ≤ src.val := Nat.not_le.2 src.2

theorem force_pulse : s.force src 0 = (s.forced src).2.report (s.forced src).1 := by
  simp only [State.force, src_not_beyond src, decide_false, Bool.false_or]
  rfl

theorem force_hold_edge (h : (condOf src 1 0).2.1 = true) : s.force src 1 = s.force src 0 := by
  simp only [State.force, h, src_not_beyond src, decide_false, Bool.false_or, Bool.not_true, Bool.and_false]
  rfl

/-- The state with the hold of a forced condition. -/
def holding (s : State) (src : Nat) : State :=
  State.set { (s.forced src).2 with asserts := (s.forced src).2.asserts ++
    [{ src := src, cond := (s.forced src).1.cond, d0 := (s.forced src).1.d0, forced := true }] } (heldFld src) 1

/-- The state whose hold of a forced condition is released. -/
def released (s : State) (src : Nat) : State :=
  State.set { s with asserts := s.asserts.filter fun a => !(a.src == src && a.forced) } (heldFld src) 0

theorem holding_asserts (src : Nat) : (holding s src).asserts = s.asserts ++
    [{ src := src, cond := 1, d0 := (s.forced src).1.d0, forced := true }] :=
  congrArg (· ++ _) (forced_asserts src)

theorem holding_held (h : s.rwf) : Reads (heldFld src) 1 (holding s src) := by
  have hwf : State.rwf { (s.forced src).2 with asserts := (s.forced src).2.asserts ++
      [{ src := src, cond := (s.forced src).1.cond, d0 := (s.forced src).1.d0, forced := true }] } := by
    rw [State.rwf, forced_regs]
    exact h
  exact reads_bit hwf (Nat.mod_lt _ (by decide)) (by decide)

theorem released_asserts (src : Nat) : (released s src).asserts = s.asserts.filter fun a => !(a.src == src && a.forced) := rfl

theorem released_held (h : s.rwf) : Reads (heldFld src) 0 (released s src) := by
  have hwf : State.rwf { s with asserts := s.asserts.filter fun a => !(a.src == src && a.forced) } := h
  exact reads_bit hwf (Nat.mod_lt _ (by decide)) (by decide)

theorem force_hold (h : (condOf src 1 0).2.1 = false) (hheld : s.get (heldFld src) = 0) :
    s.force src 1 = (holding s src).report (s.forced src).1 := by
  have hno : s.is ⟨R.FLT_HELD (src / 32), src % 32, src % 32⟩ = false := by simpa [State.is, heldFld] using hheld
  simp only [State.force, h, hno, src_not_beyond src, decide_false, Bool.false_or]
  rfl

theorem force_held (h : (condOf src 1 0).2.1 = false) (hheld : s.get (heldFld src) = 1) : s.force src 1 = s := by
  have hyes : s.is ⟨R.FLT_HELD (src / 32), src % 32, src % 32⟩ = true := congrArg (· != 0) hheld
  simp only [State.force, h, hyes, src_not_beyond src, decide_false, Bool.false_or]
  rfl

theorem force_release : s.force src 2 = (released s src).stopCheck := (if_neg (by simp)).trans (if_pos rfl)

end

theorem forcedFaults : Claims.ForcedFaults := by
  intro rq src s hs hrq edge held
  have hwf := State.wf_rwf hs
  have hpulse : exec (.forcePulse rq src) s = .next (s.force src 0) := next_if_pos _ _ hrq
  have hhold : exec (.forceHold rq src) s = .next (s.force src 1) := next_if_pos _ _ hrq
  have hrelease : exec (.forceRelease rq src) s = .next (s.force src 2) := next_if_pos _ _ hrq
  refine ⟨hpulse.trans (congrArg _ (force_pulse src)), fun he => ?_,
    fun he h0 => ⟨_, hhold.trans (congrArg _ (force_hold src he h0)), ?_, ?_, fun a ha => ?_⟩,
    fun he h1 => ?_, ⟨released s src, hrelease.trans (congrArg _ (force_release src)),
      ?_, fun a ha hsrc => ?_, fun a ha hkept => ?_⟩, forced_report src⟩
  · rw [hhold, hpulse, force_hold_edge src he]
  · exact ((holding_held src hwf).of_regs (report_regs _ _)).get
  · rw [report_asserts, holding_asserts]
    exact ⟨_, List.mem_append_right _ List.mem_cons_self, rfl, rfl, rfl⟩
  · rw [report_asserts, holding_asserts]
    exact List.mem_append_left _ ha
  · rw [hhold, force_held src he h1]
  · exact (released_held src hwf).get
  · rw [released_asserts] at ha
    simpa [hsrc] using (List.mem_filter.1 ha).2
  · rw [released_asserts]
    refine List.mem_filter.2 ⟨ha, ?_⟩
    rcases hkept with h | h <;> simp [h]

/-! ### PLLs and references (R451) -/

section
variable {s : State}

theorem restoreEntry_refBad (ty ix : Nat) : (s.restoreEntry ty ix).refBad = s.refBad := by
  simp only [State.restoreEntry]
  split <;> rfl

theorem restoreEntry_asserts (ty ix : Nat) : (s.restoreEntry ty ix).asserts = s.asserts := by
  simp only [State.restoreEntry]
  split <;> rfl

theorem pllFail_fails {d i : Nat} (h : (d, i) ∉ s.pllBad) :
    s.pllFail d i = State.assertL { s with pllBad := (d, i) :: s.pllBad } (342 + d) 1 i := if_neg (by simpa using h)

theorem pllFail_failed {d i : Nat} (h : (d, i) ∈ s.pllBad) : s.pllFail d i = s := if_pos (by simpa using h)

end

theorem clocksFail : Claims.ClocksFail := by
  intro d r s
  refine ⟨fun h => (next_if_neg _ _ (by simpa using h)).trans (congrArg _ (pllFail_fails h)),
    fun h0 h1 => (next_if_pos _ _ (by simpa using h0)).trans (congrArg _ (pllFail_fails h1)),
    fun h0 h1 => (next_if_pos _ _ (by simpa using h0)).trans (congrArg _ (pllFail_failed h1)),
    fun h => next_if_neg _ _ (by simpa using h), fun h => next_if_pos _ _ (by simpa using h),
    fun h => next_if_neg _ _ (by simpa using h), fun h => ⟨_, next_if_pos _ _ (by simpa using h), ?_, fun n hn => ?_,
      fun a ha hsrc hcond => ?_⟩⟩
  · rw [restoreEntry_refBad]
    simp [State.deassertL]
  · rw [restoreEntry_refBad]
    simp [State.deassertL, hn]
  · rw [restoreEntry_asserts] at ha
    exact deassertL_forced ha hsrc hcond

/-- Settles O49: the last half that works is fenced by no mismatch; a summary bit stays while its source asserts or is hidden;
a forced hold asserts until its release; the other PLL or reference takes over. -/
theorem faultRedundancyAndForcing : Obligations.FaultRedundancyAndForcing :=
  ⟨suspectsAndHalves, summariesAndTrips, forcedFaults, clocksFail⟩

end Sys2Proof.Machine
end

section
/-!
MSS cores and supervisors (R460, R462), rounds of housekeeping (R463), and the cross-check of sensors (R465).
-/
namespace Sys2Proof.Machine

/-! ### Cores and supervisors (R460, R462) -/

section
variable {s : State}

theorem assertL_rd (s : State) (src cond d0 : Nat) (d1 : Word) (a : Nat) : (s.assertL src cond d0 d1).rd a = s.rd a := by
  simp only [State.rd, assertL_regs]

theorem assertL_get (s : State) (src cond d0 : Nat) (d1 : Word) (f : Fld) : (s.assertL src cond d0 d1).get f = s.get f :=
  get_congr f (assertL_rd s src cond d0 d1 f.addr)

theorem assertL_mss (s : State) (src cond d0 : Nat) (d1 : Word) : (s.assertL src cond d0 d1).mss = s.mss := by
  simp only [State.assertL]
  split
  · rfl
  · have hrest := congrArg State.mss (told_report { s with asserts := s.asserts ++ [{ src := src, cond := cond, d0 := d0, d1
      := d1 }] }
      { src := src, cond := cond, d0 := d0, d1 := d1 }).rest
    exact hrest

/-- Core 0 is fenced, and dispatch waits; these operations are left. -/
def coreFenced (s : State) (ops : List Op) : State :=
  { (s.set F.MSS_STAT.CORE0 2).modMss 0 (fun _ => { ok := false }) with ops := ops, mssDown := true }

theorem coreFault_first (hcore : s.core = 0) (h0 : s.get F.MSS_STAT.CORE0 ≠ 2) (h1 : s.get F.MSS_STAT.CORE1 ≠ 2) :
    ∃ ops, s.coreFault 0 = coreFenced s ops := ⟨_, (if_neg h0).trans ((if_neg h1).trans (if_pos hcore))⟩

theorem coreFault_last (h0 : s.get F.MSS_STAT.CORE0 ≠ 2) (h1 : s.get F.MSS_STAT.CORE1 = 2) :
    s.coreFault 0 = s.countedReset 7 := (if_neg h0).trans (if_pos h1)

theorem coreFenced_reads (ops : List Op) (h : s.rwf) : Reads F.MSS_STAT.CORE0 2 (coreFenced s ops) := (reads_set h
    F.MSS_STAT.CORE0 2 rfl
    rfl).of_regs rfl

theorem coreFenced_other (ops : List Op) (h : s.rwf) : Reads F.MSS_STAT.CORE1 (s.get F.MSS_STAT.CORE1) (coreFenced s ops) :=
  (Reads.set_apart ⟨h, rfl⟩ F.MSS_STAT.CORE0 2 rfl).of_regs rfl

theorem coreFenced_mss (ops : List Op) : (coreFenced s ops).mss = s.mss.set (0 : Fin 2) { ok := false } := rfl

theorem mssCoreFault_zero (h : s.core = 0) : exec .mssCoreFault s = .next ((s.assertL 338 1).coreFault 0) :=
  congrArg (fun k : Fin 2 => (Host.Outcome.next ((s.assertL (338 + k) 1).coreFault k) : Out)) (if_pos h)

/-- A report that its link carries is on its way. -/
theorem report_sent {r : Report} {l : Nat} (h : srcLink r.src = some l) (hup : s.linkDown l = false) :
    { r with atHub := false } ∈ (s.report r).reports := by
  have hreports : (s.report r).reports = s.reports ++ [{ r with atHub := false }] := by
    simp only [State.report, h, hup, Bool.false_eq_true, if_false, State.flit]
    split <;> rfl
  rw [hreports]
  exact List.mem_append_right _ List.mem_cons_self

theorem supSource (q : Fin 6) : srcLink (378 + q) = some q.val := by
  revert q
  decide

/-- A supervisor's reset is logged and reported. -/
def supReported (s : State) (q : Fin 6) (cause : Nat) : State := (s.log 0x04 [5, BitVec.ofNat 32 cause]).raise (378 + q) 1

theorem supReported_rwf (q : Fin 6) (cause : Nat) (h : s.wf = true) : (supReported s q cause).rwf := by
  have hlog := State.wf_rwf (logRec_wf s 0x04 0 (s.stamp ++ [5, BitVec.ofNat 32 cause]) h)
  rw [supReported, State.raise, State.rwf, report_regs]
  exact hlog

theorem supReported_mem (q : Fin 6) (cause : Nat) : (supReported s q cause).mem = s.mem := by
  have hlog : (s.log 0x04 [5, BitVec.ofNat 32 cause]).mem = s.mem := by
    simp only [State.log, State.logRec]
    split <;> rfl
  exact (onlyEvents_raise _ _ _ _ _).mem.trans hlog

theorem linkDown_congr {s t : State} {l : Nat} (h : t.rd (R.FAB_LINK_STAT l) = s.rd (R.FAB_LINK_STAT l)) :
    t.linkDown l = s.linkDown l := congrArg (· == 0) (get_congr (F.FAB_LINK_STAT.STATE l) h)

theorem supReported_report (q : Fin 6) (cause : Nat) (hup : s.linkDown q = false) :
    ∃ r ∈ (supReported s q cause).reports, r.src = 378 + q.val ∧ r.cond = 1 := by
  have hlink : (s.log 0x04 [5, BitVec.ofNat 32 cause]).linkDown q = s.linkDown q := by
    refine linkDown_congr (logRec_rd _ _ _ _ ?_ ?_) <;> simp only [R.FAB_LINK_STAT, R.LOG_STAT, R.LOG_DROP] <;> omega
  exact ⟨_, report_sent (supSource q) (hlink.trans hup), rfl, rfl⟩

/-- A reset of a supervisor that is not off leaves it in RESET; memory and the reports stay as its record left them. -/
theorem supReset_resets (q : Fin 6) (cause : Nat) (h : s.get (F.SUP_STAT.STATE q) ≠ 4) : ∃ t : State,
    s.supReset q cause = t.set (F.SUP_STAT.STATE q) 1 ∧ ((supReported s q cause).rwf → t.rwf) ∧
    t.reports = (supReported s q cause).reports ∧ t.mem = (supReported s q cause).mem := by
  refine ⟨_, if_neg h, fun hwf => ?_, ?_, ?_⟩
  · split
    · exact State.set_rwf _ _ _ hwf
    · exact hwf
  · split <;> rfl
  · split <;> rfl

theorem supBack_returns (q : Fin 6) (hwf : s.rwf) (h : s.get (F.SUP_STAT.STATE q) = 1) (hnone : s.upd.resets = []) :
    (s.supBack q).get (F.SUP_STAT.STATE q) = 0 := by
  have hback : s.supBack q = (s.set (F.SUP_STAT.STATE q) 0).supResets (s.set (F.SUP_STAT.STATE q) 0).upd.resets :=
    if_pos (by simp [h, q.2])
  rw [hback, State.set_upd, hnone]
  exact ((reads_set hwf (F.SUP_STAT.STATE q) 0 rfl rfl).of_regs rfl).get

theorem supBack_stays (q : Nat) (h : s.get (F.SUP_STAT.STATE q) ≠ 1) : s.supBack q = s := if_neg (by simp [h])

end

theorem coresAndSupervisors : Claims.CoresAndSupervisors := by
  intro q s hs
  have hwf := State.wf_rwf hs
  have hget := fun f => assertL_get s 338 1 0 0 f
  refine ⟨fun hcore h0 h1 => ?_, fun hcore h0 h1 => ?_, rfl, rfl, fun h => if_pos h, fun h hup => ?_,
    fun h hnone => supBack_returns q hwf h hnone, supBack_stays q⟩
  · obtain ⟨ops, hfault⟩ := coreFault_first ((hget F.UCS_STAT.CORE).trans hcore) (fun h => h0 ((hget _).symm.trans h))
      (fun h => h1 ((hget _).symm.trans h))
    have hrwf : (s.assertL 338 1).rwf := by rwa [State.rwf, assertL_regs]
    obtain ⟨a, ha, hsrc, hcond, -⟩ := assertL_holds s 338 1 0 0
    refine ⟨_, (mssCoreFault_zero hcore).trans (congrArg _ hfault), (coreFenced_reads ops hrwf).get,
      (coreFenced_other ops hrwf).get.trans (hget _), rfl, ?_, ?_, a, ha, hsrc, hcond⟩
    · simp [coreFenced_mss]
    · simp [coreFenced_mss, assertL_mss]
  · exact (mssCoreFault_zero hcore).trans (congrArg _ (coreFault_last (fun h => h0 ((hget _).symm.trans h)) ((hget _).trans
      h1)))
  · obtain ⟨t, heq, hrwf, hreports, hmem⟩ := supReset_resets q 9 h
    obtain ⟨r, hr, hsrc, hcond⟩ := supReported_report q 9 hup
    rw [heq]
    exact ⟨(reads_set (hrwf (supReported_rwf q 9 hs)) _ 1 rfl rfl).get, ⟨r, hreports.symm ▸ hr, hsrc, hcond⟩,
      hmem.trans (supReported_mem q 9)⟩

/-! ### Rounds of housekeeping (R463) -/

/-- Register a keeps its word, and the registers their canonical form. -/
structure RegKept (a : Nat) (s t : State) : Prop where
  rd  : t.rd a = s.rd a
  rwf : s.rwf → t.rwf

section
variable {a : Nat} {s t u : State}

theorem RegKept.refl (s : State) : RegKept a s s := ⟨rfl, id⟩

theorem RegKept.trans (h : RegKept a s t) (k : RegKept a t u) : RegKept a s u := ⟨k.rd.trans h.rd, fun w => k.rwf (h.rwf w)⟩

theorem regKept_wr (s : State) (b : Nat) (w : Word) (h : a ≠ b) : RegKept a s (s.wr b w) :=
  ⟨s.rd_wr_other _ _ _ h, s.wr_rwf b w⟩

theorem regKept_set (s : State) (f : Fld) (v : Nat) (h : a ≠ f.addr) : RegKept a s (s.set f v) := regKept_wr s _ _ h

theorem regKept_wr64 (s : State) (lo hi : Nat) (v : Int) (hlo : a ≠ lo) (hhi : a ≠ hi) : RegKept a s (s.wr64 lo hi v) :=
  (regKept_wr s lo _ hlo).trans (regKept_wr _ hi _ hhi)

theorem regKept_of_regs (h : t.regs = s.regs) : RegKept a s t := ⟨by simp only [State.rd, h], fun w => by rwa [State.rwf, h]⟩

theorem regKept_modSec (s : State) (q : Fin 7) (f : Sector → Sector) : RegKept a s (s.modSec q f) := regKept_of_regs rfl

theorem regKept_setHouse (s : State) (h : House) : RegKept a s { s with house := h } := regKept_of_regs rfl

theorem regKept_assertL (s : State) (src cond d0 : Nat) (d1 : Word) : RegKept a s (s.assertL src cond d0 d1) :=
  regKept_of_regs (assertL_regs s src cond d0 d1)

theorem regKept_foldl {α : Type} {g : State → α → State} (l : List α) (hg : ∀ s, ∀ x ∈ l, RegKept a s (g s x)) :
    ∀ s, RegKept a s (l.foldl g s) := by
  induction l with
  | nil => exact fun s => .refl s
  | cons x l ih =>
    exact fun s => (hg s x List.mem_cons_self).trans (ih (fun s y hy => hg s y (List.mem_cons_of_mem _ hy)) _)

theorem RegKept.get (h : RegKept a s t) {f : Fld} (hf : f.addr = a) : t.get f = s.get f := get_congr f (hf ▸ h.rd)

theorem RegKept.reads (h : RegKept a s t) {f : Fld} (hf : f.addr = a) {v : Nat} (k : Reads f v s) : Reads f v t :=
  ⟨h.rwf k.rwf, (h.get hf).trans k.get⟩

end

section
variable {s : State} (q : Fin 7) (r : HkRound)

theorem tempReg_bounds {n : Nat} (hn : n < sensorCount q) : if q.val < 6 then 0x100100 + 0x10000 * q.val ≤ tempReg q n ∧
    tempReg q n < 0x100200 + 0x10000 * q.val else 0x60A00 ≤ tempReg q n ∧ tempReg q n < 0x60A60 := by
  by_cases hq : q.val < 6 <;> simp only [hq, if_true, if_false, sensorCount, tempReg, R.QD_TEMP, R.HUB_TEMP] at hn ⊢ <;> omega

theorem tempReg_injective {n m : Nat} (h : n ≠ m) : tempReg q n ≠ tempReg q m := by
  by_cases hq : q.val < 6 <;> simp only [hq, if_true, if_false, tempReg, R.QD_TEMP, R.HUB_TEMP] <;> omega

/-- A register that no reading and no failure of a sensor writes. -/
def BesideSensors (a : Nat) : Prop := a < 0x60210 ∨ 0x60238 ≤ a ∧ a < 0x60A00

theorem tempReg_beside {a n : Nat} (ha : BesideSensors a) (hn : n < sensorCount q) : a ≠ tempReg q n := by
  have hb := tempReg_bounds q hn
  simp only [BesideSensors] at ha
  split at hb <;> omega

/-- The reading of one sensor goes to its register. -/
def putTemp (q : Fin 7) (s : State) (x : Nat × Int) : State :=
  (s.set ⟨tempReg q x.1, 31, 31⟩ 1).seti ⟨tempReg q x.1, 15, 0⟩ x.2

/-- The register of THERM input k of a sector. -/
def thermReg (q k : Nat) : Nat := if q < 6 then R.QD_THERM q k else R.HUB_THERM24

/-- The reading of one THERM input goes to its register. -/
def putTherm (q : Fin 7) (s : State) (x : Nat × Int × Bool × Bool) : State :=
  let a := thermReg q x.1
  let t : Int := if x.2.2.1 || x.2.2.2 then 0 else clampI (-400) 1250 x.2.1
  (((s.set ⟨a, 31, 31⟩ 1).setb ⟨a, 30, 30⟩ x.2.2.1).setb ⟨a, 29, 29⟩ x.2.2.2).seti ⟨a, 15, 0⟩ t

theorem putTemps_eq : s.putTemps q r = ((List.range (if q.val < 6 then 4 else 1)).zip r.therms).foldl (putTherm q)
    (((List.range (sensorCount q)).zip r.temps).foldl (putTemp q) s) := rfl

theorem regKept_putTemp {a : Nat} (s : State) (x : Nat × Int) (h : a ≠ tempReg q x.1) : RegKept a s (putTemp q s x) :=
  (regKept_set s ⟨tempReg q x.1, 31, 31⟩ 1 h).trans (regKept_set _ ⟨tempReg q x.1, 15, 0⟩ _ h)

theorem regKept_putTherm {a : Nat} (s : State) (x : Nat × Int × Bool × Bool) (h : a ≠ thermReg q x.1) :
    RegKept a s (putTherm q s x) :=
  (((regKept_set s ⟨thermReg q x.1, 31, 31⟩ _ h).trans (regKept_set _ ⟨thermReg q x.1, 30, 30⟩ _ h)).trans
    (regKept_set _ ⟨thermReg q x.1, 29, 29⟩ _ h)).trans (regKept_set _ ⟨thermReg q x.1, 15, 0⟩ _ h)

theorem zip_range {α : Type} {n k : Nat} {l : List α} {x : α} (h : (k, x) ∈ (List.range n).zip l) : k < n ∧ l[k]? = some x :=
    by
  obtain ⟨i, hi⟩ := List.mem_iff_getElem?.1 h
  obtain ⟨hk, hx⟩ := List.getElem?_zip_eq_some.1 hi
  obtain ⟨hin, hval⟩ := List.getElem?_eq_some_iff.1 hk
  rw [List.getElem_range] at hval
  subst hval
  exact ⟨by simpa using hin, hx⟩

theorem regKept_therms {a : Nat} (s : State) (h : ∀ k, k < (if q.val < 6 then 4 else 1) → a ≠ thermReg q k) :
    RegKept a s (((List.range (if q.val < 6 then 4 else 1)).zip r.therms).foldl (putTherm q) s) :=
  regKept_foldl _ (fun s x hx => regKept_putTherm q s x (h x.1 (zip_range hx).1)) s

theorem regKept_putTemps {a : Nat} (ha : BesideSensors a) : RegKept a s (s.putTemps q r) := by
  rw [putTemps_eq]
  refine .trans (regKept_foldl _ (fun s x hx => regKept_putTemp q s x (tempReg_beside q ha (zip_range hx).1)) s)
    (regKept_therms q r _ fun k hk => ?_)
  simp only [BesideSensors] at ha
  by_cases hq : q.val < 6 <;> simp only [thermReg, hq, if_true, if_false, R.QD_THERM, R.HUB_THERM24] <;> omega

theorem regKept_sensorFail {a : Nat} (ha : BesideSensors a) (s : State) {n : Nat} (hn : n < sensorCount q) :
    RegKept a s (s.sensorFail q n) := by
  have htemp := tempReg_beside q ha hn
  have hstat : a ≠ R.THM_STAT q := by
    simp only [BesideSensors, R.THM_STAT] at ha ⊢
    omega
  have hlatch : a ≠ R.THM_LATCH := by
    simp only [BesideSensors, R.THM_LATCH] at ha ⊢
    omega
  have hsub : a ≠ R.THM_SUB := by
    simp only [BesideSensors, R.THM_SUB] at ha ⊢
    omega
  refine .trans ?_ (regKept_assertL _ _ _ _ _)
  refine .trans ?_ (regKept_set _ F.THM_SUB.SENSOR _ hsub)
  refine .trans ?_ (regKept_set _ F.THM_SUB.SECTOR _ hsub)
  refine .trans ?_ (regKept_set _ F.THM_SUB.COUNT _ hsub)
  refine .trans ?_ (regKept_set _ ⟨R.THM_LATCH, q, q⟩ _ hlatch)
  refine .trans ?_ (regKept_set _ (F.THM_STAT.SUBST q) _ hstat)
  refine .trans ?_ (regKept_set _ ⟨tempReg q n, 30, 30⟩ _ htemp)
  exact regKept_modSec _ _ _

theorem regKept_crossCheck {a : Nat} (ha : BesideSensors a) (s : State) : RegKept a s (s.crossCheck q) := by
  refine .trans (regKept_modSec _ _ _) (regKept_foldl _ (fun s n hn => ?_) _)
  split
  · exact regKept_sensorFail q ha s (List.mem_range.1 hn)
  · exact .refl s

theorem hkStat_beside : BesideSensors R.HK_STAT := .inr ⟨by decide, by decide⟩

/-! #### The house die's round -/

theorem houseM_ne (n : Nat) (hn : n < 16) : R.HK_STAT ≠ R.HSE_M_LO n ∧ R.HK_STAT ≠ R.HSE_M_HI n := by
  simp only [R.HK_STAT, R.HSE_M_LO, R.HSE_M_HI]
  omega

theorem regKept_putHouse (s : State) (x : Fin 16 × Int) : RegKept R.HK_STAT s (s.putHouse x) := by
  rw [State.putHouse]
  split
  · exact .refl s
  · exact regKept_wr64 s _ _ _ (houseM_ne _ x.1.2).1 (houseM_ne _ x.1.2).2

theorem regKept_houseAcc (s : State) (n k : Nat) (v : Option Int) (i : Int) (hn : n < 16) :
    RegKept R.HK_STAT s (s.houseAcc n k v i) := by
  simp only [State.houseAcc]
  exact .trans (regKept_setHouse s _) (regKept_wr64 _ _ _ _ (houseM_ne _ hn).1 (houseM_ne _ hn).2)

theorem regKept_housePort (s : State) (n k : Nat) (hn : n < 15) : RegKept R.HK_STAT s (s.housePort n k) := by
  rw [State.housePort]
  exact .trans (regKept_wr64 s _ _ _ (houseM_ne n (by omega)).1 (houseM_ne n (by omega)).2)
    (regKept_houseAcc _ (n + 1) _ _ _ (by omega))

theorem regKept_houseSums (s : State) : RegKept R.HK_STAT s s.houseSums := by
  rw [State.houseSums]
  refine .trans ?_ (regKept_houseAcc _ _ _ _ _ (by decide))
  refine .trans ?_ (regKept_houseAcc _ _ _ _ _ (by decide))
  exact ((regKept_housePort s 2 0 (by decide)).trans (regKept_housePort _ 6 1 (by decide))).trans
    (regKept_housePort _ 10 2 (by decide))

/-! #### What a round reads -/

/-- An i16 survives its field. -/
theorem sext_trunc_16 (v : Int) (hlo : -32768 ≤ v) (hhi : v < 32768) : sext 16 (trunc 16 v) = v := by
  have hword : (trunc 16 v : Int) = v % 2 ^ 16 := by
    simp only [trunc]
    omega
  simp only [sext]
  generalize trunc 16 v = u at hword ⊢
  split <;> omega

/-- The register of sensor n holds a valid reading t. -/
structure HoldsTemp (q : Fin 7) (n : Nat) (t : Int) (s : State) : Prop where
  valid   : Reads ⟨tempReg q n, 31, 31⟩ 1 s
  reading : Reads ⟨tempReg q n, 15, 0⟩ (trunc 16 t) s

theorem putTemp_holds (h : s.rwf) (n : Nat) (t : Int) : HoldsTemp q n t (putTemp q s (n, t)) := by
  have hvalid := reads_set h ⟨tempReg q n, 31, 31⟩ 1 rfl rfl
  have hfits : trunc 16 t % 2 ^ 16 = trunc 16 t := by
    simp only [trunc]
    omega
  exact ⟨hvalid.set_apart ⟨tempReg q n, 15, 0⟩ _ rfl, reads_set hvalid.rwf ⟨tempReg q n, 15, 0⟩ _ rfl hfits⟩

theorem HoldsTemp.kept {q : Fin 7} {n : Nat} {t : Int} {s u : State} (k : HoldsTemp q n t s) (h : RegKept (tempReg q n) s u) :
    HoldsTemp q n t u := ⟨h.reads rfl k.valid, h.reads rfl k.reading⟩

/-- Among readings of which every one of sensor n is t, the register keeps t. -/
theorem foldl_putTemp_keeps {n : Nat} {t : Int} (l : List (Nat × Int)) (hl : ∀ x ∈ l, x.1 = n → x.2 = t) :
    ∀ s : State, HoldsTemp q n t s → HoldsTemp q n t (l.foldl (putTemp q) s) := by
  induction l with
  | nil => exact fun _ h => h
  | cons x l ih =>
    intro s hs
    refine ih (fun y hy => hl y (List.mem_cons_of_mem _ hy)) _ ?_
    by_cases hx : x.1 = n
    · have hpair : x = (n, t) := Prod.ext hx (hl x List.mem_cons_self hx)
      rw [hpair]
      exact putTemp_holds q hs.valid.rwf n t
    · exact hs.kept (regKept_putTemp q s x (tempReg_injective q (Ne.symm hx)))

theorem foldl_putTemp_holds {n : Nat} {t : Int} (l : List (Nat × Int)) (hl : ∀ x ∈ l, x.1 = n → x.2 = t) (hin : (n, t) ∈ l) :
    ∀ s : State, s.rwf → HoldsTemp q n t (l.foldl (putTemp q) s) := by
  induction l with
  | nil => exact absurd hin List.not_mem_nil
  | cons x l ih =>
    intro s hs
    have htail : ∀ y ∈ l, y.1 = n → y.2 = t := fun y hy => hl y (List.mem_cons_of_mem _ hy)
    rcases List.mem_cons.1 hin with rfl | hin
    · exact foldl_putTemp_keeps q l htail _ (putTemp_holds q hs n t)
    · exact ih htail hin _ (State.set_rwf _ _ _ (State.set_rwf _ _ _ hs))

theorem putTemps_holds (h : s.rwf) {n : Nat} (hn : n < sensorCount q) {t : Int} (ht : r.temps[n]? = some t) :
    HoldsTemp q n t (s.putTemps q r) := by
  rw [putTemps_eq]
  refine (foldl_putTemp_holds q _ (fun x hx hxn => ?_) ?_ s h).kept (regKept_therms q r _ fun k hk => ?_)
  · have hx2 := (zip_range hx).2
    rw [hxn, ht] at hx2
    exact (Option.some.inj hx2).symm
  · exact List.mem_iff_getElem?.2 ⟨n, List.getElem?_zip_eq_some.2 ⟨by rw [List.getElem?_range hn], ht⟩⟩
  · have hb := tempReg_bounds q hn
    by_cases hq : q.val < 6 <;> simp only [thermReg, hq, if_true, if_false, R.QD_THERM, R.HUB_THERM24] at hb hk ⊢ <;> omega

/-- The state of a hub's round before the house die's readings. -/
def hubRound (s : State) (q : Fin 7) (r : HkRound) : State :=
  let s1 := (s.putTemps q r).crossCheck q
  if r.late then s1.inc F.HK_STAT.OVERRUN else s1

theorem housekeepingRound_hub (hq : q.val = 6) (hrec : r.record = none) : exec (.housekeepingRound q r) s =
    .next ((r.house.foldl State.putHouse (hubRound s q r)).houseSums.incWrap F.HK_STAT.ROUNDS) := by
  have hexec : exec (.housekeepingRound q r) s = execHousekeepingRound q r s := rfl
  have hback : s.supBack q = s := if_neg (by simp [hq])
  rw [hexec, execHousekeepingRound, if_neg (by simp [hq]), hrec, if_pos hq, hback]
  rfl

theorem housekeepingRound_off (h : q.val < 6 ∧ (s.domOn (96 + q) = false ∨ 2 ≤ s.get (F.SUP_STAT.STATE q))) :
    exec (.housekeepingRound q r) s = .next s := by
  refine next_if_pos _ _ ?_
  simpa using h

theorem housekeepingRound_quad (h : ¬ (q.val < 6 ∧ (s.domOn (96 + q) = false ∨ 2 ≤ s.get (F.SUP_STAT.STATE q))))
    (hrec : r.record = none) (hlate : r.late = false) (hq : q.val < 6) :
    exec (.housekeepingRound q r) s = .next (((s.supBack q).putTemps q r).crossCheck q) := by
  have hexec : exec (.housekeepingRound q r) s = execHousekeepingRound q r s := rfl
  have hon : ¬ (q.val < 6 && (!s.domOn (96 + q) || decide (2 ≤ s.get (F.SUP_STAT.STATE q)))) = true := by simpa using h
  rw [hexec, execHousekeepingRound, if_neg hon, hrec, hlate, if_neg (by omega)]
  rfl

theorem Reads.inc {g : Fld} {v n : Nat} {s : State} (k : Reads g v s) (hg : decide (g.lo ≤ g.hi ∧ g.hi < 32) = true) :
    Reads g (min (v + n) (2 ^ g.width - 1)) (s.inc g n) := by
  rw [← k.get]
  refine reads_set k.rwf g _ hg (Nat.mod_eq_of_lt ?_)
  have hpos : 0 < 2 ^ g.width := Nat.two_pow_pos _
  omega

theorem regKept_round : RegKept R.HK_STAT s ((s.putTemps q r).crossCheck q) :=
  (regKept_putTemps q r hkStat_beside).trans (regKept_crossCheck q hkStat_beside _)

theorem regKept_house (s : State) : RegKept R.HK_STAT s (r.house.foldl State.putHouse s).houseSums :=
  (regKept_foldl _ (fun s x _ => regKept_putHouse s x) s).trans (regKept_houseSums _)

theorem hubRound_rounds (h : s.rwf) : Reads F.HK_STAT.ROUNDS (s.get F.HK_STAT.ROUNDS) (hubRound s q r) := by
  have hround := (regKept_round (s := s) q r).reads rfl ⟨h, rfl (a := s.get F.HK_STAT.ROUNDS)⟩
  rw [hubRound]
  split
  · exact hround.set_apart F.HK_STAT.OVERRUN _ rfl
  · exact hround

theorem hubRound_overrun (h : s.rwf) (hlate : r.late = true) :
    Reads F.HK_STAT.OVERRUN (min (s.get F.HK_STAT.OVERRUN + 1) (2 ^ F.HK_STAT.OVERRUN.width - 1)) (hubRound s q r) := by
  have hround := (regKept_round (s := s) q r).reads rfl ⟨h, rfl (a := s.get F.HK_STAT.OVERRUN)⟩
  rw [hubRound, if_pos hlate]
  exact hround.inc rfl

end

theorem housekeepingRounds : Claims.HousekeepingRounds := by
  intro q r s hs off
  have hwf := State.wf_rwf hs
  refine ⟨housekeepingRound_off q r, housekeepingRound_quad q r, fun hq hrec => ⟨_, housekeepingRound_hub q r hq hrec, ?_, fun
      hlate => ?_⟩,
    fun n hn t ht hlo hhi => ?_⟩
  · exact (((regKept_house r _).reads rfl (hubRound_rounds q r hwf)).incWrap rfl).get
  · exact (((regKept_house r _).reads rfl (hubRound_overrun q r hwf hlate)).set_apart F.HK_STAT.ROUNDS _ rfl).get
  · obtain ⟨hvalid, hreading⟩ := putTemps_holds q r hwf hn ht
    exact ⟨(congrArg (sext 16) hreading.get).trans (sext_trunc_16 t hlo hhi), hvalid.is⟩

/-! ### The cross-check (R465) -/

section
variable {s : State} (q : Fin 7)

theorem modSec_sectors (f : Sector → Sector) : (s.modSec q f).sectors[q] = f s.sectors[q] := by simp [State.modSec]

theorem modSec_sectors_other (f : Sector → Sector) {k : Fin 7} (h : k ≠ q) : (s.modSec q f).sectors[k] = s.sectors[k] := by
  have hne : ¬ q.val = k.val := fun he => h (Fin.ext he.symm)
  simp [State.modSec, Vector.getElem_set_ne, hne]

theorem tempReg_ne {n : Nat} (hn : n < 24) (b : Nat) (hb : b < 0x60A00) : b ≠ tempReg q n := by
  simp only [tempReg, R.QD_TEMP, R.HUB_TEMP]
  split <;> omega

/-- The sensor as its restoration leaves it. -/
def sensorBack (s : State) (q : Fin 7) (n : Nat) : State :=
  let l := (s.sectors[q]).subs.filter (· != n)
  ((s.modSec q fun x => { x with subs := l }).set ⟨tempReg q n, 30, 30⟩ 0).setb (F.THM_STAT.SUBST q) (!l.isEmpty)

theorem sensorRestore_back {n : Fin 24} (hin : n.val ∈ (s.sectors[q]).subs) (hgood : 1000 ≤ (s.sectors[q]).good.getD n 0) :
    exec (.sensorRestore q n) s = .next ((sensorBack s q n).deassertD (355 + q) 5 n) :=
  next_if_neg _ _ (by simp only [Bool.or_eq_true, Bool.not_eq_true', decide_eq_true_eq, not_or]; exact ⟨by simpa using hin, by
      omega⟩)

theorem sensorRestore_stays {n : Fin 24} (h : n.val ∉ (s.sectors[q]).subs ∨ (s.sectors[q]).good.getD n 0 < 1000) :
    exec (.sensorRestore q n) s = .next s := next_if_pos _ _ (by simpa using h)

theorem deassertD_get (s : State) (src cond d0 : Nat) (f : Fld) : (s.deassertD src cond d0).get f = s.get f := rfl

theorem deassertD_sectors (s : State) (src cond d0 : Nat) : (s.deassertD src cond d0).sectors = s.sectors := rfl

theorem sensorBack_sectors (n : Nat) : (sensorBack s q n).sectors =
    (s.modSec q fun x => { x with subs := (s.sectors[q]).subs.filter (· != n) }).sectors := rfl

theorem b2n_others (l : List Nat) (n : Nat) : b2n (!(l.filter (· != n)).isEmpty) = if l.all (· == n) then 0 else 1 := by
  have hall : (l.filter (· != n)).isEmpty = l.all (· == n) := by
    rw [Bool.eq_iff_iff]
    simp
  rw [hall]
  cases l.all (· == n) <;> rfl

theorem sensorBack_mark {n : Nat} (h : s.rwf) (hn : n < 24) : Reads ⟨tempReg q n, 30, 30⟩ 0 (sensorBack s q n) :=
  (reads_set (s := s.modSec q _) h ⟨tempReg q n, 30, 30⟩ 0 rfl rfl).set_other (F.THM_STAT.SUBST q) _
    (tempReg_ne q hn (R.THM_STAT q) (by simp only [R.THM_STAT]; omega)).symm

theorem sensorBack_subst (n : Nat) (h : s.rwf) :
    Reads (F.THM_STAT.SUBST q) (if (s.sectors[q]).subs.all (· == n) then 0 else 1) (sensorBack s q n) := by
  have hset := reads_set (s := (s.modSec q fun x => { x with subs := (s.sectors[q]).subs.filter (· != n) }).set
    ⟨tempReg q n, 30, 30⟩ 0) (State.set_rwf _ _ _ h) (F.THM_STAT.SUBST q)
    (b2n (!((s.sectors[q]).subs.filter (· != n)).isEmpty)) rfl (by rw [b2n_others]; split <;> rfl)
  rw [b2n_others] at hset
  exact hset.of_regs (by rw [sensorBack, State.setb, b2n_others])

/-- The sensor substituted, and its mark in its register. -/
def sensorMarked (s : State) (q : Fin 7) (n : Nat) : State :=
  (s.modSec q fun x => { x with subs := x.subs ++ [n], bad := x.bad.set n 0, good := x.good.set n 0 }).set
    ⟨tempReg q n, 30, 30⟩ 1

/-- The sensor shown in THM_STAT, THM_LATCH and THM_SUB. -/
def sensorShown (s : State) (q : Fin 7) (n : Nat) : State :=
  let s1 := (((sensorMarked s q n).set (F.THM_STAT.SUBST q) 1).set ⟨R.THM_LATCH, q, q⟩ 1).inc F.THM_SUB.COUNT
  (s1.set F.THM_SUB.SECTOR q).set F.THM_SUB.SENSOR n

/-- What neither THM_SUB nor THM_LATCH holds stays while the sensor is shown. -/
theorem Reads.sensorShown {g : Fld} {v n : Nat} (k : Reads g v ((sensorMarked s q n).set (F.THM_STAT.SUBST q) 1))
    (hlatch : g.addr ≠ R.THM_LATCH) (hsub : g.addr ≠ R.THM_SUB) : Reads g v (sensorShown s q n) :=
  (((k.set_other ⟨R.THM_LATCH, q, q⟩ 1 hlatch).set_other F.THM_SUB.COUNT _ hsub).set_other F.THM_SUB.SECTOR _ hsub).set_other
    F.THM_SUB.SENSOR _ hsub

section
variable (h : s.rwf)
include h

theorem sensorMarked_rwf (n : Nat) : (sensorMarked s q n).rwf := State.set_rwf (s.modSec q _) _ _ h

theorem sensorShown_subst (n : Nat) : Reads (F.THM_STAT.SUBST q) 1 (sensorShown s q n) := by
  refine Reads.sensorShown q (reads_set (sensorMarked_rwf q h n) _ 1 rfl rfl) ?_ ?_ <;>
    simp only [F.THM_STAT.SUBST, R.THM_STAT, R.THM_LATCH, R.THM_SUB] <;> omega

theorem sensorShown_mark {n : Nat} (hn : n < 24) : Reads ⟨tempReg q n, 30, 30⟩ 1 (sensorShown s q n) :=
  Reads.sensorShown q ((reads_set (s := s.modSec q _) h ⟨tempReg q n, 30, 30⟩ 1 rfl rfl).set_other (F.THM_STAT.SUBST q) _
    (tempReg_ne q hn (R.THM_STAT q) (by simp only [R.THM_STAT]; omega)).symm)
    (tempReg_ne q hn R.THM_LATCH (by decide)).symm (tempReg_ne q hn R.THM_SUB (by decide)).symm

theorem sensorShown_which {n : Nat} (hn : n < 24) :
    Reads F.THM_SUB.SECTOR q (sensorShown s q n) ∧ Reads F.THM_SUB.SENSOR n (sensorShown s q n) := by
  have hrwf : ((((sensorMarked s q n).set (F.THM_STAT.SUBST q) 1).set ⟨R.THM_LATCH, q, q⟩ 1).inc F.THM_SUB.COUNT).rwf :=
    State.set_rwf _ _ _ (State.set_rwf _ _ _ (State.set_rwf _ _ _ (sensorMarked_rwf q h n)))
  have hsector : q.val % 2 ^ 8 = q.val := Nat.mod_eq_of_lt (Nat.lt_trans q.2 (by decide))
  have hsensor : n % 2 ^ 8 = n := Nat.mod_eq_of_lt (Nat.lt_trans hn (by decide))
  exact ⟨(reads_set hrwf F.THM_SUB.SECTOR q rfl hsector).set_apart F.THM_SUB.SENSOR n rfl,
    reads_set (State.set_rwf _ _ _ hrwf) F.THM_SUB.SENSOR n rfl hsensor⟩

end

theorem sensorFail_sectors (n : Nat) : (s.sensorFail q n).sectors =
    (s.modSec q fun x => { x with subs := x.subs ++ [n], bad := x.bad.set n 0, good := x.good.set n 0 }).sectors := by
  have hrest := congrArg State.sectors (onlyEvents_assertL (sensorShown s q n) (355 + q) 5 n 0).rest
  exact hrest

end

theorem sensorsCrossChecked : Claims.SensorsCrossChecked := by
  intro q n s hs x
  have hwf := State.wf_rwf hs
  refine ⟨sensorRestore_stays q, fun hin hgood => ⟨_, sensorRestore_back q hin hgood, ?_, ?_, ?_, fun k hk => ?_⟩, ?_⟩
  · rw [deassertD_sectors, sensorBack_sectors, modSec_sectors]
    simp
  · exact (deassertD_get _ _ _ _ _).trans (sensorBack_mark q hwf n.2).get
  · exact (deassertD_get _ _ _ _ _).trans (sensorBack_subst q n hwf).get
  · rw [deassertD_sectors, sensorBack_sectors, modSec_sectors_other q _ hk]
  · intro u
    obtain ⟨hsector, hsensor⟩ := sensorShown_which q hwf n.2
    refine ⟨((sensorShown_subst q hwf n).assertL _ _ _ _).get, (hsector.assertL _ _ _ _).get, (hsensor.assertL _ _ _ _).get,
        ?_,
      fun _ hn => ((sensorShown_mark q hwf hn).assertL _ _ _ _).get, assertL_holds _ _ _ _ _⟩
    rw [sensorFail_sectors, modSec_sectors]
    simp

/-- Settles O50: the dispatching core is fenced where the other works; a round stores its readings and counts in the hub; a
sensor that fails the cross-check is substituted and shown, and returns after 1,000 rounds of agreement. -/
theorem managementAndSensors : Obligations.ManagementAndSensors :=
  ⟨coresAndSupervisors, housekeepingRounds, sensorsCrossChecked⟩

end Sys2Proof.Machine
end

section
/-!
Thermal levels (R466, R467, R469), the step of a thermal unit (R464), the end of a level (R473), and throttle pauses (R468).
-/
namespace Sys2Proof.Machine

/-! ### Levels (R466, R467, R469) -/

theorem levelAt_hard {t : Rat} (b : Bool) (h : 150 ≤ t) : levelAt t b = 4 := if_pos h

theorem levelAt_stop {t : Rat} (b : Bool) (h : 140 ≤ t) (h' : t < 150) : levelAt t b = 3 :=
  (if_neg (not_le.2 h')).trans (if_pos h)

theorem levelAt_limit {t : Rat} {b : Bool} (h : (decide (125 ≤ t) || b) = true) (h' : t < 140) : levelAt t b = 2 :=
  (if_neg (not_le.2 (h'.trans (by norm_num)))).trans ((if_neg (not_le.2 h')).trans (if_pos h))

theorem levelAt_low {t : Rat} (h : t < 125) : levelAt t false = if 115 ≤ t then 1 else 0 := by
  have h140 : t < 140 := h.trans (by norm_num)
  refine (if_neg (not_le.2 (h140.trans (by norm_num)))).trans ((if_neg (not_le.2 h140)).trans (if_neg ?_))
  simpa using h

theorem thermalLevels : Claims.ThermalLevels := by
  intro t rate b
  refine ⟨levelAt_hard b, levelAt_stop b, fun h => levelAt_limit (by simp [h]), levelAt_limit (by simp),
    fun h h' => (levelAt_low h').trans (if_pos h), fun h => (levelAt_low (h.trans (by norm_num))).trans (if_neg (not_le.2 h)),
    fun h => ?_, fun h => ?_⟩
  · rw [hardStop, max_eq_left h, decide_eq_true_iff]
  · rw [hardStop, max_eq_right h.le, decide_eq_true_iff, div_div_eq_mul_div, div_one]

/-! ### The step of a thermal unit (R464) -/

section
variable (q : Fin 7)

/-- What the hottest junction of a sector is read from. -/
structure SameHeat (q : Fin 7) (s t : State) : Prop where
  rd    : ∀ n, t.rd (tempReg q n) = s.rd (tempReg q n)
  juncs : (t.sectors[q]).juncs = (s.sectors[q]).juncs
  subs  : (t.sectors[q]).subs = (s.sectors[q]).subs

section
variable {q} {s t : State} (h : SameHeat q s t)
include h

theorem SameHeat.reading (n : Nat) : t.reading q n = s.reading q n := by
  simp only [State.reading, State.geti, State.get, h.rd]

theorem SameHeat.valid (n : Nat) : t.is ⟨tempReg q n, 31, 31⟩ = s.is ⟨tempReg q n, 31, 31⟩ := by
  simp only [State.is, State.get, h.rd]

theorem SameHeat.junc (n : Nat) : (t.sectors[q]).junc n = (s.sectors[q]).junc n := by
  simp only [Sector.junc, h.juncs]

theorem SameHeat.sensorOk (n : Nat) : t.sensorOk q n = s.sensorOk q n := by
  simp only [State.sensorOk, h.valid, h.subs]

theorem SameHeat.juncT (n : Nat) : t.juncT q n = s.juncT q n := by
  simp only [State.juncT, State.sensorT, State.substitute, h.sensorOk, h.reading, h.valid, h.junc]

theorem SameHeat.hottest : t.hottest q = s.hottest q := by
  simp only [State.hottest, h.juncT]

end

/-- The hottest junction is one of the sector's. -/
theorem hottest_lt (s : State) : (s.hottest q).1 < 24 := by
  have hstep : ∀ (l : List Nat) (b : Nat × Rat), (∀ n ∈ l, n < 24) → b.1 < 24 →
      (l.foldl (fun b n => let t := s.juncT q n; if b.2 < t then (n, t) else b) b).1 < 24 := by
    intro l
    induction l with
    | nil => exact fun b _ hb => hb
    | cons n l ih =>
      intro b hl hb
      refine ih _ (fun m hm => hl m (List.mem_cons_of_mem _ hm)) ?_
      simp only
      split
      · exact hl n List.mem_cons_self
      · exact hb
  refine hstep _ _ (fun n hn => ?_) (show 0 < 24 by decide)
  have hn := List.mem_range.1 hn
  simp only [sensorCount] at hn
  split at hn <;> omega

/-- The junctions after the models and the windows of a step. -/
def thermModelled (s : State) (q : Fin 7) (legs : List (Int × Int)) : State :=
  let js := (List.range (sensorCount q)).map fun n =>
    let l := legs.getD n (0, 0)
    let j := (s.sectors[q]).junc n
    if hasModel q n then s.modelStep q n j l.1 l.2 else { j with tj := s.juncT q n }
  let full := decide (9 ≤ (s.sectors[q]).n)
  s.modSec q fun x => { x with juncs := if full then js.map Junction.window else js, n := if full then 0 else x.n + 1 }

/-- RATE follows the windows (R467). -/
def thermRated (s : State) (q : Fin 7) : State :=
  let ws := (s.sectors[q]).juncs
  if ws.any fun j => decide (10 ≤ j.hot) then s.set (F.THM_STAT.RATE q) 1
  else if ws.all fun j => decide (10 ≤ j.calm) then s.set (F.THM_STAT.RATE q) 0
  else s

/-- THM_STAT reports the hottest junction. -/
def thermShown (s : State) (q : Fin 7) : State :=
  (s.set (F.THM_STAT.HOT q) (s.hottest q).1).seti (F.THM_STAT.TMAX q) (satS 16 (tenths (s.hottest q).2))

/-- And the holds count. -/
def thermCounted (s : State) (q : Fin 7) : State := (thermShown s q).holdCounts q (s.hottest q).2

/-- The sector before its level is looked at. -/
def thermStepped (s : State) (q : Fin 7) (legs : List (Int × Int)) : State := thermCounted (thermRated (thermModelled s q
    legs) q) q

theorem thermalModelStep_eq (legs : List (Int × Int)) (s : State) : exec (.thermalModelStep q legs) s =
    let t := thermStepped s q legs
    let level := levelAt ((thermRated (thermModelled s q legs) q).hottest q).2 (t.is (F.THM_STAT.RATE q))
    .next (if t.get (F.THM_STAT.LEVEL q) < level then t.enterLevel q level
      else if t.get (F.THM_STAT.LEVEL q) = 3 && t.rampTooLong q then t.stopChs (sectorChs q) true
      else t) := rfl

theorem tempReg_ne_stat (n : Nat) : tempReg q n ≠ R.THM_STAT q := by
  simp only [tempReg, R.QD_TEMP, R.HUB_TEMP, R.THM_STAT]
  split <;> omega

theorem thermShown_rd (s : State) {a : Nat} (ha : a ≠ R.THM_STAT q) : (thermShown s q).rd a = s.rd a :=
  (State.set_rd_other _ (F.THM_STAT.TMAX q) _ _ ha).trans (State.set_rd_other _ (F.THM_STAT.HOT q) _ _ ha)

theorem holdCounts_rd (s : State) (t : Rat) (a : Nat) : (s.holdCounts q t).rd a = s.rd a := rfl

theorem holdCounts_juncs (s : State) (t : Rat) : ((s.holdCounts q t).sectors[q]).juncs = (s.sectors[q]).juncs := by
  rw [State.holdCounts, modSec_sectors]

theorem holdCounts_subs (s : State) (t : Rat) : ((s.holdCounts q t).sectors[q]).subs = (s.sectors[q]).subs := by
  rw [State.holdCounts, modSec_sectors]

theorem thermCounted_heat (s : State) : SameHeat q s (thermCounted s q) :=
  ⟨fun n => (holdCounts_rd q _ _ _).trans (thermShown_rd q s (tempReg_ne_stat q n)), holdCounts_juncs q _ _, holdCounts_subs q
      _ _⟩

theorem Reads.thermRated {g : Fld} {v : Nat} {s : State} (k : Reads g v s) (hg : (F.THM_STAT.RATE q).apart g = true) :
    Reads g v (thermRated s q) := by
  rw [Machine.thermRated]
  split
  · exact k.set_apart _ _ hg
  · split
    · exact k.set_apart _ _ hg
    · exact k

theorem thermRated_mem (s : State) : (thermRated s q).mem = s.mem := by
  rw [thermRated]
  split
  · rfl
  · split <;> rfl

theorem thermModelled_reads {s : State} {g : Fld} {v : Nat} (k : Reads g v s) (legs : List (Int × Int)) :
    Reads g v (thermModelled s q legs) := k.of_regs rfl

theorem holdCounts_reads {s : State} {g : Fld} {v : Nat} (k : Reads g v s) (t : Rat) : Reads g v (s.holdCounts q t) :=
    k.of_regs rfl

theorem thermCounted_level {s : State} {v : Nat} (k : Reads (F.THM_STAT.LEVEL q) v s) :
    Reads (F.THM_STAT.LEVEL q) v (thermCounted s q) :=
  holdCounts_reads q ((k.set_apart (F.THM_STAT.HOT q) _ rfl).set_apart (F.THM_STAT.TMAX q) _ rfl) _

theorem thermCounted_hot {s : State} (h : s.rwf) : Reads (F.THM_STAT.HOT q) (s.hottest q).1 (thermCounted s q) := by
  have hfits : (s.hottest q).1 % 2 ^ 8 = (s.hottest q).1 := Nat.mod_eq_of_lt (Nat.lt_trans (hottest_lt q s) (by decide))
  exact holdCounts_reads q ((reads_set h (F.THM_STAT.HOT q) _ rfl hfits).set_apart (F.THM_STAT.TMAX q) _ rfl) _

theorem thermStepped_level {s : State} (h : s.rwf) (legs : List (Int × Int)) :
    (thermStepped s q legs).get (F.THM_STAT.LEVEL q) = s.get (F.THM_STAT.LEVEL q) :=
  (thermCounted_level q ((thermModelled_reads q ⟨h, rfl⟩ legs).thermRated q rfl)).get

theorem thermStepped_hottest (s : State) (legs : List (Int × Int)) :
    (thermStepped s q legs).hottest q = (thermRated (thermModelled s q legs) q).hottest q := (thermCounted_heat q _).hottest

theorem thermRated_rwf {s : State} (h : s.rwf) : (thermRated s q).rwf := by
  rw [thermRated]
  split
  · exact State.set_rwf _ _ _ h
  · split
    · exact State.set_rwf _ _ _ h
    · exact h

theorem thermStepped_hot {s : State} (h : s.rwf) (legs : List (Int × Int)) :
    (thermStepped s q legs).get (F.THM_STAT.HOT q) = ((thermStepped s q legs).hottest q).1 % 32 := by
  have hmodel : (thermModelled s q legs).rwf := h
  have hlt := hottest_lt q (thermRated (thermModelled s q legs) q)
  rw [thermStepped_hottest, Nat.mod_eq_of_lt (Nat.lt_trans hlt (by decide))]
  exact (thermCounted_hot q (thermRated_rwf q hmodel)).get

theorem thermStepped_mem (s : State) (legs : List (Int × Int)) : (thermStepped s q legs).mem = s.mem :=
  (thermRated_mem q (thermModelled s q legs))

end

theorem thermalSteps : Claims.ThermalSteps := by
  intro q legs s hs
  have hwf := State.wf_rwf hs
  have hlevel := thermStepped_level q hwf legs
  refine ⟨thermStepped s q legs, ?_⟩
  intro level
  have hexec := thermalModelStep_eq q legs s
  rw [← thermStepped_hottest] at hexec
  refine ⟨hlevel, thermStepped_hot q hwf legs, thermStepped_mem q s legs, fun hlt => hexec.trans ?_,
    fun hle hne => hexec.trans ?_, fun hle heq => hexec.trans ?_⟩
  · exact next_if_pos _ _ (hlevel.symm ▸ hlt)
  · refine (next_if_neg _ _ (Nat.not_lt.2 (hlevel.symm ▸ hle))).trans (next_if_neg _ _ ?_)
    simp [hlevel, hne]
  · refine (next_if_neg _ _ (Nat.not_lt.2 (hlevel.symm ▸ hle))).trans (congrArg _ ?_)
    simp [hlevel, heq]

/-! ### The end of a level (R466, R468, R473) -/

section
variable {s : State} (q : Fin 7)

theorem levelLeft_held (h : 3 ≤ s.get (F.THM_STAT.LEVEL q)) (hres : (s.sectors[q]).cRes < 10000) :
    s.levelLeft q = s.get (F.THM_STAT.LEVEL q) := by
  refine if_pos ?_
  simp only [Bool.and_eq_true, decide_eq_true_eq]
  exact ⟨h, hres⟩

theorem levelLeft_limit (h : 2 ≤ s.get (F.THM_STAT.LEVEL q))
    (hres : s.get (F.THM_STAT.LEVEL q) < 3 ∨ 10000 ≤ (s.sectors[q]).cRes)
    (hwarm : (s.sectors[q]).c120 < 1000 ∨ s.is (F.THM_STAT.RATE q) = true) : s.levelLeft q = 2 := by
  refine (if_neg ?_).trans (if_pos ?_)
  · simp only [Bool.and_eq_true, decide_eq_true_eq]
    omega
  · simpa [h] using hwarm

theorem levelLeft_cool (hres : 10000 ≤ (s.sectors[q]).cRes) (h120 : 1000 ≤ (s.sectors[q]).c120)
    (h110 : 1000 ≤ (s.sectors[q]).c110) (hrate : s.is (F.THM_STAT.RATE q) = false) : s.levelLeft q = 0 := by
  refine (if_neg ?_).trans ((if_neg ?_).trans (if_neg ?_))
  · simp only [Bool.and_eq_true, decide_eq_true_eq]
    omega
  · simp only [hrate, Bool.or_false, Bool.and_eq_true, decide_eq_true_eq]
    omega
  · simp only [Bool.and_eq_true, decide_eq_true_eq]
    omega

/-- The conditions of the levels above n end. -/
def levelsEnd (s : State) (q : Fin 7) (n : Nat) : State :=
  [1, 2, 3, 4].foldl (fun s k => if n < k then s.deassertL (355 + q) k else s) (s.set (F.THM_STAT.LEVEL q) n)

/-- And throttling ends below LIMIT. -/
def levelLowered (s : State) (q : Fin 7) (n : Nat) : State :=
  if n < 2 then (levelsEnd s q n).setThrottle q false else levelsEnd s q n

theorem thermalLevelRelease_lowers (h : s.levelLeft q < s.get (F.THM_STAT.LEVEL q)) (h3 : s.get (F.THM_STAT.LEVEL q) < 3) :
    exec (.thermalLevelRelease q) s = .next ((levelLowered s q (s.levelLeft q)).thermLog q (s.levelLeft q) false) := by
  refine (next_if_neg _ _ (Nat.not_le.2 h)).trans (congrArg _ ((if_neg ?_).trans ?_))
  · simp only [Bool.and_eq_true, decide_eq_true_eq]
    omega
  · exact congrArg (fun t : State => t.thermLog q (s.levelLeft q) false) (if_neg (Nat.not_le.2 h3))

theorem mem_deassert_if {p : Prop} [Decidable p] {t : State} {src k : Nat} {a : Assert}
    (h : a ∈ (if p then t.deassertL src k else t).asserts) : a ∈ t.asserts ∧ (p → a.src = src → a.cond = k → a.forced = true)
        := by
  by_cases hp : p
  · rw [if_pos hp] at h
    exact ⟨(List.mem_filter.1 h).1, fun _ hsrc hcond => deassertL_forced h hsrc hcond⟩
  · rw [if_neg hp] at h
    exact ⟨h, fun hp' => absurd hp' hp⟩

theorem foldl_deassert_regs (n : Nat) (l : List Nat) : ∀ s : State,
    (l.foldl (fun s k => if n < k then s.deassertL (355 + q) k else s) s).regs = s.regs :=
  foldl_keeps State.regs (fun s k => by split <;> rfl) l

theorem foldl_deassert_asserts (n : Nat) (l : List Nat) : ∀ (s : State) (a : Assert),
    a ∈ (l.foldl (fun s k => if n < k then s.deassertL (355 + q) k else s) s).asserts →
    a ∈ s.asserts ∧ ∀ k ∈ l, n < k → a.src = 355 + q → a.cond = k → a.forced = true := by
  induction l with
  | nil => exact fun s a ha => ⟨ha, fun k hk => absurd hk List.not_mem_nil⟩
  | cons j l ih =>
    intro s a ha
    obtain ⟨hstep, htail⟩ := ih _ a ha
    obtain ⟨hs, hhead⟩ := mem_deassert_if hstep
    refine ⟨hs, fun k hk => ?_⟩
    rcases List.mem_cons.1 hk with rfl | hk
    · exact hhead
    · exact htail k hk

theorem setThrottle_asserts (s : State) (q : Nat) (on : Bool) : (s.setThrottle q on).asserts = s.asserts := by
  have hchargers := foldl_keeps State.asserts (g := fun s k => s.modCg k fun g => { g with throttle := on })
    (fun _ _ => rfl) (sectorChargers q) s
  simp only [State.setThrottle]
  split
  · exact (foldl_keeps State.asserts (g := fun s n => s.setb (F.SEQ_CL_STAT.THROTTLE n) on) (fun _ _ => rfl) _ _).trans
      hchargers
  · exact hchargers

theorem setThrottle_rd (s : State) (q : Nat) (on : Bool) {a : Nat} (ha : a < 0x70800) : (s.setThrottle q on).rd a = s.rd a :=
    by
  have hchargers := foldl_keeps (State.rd · a) (g := fun s k => s.modCg k fun g => { g with throttle := on })
    (fun _ _ => rfl) (sectorChargers q) s
  simp only [State.setThrottle]
  split
  · refine (foldl_keeps (State.rd · a) (g := fun s n => s.setb (F.SEQ_CL_STAT.THROTTLE n) on) (fun s n => ?_) _ _).trans
      hchargers
    refine State.set_rd_other _ _ _ _ ?_
    simp only [F.SEQ_CL_STAT.THROTTLE, R.SEQ_CL_STAT]
    omega
  · exact hchargers

theorem levelsEnd_level {n : Nat} (h : s.rwf) (hn : n < 8) : (levelsEnd s q n).get (F.THM_STAT.LEVEL q) = n :=
  ((reads_set h (F.THM_STAT.LEVEL q) n rfl (Nat.mod_eq_of_lt hn)).of_regs (foldl_deassert_regs q n [1, 2, 3, 4] _)).get

theorem levelsEnd_asserts {n : Nat} {a : Assert} (ha : a ∈ (levelsEnd s q n).asserts) :
    a ∈ s.asserts ∧ ∀ k ∈ [1, 2, 3, 4], n < k → a.src = 355 + q → a.cond = k → a.forced = true :=
  foldl_deassert_asserts q n [1, 2, 3, 4] (s.set (F.THM_STAT.LEVEL q) n) a ha

theorem levelLowered_level {n : Nat} (h : s.rwf) (hn : n < 8) : (levelLowered s q n).get (F.THM_STAT.LEVEL q) = n := by
  rw [levelLowered]
  split
  · refine (get_congr _ (setThrottle_rd _ _ _ ?_)).trans (levelsEnd_level q h hn)
    simp only [F.THM_STAT.LEVEL, R.THM_STAT]
    omega
  · exact levelsEnd_level q h hn

theorem levelLowered_asserts (n : Nat) : (levelLowered s q n).asserts = (levelsEnd s q n).asserts := by
  rw [levelLowered]
  split
  · exact setThrottle_asserts _ _ _
  · rfl

end

theorem thermalReleases : Claims.ThermalReleases := by
  intro q s hs old n
  have hwf := State.wf_rwf hs
  refine ⟨fun h => next_if_pos _ _ h, fun h h3 => ⟨levelLowered s q n, levelLowered_level q hwf ?_,
    thermalLevelRelease_lowers q h h3, fun k hnk hk a ha => ?_⟩, levelLeft_held q, levelLeft_limit q, levelLeft_cool q⟩
  · omega
  · rw [levelLowered_asserts] at ha
    exact (levelsEnd_asserts q ha).2 k (by simp only [List.mem_cons]; omega) hnk

/-! ### Throttle pauses (R468) -/

section
variable {s : State} (q : Fin 7)

theorem throttlePause_none (h : s.get (F.THM_STAT.LEVEL q) < 2 ∨ s.pausedIn q = true ∨ (q.val = 6 ∧ s.issueOwed = true)) :
    exec (.throttlePause q) s = .next s := next_if_pos _ _ (by simpa [or_assoc] using h)

theorem throttlePause_begins (h2 : 2 ≤ s.get (F.THM_STAT.LEVEL q)) (hp : s.pausedIn q = false)
    (ho : ¬ (q.val = 6 ∧ s.issueOwed = true)) : exec (.throttlePause q) s =
      let len := s.get F.THM_CFG.PAUSE_LEN
      let s1 : State := { s with paused := s.paused ++ [(q.val, len * 1000)] }
      .next (if q.val ≠ 6 then s1
        else (List.range 4).foldl (fun s n => (s.inc (F.SEQ_CL_PAUSE.PAUSES n)).inc (F.SEQ_CL_PAUSE.TIME n) len) s1) := by
  refine next_if_neg _ _ ?_
  simp only [hp, Bool.or_eq_true, Bool.and_eq_true, decide_eq_true_eq, beq_iff_eq, Bool.false_eq_true, or_false]
  rintro (hlow | howed)
  · omega
  · exact ho howed

/-- A cluster counts the pause and its time. -/
def clusterPaused (len : Nat) (s : State) (n : Nat) : State := (s.inc (F.SEQ_CL_PAUSE.PAUSES n)).inc (F.SEQ_CL_PAUSE.TIME n)
    len

theorem clusterPaused_count (len : Nat) {n v : Nat} (k : Reads (F.SEQ_CL_PAUSE.PAUSES n) v s) :
    Reads (F.SEQ_CL_PAUSE.PAUSES n) (min (v + 1) (2 ^ (F.SEQ_CL_PAUSE.PAUSES n).width - 1)) (clusterPaused len s n) :=
  (k.inc rfl).set_apart (F.SEQ_CL_PAUSE.TIME n) _ rfl

theorem clusterPaused_other (len : Nat) {n m v : Nat} (h : n ≠ m) (k : Reads (F.SEQ_CL_PAUSE.PAUSES n) v s) :
    Reads (F.SEQ_CL_PAUSE.PAUSES n) v (clusterPaused len s m) := by
  have hne : (F.SEQ_CL_PAUSE.PAUSES n).addr ≠ R.SEQ_CL_PAUSE m := by
    simp only [F.SEQ_CL_PAUSE.PAUSES, R.SEQ_CL_PAUSE]
    omega
  exact (k.set_other (F.SEQ_CL_PAUSE.PAUSES m) _ hne).set_other (F.SEQ_CL_PAUSE.TIME m) _ hne

theorem clustersPaused_counts (len : Nat) (h : s.rwf) {n : Nat} (hn : n < 4) :
    Reads (F.SEQ_CL_PAUSE.PAUSES n) (min (s.get (F.SEQ_CL_PAUSE.PAUSES n) + 1) (2 ^ (F.SEQ_CL_PAUSE.PAUSES n).width - 1))
      ((List.range 4).foldl (clusterPaused len) s) := by
  have hs : Reads (F.SEQ_CL_PAUSE.PAUSES n) (s.get (F.SEQ_CL_PAUSE.PAUSES n)) s := ⟨h, rfl⟩
  have hother := fun {t : State} {v m : Nat} (hm : n ≠ m) (k : Reads (F.SEQ_CL_PAUSE.PAUSES n) v t) =>
    clusterPaused_other (s := t) len hm k
  have hcount := fun {t : State} {v : Nat} (k : Reads (F.SEQ_CL_PAUSE.PAUSES n) v t) => clusterPaused_count (s := t) len k
  match n, hn with
  | 0, _ => exact hother (by decide) (hother (by decide) (hother (by decide) (hcount hs)))
  | 1, _ => exact hother (by decide) (hother (by decide) (hcount (hother (by decide) hs)))
  | 2, _ => exact hother (by decide) (hcount (hother (by decide) (hother (by decide) hs)))
  | 3, _ => exact hcount (hother (by decide) (hother (by decide) (hother (by decide) hs)))

theorem clustersPaused_kept (len : Nat) :
    ((List.range 4).foldl (clusterPaused len) s).paused = s.paused ∧
    ((List.range 4).foldl (clusterPaused len) s).threads = s.threads :=
  ⟨foldl_keeps State.paused (g := clusterPaused len) (fun _ _ => rfl) _ s,
    foldl_keeps State.threads (g := clusterPaused len) (fun _ _ => rfl) _ s⟩

/-- The pause is on, before the clusters count it. -/
def pauseBegun (s : State) (q : Nat) (len : Nat) : State := { s with paused := s.paused ++ [(q, len * 1000)] }

end

theorem throttlePauses : Claims.ThrottlePauses := by
  intro q s hs len hub
  have hwf := State.wf_rwf hs
  refine ⟨throttlePause_none q, fun h2 hp ho => ⟨fun hq => ?_, fun hq => ?_⟩⟩
  · exact (throttlePause_begins q h2 hp ho).trans (next_if_pos _ _ (Nat.ne_of_lt hq))
  · obtain ⟨hpaused, hthreads⟩ := clustersPaused_kept (s := pauseBegun s q len) len
    have hlist : (pauseBegun s q len).paused = s.paused ++ [(6, len * 1000)] := by rw [pauseBegun, hq]
    refine ⟨_, (throttlePause_begins q h2 hp ho).trans (next_if_neg _ _ (not_not.2 hq)), hpaused.trans hlist, hthreads, ?_,
      fun n hn => (clustersPaused_counts (s := pauseBegun s q len) len hwf hn).get⟩
    have hany : ((List.range 4).foldl (clusterPaused len) (pauseBegun s q len)).paused.any (fun x => x.1 == 6) = true := by
      rw [hpaused, hlist]
      simp
    exact hany

/-- Settles O51: the hottest junction gives the level; a step enters a higher level and never a lower one; a level falls with
its holds; and a pause begins from LIMIT on, once at a time. -/
theorem thermalManagement : Obligations.ThermalManagement :=
  ⟨thermalLevels, thermalSteps, thermalReleases, throttlePauses⟩

end Sys2Proof.Machine
end

section
/-!
The clock monitor (R476), the watchdog (R477 to R480), and the log in NOR (R475, R479, R481 to R483).
-/
namespace Sys2Proof.Machine

/-! ### The clock monitor (R476) -/

theorem foldl_halted_ch (c : Fin 24) (l : List (Fin 24)) : ∀ s : State,
    (l.foldl (fun (s : State) c => s.modCh c fun h => { h with stopF := true }) s).ch c =
      if c ∈ l then { s.ch c with stopF := true } else s.ch c := by
  induction l with
  | nil => exact fun s => (if_neg List.not_mem_nil).symm
  | cons e l ih =>
    intro s
    rw [List.foldl_cons, ih]
    by_cases hce : c = e
    · subst hce
      rw [State.modCh_ch, if_pos List.mem_cons_self]
      split <;> rfl
    · rw [State.modCh_ch_other _ _ _ _ hce]
      simp only [List.mem_cons, hce, false_or]

theorem clockMonitor : Claims.ClockMonitor := fun s => ⟨rfl, rfl, fun c l => foldl_halted_ch c l s⟩

/-! ### The watchdog (R477 to R480) -/

section
variable {s : State}

theorem wdtLoad_remain (h : s.rwf) : s.wdtLoad.get F.WDT_STAT.REMAIN = s.get F.WDT_CTRL.TIMEOUT := by
  have hlt : s.get F.WDT_CTRL.TIMEOUT < 2 ^ 13 := Nat.mod_lt _ (by decide)
  have hfits : s.get F.WDT_CTRL.TIMEOUT % 2 ^ 20 = s.get F.WDT_CTRL.TIMEOUT := Nat.mod_eq_of_lt (Nat.lt_trans hlt (by decide))
  exact (reads_set (s := { s with wdt := _ }) h F.WDT_STAT.REMAIN _ rfl hfits).get

theorem wdtLoad_other {f : Fld} (h : f.addr ≠ R.WDT_STAT) : s.wdtLoad.get f = s.get f :=
  State.get_set_other { s with wdt := { s.wdt with sub := 0 } } F.WDT_STAT.REMAIN f _ h

/-- The watchdog begins under SOFTWARE. -/
def wdtBegun (s : State) : State := (s.set F.WDT_CTRL.RUN 1).wdtLoad

theorem wdtStart_begins (h : s.is F.WDT_CTRL.MODE = true ∧ s.is F.WDT_CTRL.RUN = false) : s.wdtStart = wdtBegun s :=
  if_pos (by simp [h.1, h.2])

theorem wdtStart_stays (h : ¬ (s.is F.WDT_CTRL.MODE = true ∧ s.is F.WDT_CTRL.RUN = false)) : s.wdtStart = s :=
  if_neg (by simpa using h)

theorem wdtBegun_reads (h : s.rwf) : (wdtBegun s).get F.WDT_CTRL.RUN = 1 ∧
    (wdtBegun s).get F.WDT_STAT.REMAIN = s.get F.WDT_CTRL.TIMEOUT ∧ (wdtBegun s).wdt.sub = 0 := by
  refine ⟨(wdtLoad_other (by decide)).trans (reads_set h F.WDT_CTRL.RUN 1 rfl rfl).get, ?_, rfl⟩
  exact (wdtLoad_remain (s.set_rwf _ _ h)).trans (Reads.set_apart ⟨h, rfl⟩ F.WDT_CTRL.RUN 1 rfl).get

/-- An expiry is counted, and the timeout starts anew. -/
def wdtCounted (s : State) : State := (s.inc F.WDT_STAT.COUNT).set F.WDT_STAT.REMAIN (s.get F.WDT_CTRL.TIMEOUT)

/-- The expiry is logged and reported before the reset. -/
def wdtReported (s : State) : State :=
  ((wdtCounted s).log 0x08 [BitVec.ofNat 32 ((wdtCounted s).get F.WDT_STAT.COUNT), BitVec.ofNat 32 s.core]).raise (338 +
      s.core) 3

theorem wdtExpire_eq (s : State) : s.wdtExpire =
    State.countedReset { wdtReported s with wdt := { (wdtReported s).wdt with sub := 0 } } 6 := rfl

theorem report_rd (s : State) (r : Report) (a : Nat) : (s.report r).rd a = s.rd a := by
  simp only [State.rd, report_regs]

theorem wdtReported_count (h : s.rwf) :
    (wdtReported s).get F.WDT_STAT.COUNT = min (s.get F.WDT_STAT.COUNT + 1) 255 := by
  have hcounted : Reads F.WDT_STAT.COUNT (min (s.get F.WDT_STAT.COUNT + 1) 255) (wdtCounted s) :=
    (Reads.inc ⟨h, rfl⟩ rfl).set_apart F.WDT_STAT.REMAIN _ rfl
  refine (get_congr _ ?_).trans hcounted.get
  exact (report_rd _ _ _).trans (logRec_rd _ _ _ _ (by decide) (by decide))

theorem report_hub (r : Report) (h : srcLink r.src = none) : { r with atHub := true } ∈ (s.report r).reports := by
  simp only [State.report, h]
  exact List.mem_append_right _ List.mem_cons_self

theorem coreSource : ∀ k < 2, srcLink (338 + k) = none := by decide

theorem wdtReported_report (h : s.core < 2) : ∃ r ∈ (wdtReported s).reports, r.src = 338 + s.core ∧ r.cond = 3 :=
  ⟨_, report_hub _ (coreSource _ h), rfl, rfl⟩

theorem wdtKick_stranger {rq : Requester} (h : ∀ k, rq ≠ .mss k) (w : Word) : s.wdtKick rq w = s := by
  cases rq
  case mss k => exact absurd rfl (h k)
  all_goals rfl

end

theorem wdtAutostart_eq (s : State) : exec .wdtAutostart s = .next s.wdtStart := rfl

theorem wdtKick_core (k : Fin 2) (w : Word) (s : State) : exec (.wdtKick (.mss k) w) s =
    .next (if !s.is F.WDT_CTRL.RUN then s else if bitsOf w 15 0 = 0x5AC3 then s.wdtLoad else s.wdtExpire) := rfl

theorem setWdt_get (s : State) (x : Wdt) (f : Fld) : State.get { s with wdt := x } f = s.get f := rfl

theorem setWdt_reports (s : State) (x : Wdt) : State.reports { s with wdt := x } = s.reports := rfl

theorem watchdog : Claims.Watchdog := by
  intro rq k w s hs run starts loaded
  have hwf := State.wf_rwf hs
  obtain ⟨hrun, hloaded⟩ := wdtBegun_reads hwf
  refine ⟨fun h => (wdtKick_core k w s).trans (next_if_pos _ _ (by simpa using h)),
    fun h hkey => ⟨s.wdtLoad, (wdtKick_core k w s).trans ?_, ⟨wdtLoad_remain hwf, rfl⟩, rfl⟩,
    fun h hkey => (wdtKick_core k w s).trans ?_, fun h => congrArg Host.Outcome.next (wdtKick_stranger h w),
    fun hw => ⟨fun h => ⟨_, (next_if_pos _ _ hw).trans (congrArg _ (wdtStart_begins h)), hrun, hloaded⟩,
      fun h => (next_if_pos _ _ hw).trans (congrArg _ (wdtStart_stays h)), next_if_pos _ _ hw⟩,
    fun h => ⟨_, (wdtAutostart_eq s).trans (congrArg _ (wdtStart_begins h)), hrun, hloaded⟩,
    fun h => (wdtAutostart_eq s).trans (congrArg _ (wdtStart_stays h)),
    fun h hs => next_if_pos _ _ ?_, fun h => next_if_neg _ _ ?_, rfl,
    ⟨_, wdtExpire_eq s, (setWdt_get _ _ _).trans (wdtReported_count hwf), fun hcore => ?_⟩⟩
  · exact (next_if_neg _ _ (by simpa using h)).trans (next_if_pos _ _ hkey)
  · exact (next_if_neg _ _ (by simpa using h)).trans (next_if_neg _ _ hkey)
  · simp only [State.wdtRuns, hs, Bool.not_false, Bool.and_true]
    exact h
  · simp only [State.wdtRuns, Bool.and_eq_true, Bool.not_eq_true', not_and, Bool.not_eq_false]
    exact fun hr => h.resolve_left (by rw [show run = true from hr]; decide)
  · rw [setWdt_reports]
    exact wdtReported_report hcore

/-! ### The log in NOR (R475, R479, R481 to R483) -/

section
variable {s : State}

theorem logPageWrite_waits (ok : Bool) (h : s.logBuf.length < 4 ∨ s.mssDown = true ∨ s.nor.wait = true) :
    exec (.logPageWrite ok) s = .next s := next_if_pos _ _ (by simpa [or_assoc] using h)

/-- The page has left the buffer: it stands in NOR, or it is lost and reported. -/
def pageGone (s : State) (ok : Bool) : State :=
  let s1 : State := { s with logBuf := s.logBuf.drop 4 }
  if ok then { s1 with logNor := s1.logNor ++ s.logBuf.take 4 } else s1.raise 362 1

section
variable (hlen : 4 ≤ s.logBuf.length) (hdown : s.mssDown = false) (hwait : s.nor.wait = false)
include hlen hdown hwait

theorem logPageWrite_page (ok : Bool) (h : (s.logBuf.take 4).find? (fun r => r.seq % 4096 == 3072) = none) :
    exec (.logPageWrite ok) s = .next (pageGone s ok) := by
  have hexec : exec (.logPageWrite ok) s = execLogPageWrite ok s := rfl
  have hgo : ¬ (s.logBuf.length < 4 || s.mssDown || s.nor.wait) = true := by simp [hdown, hwait, hlen]
  simp only [hexec, execLogPageWrite, if_neg hgo, h]
  rfl

theorem logPageWrite_erases {r : LogRec} (ok : Bool) (h : (s.logBuf.take 4).find? (fun r => r.seq % 4096 == 3072) = some r)
    (hidle : s.nor.erase = none) :
    exec (.logPageWrite ok) s = .next ((pageGone s ok).norErase ((r.seq % 262144 / 4096 + 1) % 64)) := by
  have hexec : exec (.logPageWrite ok) s = execLogPageWrite ok s := rfl
  have hgo : ¬ (s.logBuf.length < 4 || s.mssDown || s.nor.wait) = true := by simp [hdown, hwait, hlen]
  simp only [hexec, execLogPageWrite, if_neg hgo, h, hidle, Option.isNone_none, if_true]
  rfl

end

theorem norErase_erase (k : Nat) : (s.norErase k).nor.erase = some k := by
  rw [State.norErase]
  split <;> rfl

theorem norErase_susp (k : Nat) (h : s.rwf) (hrun : s.is F.WDT_CTRL.RUN = true) : (s.norErase k).get F.WDT_STAT.SUSP = 1 := by
  rw [State.norErase, if_pos hrun]
  exact (reads_set (s := { s with nor := _, logNor := _ }) h F.WDT_STAT.SUSP 1 rfl rfl).get

/-- The sector's erase has ended, and with it the watchdog's suspension. -/
def eraseEnded (s : State) (k : Nat) : State :=
  (State.norErased { s with nor := { s.nor with erase := none, age := 0, wait := false } } k).set F.WDT_STAT.SUSP 0

theorem norEraseDone_none (h : s.nor.erase = none) : exec .norEraseDone s = .next s := by
  have hexec : exec .norEraseDone s = execNorEraseDone s := rfl
  rw [hexec, execNorEraseDone, h]

theorem norEraseDone_some {k : Nat} (h : s.nor.erase = some k) : exec .norEraseDone s = .next (eraseEnded s k) := by
  have hexec : exec .norEraseDone s = execNorEraseDone s := rfl
  rw [hexec, execNorEraseDone, h]
  rfl

theorem eraseEnded_susp (k : Nat) (h : s.rwf) : (eraseEnded s k).get F.WDT_STAT.SUSP = 0 :=
  (reads_set (State.set_rwf _ _ _ (State.set_rwf { s with nor := _ } _ _ h)) F.WDT_STAT.SUSP 0 rfl rfl).get

theorem eraseEnded_nor (k : Nat) : (eraseEnded s k).nor = { s.nor with
    erase := none, age := 0, wait := false, wear := s.nor.wear.set k (min (s.nor.wear.getD k 0 + 1) (2 ^ 32 - 1)) } := rfl

theorem eraseEnded_logNor (k : Nat) : (eraseEnded s k).logNor = s.logNor := rfl

end

theorem logPages : Claims.LogPages := by
  intro ok k s hs
  have hwf := State.wf_rwf hs
  refine ⟨logPageWrite_waits ok, fun hlen hdown hwait hno => ?_, fun r l hdown hwait hbuf hlen hseq hidle => ?_,
      norEraseDone_none,
    fun h => ⟨_, norEraseDone_some h, ?_, ?_, eraseEnded_susp k hwf, ?_, eraseEnded_logNor k⟩,
    fun h hdown => next_if_pos _ _ (by simp [h, hdown]), fun h => next_if_neg _ _ ?_⟩
  · have hfind : (s.logBuf.take 4).find? (fun r => r.seq % 4096 == 3072) = none :=
      List.find?_eq_none.2 fun r hr => by simpa using hno r hr
    exact ⟨logPageWrite_page hlen hdown hwait true hfind, logPageWrite_page hlen hdown hwait false hfind⟩
  · have hfind : (s.logBuf.take 4).find? (fun r => r.seq % 4096 == 3072) = some r := by
      rw [hbuf, List.take_succ_cons, List.find?_cons_of_pos (by simpa using hseq)]
    have hfour : 4 ≤ s.logBuf.length := by
      rw [hbuf, List.length_cons]
      omega
    exact ⟨_, logPageWrite_erases hfour hdown hwait true hfind hidle, norErase_erase _, norErase_susp (s := pageGone s true) _
        hwf⟩
  · rw [eraseEnded_nor]
  · rw [eraseEnded_nor]
  · rw [eraseEnded_nor]
  · rcases h with h | h <;> simp [h]

/-- Settles O52: the clock monitor halts every channel; a right kick restarts the watchdog and any other expires it; a page of
four records goes to NOR, and a sector's erase suspends the watchdog. -/
theorem watchdogAndLog : Obligations.WatchdogAndLog := ⟨clockMonitor, watchdog, logPages⟩

end Sys2Proof.Machine
end

section
/-!
Power-on reset, RESET_N and its release (R488 to R490), the steps of boot and READY (R492 to R497), and the requests of
RST_CTRL (R498 to R500).
-/
namespace Sys2Proof.Machine

/-! ### What a reset wipes (Table 19-5) -/

/-- From s to t only registers and the log buffer differ, and the registers keep their canonical form. -/
structure RegsAndLog (s t : State) : Prop where
  rest : { t with regs := s.regs, logBuf := s.logBuf } = s
  rwf  : s.rwf → t.rwf

section
variable {s t u : State}

theorem RegsAndLog.refl (s : State) : RegsAndLog s s := ⟨rfl, id⟩

theorem RegsAndLog.trans (h : RegsAndLog s t) (k : RegsAndLog t u) : RegsAndLog s u := by
  refine ⟨?_, fun w => k.rwf (h.rwf w)⟩
  have hst := h.rest
  have htu := k.rest
  rw [← htu] at hst
  exact hst

/-- A part of the state that is neither registers nor the log buffer. -/
theorem RegsAndLog.part {β : Type} (h : RegsAndLog s t) (p : State → β)
    (hp : ∀ r l, p { t with regs := r, logBuf := l } = p t) : p t = p s := (hp _ _).symm.trans (congrArg p h.rest)

theorem regsAndLog_wr (s : State) (a : Nat) (w : Word) : RegsAndLog s (s.wr a w) := ⟨rfl, s.wr_rwf a w⟩

theorem regsAndLog_set (s : State) (f : Fld) (v : Nat) : RegsAndLog s (s.set f v) := regsAndLog_wr s _ _

theorem regsAndLog_ite {p : Prop} [Decidable p] (s : State) (a : Nat) (w : Word) : RegsAndLog s (if p then s.wr a w else s) :=
    by
  split
  · exact regsAndLog_wr s a w
  · exact .refl s

theorem regsAndLog_foldl {α : Type} {g : State → α → State} (hg : ∀ s a, RegsAndLog s (g s a)) (l : List α) :
    ∀ s, RegsAndLog s (l.foldl g s) := by
  induction l with
  | nil => exact fun s => .refl s
  | cons a l ih => exact fun s => (hg s a).trans (ih _)

theorem regsAndLog_copyRegs (s old : State) (l : List (Nat × Word)) : RegsAndLog s (s.copyRegs old l) :=
  regsAndLog_foldl (fun _ _ => regsAndLog_wr _ _ _) l s

theorem regsAndLog_log (s : State) (kind : Nat) (data : List Word) : RegsAndLog s (s.log kind data) := by
  simp only [State.log, State.logRec]
  split
  · exact ⟨rfl, s.set_rwf _ _⟩
  · exact ⟨rfl, s.set_rwf _ _⟩

end

/-- Nothing of a reset reaches the queue of the simulator and the repair record. -/
structure RecordsKept (s t : State) : Prop where
  pending : t.pending = s.pending
  repairs : t.repairs = s.repairs

section
variable {s t u : State}

theorem RecordsKept.refl (s : State) : RecordsKept s s := ⟨rfl, rfl⟩

theorem RecordsKept.trans (h : RecordsKept s t) (k : RecordsKept t u) : RecordsKept s u :=
  ⟨k.pending.trans h.pending, k.repairs.trans h.repairs⟩

theorem recordsKept_foldl {α : Type} {g : State → α → State} (hg : ∀ s a, RecordsKept s (g s a)) (l : List α) :
    ∀ s, RecordsKept s (l.foldl g s) := by
  induction l with
  | nil => exact fun s => .refl s
  | cons a l ih => exact fun s => (hg s a).trans (ih _)

theorem recordsKept_closeAll (s : State) : RecordsKept s s.closeAll := by
  refine recordsKept_foldl (fun s i => ?_) _ s
  split
  · exact ⟨rfl, rfl⟩
  · exact .refl s

theorem recordsKept_ltReturn (s : State) (l i : Nat) : RecordsKept s (s.ltReturn l i) := by
  simp only [State.ltReturn]
  split <;> exact ⟨rfl, rfl⟩

theorem RegsAndLog.records (h : RegsAndLog s t) : RecordsKept s t :=
  ⟨h.part State.pending fun _ _ => rfl, h.part State.repairs fun _ _ => rfl⟩

theorem OnlyEvents.records (h : OnlyEvents s t) : RecordsKept s t :=
  ⟨by have hrest := congrArg State.pending h.rest; exact hrest, by have hrest := congrArg State.repairs h.rest; exact hrest⟩

theorem recordsKept_norAbandon (s : State) : RecordsKept s s.norAbandon := by
  rw [State.norAbandon]
  split
  · exact .refl s
  · refine .trans ?_ (onlyEvents_raise _ _ _ _ _).records
    refine .trans ?_ (regsAndLog_log _ _ _).records
    exact ⟨rfl, rfl⟩

theorem recordsKept_cgStop (s : State) (k : Fin 25) : RecordsKept s (s.cgStop k) := ⟨rfl, rfl⟩

end

/-- Nothing is in memory, recorded, in operation, open or streamed. -/
structure Wiped (t : State) : Prop where
  mem      : t.mem = []
  records  : t.records = []
  rings    : t.rings = []
  ops      : t.ops = []
  threads  : t.threads = State.reset.threads
  sessions : t.sessions = State.reset.sessions

theorem RegsAndLog.wiped {s t : State} (h : RegsAndLog s t) (k : Wiped s) : Wiped t := by
  obtain ⟨hmem, hrecords, hrings, hops, hthreads, hsessions⟩ := k
  exact ⟨(h.part State.mem fun _ _ => rfl).trans hmem, (h.part State.records fun _ _ => rfl).trans hrecords,
    (h.part State.rings fun _ _ => rfl).trans hrings, (h.part State.ops fun _ _ => rfl).trans hops,
    (h.part State.threads fun _ _ => rfl).trans hthreads, (h.part State.sessions fun _ _ => rfl).trans hsessions⟩

/-- A reset builds a new state, copies the registers that survive, and writes its cause; the RESET record follows. -/
theorem wipe_parts (s : State) (kind cause : Nat) : ∃ s3 : State,
    s.wipe kind cause = ((s3.set F.RST_CAUSE.KIND kind).set F.RST_CAUSE.CAUSE cause).log 0x04
      [BitVec.ofNat 32 kind, BitVec.ofNat 32 cause] ∧
    ∃ new : State, RegsAndLog new s3 ∧ new.regs = [] ∧ Wiped new ∧ RecordsKept s new := by
  have hold : RecordsKept s (s.ltMoved.foldl (fun s x => s.ltReturn x.1 x.2) s.closeAll) :=
    (recordsKept_closeAll s).trans (recordsKept_foldl (fun t (x : Nat × Nat) => recordsKept_ltReturn t x.1 x.2) _ _)
  refine ⟨_, rfl, ?_⟩
  refine ⟨_, .trans (regsAndLog_copyRegs _ _ _) (.trans (regsAndLog_copyRegs _ _ _)
    (.trans (regsAndLog_foldl (fun _ _ => regsAndLog_set _ _ _) _ _) (regsAndLog_ite _ _ _))), ?_⟩
  exact ⟨rfl, ⟨rfl, rfl, rfl, rfl, rfl, rfl⟩, hold.pending, hold.repairs⟩

section
variable (s : State) (kind cause : Nat)

theorem wipe_fields : ∃ new, RegsAndLog new (s.wipe kind cause) ∧ Wiped new ∧ RecordsKept s new := by
  obtain ⟨s3, heq, new, hnew, -, hwiped, hrecords⟩ := wipe_parts s kind cause
  rw [heq]
  exact ⟨new, hnew.trans (.trans (.trans (regsAndLog_set _ _ _) (regsAndLog_set _ _ _)) (regsAndLog_log _ _ _)), hwiped,
      hrecords⟩

theorem wipe_wiped : Wiped (s.wipe kind cause) := by
  obtain ⟨new, hnew, hwiped, -⟩ := wipe_fields s kind cause
  exact hnew.wiped hwiped

theorem recordsKept_wipe : RecordsKept s (s.wipe kind cause) := by
  obtain ⟨new, hnew, -, hrecords⟩ := wipe_fields s kind cause
  exact hrecords.trans hnew.records

theorem wipe_kind {kind : Nat} (hk : kind < 16) : (s.wipe kind cause).get F.RST_CAUSE.KIND = kind := by
  obtain ⟨s3, heq, new, hnew, hregs, -, -⟩ := wipe_parts s kind cause
  have hempty : new.rwf := by
    rw [State.rwf, hregs]
    rfl
  have hkind := (reads_set (hnew.rwf hempty) F.RST_CAUSE.KIND kind rfl (Nat.mod_eq_of_lt hk)).set_apart F.RST_CAUSE.CAUSE
      cause rfl
  rw [heq]
  exact (get_congr _ (logRec_rd _ _ _ _ (by decide) (by decide))).trans hkind.get

end

/-! ### Power-on reset and RESET_N (R488, R489, R335) -/

section
variable {s : State}

/-- Only the reset and boot part is another. -/
def withBoot (s : State) (b : Boot) : State := { s with boot := b }

theorem withBoot_get (s : State) (b : Boot) (f : Fld) : (withBoot s b).get f = s.get f := rfl

theorem withBoot_records (s : State) (b : Boot) : RecordsKept s (withBoot s b) := ⟨rfl, rfl⟩

theorem withBoot_wiped {s : State} (h : Wiped s) (b : Boot) : Wiped (withBoot s b) := by
  obtain ⟨hmem, hrecords, hrings, hops, hthreads, hsessions⟩ := h
  exact ⟨hmem, hrecords, hrings, hops, hthreads, hsessions⟩

/-- The part held by power-on reset. -/
def poweredOn (s : State) : State := withBoot (s.wipe 1 1) { (s.wipe 1 1).boot with por := true }

theorem powerOnReset_eq (s : State) : exec .powerOnReset s = .next (poweredOn s) := rfl

theorem clampI_lt (v : Int) : (clampI 0 1000000 v).toNat < 2 ^ 32 := by
  simp only [clampI]
  omega

/-- The state of charge by the voltage of PACK. -/
theorem powerOnSoc_reads (p : Nat) (h : s.rwf) {lo hi : Int} (hlo : (s.get (F.CG_V_PRE.VALUE 24) : Int) = lo)
    (hhi : (s.get (F.CG_V_CV.VALUE 24) : Int) = hi) : (s.powerOnSoc p).get F.PK_SOC.SOC =
      (clampI 0 1000000 (((p : Int) * 100 - lo) * 1000000 / max 1 (hi - lo))).toNat := by
  subst hlo hhi
  exact (reads_set h F.PK_SOC.SOC _ rfl (Nat.mod_eq_of_lt (clampI_lt _))).get

theorem clampI_low {v : Int} (h : v ≤ 0) : (clampI 0 1000000 v).toNat = 0 := by
  simp only [clampI]
  omega

theorem clampI_high {v : Int} (h : 1000000 ≤ v) : (clampI 0 1000000 v).toNat = 1000000 := by
  simp only [clampI]
  omega

theorem powerOnSoc_bounds (p : Nat) (h : s.rwf) :
    let lo : Int := s.get (F.CG_V_PRE.VALUE 24)
    let hi : Int := s.get (F.CG_V_CV.VALUE 24)
    lo < hi → ((p : Int) * 100 ≤ lo → (s.powerOnSoc p).get F.PK_SOC.SOC = 0) ∧
      (hi ≤ (p : Int) * 100 → (s.powerOnSoc p).get F.PK_SOC.SOC = 1000000) := by
  intro lo hi hlt
  have hspan : max 1 (hi - lo) = hi - lo := by omega
  have hpos : 0 < hi - lo := by omega
  have hsoc := powerOnSoc_reads p h (lo := lo) (hi := hi) rfl rfl
  rw [hspan] at hsoc
  refine ⟨fun hp => hsoc.trans (clampI_low ?_), fun hp => hsoc.trans (clampI_high ?_)⟩
  · exact Int.ediv_nonpos_of_nonpos_of_neg (by omega) hpos
  · rw [Int.le_ediv_iff_mul_le hpos]
    nlinarith

/-- The part after the reset that the pin orders. -/
def pinReset (s : State) : State := s.deviceReset 2 2

theorem recordsKept_pinReset : RecordsKept s (pinReset s) :=
  .trans (.trans (recordsKept_norAbandon s) (recordsKept_cgStop _ 24)) (recordsKept_wipe _ 2 2)

end

/-- The part held by the pin. -/
def pinHeld (s : State) : State := withBoot (pinReset s) { (pinReset s).boot with pin := true }

theorem resetNAssert_runs {s : State} (h : s.boot.por = false) : exec .resetNAssert s = .next (pinHeld s) :=
  congrArg (fun w : State => (Host.Outcome.next (withBoot w { w.boot with pin := true }) : Out)) (if_neg (by simp [h]))

theorem resetNAssert_held {s : State} (h : s.boot.por = true) :
    exec .resetNAssert s = .next (withBoot s { s.boot with pin := true }) :=
  congrArg (fun w : State => (Host.Outcome.next (withBoot w { w.boot with pin := true }) : Out)) (if_pos h)

theorem reset_sessions (k : Fin 16) : State.reset.sessions[k] = none := by
  revert k
  decide

theorem powerOnAndResetPin : Claims.PowerOnAndResetPin := by
  intro p a b s
  obtain ⟨hmem, -, -, hops, hthreads, -⟩ := withBoot_wiped (wipe_wiped s 1 1) { (s.wipe 1 1).boot with por := true }
  obtain ⟨pmem, -, -, pops, -, psessions⟩ := withBoot_wiped (wipe_wiped (s.norAbandon.cgStop 24) 2 2)
    { (pinReset s).boot with pin := true }
  refine ⟨⟨poweredOn s, powerOnReset_eq s, rfl, hmem, hops, hthreads, ?_, ?_⟩,
    fun hv hpor => next_if_pos _ _ (by simp [hv, hpor]), fun hs => powerOnSoc_bounds p (State.wf_rwf hs),
    fun h => next_if_neg _ _ ?_, resetNAssert_held, fun hpor => ⟨pinHeld s, resetNAssert_runs hpor, rfl, pmem, pops, ?_, fun k
        => ?_, ?_⟩⟩
  · exact ((recordsKept_wipe s 1 1).trans (withBoot_records _ _)).pending
  · exact (withBoot_get _ _ _).trans (wipe_kind s 1 (by decide))
  · rcases h with h | h
    · simp only [Bool.and_eq_true, decide_eq_true_eq]
      omega
    · simp [h]
  · exact (withBoot_get _ _ _).trans (wipe_kind _ 2 (by decide))
  · exact (congrArg (fun l : Vector (Option Session) 16 => l[k]) psessions).trans (reset_sessions k)
  · exact (recordsKept_pinReset.trans (withBoot_records _ _)).repairs

/-! ### The start of the MSS, and the steps of boot: what they keep -/

/-- Memory, and the reset and boot part. -/
structure BootKept (s t : State) : Prop where
  boot : t.boot = s.boot
  mem  : t.mem = s.mem

section
variable {a : Nat} {s t u : State}

theorem BootKept.refl (s : State) : BootKept s s := ⟨rfl, rfl⟩

theorem BootKept.trans (h : BootKept s t) (k : BootKept t u) : BootKept s u := ⟨k.boot.trans h.boot, k.mem.trans h.mem⟩

theorem bootKept_set (s : State) (f : Fld) (v : Nat) : BootKept s (s.set f v) := ⟨rfl, rfl⟩

theorem bootKept_ite {p : Prop} [Decidable p] (ht : BootKept s t) (hu : BootKept s u) : BootKept s (if p then t else u) := by
  split
  · exact ht
  · exact hu

theorem regKept_ite {p : Prop} [Decidable p] (ht : RegKept a s t) (hu : RegKept a s u) : RegKept a s (if p then t else u) := by
  split
  · exact ht
  · exact hu

theorem regKept_takeRoles (s : State) (hm : a ≠ R.MSS_STAT) (hu : a ≠ R.UCS_STAT) : RegKept a s s.takeRoles := by
  refine .trans ?_ (regKept_set _ F.UCS_STAT.CORE _ hu)
  refine .trans ?_ (regKept_ite (.refl _) (regKept_set _ F.MSS_STAT.CORE1 _ hm))
  exact regKept_ite (.refl s) (regKept_set s F.MSS_STAT.CORE0 0 hm)

theorem bootKept_takeRoles (s : State) : BootKept s s.takeRoles := by
  refine .trans ?_ (bootKept_set _ F.UCS_STAT.CORE _)
  refine .trans ?_ (bootKept_ite (.refl _) (bootKept_set _ F.MSS_STAT.CORE1 _))
  exact bootKept_ite (.refl s) (bootKept_set s F.MSS_STAT.CORE0 0)

theorem regKept_setUpd (s : State) (u : Update) : RegKept a s { s with upd := u } := regKept_of_regs rfl

theorem regKept_takePatch (s : State) (hp : a ≠ R.GLB_PATCH) (hu : a ≠ R.UCS_STAT) (hv : a ≠ R.GLB_PSET_VER) :
    RegKept a s s.takePatch := by
  simp only [State.takePatch]
  refine .trans ?_ (regKept_setUpd _ _)
  refine .trans ?_ (regKept_set _ F.GLB_PSET_VER.VERSION _ hv)
  refine .trans ?_ (regKept_set _ F.UCS_STAT.PATCHES _ hu)
  exact .trans (regKept_set s F.GLB_PATCH.NOPATCH _ hp) (regKept_set _ F.GLB_PATCH.PATCHES _ hp)

theorem bootKept_takePatch (s : State) : BootKept s s.takePatch := ⟨rfl, rfl⟩

theorem regKept_wdtLoad (s : State) (h : a ≠ R.WDT_STAT) : RegKept a s s.wdtLoad := by
  refine .trans ?_ (regKept_set _ F.WDT_STAT.REMAIN _ h)
  exact regKept_of_regs rfl

theorem bootKept_wdtLoad (s : State) : BootKept s s.wdtLoad := ⟨rfl, rfl⟩

theorem regKept_bootAt (s : State) (n : Nat) (hb : a ≠ R.BOOT_STAT) (hw : a ≠ R.WDT_STAT) : RegKept a s (s.bootAt n) := by
  have hstep := regKept_set s F.BOOT_STAT.STEP n hb
  exact regKept_ite (hstep.trans (regKept_wdtLoad _ hw)) hstep

theorem bootKept_bootAt (s : State) (n : Nat) : BootKept s (s.bootAt n) :=
  bootKept_ite (.trans (bootKept_set s F.BOOT_STAT.STEP n) (bootKept_wdtLoad _)) (bootKept_set s F.BOOT_STAT.STEP n)

/-- A field of BOOT_STAT other than STEP, or of another register, stays when a step begins. -/
theorem Reads.bootAt {g : Fld} {v : Nat} (k : Reads g v s) (n : Nat) (hb : F.BOOT_STAT.STEP.apart g = true)
    (hw : g.addr ≠ R.WDT_STAT) : Reads g v (s.bootAt n) := by
  have hset := k.set_apart F.BOOT_STAT.STEP n hb
  simp only [State.bootAt]
  split
  · exact (regKept_wdtLoad _ hw).reads rfl hset
  · exact hset

theorem bootAt_step (h : s.rwf) {n : Nat} (hn : n < 16) : (s.bootAt n).bootStep = n := by
  have hset := reads_set h F.BOOT_STAT.STEP n rfl (Nat.mod_eq_of_lt hn)
  simp only [State.bootAt]
  split
  · exact ((regKept_wdtLoad _ (by decide)).reads rfl hset).get
  · exact hset.get

theorem regKept_jtagSet (s : State) (ir : Nat) (h : a ≠ R.LT_JTAG) : RegKept a s (s.jtagSet ir) := by
  refine .trans ?_ (regKept_set _ F.LT_JTAG.ACTIVE _ h)
  refine .trans ?_ (regKept_set _ F.LT_JTAG.IR _ h)
  exact regKept_ite (regKept_of_regs rfl) (.refl s)

theorem bootKept_jtagSet (s : State) (ir : Nat) : BootKept s (s.jtagSet ir) := by
  refine .trans ?_ (bootKept_set _ F.LT_JTAG.ACTIVE _)
  refine .trans ?_ (bootKept_set _ F.LT_JTAG.IR _)
  exact bootKept_ite ⟨rfl, rfl⟩ (.refl s)

end

/-! ### The release of reset (R490, R427, R477) -/

section
variable {s : State} (st : Straps)

/-- The pin is released, and the TAP's instruction acts as it does outside reset. -/
def pinReleased (s : State) : State := (withBoot s { s.boot with pin := false }).jtagSet (s.get F.LT_JTAG.IR)

/-- The straps as they are sampled. -/
def strapped (s : State) (st : Straps) : State :=
  (((pinReleased s).setb F.BOOT_STRAP.NOPATCH st.b13).setb F.BOOT_STRAP.B14 st.b14).setb F.BOOT_STRAP.B15 st.b15

/-- The address of TW_M by the straps. -/
def strapAddr (st : Straps) : Nat := 0x58 + 2 * b2n st.b15 + b2n st.b14

/-- The MSS starts with the straps. -/
def mssStarted (s : State) (st : Straps) : State := ((strapped s st).set F.TW_STAT.ADDR (strapAddr st)).takeRoles.takePatch

/-- Under HARDWARE the watchdog runs. -/
def wdtArmed (s : State) (st : Straps) : State :=
  if s.boot.wdtSw then mssStarted s st else (mssStarted s st).set F.WDT_CTRL.RUN 1

theorem resetRelease_held (h : s.boot.por = true ∨ s.bootStep ≠ 0) : exec (.resetRelease st) s = .next s :=
  next_if_pos _ _ (by simpa using h)

theorem resetRelease_starts (hpor : s.boot.por = false) (hstep : s.bootStep = 0) :
    exec (.resetRelease st) s = .next ((wdtArmed s st).bootAt 1) := next_if_neg _ _ (by simp [hpor, hstep])

theorem withBoot_rwf {s : State} (h : s.rwf) (b : Boot) : (withBoot s b).rwf := h

theorem pinReleased_rwf (h : s.rwf) : (pinReleased s).rwf :=
  (regKept_jtagSet (a := R.BOOT_STAT) _ _ (by decide)).rwf (withBoot_rwf h _)

theorem b2n_fits (b : Bool) : b2n b % 2 ^ 1 = b2n b := by cases b <;> rfl

theorem strapped_nopatch (h : s.rwf) : Reads F.BOOT_STRAP.NOPATCH (b2n st.b13) (strapped s st) :=
  ((reads_set (pinReleased_rwf h) F.BOOT_STRAP.NOPATCH _ rfl (b2n_fits st.b13)).set_apart F.BOOT_STRAP.B14 _ rfl).set_apart
    F.BOOT_STRAP.B15 _ rfl

theorem strapped_kept : BootKept (withBoot s { s.boot with pin := false }) (strapped s st) :=
  (((bootKept_jtagSet _ _).trans (bootKept_set (pinReleased s) F.BOOT_STRAP.NOPATCH _)).trans
    (bootKept_set _ F.BOOT_STRAP.B14 _)).trans (bootKept_set _ F.BOOT_STRAP.B15 _)

theorem strapAddr_fits (st : Straps) : strapAddr st % 2 ^ 7 = strapAddr st := by
  have hall : ∀ a b : Bool, (0x58 + 2 * b2n a + b2n b) % 2 ^ 7 = 0x58 + 2 * b2n a + b2n b := by decide
  exact hall st.b15 st.b14

theorem mssStarted_addr (h : s.rwf) : Reads F.TW_STAT.ADDR (strapAddr st) (mssStarted s st) := by
  have hset := reads_set (strapped_nopatch st h).rwf F.TW_STAT.ADDR (strapAddr st) rfl (strapAddr_fits st)
  exact (regKept_takePatch _ (by decide) (by decide) (by decide)).reads rfl
    ((regKept_takeRoles _ (by decide) (by decide)).reads rfl hset)

theorem mssStarted_nopatch (h : s.rwf) : Reads F.BOOT_STRAP.NOPATCH (b2n st.b13) (mssStarted s st) :=
  (regKept_takePatch _ (by decide) (by decide) (by decide)).reads rfl
    ((regKept_takeRoles _ (by decide) (by decide)).reads rfl ((strapped_nopatch st h).set_other F.TW_STAT.ADDR _ (by decide)))

theorem mssStarted_kept : BootKept (withBoot s { s.boot with pin := false }) (mssStarted s st) :=
  (((strapped_kept st).trans (bootKept_set _ F.TW_STAT.ADDR _)).trans (bootKept_takeRoles _)).trans (bootKept_takePatch _)

theorem regKept_wdtArmed {a : Nat} (h : a ≠ R.WDT_CTRL) : RegKept a (mssStarted s st) (wdtArmed s st) :=
  regKept_ite (.refl _) (regKept_set _ F.WDT_CTRL.RUN 1 h)

theorem wdtArmed_kept : BootKept (withBoot s { s.boot with pin := false }) (wdtArmed s st) :=
  (mssStarted_kept st).trans (bootKept_ite (.refl _) (bootKept_set _ F.WDT_CTRL.RUN 1))

theorem wdtArmed_run (h : s.rwf) (hw : s.boot.wdtSw = false) : Reads F.WDT_CTRL.RUN 1 (wdtArmed s st) := by
  rw [wdtArmed, if_neg (by simp [hw])]
  exact reads_set (mssStarted_addr st h).rwf F.WDT_CTRL.RUN 1 rfl rfl

end

theorem resetIsReleased : Claims.ResetIsReleased := by
  intro st s hs
  have hwf := State.wf_rwf hs
  have haddr := (regKept_wdtArmed st (by decide)).reads rfl (mssStarted_addr st hwf)
  have hnopatch := (regKept_wdtArmed st (by decide)).reads rfl (mssStarted_nopatch st hwf)
  have hkept := (wdtArmed_kept (s := s) st).trans (bootKept_bootAt _ 1)
  refine ⟨resetRelease_held st, fun hpor hstep => ⟨_, resetRelease_starts st hpor hstep, bootAt_step haddr.rwf (by decide),
    congrArg Boot.pin hkept.boot, (hnopatch.bootAt 1 rfl (by decide)).get, (haddr.bootAt 1 rfl (by decide)).get,
    fun hw => ((regKept_bootAt _ 1 (by decide) (by decide)).reads rfl (wdtArmed_run st hwf hw)).get, hkept.mem⟩⟩

/-! ### The steps of boot (R492, R493, R494, R496) -/

section
variable {s : State} (f : BootFind)

/-- What the end of step n begins. -/
def bootNext (s : State) (f : BootFind) (n : Nat) : State :=
  match n with
  | 2 => (s.bootFuses f).bootAt 3
  | 3 => s.bootErase.bootAt 4
  | 4 => (s.bootBist f).bootAt 5
  | 5 => s.bootUp.bootAt 6
  | 7 => ((s.bootCal f).bootAt 8).bootReady f.ms
  | _ => s.bootAt (n + 1)

theorem bootStepDone_eq : exec (.bootStepDone f) s =
    .next (if s.bootStep = 0 || 8 ≤ s.bootStep || (s.bootStep = 6 && s.bootBusy) then s
      else if !f.ok || !s.mgtSet || (s.bootStep = 4 && f.banks.any fun b => b.val < 3) then s.set F.BOOT_STAT.STEP 15
      else bootNext s f s.bootStep) := rfl

theorem bootStepDone_waits (h : s.bootStep = 0 ∨ 8 ≤ s.bootStep ∨ (s.bootStep = 6 ∧ s.bootBusy = true)) :
    exec (.bootStepDone f) s = .next s :=
  (bootStepDone_eq f).trans (next_if_pos _ _ (by simpa [or_assoc] using h))

section
variable {n : Nat} (hn : s.bootStep = n) (h1 : 1 ≤ n) (h8 : n < 8) (hready : n = 6 → s.bootBusy = false)
include hn h1 h8 hready

theorem bootStepDone_over : ¬ (s.bootStep = 0 || 8 ≤ s.bootStep || (s.bootStep = 6 && s.bootBusy)) = true := by
  simp only [hn, Bool.or_eq_true, Bool.and_eq_true, decide_eq_true_eq]
  rintro ((h | h) | ⟨h, hbusy⟩)
  · omega
  · omega
  · exact Bool.false_ne_true ((hready h).symm.trans hbusy)

theorem bootStepDone_fails (h : ¬ (f.ok = true ∧ s.mgtSet = true) ∨ (n = 4 ∧ ∃ b ∈ f.banks, b.val < 3)) :
    exec (.bootStepDone f) s = .next (s.set F.BOOT_STAT.STEP 15) := by
  refine (bootStepDone_eq f).trans ((next_if_neg _ _ (bootStepDone_over hn h1 h8 hready)).trans (next_if_pos _ _ ?_))
  rcases h with h | ⟨h4, hbank⟩
  · cases hok : f.ok <;> cases hmgt : s.mgtSet <;> simp_all
  · simp [hn, h4, hbank]

theorem bootStepDone_goes (hgood : f.ok = true ∧ s.mgtSet = true) (hbank : n = 4 → f.banks = []) :
    exec (.bootStepDone f) s = .next (bootNext s f n) := by
  obtain ⟨hok, hmgt⟩ := hgood
  refine (bootStepDone_eq f).trans ((next_if_neg _ _ (bootStepDone_over hn h1 h8 hready)).trans
    ((next_if_neg _ _ ?_).trans (congrArg (fun k => (Host.Outcome.next (bootNext s f k) : Out)) hn)))
  by_cases h4 : n = 4
  · simp [hok, hmgt, hbank h4]
  · simp [hok, hmgt, hn, h4]

end

/-! #### What the fuses hold -/

/-- The serial number and the watchdog's mode. -/
def fusesRead (s : State) : State := (s.wr64 R.GLB_SERIAL_LO R.GLB_SERIAL_HI Config.serial).setb F.WDT_CTRL.MODE s.boot.wdtSw

/-- And the addresses of the host ports. -/
def fusesPut (s : State) (f : BootFind) : State :=
  let t := [0, 1].foldl (fun (s : State) p => s.wr64 (R.HST_MAC_LO p) (R.HST_MAC_HI p) (Config.mac p % 2 ^ 48 : Nat))
      (fusesRead s)
  withBoot t { t.boot with keyDoubt := f.keyBad }

theorem bootFuses_eq : s.bootFuses f = if f.fuseErr then ((fusesPut s f).set F.BOOT_STAT.FUSE_ERR 1).raise 363 1 else fusesPut
    s f := rfl

theorem regKept_fusesPut {a : Nat} (h : a < R.HST_MAC_LO 0 ∨ R.HST_MAC_HI 1 < a) : RegKept a (fusesRead s) (fusesPut s f) := by
  refine .trans (regKept_foldl _ (fun s p hp => regKept_wr64 s _ _ _ ?_ ?_) _) (regKept_of_regs rfl) <;>
    simp only [List.mem_cons, List.not_mem_nil, or_false, R.HST_MAC_LO, R.HST_MAC_HI] at h hp ⊢ <;> omega

theorem regKept_raise {a : Nat} (s : State) (src cond d0 : Nat) (d1 : Word) : RegKept a s (s.raise src cond d0 d1) :=
  regKept_of_regs (report_regs _ _)

theorem regKept_bootFuses {a : Nat} (h : a < R.HST_MAC_LO 0 ∨ R.HST_MAC_HI 1 < a) (hb : a ≠ R.BOOT_STAT) :
    RegKept a (fusesRead s) (s.bootFuses f) := by
  rw [bootFuses_eq]
  exact .trans (regKept_fusesPut f h) (regKept_ite (.trans (regKept_set _ F.BOOT_STAT.FUSE_ERR 1 hb) (regKept_raise _ _ _ _
      _)) (.refl _))

theorem fusesRead_serial (h : s.rwf) : (fusesRead s).rd64 R.GLB_SERIAL_LO R.GLB_SERIAL_HI = Config.serial % 2 ^ 64 := by
  have hset := s.rd64_wr64 R.GLB_SERIAL_LO R.GLB_SERIAL_HI Config.serial h (by decide)
  rw [pairNat_loWord_hiWord] at hset
  rw [← hset, State.rd64, State.rd64, fusesRead, State.setb, State.set_rd_other _ _ _ _ (by decide),
    State.set_rd_other _ _ _ _ (by decide)]

theorem fusesRead_mode (h : s.rwf) : Reads F.WDT_CTRL.MODE (b2n s.boot.wdtSw) (fusesRead s) :=
  reads_set (s.wr64_rwf _ _ _ h) F.WDT_CTRL.MODE _ rfl (b2n_fits _)

theorem bootFuses_err (h : s.rwf) (hbad : f.fuseErr = true) : Reads F.BOOT_STAT.FUSE_ERR 1 (s.bootFuses f) := by
  have hput : (fusesPut s f).rwf := (regKept_fusesPut f (a := R.BOOT_STAT) (by decide)).rwf (fusesRead_mode h).rwf
  rw [bootFuses_eq, if_pos hbad]
  exact (regKept_raise _ _ _ _ _).reads rfl (reads_set hput F.BOOT_STAT.FUSE_ERR 1 rfl rfl)

theorem bootAt_logBuf (s : State) (n : Nat) : (s.bootAt n).logBuf = s.logBuf := by
  simp only [State.bootAt]
  split <;> rfl

theorem bootErase_none (h : s.nor.marked = []) : s.bootErase = { s with nor := { s.nor with marked := [] } } := by
  simp only [State.bootErase, h]
  rfl

theorem bootErase_rwf (h : s.nor.marked = []) (hwf : s.rwf) : s.bootErase.rwf := by
  rw [bootErase_none h]
  exact hwf

/-! #### The march test -/

/-- A bank's domain is on. -/
def bankOn (s : State) (b : Nat) : State := s.set (domStat (82 + b)) 1

theorem bankStats_apart : ∀ j < 8, ∀ k < 8, j ≠ k → (domStat (82 + j)).apart (domStat (82 + k)) = true := by decide

theorem bankStats_inWord : ∀ k < 8, decide ((domStat (82 + k)).lo ≤ (domStat (82 + k)).hi ∧ (domStat (82 + k)).hi < 32) = true
    ∧
    1 % 2 ^ (domStat (82 + k)).width = 1 := by decide

theorem foldl_bankOn_keeps {k : Nat} (hk : k < 8) (l : List Nat) (hl : ∀ j ∈ l, j < 8) : ∀ s : State,
    Reads (domStat (82 + k)) 1 s → Reads (domStat (82 + k)) 1 (l.foldl bankOn s) := by
  induction l with
  | nil => exact fun _ h => h
  | cons j l ih =>
    intro s hs
    refine ih (fun x hx => hl x (List.mem_cons_of_mem _ hx)) _ ?_
    obtain ⟨hin, hone⟩ := bankStats_inWord k hk
    by_cases hjk : j = k
    · subst hjk
      exact reads_set hs.rwf _ 1 hin hone
    · exact hs.set_apart _ _ (bankStats_apart j (hl j List.mem_cons_self) k hk hjk)

theorem foldl_bankOn_on {k : Nat} (hk : k < 8) (l : List Nat) (hl : ∀ j ∈ l, j < 8) (hin : k ∈ l) : ∀ s : State, s.rwf →
    Reads (domStat (82 + k)) 1 (l.foldl bankOn s) := by
  induction l with
  | nil => exact absurd hin List.not_mem_nil
  | cons j l ih =>
    intro s hs
    have htail : ∀ x ∈ l, x < 8 := fun x hx => hl x (List.mem_cons_of_mem _ hx)
    obtain ⟨hword, hone⟩ := bankStats_inWord k hk
    rcases List.mem_cons.1 hin with rfl | hin
    · exact foldl_bankOn_keeps hk l htail _ (reads_set hs _ 1 hword hone)
    · exact ih htail hin _ (State.set_rwf _ _ _ hs)

theorem bootBist_clean (hbanks : f.banks = []) (h : ∀ b < 8, s.domFenced (82 + b) = false) :
    s.bootBist f = (List.range 8).foldl bankOn s := by
  have hbad : (List.range 8).filter (fun b => 3 ≤ b && f.banks.any fun x => x.val == b) = [] := by
    rw [List.filter_eq_nil_iff]
    simp [hbanks]
  have hall : (List.range 8).filter (fun b => !s.domFenced (82 + b)) = List.range 8 := by
    rw [List.filter_eq_self]
    exact fun b hb => by simp [h b (List.mem_range.1 hb)]
  simp only [State.bootBist, hbad, List.foldl_nil, hall]
  rfl

theorem bootBist_on (hwf : s.rwf) (hbanks : f.banks = []) (h : ∀ b < 8, s.domFenced (82 + b) = false) {b : Nat} (hb : b < 8) :
    Reads (domStat (82 + b)) 1 (s.bootBist f) := by
  rw [bootBist_clean f hbanks h]
  exact foldl_bankOn_on hb _ (fun j hj => List.mem_range.1 hj) (List.mem_range.2 hb) s hwf

theorem bankStat_addr : ∀ b < 8, (domStat (82 + b)).addr ≠ R.BOOT_STAT ∧ (domStat (82 + b)).addr ≠ R.WDT_STAT := by decide

end

theorem bootSteps : Claims.BootSteps := by
  intro f d s hs n good
  have hwf := State.wf_rwf hs
  have hgo : ∀ k, s.bootStep = k → k ∈ [1, 2, 3, 5, 7] → good → exec (.bootStepDone f) s = .next (bootNext s f k) := by
    intro k hn hk hg
    simp only [List.mem_cons, List.not_mem_nil, or_false] at hk
    exact bootStepDone_goes f hn (by omega) (by omega) (fun h6 => by omega) hg (fun h4 => by omega)
  refine ⟨bootStepDone_waits f, fun h1 h8 h6 hbad => bootStepDone_fails f rfl h1 h8 (fun h => absurd h h6) (.inl hbad),
    fun hn h => bootStepDone_fails f hn (by decide) (by decide) (fun h6 => by omega) (.inr ⟨rfl, h⟩),
    fun hn hg => hgo 1 hn (by decide) hg, fun hn hg => ⟨(s.bootFuses f).bootAt 3, hgo 2 hn (by decide) hg, ?_, ?_, ?_, fun
        herr => ?_⟩,
    fun hn hg hnone => ⟨s.bootErase.bootAt 4, hgo 3 hn (by decide) hg, ?_, ?_⟩,
    fun hn hg hb hfree => ⟨(s.bootBist f).bootAt 5, bootStepDone_goes f hn (by decide) (by decide) (fun h6 => by omega) hg
        (fun _ => hb), ?_, fun b hlt =>
        ?_⟩,
    fun hn hg => hgo 5 hn (by decide) hg,
    fun hn hb hg => bootStepDone_goes f hn (by decide) (by decide) (fun _ => hb) hg (fun h4 => by omega),
    fun hn hg => hgo 7 hn (by decide) hg,
    fun hn h => next_if_pos _ _ ?_, fun h => next_if_neg _ _ ?_, fun h => next_if_pos _ _ h, fun h => next_if_neg _ _ h⟩
  · exact bootAt_step ((regKept_bootFuses f (a := R.WDT_CTRL) (by decide) (by decide)).rwf (fusesRead_mode hwf).rwf) (by
      decide)
  · have hlo : RegKept R.GLB_SERIAL_LO (fusesRead s) ((s.bootFuses f).bootAt 3) :=
      (regKept_bootFuses f (by decide) (by decide)).trans (regKept_bootAt _ 3 (by decide) (by decide))
    have hhi : RegKept R.GLB_SERIAL_HI (fusesRead s) ((s.bootFuses f).bootAt 3) :=
      (regKept_bootFuses f (by decide) (by decide)).trans (regKept_bootAt _ 3 (by decide) (by decide))
    exact (congrArg₂ pairNat hlo.rd hhi.rd).trans (fusesRead_serial hwf)
  · exact ((regKept_bootAt _ 3 (by decide) (by decide)).reads rfl
      ((regKept_bootFuses f (by decide) (by decide)).reads rfl (fusesRead_mode hwf))).get
  · exact ((bootFuses_err f hwf herr).bootAt 3 rfl (by decide)).get
  · exact bootAt_step (bootErase_rwf hnone hwf) (by decide)
  · rw [bootAt_logBuf, bootErase_none hnone]
  · exact bootAt_step (bootBist_on f hwf hb hfree (b := 0) (by decide)).rwf (by decide)
  · obtain ⟨hboot, hwdt⟩ := bankStat_addr b hlt
    exact ((regKept_bootAt _ 5 hboot hwdt).reads rfl (bootBist_on f hwf hb hfree hlt)).get
  · simp only [Bool.and_eq_true, decide_eq_true_eq, Bool.not_eq_true']
    exact ⟨hn, h⟩
  · simp only [Bool.and_eq_true, decide_eq_true_eq, Bool.not_eq_true', not_and, Bool.not_eq_false]
    exact fun hn => h.resolve_left (not_not.2 hn)

/-! ### READY (R497) -/

section
variable {s : State} {a : Nat}

theorem regKept_clearShadows (s : State) (rq : Requester) : RegKept a s (s.clearShadows rq) := by
  simp only [State.clearShadows, State.modReq]
  exact regKept_of_regs rfl

theorem regKept_modThr (s : State) (t : Fin 64) (g : Thread → Thread) : RegKept a s (s.modThr t g) := regKept_of_regs rfl

theorem excSumBit_high (t : Fin 64) : 0x70000 ≤ (excSumBit t).addr := by
  simp only [excSumBit]
  split <;> simp only [R.SEQ_EXC_SUM_LO, R.SEQ_EXC_SUM_HI] <;> omega

theorem regKept_startThr (s : State) (t : Fin 64) (pc arg : Word) (h : a < 0x70000) : RegKept a s (s.startThr t pc arg) := by
  have hne : ∀ {b}, 0x70000 ≤ b → a ≠ b := fun hb => by omega
  have hthr : ∀ k, 0x70000 ≤ 0x70000 + k := fun k => Nat.le_add_right _ k
  simp only [State.startThr, State.setThrState]
  refine .trans ?_ (regKept_clearShadows _ _)
  refine .trans ?_ (regKept_set _ (F.SEQ_THR_STAT.WKIND t) _ (hne ?_))
  · refine .trans ?_ (regKept_set _ (F.SEQ_THR_STAT.STATE t) _ (hne ?_))
    · refine .trans ?_ (regKept_wr _ (R.SEQ_THR_PC t) _ (hne ?_))
      · refine .trans ?_ (regKept_set _ (excSumBit t) _ (hne (excSumBit_high t)))
        refine .trans (.trans (.trans (regKept_modThr s t _) (regKept_wr _ (R.SEQ_THR_EXC t) _ (hne ?_)))
          (regKept_wr _ (R.SEQ_THR_EPC t) _ (hne ?_))) (regKept_wr _ (R.SEQ_THR_EADDR t) _ (hne ?_))
        all_goals simp only [R.SEQ_THR_EXC, R.SEQ_THR_EPC, R.SEQ_THR_EADDR]; omega
      · simp only [R.SEQ_THR_PC]; omega
    · simp only [F.SEQ_THR_STAT.STATE, R.SEQ_THR_STAT]; omega
  · simp only [F.SEQ_THR_STAT.WKIND, R.SEQ_THR_STAT]; omega

theorem regKept_startSvcs (h : a < 0x70000) (old : List Nat) (l : List (Nat × Bool × Nat)) : ∀ s : State,
    RegKept a s (s.startSvcs old l) := by
  induction l with
  | nil => exact fun s => .refl s
  | cons x l ih =>
    intro s
    obtain ⟨i, on, t⟩ := x
    refine .trans ?_ (ih _)
    split
    · exact regKept_ite (regKept_startThr s _ _ _ h) (.refl s)
    · exact .refl s

theorem regKept_updSlow (s : State) (h : a ≠ R.UCS_STAT) : RegKept a s s.updSlow := by
  simp only [State.updSlow]
  exact regKept_ite (.trans (regKept_set s F.UCS_STAT.SLOW _ h) (regKept_assertL _ _ _ _ _))
    (.trans (regKept_set s F.UCS_STAT.SLOW _ h) (regKept_of_regs rfl))

/-- READY in boot's status, the pins and TW_M. -/
def readyMarked (s : State) (ms : Nat) : State :=
  (((s.set F.BOOT_STAT.STEP 8).set F.BOOT_STAT.TREADY (satU 16 ms)).set F.GLB_PINS.READY 1).set F.TW_STAT.READY 1

/-- The service threads that are enabled start. -/
def servicesUp (s : State) (ms : Nat) : State :=
  ((readyMarked s ms).startSvcs [] ((List.range 4).zip (readyMarked s ms).svcFields)).updSlow

theorem regKept_servicesUp (ms : Nat) (h : a < 0x60804) : RegKept a (readyMarked s ms) (servicesUp s ms) :=
  (regKept_startSvcs (by omega) _ _ _).trans (regKept_updSlow _ (by simp only [R.UCS_STAT]; omega))

theorem readyMarked_reads (h : s.rwf) (ms : Nat) : Reads F.BOOT_STAT.STEP 8 (readyMarked s ms) ∧
    Reads F.BOOT_STAT.TREADY (min ms 65535) (readyMarked s ms) ∧ Reads F.GLB_PINS.READY 1 (readyMarked s ms) ∧
    Reads F.TW_STAT.READY 1 (readyMarked s ms) := by
  have hfits : satU 16 ms % 2 ^ 16 = satU 16 ms := Nat.mod_eq_of_lt (by simp only [satU]; omega)
  have hstep := reads_set h F.BOOT_STAT.STEP 8 rfl rfl
  have htime := reads_set hstep.rwf F.BOOT_STAT.TREADY _ rfl hfits
  have hpin := reads_set htime.rwf F.GLB_PINS.READY 1 rfl rfl
  exact ⟨((hstep.set_apart _ _ rfl).set_other _ _ (by decide)).set_other _ _ (by decide),
    (htime.set_other _ _ (by decide)).set_other _ _ (by decide), hpin.set_other _ _ (by decide),
    reads_set hpin.rwf F.TW_STAT.READY 1 rfl rfl⟩

end

theorem readyShows : Claims.ReadyShows := by
  intro ms s hs
  obtain ⟨hstep, htime, hpin, htw⟩ := readyMarked_reads (State.wf_rwf hs) ms
  exact ⟨servicesUp s ms, rfl, ((regKept_servicesUp ms (by decide)).reads rfl hstep).get,
    ((regKept_servicesUp ms (by decide)).reads rfl htime).get, ((regKept_servicesUp ms (by decide)).reads rfl hpin).get,
    ((regKept_servicesUp ms (by decide)).reads rfl htw).get⟩

/-! ### The requests of RST_CTRL (R498 to R500) -/

/-- Memory, threads, channels, records and the cores. -/
structure MssKept (s t : State) : Prop where
  mem     : t.mem = s.mem
  threads : t.threads = s.threads
  chans   : t.chans = s.chans
  records : t.records = s.records
  mss     : t.mss = s.mss

section
variable {s t u : State}

theorem MssKept.refl (s : State) : MssKept s s := ⟨rfl, rfl, rfl, rfl, rfl⟩

theorem MssKept.trans (h : MssKept s t) (k : MssKept t u) : MssKept s u :=
  ⟨k.mem.trans h.mem, k.threads.trans h.threads, k.chans.trans h.chans, k.records.trans h.records, k.mss.trans h.mss⟩

theorem mssKept_set (s : State) (f : Fld) (v : Nat) : MssKept s (s.set f v) := ⟨rfl, rfl, rfl, rfl, rfl⟩

theorem mssKept_ite {p : Prop} [Decidable p] (ht : MssKept s t) (hu : MssKept s u) : MssKept s (if p then t else u) := by
  split
  · exact ht
  · exact hu

theorem mssKept_takeRoles (s : State) : MssKept s s.takeRoles := by
  refine .trans ?_ (mssKept_set _ F.UCS_STAT.CORE _)
  refine .trans ?_ (mssKept_ite (.refl _) (mssKept_set _ F.MSS_STAT.CORE1 _))
  exact mssKept_ite (.refl s) (mssKept_set s F.MSS_STAT.CORE0 0)

theorem mssKept_takePatch (s : State) : MssKept s s.takePatch := ⟨rfl, rfl, rfl, rfl, rfl⟩

theorem RegsAndLog.mssKept (h : RegsAndLog s t) : MssKept s t :=
  ⟨h.part State.mem fun _ _ => rfl, h.part State.threads fun _ _ => rfl, h.part State.chans fun _ _ => rfl,
    h.part State.records fun _ _ => rfl, h.part State.mss fun _ _ => rfl⟩

/-- The reset is counted and the watchdog unlocked. -/
def mssCounted (s : State) : State := (s.inc F.MSS_STAT.MSSRST).set F.WDT_CTRL.LOCK 0

/-- The cores have restarted without context. -/
def coresRestarted (s : State) : State := ((mssCounted s).restartCores.clearShadows (.mss 0)).clearShadows (.mss 1)

/-- The MSS waits for its start. -/
def mssWaits (s : State) : State :=
  { s with mssDown := true, nor := { s.nor with wait := s.nor.erase.isSome } }

theorem mssReset_runs (h : s.boot.pendDev = none) (cause : Nat) : s.mssReset cause =
    (mssWaits (coresRestarted s).takeRoles.takePatch).log 0x04 [4, BitVec.ofNat 32 cause] := if_neg (by simp [h])

theorem mssReset_pending (h : s.boot.pendDev.isSome = true) (cause : Nat) : s.mssReset cause = s := if_pos h

theorem mssKept_afterRestart (s : State) (cause : Nat) : MssKept (coresRestarted s)
    ((mssWaits (coresRestarted s).takeRoles.takePatch).log 0x04 [4, BitVec.ofNat 32 cause]) := by
  refine .trans ?_ (regsAndLog_log _ _ _).mssKept
  refine .trans ((mssKept_takeRoles _).trans (mssKept_takePatch _)) ?_
  exact ⟨rfl, rfl, rfl, rfl, rfl⟩

theorem coresRestarted_mss (s : State) : (coresRestarted s).mss = s.mss.map fun m => { ok := m.ok } := rfl

theorem mssCounted_count (h : s.rwf) :
    Reads F.MSS_STAT.MSSRST (min (s.get F.MSS_STAT.MSSRST + 1) (2 ^ F.MSS_STAT.MSSRST.width - 1)) (mssCounted s) :=
  (Reads.inc ⟨h, rfl⟩ rfl).set_other F.WDT_CTRL.LOCK 0 (by decide)

theorem regKept_restartCores (s : State) (a : Nat) : RegKept a s s.restartCores := regKept_of_regs rfl

theorem regKept_mssWaits (s : State) (a : Nat) : RegKept a s (mssWaits s) := regKept_of_regs rfl

/-- The roles of the cores leave the count of resets. -/
theorem Reads.takeRoles {v : Nat} (k : Reads F.MSS_STAT.MSSRST v s) : Reads F.MSS_STAT.MSSRST v s.takeRoles := by
  have h0 : Reads F.MSS_STAT.MSSRST v (if decide (s.get F.MSS_STAT.CORE0 = 2) then s else s.set F.MSS_STAT.CORE0 0) := by
    split
    · exact k
    · exact k.set_apart _ _ rfl
  refine Reads.set_other ?_ F.UCS_STAT.CORE _ (by decide)
  split
  · exact h0
  · exact h0.set_apart _ _ rfl

theorem mssReset_count (h : s.rwf) (cause : Nat) :
    ((mssWaits (coresRestarted s).takeRoles.takePatch).log 0x04 [4, BitVec.ofNat 32 cause]).get F.MSS_STAT.MSSRST =
      min (s.get F.MSS_STAT.MSSRST + 1) (2 ^ F.MSS_STAT.MSSRST.width - 1) := by
  have hcores : RegKept R.MSS_STAT (mssCounted s) (coresRestarted s) :=
    ((regKept_restartCores _ _).trans (regKept_clearShadows _ _)).trans (regKept_clearShadows _ _)
  have hroles := (hcores.reads rfl (mssCounted_count h)).takeRoles
  have hpatch := (regKept_takePatch _ (by decide) (by decide) (by decide)).reads rfl hroles
  exact (get_congr _ (logRec_rd _ _ _ _ (by decide) (by decide))).trans ((regKept_mssWaits _ _).reads rfl hpatch).get

theorem log_mssDown (s : State) (kind : Nat) (data : List Word) : (s.log kind data).mssDown = s.mssDown :=
  (regsAndLog_log s kind data).part State.mssDown fun _ _ => rfl

theorem resetDue_waits {cause : Nat} (h : s.boot.pendDev = some cause) :
    s.resetDue = if s.stopped then s.deviceReset 3 cause else s := by
  simp only [State.resetDue, h]

theorem resetDue_none (h : s.boot.pendDev = none) : s.resetDue = s := by
  simp only [State.resetDue, h]

end

theorem resetRequests : Claims.ResetRequests := by
  intro rq q c s hs
  refine ⟨fun hw => ⟨next_if_pos _ _ hw, fun hnone => ?_, fun hsome => (next_if_pos _ _ hw).trans (congrArg _
      (mssReset_pending hsome 3)),
    next_if_pos _ _ hw, next_if_pos _ _ hw⟩,
    fun hw => ⟨next_if_neg _ _ (by simp [hw]), next_if_neg _ _ (by simp [hw]), next_if_neg _ _ (by simp [hw]),
      next_if_neg _ _ (by simp [hw])⟩,
    fun cause h => ⟨fun hall => (resetDue_waits h).trans (if_pos hall), fun hall => (resetDue_waits h).trans (if_neg (by simp
        [hall]))⟩,
    resetDue_none, fun kind cause => ?_⟩
  · obtain ⟨hmem, hthreads, hchans, hrecords, hmss⟩ := mssKept_afterRestart s 3
    refine ⟨_, (next_if_pos _ _ hw).trans (congrArg _ (mssReset_runs hnone 3)), log_mssDown _ _ _, hmem, hthreads, hchans,
        hrecords,
      fun k => ?_, mssReset_count (State.wf_rwf hs) 3⟩
    rw [hmss, coresRestarted_mss]
    simp
  · obtain ⟨hmem, hrecords, hrings, -, -, -⟩ := wipe_wiped s kind cause
    obtain ⟨hpending, hrepairs⟩ := recordsKept_wipe s kind cause
    exact ⟨hmem, hrecords, hrings, hpending, hrepairs⟩

/-- Settles O53: a reset builds a new state and keeps the repair record; boot goes step by step and ends where one fails; READY
is shown; and an MSS-only reset keeps memory, threads and channels. -/
theorem resetsAndBoot : Obligations.ResetsAndBoot :=
  ⟨powerOnAndResetPin, resetIsReleased, bootSteps, readyShows, resetRequests⟩

end Sys2Proof.Machine
end

section
/-!
The state after power-on reset (R498, chapter 21's Reset columns).
-/
namespace Sys2Proof.Machine

/-- Only the log's next number and the cause of the reset differ from their Reset columns. -/
theorem reset_rd {a : Nat} (hlog : a ≠ R.LOG_STAT) (hcause : a ≠ R.RST_CAUSE) : State.reset.rd a = resetWord a :=
  (if_neg hlog).trans (if_neg hcause)

theorem resetState : Claims.ResetState :=
  ⟨by decide, by decide, by decide, by decide, fun _ => reset_rd, rfl, rfl, rfl, rfl, rfl, rfl, rfl, rfl, reset_sessions,
    by decide, by decide, rfl, by decide, rfl⟩

/-- Settles O2: the two registers that are listed hold the cause and the log's next number; every other part of the state has
its initial value. -/
theorem resetLeavesTheTables : Obligations.ResetLeavesTheTables := resetState

end Sys2Proof.Machine
end

section
/-!
Link tests (R503 to R508), their checkers, and the boundary-scan port (R509).
-/
namespace Sys2Proof.Machine

/-! ### A write of LT_CTRL (R503, R504, R507, R508) -/

section
variable {s : State} {g i : Nat} {w : Word}

/-- A value, a mode or a lane that LT_CTRL refuses. -/
def ltBad (g i : Nat) (w : Word) : Prop := ltCount g ≤ i ∨ ltAdmits g (bitsOf w 31 29) = false ∨ 5 < bitsOf w 23 20

/-- The word is in LT_CTRL; another test clears the checker's lock. -/
def ltWritten (s : State) (g i : Nat) (w : Word) : State :=
  let s1 := s.wr (R.LT_CTRL g i) (w &&& 0xE8F80000)
  if (s.rd (R.LT_CTRL g i) ^^^ w) &&& 0xE0F80000 = 0 then s1 else s1.set (F.LT_STAT.LOCK g i) 0

/-- And a test begins, or ends with END 1. -/
def ltChanged (s : State) (g i : Nat) (w : Word) : State :=
  if bitsOf w 31 29 ≠ 0 && !s.ltRuns g i then ((ltWritten s g i w).set (F.LT_STAT.RUN g i) 1).ltDisplace g i
  else if bitsOf w 31 29 = 0 && s.ltRuns g i then ((ltWritten s g i w).ltClose g i 1).ltResume g i
  else ltWritten s g i w

theorem ltCtrl_bad (h : ltBad g i w) : s.ltCtrl g i w = (stBadArg, s) := if_pos (by simpa [ltBad, or_assoc] using h)

theorem ltCtrl_unpermitted (h : ¬ ltBad g i w) (hmode : bitsOf w 31 29 ≠ 0) (hrun : s.ltRuns g i = false)
    (hno : s.ltPermit g i (bitOf w 27) = false) : s.ltCtrl g i w = (stDenied, s) :=
  (if_neg (by simpa [ltBad, or_assoc] using h)).trans (if_pos (by simp [hmode, hrun, hno]))

theorem ltCtrl_taken (h : ¬ ltBad g i w)
    (hyes : bitsOf w 31 29 = 0 ∨ s.ltRuns g i = true ∨ s.ltPermit g i (bitOf w 27) = true) (hinj : bitOf w 28 = false) :
    s.ltCtrl g i w = (stOk, ltChanged s g i w) := by
  refine (if_neg (by simpa [ltBad, or_assoc] using h)).trans ((if_neg ?_).trans ?_)
  · rcases hyes with h | h | h <;> simp [h]
  · exact congrArg (fun t => (stOk, t)) (if_neg (by simp [hinj]))

theorem ltWritten_rwf (h : s.rwf) : (ltWritten s g i w).rwf := by
  rw [ltWritten]
  split
  · exact s.wr_rwf _ _ h
  · exact State.set_rwf _ _ _ (s.wr_rwf _ _ h)

theorem ltStat_ne_ctrl (g i : Nat) : R.LT_CTRL g i ≠ R.LT_STAT g i := by
  simp only [R.LT_CTRL, R.LT_STAT]
  omega

theorem ltWritten_ctrl (h : s.rwf) : (ltWritten s g i w).rd (R.LT_CTRL g i) = w &&& 0xE8F80000 := by
  have hwr := s.rd_wr (R.LT_CTRL g i) (w &&& 0xE8F80000) h
  rw [ltWritten]
  split
  · exact hwr
  · exact (State.set_rd_other _ (F.LT_STAT.LOCK g i) 0 _ (ltStat_ne_ctrl g i)).trans hwr

theorem ltWritten_run (h : s.rwf) : Reads (F.LT_STAT.RUN g i) (s.get (F.LT_STAT.RUN g i)) (ltWritten s g i w) := by
  have hwr : Reads (F.LT_STAT.RUN g i) (s.get (F.LT_STAT.RUN g i)) (s.wr (R.LT_CTRL g i) (w &&& 0xE8F80000)) :=
    Reads.wr_other ⟨h, rfl⟩ _ _ (ltStat_ne_ctrl g i).symm
  rw [ltWritten]
  split
  · exact hwr
  · exact hwr.set_apart _ _ rfl

theorem ltWritten_ltRuns (h : s.rwf) : (ltWritten s g i w).ltRuns g i = s.ltRuns g i := (ltWritten_run h).is

theorem ltWritten_mem : (ltWritten s g i w).mem = s.mem := by
  rw [ltWritten]
  split <;> rfl

theorem ltChanged_same (h : (bitsOf w 31 29 = 0 ∧ s.ltRuns g i = false) ∨ (bitsOf w 31 29 ≠ 0 ∧ s.ltRuns g i = true)) :
    ltChanged s g i w = ltWritten s g i w := by
  rcases h with ⟨hmode, hrun⟩ | ⟨hmode, hrun⟩
  · exact (if_neg (by simp [hmode])).trans (if_neg (by simp [hrun]))
  · exact (if_neg (by simp [hrun])).trans (if_neg (by simp [hmode]))

/-- A leg's gate link displaces nothing. -/
theorem ltDisplace_leg (s : State) (hg : g = 3) (hi : i % 20 < 16) : s.ltDisplace g i = s := by
  unfold State.ltDisplace
  split
  · exact absurd hg (by decide)
  · exact absurd hg (by decide)
  · exact absurd hg (by decide)
  · split
    · exact if_neg (by simp [hi])
    · rfl

theorem ltChanged_leg (hmode : bitsOf w 31 29 ≠ 0) (hrun : s.ltRuns 3 i = false) (hi : i % 20 < 16) :
    ltChanged s 3 i w = (ltWritten s 3 i w).set (F.LT_STAT.RUN 3 i) 1 :=
  (if_pos (by simp [hmode, hrun])).trans (ltDisplace_leg _ rfl hi)

theorem ltClose_ends (h : s.rwf) {code : Nat} (hc : code < 4) : Reads (F.LT_STAT.END g i) code (s.ltClose g i code) ∧
    Reads (F.LT_STAT.RUN g i) 0 (s.ltClose g i code) ∧ Reads (F.LT_CTRL.MODE g i) 0 (s.ltClose g i code) ∧
    Reads (F.LT_STAT.LOCK g i) 0 (s.ltClose g i code) := by
  have hmode := reads_set h (F.LT_CTRL.MODE g i) 0 rfl rfl
  have hrun := reads_set hmode.rwf (F.LT_STAT.RUN g i) 0 rfl rfl
  have hlock := reads_set hrun.rwf (F.LT_STAT.LOCK g i) 0 rfl rfl
  have hne := ltStat_ne_ctrl g i
  exact ⟨reads_set hlock.rwf (F.LT_STAT.END g i) code rfl (Nat.mod_eq_of_lt hc),
    (hrun.set_apart _ _ rfl).set_apart _ _ rfl,
    ((hmode.set_other (F.LT_STAT.RUN g i) 0 hne).set_other (F.LT_STAT.LOCK g i) 0 hne).set_other (F.LT_STAT.END g i) code hne,
    hlock.set_apart _ _ rfl⟩

end

theorem linkTestControl : Claims.LinkTestControl := by
  intro rq l w s hs hw g i mode bad res
  have hwf := State.wf_rwf hs
  have hres : res = .next (s.ltCtrl g i w).2 := next_if_pos _ _ hw
  have htaken := fun (h : ¬ bad) hyes hinj => ltCtrl_taken (s := s) (g := g) (i := i) (w := w) h hyes hinj
  refine ⟨fun h => ?_, fun h hmode hrun hno => ?_, fun h hmode hrun hinj => ?_, fun h hmode hrun hinj => ?_,
    fun h hmode hrun hyes hinj => ?_, fun code hc => ?_⟩
  · rw [hres, ltCtrl_bad h]
    exact ⟨rfl, rfl⟩
  · rw [hres, ltCtrl_unpermitted h hmode hrun hno]
    exact ⟨rfl, rfl⟩
  · rw [hres, htaken h (.inl hmode) hinj, ltChanged_same (.inl ⟨hmode, hrun⟩)]
    exact ⟨_, rfl, ltWritten_ctrl hwf, (ltWritten_ltRuns hwf).trans hrun, rfl, ltWritten_mem⟩
  · rw [hres, htaken h (.inr (.inl hrun)) hinj, ltChanged_same (.inr ⟨hmode, hrun⟩)]
    exact ⟨_, rfl, ltWritten_ctrl hwf, (ltWritten_ltRuns hwf).trans hrun⟩
  · rw [hres, htaken h (.inr (.inr hyes)) hinj]
    refine ⟨rfl, fun hg _ hi => ⟨_, rfl, ?_⟩⟩
    rw [hg] at hrun ⊢
    rw [ltChanged_leg hmode hrun hi]
    exact ⟨(reads_set (ltWritten_rwf hwf) (F.LT_STAT.RUN 3 i) 1 rfl rfl).is,
      (State.set_rd_other _ _ _ _ (ltStat_ne_ctrl 3 i)).trans (ltWritten_ctrl hwf), ltWritten_mem⟩
  · obtain ⟨hend, hrun, hmode, hlock⟩ := ltClose_ends (g := g) (i := i) hwf hc
    exact ⟨hend.get, hrun.is, hmode.get, hlock.get⟩

/-! ### Checkers (R505, R506) -/

section
variable {s : State} {g i : Nat}

theorem ltInject_locked (hlock : s.is (F.LT_STAT.LOCK g i) = true)
    (hmode : s.get (F.LT_CTRL.MODE g i) = 3 ∨ s.get (F.LT_CTRL.MODE g i) = 4 ∨ s.get (F.LT_CTRL.MODE g i) = 5) :
    s.ltInject g i = s.inc (F.LT_ERR.ERR g i) := if_pos (by simpa [hlock] using hmode)

theorem ltInject_unlocked (hlock : s.is (F.LT_STAT.LOCK g i) = false) : s.ltInject g i = s := if_neg (by simp [hlock])

theorem ltChecks_engine (hi : i < ltCount g) (hrun : s.ltRuns g i = true) (hlo : 2 ≤ s.get (F.LT_CTRL.MODE g i))
    (hhi : s.get (F.LT_CTRL.MODE g i) ≤ 5) : s.ltChecks g i = true := by
  have hmode : s.get (F.LT_CTRL.MODE g i) ∈ [2, 3, 4, 5] := by
    simp only [List.mem_cons, List.not_mem_nil, or_false]
    omega
  simp only [State.ltChecks, hi, hrun, List.contains_iff_mem.2 hmode, decide_true, Bool.and_self]

theorem ltChecks_idle (h : ltCount g ≤ i ∨ s.ltRuns g i = false) : s.ltChecks g i = false := by
  rcases h with h | h
  · simp [State.ltChecks, Nat.not_lt.2 h]
  · simp [State.ltChecks, h]

/-- What the loss of lock leaves, with 64 errors counted. -/
def lockLost (s : State) (g i : Nat) : State :=
  ((s.set (F.LT_STAT.LOCK g i) 0).inc (F.LT_STAT.LOSS g i)).inc (F.LT_ERR.ERR g i) 64

theorem ltErr_ne_stat (g i : Nat) : R.LT_ERR g i ≠ R.LT_STAT g i := by
  simp only [R.LT_ERR, R.LT_STAT]
  omega

theorem lockLost_lock (h : s.rwf) : (lockLost s g i).get (F.LT_STAT.LOCK g i) = 0 :=
  (((reads_set h (F.LT_STAT.LOCK g i) 0 rfl rfl).set_apart (F.LT_STAT.LOSS g i) _ rfl).set_other (F.LT_ERR.ERR g i) _
    (ltErr_ne_stat g i).symm).get

theorem lockLost_err (h : s.rwf) : (lockLost s g i).get (F.LT_ERR.ERR g i) =
    min (s.get (F.LT_ERR.ERR g i) + 64) (2 ^ (F.LT_ERR.ERR g i).width - 1) := by
  have hkept : Reads (F.LT_ERR.ERR g i) (s.get (F.LT_ERR.ERR g i)) s := ⟨h, rfl⟩
  exact (((hkept.set_other (F.LT_STAT.LOCK g i) 0 (ltErr_ne_stat g i)).set_other (F.LT_STAT.LOSS g i) _
    (ltErr_ne_stat g i)).inc rfl).get

end

/-! ### The boundary-scan port (R509) -/

section
variable {s : State} {ir : Nat}

/-- Does the TAP take the instruction? -/
def tapTakes (s : State) (ir : Nat) : Bool :=
  ir == 1 || ir == 2 || ((ir == 3 || ir == 4 || ir == 5) && (!s.boot.prov || s.boot.pin)) || (ir == 0x20 && !s.boot.prov)

/-- The instruction that then stands in the TAP. -/
def tapIr (s : State) (ir : Nat) : Nat := if tapTakes s ir then ir else 0xFF

/-- Does it act on the part? -/
def tapActs (s : State) (ir : Nat) : Bool := tapTakes s ir && (ir == 3 || ir == 4 || ir == 5 || ir == 0x20)

theorem tapIr_fits (h : ir < 256) : tapIr s ir < 256 := by
  rw [tapIr]
  split <;> omega

theorem tapTakes_pins (h : ir = 3 ∨ ir = 4 ∨ ir = 5) : tapTakes s ir = (!s.boot.prov || s.boot.pin) := by
  rcases h with rfl | rfl | rfl <;> simp [tapTakes]

theorem tapTakes_bypass (h : 5 < ir) (hdbg : ir ≠ 0x20) : tapTakes s ir = false := by
  simp [tapTakes, show ir ≠ 1 by omega, show ir ≠ 2 by omega, show ir ≠ 3 by omega, show ir ≠ 4 by omega,
    show ir ≠ 5 by omega, hdbg]

theorem tapIr_taken (h : tapTakes s ir = true) : tapIr s ir = ir := if_pos h

theorem tapIr_refused (h : tapTakes s ir = false) : tapIr s ir = 0xFF := if_neg (by simp [h])

theorem tapActs_refused (h : tapTakes s ir = false) : b2n (tapActs s ir) = 0 := by simp [tapActs, h, b2n]

theorem tapActs_taken (h : tapTakes s ir = true) (hir : ir = 3 ∨ ir = 4 ∨ ir = 5 ∨ ir = 0x20) : b2n (tapActs s ir) = 1 := by
  rcases hir with rfl | rfl | rfl | rfl <;> simp [tapActs, h, b2n]

theorem jtagSet_reads (h : s.rwf) (hir : ir < 256) : Reads F.LT_JTAG.IR (tapIr s ir) (s.jtagSet ir) ∧
    Reads F.LT_JTAG.ACTIVE (b2n (tapActs s ir)) (s.jtagSet ir) := by
  have hclear : (if s.get F.LT_JTAG.IR = 0x20 && tapIr s ir ≠ 0x20 then s.clearShadows .dbg else s).rwf := by
    split
    · exact h
    · exact h
  have hset := reads_set hclear F.LT_JTAG.IR (tapIr s ir) rfl (Nat.mod_eq_of_lt (tapIr_fits hir))
  exact ⟨hset.set_apart F.LT_JTAG.ACTIVE _ rfl, reads_set hset.rwf F.LT_JTAG.ACTIVE _ rfl (b2n_fits _)⟩

theorem regs_tapCapture (s : State) : s.tapCapture.regs = s.regs := by
  simp only [State.tapCapture]
  split <;> rfl

theorem mem_tapCapture (s : State) : s.tapCapture.mem = s.mem := by
  simp only [State.tapCapture]
  split <;> rfl

theorem tapCapture_bypass (h : s.get F.LT_JTAG.IR = 0xFF) : s.tapCapture.boot.tapDr = [false] := by
  simp [State.tapCapture, h]

theorem tapCapture_idcode (h : s.get F.LT_JTAG.IR = 1) :
    s.tapCapture.boot.tapDr = (List.range 32).map (0x324604D3 : Word).getLsbD := by
  simp [State.tapCapture, h, idCode]

theorem tapCapture_sample (h : s.get F.LT_JTAG.IR = 2) : s.tapCapture.boot.tapDr = s.boundary.1 := by
  simp [State.tapCapture, h]

/-- The cells of the EVT lines. -/
def evtCells (s : State) : List Bool := (List.range 16).flatMap fun n =>
  [(s.get F.EVT_CFG.OE).testBit n, (s.get F.EVT_LVL.OUT).testBit n, (s.get F.EVT_LVL.PIN).testBit n]

theorem append_inner {α : Type} (a b c d e f x : List α) :
    a ++ b ++ c ++ d ++ e ++ f ++ x = a ++ (b ++ (c ++ (d ++ (e ++ f)))) ++ x := by simp only [List.append_assoc]

theorem boundary_cells (s : State) : ∃ l, s.boundary.1 = evtCells s ++ l ++ [!s.boot.pin] ∧ s.boundary.1.length = 83 :=
  ⟨_, append_inner _ _ _ _ _ _ _, by simp [State.boundary]⟩

theorem evtCells_congr {t : State} (hcfg : t.rd R.EVT_CFG = s.rd R.EVT_CFG) (hlvl : t.rd R.EVT_LVL = s.rd R.EVT_LVL) :
    evtCells t = evtCells s := by
  simp only [evtCells, get_congr F.EVT_CFG.OE hcfg, get_congr F.EVT_LVL.OUT hlvl,
    get_congr F.EVT_LVL.PIN hlvl]

end

theorem tapInstruction (ir : BitVec 8) {s : State} (h : s.rwf) :
    ∃ u, exec (.jtagInstructionUpdate ir) s = .next u ∧ u.mem = s.mem ∧
      (ir = 1 ∨ ir = 2 → u.get F.LT_JTAG.IR = ir.toNat ∧ u.get F.LT_JTAG.ACTIVE = 0) ∧
      (ir = 3 ∨ ir = 4 ∨ ir = 5 → s.boot.prov = false ∨ s.boot.pin = true →
        u.get F.LT_JTAG.IR = ir.toNat ∧ u.get F.LT_JTAG.ACTIVE = 1) ∧
      (ir = 3 ∨ ir = 4 ∨ ir = 5 → s.boot.prov = true → s.boot.pin = false →
        u.get F.LT_JTAG.IR = 0xFF ∧ u.get F.LT_JTAG.ACTIVE = 0) ∧
      (ir = 0x20 → s.boot.prov = true → u.get F.LT_JTAG.IR = 0xFF ∧ u.get F.LT_JTAG.ACTIVE = 0) ∧
      (ir = 0x20 → s.boot.prov = false → u.get F.LT_JTAG.IR = 0x20 ∧ u.get F.LT_JTAG.ACTIVE = 1) ∧
      (5 < ir.toNat → ir ≠ 0x20 → u.get F.LT_JTAG.IR = 0xFF ∧ u.boot.tapDr = [false]) ∧
      (ir = 1 → u.boot.tapDr = (List.range 32).map (0x324604D3 : Word).getLsbD) ∧
      (ir = 2 → ∃ l, u.boot.tapDr = evtCells s ++ l ++ [!s.boot.pin] ∧ u.boot.tapDr.length = 83) := by
  obtain ⟨hir, hactive⟩ := jtagSet_reads (ir := ir.toNat) h ir.isLt
  obtain ⟨hboot, hmem⟩ := bootKept_jtagSet s ir.toNat
  have hread := (hir.of_regs (regs_tapCapture _)).get
  have hacts := (hactive.of_regs (regs_tapCapture _)).get
  have htaken := fun (ht : tapTakes s ir.toNat = true) => hread.trans (tapIr_taken ht)
  have hrefused := fun (ht : tapTakes s ir.toNat = false) =>
    And.intro (hread.trans (tapIr_refused ht)) (hacts.trans (tapActs_refused ht))
  have hpins := fun (hp : ir = 3 ∨ ir = 4 ∨ ir = 5) =>
    tapTakes_pins (s := s) (hp.imp (congrArg BitVec.toNat) (.imp (congrArg BitVec.toNat) (congrArg BitVec.toNat)))
  refine ⟨_, rfl, (mem_tapCapture _).trans hmem, ?_, fun hp hon => ?_, fun hp hprov hpin => hrefused ?_, ?_, ?_,
    fun hlt hdbg => ?_, ?_, ?_⟩
  · rintro (rfl | rfl)
    · exact ⟨htaken rfl, hacts⟩
    · exact ⟨htaken rfl, hacts⟩
  · have ht : tapTakes s ir.toNat = true := (hpins hp).trans (by rcases hon with h | h <;> simp [h])
    refine ⟨htaken ht, hacts.trans (tapActs_taken ht ?_)⟩
    rcases hp with rfl | rfl | rfl <;> decide
  · rw [hpins hp, hprov, hpin]
    rfl
  · rintro rfl hprov
    exact hrefused (by simp [tapTakes, hprov])
  · rintro rfl hprov
    have ht : tapTakes s 0x20 = true := by simp [tapTakes, hprov]
    exact ⟨htaken ht, hacts.trans (tapActs_taken ht (.inr (.inr (.inr rfl))))⟩
  · have ht := tapTakes_bypass (s := s) hlt fun hne => hdbg (BitVec.eq_of_toNat_eq hne)
    exact ⟨(hrefused ht).1, tapCapture_bypass (hir.get.trans (tapIr_refused ht))⟩
  · rintro rfl
    exact tapCapture_idcode hir.get
  · rintro rfl
    obtain ⟨l, hcells, hlen⟩ := boundary_cells (s.jtagSet 2)
    have hevt : evtCells (s.jtagSet 2) = evtCells s :=
      evtCells_congr (regKept_jtagSet s 2 (by decide)).rd (regKept_jtagSet s 2 (by decide)).rd
    have hdr := tapCapture_sample (s := s.jtagSet 2) hir.get
    have hpin : (s.jtagSet 2).boot.pin = s.boot.pin := congrArg Boot.pin hboot
    rw [hevt, hpin] at hcells
    exact ⟨l, hdr.trans hcells, (congrArg List.length hdr).trans hlen⟩

theorem checkersAndTap : Claims.CheckersAndTap := by
  intro l ir s hs g i mode locked err
  have hwf := State.wf_rwf hs
  refine ⟨fun h => ⟨next_if_neg _ _ (Nat.not_lt.2 h), next_if_neg _ _ (ne_true_of_eq_false (ltChecks_idle (.inl h))),
    next_if_neg _ _ fun hc => absurd (of_decide_eq_true (Bool.and_eq_true_iff.1 hc).1) (Nat.not_lt.2 h)⟩,
    fun hi => ⟨fun hlock hmode => ?_, fun hlock => ⟨?_, ?_⟩, fun hrun hlo hhi => ?_, fun hrun => ?_,
      fun hlock hpat => ⟨lockLost s g i, ?_, lockLost_lock hwf, lockLost_err hwf⟩⟩, ?_⟩
  · exact (next_if_pos _ _ hi).trans (congrArg _ (ltInject_locked hlock hmode))
  · exact (next_if_pos _ _ hi).trans (congrArg _ (ltInject_unlocked hlock))
  · exact next_if_neg _ _ fun hc => Bool.noConfusion (hlock.symm.trans (Bool.and_eq_true_iff.1 hc).2)
  · exact next_if_pos _ _ (ltChecks_engine hi hrun hlo hhi)
  · exact next_if_neg _ _ (ne_true_of_eq_false (ltChecks_idle (.inr hrun)))
  · exact (next_if_pos _ _ (Bool.and_eq_true_iff.2 ⟨decide_eq_true hi, hlock⟩)).trans (congrArg _ (if_neg hpat))
  · exact tapInstruction ir hwf

/-- Settles O54: each write of LT_CTRL by its branch, each checker by what it tests, and the TAP by the instruction it
takes. -/
theorem linkTests : Obligations.LinkTests := ⟨linkTestControl, checkersAndTap⟩

end Sys2Proof.Machine
end

section
/-!
Mapped words that hold no register (R513).
-/
namespace Sys2Proof.Machine

section
variable {s : State} {rq : Requester} {a : Nat} {w : Word}

theorem readReg_reserved (hm : mapped a = true) (hd : regDef? a = none) : s.readReg rq a = (0, s) :=
  (if_neg (by simp [hm])).trans (if_pos (by simp [hd]))

theorem writeReg_reserved (hm : mapped a = true) (hd : regDef? a = none) : s.writeReg rq a w = s := by
  simp [State.writeReg, hm, hd]

/-- A write that its requester may make is the write of the register. -/
theorem registerWrite_writes (ha : a < 0x400000) (ha4 : a % 4 = 0) (hacc : s.mayAccess rq = true)
    (hw : mapped a = true → canWrite rq a = true) : exec (.registerWrite rq a w) s = .next (s.writeReg rq a w) := by
  refine (next_if_neg _ _ (by simp [ha, ha4, hacc])).trans (congrArg _ ?_)
  split
  · exact if_neg fun hc => by simp [hw (Bool.and_eq_true_iff.1 hc).1] at hc
  · rfl

theorem registerWrite_refused (h : a % 4 ≠ 0 ∨ 0x400000 ≤ a ∨ s.mayAccess rq = false) :
    exec (.registerWrite rq a w) s = .next s := next_if_pos _ _ (by simpa [or_assoc] using h)

theorem registerWrite_reserved (ha : a < 0x400000) (ha4 : a % 4 = 0) (hm : mapped a = true) (hd : regDef? a = none)
    (hw : canWrite rq a = true) : exec (.registerWrite rq a w) s = .next s := by
  cases hacc : s.mayAccess rq with
  | false => exact registerWrite_refused (.inr (.inr hacc))
  | true => exact (registerWrite_writes ha ha4 hacc fun _ => hw).trans (congrArg _ (writeReg_reserved hm hd))

end

/-! ### LW and SW at a reserved word (R233, R280) -/

section
variable {s : State} {x : Exec} {rd ra : Fin 32} {imm : BitVec 16} {a : Nat}

theorem took_ea : (s.took x).ea x ra imm = (s.g x ra + imm.signExtend 32).toNat := by
  simp only [State.ea, State.g, took_ctx, immS]

theorem took_unitBusy : (s.took x).unitBusy x a = s.unitBusy x a := by cases x <;> rfl

theorem took_opBusy (h : s.unitBusy x a = false) : (s.took x).opBusy x a = false :=
  (Bool.or_eq_false_iff.1 (took_unitBusy.trans h)).2

theorem lw_reserved (hrun : s.runs x = true) (hea : (s.g x ra + imm.signExtend 32).toNat = a) (hbusy : s.unitBusy x a = false)
    (ha : a < 0x400000) (ha4 : a % 4 = 0) (hm : mapped a = true) (hd : regDef? a = none) :
    exec (.lw x rd ra imm) s = .next (((s.took x).setG x rd 0).advance x) := by
  refine congrArg Host.Outcome.next ((issue_runs s x _ hrun).trans ?_)
  rw [took_ea, hea]
  refine (if_pos (by simp [ha, ha4])).trans ((if_neg (by simp [took_unitBusy, hbusy])).trans ?_)
  rw [readReg_reserved hm hd]

theorem sw_reserved (hrun : s.runs x = true) (hea : (s.g x ra + imm.signExtend 32).toNat = a) (hbusy : s.unitBusy x a = false)
    (ha : a < 0x400000) (ha4 : a % 4 = 0) (hm : mapped a = true) (hd : regDef? a = none) (hw : canWrite (rqOf x) a = true) :
    exec (.sw x rd ra imm) s = .next ((s.took x).advance x) := by
  refine congrArg Host.Outcome.next ((issue_runs s x _ hrun).trans ?_)
  rw [took_ea, hea]
  exact (if_pos (by simp [ha, ha4])).trans ((if_neg (by simp [hw])).trans ((if_neg (by simp [took_opBusy hbusy])).trans
    (writeReg_reserved hm hd)))

end

/-- Settles O55: no register lies at the word, so neither access has a branch that changes anything. -/
theorem reservedWordsReadZero : Obligations.ReservedWordsReadZero := by
  intro rq a w s ha ha4 hm hd
  exact ⟨readReg_reserved hm hd, registerWrite_reserved ha ha4 hm hd, fun x rd ra imm hrun hea hbusy =>
    ⟨lw_reserved hrun hea hbusy ha ha4 hm hd, sw_reserved hrun hea hbusy ha ha4 hm hd⟩⟩

end Sys2Proof.Machine
end

section
/-!
Register access: unmapped words, writes of registers that hold values, refusals, snapshot pairs, and the provisioning lock
(chapter 21).
-/
namespace Sys2Proof.Machine

/-! ### The records of an access error (R514, R517) -/

section
variable {s : State} {rq : Requester} {cause addr bit : Nat}

theorem accErr_req (s : State) (rq q : Requester) (cause addr : Nat) : (s.accErr rq cause addr).req q = s.req q := rfl

theorem accErr_addr (h : s.rwf) : (s.accErr rq cause addr).rd R.GLB_ACC_ADDR = BitVec.ofNat 32 addr :=
  State.rd_wr _ _ _ (State.set_rwf _ _ _ <| State.set_rwf _ _ _ <| State.set_rwf _ _ _ <| State.set_rwf _ _ _ <|
    State.set_rwf _ _ _ h)

theorem accErr_keeps {a : Nat} (he : a ≠ R.GLB_ACC_ERR) (ha : a ≠ R.GLB_ACC_ADDR) : RegKept a s (s.accErr rq cause addr) :=
  (((((regKept_set s F.GLB_ACC_ERR.VALID 1 he).trans (regKept_set _ F.GLB_ACC_ERR.CAUSE cause he)).trans
    (regKept_set _ F.GLB_ACC_ERR.KIND _ he)).trans (regKept_set _ F.GLB_ACC_ERR.INDEX _ he)).trans
    (regKept_set _ F.GLB_ACC_ERR.COUNT _ he)).trans (regKept_wr _ _ _ ha)

theorem accErr_valid (h : s.rwf) : (s.accErr rq cause addr).get F.GLB_ACC_ERR.VALID = 1 :=
  (((((reads_set h F.GLB_ACC_ERR.VALID 1 rfl rfl).set_apart F.GLB_ACC_ERR.CAUSE cause rfl).set_apart F.GLB_ACC_ERR.KIND _
    rfl).set_apart F.GLB_ACC_ERR.INDEX _ rfl).set_apart F.GLB_ACC_ERR.COUNT _ rfl |>.wr_other R.GLB_ACC_ADDR _ (by decide)).get

theorem accErr_cause (h : s.rwf) (hc : cause < 8) : (s.accErr rq cause addr).get F.GLB_ACC_ERR.CAUSE = cause :=
  ((((reads_set (State.set_rwf s F.GLB_ACC_ERR.VALID 1 h) F.GLB_ACC_ERR.CAUSE cause rfl (Nat.mod_eq_of_lt hc)).set_apart
    F.GLB_ACC_ERR.KIND _ rfl).set_apart F.GLB_ACC_ERR.INDEX _ rfl).set_apart F.GLB_ACC_ERR.COUNT _ rfl |>.wr_other
    R.GLB_ACC_ADDR _ (by decide)).get

theorem myStat_sets (h : bit < 32) : bitOf ((s.myStat rq bit).req rq).stat bit = true := by
  rw [State.myStat, State.modReq, setReq_req]
  refine (BitVec.getLsbD_or ..).trans ?_
  rw [BitVec.getLsbD_ofNat, Nat.testBit_two_pow_self, decide_eq_true h, Bool.and_self, Bool.or_true]

theorem myStat_rwf (h : s.rwf) : (s.myStat rq bit).rwf := h

end

/-! ### Unmapped words (R512, R514) -/

section
variable {s : State} {rq : Requester} {a : Nat} {w : Word}

theorem readReg_unmapped (hm : mapped a = false) : s.readReg rq a = (0, (s.myStat rq 30).accErr rq 1 a) :=
  if_pos (by simp [hm])

theorem writeReg_unmapped (hm : mapped a = false) : s.writeReg rq a w = (s.myStat rq 30).accErr rq 2 a :=
  if_pos (by simp [hm])

theorem registerWrite_unmapped (hm : mapped a = false) (ha4 : a % 4 = 0) (ha : a < 0x400000) (hacc : s.mayAccess rq = true) :
    exec (.registerWrite rq a w) s = .next ((s.myStat rq 30).accErr rq 2 a) :=
  (registerWrite_writes ha ha4 hacc fun h => by simp [hm] at h).trans (congrArg _ (writeReg_unmapped hm))

end

theorem unmappedAccess : Claims.UnmappedAccess := by
  intro rq a w s hs hm
  have hwf := myStat_rwf (rq := rq) (bit := 30) (State.wf_rwf hs)
  have hstat : bitOf ((s.myStat rq 30).req rq).stat 30 = true := myStat_sets (by decide)
  rw [readReg_unmapped hm]
  exact ⟨rfl, ⟨hstat, accErr_valid hwf, accErr_cause hwf (by decide), accErr_addr hwf⟩, fun ha4 ha hacc =>
    ⟨_, registerWrite_unmapped hm ha4 ha hacc, hstat, accErr_valid hwf, accErr_cause hwf (by decide), accErr_addr hwf, rfl,
      fun b he hb => (accErr_keeps he hb).rd⟩⟩

/-! ### Registers that hold values, and refusals (R517) -/

section
variable {s : State} {rq : Requester} {a : Nat} {w : Word} {d : RegDef}

theorem keepFields_ok (old w : Word) {l : List FldRule} (h : ∀ r ∈ l, r.ok w = true) : keepFields old w l = w := by
  induction l with
  | nil => rfl
  | cons r l ih =>
    have hr : keepFields old w (r :: l) = keepFields old w l := by simp [keepFields, h r (List.mem_cons_self ..)]
    exact hr.trans (ih fun q hq => h q (List.mem_cons_of_mem _ hq))

theorem putReg_ok (hw : wholeRefusal (regKey a).1 w = none) (h : ∀ r ∈ fldRules (regKey a).1, r.ok w = true) :
    s.putReg rq a d w = s.putFields a d w := by
  have hkeep : ((fldRules (regKey a).1).any fun r => !r.ok w && r.how == .keepC) = false :=
    List.any_eq_false.2 fun r hr => by simp [h r hr]
  simp only [State.putReg, hw, hkeep, keepFields_ok _ _ h, Bool.false_eq_true, if_false]

theorem putReg_refused (hw : wholeRefusal (regKey a).1 w = some .rej) : s.putReg rq a d w = s.rej rq a := by
  simp only [State.putReg, hw]

theorem putReg_refused_block (hw : wholeRefusal (regKey a).1 w = some .ignoreC) : s.putReg rq a d w = s.cfgRej a := by
  simp only [State.putReg, hw]

theorem putReg_ignored (hw : wholeRefusal (regKey a).1 w = some .ignore) : s.putReg rq a d w = s := by
  simp only [State.putReg, hw]

theorem opsFirst_none (s : State) (k : Nat) (h : s.ops = []) : s.opsFirst k = s := by
  simp only [State.opsFirst]
  split
  · simp [State.chanOps, h]
  · rfl

theorem writeReg_puts (hm : mapped a = true) (hd : regDef? a = some d) {t : State}
    (ht : t = if 0x200000 ≤ a ∧ a < 0x300000 then s.opsFirst (regKey a).2 else s) (hact : t.act? rq a d w = none) :
    s.writeReg rq a w = t.putReg rq a d w := by
  have ht' : t = if 0x200000 ≤ a && a < 0x300000 then s.opsFirst (regKey a).2 else s := by simpa using ht
  simp only [State.writeReg, hm, hd, ← ht', hact, Bool.not_true, Bool.false_eq_true, if_false]

theorem canWrite_of_not_thread (h : ∀ t, rq ≠ .thread t) : canWrite rq a = true := by
  cases rq with
  | thread t => exact absurd rfl (h t)
  | _ => rfl

end

theorem plainRegisterWrites : Claims.PlainRegisterWrites := by
  intro rq a w d s t hm ha4 ha hacc hd ht htw hact hwhole hok hrq
  have hput := (writeReg_puts hm hd ht hact).trans (putReg_ok hwhole hok)
  refine ⟨_, (registerWrite_writes ha ha4 hacc fun _ => canWrite_of_not_thread hrq).trans (congrArg _ hput),
    t.rd_wr _ _ (State.wf_rwf htw), fun b hb => t.rd_wr_other _ _ _ hb, rfl, fun hops => ?_⟩
  rw [ht]
  split
  · exact opsFirst_none s _ hops
  · rfl

theorem refusedRegisterWrites : Claims.RefusedRegisterWrites := by
  intro rq a w d t s hs
  have hwf := myStat_rwf (rq := rq) (bit := 28) (State.wf_rwf hs)
  refine ⟨registerWrite_refused, fun ha4 ha hm hno => ?_, putReg_refused, putReg_refused_block, putReg_ignored,
    myStat_sets (by decide), accErr_cause hwf (by decide), accErr_valid hwf⟩
  exact (next_if_neg _ _ (by simp [ha, ha4, State.mayAccess])).trans (congrArg _ (if_pos (by simp [hm, hno])))

/-! ### Snapshot pairs (R521 to R523) -/

section
variable {s : State} {rq : Requester} {a : Nat}

/-- Nothing but a draw of the values that the spec leaves open. -/
def OnlyDraws (s t : State) : Prop := ∃ n, t = { s with freeCtr := n }

theorem OnlyDraws.refl (s : State) : OnlyDraws s s := ⟨s.freeCtr, rfl⟩

theorem OnlyDraws.trans {t u : State} (h : OnlyDraws s t) (k : OnlyDraws t u) : OnlyDraws s u := by
  obtain ⟨m, rfl⟩ := h
  obtain ⟨n, rfl⟩ := k
  exact ⟨n, rfl⟩

theorem OnlyDraws.mem {t : State} (h : OnlyDraws s t) : t.mem = s.mem := by
  obtain ⟨n, rfl⟩ := h
  rfl

theorem OnlyDraws.rwf {t : State} (h : OnlyDraws s t) (hs : s.rwf) : t.rwf := by
  obtain ⟨n, rfl⟩ := h
  exact hs

theorem viewFree_draws (s : State) (w : Word) (hi lo : Nat) : OnlyDraws s (s.viewFree w hi lo).2 := ⟨s.freeCtr + 1, rfl⟩

theorem viewCh_draws (s : State) (c : Fin 24) (k : Nat) (w : Word) : OnlyDraws s (s.viewCh c k w).2 := by
  unfold State.viewCh
  split
  case h_5 | h_6 =>
    split
    · exact viewFree_draws s w _ _
    · exact .refl s
  all_goals exact .refl s

theorem viewWord_draws (s : State) (rq : Requester) (a : Nat) : OnlyDraws s (s.viewWord rq a).2 := by
  simp only [State.viewWord]
  split
  · split
    · exact viewCh_draws s _ _ _
    · exact .refl s
  · split
    · exact .refl s
    · split
      case h_4 => split <;> exact .refl s
      case h_15 | h_18 => exact viewFree_draws s _ _ _
      all_goals exact .refl s

theorem rclClear_mem (s : State) (a : Nat) : (s.rclClear a).mem = s.mem := by
  rw [State.rclClear]
  split
  · split <;> rfl
  · rfl

theorem rclClear_reqs (s : State) (a : Nat) : (s.rclClear a).reqs = s.reqs := by
  rw [State.rclClear]
  split
  · split <;> rfl
  · rfl

theorem req_of_reqs {t : State} (h : t.reqs = s.reqs) (q : Requester) : t.req q = s.req q := by simp only [State.req, h]

/-- No latch whose read acts is the LO word of a pair. -/
theorem isLo_key (h : isLo a = true) : (regKey a).1 ≠ 0x30110 ∧ (regKey a).1 ≠ 0x200030 ∧ (regKey a).1 ≠ 0x20060C := by
  simp only [isLo, Bool.and_eq_true] at h
  refine ⟨?_, ?_, ?_⟩
  all_goals
    intro hk
    rw [hk] at h
    exact absurd h.2 (by decide)

/-- Memory and the HI word kept for the requester are as they were. -/
def HiKept (rq : Requester) (s t : State) : Prop := t.mem = s.mem ∧ (t.req rq).rsh = (s.req rq).rsh

theorem readEffect_keeps (h : isLo a = true) : HiKept rq s (s.readEffect rq a) := by
  obtain ⟨hfd, hps, hln⟩ := isLo_key h
  simp only [State.readEffect]
  split
  case h_1 =>
    exact ⟨rfl, (congrArg ReqState.rsh (setReq_req s rq _)).trans rfl⟩
  case h_2 | h_3 => exact ⟨rfl, rfl⟩
  case h_4 hk => exact absurd hk hfd
  case h_5 hk => exact absurd hk hps
  case h_6 hk => exact absurd hk hln
  case h_7 => exact ⟨rclClear_mem s a, congrArg ReqState.rsh (req_of_reqs (rclClear_reqs s a) rq)⟩

theorem readLo_keeps_hi (h : isLo a = true) :
    ((s.readLo rq a).2.req rq).rsh = some (a, ((s.viewWord rq a).2.viewWord rq (a + 4)).1) :=
  (readEffect_keeps h).2.trans (congrArg ReqState.rsh (setReq_req _ rq _))

theorem readLo_mem (h : isLo a = true) : (s.readLo rq a).2.mem = s.mem :=
  (readEffect_keeps h).1.trans ((viewWord_draws s rq a).trans (viewWord_draws _ rq (a + 4))).mem

theorem readHi_pair {w : Word} (h : (s.req rq).rsh = some (a, w)) : s.readHi rq (a + 4) = (w, s) := by
  simp only [State.readHi, h, if_true]

/-- What a HI read with no LO read before it leaves. -/
def tornRead (s : State) (rq : Requester) (a : Nat) : State :=
  ((s.viewWord rq a).2.modReq rq fun x => { x with stat := tornStat x.stat }).accErr rq 5 a

theorem readHi_torn (h : (s.req rq).rsh = none) : s.readHi rq a = ((s.viewWord rq a).1, tornRead s rq a) := by
  simp only [State.readHi, h, tornRead]

theorem tornStat_torn (w : Word) : bitOf (tornStat w) 31 = true := by
  refine (BitVec.getLsbD_or ..).trans ?_
  rw [show ((BitVec.ofNat 32 (1 <<< 31) : Word) &&& BitVec.ofNat 32 ((2 ^ (31 - 31 + 1) - 1) <<< 31)).getLsbD 31 = true by
      decide,
    Bool.or_true]

theorem tornRead_stat : bitOf ((tornRead s rq a).req rq).stat 31 = true := by
  rw [tornRead, accErr_req, State.modReq, setReq_req]
  exact tornStat_torn _

theorem tornRead_cause (h : s.rwf) : (tornRead s rq a).get F.GLB_ACC_ERR.CAUSE = 5 :=
  accErr_cause ((viewWord_draws s rq a).rwf h) (by decide)

end

theorem snapshotPairs : Claims.SnapshotPairs := by
  intro rq a s hs hacc hlo lo hi
  have hread : exec (.snapshotLoRead rq a) s = .next (s.readLo rq a).2 := next_if_pos _ _ (by simp [hacc, hlo])
  have hhi : exec (.snapshotHiRead rq (a + 4)) s = .next (s.readHi rq (a + 4)).2 := next_if_pos _ _ (by simp [hacc, hlo])
  refine ⟨⟨_, hread, rfl, readLo_keeps_hi hlo, readLo_mem hlo⟩, fun w h => ?_, fun h => ⟨_, hhi, ?_⟩⟩
  · rw [hhi, readHi_pair h]
    exact ⟨rfl, rfl⟩
  · rw [readHi_torn h]
    exact ⟨rfl, tornRead_stat, tornRead_cause (State.wf_rwf hs)⟩

theorem snapshotGuardsAndClears : Claims.SnapshotGuardsAndClears := by
  intro rq a c s _
  refine ⟨fun h => next_if_neg _ _ (by rcases h with h | h <;> simp [h]),
    fun h => next_if_neg _ _ (by rcases h with h | h | h <;> simp [h]), fun _ => ⟨rfl, rfl, rfl, rfl⟩⟩

/-! ### The provisioning lock (R526 to R528) -/

section
variable {s : State} {rq : Requester} {k : Fin 4} {w : Word}

theorem provisioningLock_writes (hw : canWrite rq R.GLB_PROV_CTRL = true) (hacc : s.mayAccess rq = true) :
    exec (.provisioningLock rq w) s = .next (s.provWrite rq w) := next_if_pos _ _ (by simp [hw, hacc])

theorem provWrite_keyless (h : bitsOf w 31 16 ≠ 0x5052) : s.provWrite rq w = s.rej rq R.GLB_PROV_CTRL := if_pos h

theorem provWrite_idle (h : bitsOf w 31 16 = 0x5052) (hidle : bitOf w 0 = false ∨ s.boot.prov = true ∨ s.boot.pulses ≠ 0) :
    s.provWrite rq w = s :=
  (if_neg (not_not.2 h)).trans (if_pos (by rcases hidle with h | h | h <;> simp [h]))

theorem provWrite_blows (h : bitsOf w 31 16 = 0x5052) (hbit : bitOf w 0 = true) (hprov : s.boot.prov = false)
    (hp : s.boot.pulses = 0) : s.provWrite rq w =
      (withBoot s { s.boot with pulses := 1, provTry := true }).set F.GLB_PROV_STAT.BUSY 1 :=
  (if_neg (not_not.2 h)).trans (if_neg (by simp [hbit, hprov, hp]))

/-- A read that shows the row blown. -/
def provBlown (s : State) : State :=
  (withBoot s { s.boot with pulses := 0, prov := true }).set F.GLB_PROV_STAT.BUSY 0

/-- The last pulse left the row in doubt. -/
def provFailed (s : State) : State :=
  ((withBoot s { s.boot with pulses := 0 }).set F.GLB_PROV_STAT.BUSY 0).set F.GLB_PROV_STAT.FAIL 1

theorem provPulse_blown (hp : s.boot.pulses ≠ 0) : exec (.provPulseDone true false) s =
    .next (if (provBlown s).get F.LT_JTAG.IR = 0x20 then (provBlown s).jtagSet 0xFF else provBlown s) :=
  congrArg Host.Outcome.next ((if_neg hp).trans (if_pos rfl))

theorem provPulse_again (hp : s.boot.pulses ≠ 0) (hlt : s.boot.pulses < 4) (y : Bool) : exec (.provPulseDone false y) s =
    .next (withBoot s { s.boot with pulses := s.boot.pulses + 1 }) :=
  congrArg Host.Outcome.next ((if_neg hp).trans ((if_neg (by simp)).trans (if_pos (by simp [hlt]))))

theorem provPulse_fails (hp : 4 ≤ s.boot.pulses) (y : Bool) : exec (.provPulseDone false y) s = .next (provFailed s) :=
  congrArg Host.Outcome.next ((if_neg (by omega)).trans ((if_neg (by simp)).trans (if_neg (by simp [Nat.not_lt.2 hp]))))

theorem provFailed_stat (h : s.rwf) : (provFailed s).get F.GLB_PROV_STAT.BUSY = 0 ∧
    (provFailed s).get F.GLB_PROV_STAT.FAIL = 1 := by
  have hbusy := reads_set (withBoot_rwf h { s.boot with pulses := 0 }) F.GLB_PROV_STAT.BUSY 0 rfl rfl
  exact ⟨(hbusy.set_apart F.GLB_PROV_STAT.FAIL 1 rfl).get, (reads_set hbusy.rwf F.GLB_PROV_STAT.FAIL 1 rfl rfl).get⟩

theorem asset_word (k : Fin 4) : R.GLB_ASSET k < 0x400000 ∧ R.GLB_ASSET k % 4 = 0 ∧ mapped (R.GLB_ASSET k) = true ∧
    (regDef? (R.GLB_ASSET k)).isSome = true := by
  revert k
  decide

theorem asset_acts (d : RegDef) : s.act? rq (R.GLB_ASSET k) d w = some (s.assetWrite rq (R.GLB_ASSET k) w) := by
  match k with
  | 0 => rfl
  | 1 => rfl
  | 2 => rfl
  | 3 => rfl

theorem writeReg_acts {a : Nat} {t : State} (hm : mapped a = true) (hd : (regDef? a).isSome = true) (ha : a < 0x200000)
    (hact : ∀ d, s.act? rq a d w = some t) : s.writeReg rq a w = t := by
  obtain ⟨d, hd⟩ := Option.isSome_iff_exists.1 hd
  simp [State.writeReg, hm, hd, hact, Nat.not_le.2 ha]

theorem registerWrite_asset (hw : ∀ t, rq ≠ .thread t) (hacc : s.mayAccess rq = true) :
    exec (.registerWrite rq (R.GLB_ASSET k) w) s = .next (s.assetWrite rq (R.GLB_ASSET k) w) := by
  obtain ⟨ha, ha4, hm, hd⟩ := asset_word k
  exact (registerWrite_writes ha ha4 hacc fun _ => canWrite_of_not_thread hw).trans
    (congrArg _ (writeReg_acts hm hd (by simp only [R.GLB_ASSET]; omega) asset_acts))

theorem assetWrite_locked {a : Nat} (h : s.boot.prov = true) : s.assetWrite rq a w = (s.myStat rq 29).accErr rq 3 a := if_pos h

theorem assetWrite_open {a : Nat} (h : s.boot.prov = false) : s.assetWrite rq a w = s.wr a w := if_neg (by simp [h])

theorem asset_ne_accErr (k : Fin 4) : R.GLB_ASSET k ≠ R.GLB_ACC_ERR ∧ R.GLB_ASSET k ≠ R.GLB_ACC_ADDR := by
  simp only [R.GLB_ASSET, R.GLB_ACC_ERR, R.GLB_ACC_ADDR]
  omega

end

theorem provisioningLock : Claims.ProvisioningLock := by
  intro rq k w s hs hw hacc b
  have hwf := State.wf_rwf hs
  have hexec := provisioningLock_writes (w := w) hw hacc
  refine ⟨fun h => hexec.trans (congrArg _ (provWrite_keyless h)), fun h hidle => hexec.trans (congrArg _ (provWrite_idle h
      hidle)),
    fun h hbit hprov hp => ⟨_, hexec.trans (congrArg _ (provWrite_blows h hbit hprov hp)), rfl,
      (reads_set (withBoot_rwf hwf _) F.GLB_PROV_STAT.BUSY 1 rfl rfl).get⟩,
    fun h _ _ => next_if_pos _ _ h, fun hp => ⟨?_, fun hlt y => provPulse_again hp hlt y, fun h4 y =>
      ⟨_, provPulse_fails h4 y, rfl, rfl, provFailed_stat hwf⟩⟩, fun hrq => ⟨fun hprov => ?_, fun hprov =>
      (registerWrite_asset hrq hacc).trans (congrArg _ (assetWrite_open hprov))⟩⟩
  · have hbusy := reads_set (withBoot_rwf hwf { s.boot with pulses := 0, prov := true }) F.GLB_PROV_STAT.BUSY 0 rfl rfl
    refine ⟨_, provPulse_blown hp, ?_⟩
    split
    · have hboot := (bootKept_jtagSet (provBlown s) 0xFF).boot
      exact ⟨congrArg Boot.prov hboot, congrArg Boot.pulses hboot, ((regKept_jtagSet _ _ (by decide)).reads rfl hbusy).get⟩
    · exact ⟨rfl, rfl, hbusy.get⟩
  · obtain ⟨he, ha⟩ := asset_ne_accErr k
    refine ⟨_, (registerWrite_asset hrq hacc).trans (congrArg _ (assetWrite_locked hprov)), (accErr_keeps he ha).rd,
      myStat_sets (by decide), accErr_cause (myStat_rwf hwf) (by decide)⟩

/-- Settles O56: each access by the branch of its address, its word and its requester; what a refusal or an error records is
said once of `State.accErr`. -/
theorem registerAccessRules : Obligations.RegisterAccessRules :=
  ⟨unmappedAccess, plainRegisterWrites, refusedRegisterWrites, snapshotPairs, snapshotGuardsAndClears, provisioningLock⟩

end Sys2Proof.Machine
end
